-- ==== Sys2Proof/Word.lean ====
section
/-! DEFINITION. The unit's plainest data: bytes, and the numbers of a few fixed bounds. A register's contents, a count
or an instant is a `Nat` below the bound its width gives; `Byte` is what stands in a message, a memory or a record. -/

namespace Sys2Proof

/-- One byte of a message, a record or a memory. -/
abbrev Byte := BitVec 8

/-- A run of bytes, first byte first. -/
abbrev Bytes := List Byte

/-- `2 ^ 32`, the bound of a 32-bit count. -/
abbrev two32 : Nat := 4294967296

/-- `2 ^ 64`, the bound of a 64-bit count. -/
abbrev two64 : Nat := 18446744073709551616

/-- Nanoseconds in a second (R8). -/
abbrev nsPerSec : Nat := 1000000000

/-- The local clock wraps after `2 ^ 48` seconds (R262). -/
abbrev clockWrap : Nat := 281474976710656 * 1000000000

end Sys2Proof
end

