-- ==== Sys2Proof/Machine/OdTypes.lean ====
section
/-! DEFINITION. The shape of a row of the object dictionary: a type (R339), an access code (R12), a change class (R14),
a role (R15), a default and a range. -/

namespace Sys2Proof.Machine

/-- Type codes of Table 12.1. `u n` and `i n` are unsigned and signed numbers of `n` bytes. -/
inductive Ty where
  | bool | u (n : Nat) | i (n : Nat) | f32 | time80 | str (max : Nat) | oct (lo hi : Nat) | domain
  deriving DecidableEq, Repr

/-- Access codes of Table 0.5. -/
inductive Acc where
  | ro | rw | wo | rc | w1c | cmd
  deriving DecidableEq, Repr

/-- Change classes (R14); `none` is the dash of the tables (R11). -/
inductive Chg where
  | none | l | s | f
  deriving DecidableEq, Repr

/-- Roles, from lowest to highest (R15). -/
inductive Role where
  | observer | operator | installer | service
  deriving DecidableEq, Repr

/-- Ranges that depend on other fields, or that a rule states in words. -/
inductive Dyn where
  | sourceRef | modSource | paceStream | emitPhase | emitWin | poolLow | srcPos | etherType | lampOrAll
  deriving DecidableEq, Repr

/-- The legal values of a subindex. `num lo hi step` is a quantity, clamped by R17; `enum` and `span` are lists whose
outsiders get 0x0103 (R16, check 8); `mask m` is a field whose bits outside `m` are reserved (R5). -/
inductive Rng where
  | any
  | num (lo hi : Int) (step : Nat)
  | enum (l : List Nat)
  | span (lo hi : Nat)
  | mask (m : Nat)
  | dyn (d : Dyn)
  deriving DecidableEq, Repr

/-- One row of the object tables: objects `ix + stride * k` for `k < cnt`, subindices `sub` to `sub + subN - 1`.
`cairn` marks a field the specification stores in the cairn when written. -/
structure Obj where
  ix     : Nat
  stride : Nat
  cnt    : Nat
  sub    : Nat
  subN   : Nat
  ty     : Ty
  acc    : Acc
  role   : Role
  chg    : Chg
  dflt   : Nat
  rng    : Rng
  cairn  : Bool
  deriving DecidableEq, Repr

end Sys2Proof.Machine
end

