-- ==== Sys2Proof/Machine/StCore.lean ====
section
/-! DEFINITION. The state of the unit's core: pins, mode and boot, power, clock and tick, events, belay monitor, change
classes, sessions, transfers, local port, reports, topo and cairn. Every structure is plain data and every field has the
value it holds at `State.reset`. Registers of the object dictionary stand in the register map `State.regs`; what stands
here is the state the dictionary does not hold, or shows only as a view. -/

namespace Sys2Proof.Machine

/-- The six modes (Table 2.2). -/
inductive Mode where
  | reset | roping | staging | onShow | holdover | dark
  deriving DecidableEq, Repr

/-- Who makes an access: a network session, by its ID, or the local port (R12, R359). -/
inductive Origin where
  | session (id : Nat)
  | localPort
  deriving DecidableEq, Repr

/-- Where the boot sequence of R51 stands. `failed` is held in RESET with FAULT_N asserted; `hold` is the flash hold of
BOOT_SEL 0b11; `download` waits for an image over the local port (0b10). -/
inductive BootStage where
  | unpowered | held | rom | download | hold | verified | tested | failed | running
  deriving DecidableEq, Repr

/-- The output pins of the egress builders and the firebox as they stand between what these send; at first, and in RESET, as
Table 17.5 states them (R464). -/
structure OutPins where
  /-- STRnn_D_P, C_P, C_N and D_N of each strand port, from bit 3 down -/
  strands : List Nat := List.replicate 32 0
  /-- DMXn_DE, a mask -/
  dmxDe   : Nat := 0
  /-- the off level that the ROWG pins are driven to; none while they are of high impedance -/
  rows    : Option Bool := none
  /-- PWM commands on DPH0 upward: phases and FSW_KHZ; every other DPH pin is low -/
  phases  : Nat := 0
  khz     : Nat := 0
  deriving DecidableEq, Repr

/-- Input pins, as the filters pass them (R465). -/
structure PinSt where
  out      : OutPins := {}
  resetN   : Bool := false
  darkN    : Bool := true
  headEn   : Bool := false
  keyEn    : Bool := false
  bootSel  : Nat  := 0
  eci      : List Bool := [false, false, false, false]
  deriving DecidableEq, Repr

/-- A command of class L waiting for its boundary (R487). -/
structure LCmd where
  org : Origin
  ix  : Nat
  sub : Nat
  val : Bytes
  /-- time of effect when a timed write carried it, else 0 -/
  effect : Nat := 0
  deriving DecidableEq, Repr

/-- Operating mode and what its transitions wait for (R44 to R54). -/
structure ModeSt where
  mode       : Mode := .reset
  boot       : BootStage := .unpowered
  bootSel    : Nat := 0
  /-- elapsed CCLK at which RESET_N rose or the boot began anew: the limits of Table 2.8 run from it -/
  bootAt     : Nat := 0
  /-- REQ_SHOW commands carried out and not yet answered by a change of mode (R52) -/
  showReqs   : List LCmd := []
  /-- REQ_STAGING commands of this boundary, until its change of mode is decided (R48) -/
  stageReqs  : List LCmd := []
  /-- the first DARK cause recorded in ROPING (Table 2.4) -/
  darkRec    : Option Nat := none
  /-- the cause of a waiting change from ROPING to STAGING: 7 or 8 -/
  ropingEnd  : Option Nat := none
  /-- a waiting change to HOLDOVER, with its cause: 5 or 6 -/
  toHoldover : Option Nat := none
  /-- PTP lock regained in HOLDOVER, taken at the next boundary -/
  toShow     : Bool := false
  /-- FW_RESTART written: RESET at the next boundary (R365) -/
  fwRestart  : Bool := false
  /-- arming ticks still to run; none while no arming runs (R52) -/
  arming     : Option Nat := none
  armed      : Bool := false
  /-- a bit of SHOW_BLOCK has set since the arming under way began or took its last boundary (R52) -/
  armBroken  : Bool := false
  /-- instant of the boundary at which HOLDOVER was entered, moved with the steps of the clock (R47, R279) -/
  holdAt     : Int := 0
  /-- DARK has been entered since the last boundary (R48) -/
  darkNew    : Bool := false
  ev17       : Bool := false
  /-- EV17 has been raised since the time reference degraded (Table 15.1, class TIME_REF) -/
  refLimit   : Bool := false
  /-- elapsed CCLK from which PTP_WAIT is measured (R53) -/
  ptpWaitAt  : Option Nat := none
  ropingAt   : Nat := 0
  /-- ticks since the entry to STAGING or DARK in which sACN sends Stream_Terminated (R206) -/
  termTicks  : Nat := 0
  deriving DecidableEq, Repr

/-- The local clock (R262): nanoseconds since the PTP epoch, the fractional accumulator, the trim, and the CCLK count
since power-on, which sessions and timeouts run on (R279). -/
structure ClockSt where
  ns   : Nat := 0
  frac : Nat := 0
  trim : Int := 0
  cclk : Nat := 0
  deriving DecidableEq, Repr

/-- The tick generator (R41, R276): the instant and index of the next boundary. -/
structure TickSt where
  /-- instant of the boundary that began the current tick -/
  time     : Nat := 0
  nextTime : Nat := 16666666
  nextIdx  : Nat := 1
  /-- elapsed CCLK of that boundary -/
  cclk     : Nat := 0
  /-- the current tick is a realignment interval (R276) -/
  realign  : Bool := false
  /-- the next boundary begins a settling frame (R151) -/
  settleNext : Bool := false
  /-- the current raster is a settling frame -/
  settling : Bool := false
  /-- the current tick is a hold tick -/
  hold     : Bool := false
  /-- clock correction to apply at the next boundary, with the flag of an initial set (R275, R276) -/
  stepDue  : Option (Int × Bool) := none
  /-- this boundary has counted a raster start (R152) -/
  counted : Bool := false
  /-- a boundary's timed writes are due and its remaining work waits for them: the VLED_SNS mean it began with (R59) -/
  restVled : Option Nat := none
  /-- ticks since the last step, for STEPPED (R279) -/
  sinceStep : Nat := 1000
  deriving DecidableEq, Repr

/-- Power (R451 to R456): the state of each domain, the rails and the die temperatures as last measured. -/
structure PowerSt where
  /-- DOMAIN_STATE of PD0 to PD9, Table 16.4 -/
  dom     : List Nat := [0, 0, 0, 0, 0, 0, 0, 0, 0, 0]
  /-- elapsed CCLK at which each domain last started to switch on -/
  since   : List Nat := [0, 0, 0, 0, 0, 0, 0, 0, 0, 0]
  /-- rail codes beyond their warning band, whose EV61 has been raised -/
  warned  : List Nat := []
  /-- of those, the ones measured back inside the band, with the elapsed CCLK since when -/
  inBand  : List (Nat × Nat) := []
  /-- rails outside their recommended range -/
  outOf   : List Nat := []
  /-- elapsed CCLK at which the last rail entered its range (R461) -/
  railsAt : Nat := 0
  /-- dies above their grade's maximum since they last fell below it by 10 °C, a mask -/
  overTemp : Nat := 0
  /-- highest die temperature of the running hour, in 1/16 °C, for LIFE_USED (R484), and the elapsed CCLK of its end -/
  hourPeak : Int := -32768
  lifeAt   : Nat := 3600000000000
  /-- LIFE_USED with its fraction, in units of 10^-12 -/
  lifeAcc  : Nat := 0
  fbxLow   : Bool := false
  deriving DecidableEq, Repr

/-- An event record (Table 16.2). -/
structure EvRec where
  ev      : Nat
  merged  : Bool
  time    : Nat
  tick    : Nat
  payload : Bytes
  deriving DecidableEq, Repr

/-- The event unit (R443 to R449). -/
structure EvSt where
  queue  : List EvRec := []
  /-- (event, queue) pairs whose merged record of this tick has been pushed (R444) -/
  merged : List (Nat × Nat) := []
  /-- F-routed pending events acknowledged by FAULT_ACK (R448), a mask -/
  fAcked : Nat := 0
  /-- pending bits set in elapsed CCLK `freshAt`: a write or FAULT_ACK in that CCLK does not touch them (R13, R448, R449) -/
  fresh  : Nat := 0
  freshAt : Nat := 0
  deriving DecidableEq, Repr

/-- A fault record (Table 15.7). -/
structure FaultRec where
  cls      : Nat
  sev      : Nat
  reaction : Nat
  count    : Nat
  time     : Nat
  tick     : Nat
  frame    : Nat
  mode     : Nat
  flags    : Nat
  source   : Nat
  detail   : Nat
  lastTime : Nat
  rseq     : Nat
  deriving DecidableEq, Repr

/-- A pending fault or one whose reaction is under way (R421 to R424). `stage`: 0 pending, 1 taken and snapshot made,
2 recovery done. -/
structure FaultSlot where
  rcd      : FaultRec
  stage    : Nat
  /-- elapsed CCLK of the capture -/
  order    : Nat
  deriving DecidableEq, Repr

/-- The belay monitor (R417 to R442). -/
structure BelaySt where
  slots      : List FaultSlot := []
  /-- the first-fault latch -/
  latch      : Option FaultRec := none
  /-- elapsed CCLK at which the latch was filled -/
  latchAt    : Nat := 0
  lastBoot   : Option FaultRec := none
  queue      : List FaultRec := []
  /-- classes whose active condition holds, a mask of class codes -/
  active     : Nat := 0
  /-- classes captured MASKED while their masking condition holds (R415) -/
  maskedCls  : Nat := 0
  /-- a record of reaction SIGNAL or higher is not acknowledged -/
  unackSig   : Bool := false
  /-- a record of reaction DARK or RESTART is not acknowledged -/
  unackDark  : Bool := false
  /-- elapsed CCLK of the latest captures of reaction SIGNAL or higher, and of DARK or RESTART (R436) -/
  sigAt      : Option Nat := none
  darkAt     : Option Nat := none
  /-- the DARK latch and its sources: bit 0 BELAY_INTERNAL, bit 1 CLOCK_FAIL -/
  latchDark  : Bool := false
  hwCause    : Nat := 0
  /-- the DARK outputs are asserted -/
  darkOut    : Bool := true
  /-- RSEQ of the next record -/
  rseq       : Nat := 0
  /-- elapsed CCLK of the belay-initiated restarts of the last 600 s (R431) -/
  restartsAt : List Nat := []
  /-- three restarts were made: RESTART applies as DARK until RESET by RESET_N -/
  restartCap : Bool := false
  /-- a RESTART reaction waits for its cairn write: the elapsed CCLK at which the reaction ended -/
  restartDue : Option Nat := none
  /-- the latch and a record wait to be written to the cairn -/
  cairnDue   : Option FaultRec := none
  enginesOut : Nat := 0
  leaked     : Nat := 0
  bootFail   : Bool := false
  deriving DecidableEq, Repr

/-- A timed write waiting in the table (R61): target, value and time of effect. -/
structure TimedW where
  org : Origin
  ix  : Nat
  sub : Nat
  val : Bytes
  due : Nat
  deriving DecidableEq, Repr

/-- What completed writes put in place after the boundary that is being taken (R55): it waits for the boundary after it. -/
structure LateSt where
  staged   : List (Nat × Nat) := []
  commit   : List (Nat × Nat) := []
  live     : List (Nat × Nat) := []
  cmds     : List LCmd := []
  deriving DecidableEq, Repr

/-- Change classes in force (R55 to R64). -/
structure StageSt where
  /-- the staging set: the staged shadow of every flagged S subindex -/
  staged   : List (Nat × Nat) := []
  /-- the commit set closed by COMMIT -/
  commit   : List (Nat × Nat) := []
  /-- L writes completed since the last boundary -/
  live     : List (Nat × Nat) := []
  cmds     : List LCmd := []
  timed    : List TimedW := []
  late     : LateSt := {}
  deriving DecidableEq, Repr

/-- An open session (R351 to R354). -/
structure Session where
  id     : Nat
  /-- its entry in the session table -/
  slot   : Nat
  role   : Role
  addr   : Nat
  port   : Nat
  nextSeq : Nat
  opened : Nat
  last   : Nat
  /-- the cached reply to SEQ `nextSeq - 1` -/
  cached : Option Bytes
  deriving DecidableEq, Repr

/-- A pending handshake (R350). -/
structure Handshake where
  id     : Nat
  role   : Role
  addr   : Nat
  port   : Nat
  nonce  : Bytes
  born   : Nat
  /-- the ACCEPT already sent, for a repeated RESPONSE -/
  accept : Option Bytes
  deriving DecidableEq, Repr

/-- A request whose execution waits on a POP (R341, R381): where its reply goes, the items left, the results so far, the
window it waits on, and what the POP brought. -/
structure Job where
  org    : Origin
  addr   : Nat
  port   : Nat
  seq    : Nat
  left   : Bytes
  out    : Bytes
  count  : Nat
  sigOk  : Bool
  role   : Role
  ix     : Nat
  got    : Option (Nat × Bytes) := none
  /-- replies asked for again while the request was executing (R352) -/
  dups   : Nat := 0
  deriving DecidableEq, Repr

/-- Sessions, handshakes, lockouts and keys (R350 to R357). -/
structure CtlSt where
  sessions : List Session := []
  hands    : List Handshake := []
  /-- (source address, elapsed CCLK) of each failed RESPONSE of the last 10 s -/
  fails    : List (Nat × Nat) := []
  /-- (source address, elapsed CCLK at which the lockout ends) -/
  lockouts : List (Nat × Nat) := []
  /-- keys of OBSERVER, OPERATOR, INSTALLER, SERVICE, and the topo key; `none` when empty -/
  keys     : List (Option Bytes) := [none, none, none, none, none]
  /-- requests that wait on a POP -/
  jobs     : List Job := []
  deriving DecidableEq, Repr

/-- An open DOMAIN transfer (R346 to R349). -/
structure Transfer where
  handle : Nat
  org    : Origin
  ix     : Nat
  sub    : Nat
  write  : Bool
  total  : Nat
  /-- START of FLASH_RAW; for COEF_DATA and LUT_DATA the bank their selector named -/
  start  : Nat
  /-- verified blocks of a write, or the snapshot of a read -/
  data   : Bytes
  /-- bytes of the block under way, and its BLOCK_CRC -/
  part   : Bytes
  crc    : Option Nat
  last   : Nat
  deriving DecidableEq, Repr

/-- DOMAIN transfers in progress. -/
structure XferSt where
  open_  : List Transfer := []
  deriving DecidableEq, Repr

/-- The local SPI port (R358). -/
structure LclSt where
  ready     : Bool := false
  busy      : Bool := false
  crcErr    : Bool := false
  discard   : Bool := false
  malformed : Bool := false
  /-- the level of KEY_EN sampled for the request under way (R359) -/
  keyEn     : Bool := false
  /-- the reply body FETCH returns -/
  reply     : Option Bytes := none
  deriving DecidableEq, Repr

/-- A clamp record (Table 12.12). -/
structure ClampRec where
  ix      : Nat
  sub     : Nat
  source  : Nat
  sess    : Nat
  field   : Nat
  given   : Nat
  applied : Nat
  time    : Nat
  deriving DecidableEq, Repr

/-- A reject record (Table 12.13). -/
structure RejectRec where
  ix     : Nat
  sub    : Nat
  source : Nat
  sess   : Nat
  abort  : Nat
  detail : Nat
  time   : Nat
  effect : Nat
  deriving DecidableEq, Repr

/-- The clamp and reject reports (R360, R361). -/
structure ReportSt where
  clamps  : List ClampRec := []
  rejects : List RejectRec := []
  /-- extremes that a read has cleared to 0 and that no measurement has set since (R12) -/
  cleared : List Nat := []
  deriving DecidableEq, Repr

/-- A topo as loaded: header figures, region sizes in MB as applied, and its sections with every quantity clamped. -/
structure Topo where
  slot     : Nat
  id       : Nat
  build    : Nat
  num      : Nat
  den      : Nat
  lat      : Nat
  switchW  : Nat
  regions  : List Nat
  endpoints : Nat
  channels : Nat
  sections : List (Nat × Bytes)
  deriving DecidableEq, Repr

/-- A load in progress: its slot, whether it is the boot load, and the slots still to try. -/
structure LoadSt where
  slot  : Nat
  boot  : Bool
  /-- other slot still to try (R51) -/
  other : Option Nat
  /-- elapsed CCLK at which the load of this slot began -/
  since : Nat := 0
  deriving DecidableEq, Repr

/-- Where a switch stands (R88): waiting for T, copying until T + W, or arming until T + W + L. -/
inductive SwitchSt where
  | none | waiting | copying (left : Nat) | arming (left : Nat)
  deriving DecidableEq, Repr

/-- Topos (R65 to R90). -/
structure TopoSt where
  active  : Option Topo := none
  cand    : Option Topo := none
  /-- a STAGING load that has passed its checks and waits for its boundary (R84) -/
  staged  : Option Topo := none
  load    : Option LoadSt := none
  /-- the boot load waits for PD7 DRAM; STAGING has been entered since RESET, so that load has been asked for -/
  bootWait : Bool := false
  booted   : Bool := false
  switch  : SwitchSt := .none
  /-- elapsed CCLK at which `staged` passed its checks -/
  loadedAt : Nat := 0
  /-- a SWITCH was carried out at the boundary just taken, so the switch begins there -/
  switchBegin : Bool := false
  /-- OBJECT_INIT values waiting for their domain: (domain, key, value) -/
  initDue : List (Nat × Nat × Bytes) := []
  deriving DecidableEq, Repr

/-- A firmware image in flash or memory, as the boot ROM's checks see it (R363). -/
structure FwImg where
  version : Nat
  secVer  : Nat
  valid   : Bool
  deriving DecidableEq, Repr

/-- Firmware (R363 to R365). -/
structure FwSt where
  primary   : Option FwImg := some { version := 0x01000000, secVer := 0, valid := true }
  fallback  : Option FwImg := some { version := 0x01000000, secVer := 0, valid := true }
  running   : Option FwImg := none
  /-- FW_FLOOR raises already fused -/
  raises    : Nat := 0
  /-- FW_FLOOR as fused -/
  floor     : Nat := 0
  /-- bytes of the image each topo slot holds; none when no completed transfer wrote it -/
  slotLens  : List (Option Nat) := [none, none]
  deriving DecidableEq, Repr

/-- A calibration record (Table 8.7): GENERATION, PARTS, REF_ID and TIME80 of each part, sink trims (sink, GAIN_TRIM,
OFFSET_TRIM) where they differ from neutral, NTC offsets, R_BIAS in mΩ, and TSLAT_TX, TSLAT_RX of each port in ps. -/
structure CalRec where
  gen    : Nat
  parts  : Nat
  refs   : List (Nat × Nat)
  trims  : List (Nat × Nat × Int)
  ntcOff : List Int
  rBias  : Nat
  tslat  : List Nat
  deriving DecidableEq, Repr

/-- What the cairn keeps through power-off: fields stored when written, the position, keys, calibration and faults. -/
structure CairnSt where
  fields   : List (Nat × Nat) := []
  /-- stored segment and position (R330) -/
  position : Option (Nat × Nat) := none
  ropedAt  : Nat := 0
  prefixV  : Nat := 0x0A00
  keys     : List (Option Bytes) := [none, none, none, none, none]
  /-- the calibration record waiting to be written; its two pages stand in the flash (R260) -/
  calWrite : Option CalRec := none
  latch    : Option FaultRec := none
  rcd      : Option FaultRec := none
  deriving DecidableEq, Repr

/-- Figures of the part itself (R2, R65, R264, R292, R476): design choices of the model (assumption log 8). -/
structure PartSt where
  serial   : Bytes := List.replicate 16 0
  grade    : Nat := 0
  macBase  : Nat := 0
  eui64    : Nat := 0
  rdmUid   : Nat := 0
  flashMb  : Nat := 128
  dramGb   : Nat := 16
  /-- factory trims (R261): sinks, and TSLAT of each port -/
  trims    : List (Nat × Nat × Int) := []
  tslat    : List Nat := [0, 0, 0, 0, 0, 0]
  deriving DecidableEq, Repr

end Sys2Proof.Machine
end

