-- ==== Sys2Proof/Machine/StOut.lean ====
section
/-! DEFINITION. What passes the ports and pins: PTP messages, rope tags, row slots, and everything the block sends. -/

namespace Sys2Proof.Machine

/-! ### Messages -/

/-- A PTP message as a port hears or sends it (Table 9.4): header fields, correction in ns · 2^16, its body's time-stamp
in ps and the requesting port identity of a response. `long` is false when it is shorter than messageLength. -/
structure PtpMsg where
  kind     : Nat
  sdo      : Nat
  version  : Nat
  domain   : Nat
  long     : Bool
  twoStep  : Bool
  ptpScale : Bool
  flags    : Nat
  corr     : Int
  srcClock : Nat
  srcPort  : Nat
  seq      : Nat
  logInt   : Int
  stamp    : Nat
  reqClock : Nat
  reqPort  : Nat
  /-- minorVersionPTP, minorSdoId, messageLength, unicastFlag and controlField; the IPv4 source of a message heard -/
  minor    : Nat := 1
  minorSdo : Nat := 0
  length   : Nat := 44
  unicast  : Bool := false
  control  : Nat := 0
  addr     : Nat := 0
  deriving DecidableEq, Repr

/-- The data set of an Announce (IEEE 1588-2019, clause 9.3): what best-master selection compares. -/
structure AnnData where
  gm       : Nat
  p1       : Nat
  cls      : Nat
  acc      : Nat
  var      : Nat
  p2       : Nat
  steps    : Nat
  /-- currentUtcOffset, timeSource, and the path trace TLV, which no comparison uses -/
  utc      : Nat := 0
  source   : Nat := 0xA0
  path     : Bytes := []
  deriving DecidableEq, Repr

/-- A rope tag (Table 11.1). -/
structure RopeTag where
  nopos : Bool
  dir   : Nat
  dstk  : Nat
  cls   : Nat
  src   : Nat
  dst   : Nat
  hop   : Nat
  seq   : Nat
  inner : Nat
  deriving DecidableEq, Repr

/-! ### Outputs -/

/-- A row slot as it runs (Table 7.4): its emission frame, segment and row, its start, the columns pre-charged with their voltage in
mV from `chargeAt` on, the ROWG pin of the row with its on level from `rowAt` to `endAt`, and the sinks that conduct from `pwmAt` on
with their full-current and low-current steps. Instants are of the local clock, in ns. -/
structure SlotOut where
  tick     : Nat
  seg      : Nat
  row      : Nat
  start    : Nat
  chargeAt : Nat
  charge   : List (Nat × Nat)
  rowPin   : Option (Nat × Bool)
  rowAt    : Nat
  pwmAt    : Nat
  endAt    : Nat
  on       : List (Nat × Nat × Nat)
  deriving DecidableEq, Repr

/-- Something the block sends: a result of an access, a datagram, a frame, or a level on a wire. -/
inductive Output where
  | result (o : Origin) (status ix sub ty : Nat) (val : Bytes)
  /-- an IPv4 packet of the control protocol -/
  | udp (port : Nat) (packet : Bytes)
  | miso (bytes : Bytes)
  | frame (port : Nat) (bytes : Bytes)
  | rope (port : Nat) (tag : RopeTag) (payload : Bytes)
  /-- a PTP message, and the IPv4 packet it leaves in -/
  | ptp (port : Nat) (msg : PtpMsg) (packet : Bytes)
  | announce (port : Nat) (msg : PtpMsg) (data : AnnData) (packet : Bytes)
  /-- a strand frame: its port, its start on the local clock, its bits, and the changes of its pins D_P, C_P, C_N and D_N, from bit 3
  down, by offset in ns -/
  | strand (port start : Nat) (bits : List Bool) (wave : List (Nat × Nat))
  | strandPins (port levels : Nat)
  | latch (port ns : Nat)
  | dmx (port brk mab : Nat) (slots : Bytes)
  /-- DMXn_DE of every port, a mask -/
  | dmxDe (mask : Nat)
  | rdm (port brk mab : Nat) (bytes : Bytes)
  /-- an IPv4 packet of the sACN builder -/
  | sacn (port : Nat) (packet : Bytes)
  | slot (x : SlotOut)
  /-- a probe: its row, its sinks at their low current, and the 160 ns from `start` -/
  | probe (row start : Nat) (sinks : List Nat)
  /-- a slot in progress ends, its row and its sinks off -/
  | slotCut (row : Nat)
  /-- the sinks of a calibration run conduct: the ROWG pin of CAL_ROW with its on level, on from the first instant to the second, and
  each sink with the instant of its pass 1; I_hi and I_lo take 80 µs each, and pass 2 follows 15,460 µs after pass 1 -/
  | sinkRun (rowPin : Option (Nat × Bool)) (at_ till : Nat) (order : List (Nat × Nat))
  /-- the level the ROWG pins idle at; none: high impedance -/
  | rows (off : Option Bool)
  /-- PWM on DPH0 upward: FSW_KHZ, and the start of each phase's pulse within the switching period in ps -/
  | phases (khz : Nat) (starts : List Nat)
  /-- RSYNC on a raster line: the level of RSYNC_V, the asserted level of RSYNC_H, and the instants of RSYNC_H's two edges -/
  | rsync (line : Nat) (v h : Bool) (from_ till : Nat)
  | phaseEnd (phase : Nat)
  | den (level : Bool)
  deriving DecidableEq, Repr

end Sys2Proof.Machine
end

