-- ==== Sys2Proof/Machine/StNet.lean ====
section
/-! DEFINITION. The state of the network side: ports, queues, the rope, the crevasse injector, PTP and its servo, and the
timed inputs and outputs. -/

namespace Sys2Proof.Machine

/-! ### Messages -/

/-- A record of ROPE_CALL (Table 11.8), with the HOP at which its unit received the call. -/
structure CallRec where
  mac      : Nat
  eligible : Bool
  running  : Bool
  stored   : Bool
  seg      : Nat
  pos      : Nat
  ropedAt  : Nat
  deriving DecidableEq, Repr

/-- An entry of ROPE_SET (Table 11.8). -/
structure SetEntry where
  mac    : Nat
  pos    : Nat
  result : Nat
  deriving DecidableEq, Repr

/-! ### Ports -/

/-- A time-stamp record (Table 10.6). -/
structure Stamp where
  time : Nat
  kind : Nat
  msg  : Nat
  seq  : Nat
  deriving DecidableEq, Repr

/-- A diagnostic record (Table 10.5). -/
structure DiagRec where
  flags : Nat
  len   : Nat
  time  : Nat
  snap  : Bytes
  deriving DecidableEq, Repr

/-- A frame held by a REORDER rule (R334): the frames still to pass, and the elapsed CCLK at which it goes. -/
structure HeldFrame where
  bytes : Bytes
  align : Bool
  left  : Nat
  till  : Nat
  deriving DecidableEq, Repr

/-- One Ethernet port: lock, PAUSE (R301), queues, and what waits for transmission. -/
structure PortSt where
  /-- elapsed CCLK at which the pause time ends; none while not paused -/
  pauseEnd  : Option Nat := none
  /-- elapsed CCLK at which the hold began -/
  holdFrom  : Nat := 0
  /-- PAUSE is disregarded until then -/
  disregard : Option Nat := none
  tsq       : List Stamp := []
  /-- stamps that device firmware has read before it has handled their messages, and the last ones overwritten -/
  read      : List Stamp := []
  lost      : List Stamp := []
  diag      : List DiagRec := []
  held      : List HeldFrame := []
  /-- the frames a PAUSE keeps waiting, with their lengths -/
  waiting   : List (Nat × Output) := []
  deriving DecidableEq, Repr

/-! ### Queues -/

/-- A reader stalled on a queue: its task and the boundary at which its read ends (none: without limit). -/
structure Reader where
  task  : Nat
  until_ : Option Nat
  deriving DecidableEq, Repr

/-- A linked queue (Table 13.3). `items` runs from HEAD to TAIL; the first `retained` of them have been popped and are kept
for a rewind; `mark` is MARK_STATE and `markAt` the marked item's place in `items`. -/
structure Queue where
  hold     : Bool := false
  stage    : Nat := 15
  limit    : Nat := 1024
  reserve  : Nat := 0
  items    : List Bytes := []
  retained : Nat := 0
  mark     : Nat := 0
  markAt   : Nat := 0
  lost     : Nat := 0
  high     : Nat := 0
  bp       : Nat := 0
  inBp     : Bool := false
  readers  : List Reader := []
  deriving DecidableEq, Repr

/-- A wait on an empty spill queue: a window POP with the boundaries left to it, or a task's read. -/
inductive SpillWait where
  | pop (o : Origin) (left : Nat) | task (r : Reader)
  deriving DecidableEq, Repr

/-- A spill queue (R380): head registers, DRAM ring and tail registers. -/
structure Spill where
  hold   : Bool
  stage  : Nat
  limit  : Nat
  base   : Nat
  head   : List Bytes := []
  /-- items in the ring: ring position of the oldest, and how many -/
  ringAt : Nat := 0
  ringN  : Nat := 0
  tail   : List Bytes := []
  lost   : Nat := 0
  high   : Nat := 0
  bp     : Nat := 0
  inBp   : Bool := false
  /-- waits on the empty queue, in the order in which they began (R374) -/
  waits  : List SpillWait := []
  deriving DecidableEq, Repr

/-- The queue engine (R367 to R382). -/
structure QueueSt where
  rx      : List Queue := []
  linked  : List (Nat × Queue) := []
  spills  : List (Nat × Spill) := []
  /-- POOL_FREE has risen above twice the threshold since the last EV34 (R379) -/
  lowArmed : Bool := true
  /-- belay reserve cells in use -/
  belayUsed : Nat := 0
  /-- Q_HIGH of device queues 8 to 15, 19 to 27 and 36 to 55, by queue number -/
  highs   : List (Nat × Nat) := []
  /-- tasks stalled on a device queue of records, by queue number -/
  devWaits : List (Nat × Reader) := []
  deriving DecidableEq, Repr

/-! ### The rope -/

/-- Duplicate window of one source (R313): NEWEST, a bit per number behind it, and the elapsed CCLK of the last frame
accepted. -/
structure DupWin where
  newest : Nat
  bits   : Nat
  last   : Nat
  deriving DecidableEq, Repr

/-- One rope link's state machine (Table 11.6). -/
structure LinkSt where
  wasUp   : Bool := false
  count   : Nat := 0
  lastHb  : Nat := 0
  provingFrom : Nat := 0
  neighbour : Nat := 0
  /-- CAUSE of its last break (Table 11.8) -/
  cause     : Nat := 0
  deriving DecidableEq, Repr

/-- A break the unit has seen (R319): reporter, port, lost neighbour. -/
structure BreakRec where
  mac  : Nat
  port : Nat
  lost : Nat
  deriving DecidableEq, Repr

/-- A roping run in progress on the head (R328). -/
structure RunSt where
  id     : Nat
  began  : Nat
  second : Bool
  /-- records that came back on ROPE-B and on ROPE-A, in call order, the head's own not among them -/
  recsB  : List CallRec
  recsA  : List CallRec
  deriving DecidableEq, Repr

/-- The rope (R309 to R333). -/
structure RopeSt where
  links     : List LinkSt := [{}, {}]
  /-- elapsed CCLK of the last beacon accepted -/
  beaconAt  : Option Nat := none
  headMac   : Nat := 0
  headPrio  : Nat := 255
  termHeard : Nat := 0
  /-- rope mode announced, taken up at the next boundary -/
  modeDue   : Option Nat := none
  bidFrom   : Option Nat := none
  /-- elapsed CCLK of the entry to STANDBY -/
  quietFrom : Nat := 0
  /-- eligible units heard, with the elapsed CCLK -/
  others    : List (Nat × Nat) := []
  trailDown : Option Nat := none
  breaks    : List BreakRec := []
  callId    : Nat := 0
  run       : Option RunSt := none
  runEnd    : Option Nat := none
  wantRun   : Bool := false
  relayed   : Option Nat := none
  gotCall   : Bool := false
  units     : List (Nat × Nat) := []
  seq       : Nat := 0
  wins      : List (Nat × DupWin) := []
  /-- multicast groups a unit of the segment reported, with the elapsed CCLK -/
  members   : List (Nat × Nat) := []
  /-- SINGLE mode sends both ways until the first boundary after the ring closed -/
  bothWays  : Bool := false
  deriving DecidableEq, Repr

/-- The crevasse injector (R334, R335). -/
structure InjSt where
  armed   : Bool := false
  by_     : Nat := 0
  till    : Nat := 0
  /-- frames matched and actions taken since arming, per rule -/
  matched : List Nat := [0, 0, 0, 0]
  acted   : List Nat := [0, 0, 0, 0]
  /-- rules armed, a mask -/
  rules   : Nat := 0
  deriving DecidableEq, Repr

/-- ARP, IGMP and PHY polling (R288, R293, R300). -/
structure HostSt where
  /-- gratuitous ARP requests still to send -/
  arpLeft   : Nat := 0
  arpNext   : Nat := 0
  /-- groups joined, each with its source filter; an empty one excludes none -/
  groups    : List (Nat × List Nat) := []
  /-- the records of the last unsolicited report: group, sources, and whether it is left -/
  changes   : List (Nat × List Nat × Bool) := []
  repeats   : Nat := 0
  repeatAt  : Nat := 0
  v2Till    : Option Nat := none
  phySpeed  : Nat := 1000
  deriving DecidableEq, Repr

/-! ### PTP -/

/-- A master heard (R274): its data set, its port, its Announce interval and when it was last heard. -/
structure Master where
  data    : AnnData
  clock   : Nat
  rxPort  : Nat
  logInt  : Int
  scale   : Bool
  flags   : Nat
  last    : Nat
  /-- its IPv4 address, for unicast Delay_Req (Table 9.3) -/
  addr    : Nat := 0
  deriving DecidableEq, Repr

/-- A Sync whose exchange is not complete (R272): its port, source and sequenceId, its receive stamp in ps once that has arrived, the
time it was sent at in ps once that is known (from the Follow_Up of a two-step Sync), and its correction. -/
structure SyncWait where
  port    : Nat
  clock   : Nat
  srcPort : Nat
  seq     : Nat
  rx      : Option Nat
  t1      : Option Nat
  corr    : Int
  deriving DecidableEq, Repr

/-- Peer delay measurement of one port (R267). -/
structure PdelaySt where
  seq     : Nat := 0
  t1      : Nat := 0
  waiting : Bool := false
  /-- a two-step response waits for its follow-up: receive stamp t4 and t2, in ps, and correction -/
  two     : Option (Nat × Nat × Int) := none
  /-- elapsed CCLK at which the next Pdelay_Req is due -/
  next    : Nat := 0
  deriving DecidableEq, Repr

/-- PTP roles and the servo (R262 to R278). -/
structure PtpSt where
  masters   : List Master := []
  syncWait  : Option SyncWait := none
  /-- measurements, newest first, in ps (at most 64 kept) -/
  meas      : List Int := []
  /-- consecutive measurements: within LOCK_NS, above LOCK_NS within the threshold, above the threshold, within it -/
  nLock     : Nat := 0
  nBand     : Nat := 0
  nAbove    : Nat := 0
  nWithin   : Nat := 0
  nDiscard  : Nat := 0
  /-- RATE_TRIM after each of the last 64 measurements made in LOCKED -/
  trims     : List Int := []
  /-- elapsed CCLK of the last Sync of the current master, and its interval exponent -/
  lastSync  : Option Nat := none
  logSync   : Int := 0
  holdFrom  : Nat := 0
  /-- start of the auto-accept window (R278) and its measurements in ps -/
  winFrom   : Nat := 0
  winMin    : Int := 0
  winMax    : Int := 0
  winN      : Nat := 0
  /-- a grandmaster unit measures a better master (Table 9.6, last row) -/
  gmMeasure : Bool := false
  /-- Delay_Req in flight: sequenceId and send stamp in ps; elapsed CCLK of the last Delay_Resp -/
  delaySeq  : Nat := 0
  delayT3   : Option Nat := none
  lastSyncPair : Option (Int × Nat) := none
  /-- source and sequenceId of the last Sync taken: its second copy is not used (R268) -/
  lastSeq   : Option (Nat × Nat) := none
  /-- the frequency term of RATE_TRIM (R273) -/
  freq      : Int := 0
  delayAt   : Option Nat := none
  pdelay    : List PdelaySt := [{}, {}, {}]
  syncSeq   : List Nat := [0, 0, 0]
  annSeq    : List Nat := [0, 0, 0]
  /-- elapsed CCLK at which the next Sync, Announce and Delay_Req are due -/
  syncNext  : List Nat := [0, 0, 0]
  annNext   : List Nat := [0, 0, 0]
  delayNext : Nat := 0
  /-- the clock was set from a PTP-timescale master; announced flags -/
  scale     : Bool := false
  flags     : Nat := 0
  utc       : Nat := 0
  deriving DecidableEq, Repr

/-! ### Timed I/O -/

/-- A capture record (Table 9.11). -/
structure CapRec where
  time  : Nat
  edge  : Nat
  flags : Nat
  tick  : Nat
  deriving DecidableEq, Repr

/-- One pulse output (R281 to R283): the pin, the end of the pulse in progress, and the next assertion. -/
structure PulseSt where
  on     : Bool := false
  /-- POLARITY of the pulse in progress (R282) -/
  pol    : Bool := true
  offAt  : Nat := 0
  next   : Option Nat := none
  late   : Bool := false
  missed : Bool := false
  fired  : Bool := false
  deriving DecidableEq, Repr

/-- One edge capture input (R284, R285). -/
structure EciSt where
  queue : List CapRec := []
  /-- elapsed CCLK of the last capture, and of the last edge -/
  last  : Option Nat := none
  edge  : Option Nat := none
  deriving DecidableEq, Repr

/-- Pulse outputs and edge capture inputs. -/
structure TimedIo where
  pulses : List PulseSt := [{}, {}, {}, {}]
  ecis   : List EciSt := [{}, {}, {}, {}]
  deriving DecidableEq, Repr

end Sys2Proof.Machine
end

