-- ==== Sys2Proof/Machine/StSched.lean ====
section
/-! DEFINITION. The state of the task scheduler, the arbiter, the carabiners, the Hearth and the DRAM (R26 to R29, R386 to
R414). -/

namespace Sys2Proof.Machine

/-- A task (R388). `entry` is the release entry of a plan release; `due` its deadline in elapsed CCLK; `order` the order of
release, which tells the older of two; `row` its 64-byte descriptor once prefetched. -/
structure Task where
  id        : Nat
  desc      : Nat
  entry     : Option Nat
  list      : Nat
  order     : Nat
  due       : Option Nat
  row       : Bytes := []
  missed    : Bool := false
  suspended : Bool := false
  /-- has been suspended and resumed -/
  resumed   : Bool := false
  /-- waits in BIV0 on its carabiner (R394) -/
  waiting   : Bool := false
  /-- a cancel acts at the next break point (R396) -/
  cancel    : Bool := false
  /-- bytes, items or entries completed -/
  prog      : Nat := 0
  /-- a CRC-32 or signature in progress -/
  acc       : Nat := 0
  /-- stalled on a read of its IN_QUEUE (R376) -/
  stalled   : Bool := false
  /-- an item passed straight to its stalled read (R375) -/
  hand      : Option Bytes := none
  /-- an item whose push was refused, and the elapsed CCLK up to which the refusals are counted (R372) -/
  blocked   : Option (Bytes × Nat) := none
  deriving DecidableEq, Repr

/-- A task engine (R386): RUN and the bivouac slots, BIV0 first. `testDue` is when its self-test must have completed. -/
structure Engine where
  run     : Option Task := none
  biv     : List Task := []
  out     : Bool := false
  testDue : Option Nat := none
  deriving DecidableEq, Repr

/-- A trace record (Table 14.2). -/
structure TraceRec where
  tick   : Nat
  cycle  : Nat
  engine : Nat
  dec    : Nat
  list   : Nat
  slot   : Nat
  task   : Nat
  ty     : Nat
  cb     : Nat
  status : Nat
  prog   : Nat
  deriving DecidableEq, Repr

/-- The scheduler (R386 to R400). -/
structure SchedSt where
  engines  : List Engine := List.replicate 16 {}
  /-- ready lists 0 to 7, oldest first -/
  ready    : List (List Task) := List.replicate 8 []
  limits   : List Nat := List.replicate 8 256
  /-- instance count of each descriptor -/
  inst     : List (Nat × Nat) := []
  order    : Nat := 0
  /-- release entries handled in the current tick -/
  released : List Nat := []
  trace    : List TraceRec := []
  /-- DRAM address the next scrub task starts at, elapsed CCLK at which the pass began, and the last task of the pass -/
  dramAt   : Nat := 0
  dramFrom : Nat := 0
  dramLast : Option Nat := none
  /-- elapsed CCLK of the next engine test -/
  testAt   : Nat := 0
  /-- elapsed CCLK at which the Hearth scrub pass began -/
  scrubFrom : Nat := 0
  /-- periods of the passes under way, in CCLK: a change applies from the next pass (R432) -/
  scrubPer : Nat := 0
  dramPer  : Nat := 0
  deriving DecidableEq, Repr

/-- Who holds a carabiner (R406). -/
inductive CbOwner where
  | task (id : Nat) | core (n : Nat) | session (id : Nat) | localPort
  deriving DecidableEq, Repr

/-- A carabiner (R406): its owner when HELD, BROKEN, and the TICK_INDEX at which the lease ends. -/
structure Carab where
  owner  : Option CbOwner := none
  broken : Bool := false
  lease  : Option Nat := none
  deriving DecidableEq, Repr

/-- The carabiners, and each caller's ACQ_RESULT (R409). -/
structure CarabSt where
  cbs    : List Carab := List.replicate 64 {}
  result : List (Origin × Nat) := []
  deriving DecidableEq, Repr

/-- The arbiter (R401 to R405): counted grants of Hearth banks 0 to 31 and of DRAM (32), the requests whose EV40 has been
raised as (arbiter, port), and the port granted last (port 11 is BM). -/
structure ArbSt where
  counts : List Nat := List.replicate 33 0
  last   : Option (Nat × Nat) := none
  late   : List (Nat × Nat) := []
  /-- DRAM arbitrations made, and for each arbiter the elapsed CCLK, or for DRAM the arbitration, from which the belay monitor may ask
  again (R404) -/
  cycles : Nat := 0
  bmNext : List Nat := List.replicate 33 0
  deriving DecidableEq, Repr

/-- Hearth and DRAM contents as tasks see them: canonical stores, and the poisoned lines and bursts (R429), each as its
first address with the space, true for DRAM. -/
structure MemSt where
  hearth : List Host.Cell := []
  dram   : List Host.Cell := []
  poison : List (Bool × Nat) := []
  /-- the Hearth address from which the default output LUTs stand, where nothing else has been written (R171) -/
  lut    : Option Nat := none
  deriving DecidableEq, Repr

end Sys2Proof.Machine
end

