-- ==== Sys2Proof/Machine/StComp.lean ====
section
/-! DEFINITION. The state of the picture path: streams, surfaces, loops, layers, the raster, the audio bands, the endpoint
buffers, groups and fades, sACN ingress, and the strand, DMX, sACN and rope pixel outputs (chapters 04 to 06). -/

namespace Sys2Proof.Machine

/-! ### Streams (R101 to R108) -/

/-- A complete frame of a stream: its PTP time in ns, its RTP timestamp, its buffer, and the ticks it has been presented. -/
structure PFrame where
  t    : Nat
  ts   : Nat
  buf  : Nat
  held : Nat := 0
  deriving DecidableEq, Repr

/-- The frame being received: RTP timestamp, buffer, the extended sequence number expected, and whether it is spoilt. -/
structure RxVideo where
  ts   : Nat
  buf  : Nat
  next : Nat
  bad  : Bool
  /-- arrival stamp of its last packet; none when it was lost (R305) -/
  stamp : Option Nat := none
  deriving DecidableEq, Repr

/-- A replay (R108): frames still to present, ticks left to the first of them, and the frame that was due when it began. -/
structure Replay where
  todo : List PFrame
  left : Nat
  deriving DecidableEq, Repr

/-- A stream and its playout queue. The first `retained` of `items` have been taken and are kept from the mark on (R377). -/
structure StreamSt where
  rx       : Option RxVideo := none
  items    : List PFrame := []
  retained : Nat := 0
  mark     : Nat := 0
  lost     : Nat := 0
  high     : Nat := 0
  /-- a frame has been completed since activation -/
  live     : Bool := false
  replay   : Option Replay := none
  /-- the frame the stream's layers hold, and the buffers in order of last filling, oldest first -/
  cur      : Option PFrame := none
  order    : List Nat := []
  /-- CONTENT_LATE or CONTENT_MISSING in this raster, and rasters in a row with one (R158) -/
  missNow  : Bool := false
  missRow  : Nat := 0
  deriving DecidableEq, Repr

/-! ### Surfaces and loops (R109 to R113) -/

/-- The head of a stored surface (Table 4.6), and where its bytes stand in the DRAM. -/
structure Surface where
  fmt    : Nat
  w      : Nat
  h      : Nat
  stride : Nat
  addr   : Nat
  len    : Nat
  deriving DecidableEq, Repr

/-- The surface store: (slot, surface), slots whose last transfer was rejected, and images waiting for their boundary. -/
structure SurfSt where
  slots    : List (Nat × Surface) := []
  rejected : List Nat := []
  due      : List (Origin × Bytes) := []
  deriving DecidableEq, Repr

/-- A loop entry (Table 4.15). -/
structure LoopEntry where
  surface : Nat
  dwell   : Nat
  ramp    : Nat
  deriving DecidableEq, Repr

/-- A loop queue (R111 to R113). `pos` is the current entry's place among the retained, none when it was overwritten; `tick`
counts the boundaries since it became current. -/
structure LoopSt where
  items : List LoopEntry := []
  cap   : Nat := 0
  mark  : Nat := 0
  markAt : Nat := 0
  state : Nat := 0
  cur   : Option LoopEntry := none
  pos   : Option Nat := none
  tick  : Nat := 0
  lost  : Nat := 0
  /-- the entry changed, or its ramp factor, at the last boundary -/
  moved : Bool := false
  deriving DecidableEq, Repr

/-! ### Layers (R94 to R100, R128) -/

/-- A layer: changed fields in the pending register, the set latched for the next raster, the set in use, and what goes with
them. A set is (subindex, value) pairs of the commit fields. -/
structure LayerSt where
  pend    : Option (List (Nat × Nat)) := none
  /-- the set that reached the register last, with its CCLK: it joins `pend` when that cycle is over (R96) -/
  fresh   : Option (Nat × List (Nat × Nat)) := none
  next    : Option (List (Nat × Nat)) := none
  /-- the latched set came from a commit, so EV09 follows -/
  commit  : Bool := false
  cur     : List (Nat × Nat) := []
  ember   : Bool := false
  /-- the raster that ends has written the layer's ember entry (R128) -/
  flatten : Bool := false
  /-- EV30 for the absent source has been raised -/
  absent  : Bool := false
  frame   : Option PFrame := none
  /-- active line from which the layer is transparent in this raster -/
  under   : Option Nat := none
  underN  : Nat := 0
  packedErr : Bool := false
  /-- block rows found undecodable in this raster -/
  badRows : List Nat := []
  moved   : Bool := false
  deriving DecidableEq, Repr

/-! ### The raster (R143 to R166) -/

/-- A timing set: the values of 5000h.01 to 5000h.0D, and FRZ_X, FRZ_Y, FRZ_W, FRZ_H. -/
structure RasterSt where
  /-- timing in use, and the set latched for the next raster -/
  cur      : List (Nat × Nat) := []
  next     : Option (List (Nat × Nat)) := none
  pend     : Option (List (Nat × Nat)) := none
  /-- the set that reached the register last, with its CCLK (R150), and whether the latched set came through the register -/
  fresh    : Option (Nat × List (Nat × Nat)) := none
  commit   : Bool := false
  /-- RSYNC (R147): none at high impedance; the level of RSYNC_V on this line, RSYNC_H's asserted level, and the instants of its edges -/
  rsync    : Option (Bool × Bool × Nat × Nat) := none
  /-- a raster runs; its start on the local clock, the tick it is counted from, and its current line -/
  on       : Bool := false
  start    : Nat := 0
  tick     : Nat := 0
  line     : Nat := 0
  sobDone  : Bool := false
  /-- the raster composes; its frame is done, at this instant and elapsed CCLK -/
  composes : Bool := false
  done     : Bool := false
  doneAt   : Nat := 0
  /-- BLANK_STATE, and the change of it that waits for SOB or for its raster (R158, R159) -/
  blank    : Nat := 0
  blankNext : Option Nat := none
  /-- R159: the porch runs on to a tick boundary -/
  extend   : Bool := false
  underMask : Nat := 0
  /-- the freeze CRC in progress, the last signature, and whether there has been one -/
  frzAcc   : Nat := 0xFFFFFFFF
  frzPrev  : Option Nat := none
  frzFired : Bool := false
  /-- map unit: the next entry, keys with the elapsed CCLK at which they finish, the CCLK at which the unit is free -/
  mapNext  : Nat := 0
  mapBusy  : List (Nat × Nat) := []
  mapFree  : Nat := 0
  stalled  : Bool := false
  /-- ticks without a change, and whether this tick has one (R164, R165) -/
  quiet    : Nat := 0
  change   : Bool := false
  /-- the current tick composes nothing, so its end makes no flip -/
  noFlip   : Bool := false
  deriving DecidableEq, Repr

/-! ### Audio (R131 to R134) -/

/-- A modulation band: filter history and envelope. -/
structure BandSt where
  x1  : Int := 0
  x2  : Int := 0
  y1  : Int := 0
  y2  : Int := 0
  env : Nat := 0
  deriving DecidableEq, Repr

/-- Audio samples received: (stream, sample number of the 48 kHz media clock, samples by channel). -/
structure AudioSt where
  samples : List (Nat × Nat × List Int) := []
  bands   : List BandSt := List.replicate 32 {}
  deriving DecidableEq, Repr

/-- Composition as a whole. -/
structure CompSt where
  streams  : List StreamSt := List.replicate 8 {}
  surf     : SurfSt := {}
  loops    : List LoopSt := List.replicate 16 {}
  layers   : List LayerSt := List.replicate 16 {}
  /-- scaler coefficient banks, as signed numbers, and LUT banks (LUT_SEL), where they differ from the reset contents -/
  coefs    : List (Nat × List Int) := []
  luts     : List (Nat × List Nat) := []
  audio    : AudioSt := {}
  raster   : RasterSt := {}
  deriving DecidableEq, Repr

/-! ### Endpoint buffers, groups, fades (R30, R31, R171 to R184) -/

/-- A running fade (R183). -/
structure Fade where
  slot  : Nat
  start : Nat
  goal  : Nat
  dur   : Nat
  curve : Nat
  t     : Nat
  /-- it has reached its target, and EV54 has been raised -/
  ended : Bool := false
  deriving DecidableEq, Repr

/-- An intensity group (R181). -/
structure Group where
  level : Nat := 65535
  fade  : Nat := 0xFFFF
  band  : Nat := 0xFF
  depth : Nat := 0
  deriving DecidableEq, Repr

/-- The roles of the endpoint buffers, whose channels the Hearth holds, and W of each. -/
structure BufSt where
  compose : Nat := 0
  send    : Nat := 1
  shown   : Nat := 2
  sigs    : List Nat := [0, 0, 0]
  /-- the transmitted buffer's W was written under the running map and may be checked -/
  sigOk   : List Bool := [false, false, false]
  groups  : List (Nat × Group) := []
  /-- effective levels of the last composed tick, where they are not 65,536 (R181) -/
  levelsG : List (Nat × Nat) := []
  /-- the read-back sum of the current tick, and the map entries it covers (R176) -/
  sum     : Nat := 0
  seen    : Nat := 0
  levels  : List (Nat × Nat) := []
  fades   : List Fade := []
  /-- temperature factors of colours 0 to 3, and weights w by class (R239) -/
  temps   : List Nat := [32768, 32768, 32768, 32768]
  weights : List (Nat × Nat) := []
  deriving DecidableEq, Repr

/-! ### sACN ingress (R185 to R191) -/

/-- A packet of values: slots 1 onward. -/
structure SacnSrc where
  cid   : Nat
  prio  : Nat
  seq   : Nat
  slots : Bytes
  /-- elapsed CCLK of the last accepted packet, and its place in the order of acceptance -/
  last  : Nat
  order : Nat
  /-- packet held for synchronisation: address and slots, and its place in the order of acceptance -/
  held  : Option (Nat × Bytes)
  heldAt : Nat := 0
  /-- a first packet has been merged -/
  has   : Bool
  deriving DecidableEq, Repr

/-- A declared universe, by its entry number; the Hearth holds its merged values. -/
structure UniSt where
  srcs   : List SacnSrc := []
  ever   : Bool := false
  /-- LOSS ZERO takes effect at the next boundary -/
  zero   : Bool := false
  deriving DecidableEq, Repr

/-- sACN ingress: universes touched, and sync addresses with the elapsed CCLK of the last sync packet of each (CID, address). -/
structure SacnSt where
  unis  : List (Nat × UniSt) := []
  syncs : List (Nat × Nat × Nat) := []
  /-- sync addresses that timed out: packets merge on arrival -/
  free  : List (Nat × Nat) := []
  order : Nat := 0
  deriving DecidableEq, Repr

/-! ### Egress (R192 to R211) -/

/-- A receive window: fragments accepted for the next tick, and whether they are untimed (R209, R211). -/
structure WinSt where
  frags : List Nat := []
  untimed : Bool := false
  /-- the values of those fragments, by channel -/
  vals : List (Nat × Nat) := []
  /-- the values of an untimed window complete and not yet shown, and whether the buffer to be shown next holds them -/
  ready : Option (List (Nat × Nat)) := none
  placed : Bool := false
  deriving DecidableEq, Repr

/-- An RDM request waiting or under way. -/
structure RdmReq where
  uid  : Nat
  sub  : Nat
  cc   : Nat
  pid  : Nat
  data : Bytes
  deriving DecidableEq, Repr

/-- A DMX port's RDM controller (R201 to R203). -/
structure RdmSt where
  queue : List RdmReq := []
  busy  : Option RdmReq := none
  /-- elapsed CCLK at which the request was sent -/
  sentAt : Nat := 0
  tn    : Nat := 0
  /-- DMX packets sent since the last transaction -/
  since : Nat := 16
  disc  : Nat := 0
  found : List Nat := []
  /-- the transaction under way is the device's own discovery, and its branches still to try -/
  own    : Bool := false
  search : List (Nat × Nat) := []
  /-- a UID found, to be muted before its branch is tried again -/
  mute   : Option Nat := none
  /-- discovery begins with DISC_UN_MUTE -/
  unmute : Bool := false
  deriving DecidableEq, Repr

/-- An RDM response (R203). -/
structure RdmResp where
  port   : Nat
  uid    : Nat
  status : Nat
  cc     : Nat
  pid    : Nat
  data   : Bytes
  deriving DecidableEq, Repr

/-- What the outputs presented in tick T − 1 of a switch, sent again through its arming ticks (R88). -/
structure HeldOut where
  shows   : Bool
  /-- strand ports that send: their entry, and their frame -/
  strands : List (Nat × Bytes × List Bool) := []
  /-- DMX ports that send: their entry, and their slots -/
  dmx     : List (Nat × Bytes × Bytes) := []
  /-- the SACN_OUT section, and the slots of each of its entries -/
  outSec  : Bytes := []
  sacn    : List Bytes := []
  deriving DecidableEq, Repr

/-- The egress builders. -/
structure EgressSt where
  rdm      : List RdmSt := List.replicate 8 {}
  resp     : List RdmResp := []
  /-- LOST of the response queue -/
  respLost : Nat := 0
  /-- next sACN entry to send in this tick, and the elapsed CCLK from which it may start -/
  sacnNext : Nat := 0
  sacnFrom : Nat := 0
  /-- next sequence number of each universe -/
  sacnSeq  : List (Nat × Nat) := []
  syncSeq  : Nat := 0
  /-- sACN data is sent in this tick, and its sync packet is due at the next boundary -/
  sacnOn   : Bool := false
  discAt   : Nat := 0
  wins     : List (Nat × WinSt) := []
  /-- windows complete for the next presentation, a mask -/
  winNext  : Nat := 0
  /-- the windows of this tick have been judged (R210) -/
  cut      : Bool := false
  /-- this tick's data packets carry Stream_Terminated -/
  sacnTerm : Bool := false
  /-- strand ports whose frame of this tick has started, with the entry it was sent by -/
  strands  : List (Nat × Bytes) := []
  /-- the SACN_OUT section that the data packets of this tick follow -/
  outSec   : Bytes := []
  held     : Option HeldOut := none
  deriving DecidableEq, Repr

end Sys2Proof.Machine
end

