-- ==== Sys2Proof/Machine/StFbx.lean ====
section
/-! DEFINITION. The state of the firebox and of calibration (chapters 07 and 08). -/

namespace Sys2Proof.Machine

/-- One measurement of a sink, as the firebox's sensing circuits give it: sink, pin voltage in mV, and whether its current is
below 25 % of the current in use (R228, R241). -/
structure SinkSample where
  sink : Nat
  mv   : Nat
  weak : Bool
  deriving DecidableEq, Repr

/-- The figures an emission frame runs by, taken at its start (R220 to R222). -/
structure FrameCfg where
  k     : Nat := 1
  rows  : Nat := 1
  win   : Nat := 0
  slot  : Nat := 0
  p     : Nat := 0
  lc    : Nat := 0
  deriving DecidableEq, Repr

/-- What the diagnosable slots of a lamp showed in the frame under way. -/
structure LampSeen where
  opens  : Nat := 0
  shorts : Nat := 0
  goods  : Nat := 0
  deriving DecidableEq, Repr

/-- The firebox. Values stand by lamp index r · 768 + s; an unlisted lamp holds 0. -/
structure FbxSt where
  /-- the frame store being emitted, and the one that receives the next frame -/
  active   : List (Nat × Nat) := []
  inactive : List (Nat × Nat) := []
  /-- the copy for the next frame: 0 none, 1 under way, 2 whole, 3 mismatched; the instant from which it may swap in -/
  copy     : Nat := 0
  copyEnd  : Nat := 0
  swapFrom : Nat := 0
  /-- variable blanking: a copy is due from the raster that has just started -/
  copyDue  : Bool := false
  repeats  : Bool := false
  /-- emission frame under way: its tick, its start, its figures, segments started, slots started in the segment -/
  on       : Bool := false
  tick     : Nat := 0
  start    : Nat := 0
  cfg      : FrameCfg := {}
  seg      : Nat := 0
  slot     : Nat := 0
  /-- the segment started before the ramp ended -/
  withheld : Bool := false
  /-- bank minima of the segment and of the frame under way, and of the last frame to end -/
  hrSeg    : List (Option Nat) := List.replicate 8 none
  hrNow    : List (Option Nat) := List.replicate 8 none
  hrLast   : List (Option Nat) := List.replicate 8 none
  /-- last headroom sample of each sink -/
  lastHr   : List (Nat × Nat) := []
  /-- dissipation: the sum of the frame under way in nW · ns, and the last 16 frames in nW -/
  diss     : Nat := 0
  dissLog  : List Nat := []
  /-- DEN, and the elapsed CCLK at which it last rose while its ramp runs -/
  den      : Bool := false
  rampAt   : Option Nat := none
  limitOn  : Bool := false
  /-- phases whose on-pulse was ended, with the switching cycle in which it was -/
  phaseCut : List (Nat × Nat) := []
  /-- the row slot under way: its row, and its end on the local clock -/
  slotOn   : Option (Nat × Nat) := none
  /-- sink trims of the emission frame under way (R259) -/
  trims    : List (Nat × Nat × Int) := []
  /-- lamp statuses, frames since the last verdict, and what the frame under way showed: only lamps that differ from 0 -/
  status   : List (Nat × Nat) := []
  counts   : List (Nat × Nat) := []
  seen     : List (Nat × LampSeen) := []
  probed   : List (Nat × LampSeen) := []
  /-- frames since DIAG_EN became 0 -/
  diagOff  : Nat := 0
  /-- lamps held off by SHORT_ACTION -/
  held     : List Nat := []
  /-- spares engaged: primary, spare, lamp -/
  spares   : List (Nat × Nat × Nat) := []
  /-- banks disabled by SINK_STUCK (Table 15.5), a mask -/
  bankOff  : Nat := 0
  /-- the last samples of each NTC input, newest first, in mΩ -/
  ntc      : List (List Nat) := List.replicate 8 []
  ntcBad   : Nat := 0
  warned   : Bool := false
  clamped  : Nat := 0
  probeOld : Bool := false
  deriving DecidableEq, Repr

/-- A set of calibration results: sink trims and residuals, NTC offsets, bias resistor, time-stamp latencies. -/
structure CalSet where
  trims  : List (Nat × Nat × Int) := []
  resid  : List (Nat × Int) := []
  ntcOff : List Int := [0, 0, 0, 0, 0, 0, 0, 0]
  rBias  : Nat := 10000000
  tslat  : List Nat := [0, 0, 0, 0, 0, 0]
  deriving DecidableEq, Repr

/-- What the sequences of a run measured (R253 to R257): per sink its currents in pA at I_hi and I_lo of each pass and whether
pass 1 found it open; VLED_SNS at 900 µs; the bias resistor in mΩ; the averages of the NTC inputs and of the dies in 1/16 °C;
per port the latency beyond the time-stamp point in ps. -/
structure CalMeas where
  pass1 : List (Nat × Nat × Nat × Bool)
  pass2 : List (Nat × Nat × Nat)
  vled  : Nat
  rBias : Nat
  ntc   : List Int
  die   : Int
  beyond : List Nat
  deriving DecidableEq, Repr

/-- What the measuring circuits read at a boundary: the mean of VLED_SNS, the rails 0 to 6 and VDDQ_DDR in mV, and the highest
reading of each die in 1/16 °C. -/
structure Sensors where
  vled    : Nat
  rails   : List Nat
  vddq    : Nat
  tjLogic : Int
  tjFbx   : Int
  deriving DecidableEq, Repr

/-- Calibration (R250 to R260). -/
structure CalSt where
  applied : CalSet := {}
  /-- pending results, with the parts the run completed -/
  pend    : Option (Nat × CalSet) := none
  /-- sequences of an accepted run that waits for its boundary, and of the run under way -/
  want    : Nat := 0
  run     : Option Nat := none
  /-- elapsed CCLK at which the run started, and the sequences it has completed -/
  startAt : Nat := 0
  done    : Nat := 0
  /-- what the run latched at its start (R252): IFULL_UA of the colours, VLED_MAX_MV, CAL_ROW, NTC_SOAK -/
  full    : List Nat := [0, 0, 0, 0]
  vmax    : Nat := 0
  row     : Nat := 0
  soak    : Bool := false
  /-- the sinks have begun to conduct -/
  lit     : Bool := false
  /-- ports the latency sequence has still to measure, the port in loopback, and the elapsed CCLK at which its turn began -/
  ports   : List Nat := []
  out     : Option Nat := none
  portAt  : Nat := 0
  refs    : List (Nat × Nat) := [(0, 0), (0, 0), (0, 0)]
  /-- trims read at boot, which apply at the first boundary after a topo is accepted -/
  due     : Option CalSet := none
  gen     : Nat := 0
  deriving DecidableEq, Repr

end Sys2Proof.Machine
end

