-- ==== Sys2Proof/Syntax.lean ====
section
/-! DEFINITION. The commands: one constructor of `Instr` for each row of the specification's table of operations and
events, with what the outside world brings to it (an origin, an index, a value, a frame, a measurement). -/

namespace Sys2Proof

open Sys2Proof.Machine


/-- What can happen to the block: every row of the table. -/
inductive Instr where
  /-- POWER_UP (R461): The supply rails come up in order and the internal reset ends 2 ms after the last rail is in range. -/
  | powerUp
  /-- RESET_N_LOW (R465): A low on RESET_N that passes the glitch filter takes the unit to RESET and switches off every domain except AON. -/
  | resetNLow
  /-- RESET_N_RISE (R50): On the rising edge of RESET_N, BOOT_SEL is sampled and the boot ROM starts. -/
  | resetNRise (bootSel : Nat)
  /-- FIRMWARE_VERIFY (R51): The boot ROM finishes reading the firmware image and checking its signature; a failure holds the unit in RESET with FAULT_N asserted. -/
  | firmwareVerify (primaryOk fallbackOk : Bool)
  /-- BOOT_SELF_TEST (R51): The Hearth and belay monitor self-test completes; a failure holds the unit in RESET. -/
  | bootSelfTest (pass : Bool)
  /-- CAIRN_READ (R51): The cairn read completes, ROPE switches on and the mode becomes ROPING. -/
  | cairnRead (corrupt : Bool)
  /-- SUPPLY_OUT_OF_RANGE (R455): A rail stays outside its recommended range for 10 µs, which captures the fault class SUPPLY. -/
  | supplyOutOfRange (rail mv : Nat)
  /-- SUPPLY_WARN (R455): A rail stays beyond its warning band for 100 µs and EV61 is raised. -/
  | supplyWarn (rail mv : Nat)
  /-- FBX_SUPPLY_LOW (R462): VDD_FBX falls below 4.5 V; the firebox turns sinks and rows off and drives DEN low without the belay monitor. -/
  | fbxSupplyLow
  /-- OVER_TEMP (R460): A die reads above its grade's maximum Tj and OVER_TEMP is captured. -/
  | overTemp (die : Nat) (temp : Int)
  /-- DARK_N_LOW (R438): A low of at least 200 ns on DARK_N sets SHOW_BLOCK bit 4 and triggers DARK. -/
  | darkNLow
  /-- DARK_N_HIGH (R438): DARK_N returns high and SHOW_BLOCK bit 4 clears. -/
  | darkNHigh
  /-- HEAD_EN_CHANGE (R321): The HEAD_EN level changes, which changes head eligibility and whether TRAIL runs. -/
  | headEnChange (level : Bool)
  /-- EDGE_CAPTURED (R284): A selected edge on an ECI input is time-stamped and queued, or counted in LOST. -/
  | edgeCaptured (input : Nat) (rising : Bool)
  /-- CLOCK_FAIL (R434): The clock cross-check finds a clock off by more than 10 % and sets the DARK latch. -/
  | clockFail (clock : Nat)
  /-- BELAY_INTERNAL (R434): The lockstep comparator or the belay state ECC finds a fault and sets the DARK latch. -/
  | belayInternal (unit : Nat)
  /-- FAULT_PIN (R437): FAULT_N reads high for 1 ms while it is driven low, and FAULT_PIN is captured. -/
  | faultPin
  /-- FIREBOX_REF (R433): The 1 ms check of the sink reference current against the bandgap runs and may capture FIREBOX_REF. -/
  | fireboxRef (deviation : Int)
  /-- CORE_WATCHDOG (R418): A control core's heartbeat has been missing for 2 ms, so the fault is captured and the core is reset. -/
  | coreWatchdog (cpu : Nat)
  /-- DOMAIN_SWITCH_ON (R452): The power controller starts switching on a domain whose dependencies are ON. -/
  | domainSwitchOn (d : Nat)
  /-- DOMAIN_POWER_GOOD (R452): A switching domain reports power-good and becomes ON, raising EV60. -/
  | domainPowerGood (d : Nat)
  /-- DOMAIN_SWITCH_TIMEOUT (R452): A domain has not reached power-good within 5 ms and returns to OFF with state FAILED. -/
  | domainSwitchTimeout (d : Nat)
  /-- DOMAIN_SWITCH_OFF (R454): A domain that no topo or mode needs switches off in reverse dependency order. -/
  | domainSwitchOff (d : Nat)
  /-- DRAM_RETRY (R476): The once-per-second retry of PD7 DRAM switch-on and training fires while NEEDED names it. -/
  | dramRetry
  /-- TICK (R33): At a tick boundary, the unit flips, applies pending changes, takes stream frames, updates the draught and temperature laws, and starts egress. -/
  | tick (m : Sensors)
  /-- TIMED_WRITE_DUE (R62): A waiting timed write reaches the first boundary at or after its time of effect and acts by its target's change class. -/
  | timedWriteDue
  /-- HOLDOVER_LIMIT (R47): Holdover has lasted HOLDOVER_LIMIT at a boundary and EV17 is raised. -/
  | holdoverLimit
  /-- STATIC_ENTER (R165): After the required ticks without a change, the unit enters the static state and raises EV07. -/
  | staticEnter
  /-- FADE_DONE (R183): A fade reaches b + D, takes TARGET, becomes idle and raises EV54. -/
  | fadeDone (slot : Nat)
  /-- LOOP_ADVANCE (R111): A loop entry's dwell ends and the loop advances, returns to the mark, or holds. -/
  | loopAdvance (loop : Nat)
  /-- RASTER_LINE_START (R146): A raster line starts at its computed instant, driving RSYNC and the map unit's gather. -/
  | rasterLineStart (late fault addr : Nat)
  /-- SOB (R150): At start of blanking, the layer and timing pending registers latch, the freeze signature closes and EV01 is raised. -/
  | sob (kat : Bool)
  /-- FRAME_DONE (R153): The map unit writes the last gather of the raster and EV03 is raised. -/
  | frameDone
  /-- FLUE_COPY_START (R217): At boundary − 2,000 ns, the hold-tick decision is made and the flue link starts copying into the inactive store. -/
  | flueCopyStart
  /-- FLUE_COPY_DONE (R219): The flue copy ends and its CRC is checked; a mismatch prevents the swap and captures FLUE_LINK. -/
  | flueCopyDone (ok : Bool)
  /-- EMISSION_FRAME_START (R220): An emission frame starts, the frame stores swap, and the off-current check runs. -/
  | emissionFrameStart (stuck : Bool) (sink : Nat)
  /-- EMISSION_SEGMENT_START (R220): An emission segment starts on the PWM grid. -/
  | emissionSegmentStart
  /-- SCAN_SLOT (R222): A row slot runs dead time, pre-charge and the PWM on-times of its sinks. -/
  | scanSlot (samples probes : List SinkSample)
  /-- EMISSION_FRAME_END (R242): Lamp verdicts are made, spares engage, and lamp and dissipation figures update. -/
  | emissionFrameEnd
  /-- LAMP_UNVERIFIED (R243): A lamp reaches 64 frames without a verdict, becomes UNVERIFIED, and EV50 is raised. -/
  | lampUnverified
  /-- DRAUGHT_RAMP_END (R232): The 900 µs VLED ramp ends and emission is no longer withheld. -/
  | draughtRampEnd
  /-- DRAUGHT_OV (R233): VLED_SNS exceeds VLED_MAX_MV + 500 mV; DEN falls and the rail trips. -/
  | draughtOv (mv : Nat)
  /-- DRAUGHT_UV (R233): VLED_SNS stays below the setpoint too long, or misses its initial value, and DRAUGHT_UV is captured. -/
  | draughtUv (mv : Nat)
  /-- PHASE_CURRENT_LIMIT (R231): A DCS input exceeds ILIM_MV and that phase's on-pulse ends for the cycle. -/
  | phaseCurrentLimit (phase mv : Nat)
  /-- NTC_SAMPLE (R236): The 1 ms thermistor sample updates temperatures, with TEMP_WARN and NTC_INPUT detection. -/
  | ntcSample (input rt : Nat)
  /-- STRAND_FRAME_START (R195): A strand port starts its frame at boundary − T_frame so that it latches at the boundary. -/
  | strandFrameStart (port : Nat)
  /-- RDM_RESPONSE (R203): An RDM response is received and queued, raising EV63 when the queue was empty. -/
  | rdmResponse (port : Nat) (bytes : Bytes)
  /-- RDM_TIMEOUT (R201): An RDM request has had no response for 2,800 µs and ends as NO_RESPONSE. -/
  | rdmTimeout (port : Nat)
  /-- SACN_DATA_PACKET (R205): The next paced sACN data packet leaves, or is skipped after the guard instant. -/
  | sacnDataPacket
  /-- SACN_DISCOVERY (R204): The 10 s universe discovery packet is sent. -/
  | sacnDiscovery
  /-- PORT_UP (R289): The PCS of a port has held lock for 1 ms and the port is up. -/
  | portUp (port : Nat)
  /-- PORT_DOWN (R289): The PCS of a port has lost lock for 20 µs and the port is down. -/
  | portDown (port : Nat)
  /-- RX_FRAME (R295): A received frame is classified, time-stamped, forwarded or bridged, and queued or dropped. -/
  | rxFrame (port : Nat) (frame : Bytes) (align : Bool)
  /-- PAUSE (R301): A received PAUSE frame holds transmission when PAUSE_RX_EN allows, or is only counted. -/
  | pause (port quanta : Nat)
  /-- PAUSE_EXPIRE (R301): The pause time runs out and transmission resumes. -/
  | pauseExpire (port : Nat)
  /-- PAUSE_WATCHDOG (R301): A hold reaches PW_LIMIT with pause time left; transmission resumes and EV27 is raised. -/
  | pauseWatchdog (port : Nat)
  /-- PAUSE_DISREGARD_END (R301): The 100 ms in which PAUSE is disregarded ends. -/
  | pauseDisregardEnd (port : Nat)
  /-- MDIO_POLL (R288): The 10 ms read of the external PHY's link status runs. -/
  | mdioPoll (up : Bool) (speed : Nat)
  /-- EYE_SCAN (R258): The once-per-second eye width scan of a rope receiver runs. -/
  | eyeScan (port width : Nat)
  /-- ARP_ANNOUNCE (R293): One of three gratuitous ARP requests, 100 ms apart, is sent. -/
  | arpAnnounce
  /-- IGMP_QUERY (R300): An IGMP query is received and answered within its maximum response time. -/
  | igmpQuery (port version : Nat)
  /-- IGMP_REPORT_REPEAT (R300): An unsolicited membership report is repeated 1 s after a change. -/
  | igmpReportRepeat
  /-- IGMPV2_FALLBACK_END (R300): 260 s after the last IGMPv2 query, reports return to IGMPv3. -/
  | igmpv2FallbackEnd
  /-- SYNC (R272): A Sync message is received and forms an exchange for the servo. -/
  | sync (port : Nat) (m : PtpMsg)
  /-- FOLLOW_UP (R272): A Follow_Up is received and completes a two-step exchange. -/
  | followUp (port : Nat) (m : PtpMsg)
  /-- DELAY_REQ (R265): A Delay_Req is received by a master port and answered. -/
  | delayReq (port : Nat) (m : PtpMsg)
  /-- DELAY_RESP (R272): A Delay_Resp is received and updates the path delay. -/
  | delayResp (port : Nat) (m : PtpMsg)
  /-- ANNOUNCE (R274): An Announce is received and feeds the best-master selection, possibly changing master. -/
  | announce (port : Nat) (m : PtpMsg) (d : AnnData)
  /-- PDELAY_REQ (R267): A Pdelay_Req is received on a rope port and answered with a one-step Pdelay_Resp. -/
  | pdelayReq (port : Nat) (m : PtpMsg)
  /-- PDELAY_RESP (R267): A Pdelay_Resp is received and updates the link's mean delay. -/
  | pdelayResp (port : Nat) (m : PtpMsg)
  /-- PDELAY_RESP_FOLLOW_UP (R267): A Pdelay_Resp_Follow_Up is received and completes a peer delay exchange. -/
  | pdelayRespFollowUp (port : Nat) (m : PtpMsg)
  /-- SYNC_SEND (R269): A master port sends a one-step Sync at its interval. -/
  | syncSend (port : Nat)
  /-- ANNOUNCE_SEND (R270): A master port sends an Announce at its interval. -/
  | announceSend (port : Nat)
  /-- DELAY_REQ_SEND (R265): TRAIL sends a Delay_Req at LOG_DELAY_REQ intervals. -/
  | delayReqSend
  /-- PDELAY_REQ_SEND (R267): A rope port sends a Pdelay_Req every 2^LOG_PDELAY s. -/
  | pdelayReqSend (port : Nat)
  /-- SYNC_TIMEOUT (R274): No Sync has arrived for 8 intervals, so the reference is degraded and the servo enters HOLDOVER. -/
  | syncTimeout
  /-- ANNOUNCE_TIMEOUT (R274): The announce receipt timeout expires with no other master qualified. -/
  | announceTimeout
  /-- INITIAL_SET (R275): At the boundary after 4 consistent measurements in UNSET, the clock is set and ticks realign. -/
  | initialSet
  /-- STEP_APPLY (R276): A pending step is applied at boundary B, starting a realignment interval. -/
  | stepApply
  /-- AUTO_ACCEPT (R278): The auto-accept conditions are met in JUMP, so the step is taken without a command. -/
  | autoAccept
  /-- PTP_WAIT_EXPIRE (R53): PTP_WAIT expires with no master; the unit becomes grandmaster or keeps waiting. -/
  | ptpWaitExpire
  /-- ROPE_WAIT_EXPIRE (R53): ROPE_WAIT expires in ROPING and the unit starts standalone in STAGING. -/
  | ropeWaitExpire
  /-- PULSE_EDGE (R281): A TPO output asserts or deasserts a pulse in its mode. -/
  | pulseEdge (output : Nat)
  /-- HEARTBEAT_SEND (R317): A rope port sends a HEARTBEAT every 100 µs. -/
  | heartbeatSend (port : Nat)
  /-- HEARTBEAT (R317): A HEARTBEAT is received and drives the link state machine. -/
  | heartbeat (port mac hport addrState seg pos term : Nat)
  /-- HEARTBEAT_LOSS (R318): 600 µs without a valid heartbeat breaks an UP link or restarts proving. -/
  | heartbeatLoss (port : Nat)
  /-- PROVING_DONE (R318): 100 ms of valid heartbeats heal a link with EV24 and HEAL_NOTICE. -/
  | provingDone (port : Nat)
  /-- BREAK_NOTICE (R319): A BREAK_NOTICE is received, raising EV23 and updating RING_STATE. -/
  | breakNotice (mac port cause lost : Nat)
  /-- BREAK_NOTICE_REPEAT (R319): The reporter repeats its BREAK_NOTICE every 100 ms while the link is out of UP. -/
  | breakNoticeRepeat (port : Nat)
  /-- HEAL_NOTICE (R319): A HEAL_NOTICE is received and EV24 is raised. -/
  | healNotice (mac port lost : Nat)
  /-- HEAD_BEACON_SEND (R321): The active head sends a HEAD_BEACON every 500 µs. -/
  | headBeaconSend
  /-- HEAD_BEACON (R321): A HEAD_BEACON is received, and segment, prefix, mode and ring state are taken up. -/
  | headBeacon (mac pos seg term prefixV mode ring segLen prio : Nat)
  /-- BEACON_SILENCE (R322): No beacon has been accepted for 3 ms and a standby head starts bidding. -/
  | beaconSilence
  /-- HEAD_BID_SEND (R322): A bidding unit sends a HEAD_BID every 200 µs. -/
  | headBidSend
  /-- HEAD_BID (R322): A HEAD_BID is received and compared by key. -/
  | headBid (mac prio keyPos term : Nat)
  /-- BIDDING_DONE (R322): 1,000 µs of unopposed bidding makes the unit active head with a new term. -/
  | biddingDone
  /-- HEAD_RESIGN (R322): A HEAD_RESIGN is received and standby heads start bidding. -/
  | headResign (mac term : Nat)
  /-- TRAIL_DOWN_RESIGN (R322): TRAIL has been down for 1 ms on the active head with another eligible unit known, so the head resigns. -/
  | trailDownResign
  /-- JOIN_REQ_SEND (R327): A unit without a position sends JOIN_REQ every 50 ms. -/
  | joinReqSend
  /-- JOIN_REQ (R328): The active head receives a JOIN_REQ, which calls for a roping run. -/
  | joinReq (mac : Nat)
  /-- ROPING_RUN (R328): The active head starts a roping run by sending ROPE_CALL. -/
  | ropingRun
  /-- ROPE_CALL (R328): A ROPE_CALL is appended to and relayed, or returns to the head to close the ring. -/
  | ropeCall (port hop callId seg : Nat) (recs : List CallRec)
  /-- ROPE_CALL_END (R328): A ROPE_CALL_END returns along an open-ring arm. -/
  | ropeCallEnd (port callId seg : Nat) (recs : List CallRec)
  /-- CALL_TIMEOUT (R328): The call does not return within 20 ms, so the head sends the second call or abandons the run. -/
  | callTimeout
  /-- ROPE_SET (R330): A unit takes its ROPE_SET result: keeps, stores or loses a position. -/
  | ropeSet (port callId seg segLen : Nat) (entries : List SetEntry)
  /-- DUP_WINDOW_FORGET (R313): A source's duplicate window is forgotten after 10 ms without an accepted frame. -/
  | dupWindowForget (src : Nat)
  /-- INJECT_DURATION_END (R335): DURATION_MS ends and the crevasse injector disarms with EV62. -/
  | injectDurationEnd
  /-- SACN_SOURCE_TIMEOUT (R187): A source has had no accepted packet for 2,500 ms, is removed, and the merge is recomputed. -/
  | sacnSourceTimeout (src : Nat)
  /-- SACN_SYNC_TIMEOUT (R189): No sync packet for 2,500 ms, so packets with that address merge on arrival. -/
  | sacnSyncTimeout (univ : Nat)
  /-- HELLO (R350): A HELLO is checked and answered with CHALLENGE or REFUSE, or dropped. -/
  | hello (addr port role : Nat)
  /-- RESPONSE (R351): A RESPONSE is verified and a session opens with ACCEPT or is refused. -/
  | response (addr port hsId : Nat) (cNonce mac : Bytes)
  /-- CLOSE (R354): A CLOSE ends the session and is answered with CLOSED. -/
  | close (addr port sess seq : Nat)
  /-- HANDSHAKE_EXPIRE (R350): A pending handshake expires after 2,000 ms. -/
  | handshakeExpire (hsId : Nat)
  /-- LOCKOUT_END (R351): The 10 s lockout of a source address ends. -/
  | lockoutEnd (addr : Nat)
  /-- SESSION_TIMEOUT (R354): A session idle for SESSION_TIMEOUT ends, and its transfers, injector and carabiners are released. -/
  | sessionTimeout (sess : Nat)
  /-- READ (R338): A READ operation returns the value of a subindex. -/
  | read (o : Origin) (ix sub ty : Nat)
  /-- WRITE (R340): A WRITE operation is checked, clamped and placed by change class. -/
  | write (o : Origin) (ix sub ty : Nat) (val : Bytes)
  /-- TIMED_WRITE (R61): A TIMED_WRITE is checked and held in the timed-write table until its time. -/
  | timedWrite (o : Origin) (ix sub ty : Nat) (val : Bytes) (time : Nat)
  /-- DOMAIN_BEGIN (R346): A DOMAIN transfer opens, erasing a flash target or taking a read snapshot. -/
  | domainBegin (o : Origin) (ix sub dir total start : Nat)
  /-- DOMAIN_DATA (R347): A DOMAIN part is accepted in order, and completed blocks are verified and programmed. -/
  | domainData (o : Origin) (transfer block offset crc : Nat) (data : Bytes)
  /-- DOMAIN_READ (R349): A DOMAIN_READ returns bytes of the read snapshot with the block CRC. -/
  | domainRead (o : Origin) (transfer block offset count : Nat)
  /-- DOMAIN_END (R348): A DOMAIN_END completes, fails or abandons a transfer. -/
  | domainEnd (o : Origin) (transfer : Nat) (abandon sigOk : Bool)
  /-- DESCRIBE (R345): DESCRIBE returns a subindex's 32-byte description. -/
  | describe (o : Origin) (ix sub : Nat)
  /-- DOMAIN_TRANSFER_TIMEOUT (R348): A transfer unnamed for 10,000 ms is abandoned. -/
  | domainTransferTimeout (transfer : Nat)
  /-- SEND (R358): A local-port SEND runs its request as INSTALLER or OPERATOR, or is discarded. -/
  | send (keyEn sigOk : Bool) (bytes : Bytes)
  /-- FETCH (R358): A local-port FETCH returns the reply and clears READY. -/
  | fetch (keyEn : Bool)
  /-- STATUS_POLL (R358): A local-port transaction with another command byte returns only STATUS. -/
  | statusPoll (keyEn : Bool) (cmd : Nat)
  /-- OD_WRITE (R14): A write to a subindex with no behaviour of its own takes effect by its change class. -/
  | odWrite (o : Origin) (ix sub : Nat) (val : Bytes)
  /-- RC_COUNTER_READ (R12): A read of an RC subindex returns it and clears it in the same access. -/
  | rcCounterRead (o : Origin) (ix sub : Nat)
  /-- REQ_SHOW (R47): Requests SHOW; arming begins once SHOW_BLOCK allows. -/
  | reqShow (o : Origin)
  /-- REQ_STAGING (R47): Requests STAGING from SHOW, HOLDOVER or released DARK. -/
  | reqStaging (o : Origin)
  /-- REQ_DARK (R44): Enters DARK within 1 µs, or is recorded in ROPING. -/
  | reqDark (o : Origin)
  /-- COMMIT (R58): Closes the staging set into the commit set for the next boundary. -/
  | commit (o : Origin)
  /-- DISCARD (R58): Clears every staged flag. -/
  | discard (o : Origin)
  /-- TIMED_CANCEL (R64): Drops every waiting timed write. -/
  | timedCancel (o : Origin)
  /-- SELECT_SLOT (R67): Sets the topo slot loaded at boot, stored in the cairn. -/
  | selectSlot (o : Origin) (slot : Nat)
  /-- LOAD (R84): Starts reading and checking a topo slot. -/
  | load (o : Origin) (slot : Nat)
  /-- TOPO_LOAD_DONE (R84): A topo load's checks end with success or failure, setting LOAD_RESULT and CAND_STATE. -/
  | topoLoadDone
  /-- TOPO_ACTIVATE (R84): At the boundary after a successful STAGING load, the topo's tables take effect. -/
  | topoActivate
  /-- SWITCH (R85): Schedules a switch to the candidate at the next boundary. -/
  | switch (o : Origin)
  /-- SWITCH_BEGIN (R88): At boundary T, tasks stop, outputs hold and the candidate copy starts. -/
  | switchBegin
  /-- SWITCH_TABLES_IN_FORCE (R88): At T + W, the new tables take force and arming starts. -/
  | switchTablesInForce
  /-- ARMING_START (R52): The first arming tick starts when SHOW is requested and SHOW_BLOCK allows. -/
  | armingStart
  /-- ARMING_DONE (R52): L arming ticks end and the unit enters SHOW. -/
  | armingDone
  /-- SLOT_A (R69): A DOMAIN write places a new image in a topo slot, A or B. -/
  | slotA (o : Origin) (slotB : Bool) (image : Bytes)
  /-- MARK (R108): Places the rewind mark on the playout frame held by the layer. -/
  | mark (o : Origin) (stream : Nat)
  /-- REWIND (R108): Starts a playout replay from the mark. -/
  | rewind (o : Origin) (stream : Nat)
  /-- LOOP_START (R111): Makes the loop's first retained entry current. -/
  | loopStart (o : Origin) (loop : Nat)
  /-- LOOP_STOP (R111): Holds the loop's current entry. -/
  | loopStop (o : Origin) (loop : Nat)
  /-- APPEND (R113): Appends a loop entry, overwriting the oldest when at capacity. -/
  | append (o : Origin) (loop : Nat) (entry : Bytes)
  /-- LOOP_REWIND (R113): Makes the marked loop entry current. -/
  | loopRewind (o : Origin) (loop : Nat)
  /-- SURF_DATA (R110): A surface image is stored in its slot at the boundary after the transfer, or rejected. -/
  | surfData (o : Origin) (image : Bytes)
  /-- COEF_DATA (R123): Writes a scaler coefficient bank. -/
  | coefData (o : Origin) (data : Bytes)
  /-- LUT_DATA (R124): Writes a degamma or encode LUT bank. -/
  | lutData (o : Origin) (data : Bytes)
  /-- GROUP_SET (R184): Sets a group's LEVEL at the boundary. -/
  | groupSet (o : Origin) (group level : Nat)
  /-- GROUP_BIND (R184): Binds a group to a fade slot and band at the boundary. -/
  | groupBind (o : Origin) (val : Bytes)
  /-- FADE_START (R183): Starts a fade from the slot's current level at the boundary. -/
  | fadeStart (o : Origin) (val : Bytes)
  /-- FADE_STOP (R184): Idles a fade slot at its current level. -/
  | fadeStop (o : Origin) (slot : Nat)
  /-- RDM_REQ (R203): Queues an RDM request on a DMX port. -/
  | rdmReq (o : Origin) (val : Bytes)
  /-- DISC_START (R201): Starts RDM discovery on a port. -/
  | discStart (o : Origin) (port : Nat)
  /-- CAL_RUN_SINK (R253): Requests the sink calibration sequence. -/
  | calRunSink (o : Origin)
  /-- CAL_RUN_NTC (R256): Requests the NTC calibration sequence. -/
  | calRunNtc (o : Origin)
  /-- CAL_RUN_TSLAT (R257): Requests the time-stamp latency sequence. -/
  | calRunTslat (o : Origin)
  /-- CAL_RUN_START (R251): At the boundary after CAL_RUN, the named sequences start and SHOW_BLOCK bit 5 sets. -/
  | calRunStart
  /-- CAL_SEQUENCE_DONE (R252): The named sequences complete, results become pending, and EV55 is raised. -/
  | calSequenceDone (m : CalMeas)
  /-- CAL_ACCEPT (R259): Applies pending calibration results at the boundary and stores them in the cairn. -/
  | calAccept (o : Origin)
  /-- CAL_DISCARD (R250): Drops pending results or aborts a running sequence. -/
  | calDiscard (o : Origin)
  /-- SNAPSHOT (R263): Latches clock, tick index, boundary time and frame counter in one CCLK. -/
  | snapshot (o : Origin)
  /-- ACCEPT_STEP (R278): Takes the pending step at the next boundary. -/
  | acceptStep (o : Origin)
  /-- INJECT_ARM (R335): Arms every crevasse rule whose action is not OFF. -/
  | injectArm (o : Origin)
  /-- INJECT_DISARM (R335): Disarms the crevasse injector. -/
  | injectDisarm (o : Origin)
  /-- CLEAR_POSITION (R333): Erases the stored position from the next reset. -/
  | clearPosition (o : Origin)
  /-- REROPE (R328): Starts a roping run on the active head. -/
  | rerope (o : Origin)
  /-- KEY_WRITE (R357): Writes a session key slot, applied at the boundary, closing sessions of that role. -/
  | keyWrite (o : Origin) (slot : Nat) (key : Bytes)
  /-- SESS_KILL (R354): Closes the named session with cause 4. -/
  | sessKill (o : Origin) (sess : Nat)
  /-- FW_IMAGE (R364): Writes and verifies a firmware image in the primary or fallback region. -/
  | fwImage (o : Origin) (fallback : Bool) (image : Bytes) (sigOk : Bool)
  /-- FW_RESTART (R365): Takes the unit to RESET at the next boundary with LAST_CAUSE 13. -/
  | fwRestart (o : Origin)
  /-- FW_FLOOR_RAISE (R365): Raises FW_FLOOR to the running image's security version. -/
  | fwFloorRaise (o : Origin)
  /-- FLASH_RAW (R365): Programs raw flash through the boot ROM under BOOT_SEL 0b11. -/
  | flashRaw (o : Origin) (start : Nat) (data : Bytes)
  /-- ACQUIRE (R409): A session or the local port acquires a carabiner with a lease, or is refused. -/
  | acquire (o : Origin) (val : Bytes)
  /-- RELEASE (R409): The holder releases a carabiner, clearing BROKEN, and a waiting task may take it. -/
  | release (o : Origin) (cb : Nat)
  /-- RENEW (R409): Restarts a held carabiner's lease. -/
  | renew (o : Origin) (val : Bytes)
  /-- FORCE_RELEASE (R410): Force-releases a carabiner with BROKEN set and EV38. -/
  | forceRelease (o : Origin) (cb : Nat)
  /-- LEASE_END (R409): A carabiner's lease ends and it is force-released broken. -/
  | leaseEnd (cb : Nat)
  /-- PRIO_SET (R403): Sets one port's priority on the Hearth or DRAM arbiter. -/
  | prioSet (o : Origin) (val : Bytes)
  /-- TASK_CANCEL (R397): Cancels the task instance named by a TASK_ID. -/
  | taskCancel (o : Origin) (task : Nat)
  /-- DESC_CANCEL (R397): Cancels every ready or in-flight instance of a descriptor. -/
  | descCancel (o : Origin) (desc : Nat)
  /-- PUSH (R381): Pushes a 64-byte item to a spill queue through its window. -/
  | push (o : Origin) (queue : Nat) (item : Bytes)
  /-- POP (R381): Pops a spill queue item, waiting up to POP_WAIT boundaries. -/
  | pop (o : Origin) (queue : Nat)
  /-- CLAMP_READ (R486): Returns and removes the oldest clamp record. -/
  | clampRead (o : Origin)
  /-- REJECT_READ (R486): Returns and removes the oldest reject record. -/
  | rejectRead (o : Origin)
  /-- EVQ_READ (R486): Returns and removes the oldest event record. -/
  | evqRead (o : Origin)
  /-- FAULT_READ (R426): Returns and removes the oldest fault record. -/
  | faultRead (o : Origin)
  /-- TRACE_READ (R486): Returns and removes the oldest trace record. -/
  | traceRead (o : Origin)
  /-- DIAG_READ (R303): Returns and removes the oldest diagnostic record of a port. -/
  | diagRead (o : Origin) (port : Nat)
  /-- CAPTURE (R285): Returns and removes the oldest edge capture record. -/
  | capture (o : Origin) (input : Nat)
  /-- RDM_RESP (R203): Returns and removes the oldest RDM response. -/
  | rdmResp (o : Origin)
  /-- PENDING (R449): A W1C write clears event pending bits. -/
  | pending (o : Origin) (mask : Nat)
  /-- FIRST_CLEAR (R440): Empties the first-fault latch. -/
  | firstClear (o : Origin)
  /-- FAULT_ACK (R436): Acknowledges every fault record captured before it, which may release FAULT_N. -/
  | faultAck (o : Origin)
  /-- DARK_RELEASE (R439): Releases the belay monitor's DARK outputs when no DARK fault remains. -/
  | darkRelease (o : Origin)
  /-- FAULT_INJECT (R441): Captures the named class through the sequencer path with INJECTED set. -/
  | faultInject (o : Origin) (cls : Nat)
  /-- CLEAR (R246): Returns a lamp, or every lamp, to UNKNOWN and releases its spares and held sinks. -/
  | clear (o : Origin) (lamp : Nat)
  /-- PLAN_RELEASE (R389): A tick-plan entry releases a task into its ready list at RELEASE_NS, or skips or drops it. -/
  | planRelease (entry : Nat)
  /-- EVENT_RELEASE (R390): A descriptor's IN_QUEUE holds an item, so one instance is released into EVENT_LIST. -/
  | eventRelease (desc : Nat)
  /-- PREFETCH (R392): An engine completes a prefetch and range check of a task into a bivouac slot. -/
  | prefetch (engine : Nat)
  /-- DISPATCH (R394): RUN is empty, so BIV0 moves to RUN, acquiring its carabiner or waiting. -/
  | dispatch (engine : Nat)
  /-- DEADLINE_MISS (R398): A plan-released task passes DEADLINE_NS incomplete and EV35 is raised. -/
  | deadlineMiss (task : Nat)
  /-- QUEUE_READ_TIMEOUT (R376): A stalled read reaches STALL_TICKS and ends with QUEUE_EMPTY. -/
  | queueReadTimeout (engine : Nat)
  /-- QUEUE_PUSH_UNBLOCKED (R372): A back-pressured push is accepted once room appears, ending the episode. -/
  | queuePushUnblocked (engine : Nat)
  /-- SPILL_BURST_WRITE (R380): Four spill tail entries are written to the DRAM ring as one burst. -/
  | spillBurstWrite (q : Nat)
  /-- SPILL_READBACK (R380): A read-back of four spill entries from DRAM into the head registers completes. -/
  | spillReadback (q : Nat)
  /-- LINK_WALK (R378): The periodic walk of every queue and the free list checks link integrity. -/
  | linkWalk (bad : Bool) (queue cell : Nat)
  /-- ARBITRATION (R402): One arbitration grants a Hearth bank or DRAM burst to the belay monitor, the oldest request or the highest priority. -/
  | arbitration (dram : Bool) (bank : Nat) (bm : Bool) (reqs : List (Nat × Nat))
  /-- NOP (R387): Runs a NOP task, which marks an instant in the trace. -/
  | nop (engine : Nat)
  /-- COPY (R387): Runs a COPY task up to its next break point. -/
  | copy (engine ecc : Nat)
  /-- FILL (R387): Runs a FILL task up to its next break point. -/
  | fill (engine : Nat)
  /-- CRC32 (R387): Runs a CRC32 task, optionally comparing with EXPECT. -/
  | crc32 (engine ecc : Nat)
  /-- UNPACK (R387): Decodes block rows of a packed surface into RGBA16. -/
  | unpack (engine ecc : Nat)
  /-- SIG_READBACK (R176): Forms the read-back signature over map entries, with an OUTPUT_SIGNATURE fault on mismatch. -/
  | sigReadback (engine ecc : Nat)
  /-- SACN_MERGE (R188): Merges accepted E1.31 items into the merge store. -/
  | sacnMerge (engine : Nat)
  /-- AUDIO_BANDS (R132): Runs the band filters and envelopes. -/
  | audioBands (engine : Nat)
  /-- QUEUE_MOVE (R387): Moves items from IN_QUEUE to OUT_QUEUE unchanged. -/
  | queueMove (engine : Nat)
  /-- GATHER (R387): Copies the runs listed in a gather table. -/
  | gather (engine ecc : Nat)
  /-- SCRUB (R387): A SCRUB task rewrites a DRAM range, correcting single-bit errors. -/
  | scrub (engine ecc : Nat)
  /-- SELF_TEST (R387): Runs one periodic self-test pattern on an engine. -/
  | selfTest (engine : Nat) (pass : Bool)
  /-- LUT_LOAD (R387): Loads a LUT or coefficient bank into composition storage. -/
  | lutLoad (engine ecc : Nat)
  /-- SURF_STORE (R387): Moves a completed surface image into its slot. -/
  | surfStore (engine ecc : Nat)
  /-- SIGNAL (R387): Pushes one item from PARAM to OUT_QUEUE. -/
  | signal (engine : Nat)
  /-- VIDEO_INGEST (R103): Writes ST 2110-20 payloads into playout buffers and completes frames. -/
  | videoIngest (engine : Nat)
  /-- AUDIO_INGEST (R387): Writes ST 2110-30 samples into the band input ring. -/
  | audioIngest (engine : Nat)
  /-- SACN_PARSE (R187): Checks E1.31 packets and pushes accepted ones on. -/
  | sacnParse (engine : Nat)
  /-- PIXEL_RX (R209): Accepts rope pixel fragments into receive windows, or counts and drops them. -/
  | pixelRx (engine : Nat)
  /-- CTRL_PARSE (R342): Checks control datagrams and passes them to the control cores. -/
  | ctrlParse (engine : Nat) (sigOk : Bool)
  /-- ROPE_CTRL (R332): Checks rope control messages and passes them to the control cores. -/
  | ropeCtrl (engine : Nat)
  /-- HDR_BUILD (R387): Builds header templates for the egress builders. -/
  | hdrBuild (engine : Nat)
  /-- CSUM (R299): Computes and inserts IPv4 and UDP checksums in a frame. -/
  | csum (engine ecc : Nat)
  /-- HOST (R293): Answers ARP and ICMP echo and detects address conflicts. -/
  | host (engine : Nat)
  /-- FAULT_REACTION (R424): The sequencer takes a pending fault and runs snapshot, recovery and record push. -/
  | faultReaction (steps : Nat)
  /-- CAIRN_WRITE_DONE (R424): The background cairn write of the latch and a DARK or RESTART record completes. -/
  | cairnWriteDone
  /-- BELAY_RESTART (R431): A RESTART reaction takes the unit to RESET with LAST_CAUSE 12. -/
  | belayRestart
  /-- HEARTH_SCRUB (R432): The scrubber reads and corrects a Hearth line through the BM port. -/
  | hearthScrub (line ecc : Nat)
  /-- SCRUB_STALLED (R432): A scrub pass is not complete within twice its period. -/
  | scrubStalled (dram : Bool)
  /-- ENGINE_TEST_RELEASE (R433): Each SELFTEST_MS, a SELF_TEST task is released for each engine, and a test not completed fails. -/
  | engineTestRelease
  /-- SUPPLY_BACK_IN_RANGE (R455): A monitored rail returns inside its recommended range, so the class SUPPLY stops being active. -/
  | supplyBackInRange (rail mv : Nat)
  /-- OVER_TEMP_CLEAR (R418): The die temperature falls below the grade maximum less 10 °C, and OVER_TEMP stops being active. -/
  | overTempClear (die : Nat) (temp : Int)
  /-- VLED_BELOW_MAX (R418): VLED_SNS falls back to or below VLED_MAX_MV after a trip, and DRAUGHT_OV stops being active. -/
  | vledBelowMax (mv : Nat)
  /-- LIFE_HOUR (R484): Each hour, LIFE_USED adds the share for the band of that hour's highest TJ_PEAK, and is stored in the cairn. -/
  | lifeHour
  /-- REORDER_HOLD_EXPIRE (R334): A frame held by a REORDER rule is released after 100 µs when REORDER_DEPTH further frames have not arrived. -/
  | reorderHoldExpire (port : Nat)
  /-- DRAM_SCRUB_RELEASE (R432): The belay monitor releases SCRUB tasks into ready list 7 on its schedule to cover all DRAM once in each SCRUB_DRAM_S. -/
  | dramScrubRelease
  /-- CAL_RECORD_WRITE_DONE (R260): The background write of the calibration record into the alternate cairn page completes, making it the record used at the next boot. -/
  | calRecordWriteDone
  deriving DecidableEq, Repr

end Sys2Proof
end

