-- ==== Sys2Proof/Decode.lean ====
section
/-! DEFINITION. The words of the table of operations. The block takes commands and has no instruction encoding: no row of the table
gives a word, so no word spells a command. -/

namespace Sys2Proof

/-- The command that the word `w` of `nbits` bits spells by the table's bits: none, since no row gives bits. -/
def decodeTableWord (_nbits _w : Nat) : Option Instr := none

end Sys2Proof
end

