-- ==== Sys2Proof/Machine/Bytes.lean ====
section
/-! DEFINITION. Byte order, signed values and checksums: multi-byte fields are most significant byte first (R6), CRC-32 is
that of R71, SHA-256 and HMAC are those R71 and R351 name. -/

namespace Sys2Proof.Machine

/-- The number `bs` spells, most significant byte first (R6). -/
def beNat (bs : Bytes) : Nat := bs.foldl (fun a b => a * 256 + b.toNat) 0

/-- The `n` bytes of `v`, most significant byte first; `v` is cut to its low `8 * n` bits. -/
def beBytes (n v : Nat) : Bytes :=
  match n with
  | 0 => []
  | k + 1 => BitVec.ofNat 8 (v / 256 ^ k) :: beBytes k v

/-- The signed number whose two's complement form of `n` bytes is `v` (R7). -/
def toSigned (n v : Nat) : Int :=
  if v < 2 ^ (8 * n - 1) then (v : Int) else (v : Int) - (2 ^ (8 * n) : Nat)

/-- The two's complement form of `n` bytes of `z` (R7). -/
def ofSigned (n : Nat) (z : Int) : Nat := (z % ((2 ^ (8 * n) : Nat) : Int)).toNat

/-- `n` bytes of `bs` from offset `off`, 0x00 beyond its end. -/
def slice (bs : Bytes) (off n : Nat) : Bytes :=
  let t := (bs.drop off).take n
  t ++ List.replicate (n - t.length) 0

/-- The big-endian field of `n` bytes at offset `off`. -/
def field (bs : Bytes) (off n : Nat) : Nat := beNat (slice bs off n)

/-- Bit `b` of `v`. -/
def bit (v b : Nat) : Bool := (v / 2 ^ b) % 2 == 1

/-- Bits `[hi:lo]` of `v`. -/
def bits (v hi lo : Nat) : Nat := (v / 2 ^ lo) % 2 ^ (hi - lo + 1)

/-- `v` with bit `b` set. -/
def setBit (v b : Nat) : Nat := v ||| 2 ^ b

/-- `v` with bit `b` clear. -/
def clearBit (v b : Nat) : Nat := if bit v b then v - 2 ^ b else v

/-- The number of bits set among the low `n` bits of `v`. -/
def popCount (n v : Nat) : Nat := (List.range n).foldl (fun a b => a + (v / 2 ^ b) % 2) 0

/-- `a / b` rounded to the nearest, a tie away from zero, for `b > 0`. -/
def roundDiv (a : Int) (b : Nat) : Int :=
  if 0 ≤ a then (2 * a + b) / (2 * b) else -((2 * (-a) + b) / (2 * b))

/-- `v` held between `lo` and `hi`. -/
def clampInt (lo hi v : Int) : Int := if v < lo then lo else if hi < v then hi else v

/-- `v` held between `lo` and `hi`. -/
def clampNat (lo hi v : Nat) : Nat := if v < lo then lo else if hi < v then hi else v

/-- `a / b` rounded up. -/
def ceilDiv (a b : Nat) : Nat := (a + b - 1) / b

/-- One bit of the reflected CRC-32 register (R71). -/
def crcBit (c : Nat) : Nat := if c % 2 == 1 then (c / 2) ^^^ 0xEDB88320 else c / 2

/-- One byte into the CRC-32 register. -/
def crcByte (c : Nat) (b : Byte) : Nat :=
  crcBit (crcBit (crcBit (crcBit (crcBit (crcBit (crcBit (crcBit (c ^^^ b.toNat))))))))

/-- CRC-32 of R71: polynomial 0x04C11DB7 reflected, initial and final 0xFFFFFFFF. -/
def crc32 (bs : Bytes) : Nat := (bs.foldl crcByte 0xFFFFFFFF) ^^^ 0xFFFFFFFF

/-- One bit of the CRC-16-CCITT register. -/
def crc16Bit (c : Nat) : Nat := if c ≥ 0x8000 then ((c * 2) % 65536) ^^^ 0x1021 else (c * 2) % 65536

/-- CRC-16 with polynomial 0x1021 and initial value 0xFFFF. -/
def crc16 (bs : Bytes) : Nat :=
  bs.foldl (fun c b => (List.range 8).foldl (fun a _ => crc16Bit a) (c ^^^ (b.toNat * 256))) 0xFFFF

/-- The round constants of SHA-256 (FIPS 180-4). -/
def shaK : List Nat :=
  [0x428a2f98, 0x71374491, 0xb5c0fbcf, 0xe9b5dba5, 0x3956c25b, 0x59f111f1, 0x923f82a4, 0xab1c5ed5,
   0xd807aa98, 0x12835b01, 0x243185be, 0x550c7dc3, 0x72be5d74, 0x80deb1fe, 0x9bdc06a7, 0xc19bf174,
   0xe49b69c1, 0xefbe4786, 0x0fc19dc6, 0x240ca1cc, 0x2de92c6f, 0x4a7484aa, 0x5cb0a9dc, 0x76f988da,
   0x983e5152, 0xa831c66d, 0xb00327c8, 0xbf597fc7, 0xc6e00bf3, 0xd5a79147, 0x06ca6351, 0x14292967,
   0x27b70a85, 0x2e1b2138, 0x4d2c6dfc, 0x53380d13, 0x650a7354, 0x766a0abb, 0x81c2c92e, 0x92722c85,
   0xa2bfe8a1, 0xa81a664b, 0xc24b8b70, 0xc76c51a3, 0xd192e819, 0xd6990624, 0xf40e3585, 0x106aa070,
   0x19a4c116, 0x1e376c08, 0x2748774c, 0x34b0bcb5, 0x391c0cb3, 0x4ed8aa4a, 0x5b9cca4f, 0x682e6ff3,
   0x748f82ee, 0x78a5636f, 0x84c87814, 0x8cc70208, 0x90befffa, 0xa4506ceb, 0xbef9a3f7, 0xc67178f2]

/-- A 32-bit word turned right by `n` places. -/
def rotr (n x : Nat) : Nat := (x >>> n) ||| ((x <<< (32 - n)) % two32)

/-- The message schedule: from the last 16 words, newest first, `n` further words are made. -/
def shaExpand : Nat → List Nat → List Nat
  | 0, ws => ws
  | n + 1, ws =>
    let w15 := ws.getD 14 0
    let w2 := ws.getD 1 0
    let s0 := rotr 7 w15 ^^^ rotr 18 w15 ^^^ (w15 >>> 3)
    let s1 := rotr 17 w2 ^^^ rotr 19 w2 ^^^ (w2 >>> 10)
    shaExpand n (((ws.getD 15 0 + s0 + ws.getD 6 0 + s1) % two32) :: ws)

/-- One round of SHA-256 on the eight working words. -/
def shaRound (h : List Nat) (kw : Nat × Nat) : List Nat :=
  match h with
  | [a, b, c, d, e, f, g, hh] =>
    let s1 := rotr 6 e ^^^ rotr 11 e ^^^ rotr 25 e
    let ch := (e &&& f) ^^^ ((4294967295 ^^^ e) &&& g)
    let t1 := hh + s1 + ch + kw.1 + kw.2
    let s0 := rotr 2 a ^^^ rotr 13 a ^^^ rotr 22 a
    let maj := (a &&& b) ^^^ (a &&& c) ^^^ (b &&& c)
    [(t1 + s0 + maj) % two32, a, b, c, (d + t1) % two32, e, f, g]
  | _ => h

/-- One 64-byte block into the SHA-256 state. -/
def shaBlock (h : List Nat) (blk : Bytes) : List Nat :=
  let w := (List.range 16).map fun i => beNat ((blk.drop (4 * i)).take 4)
  let ws := (shaExpand 48 w.reverse).reverse
  let h' := (shaK.zip ws).foldl shaRound h
  List.zipWith (fun x y => (x + y) % two32) h h'

/-- The blocks of a padded message. -/
def shaBlocks : Nat → Bytes → List Nat → List Nat
  | 0, _, h => h
  | n + 1, bs, h => shaBlocks n (bs.drop 64) (shaBlock h (bs.take 64))

/-- SHA-256 (FIPS 180-4). -/
def sha256 (bs : Bytes) : Bytes :=
  let z := (119 - bs.length % 64) % 64
  let m := bs ++ (0x80 : Byte) :: (List.replicate z 0 ++ beBytes 8 (8 * bs.length))
  (shaBlocks (m.length / 64) m
    [0x6a09e667, 0xbb67ae85, 0x3c6ef372, 0xa54ff53a, 0x510e527f, 0x9b05688c, 0x1f83d9ab, 0x5be0cd19]).flatMap (beBytes 4)

/-- HMAC-SHA-256 (FIPS 198-1) under a key of at most 64 bytes. -/
def hmac (key msg : Bytes) : Bytes :=
  let k := key ++ List.replicate (64 - key.length) 0
  sha256 (k.map (· ^^^ 0x5C) ++ sha256 (k.map (· ^^^ 0x36) ++ msg))

/-- TIME80 of an instant in ns: seconds in bits [79:32], nanoseconds in [31:0] (R8). -/
def time80 (t : Nat) : Nat := (t / nsPerSec) * two32 + t % nsPerSec

/-- Is a TIME80 value legal (R8)? -/
def time80Ok (v : Nat) : Bool := v % two32 < nsPerSec

/-- The instant in ns of a TIME80 value. -/
def ofTime80 (v : Nat) : Nat := (v / two32) * nsPerSec + v % two32

/-- Is `bs` valid UTF-8 without overlong forms or surrogates (RFC 3629)? `fuel` bounds the walk by the length. -/
def utf8Ok : Nat → Bytes → Bool
  | 0, bs => bs.isEmpty
  | _ + 1, [] => true
  | n + 1, b :: r =>
    let v := b.toNat
    let cont (x : Byte) : Bool := x.toNat / 64 == 2
    if v < 0x80 then utf8Ok n r
    else if 0xC2 ≤ v && v ≤ 0xDF then
      match r with
      | x :: r' => cont x && utf8Ok n r'
      | _ => false
    else if 0xE0 ≤ v && v ≤ 0xEF then
      match r with
      | x :: y :: r' =>
        let c := (v % 16) * 4096 + (x.toNat % 64) * 64 + y.toNat % 64
        cont x && cont y && decide (0x800 ≤ c) && !(decide (0xD800 ≤ c) && decide (c ≤ 0xDFFF)) && utf8Ok n r'
      | _ => false
    else if 0xF0 ≤ v && v ≤ 0xF4 then
      match r with
      | x :: y :: z :: r' =>
        let c := (v % 8) * 262144 + (x.toNat % 64) * 4096 + (y.toNat % 64) * 64 + z.toNat % 64
        cont x && cont y && cont z && decide (0x10000 ≤ c) && decide (c ≤ 0x10FFFF) && utf8Ok n r'
      | _ => false
    else false

/-! ### IPv4 and UDP -/

/-- Sum of 16-bit words. -/
def wordSum : Bytes → Nat
  | [] => 0
  | [a] => a.toNat * 256
  | a :: b :: r => a.toNat * 256 + b.toNat + wordSum r

/-- Is the ones' complement sum of words all ones: a checksum that holds? -/
def sumOk (n : Nat) : Bool := n != 0 && n % 65535 == 0

/-- The ones' complement checksum of words that sum to `n`. -/
def checksum (n : Nat) : Nat := 65535 - (if n = 0 then 0 else if n % 65535 = 0 then 65535 else n % 65535)

/-- Length of the IPv4 header of packet `ip`. -/
def ihl (ip : Bytes) : Nat := (field ip 0 1 % 16) * 4

/-- Is the packet a fragment: MF set or an offset other than 0 (R296)? -/
def isFragment (ip : Bytes) : Bool := field ip 6 2 % 0x4000 != 0 && (bit (field ip 6 2) 13 || field ip 6 2 % 0x2000 != 0)

/-- Protocol of an IPv4 packet. -/
def ipProto (ip : Bytes) : Nat := field ip 9 1

/-- UDP destination port of an IPv4 packet that carries UDP; 0 otherwise. -/
def udpDst (ip : Bytes) : Nat := if ipProto ip = 17 then field ip (ihl ip + 2) 2 else 0

/-- Class 6 or 7 of Table 10.3 for an IPv4 packet delivered locally, as a flag; 0 when its checksums hold (R299). -/
def ipFlags (ip : Bytes) : Nat :=
  if !sumOk (wordSum (slice ip 0 (ihl ip))) then 32
  else if ipProto ip = 17 then
    let udp := (ip.take (field ip 2 2)).drop (ihl ip)
    if field udp 6 2 = 0 then 0
    else if sumOk (wordSum (slice ip 12 8) + 17 + field udp 4 2 + wordSum (udp.take (field udp 4 2))) then 0
    else 64
  else 0

/-- `b` with the bytes `v` from offset `at_` on. -/
def patch (b : Bytes) (at_ : Nat) (v : Bytes) : Bytes := b.take at_ ++ v ++ b.drop (at_ + v.length)

/-- An IPv4 packet with its header checksum, and with its UDP checksum or 0 in its place (R299). -/
def insertSums (udp : Bool) (ip : Bytes) : Bytes :=
  let h := ihl ip
  let ip := patch ip 10 [0, 0]
  let ip := patch ip 10 (beBytes 2 (checksum (wordSum (ip.take h))))
  if ipProto ip ≠ 17 ∨ ip.length < h + 8 then ip
  else
    let ip := patch ip (h + 6) [0, 0]
    let n := field ip (h + 4) 2
    let c := checksum (wordSum (slice ip 12 8) + 17 + n + wordSum ((ip.drop h).take n))
    if udp then patch ip (h + 6) (beBytes 2 (if c = 0 then 0xFFFF else c)) else ip

/-- The four FCS bytes of a frame body, least significant byte first (IEEE 802.3). -/
def fcsOf (body : Bytes) : Bytes := (beBytes 4 (crc32 body)).reverse

/-- A frame with its FCS. -/
def withFcs (body : Bytes) : Bytes := body ++ fcsOf body

/-- A frame body of at least 60 bytes, padded with 0x00 (R294). -/
def padded (body : Bytes) : Bytes := body ++ List.replicate (60 - body.length) 0

/-- An IPv4 packet of protocol `proto` with header options `opt` that the unit originates: identification 0, DF set, its header checksum
inserted (R299). -/
def ipPacket (proto tos ttl src dst : Nat) (opt b : Bytes) : Bytes :=
  insertSums false (beBytes 1 (0x45 + opt.length / 4) ++ beBytes 1 tos ++ beBytes 2 (20 + opt.length + b.length) ++ beBytes 4 0x4000 ++
    beBytes 1 ttl ++ beBytes 1 proto ++ beBytes 2 0 ++ beBytes 4 src ++ beBytes 4 dst ++ opt ++ b)

/-- A message of ICMP or IGMP with its checksum, the 16-bit word at offset 2. -/
def withSum (b : Bytes) : Bytes := patch b 2 (beBytes 2 (checksum (wordSum (patch b 2 [0, 0]))))

/-- An IPv4 packet of UDP that the unit originates: identification 0, DF set, its checksums inserted, the UDP checksum only with
`csum` (R299). -/
def ipUdp (csum : Bool) (src dst sport dport dscp ttl : Nat) (b : Bytes) : Bytes :=
  insertSums csum (beBytes 1 0x45 ++ beBytes 1 (4 * dscp) ++ beBytes 2 (28 + b.length) ++ beBytes 4 0x4000 ++ beBytes 1 ttl ++
    beBytes 1 17 ++ beBytes 2 0 ++ beBytes 4 src ++ beBytes 4 dst ++ beBytes 2 sport ++ beBytes 2 dport ++
    beBytes 2 (8 + b.length) ++ beBytes 2 0 ++ b)

end Sys2Proof.Machine
end

