-- ==== Sys2Proof/Machine/Pixel.lean ====
section
/-! DEFINITION. Pixel arithmetic (R102, R109, R114 to R121, R124 to R127, R129): conversion to code values, the packed
codec, the polyphase filter, linearisation, alpha, blending and encoding, as functions of plain numbers. -/

namespace Sys2Proof.Machine

/-- A pixel of 16-bit code values. -/
structure Pix where
  r : Nat
  g : Nat
  b : Nat
  a : Nat
  deriving DecidableEq, Repr

/-- `n / d` to the nearest whole number, a tie upward, held from 0 to 65,535. -/
def codeOf (n : Int) (d : Nat) : Nat :=
  let v := (2 * n + d) / (2 * d)
  if v < 0 then 0 else min 65535 v.toNat

/-- Full-range conversion of a sample of `b` bits (R102). -/
def codeFull (b s : Nat) : Nat := (s * 65535 + 2 ^ (b - 1) - 1) / (2 ^ b - 1)

/-- Narrow-range conversion of an RGB sample of `b` bits (R102). -/
def codeNarrow (b s : Nat) : Nat := codeOf (((s : Int) - (16 * 2 ^ (b - 8) : Nat)) * 65535) (219 * 2 ^ (b - 8))

/-- YCbCr to R, G, B codes (R102): `full` and `bt2020` choose range and matrix. The matrix is exact, in units of 10^-5. -/
def codeYcc (full bt2020 : Bool) (y cb cr : Nat) : Pix :=
  let m : Int × Int × Int × Int := if bt2020 then (147460, 16455, 57135, 188140) else (157480, 18730, 46810, 185560)
  let u : Int := (cb : Int) - 512
  let v : Int := (cr : Int) - 512
  let luma : Int := if full then (y : Int) * 100000 else ((y : Int) - 64) * 89600000
  let k : Int := if full then 1 else 876
  let d : Nat := if full then 102300000 else 876 * 89600000
  { r := codeOf ((luma + k * m.1 * v) * 65535) d
    g := codeOf ((luma - k * (m.2.1 * u + m.2.2.1 * v)) * 65535) d
    b := codeOf ((luma + k * m.2.2.2 * u) * 65535) d
    a := 65535 }

/-! ### The packed codec (R114 to R119) -/

/-- The bits of a byte, most significant first. -/
def byteBits (b : Byte) : List Bool := (List.range 8).map fun i => (b.toNat / 2 ^ (7 - i)) % 2 == 1

/-- The number that bits spell, most significant first. -/
def bitsNat (l : List Bool) : Nat := l.foldl (fun a b => 2 * a + (if b then 1 else 0)) 0

/-- Take `n` bits; none when they run out. -/
def takeBits (n : Nat) (l : List Bool) : Option (Nat × List Bool) :=
  if l.length < n then none else some (bitsNat (l.take n), l.drop n)

/-- A residual code with Rice parameter `k` of a `b`-bit component (R118); 25 zeros in a row are an error. -/
def riceCode (b k : Nat) (l : List Bool) : Option (Nat × List Bool) :=
  let q := (l.takeWhile fun x => !x).length
  if 24 < q then none
  else
    match l.drop q with
    | [] => none
    | _ :: r =>
      if q < 24 then (takeBits k r).map fun p => (q * 2 ^ k + p.1, p.2)
      else takeBits b r

/-- The prediction of the sample at (u, v) of a block `w` wide from the samples before it (R117). -/
def predict (b w u v : Nat) (l : List Nat) : Nat :=
  let at_ := fun x y => l.getD (y * w + x) 0
  if u = 0 ∧ v = 0 then 2 ^ (b - 1)
  else if v = 0 then at_ (u - 1) 0
  else if u = 0 then at_ 0 (v - 1)
  else
    let a := at_ (u - 1) v
    let o := at_ u (v - 1)
    let c := at_ (u - 1) (v - 1)
    if max a o ≤ c then min a o else if c ≤ min a o then max a o else a + o - c

/-- The sample with prediction `p` and mapped residual `m` (R118). -/
def unmap (b p m : Nat) : Nat :=
  let e : Int := if m % 2 = 0 then (m / 2 : Nat) else -((m + 1) / 2 : Nat)
  (((p : Int) + e) % (2 ^ b : Nat)).toNat

/-- One pixel's samples: for each component its code, the constant when the code is 15, and the samples so far. -/
def packPixel (b w u v : Nat) : List (Nat × Nat × List Nat) → List Bool → Option (List (Nat × Nat × List Nat) × List Bool)
  | [], l => some ([], l)
  | (k, c, xs) :: r, l =>
    if k = 15 then (packPixel b w u v r l).map fun p => ((k, c, xs ++ [c]) :: p.1, p.2)
    else
      match riceCode b k l with
      | none => none
      | some (m, l) =>
        (packPixel b w u v r l).map fun p => ((k, c, xs ++ [unmap b (predict b w u v xs) m]) :: p.1, p.2)

/-- The pixels of a block in raster order. -/
def packPixels (b w : Nat) : List Nat → List (Nat × Nat × List Nat) → List Bool →
    Option (List (Nat × Nat × List Nat) × List Bool)
  | [], cs, l => some (cs, l)
  | i :: r, cs, l =>
    match packPixel b w (i % w) (i / w) cs l with
    | none => none
    | some (cs, l) => packPixels b w r cs l

/-- The component codes at the head of a block. -/
def packCodes : Nat → List Bool → Option (List Nat × List Bool)
  | 0, l => some ([], l)
  | n + 1, l =>
    match takeBits 4 l with
    | none => none
    | some (k, l) => (packCodes n l).map fun p => (k :: p.1, p.2)

/-- The constants of the components coded 15. -/
def packConsts (b : Nat) : List Nat → List Bool → Option (List (Nat × Nat × List Nat) × List Bool)
  | [], l => some ([], l)
  | k :: r, l =>
    if k = 15 then
      match takeBits b l with
      | none => none
      | some (c, l) => (packConsts b r l).map fun p => ((k, c, []) :: p.1, p.2)
    else (packConsts b r l).map fun p => ((k, 0, []) :: p.1, p.2)

/-- A block of `w` by `h` pixels: its samples per component, and the bits after its last byte. -/
def packBlock (b comps w h : Nat) (l : List Bool) : Option (List (List Nat) × List Bool) :=
  match packCodes comps l with
  | none => none
  | some (ks, l) =>
    match packConsts b ks l with
    | none => none
    | some (cs, l) =>
      (packPixels b w (List.range (w * h)) cs l).map fun p => (p.1.map fun c => c.2.2, p.2.drop (p.2.length % 8))

/-- The blocks of a block row, left to right: `widths` are their widths. -/
def packRow (b comps h : Nat) : List Nat → List Bool → Option (List (List (List Nat)))
  | [], _ => some []
  | w :: r, l =>
    match packBlock b comps w h l with
    | none => none
    | some (blk, l) => (packRow b comps h r l).map fun bs => blk :: bs

/-- Undo the colour transform (R116). -/
def unRct (b : Nat) (rct : Bool) (c : List Nat) : List Nat :=
  match rct, c with
  | true, g :: r :: x :: rest => ((r + g) % 2 ^ b) :: g :: ((x + g) % 2 ^ b) :: rest
  | _, _ => c

/-! ### Scaling (R120, R121) -/

/-- START and STEP of an axis: crop size and window size. -/
def scaleStep (crop dst : Nat) : Nat := crop * 65536 / dst

/-- pos of output `j`. -/
def scalePos (crop dst j : Nat) : Int := ((scaleStep crop dst / 2 : Nat) : Int) - 32768 + (j * scaleStep crop dst : Nat)

/-- x0 of a position. -/
def scaleBase (pos : Int) : Int := pos / 65536

/-- phase of a position. -/
def scalePhase (pos : Int) : Nat := ((pos / 4096) % 16).toNat

/-- A filtered value: (acc + 512) >> 10, held from 0 to 65,535. -/
def filterOut (acc : Int) : Nat :=
  let v := (acc + 512) / 1024
  if v < 0 then 0 else min 65535 v.toNat

/-- A tap of a crop `n` long. -/
def tapAt (n : Nat) (i : Int) : Nat := if i < 0 then 0 else min (n - 1) i.toNat

/-- One filter pass over the colour `c` of the taps. -/
def filterTaps (coef : Nat → Int) (taps : List Pix) (c : Pix → Nat) : Nat :=
  filterOut (((List.range taps.length).zip taps).foldl (fun a p => a + coef p.1 * (c p.2 : Nat)) 0)

/-- One filter pass over every colour. -/
def filterPix (coef : Nat → Int) (taps : List Pix) : Pix :=
  { r := filterTaps coef taps Pix.r, g := filterTaps coef taps Pix.g, b := filterTaps coef taps Pix.b,
    a := filterTaps coef taps Pix.a }

/-- The pixel at column `j`, line `i` of a window `dw` by `dh` scaled from a crop `cw` by `ch`; `coef` gives the bank's
horizontal coefficients, phase times 8 plus tap, then its vertical ones from 128 on, phase times 6 plus tap. -/
def scalePix (coef : Nat → Int) (cw ch dw dh : Nat) (src : Nat → Nat → Pix) (j i : Nat) : Pix :=
  let px := scalePos cw dw j
  let py := scalePos ch dh i
  let line := fun y =>
    filterPix (fun t => coef (scalePhase px * 8 + t)) ((List.range 8).map fun (t : Nat) => src (tapAt cw (scaleBase px - 3 + t)) y)
  filterPix (fun t => coef (128 + scalePhase py * 6 + t)) ((List.range 6).map fun (t : Nat) => line (tapAt ch (scaleBase py - 2 + t)))

/-! ### Linearise, alpha, blend, encode (R124 to R127) -/

/-- An interpolated table entry: E[i] + (((E[i+1] − E[i]) × f + half) >> sh), held from 0 to `top`. -/
def lutStep (e : Nat → Nat) (i f half sh top : Nat) : Nat :=
  let v : Int := (e i : Nat) + (((e (i + 1) : Nat) - (e i : Nat) : Int) * f + half) / (2 ^ sh : Nat)
  if v < 0 then 0 else min top v.toNat

/-- Linearise a 16-bit code (R124). -/
def linearise (e : Nat → Nat) (c : Nat) : Nat :=
  let x := (c * 65472 + 32767) / 65535
  if x / 64 = 1023 then min 1048575 (e 1023) else lutStep e (x / 64) (x % 64) 32 6 1048575

/-- Degamma entries of a bank nothing supplies (R124). -/
def degammaDefault (i : Nat) : Nat := (i * 1048575 + 511) / 1023

/-- A 16-bit value as a fraction of 65,536. -/
def unit16 (v : Nat) : Nat := v + v / 32768

/-- a_eff before the loop's ramp (R125). -/
def alphaEff (opacity depth m : Nat) : Nat := (unit16 opacity * (65536 - (unit16 depth * (65536 - m)) / 65536)) / 65536

/-- The alpha of a pixel (R125). -/
def alphaPix (aeff a : Nat) : Nat := (aeff * unit16 a + 32768) / 65536

/-- Hold a 20-bit linear value in its range. -/
def sat20 (v : Int) : Nat := if v < 0 then 0 else min 1048575 v.toNat

/-- Blend `c` over `d` (R126): mode 0 OVER, 1 PREMUL_OVER, 2 ADD. -/
def blend (mode aeff a c d : Nat) : Nat :=
  match mode with
  | 1 => sat20 (((c * aeff + d * (65536 - a) + 32768) / 65536 : Nat) : Int)
  | 2 => sat20 ((d : Int) + ((c * a + 32768) / 65536 : Nat))
  | _ => sat20 ((d : Int) + (((c : Int) - d) * a + 32768) / 65536)

/-- The largest `r` with `r * r ≤ n`, found bit by bit: `k` bits of it are still to try. -/
def isqrtBits : Nat → Nat → Nat → Nat
  | 0, _, r => r
  | k + 1, n, r => if (r + 2 ^ k) * (r + 2 ^ k) ≤ n then isqrtBits k n (r + 2 ^ k) else isqrtBits k n r

/-- Floor of the square root, for numbers below 2^64. -/
def isqrt (n : Nat) : Nat := isqrtBits 32 n 0

/-- Encode a linear value (R127): LIN16, or through the encode bank `e`. -/
def encode16 (lut : Bool) (e : Nat → Nat) (v : Nat) : Nat :=
  if lut then
    let q := isqrt (v * 1048576)
    if q / 1024 = 1023 then min 65535 (e 1023) else lutStep e (q / 1024) (q % 1024) 512 10 65535
  else min 65535 ((v + 8) / 16)

/-- The bytes of a pixel in an ember entry (R129). Each value is stored most significant byte first, and E32 packs its fields as
RGB10A2 of Table 4.6 does (DESIGN CHOICE, log 84: R129 gives the codes and the sizes, not the places). -/
def emberPack (fmt : Nat) (p : Pix) : Bytes :=
  match fmt with
  | 0 =>
    let c := fun v => min 1023 ((v + 32) / 64)
    beBytes 4 (c p.r * 4194304 + c p.g * 4096 + c p.b * 4 + (p.a * 3 + 32767) / 65535)
  | 1 => beBytes 2 p.r ++ beBytes 2 p.g ++ beBytes 2 p.b
  | _ => beBytes 2 p.r ++ beBytes 2 p.g ++ beBytes 2 p.b ++ beBytes 2 p.a

/-- The pixel that the bytes of an ember entry give back (R129). -/
def emberPix (fmt : Nat) (b : Bytes) : Pix :=
  match fmt with
  | 0 =>
    let v := field b 0 4
    let c := fun x => (x * 65535 + 511) / 1023
    { r := c (bits v 31 22), g := c (bits v 21 12), b := c (bits v 11 2), a := bits v 1 0 * 21845 }
  | 1 => { r := field b 0 2, g := field b 2 2, b := field b 4 2, a := 65535 }
  | _ => { r := field b 0 2, g := field b 2 2, b := field b 4 2, a := field b 6 2 }

/-- Bytes of an ember pixel (R129). -/
def emberSize (fmt : Nat) : Nat := match fmt with
  | 0 => 4 | 1 => 6 | _ => 8

/-! ### The colour chain's arithmetic (R177 to R181) -/

/-- Hold a value from 0 to 65,535. -/
def sat16 (v : Int) : Nat := if v < 0 then 0 else min 65535 v.toNat

/-- A matrix row applied to a sample (R178). -/
def matrixRow (a0 a1 a2 : Int) (p : Pix) : Nat := sat16 ((a0 * p.r + a1 * p.g + a2 * p.b + 2048) / 4096)

/-- A coefficient between two matrices at weight `w` (R178). -/
def matrixMix (x y : Int) (w : Nat) : Int := x + ((y - x) * w + 32768) / 65536

/-- A gain with 32,768 as 1 (R179). -/
def gain15 (v g : Nat) : Nat := min 65535 ((v * g + 16384) / 32768)

/-- The 16-bit reversal of `v`. -/
def reverse16 (v : Nat) : Nat := (List.range 16).foldl (fun a i => a * 2 + (v / 2 ^ i) % 2) 0

/-- Reduction to `b` bits with threshold `t`, left-aligned in 16 (R180). -/
def reduceBits (b v t : Nat) : Nat := ((v * (2 ^ b - 1) + t) / 65535) * 2 ^ (16 - b)

/-- The dither threshold of channel `c` of endpoint `e` in tick `n` (R180). -/
def ditherAt (e c n : Nat) : Nat := (reverse16 ((e * 40503 + c * 32587 + (n % 65536) * 15471) % 65536) * 65535) / 65536

/-- The output LUT (R180, step 6). -/
def outLut (e : Nat → Nat) (v : Nat) : Nat :=
  if v / 16 = 4095 then min 65535 (e 4095) else lutStep e (v / 16) (v % 16) 8 4 65535

/-- k of a fade curve at position `p` of 65,536, `last` at t = D (Table 6.5). -/
def fadeCurve (curve p : Nat) (last : Bool) : Nat :=
  match curve with
  | 0 => p
  | 1 => (((p * p) / 65536) * (196608 - 2 * p)) / 65536
  | 2 => (p * p) / 65536
  | 3 => isqrt (p * 65536)
  | _ => if last then 65536 else 0

/-- The level of a fade at tick `t` of `d` (R183). -/
def fadeLevel (start goal d curve t : Nat) : Nat :=
  let k := fadeCurve curve (min t d * 65536 / d) (decide (d ≤ t))
  ((start : Int) + (((goal : Int) - start) * k + 32768) / 65536).toNat

end Sys2Proof.Machine
end

