-- ==== Sys2Proof/Config.lean ====
section
/-! DEFINITION. What the specification leaves open and the machine still needs: free values. Each is an opaque constant
with no body, applied to the plain counter `State.freeCount`, so that nothing in Lean can evaluate it or prove a value of
it. The assumption log names each of them. -/

namespace Sys2Proof.Config

/-- A random value of the on-die generator (R350, R351): DEVICE_NONCE, SESSION_ID and INITIAL_SEQ are drawn from it. The
argument is the free-value counter. -/
opaque freeRandom : Nat → Nat

/-- A 32-bit value the specification does not state; the argument is the free-value counter. -/
opaque freeWord : Nat → Nat

/-- A signed number the specification does not state; the argument is the free-value counter. -/
opaque freeInt : Nat → Int

/-- A scaler coefficient of a bank that nothing has written (R123 gives such a bank no contents); the argument is the bank
times 256 plus the place in it. -/
opaque freeCoef : Nat → Int

/-- An entry of an encode bank that nothing has written (R124 gives its contents for 20-bit banks only); the argument is the
bank times 1,024 plus the place in it. -/
opaque freeEncode : Nat → Nat

/-- The busy share of an engine in the last tick, in per mille (Table 14.4 gives it no rule); the arguments are the engine
and TICK_INDEX. -/
opaque freeBusy : Nat → Nat → Nat

/-- VREFIN against the internal bandgap as measured in a tick (R249 gives its accuracy, no value); the argument is
TICK_INDEX. -/
opaque freeBandgap : Nat → Nat

/-- The gain of the servo's frequency term, in 1 / 65,536 of the most that R273's bound on overshoot allows; R273 gives no value. -/
opaque freeGain : Nat

end Sys2Proof.Config
end

