-- ==== Sys2Proof/Machine/Regs.lean ====
section
/-! DEFINITION. The numbers of the registers: a subindex `II II h . SS` of the object dictionary is the number
`0xIIIISS`, the key it has in the register map. One name for each subindex of the specification's object tables; a name
with arguments stands for a table repeated per layer, stream, port and so on. -/

namespace Sys2Proof.Reg

/-- The key of subindex `sub` of object `ix`. -/
abbrev key (ix sub : Nat) : Nat := ix * 256 + sub

/-- 1000h.01 VENDOR_ID. -/
abbrev vendorId : Nat := 0x100001
/-- 1000h.02 PART_CODE. -/
abbrev partCode : Nat := 0x100002
/-- 1000h.03 STEPPING. -/
abbrev stepping : Nat := 0x100003
/-- 1000h.04 GRADE. -/
abbrev grade : Nat := 0x100004
/-- 1000h.05 SERIAL. -/
abbrev serial : Nat := 0x100005
/-- 1010h.01 FW_VERSION. -/
abbrev fwVersion : Nat := 0x101001
/-- 1010h.02 FW_RUNNING. -/
abbrev fwRunning : Nat := 0x101002
/-- 1010h.03 FW_IMAGE. -/
abbrev fwImage : Nat := 0x101003
/-- 1010h.04 FW_FALLBACK. -/
abbrev fwFallback : Nat := 0x101004
/-- 1010h.05 FW_STATE. -/
abbrev fwState : Nat := 0x101005
/-- 1010h.06 FW_RESTART. -/
abbrev fwRestart : Nat := 0x101006
/-- 1010h.07 FW_FLOOR. -/
abbrev fwFloor : Nat := 0x101007
/-- 1010h.08 FW_FLOOR_RAISE. -/
abbrev fwFloorRaise : Nat := 0x101008
/-- 1010h.09 PRIMARY_VERSION. -/
abbrev primaryVersion : Nat := 0x101009
/-- 1012h.01 FLASH_RAW. -/
abbrev flashRaw : Nat := 0x101201
/-- 1100h.01 MODE. -/
abbrev modeR : Nat := 0x110001
/-- 1100h.02 REQ_SHOW. -/
abbrev reqShow : Nat := 0x110002
/-- 1100h.03 REQ_STAGING. -/
abbrev reqStaging : Nat := 0x110003
/-- 1100h.04 REQ_DARK. -/
abbrev reqDark : Nat := 0x110004
/-- 1100h.05 LAST_CAUSE. -/
abbrev lastCause : Nat := 0x110005
/-- 1100h.06 SHOW_BLOCK. -/
abbrev showBlock : Nat := 0x110006
/-- 1100h.07 AUTO_SHOW. -/
abbrev autoShow : Nat := 0x110007
/-- 1100h.08 HOLDOVER_LIMIT. -/
abbrev holdoverLimit : Nat := 0x110008
/-- 1100h.09 ROPE_WAIT. -/
abbrev ropeWait : Nat := 0x110009
/-- 1100h.0A PTP_WAIT. -/
abbrev ptpWait : Nat := 0x11000A
/-- 1100h.0B GM_ALLOWED. -/
abbrev gmAllowed : Nat := 0x11000B
/-- 1101h.01 TICK_NUM. -/
abbrev tickNum : Nat := 0x110101
/-- 1101h.02 TICK_DEN. -/
abbrev tickDen : Nat := 0x110102
/-- 1101h.03 LATENCY. -/
abbrev latency : Nat := 0x110103
/-- 1101h.04 TICK_INDEX. -/
abbrev tickIndex : Nat := 0x110104
/-- 1101h.05 TICK_TIME. -/
abbrev tickTime : Nat := 0x110105
/-- 1101h.06 MARGIN_MIN. -/
abbrev marginMin : Nat := 0x110106
/-- 1101h.07 HOLD_TICKS. -/
abbrev holdTicks : Nat := 0x110107
/-- 1F10h.01 COMMIT. -/
abbrev commit : Nat := 0x1F1001
/-- 1F10h.02 DISCARD. -/
abbrev discard : Nat := 0x1F1002
/-- 1F10h.03 STAGED_COUNT. -/
abbrev stagedCount : Nat := 0x1F1003
/-- 1F10h.04 LAST_COMMIT_TICK. -/
abbrev lastCommitTick : Nat := 0x1F1004
/-- 1F12h.01 TIMED_PENDING. -/
abbrev timedPending : Nat := 0x1F1201
/-- 1F12h.02 TIMED_NEXT. -/
abbrev timedNext : Nat := 0x1F1202
/-- 1F12h.03 TIMED_CANCEL. -/
abbrev timedCancel : Nat := 0x1F1203
/-- 1F20h.01 CLAMP_READ. -/
abbrev clampRead : Nat := 0x1F2001
/-- 1F20h.02 CLAMP_DEPTH. -/
abbrev clampDepth : Nat := 0x1F2002
/-- 1F20h.03 CLAMP_LOST. -/
abbrev clampLost : Nat := 0x1F2003
/-- 1F21h.01 REJECT_READ. -/
abbrev rejectRead : Nat := 0x1F2101
/-- 1F21h.02 REJECT_DEPTH. -/
abbrev rejectDepth : Nat := 0x1F2102
/-- 1F21h.03 REJECT_LOST. -/
abbrev rejectLost : Nat := 0x1F2103
/-- 2000h.01 CLOCK_NOW. -/
abbrev clockNow : Nat := 0x200001
/-- 2000h.02 CLOCK_STATE. -/
abbrev clockState : Nat := 0x200002
/-- 2000h.03 RATE_TRIM. -/
abbrev rateTrim : Nat := 0x200003
/-- 2000h.04 SNAPSHOT. -/
abbrev snapshot : Nat := 0x200004
/-- 2000h.05 SNAP_TIME. -/
abbrev snapTime : Nat := 0x200005
/-- 2000h.06 SNAP_TICK. -/
abbrev snapTick : Nat := 0x200006
/-- 2000h.07 SNAP_TICK_TIME. -/
abbrev snapTickTime : Nat := 0x200007
/-- 2000h.08 SNAP_FRAME. -/
abbrev snapFrame : Nat := 0x200008
/-- 2000h.09 TICK_BIAS. -/
abbrev tickBias : Nat := 0x200009
/-- 2000h.0A STEPS. -/
abbrev steps : Nat := 0x20000A
/-- 2001h.01 PROFILE. -/
abbrev profile : Nat := 0x200101
/-- 2001h.02 DOMAIN. -/
abbrev domain : Nat := 0x200102
/-- 2001h.03 PRIORITY1. -/
abbrev priority1 : Nat := 0x200103
/-- 2001h.04 PRIORITY2. -/
abbrev priority2 : Nat := 0x200104
/-- 2001h.05 LOG_SYNC. -/
abbrev logSync : Nat := 0x200105
/-- 2001h.06 LOG_ANNOUNCE. -/
abbrev logAnnounce : Nat := 0x200106
/-- 2001h.07 ANNOUNCE_TIMEOUT. -/
abbrev announceTimeout : Nat := 0x200107
/-- 2001h.08 LOG_DELAY_REQ. -/
abbrev logDelayReq : Nat := 0x200108
/-- 2001h.09 LOG_PDELAY. -/
abbrev logPdelay : Nat := 0x200109
/-- 2001h.0A TRAIL_MODE. -/
abbrev trailMode : Nat := 0x20010A
/-- 2001h.0B PTP_DSCP. -/
abbrev ptpDscp : Nat := 0x20010B
/-- 2001h.0C PTP_IGNORED. -/
abbrev ptpIgnored : Nat := 0x20010C
/-- 2001h.0D to .0F LINK_DELAY, j from 0. -/
abbrev linkDelay (j : Nat) : Nat := 0x20010D + j
/-- 2002h.01 STEP_THRESHOLD. -/
abbrev stepThreshold : Nat := 0x200201
/-- 2002h.02 ACCEPT_STEP. -/
abbrev acceptStep : Nat := 0x200202
/-- 2002h.03 AUTO_ACCEPT. -/
abbrev autoAccept : Nat := 0x200203
/-- 2002h.04 ACCEPT_WINDOW. -/
abbrev acceptWindow : Nat := 0x200204
/-- 2002h.05 STEP_PENDING. -/
abbrev stepPending : Nat := 0x200205
/-- 2002h.06 LAST_STEP. -/
abbrev lastStep : Nat := 0x200206
/-- 2002h.07 LAST_STEP_TICK. -/
abbrev lastStepTick : Nat := 0x200207
/-- 2003h.01 SERVO_STATE. -/
abbrev servoState : Nat := 0x200301
/-- 2003h.02 OFFSET_PS. -/
abbrev offsetPs : Nat := 0x200302
/-- 2003h.03 MEAN_PATH_PS. -/
abbrev meanPathPs : Nat := 0x200303
/-- 2003h.04 LOCK_NS. -/
abbrev lockNs : Nat := 0x200304
/-- 2003h.05 DISCARDS. -/
abbrev discards : Nat := 0x200305
/-- 2003h.06 OUTLIERS. -/
abbrev outliers : Nat := 0x200306
/-- 2003h.07 HOLDOVER_MS. -/
abbrev holdoverMs : Nat := 0x200307
/-- 2003h.08 GM_IDENTITY. -/
abbrev gmIdentity : Nat := 0x200308
/-- 2003h.09 PARENT_PORT. -/
abbrev parentPort : Nat := 0x200309
/-- 2003h.0A STEPS_REMOVED. -/
abbrev stepsRemoved : Nat := 0x20030A
/-- 2100h.01 MODE, instance k of 4. -/
abbrev pulseMode (k : Nat) : Nat := 0x210001 + 256 * k
/-- 2100h.02 START, instance k of 4. -/
abbrev pulseStart (k : Nat) : Nat := 0x210002 + 256 * k
/-- 2100h.03 PERIOD, instance k of 4. -/
abbrev pulsePeriod (k : Nat) : Nat := 0x210003 + 256 * k
/-- 2100h.04 WIDTH, instance k of 4. -/
abbrev pulseWidth (k : Nat) : Nat := 0x210004 + 256 * k
/-- 2100h.05 TICK_DIV, instance k of 4. -/
abbrev pulseTickDiv (k : Nat) : Nat := 0x210005 + 256 * k
/-- 2100h.06 TICK_OFFSET, instance k of 4. -/
abbrev pulseTickOffset (k : Nat) : Nat := 0x210006 + 256 * k
/-- 2100h.07 POLARITY, instance k of 4. -/
abbrev pulsePolarity (k : Nat) : Nat := 0x210007 + 256 * k
/-- 2100h.08 STATE, instance k of 4. -/
abbrev pulseState (k : Nat) : Nat := 0x210008 + 256 * k
/-- 2100h.09 FIRED, instance k of 4. -/
abbrev pulseFired (k : Nat) : Nat := 0x210009 + 256 * k
/-- 2110h.01 EDGE_SEL, instance k of 4. -/
abbrev eciEdgeSel (k : Nat) : Nat := 0x211001 + 256 * k
/-- 2110h.02 CAPTURE, instance k of 4. -/
abbrev eciCapture (k : Nat) : Nat := 0x211002 + 256 * k
/-- 2110h.03 DEPTH, instance k of 4. -/
abbrev eciDepth (k : Nat) : Nat := 0x211003 + 256 * k
/-- 2110h.04 LOST, instance k of 4. -/
abbrev eciLost (k : Nat) : Nat := 0x211004 + 256 * k
/-- 3000h.01 SPEED, instance k of 2. -/
abbrev portSpeed (k : Nat) : Nat := 0x300001 + 16384 * k
/-- 3000h.02 FEC, instance k of 3. -/
abbrev portFec (k : Nat) : Nat := 0x300002 + 16384 * k
/-- 3000h.03 ENABLE, instance k of 3. -/
abbrev portEnable (k : Nat) : Nat := 0x300003 + 16384 * k
/-- 3000h.04 LINK_STATE, instance k of 3. -/
abbrev portLinkState (k : Nat) : Nat := 0x300004 + 16384 * k
/-- 3000h.05 MAX_FRAME, instance k of 2. -/
abbrev portMaxFrame (k : Nat) : Nat := 0x300005 + 16384 * k
/-- 3000h.06 PAUSE_RX_EN, instance k of 2. -/
abbrev portPauseRxEn (k : Nat) : Nat := 0x300006 + 16384 * k
/-- 3000h.07 PW_LIMIT, instance k of 3. -/
abbrev portPwLimit (k : Nat) : Nat := 0x300007 + 16384 * k
/-- 3000h.08 PAUSE_STATE, instance k of 3. -/
abbrev portPauseState (k : Nat) : Nat := 0x300008 + 16384 * k
/-- 3000h.09 TX_UDP_CSUM, instance k of 3. -/
abbrev portTxUdpCsum (k : Nat) : Nat := 0x300009 + 16384 * k
/-- 3000h.0A DELIVER_BAD, instance k of 3. -/
abbrev portDeliverBad (k : Nat) : Nat := 0x30000A + 16384 * k
/-- 3000h.0B VLAN, instance k of 3. -/
abbrev portVlan (k : Nat) : Nat := 0x30000B + 16384 * k
/-- 3000h.0C PCP, instance k of 3. -/
abbrev portPcp (k : Nat) : Nat := 0x30000C + 16384 * k
/-- 3000h.0D MAC_ADDR, instance k of 3. -/
abbrev portMacAddr (k : Nat) : Nat := 0x30000D + 16384 * k
/-- 3000h.0E LINK_CHANGES, instance k of 3. -/
abbrev portLinkChanges (k : Nat) : Nat := 0x30000E + 16384 * k
/-- 3000h.0F DIAG_SNAP, instance k of 3. -/
abbrev portDiagSnap (k : Nat) : Nat := 0x30000F + 16384 * k
/-- 3000h.10 TSQ_DEPTH, instance k of 3. -/
abbrev portTsqDepth (k : Nat) : Nat := 0x300010 + 16384 * k
/-- 3001h.01 RX_FRAMES, instance k of 3. -/
abbrev cntRxFrames (k : Nat) : Nat := 0x300101 + 16384 * k
/-- 3001h.02 RX_OCTETS, instance k of 3. -/
abbrev cntRxOctets (k : Nat) : Nat := 0x300102 + 16384 * k
/-- 3001h.03 TX_FRAMES, instance k of 3. -/
abbrev cntTxFrames (k : Nat) : Nat := 0x300103 + 16384 * k
/-- 3001h.04 TX_OCTETS, instance k of 3. -/
abbrev cntTxOctets (k : Nat) : Nat := 0x300104 + 16384 * k
/-- 3001h.05 RUNTS, instance k of 3. -/
abbrev cntRunts (k : Nat) : Nat := 0x300105 + 16384 * k
/-- 3001h.06 STOMPED_RX, instance k of 3. -/
abbrev cntStompedRx (k : Nat) : Nat := 0x300106 + 16384 * k
/-- 3001h.07 OVERSIZE, instance k of 3. -/
abbrev cntOversize (k : Nat) : Nat := 0x300107 + 16384 * k
/-- 3001h.08 ALIGN_ERRORS, instance k of 3. -/
abbrev cntAlignErrors (k : Nat) : Nat := 0x300108 + 16384 * k
/-- 3001h.09 FCS_ERRORS, instance k of 3. -/
abbrev cntFcsErrors (k : Nat) : Nat := 0x300109 + 16384 * k
/-- 3001h.0A CSUM_ERRORS, instance k of 3. -/
abbrev cntCsumErrors (k : Nat) : Nat := 0x30010A + 16384 * k
/-- 3001h.0B STOMPED_TX, instance k of 3. -/
abbrev cntStompedTx (k : Nat) : Nat := 0x30010B + 16384 * k
/-- 3001h.0C TX_DISCARDS, instance k of 3. -/
abbrev cntTxDiscards (k : Nat) : Nat := 0x30010C + 16384 * k
/-- 3001h.0D IPV6_DROPS, instance k of 3. -/
abbrev cntIpv6Drops (k : Nat) : Nat := 0x30010D + 16384 * k
/-- 3001h.0E FRAGMENTS, instance k of 3. -/
abbrev cntFragments (k : Nat) : Nat := 0x30010E + 16384 * k
/-- 3001h.0F VLAN_DROPS, instance k of 3. -/
abbrev cntVlanDrops (k : Nat) : Nat := 0x30010F + 16384 * k
/-- 3001h.10 CTRL_UNSUPPORTED, instance k of 3. -/
abbrev cntCtrlUnsupported (k : Nat) : Nat := 0x300110 + 16384 * k
/-- 3001h.11 FILTERED, instance k of 3. -/
abbrev cntFiltered (k : Nat) : Nat := 0x300111 + 16384 * k
/-- 3001h.12 RX_QUEUE_DROPS, instance k of 3. -/
abbrev cntRxQueueDrops (k : Nat) : Nat := 0x300112 + 16384 * k
/-- 3001h.13 PAUSE_RX, instance k of 3. -/
abbrev cntPauseRx (k : Nat) : Nat := 0x300113 + 16384 * k
/-- 3001h.14 PAUSE_WATCHDOG, instance k of 3. -/
abbrev cntPauseWatchdog (k : Nat) : Nat := 0x300114 + 16384 * k
/-- 3002h.01 TSQ_LEVEL, instance k of 3. -/
abbrev tsqTsqLevel (k : Nat) : Nat := 0x300201 + 16384 * k
/-- 3002h.02 TSQ_LOST, instance k of 3. -/
abbrev tsqTsqLost (k : Nat) : Nat := 0x300202 + 16384 * k
/-- 3002h.03 TSQ_HIGH, instance k of 3. -/
abbrev tsqTsqHigh (k : Nat) : Nat := 0x300203 + 16384 * k
/-- 3003h.01 DIAG_READ, instance k of 3. -/
abbrev diagDiagRead (k : Nat) : Nat := 0x300301 + 16384 * k
/-- 3003h.02 DIAG_DEPTH, instance k of 3. -/
abbrev diagDiagDepth (k : Nat) : Nat := 0x300302 + 16384 * k
/-- 3003h.03 DIAG_LOST, instance k of 3. -/
abbrev diagDiagLost (k : Nat) : Nat := 0x300303 + 16384 * k
/-- 3080h.01 SPEED. -/
abbrev portTrailSpeed : Nat := 0x308001
/-- 3080h.05 MAX_FRAME. -/
abbrev portTrailMaxFrame : Nat := 0x308005
/-- 3080h.06 PAUSE_RX_EN. -/
abbrev portTrailPauseRxEn : Nat := 0x308006
/-- 30C0h.01 MAC_BASE. -/
abbrev macBase : Nat := 0x30C001
/-- 30C0h.02 EUI64. -/
abbrev eui64 : Nat := 0x30C002
/-- 30C0h.03 GROUPS. -/
abbrev groups : Nat := 0x30C003
/-- 30C0h.04 IGMP_VERSION. -/
abbrev igmpVersion : Nat := 0x30C004
/-- 30C0h.05 IGMP_REPORTS. -/
abbrev igmpReports : Nat := 0x30C005
/-- 30C0h.06 PHY_ADDR. -/
abbrev phyAddr : Nat := 0x30C006
/-- 3100h.01 SEGMENT_CFG. -/
abbrev segmentCfg : Nat := 0x310001
/-- 3100h.02 PREFIX_CFG. -/
abbrev prefixCfg : Nat := 0x310002
/-- 3100h.03 SEGMENT. -/
abbrev segment : Nat := 0x310003
/-- 3100h.04 PREFIX. -/
abbrev prefixR : Nat := 0x310004
/-- 3100h.05 POSITION. -/
abbrev position : Nat := 0x310005
/-- 3100h.06 ADDR_STATE. -/
abbrev addrState : Nat := 0x310006
/-- 3100h.07 STORED_POS. -/
abbrev storedPos : Nat := 0x310007
/-- 3100h.08 ROPED_AT. -/
abbrev ropedAt : Nat := 0x310008
/-- 3100h.09 CLEAR_POSITION. -/
abbrev clearPosition : Nat := 0x310009
/-- 3100h.0A REROPE. -/
abbrev rerope : Nat := 0x31000A
/-- 3100h.0B ROPE_MODE. -/
abbrev ropeMode : Nat := 0x31000B
/-- 3100h.0C ETHERTYPE. -/
abbrev ethertype : Nat := 0x31000C
/-- 3100h.0D SEG_LEN. -/
abbrev segLen : Nat := 0x31000D
/-- 3100h.0E RING_STATE. -/
abbrev ringState : Nat := 0x31000E
/-- 3100h.0F HEAD_ROLE. -/
abbrev headRole : Nat := 0x31000F
/-- 3100h.10 HEAD_PRIO. -/
abbrev headPrio : Nat := 0x310010
/-- 3100h.11 HEAD_POS. -/
abbrev headPos : Nat := 0x310011
/-- 3100h.12 HEAD_TERM. -/
abbrev headTerm : Nat := 0x310012
/-- 3100h.13 LINK_A_STATE. -/
abbrev linkAState : Nat := 0x310013
/-- 3100h.14 LINK_B_STATE. -/
abbrev linkBState : Nat := 0x310014
/-- 3100h.15 MODE_MISMATCH. -/
abbrev modeMismatch : Nat := 0x310015
/-- 3101h.01 TAG_ERRORS. -/
abbrev tagErrors : Nat := 0x310101
/-- 3101h.02 STRIPPED. -/
abbrev stripped : Nat := 0x310102
/-- 3101h.03 HOP_DROPS. -/
abbrev hopDrops : Nat := 0x310103
/-- 3101h.04 DUP_DISCARDS. -/
abbrev dupDiscards : Nat := 0x310104
/-- 3101h.05 STALE_DISCARDS. -/
abbrev staleDiscards : Nat := 0x310105
/-- 3101h.06 BRIDGE_IN. -/
abbrev bridgeIn : Nat := 0x310106
/-- 3101h.07 BRIDGE_OUT. -/
abbrev bridgeOut : Nat := 0x310107
/-- 3101h.08 BRIDGE_OVERSIZE. -/
abbrev bridgeOversize : Nat := 0x310108
/-- 3101h.09 BREAKS. -/
abbrev breaks_3101 : Nat := 0x310109
/-- 3101h.0A HEALS. -/
abbrev heals : Nat := 0x31010A
/-- 3101h.0B HB_INVALID. -/
abbrev hbInvalid : Nat := 0x31010B
/-- 3101h.0C BREAK_SHED. -/
abbrev breakShed : Nat := 0x31010C
/-- 3101h.0D TAKEOVERS. -/
abbrev takeovers : Nat := 0x31010D
/-- 3101h.0E IP_CONFLICTS. -/
abbrev ipConflicts : Nat := 0x31010E
/-- 3200h.01 ARM. -/
abbrev arm : Nat := 0x320001
/-- 3200h.02 STATE. -/
abbrev state : Nat := 0x320002
/-- 3200h.03 DURATION_MS. -/
abbrev durationMs : Nat := 0x320003
/-- 3201h.01 PORTS, instance k of 4. -/
abbrev rulePorts (k : Nat) : Nat := 0x320101 + 256 * k
/-- 3201h.02 CLASS_MASK, instance k of 4. -/
abbrev ruleClassMask (k : Nat) : Nat := 0x320102 + 256 * k
/-- 3201h.03 SRC_POS, instance k of 4. -/
abbrev ruleSrcPos (k : Nat) : Nat := 0x320103 + 256 * k
/-- 3201h.04 ACTION, instance k of 4. -/
abbrev ruleAction (k : Nat) : Nat := 0x320104 + 256 * k
/-- 3201h.05 RATE_N, instance k of 4. -/
abbrev ruleRateN (k : Nat) : Nat := 0x320105 + 256 * k
/-- 3201h.06 LIMIT, instance k of 4. -/
abbrev ruleLimit (k : Nat) : Nat := 0x320106 + 256 * k
/-- 3201h.07 BYTE_OFFSET, instance k of 4. -/
abbrev ruleByteOffset (k : Nat) : Nat := 0x320107 + 256 * k
/-- 3201h.08 XOR_MASK, instance k of 4. -/
abbrev ruleXorMask (k : Nat) : Nat := 0x320108 + 256 * k
/-- 3201h.09 FIX_FCS, instance k of 4. -/
abbrev ruleFixFcs (k : Nat) : Nat := 0x320109 + 256 * k
/-- 3201h.0A REORDER_DEPTH, instance k of 4. -/
abbrev ruleReorderDepth (k : Nat) : Nat := 0x32010A + 256 * k
/-- 3201h.0B ACTED, instance k of 4. -/
abbrev ruleActed (k : Nat) : Nat := 0x32010B + 256 * k
/-- 3400h.01 KEY_OBSERVER. -/
abbrev keyObserver : Nat := 0x340001
/-- 3400h.02 KEY_OPERATOR. -/
abbrev keyOperator : Nat := 0x340002
/-- 3400h.03 KEY_INSTALLER. -/
abbrev keyInstaller : Nat := 0x340003
/-- 3400h.04 KEY_SERVICE. -/
abbrev keyService : Nat := 0x340004
/-- 3400h.05 KEY_STATE. -/
abbrev keyState_3400 : Nat := 0x340005
/-- 3400h.06 UDP_PORT. -/
abbrev udpPort : Nat := 0x340006
/-- 3400h.07 SESSION_TIMEOUT. -/
abbrev sessionTimeout : Nat := 0x340007
/-- 3400h.08 MSG_MAX. -/
abbrev msgMax : Nat := 0x340008
/-- 3400h.09 SESSIONS_OPEN. -/
abbrev sessionsOpen : Nat := 0x340009
/-- 3400h.0A AUTH_FAILS. -/
abbrev authFails : Nat := 0x34000A
/-- 3400h.0B TOPO_KEY. -/
abbrev topoKey : Nat := 0x34000B
/-- 3400h.0C MSG_MALFORMED. -/
abbrev msgMalformed : Nat := 0x34000C
/-- 3400h.0D SEQ_ERRORS. -/
abbrev seqErrors : Nat := 0x34000D
/-- 3401h.01 MY_SESSION. -/
abbrev mySession : Nat := 0x340101
/-- 3401h.02 SESS_SEL. -/
abbrev sessSel : Nat := 0x340102
/-- 3401h.03 SESS_INFO. -/
abbrev sessInfo : Nat := 0x340103
/-- 3401h.04 SESS_KILL. -/
abbrev sessKill : Nat := 0x340104
/-- 3402h.01 LCL_ROLE. -/
abbrev lclRole : Nat := 0x340201
/-- 3402h.02 REPLY_IRQ. -/
abbrev replyIrq : Nat := 0x340202
/-- 4000h.01 BG_R. -/
abbrev bgR : Nat := 0x400001
/-- 4000h.02 BG_G. -/
abbrev bgG : Nat := 0x400002
/-- 4000h.03 BG_B. -/
abbrev bgB : Nat := 0x400003
/-- 4000h.04 ENCODE. -/
abbrev encode : Nat := 0x400004
/-- 4000h.05 ENCODE_BANK. -/
abbrev encodeBank : Nat := 0x400005
/-- 4000h.06 ACTIVE_LAYERS. -/
abbrev activeLayers : Nat := 0x400006
/-- 4000h.07 SAMPLES_LAST. -/
abbrev samplesLast : Nat := 0x400007
/-- 4100h.01 ENABLE, instance k of 16. -/
abbrev layerEnable (k : Nat) : Nat := 0x410001 + 4096 * k
/-- 4100h.02 SOURCE_KIND, instance k of 16. -/
abbrev layerSourceKind (k : Nat) : Nat := 0x410002 + 4096 * k
/-- 4100h.03 SOURCE_REF, instance k of 16. -/
abbrev layerSourceRef (k : Nat) : Nat := 0x410003 + 4096 * k
/-- 4100h.04 CROP_X, instance k of 16. -/
abbrev layerCropX (k : Nat) : Nat := 0x410004 + 4096 * k
/-- 4100h.05 CROP_Y, instance k of 16. -/
abbrev layerCropY (k : Nat) : Nat := 0x410005 + 4096 * k
/-- 4100h.06 CROP_W, instance k of 16. -/
abbrev layerCropW (k : Nat) : Nat := 0x410006 + 4096 * k
/-- 4100h.07 CROP_H, instance k of 16. -/
abbrev layerCropH (k : Nat) : Nat := 0x410007 + 4096 * k
/-- 4100h.08 DST_X, instance k of 16. -/
abbrev layerDstX (k : Nat) : Nat := 0x410008 + 4096 * k
/-- 4100h.09 DST_Y, instance k of 16. -/
abbrev layerDstY (k : Nat) : Nat := 0x410009 + 4096 * k
/-- 4100h.0A DST_W, instance k of 16. -/
abbrev layerDstW (k : Nat) : Nat := 0x41000A + 4096 * k
/-- 4100h.0B DST_H, instance k of 16. -/
abbrev layerDstH (k : Nat) : Nat := 0x41000B + 4096 * k
/-- 4100h.0C SCALER, instance k of 16. -/
abbrev layerScaler (k : Nat) : Nat := 0x41000C + 4096 * k
/-- 4100h.0D COEF_BANK, instance k of 16. -/
abbrev layerCoefBank (k : Nat) : Nat := 0x41000D + 4096 * k
/-- 4100h.0E DEGAMMA_BANK, instance k of 16. -/
abbrev layerDegammaBank (k : Nat) : Nat := 0x41000E + 4096 * k
/-- 4100h.0F BLEND, instance k of 16. -/
abbrev layerBlend (k : Nat) : Nat := 0x41000F + 4096 * k
/-- 4100h.10 STATIC, instance k of 16. -/
abbrev layerStatic (k : Nat) : Nat := 0x410010 + 4096 * k
/-- 4100h.11 EMBER_FMT, instance k of 16. -/
abbrev layerEmberFmt (k : Nat) : Nat := 0x410011 + 4096 * k
/-- 4100h.12 EMBER_OFFSET, instance k of 16. -/
abbrev layerEmberOffset (k : Nat) : Nat := 0x410012 + 4096 * k
/-- 4100h.13 OPACITY, instance k of 16. -/
abbrev layerOpacity (k : Nat) : Nat := 0x410013 + 4096 * k
/-- 4100h.14 MOD_SOURCE, instance k of 16. -/
abbrev layerModSource (k : Nat) : Nat := 0x410014 + 4096 * k
/-- 4100h.15 MOD_DEPTH, instance k of 16. -/
abbrev layerModDepth (k : Nat) : Nat := 0x410015 + 4096 * k
/-- 4100h.16 SOLID_R, instance k of 16. -/
abbrev layerSolidR (k : Nat) : Nat := 0x410016 + 4096 * k
/-- 4100h.17 SOLID_G, instance k of 16. -/
abbrev layerSolidG (k : Nat) : Nat := 0x410017 + 4096 * k
/-- 4100h.18 SOLID_B, instance k of 16. -/
abbrev layerSolidB (k : Nat) : Nat := 0x410018 + 4096 * k
/-- 4100h.19 SOLID_A, instance k of 16. -/
abbrev layerSolidA (k : Nat) : Nat := 0x410019 + 4096 * k
/-- 4100h.1F STATUS, instance k of 16. -/
abbrev layerStatus (k : Nat) : Nat := 0x41001F + 4096 * k
/-- 4101h.01 APPLIED_FRAME, instance k of 16. -/
abbrev layerStatAppliedFrame (k : Nat) : Nat := 0x410101 + 4096 * k
/-- 4101h.02 FRAMES_NEW, instance k of 16. -/
abbrev layerStatFramesNew (k : Nat) : Nat := 0x410102 + 4096 * k
/-- 4101h.03 REPEATS, instance k of 16. -/
abbrev layerStatRepeats (k : Nat) : Nat := 0x410103 + 4096 * k
/-- 4101h.04 PACKED_ERRORS, instance k of 16. -/
abbrev layerStatPackedErrors (k : Nat) : Nat := 0x410104 + 4096 * k
/-- 4200h.01 to .08 SCALER_USER, j from 0. -/
abbrev scalerUser (j : Nat) : Nat := 0x420001 + j
/-- 4201h.01 COEF_SEL. -/
abbrev coefSel : Nat := 0x420101
/-- 4201h.02 COEF_DATA. -/
abbrev coefData : Nat := 0x420102
/-- 4300h.01 LUT_SEL. -/
abbrev lutSel : Nat := 0x430001
/-- 4300h.02 LUT_DATA. -/
abbrev lutData : Nat := 0x430002
/-- 4400h.01 EMBER_KB. -/
abbrev emberKb : Nat := 0x440001
/-- 4400h.02 FLATTENS. -/
abbrev flattens : Nat := 0x440002
/-- 4400h.03 FLATTEN_SKIPPED. -/
abbrev flattenSkipped : Nat := 0x440003
/-- 4500h.01 STATE, instance k of 8. -/
abbrev streamState (k : Nat) : Nat := 0x450001 + 256 * k
/-- 4500h.02 PLAYOUT_DELAY, instance k of 8. -/
abbrev streamPlayoutDelay (k : Nat) : Nat := 0x450002 + 256 * k
/-- 4500h.03 FRAMES_TAKEN, instance k of 8. -/
abbrev streamFramesTaken (k : Nat) : Nat := 0x450003 + 256 * k
/-- 4500h.04 LATE, instance k of 8. -/
abbrev streamLate (k : Nat) : Nat := 0x450004 + 256 * k
/-- 4500h.05 MISSING, instance k of 8. -/
abbrev streamMissing (k : Nat) : Nat := 0x450005 + 256 * k
/-- 4500h.06 INCOMPLETE, instance k of 8. -/
abbrev streamIncomplete (k : Nat) : Nat := 0x450006 + 256 * k
/-- 4500h.07 SKIPPED, instance k of 8. -/
abbrev streamSkipped (k : Nat) : Nat := 0x450007 + 256 * k
/-- 4500h.08 MARGIN_MIN, instance k of 8. -/
abbrev streamMarginMin (k : Nat) : Nat := 0x450008 + 256 * k
/-- 4500h.09 MARK, instance k of 8. -/
abbrev streamMark (k : Nat) : Nat := 0x450009 + 256 * k
/-- 4500h.0A REWIND, instance k of 8. -/
abbrev streamRewind (k : Nat) : Nat := 0x45000A + 256 * k
/-- 4500h.0B MARK_STATE, instance k of 8. -/
abbrev streamMarkState (k : Nat) : Nat := 0x45000B + 256 * k
/-- 4500h.0C DEPTH, instance k of 8. -/
abbrev streamDepth (k : Nat) : Nat := 0x45000C + 256 * k
/-- 4510h.01 STATE, instance k of 16. -/
abbrev loopState (k : Nat) : Nat := 0x451001 + 256 * k
/-- 4510h.02 START, instance k of 16. -/
abbrev loopStart (k : Nat) : Nat := 0x451002 + 256 * k
/-- 4510h.03 STOP, instance k of 16. -/
abbrev loopStop (k : Nat) : Nat := 0x451003 + 256 * k
/-- 4510h.04 ENTRY, instance k of 16. -/
abbrev loopEntry (k : Nat) : Nat := 0x451004 + 256 * k
/-- 4510h.05 APPEND, instance k of 16. -/
abbrev loopAppend (k : Nat) : Nat := 0x451005 + 256 * k
/-- 4510h.06 REWIND, instance k of 16. -/
abbrev loopRewind (k : Nat) : Nat := 0x451006 + 256 * k
/-- 4510h.07 MARK_STATE, instance k of 16. -/
abbrev loopMarkState (k : Nat) : Nat := 0x451007 + 256 * k
/-- 4510h.08 DEPTH, instance k of 16. -/
abbrev loopDepth (k : Nat) : Nat := 0x451008 + 256 * k
/-- 4520h.01 SURF_DATA. -/
abbrev surfData : Nat := 0x452001
/-- 4520h.02 SURF_SEL. -/
abbrev surfSel : Nat := 0x452002
/-- 4520h.03 SURF_STATE. -/
abbrev surfState : Nat := 0x452003
/-- 4520h.04 STORE_FREE. -/
abbrev storeFree : Nat := 0x452004
/-- 4601h.01 to .20 BAND_M, j from 0. -/
abbrev bandM (j : Nat) : Nat := 0x460101 + j
/-- 4602h.01 to .20 BAND_GAIN, j from 0. -/
abbrev bandGain (j : Nat) : Nat := 0x460201 + j
/-- 4603h.01 to .02 AUDIO_GAPS, j from 0. -/
abbrev audioGaps (j : Nat) : Nat := 0x460301 + j
/-- 5000h.01 HACT. -/
abbrev hact : Nat := 0x500001
/-- 5000h.02 HFP. -/
abbrev hfp : Nat := 0x500002
/-- 5000h.03 HSW. -/
abbrev hsw : Nat := 0x500003
/-- 5000h.04 HBP. -/
abbrev hbp : Nat := 0x500004
/-- 5000h.05 VACT. -/
abbrev vact : Nat := 0x500005
/-- 5000h.06 VFP. -/
abbrev vfp : Nat := 0x500006
/-- 5000h.07 VSW. -/
abbrev vsw : Nat := 0x500007
/-- 5000h.08 VBP. -/
abbrev vbp : Nat := 0x500008
/-- 5000h.09 BLANK_MODE. -/
abbrev blankMode : Nat := 0x500009
/-- 5000h.0A VBMIN. -/
abbrev vbmin : Nat := 0x50000A
/-- 5000h.0B VBMAX. -/
abbrev vbmax : Nat := 0x50000B
/-- 5000h.0C PACE_STREAM. -/
abbrev paceStream : Nat := 0x50000C
/-- 5000h.0D HOLD_FALLBACK. -/
abbrev holdFallback : Nat := 0x50000D
/-- 5000h.0E RSYNC_CFG. -/
abbrev rsyncCfg : Nat := 0x50000E
/-- 5001h.01 HTOTAL. -/
abbrev htotal : Nat := 0x500101
/-- 5001h.02 VTOTAL. -/
abbrev vtotal : Nat := 0x500102
/-- 5001h.03 PIXEL_RATE. -/
abbrev pixelRate : Nat := 0x500103
/-- 5001h.04 LINE_PS. -/
abbrev linePs : Nat := 0x500104
/-- 5001h.05 SOB_NS. -/
abbrev sobNs : Nat := 0x500105
/-- 5001h.06 BLANK_STATE. -/
abbrev blankState : Nat := 0x500106
/-- 5001h.07 FRAME_LOCK. -/
abbrev frameLock : Nat := 0x500107
/-- 5001h.08 TIMING_PEND. -/
abbrev timingPend : Nat := 0x500108
/-- 5001h.09 STRETCHES. -/
abbrev stretches : Nat := 0x500109
/-- 5001h.0A SETTLE_FRAME. -/
abbrev settleFrame : Nat := 0x50010A
/-- 5001h.0B TIMING_REJECTS. -/
abbrev timingRejects : Nat := 0x50010B
/-- 5010h.01 to .08 MATCH_LINE, j from 0. -/
abbrev matchLine (j : Nat) : Nat := 0x501001 + j
/-- 5010h.09 MATCH_EN. -/
abbrev matchEn : Nat := 0x501009
/-- 5020h.01 FRAME_COUNTER. -/
abbrev frameCounter : Nat := 0x502001
/-- 5020h.02 FLIP_TIME. -/
abbrev flipTime : Nat := 0x502002
/-- 5020h.03 DONE_OFFSET. -/
abbrev doneOffset : Nat := 0x502003
/-- 5020h.04 SOB_TIME. -/
abbrev sobTime : Nat := 0x502004
/-- 5030h.01 UNDERRUN_MASK. -/
abbrev underrunMask : Nat := 0x503001
/-- 5030h.02 to .11 UNDERRUNS, j from 0. -/
abbrev underruns (j : Nat) : Nat := 0x503002 + j
/-- 5040h.01 FRZ_ENABLE. -/
abbrev frzEnable : Nat := 0x504001
/-- 5040h.02 FRZ_X. -/
abbrev frzX : Nat := 0x504002
/-- 5040h.03 FRZ_Y. -/
abbrev frzY : Nat := 0x504003
/-- 5040h.04 FRZ_W. -/
abbrev frzW : Nat := 0x504004
/-- 5040h.05 FRZ_H. -/
abbrev frzH : Nat := 0x504005
/-- 5040h.06 FRZ_F. -/
abbrev frzF : Nat := 0x504006
/-- 5040h.07 FRZ_SIG. -/
abbrev frzSig : Nat := 0x504007
/-- 5040h.08 FRZ_COUNT. -/
abbrev frzCount : Nat := 0x504008
/-- 5040h.09 FREEZES. -/
abbrev freezes : Nat := 0x504009
/-- 5050h.01 STATIC_EN. -/
abbrev staticEn : Nat := 0x505001
/-- 5050h.02 STATIC_K. -/
abbrev staticK : Nat := 0x505002
/-- 5050h.03 STATIC_STATE. -/
abbrev staticState : Nat := 0x505003
/-- 5050h.04 STATIC_TICKS. -/
abbrev staticTicks : Nat := 0x505004
/-- 6000h.01 ENDPOINTS. -/
abbrev endpoints : Nat := 0x600001
/-- 6000h.02 CHANNELS. -/
abbrev channels : Nat := 0x600002
/-- 6000h.03 MAP_ENTRIES. -/
abbrev mapEntries : Nat := 0x600003
/-- 6000h.04 MAP_LAG_MAX. -/
abbrev mapLagMax : Nat := 0x600004
/-- 6000h.05 MAP_STALLS. -/
abbrev mapStalls : Nat := 0x600005
/-- 6000h.06 OUT_SIG_W. -/
abbrev outSigW : Nat := 0x600006
/-- 6000h.07 OUT_SIG_R. -/
abbrev outSigR : Nat := 0x600007
/-- 6000h.08 OUT_SIG_FAIL. -/
abbrev outSigFail : Nat := 0x600008
/-- 6000h.09 DITHER_GLOBAL. -/
abbrev ditherGlobal : Nat := 0x600009
/-- 6100h.01 STATE, instance k of 32. -/
abbrev strandState (k : Nat) : Nat := 0x610001 + 256 * k
/-- 6100h.02 FRAME_NS, instance k of 32. -/
abbrev strandFrameNs (k : Nat) : Nat := 0x610002 + 256 * k
/-- 6100h.03 FRAMES, instance k of 32. -/
abbrev strandFrames (k : Nat) : Nat := 0x610003 + 256 * k
/-- 6100h.04 DARK_ZERO, instance k of 32. -/
abbrev strandDarkZero (k : Nat) : Nat := 0x610004 + 256 * k
/-- 6200h.01 STATE, instance k of 8. -/
abbrev dmxState (k : Nat) : Nat := 0x620001 + 256 * k
/-- 6200h.02 BREAK_US, instance k of 8. -/
abbrev dmxBreakUs (k : Nat) : Nat := 0x620002 + 256 * k
/-- 6200h.03 MAB_US, instance k of 8. -/
abbrev dmxMabUs (k : Nat) : Nat := 0x620003 + 256 * k
/-- 6200h.04 PACKETS, instance k of 8. -/
abbrev dmxPackets (k : Nat) : Nat := 0x620004 + 256 * k
/-- 6200h.05 RDM_SLOTS, instance k of 8. -/
abbrev dmxRdmSlots (k : Nat) : Nat := 0x620005 + 256 * k
/-- 6210h.01 RDM_REQ. -/
abbrev rdmReq : Nat := 0x621001
/-- 6210h.02 RDM_RESP. -/
abbrev rdmResp : Nat := 0x621002
/-- 6210h.03 RDM_UID. -/
abbrev rdmUid : Nat := 0x621003
/-- 6210h.04 DISC_START. -/
abbrev discStart : Nat := 0x621004
/-- 6210h.05 DISC_SEL. -/
abbrev discSel : Nat := 0x621005
/-- 6210h.06 DISC_LIST. -/
abbrev discList : Nat := 0x621006
/-- 6210h.07 DISC_STATE. -/
abbrev discState : Nat := 0x621007
/-- 6300h.01 UNIVERSES. -/
abbrev universes_6300 : Nat := 0x630001
/-- 6300h.02 ACCEPTED. -/
abbrev accepted : Nat := 0x630002
/-- 6300h.03 SEQ_DISCARDS. -/
abbrev seqDiscards : Nat := 0x630003
/-- 6300h.04 MALFORMED. -/
abbrev malformed : Nat := 0x630004
/-- 6300h.05 SOURCES. -/
abbrev sources : Nat := 0x630005
/-- 6300h.06 SOURCE_LIMIT. -/
abbrev sourceLimit : Nat := 0x630006
/-- 6300h.07 UNI_SEL. -/
abbrev uniSel : Nat := 0x630007
/-- 6300h.08 UNI_STATE. -/
abbrev uniState : Nat := 0x630008
/-- 6300h.09 UNI_PRIORITY. -/
abbrev uniPriority : Nat := 0x630009
/-- 6300h.0A UNI_SOURCES. -/
abbrev uniSources : Nat := 0x63000A
/-- 6340h.01 UNIVERSES. -/
abbrev universes_6340 : Nat := 0x634001
/-- 6340h.02 PACKETS_SENT. -/
abbrev packetsSent : Nat := 0x634002
/-- 6340h.03 SYNC_SENT. -/
abbrev syncSent : Nat := 0x634003
/-- 6340h.04 SKIPPED. -/
abbrev skipped : Nat := 0x634004
/-- 6340h.05 PRIORITY. -/
abbrev priority : Nat := 0x634005
/-- 6340h.06 SOURCE_NAME. -/
abbrev sourceName : Nat := 0x634006
/-- 6340h.07 PREVIEW. -/
abbrev preview : Nat := 0x634007
/-- 6400h.01 TX_STREAMS. -/
abbrev txStreams : Nat := 0x640001
/-- 6400h.02 RX_WINDOWS. -/
abbrev rxWindows : Nat := 0x640002
/-- 6400h.03 PX_SENT. -/
abbrev pxSent : Nat := 0x640003
/-- 6400h.04 PX_RECEIVED. -/
abbrev pxReceived : Nat := 0x640004
/-- 6400h.05 PX_LATE. -/
abbrev pxLate : Nat := 0x640005
/-- 6400h.06 PX_EARLY. -/
abbrev pxEarly : Nat := 0x640006
/-- 6400h.07 PX_MALFORMED. -/
abbrev pxMalformed : Nat := 0x640007
/-- 6400h.08 WINDOWS_MISSING. -/
abbrev windowsMissing : Nat := 0x640008
/-- 6400h.09 RX_COMPLETE. -/
abbrev rxComplete : Nat := 0x640009
/-- 6500h.01 GROUP_SET. -/
abbrev groupSet : Nat := 0x650001
/-- 6500h.02 GROUP_BIND. -/
abbrev groupBind : Nat := 0x650002
/-- 6500h.03 GROUP_SEL. -/
abbrev groupSel : Nat := 0x650003
/-- 6500h.04 GROUP_LEVEL. -/
abbrev groupLevel : Nat := 0x650004
/-- 6500h.05 GROUP_EFFECTIVE. -/
abbrev groupEffective : Nat := 0x650005
/-- 6501h.01 FADE_START. -/
abbrev fadeStart : Nat := 0x650101
/-- 6501h.02 FADE_STOP. -/
abbrev fadeStop : Nat := 0x650102
/-- 6501h.03 FADE_SEL. -/
abbrev fadeSel : Nat := 0x650103
/-- 6501h.04 FADE_LEVEL. -/
abbrev fadeLevel : Nat := 0x650104
/-- 6501h.05 FADE_STATE. -/
abbrev fadeState : Nat := 0x650105
/-- 6501h.06 FADES_ACTIVE. -/
abbrev fadesActive : Nat := 0x650106
/-- 7000h.01 DRIVE_MODE. -/
abbrev driveMode : Nat := 0x700001
/-- 7000h.02 ROWS. -/
abbrev rows : Nat := 0x700002
/-- 7000h.03 SEGMENTS. -/
abbrev segments : Nat := 0x700003
/-- 7000h.04 DEPTH. -/
abbrev depth : Nat := 0x700004
/-- 7000h.05 T_DEAD_NS. -/
abbrev tDeadNs : Nat := 0x700005
/-- 7000h.06 T_PRE_NS. -/
abbrev tPreNs : Nat := 0x700006
/-- 7000h.07 EMIT_PHASE_NS. -/
abbrev emitPhaseNs : Nat := 0x700007
/-- 7000h.08 EMIT_WIN_NS. -/
abbrev emitWinNs : Nat := 0x700008
/-- 7000h.09 to .0C IFULL_UA, j from 0. -/
abbrev ifullUa (j : Nat) : Nat := 0x700009 + j
/-- 7000h.0D to .10 VPRE_MV, j from 0. -/
abbrev vpreMv (j : Nat) : Nat := 0x70000D + j
/-- 7000h.11 LC_EN. -/
abbrev lcEn : Nat := 0x700011
/-- 7000h.12 SLOT_NS. -/
abbrev slotNs : Nat := 0x700012
/-- 7000h.13 STEPS_P. -/
abbrev stepsP : Nat := 0x700013
/-- 7000h.14 DEPTH_AVAIL. -/
abbrev depthAvail : Nat := 0x700014
/-- 7000h.15 DRIVE_STATE. -/
abbrev driveState : Nat := 0x700015
/-- 7000h.16 FLUE_ERRORS. -/
abbrev flueErrors : Nat := 0x700016
/-- 7000h.17 SINK_DISS_MW. -/
abbrev sinkDissMw : Nat := 0x700017
/-- 7000h.18 SCAN_REJECTS. -/
abbrev scanRejects : Nat := 0x700018
/-- 7100h.01 DRAUGHT_STATE. -/
abbrev draughtState : Nat := 0x710001
/-- 7100h.02 VLED_SET_MV. -/
abbrev vledSetMv : Nat := 0x710002
/-- 7100h.03 VLED_MEAS_MV. -/
abbrev vledMeasMv : Nat := 0x710003
/-- 7100h.04 VLED_MIN_MV. -/
abbrev vledMinMv : Nat := 0x710004
/-- 7100h.05 VLED_MAX_MV. -/
abbrev vledMaxMv : Nat := 0x710005
/-- 7100h.06 VLED_INIT_MV. -/
abbrev vledInitMv : Nat := 0x710006
/-- 7100h.07 HR_TARGET_MV. -/
abbrev hrTargetMv : Nat := 0x710007
/-- 7100h.08 HR_MARGIN_MV. -/
abbrev hrMarginMv : Nat := 0x710008
/-- 7100h.09 SLEW_MV. -/
abbrev slewMv : Nat := 0x710009
/-- 7100h.0A DEADBAND_MV. -/
abbrev deadbandMv : Nat := 0x71000A
/-- 7100h.0B HR_MIN. -/
abbrev hrMin : Nat := 0x71000B
/-- 7100h.0C FSW_KHZ. -/
abbrev fswKhz : Nat := 0x71000C
/-- 7100h.0D PHASES. -/
abbrev phases : Nat := 0x71000D
/-- 7100h.0E ILIM_MV. -/
abbrev ilimMv : Nat := 0x71000E
/-- 7100h.0F LIMIT_TICKS. -/
abbrev limitTicks : Nat := 0x71000F
/-- 7100h.10 DISS_LIMIT_MW. -/
abbrev dissLimitMw : Nat := 0x710010
/-- 7200h.01 to .08 NTC_TEMP, j from 0. -/
abbrev ntcTemp (j : Nat) : Nat := 0x720001 + j
/-- 7200h.09 to .0C COLOUR_TEMP, j from 0. -/
abbrev colourTemp (j : Nat) : Nat := 0x720009 + j
/-- 7200h.0D to .10 T_FACTOR, j from 0. -/
abbrev tFactor (j : Nat) : Nat := 0x72000D + j
/-- 7200h.11 to .14 W_FACTOR, j from 0. -/
abbrev wFactor (j : Nat) : Nat := 0x720011 + j
/-- 7200h.15 TC_ENABLE. -/
abbrev tcEnable : Nat := 0x720015
/-- 7200h.16 TEMP_WARN_C. -/
abbrev tempWarnC : Nat := 0x720016
/-- 7200h.17 CLAMPS. -/
abbrev clamps : Nat := 0x720017
/-- 7300h.01 DIAG_EN. -/
abbrev diagEn : Nat := 0x730001
/-- 7300h.02 SHORT_ACTION. -/
abbrev shortAction : Nat := 0x730002
/-- 7300h.03 OPEN_LAMPS. -/
abbrev openLamps : Nat := 0x730003
/-- 7300h.04 PROBE_EN. -/
abbrev probeEn : Nat := 0x730004
/-- 7300h.05 SHORT_LAMPS. -/
abbrev shortLamps : Nat := 0x730005
/-- 7300h.06 UNVERIFIED_LAMPS. -/
abbrev unverifiedLamps : Nat := 0x730006
/-- 7300h.07 to .0A SHORT_MV, j from 0. -/
abbrev shortMv (j : Nat) : Nat := 0x730007 + j
/-- 7300h.0B LAMP_SEL. -/
abbrev lampSel : Nat := 0x73000B
/-- 7300h.0C LAMP_STATUS. -/
abbrev lampStatus : Nat := 0x73000C
/-- 7300h.0D STATUS_MAP. -/
abbrev statusMap : Nat := 0x73000D
/-- 7300h.0E CLEAR. -/
abbrev clear : Nat := 0x73000E
/-- 7300h.0F PROBE_PERIOD. -/
abbrev probePeriod : Nat := 0x73000F
/-- 7300h.10 SPARES_ACTIVE. -/
abbrev sparesActive : Nat := 0x730010
/-- 7800h.01 CAL_RUN. -/
abbrev calRun : Nat := 0x780001
/-- 7800h.02 CAL_STATE. -/
abbrev calState : Nat := 0x780002
/-- 7800h.03 ABORT_CAUSE. -/
abbrev abortCause : Nat := 0x780003
/-- 7800h.04 CAL_ACCEPT. -/
abbrev calAccept : Nat := 0x780004
/-- 7800h.05 CAL_DISCARD. -/
abbrev calDiscard : Nat := 0x780005
/-- 7800h.06 CAL_REF_ID. -/
abbrev calRefId : Nat := 0x780006
/-- 7800h.07 CAL_ROW. -/
abbrev calRow : Nat := 0x780007
/-- 7800h.08 CAL_PORTS. -/
abbrev calPorts : Nat := 0x780008
/-- 7800h.09 NTC_SOAK. -/
abbrev ntcSoak : Nat := 0x780009
/-- 7800h.0A CAL_SOURCE. -/
abbrev calSource : Nat := 0x78000A
/-- 7800h.0B APPLIED_TICK. -/
abbrev appliedTick : Nat := 0x78000B
/-- 7800h.0C BANDGAP_RATIO. -/
abbrev bandgapRatio : Nat := 0x78000C
/-- 7800h.0D VIEW. -/
abbrev view : Nat := 0x78000D
/-- 7801h.01 to .08 BANK_RMS, j from 0. -/
abbrev bankRms (j : Nat) : Nat := 0x780101 + j
/-- 7801h.09 to .10 BANK_WORST, j from 0. -/
abbrev bankWorst (j : Nat) : Nat := 0x780109 + j
/-- 7801h.11 SINK_RESID. -/
abbrev sinkResid : Nat := 0x780111
/-- 7801h.12 SINK_TRIMS. -/
abbrev sinkTrims : Nat := 0x780112
/-- 7802h.01 to .08 NTC_OFFSET, j from 0. -/
abbrev ntcOffset (j : Nat) : Nat := 0x780201 + j
/-- 7802h.09 R_BIAS. -/
abbrev rBias : Nat := 0x780209
/-- 7803h.01 to .05 TSLAT_TX, j from 0. -/
abbrev tslatTx (j : Nat) : Nat := 0x780301 + 2 * j
/-- 7803h.02 to .06 TSLAT_RX, j from 0. -/
abbrev tslatRx (j : Nat) : Nat := 0x780302 + 2 * j
/-- 7803h.07 EYE_W_A. -/
abbrev eyeWA : Nat := 0x780307
/-- 7803h.08 EYE_W_B. -/
abbrev eyeWB : Nat := 0x780308
/-- 7803h.09 PTP_RESID_RMS. -/
abbrev ptpResidRms : Nat := 0x780309
/-- 8000h.01 ACTIVE_SLOT. -/
abbrev activeSlot : Nat := 0x800001
/-- 8000h.02 SELECT_SLOT. -/
abbrev selectSlot : Nat := 0x800002
/-- 8000h.03 LOAD. -/
abbrev load : Nat := 0x800003
/-- 8000h.04 LOAD_RESULT. -/
abbrev loadResult : Nat := 0x800004
/-- 8000h.05 LOAD_DETAIL. -/
abbrev loadDetail : Nat := 0x800005
/-- 8000h.06 LOAD_WHERE. -/
abbrev loadWhere : Nat := 0x800006
/-- 8000h.07 ACTIVE_TOPO_ID. -/
abbrev activeTopoId : Nat := 0x800007
/-- 8000h.08 ACTIVE_BUILD. -/
abbrev activeBuild : Nat := 0x800008
/-- 8000h.09 CAND_TOPO_ID. -/
abbrev candTopoId : Nat := 0x800009
/-- 8000h.0A CAND_STATE. -/
abbrev candState : Nat := 0x80000A
/-- 8000h.0B SWITCH. -/
abbrev switch : Nat := 0x80000B
/-- 8000h.0C SWITCH_LAST. -/
abbrev switchLast : Nat := 0x80000C
/-- 8000h.0D CLAMP_COUNT. -/
abbrev clampCount : Nat := 0x80000D
/-- 8000h.0E KEY_STATE. -/
abbrev keyState_8000 : Nat := 0x80000E
/-- 8001h.01 SLOT_A. -/
abbrev slotA : Nat := 0x800101
/-- 8001h.02 SLOT_B. -/
abbrev slotB : Nat := 0x800102
/-- 8010h.01 to .09 REGION_MB, j from 0. -/
abbrev regionMb (j : Nat) : Nat := 0x801001 + j
/-- 8800h.01 POOL_CELLS. -/
abbrev poolCells : Nat := 0x880001
/-- 8800h.02 POOL_FREE. -/
abbrev poolFree : Nat := 0x880002
/-- 8800h.03 RESERVED_CELLS. -/
abbrev reservedCells : Nat := 0x880003
/-- 8800h.04 BELAY_RESERVE. -/
abbrev belayReserve : Nat := 0x880004
/-- 8800h.05 POOL_LOW_CELLS. -/
abbrev poolLowCells : Nat := 0x880005
/-- 8800h.06 POOL_MIN. -/
abbrev poolMin : Nat := 0x880006
/-- 8800h.07 WALK_PERIOD_US. -/
abbrev walkPeriodUs : Nat := 0x880007
/-- 8800h.08 WALKS. -/
abbrev walks : Nat := 0x880008
/-- 8800h.09 WALK_FAULTS. -/
abbrev walkFaults : Nat := 0x880009
/-- 8801h.01 Q_SEL. -/
abbrev qSel : Nat := 0x880101
/-- 8801h.02 Q_KIND. -/
abbrev qKind : Nat := 0x880102
/-- 8801h.03 Q_POLICY. -/
abbrev qPolicy : Nat := 0x880103
/-- 8801h.04 Q_STAGE. -/
abbrev qStage : Nat := 0x880104
/-- 8801h.05 Q_DEPTH. -/
abbrev qDepth : Nat := 0x880105
/-- 8801h.06 Q_RETAINED. -/
abbrev qRetained : Nat := 0x880106
/-- 8801h.07 Q_LIMIT. -/
abbrev qLimit : Nat := 0x880107
/-- 8801h.08 Q_CELLS. -/
abbrev qCells : Nat := 0x880108
/-- 8801h.09 Q_RESERVE. -/
abbrev qReserve : Nat := 0x880109
/-- 8801h.0A Q_LOST. -/
abbrev qLost : Nat := 0x88010A
/-- 8801h.0B Q_HIGH. -/
abbrev qHigh : Nat := 0x88010B
/-- 8801h.0C Q_BP_CYCLES. -/
abbrev qBpCycles : Nat := 0x88010C
/-- 8801h.0D Q_MARK. -/
abbrev qMark : Nat := 0x88010D
/-- 8900h.01 TRACE_EN. -/
abbrev traceEn : Nat := 0x890001
/-- 8900h.02 EVENT_LIST. -/
abbrev eventList : Nat := 0x890002
/-- 8900h.03 TASK_CANCEL. -/
abbrev taskCancel : Nat := 0x890003
/-- 8900h.04 DESC_CANCEL. -/
abbrev descCancel : Nat := 0x890004
/-- 8900h.05 RELEASES. -/
abbrev releases : Nat := 0x890005
/-- 8900h.06 DISPATCHES. -/
abbrev dispatches : Nat := 0x890006
/-- 8900h.07 DEADLINE_MISSES. -/
abbrev deadlineMisses : Nat := 0x890007
/-- 8900h.08 RELEASE_SKIPS. -/
abbrev releaseSkips : Nat := 0x890008
/-- 8900h.09 RELEASE_DROPS. -/
abbrev releaseDrops : Nat := 0x890009
/-- 8900h.0A CANCELS. -/
abbrev cancels : Nat := 0x89000A
/-- 8900h.0B TASK_FAULTS. -/
abbrev taskFaults : Nat := 0x89000B
/-- 8900h.0C IN_FLIGHT. -/
abbrev inFlight : Nat := 0x89000C
/-- 8900h.0D LAST_MISS_ID. -/
abbrev lastMissId : Nat := 0x89000D
/-- 8901h.01 to .10 ENGINE_STATE, j from 0. -/
abbrev engineState (j : Nat) : Nat := 0x890101 + j
/-- 8903h.01 TRACE_READ. -/
abbrev traceRead : Nat := 0x890301
/-- 8903h.02 TRACE_DEPTH. -/
abbrev traceDepth : Nat := 0x890302
/-- 8903h.03 TRACE_LOST. -/
abbrev traceLost : Nat := 0x890303
/-- 8A00h.01 PRIO_SET. -/
abbrev prioSet : Nat := 0x8A0001
/-- 8A00h.02 RESERVE_N. -/
abbrev reserveN : Nat := 0x8A0002
/-- 8A00h.03 WAIT_LIMIT. -/
abbrev waitLimit : Nat := 0x8A0003
/-- 8A00h.04 WAIT_MAX_HEARTH. -/
abbrev waitMaxHearth : Nat := 0x8A0004
/-- 8A00h.05 WAIT_MAX_DRAM. -/
abbrev waitMaxDram : Nat := 0x8A0005
/-- 8A00h.06 WAIT_LIMIT_COUNT. -/
abbrev waitLimitCount : Nat := 0x8A0006
/-- 8A01h.01 to .0B HEARTH_PRIO, j from 0. -/
abbrev hearthPrio (j : Nat) : Nat := 0x8A0101 + j
/-- 8A02h.01 to .0B DRAM_PRIO, j from 0. -/
abbrev dramPrio (j : Nat) : Nat := 0x8A0201 + j
/-- 8B00h.01 CB_SEL. -/
abbrev cbSel : Nat := 0x8B0001
/-- 8B00h.02 CB_STATE. -/
abbrev cbState : Nat := 0x8B0002
/-- 8B00h.03 ACQUIRE. -/
abbrev acquire : Nat := 0x8B0003
/-- 8B00h.04 RELEASE. -/
abbrev release : Nat := 0x8B0004
/-- 8B00h.05 RENEW. -/
abbrev renew : Nat := 0x8B0005
/-- 8B00h.06 ACQ_RESULT. -/
abbrev acqResult : Nat := 0x8B0006
/-- 8B00h.07 HELD_MASK. -/
abbrev heldMask : Nat := 0x8B0007
/-- 8B00h.08 BROKEN_MASK. -/
abbrev brokenMask : Nat := 0x8B0008
/-- 8B00h.09 FORCE_RELEASE. -/
abbrev forceRelease : Nat := 0x8B0009
/-- 8B00h.0A BREAKS. -/
abbrev breaks_8B00 : Nat := 0x8B000A
/-- 8B00h.0B RANK_VIOLATIONS. -/
abbrev rankViolations : Nat := 0x8B000B
/-- 8B00h.0C MY_HELD. -/
abbrev myHeld : Nat := 0x8B000C
/-- 8C00h.01 PUSH, instance k of 32. -/
abbrev spillPush (k : Nat) : Nat := 0x8C0001 + 256 * k
/-- 8C00h.02 POP, instance k of 32. -/
abbrev spillPop (k : Nat) : Nat := 0x8C0002 + 256 * k
/-- 8C00h.03 DEPTH, instance k of 32. -/
abbrev spillDepth (k : Nat) : Nat := 0x8C0003 + 256 * k
/-- 8C00h.04 LIMIT, instance k of 32. -/
abbrev spillLimit (k : Nat) : Nat := 0x8C0004 + 256 * k
/-- 8C00h.05 POLICY, instance k of 32. -/
abbrev spillPolicy (k : Nat) : Nat := 0x8C0005 + 256 * k
/-- 8C00h.06 LOST, instance k of 32. -/
abbrev spillLost (k : Nat) : Nat := 0x8C0006 + 256 * k
/-- 8C00h.07 POP_WAIT, instance k of 32. -/
abbrev spillPopWait (k : Nat) : Nat := 0x8C0007 + 256 * k
/-- 8C00h.08 IN_DRAM, instance k of 32. -/
abbrev spillInDram (k : Nat) : Nat := 0x8C0008 + 256 * k
/-- 8C00h.09 HIGH, instance k of 32. -/
abbrev spillHigh (k : Nat) : Nat := 0x8C0009 + 256 * k
/-- 9000h.01 FIRST_FAULT. -/
abbrev firstFault : Nat := 0x900001
/-- 9000h.02 FIRST_CLEAR. -/
abbrev firstClear : Nat := 0x900002
/-- 9000h.03 FAULT_ACK. -/
abbrev faultAck : Nat := 0x900003
/-- 9000h.04 DARK_RELEASE. -/
abbrev darkRelease : Nat := 0x900004
/-- 9000h.05 FAULT_N_STATE. -/
abbrev faultNState : Nat := 0x900005
/-- 9000h.06 DARK_STATE. -/
abbrev darkState : Nat := 0x900006
/-- 9000h.07 HW_CAUSE. -/
abbrev hwCause : Nat := 0x900007
/-- 9000h.08 ACTIVE_MASK. -/
abbrev activeMask : Nat := 0x900008
/-- 9000h.09 PENDING_MASK. -/
abbrev pendingMask : Nat := 0x900009
/-- 9000h.0A GUARANTEE. -/
abbrev guarantee : Nat := 0x90000A
/-- 9000h.0B LAST_BOOT_FAULT. -/
abbrev lastBootFault : Nat := 0x90000B
/-- 9000h.0C RESTARTS. -/
abbrev restarts : Nat := 0x90000C
/-- 9000h.0D ENGINES_OUT. -/
abbrev enginesOut : Nat := 0x90000D
/-- 9000h.0E LEAKED_CELLS. -/
abbrev leakedCells : Nat := 0x90000E
/-- 9001h.01 FAULT_READ. -/
abbrev faultRead : Nat := 0x900101
/-- 9001h.02 FAULT_DEPTH. -/
abbrev faultDepth : Nat := 0x900102
/-- 9001h.03 FAULT_LOST. -/
abbrev faultLost : Nat := 0x900103
/-- 9002h.01 SCRUB_EN. -/
abbrev scrubEn : Nat := 0x900201
/-- 9002h.02 SCRUB_HEARTH_MS. -/
abbrev scrubHearthMs : Nat := 0x900202
/-- 9002h.03 SCRUB_DRAM_S. -/
abbrev scrubDramS : Nat := 0x900203
/-- 9002h.04 SELFTEST_EN. -/
abbrev selftestEn : Nat := 0x900204
/-- 9002h.05 SELFTEST_MS. -/
abbrev selftestMs : Nat := 0x900205
/-- 9002h.06 ECC_CORRECTED. -/
abbrev eccCorrected : Nat := 0x900206
/-- 9002h.07 ECC_UNCORRECTED. -/
abbrev eccUncorrected : Nat := 0x900207
/-- 9002h.08 SCRUB_PASSES. -/
abbrev scrubPasses : Nat := 0x900208
/-- 9003h.01 FAULT_INJECT. -/
abbrev faultInject : Nat := 0x900301
/-- 9010h.01 to .1F POLICY, j from 0. -/
abbrev policy (j : Nat) : Nat := 0x901001 + j
/-- 9100h.01 PENDING. -/
abbrev pending : Nat := 0x910001
/-- 9100h.02 MASK. -/
abbrev mask : Nat := 0x910002
/-- 9100h.03 ROUTE_Q. -/
abbrev routeQ : Nat := 0x910003
/-- 9100h.04 ROUTE_I. -/
abbrev routeI : Nat := 0x910004
/-- 9100h.05 ROUTE_F. -/
abbrev routeF : Nat := 0x910005
/-- 9100h.06 EVQ_READ. -/
abbrev evqRead : Nat := 0x910006
/-- 9100h.07 EVQ_DEPTH. -/
abbrev evqDepth : Nat := 0x910007
/-- 9100h.08 EVQ_LOST. -/
abbrev evqLost : Nat := 0x910008
/-- 9100h.09 IRQ_STATE. -/
abbrev irqState : Nat := 0x910009
/-- 9101h.01 to .40 EV_COUNT, j from 0. -/
abbrev evCount (j : Nat) : Nat := 0x910101 + j
/-- 9200h.01 to .0A DOMAIN_STATE, j from 0. -/
abbrev domainState (j : Nat) : Nat := 0x920001 + j
/-- 9200h.0B NEEDED. -/
abbrev needed : Nat := 0x92000B
/-- 9200h.0C HEARTH_RET_EN. -/
abbrev hearthRetEn : Nat := 0x92000C
/-- 9200h.0D SWITCH_FAILS. -/
abbrev switchFails : Nat := 0x92000D
/-- 9200h.0E RAIL_MV. -/
abbrev railMv : Nat := 0x92000E
/-- 9200h.0F VDDQ_MV. -/
abbrev vddqMv : Nat := 0x92000F
/-- 9201h.01 TJ_LOGIC. -/
abbrev tjLogic : Nat := 0x920101
/-- 9201h.02 TJ_FBX. -/
abbrev tjFbx : Nat := 0x920102
/-- 9201h.03 TJ_PEAK. -/
abbrev tjPeak : Nat := 0x920103
/-- 9201h.04 LIFE_USED. -/
abbrev lifeUsed : Nat := 0x920104
/-- 9210h.01 DRAM_INSTALLED. -/
abbrev dramInstalled : Nat := 0x921001
/-- 9210h.02 DRAM_USABLE. -/
abbrev dramUsable : Nat := 0x921002
/-- 9210h.03 DRAM_RATE. -/
abbrev dramRate : Nat := 0x921003
/-- 9210h.04 DRAM_TRAIN_FAILS. -/
abbrev dramTrainFails : Nat := 0x921004

end Sys2Proof.Reg
end

