-- ==== Sys2Proof/Machine/State.lean ====
section
/-! DEFINITION. The state of the block, the ways a step can stop, and the state at reset. -/

namespace Sys2Proof.Machine

/-- No command of this machine stops it with a fault of its own: the type has one constructor, which no meaning raises. -/
inductive Fault where
  /-- Raised by no meaning: every command has an effect or leaves the state as it is. Safe. -/
  | none
  deriving DecidableEq, Repr

/-- Why a command is refused. -/
inductive Refusal where
  /-- A command of the table without a meaning: rejected by name. Safe. -/
  | notModelled (mnemonic : String)
  deriving DecidableEq, Repr

/-- The state of the block. -/
structure State where
  /-- registers of the object dictionary: (key, value), keys rising, no value equal to its default -/
  regs    : List (Nat × Nat) := []
  pins    : PinSt := {}
  mode    : ModeSt := {}
  clock   : ClockSt := {}
  tick    : TickSt := {}
  power   : PowerSt := {}
  ev      : EvSt := {}
  belay   : BelaySt := {}
  stage   : StageSt := {}
  ctl     : CtlSt := {}
  xfer    : XferSt := {}
  lcl     : LclSt := {}
  report  : ReportSt := {}
  topo    : TopoSt := {}
  fw      : FwSt := {}
  cairn   : CairnSt := {}
  part    : PartSt := {}
  ports   : List PortSt := [{}, {}, {}]
  q       : QueueSt := {}
  rope    : RopeSt := {}
  inj     : InjSt := {}
  host    : HostSt := {}
  ptp     : PtpSt := {}
  tio     : TimedIo := {}
  sched   : SchedSt := {}
  carabs  : CarabSt := {}
  arb     : ArbSt := {}
  mem     : MemSt := {}
  comp    : CompSt := {}
  buf     : BufSt := {}
  sacn    : SacnSt := {}
  egress  : EgressSt := {}
  fbx     : FbxSt := {}
  cal     : CalSt := {}
  /-- the boot flash, (address, byte) pairs; an unlisted address reads 0xFF -/
  flash   : List Host.Cell := []
  /-- everything the block has sent, the latest first (the model's own record of its outputs) -/
  sent    : List Output := []
  /-- the model's own counter of free values drawn -/
  freeCount : Nat := 0
  /-- free values still to come; an empty list draws from the opaque constants of `Config` (the model's own field) -/
  oracle  : List Int := []
  /-- commands waiting, first in, first out -/
  pending : List Instr := []
  deriving DecidableEq, Repr

/-- The block before its supplies come up: every field at its reset value. -/
def State.reset : State := {}

end Sys2Proof.Machine
end

