-- ==== Sys2Proof/Machine/OdTable.lean ====
section
/-! DEFINITION. The object dictionary: every row of the specification's object tables, with its type, access code, role,
change class, default and range. A default of 0 stands where the tables give none, or give "from topo" or "per part"
(assumption log 7). -/

namespace Sys2Proof.Machine

/-- Rows of 00_scope.md, 02_tick_modes_startup.md, 12_control_and_sessions.md. -/
def od1a : List Obj :=
  [⟨0x1000, 1, 1, 0x01, 1, .u 2, .ro, .observer, .none, 21328, .any, false⟩, -- VENDOR_ID
   ⟨0x1000, 1, 1, 0x02, 1, .u 2, .ro, .observer, .none, 38400, .any, false⟩, -- PART_CODE
   ⟨0x1000, 1, 1, 0x03, 1, .u 1, .ro, .observer, .none, 177, .any, false⟩, -- STEPPING
   ⟨0x1000, 1, 1, 0x04, 1, .u 1, .ro, .observer, .none, 0, .num 0 1 1, false⟩, -- GRADE
   ⟨0x1000, 1, 1, 0x05, 1, .oct 16 16, .ro, .observer, .none, 0, .any, false⟩, -- SERIAL
   ⟨0x1010, 1, 1, 0x01, 1, .u 4, .ro, .observer, .none, 0, .any, false⟩, -- FW_VERSION
   ⟨0x1010, 1, 1, 0x02, 1, .u 1, .ro, .observer, .none, 0, .num (0) (2) 1, false⟩, -- FW_RUNNING
   ⟨0x1010, 1, 1, 0x03, 1, .domain, .wo, .installer, .l, 0, .any, false⟩, -- FW_IMAGE
   ⟨0x1010, 1, 1, 0x04, 1, .domain, .wo, .service, .l, 0, .any, false⟩, -- FW_FALLBACK
   ⟨0x1010, 1, 1, 0x05, 1, .u 1, .ro, .observer, .none, 0, .num (0) (4) 1, false⟩, -- FW_STATE
   ⟨0x1010, 1, 1, 0x06, 1, .u 1, .cmd, .installer, .none, 0, .enum [1], false⟩, -- FW_RESTART
   ⟨0x1010, 1, 1, 0x07, 1, .u 2, .ro, .observer, .none, 0, .any, false⟩, -- FW_FLOOR
   ⟨0x1010, 1, 1, 0x08, 1, .u 1, .cmd, .service, .none, 0, .enum [1], false⟩, -- FW_FLOOR_RAISE
   ⟨0x1010, 1, 1, 0x09, 1, .u 4, .ro, .observer, .none, 0, .any, false⟩, -- PRIMARY_VERSION
   ⟨0x1012, 1, 1, 0x01, 1, .domain, .rw, .installer, .none, 0, .any, false⟩, -- FLASH_RAW
   ⟨0x1100, 1, 1, 0x01, 1, .u 1, .ro, .observer, .none, 0, .num (0) (5) 1, false⟩, -- MODE
   ⟨0x1100, 1, 1, 0x02, 1, .u 1, .cmd, .operator, .l, 0, .enum [1], false⟩, -- REQ_SHOW
   ⟨0x1100, 1, 1, 0x03, 1, .u 1, .cmd, .installer, .l, 0, .enum [1], false⟩, -- REQ_STAGING
   ⟨0x1100, 1, 1, 0x04, 1, .u 1, .cmd, .operator, .none, 0, .enum [1], false⟩, -- REQ_DARK
   ⟨0x1100, 1, 1, 0x05, 1, .u 1, .ro, .observer, .none, 0, .any, false⟩, -- LAST_CAUSE
   ⟨0x1100, 1, 1, 0x06, 1, .u 2, .ro, .observer, .none, 7, .any, false⟩, -- SHOW_BLOCK
   ⟨0x1100, 1, 1, 0x07, 1, .bool, .rw, .installer, .f, 1, .any, true⟩, -- AUTO_SHOW
   ⟨0x1100, 1, 1, 0x08, 1, .u 4, .rw, .operator, .l, 10000, .num (100) (3600000) 1, true⟩, -- HOLDOVER_LIMIT
   ⟨0x1100, 1, 1, 0x09, 1, .u 4, .rw, .installer, .f, 2000, .num (100) (60000) 1, true⟩, -- ROPE_WAIT
   ⟨0x1100, 1, 1, 0x0A, 1, .u 4, .rw, .installer, .f, 10000, .num (1000) (600000) 1, true⟩, -- PTP_WAIT
   ⟨0x1100, 1, 1, 0x0B, 1, .bool, .rw, .installer, .f, 0, .any, true⟩, -- GM_ALLOWED
   ⟨0x1101, 1, 1, 0x01, 1, .u 4, .ro, .observer, .none, 60, .num (1) (960000) 1, false⟩, -- TICK_NUM
   ⟨0x1101, 1, 1, 0x02, 1, .u 4, .ro, .observer, .none, 1, .num (1) (1001) 1, false⟩, -- TICK_DEN
   ⟨0x1101, 1, 1, 0x03, 1, .u 1, .ro, .observer, .none, 2, .num (1) (2) 1, false⟩, -- LATENCY
   ⟨0x1101, 1, 1, 0x04, 1, .u 8, .ro, .observer, .none, 0, .any, false⟩, -- TICK_INDEX
   ⟨0x1101, 1, 1, 0x05, 1, .time80, .ro, .observer, .none, 0, .any, false⟩, -- TICK_TIME
   ⟨0x1101, 1, 1, 0x06, 1, .u 4, .rc, .observer, .none, 4294967295, .any, false⟩, -- MARGIN_MIN
   ⟨0x1101, 1, 1, 0x07, 1, .u 4, .rc, .observer, .none, 0, .any, false⟩, -- HOLD_TICKS
   ⟨0x1F10, 1, 1, 0x01, 1, .u 1, .cmd, .operator, .none, 0, .enum [1], false⟩, -- COMMIT
   ⟨0x1F10, 1, 1, 0x02, 1, .u 1, .cmd, .operator, .none, 0, .enum [1], false⟩, -- DISCARD
   ⟨0x1F10, 1, 1, 0x03, 1, .u 4, .ro, .observer, .none, 0, .any, false⟩, -- STAGED_COUNT
   ⟨0x1F10, 1, 1, 0x04, 1, .u 8, .ro, .observer, .none, 0, .any, false⟩, -- LAST_COMMIT_TICK
   ⟨0x1F12, 1, 1, 0x01, 1, .u 2, .ro, .observer, .none, 0, .num (0) (1024) 1, false⟩, -- TIMED_PENDING
   ⟨0x1F12, 1, 1, 0x02, 1, .time80, .ro, .observer, .none, 0, .any, false⟩, -- TIMED_NEXT
   ⟨0x1F12, 1, 1, 0x03, 1, .u 1, .cmd, .installer, .none, 0, .enum [1], false⟩, -- TIMED_CANCEL
   ⟨0x1F20, 1, 1, 0x01, 1, .oct 48 48, .rc, .observer, .none, 0, .any, false⟩, -- CLAMP_READ
   ⟨0x1F20, 1, 1, 0x02, 1, .u 2, .ro, .observer, .none, 0, .num (0) (256) 1, false⟩, -- CLAMP_DEPTH
   ⟨0x1F20, 1, 1, 0x03, 1, .u 4, .rc, .observer, .none, 0, .any, false⟩, -- CLAMP_LOST
   ⟨0x1F21, 1, 1, 0x01, 1, .oct 32 32, .rc, .observer, .none, 0, .any, false⟩, -- REJECT_READ
   ⟨0x1F21, 1, 1, 0x02, 1, .u 2, .ro, .observer, .none, 0, .num (0) (256) 1, false⟩] -- REJECT_DEPTH

/-- Rows of 12_control_and_sessions.md. -/
def od1b : List Obj :=
  [⟨0x1F21, 1, 1, 0x03, 1, .u 4, .rc, .observer, .none, 0, .any, false⟩] -- REJECT_LOST

/-- Rows of 09_network_time.md. -/
def od2a : List Obj :=
  [⟨0x2000, 1, 1, 0x01, 1, .time80, .ro, .observer, .none, 0, .any, false⟩, -- CLOCK_NOW
   ⟨0x2000, 1, 1, 0x02, 1, .u 1, .ro, .observer, .none, 0, .num (0) (1) 1, false⟩, -- CLOCK_STATE
   ⟨0x2000, 1, 1, 0x03, 1, .i 4, .ro, .observer, .none, 0, .num (-858993) (858993) 1, false⟩, -- RATE_TRIM
   ⟨0x2000, 1, 1, 0x04, 1, .u 1, .cmd, .observer, .none, 0, .enum [1], false⟩, -- SNAPSHOT
   ⟨0x2000, 1, 1, 0x05, 1, .time80, .ro, .observer, .none, 0, .any, false⟩, -- SNAP_TIME
   ⟨0x2000, 1, 1, 0x06, 1, .u 8, .ro, .observer, .none, 0, .any, false⟩, -- SNAP_TICK
   ⟨0x2000, 1, 1, 0x07, 1, .time80, .ro, .observer, .none, 0, .any, false⟩, -- SNAP_TICK_TIME
   ⟨0x2000, 1, 1, 0x08, 1, .u 8, .ro, .observer, .none, 0, .any, false⟩, -- SNAP_FRAME
   ⟨0x2000, 1, 1, 0x09, 1, .u 8, .ro, .observer, .none, 0, .any, false⟩, -- TICK_BIAS
   ⟨0x2000, 1, 1, 0x0A, 1, .u 4, .rc, .observer, .none, 0, .any, false⟩, -- STEPS
   ⟨0x2001, 1, 1, 0x01, 1, .u 1, .rw, .installer, .f, 2, .enum [0, 1, 2], true⟩, -- PROFILE
   ⟨0x2001, 1, 1, 0x02, 1, .u 1, .rw, .installer, .f, 127, .num (0) (127) 1, true⟩, -- DOMAIN
   ⟨0x2001, 1, 1, 0x03, 1, .u 1, .rw, .installer, .f, 128, .num (0) (255) 1, true⟩, -- PRIORITY1
   ⟨0x2001, 1, 1, 0x04, 1, .u 1, .rw, .installer, .f, 128, .num (0) (255) 1, true⟩, -- PRIORITY2
   ⟨0x2001, 1, 1, 0x05, 1, .i 1, .rw, .installer, .f, 253, .num (-7) (1) 1, true⟩, -- LOG_SYNC
   ⟨0x2001, 1, 1, 0x06, 1, .i 1, .rw, .installer, .f, 254, .num (-3) (1) 1, true⟩, -- LOG_ANNOUNCE
   ⟨0x2001, 1, 1, 0x07, 1, .u 1, .rw, .installer, .f, 3, .num (2) (10) 1, true⟩, -- ANNOUNCE_TIMEOUT
   ⟨0x2001, 1, 1, 0x08, 1, .i 1, .rw, .installer, .f, 253, .num (-7) (5) 1, true⟩, -- LOG_DELAY_REQ
   ⟨0x2001, 1, 1, 0x09, 1, .i 1, .rw, .installer, .f, 253, .num (-4) (1) 1, true⟩, -- LOG_PDELAY
   ⟨0x2001, 1, 1, 0x0A, 1, .u 1, .rw, .installer, .f, 0, .enum [0, 1], true⟩, -- TRAIL_MODE
   ⟨0x2001, 1, 1, 0x0B, 1, .u 1, .rw, .installer, .f, 46, .num (0) (63) 1, true⟩, -- PTP_DSCP
   ⟨0x2001, 1, 1, 0x0C, 1, .u 4, .rc, .observer, .none, 0, .any, false⟩, -- PTP_IGNORED
   ⟨0x2001, 1, 1, 0x0D, 3, .u 4, .ro, .observer, .none, 0, .any, false⟩, -- LINK_DELAY
   ⟨0x2002, 1, 1, 0x01, 1, .u 4, .rw, .operator, .l, 1000, .num (100) (1000000000) 1, false⟩, -- STEP_THRESHOLD
   ⟨0x2002, 1, 1, 0x02, 1, .u 1, .cmd, .installer, .l, 0, .enum [1], false⟩, -- ACCEPT_STEP
   ⟨0x2002, 1, 1, 0x03, 1, .u 1, .rw, .installer, .l, 1, .mask 3, false⟩, -- AUTO_ACCEPT
   ⟨0x2002, 1, 1, 0x04, 1, .u 4, .rw, .installer, .l, 8000, .num (1000) (600000) 1, false⟩, -- ACCEPT_WINDOW
   ⟨0x2002, 1, 1, 0x05, 1, .i 8, .ro, .observer, .none, 0, .any, false⟩, -- STEP_PENDING
   ⟨0x2002, 1, 1, 0x06, 1, .i 8, .ro, .observer, .none, 0, .any, false⟩, -- LAST_STEP
   ⟨0x2002, 1, 1, 0x07, 1, .u 8, .ro, .observer, .none, 0, .any, false⟩, -- LAST_STEP_TICK
   ⟨0x2003, 1, 1, 0x01, 1, .u 1, .ro, .observer, .none, 0, .num (0) (5) 1, false⟩, -- SERVO_STATE
   ⟨0x2003, 1, 1, 0x02, 1, .i 8, .ro, .observer, .none, 0, .any, false⟩, -- OFFSET_PS
   ⟨0x2003, 1, 1, 0x03, 1, .i 8, .ro, .observer, .none, 0, .any, false⟩, -- MEAN_PATH_PS
   ⟨0x2003, 1, 1, 0x04, 1, .u 2, .rw, .installer, .l, 100, .num (20) (10000) 1, false⟩, -- LOCK_NS
   ⟨0x2003, 1, 1, 0x05, 1, .u 4, .rc, .observer, .none, 0, .any, false⟩, -- DISCARDS
   ⟨0x2003, 1, 1, 0x06, 1, .u 4, .rc, .observer, .none, 0, .any, false⟩, -- OUTLIERS
   ⟨0x2003, 1, 1, 0x07, 1, .u 4, .ro, .observer, .none, 0, .any, false⟩, -- HOLDOVER_MS
   ⟨0x2003, 1, 1, 0x08, 1, .oct 8 8, .ro, .observer, .none, 0, .any, false⟩, -- GM_IDENTITY
   ⟨0x2003, 1, 1, 0x09, 1, .oct 10 10, .ro, .observer, .none, 0, .any, false⟩, -- PARENT_PORT
   ⟨0x2003, 1, 1, 0x0A, 1, .u 2, .ro, .observer, .none, 0, .any, false⟩, -- STEPS_REMOVED
   ⟨0x2100, 1, 4, 0x01, 1, .u 1, .rw, .operator, .s, 0, .enum [0, 1, 2, 3], false⟩, -- MODE
   ⟨0x2100, 1, 4, 0x02, 1, .time80, .rw, .operator, .s, 0, .any, false⟩, -- START
   ⟨0x2100, 1, 4, 0x03, 1, .u 8, .rw, .operator, .s, 1000000000, .num (100) (1000000000000) 1, false⟩, -- PERIOD
   ⟨0x2100, 1, 4, 0x04, 1, .u 8, .rw, .operator, .s, 1000, .any, false⟩, -- WIDTH
   ⟨0x2100, 1, 4, 0x05, 1, .u 2, .rw, .operator, .s, 1, .num (1) (65535) 1, false⟩] -- TICK_DIV

/-- Rows of 09_network_time.md. -/
def od2b : List Obj :=
  [⟨0x2100, 1, 4, 0x06, 1, .u 4, .rw, .operator, .s, 0, .any, false⟩, -- TICK_OFFSET
   ⟨0x2100, 1, 4, 0x07, 1, .bool, .rw, .operator, .s, 1, .any, false⟩, -- POLARITY
   ⟨0x2100, 1, 4, 0x08, 1, .u 1, .ro, .observer, .none, 0, .num (0) (5) 1, false⟩, -- STATE
   ⟨0x2100, 1, 4, 0x09, 1, .u 4, .rc, .observer, .none, 0, .any, false⟩, -- FIRED
   ⟨0x2110, 1, 4, 0x01, 1, .u 1, .rw, .operator, .l, 0, .enum [0, 1, 2, 3], false⟩, -- EDGE_SEL
   ⟨0x2110, 1, 4, 0x02, 1, .oct 16 16, .rc, .observer, .none, 0, .any, false⟩, -- CAPTURE
   ⟨0x2110, 1, 4, 0x03, 1, .u 1, .ro, .observer, .none, 0, .num (0) (64) 1, false⟩, -- DEPTH
   ⟨0x2110, 1, 4, 0x04, 1, .u 4, .rc, .observer, .none, 0, .any, false⟩] -- LOST

/-- Rows of 10_ethernet_ports.md. -/
def od3a : List Obj :=
  [⟨0x3000, 64, 2, 0x01, 1, .u 1, .rw, .installer, .f, 0, .enum [0, 1], true⟩, -- SPEED
   ⟨0x3000, 64, 3, 0x02, 1, .u 1, .rw, .installer, .f, 0, .enum [0, 1], true⟩, -- FEC
   ⟨0x3000, 64, 3, 0x03, 1, .bool, .rw, .installer, .l, 1, .any, false⟩, -- ENABLE
   ⟨0x3000, 64, 3, 0x04, 1, .u 1, .ro, .observer, .none, 0, .num (0) (4) 1, false⟩, -- LINK_STATE
   ⟨0x3000, 64, 2, 0x05, 1, .u 2, .rw, .installer, .f, 9216, .num (64) (9216) 1, true⟩, -- MAX_FRAME
   ⟨0x3000, 64, 2, 0x06, 1, .bool, .rw, .installer, .l, 0, .any, false⟩, -- PAUSE_RX_EN
   ⟨0x3000, 64, 3, 0x07, 1, .u 4, .rw, .installer, .l, 2000000, .num (10000) (100000000) 1000, false⟩, -- PW_LIMIT
   ⟨0x3000, 64, 3, 0x08, 1, .u 1, .ro, .observer, .none, 0, .num (0) (2) 1, false⟩, -- PAUSE_STATE
   ⟨0x3000, 64, 3, 0x09, 1, .bool, .rw, .operator, .s, 1, .any, false⟩, -- TX_UDP_CSUM
   ⟨0x3000, 64, 3, 0x0A, 1, .bool, .rw, .installer, .l, 0, .any, false⟩, -- DELIVER_BAD
   ⟨0x3000, 64, 3, 0x0B, 1, .u 2, .rw, .installer, .f, 0, .num (0) (4094) 1, true⟩, -- VLAN
   ⟨0x3000, 64, 3, 0x0C, 1, .u 1, .rw, .installer, .f, 0, .num (0) (7) 1, true⟩, -- PCP
   ⟨0x3000, 64, 3, 0x0D, 1, .oct 6 6, .ro, .observer, .none, 0, .any, false⟩, -- MAC_ADDR
   ⟨0x3000, 64, 3, 0x0E, 1, .u 4, .rc, .observer, .none, 0, .any, false⟩, -- LINK_CHANGES
   ⟨0x3000, 64, 3, 0x0F, 1, .u 2, .rw, .installer, .l, 128, .num (64) (1536) 1, false⟩, -- DIAG_SNAP
   ⟨0x3000, 64, 3, 0x10, 1, .u 2, .rw, .installer, .f, 1024, .num (64) (4096) 1, true⟩, -- TSQ_DEPTH
   ⟨0x3001, 64, 3, 0x01, 1, .u 4, .rc, .observer, .none, 0, .any, false⟩, -- RX_FRAMES
   ⟨0x3001, 64, 3, 0x02, 1, .u 8, .rc, .observer, .none, 0, .any, false⟩, -- RX_OCTETS
   ⟨0x3001, 64, 3, 0x03, 1, .u 4, .rc, .observer, .none, 0, .any, false⟩, -- TX_FRAMES
   ⟨0x3001, 64, 3, 0x04, 1, .u 8, .rc, .observer, .none, 0, .any, false⟩, -- TX_OCTETS
   ⟨0x3001, 64, 3, 0x05, 1, .u 4, .rc, .observer, .none, 0, .any, false⟩, -- RUNTS
   ⟨0x3001, 64, 3, 0x06, 1, .u 4, .rc, .observer, .none, 0, .any, false⟩, -- STOMPED_RX
   ⟨0x3001, 64, 3, 0x07, 1, .u 4, .rc, .observer, .none, 0, .any, false⟩, -- OVERSIZE
   ⟨0x3001, 64, 3, 0x08, 1, .u 4, .rc, .observer, .none, 0, .any, false⟩, -- ALIGN_ERRORS
   ⟨0x3001, 64, 3, 0x09, 1, .u 4, .rc, .observer, .none, 0, .any, false⟩, -- FCS_ERRORS
   ⟨0x3001, 64, 3, 0x0A, 1, .u 4, .rc, .observer, .none, 0, .any, false⟩, -- CSUM_ERRORS
   ⟨0x3001, 64, 3, 0x0B, 1, .u 4, .rc, .observer, .none, 0, .any, false⟩, -- STOMPED_TX
   ⟨0x3001, 64, 3, 0x0C, 1, .u 4, .rc, .observer, .none, 0, .any, false⟩, -- TX_DISCARDS
   ⟨0x3001, 64, 3, 0x0D, 1, .u 4, .rc, .observer, .none, 0, .any, false⟩, -- IPV6_DROPS
   ⟨0x3001, 64, 3, 0x0E, 1, .u 4, .rc, .observer, .none, 0, .any, false⟩, -- FRAGMENTS
   ⟨0x3001, 64, 3, 0x0F, 1, .u 4, .rc, .observer, .none, 0, .any, false⟩, -- VLAN_DROPS
   ⟨0x3001, 64, 3, 0x10, 1, .u 4, .rc, .observer, .none, 0, .any, false⟩, -- CTRL_UNSUPPORTED
   ⟨0x3001, 64, 3, 0x11, 1, .u 4, .rc, .observer, .none, 0, .any, false⟩, -- FILTERED
   ⟨0x3001, 64, 3, 0x12, 1, .u 4, .rc, .observer, .none, 0, .any, false⟩, -- RX_QUEUE_DROPS
   ⟨0x3001, 64, 3, 0x13, 1, .u 4, .rc, .observer, .none, 0, .any, false⟩, -- PAUSE_RX
   ⟨0x3001, 64, 3, 0x14, 1, .u 4, .rc, .observer, .none, 0, .any, false⟩, -- PAUSE_WATCHDOG
   ⟨0x3002, 64, 3, 0x01, 1, .u 2, .ro, .observer, .none, 0, .num (0) (4096) 1, false⟩, -- TSQ_LEVEL
   ⟨0x3002, 64, 3, 0x02, 1, .u 4, .rc, .observer, .none, 0, .any, false⟩, -- TSQ_LOST
   ⟨0x3002, 64, 3, 0x03, 1, .u 2, .rc, .observer, .none, 0, .any, false⟩, -- TSQ_HIGH
   ⟨0x3003, 64, 3, 0x01, 1, .oct 0 1552, .rc, .observer, .none, 0, .any, false⟩, -- DIAG_READ
   ⟨0x3003, 64, 3, 0x02, 1, .u 1, .ro, .observer, .none, 0, .num (0) (64) 1, false⟩, -- DIAG_DEPTH
   ⟨0x3003, 64, 3, 0x03, 1, .u 4, .rc, .observer, .none, 0, .any, false⟩, -- DIAG_LOST
   ⟨0x3080, 1, 1, 0x01, 1, .u 1, .rw, .installer, .f, 1, .enum [1, 2, 3], true⟩, -- SPEED
   ⟨0x3080, 1, 1, 0x05, 1, .u 2, .rw, .installer, .f, 1522, .num (64) (9216) 1, true⟩, -- MAX_FRAME
   ⟨0x3080, 1, 1, 0x06, 1, .bool, .rw, .installer, .l, 1, .any, false⟩] -- PAUSE_RX_EN

/-- Rows of 10_ethernet_ports.md, 11_rope.md. -/
def od3b : List Obj :=
  [⟨0x30C0, 1, 1, 0x01, 1, .oct 6 6, .ro, .observer, .none, 0, .any, false⟩, -- MAC_BASE
   ⟨0x30C0, 1, 1, 0x02, 1, .oct 8 8, .ro, .observer, .none, 0, .any, false⟩, -- EUI64
   ⟨0x30C0, 1, 1, 0x03, 1, .u 2, .ro, .observer, .none, 0, .num (0) (8192) 1, false⟩, -- GROUPS
   ⟨0x30C0, 1, 1, 0x04, 1, .u 1, .ro, .observer, .none, 3, .num (2) (3) 1, false⟩, -- IGMP_VERSION
   ⟨0x30C0, 1, 1, 0x05, 1, .u 4, .rc, .observer, .none, 0, .any, false⟩, -- IGMP_REPORTS
   ⟨0x30C0, 1, 1, 0x06, 1, .u 1, .rw, .installer, .f, 0, .num (0) (31) 1, true⟩, -- PHY_ADDR
   ⟨0x3100, 1, 1, 0x01, 1, .u 1, .rw, .installer, .f, 0, .num (0) (255) 1, true⟩, -- SEGMENT_CFG
   ⟨0x3100, 1, 1, 0x02, 1, .u 2, .rw, .installer, .f, 2560, .any, true⟩, -- PREFIX_CFG
   ⟨0x3100, 1, 1, 0x03, 1, .u 1, .ro, .observer, .none, 0, .any, false⟩, -- SEGMENT
   ⟨0x3100, 1, 1, 0x04, 1, .u 2, .ro, .observer, .none, 2560, .any, false⟩, -- PREFIX
   ⟨0x3100, 1, 1, 0x05, 1, .u 1, .ro, .observer, .none, 0, .any, false⟩, -- POSITION
   ⟨0x3100, 1, 1, 0x06, 1, .u 1, .ro, .observer, .none, 0, .num (0) (4) 1, false⟩, -- ADDR_STATE
   ⟨0x3100, 1, 1, 0x07, 1, .u 2, .ro, .observer, .none, 65535, .any, false⟩, -- STORED_POS
   ⟨0x3100, 1, 1, 0x08, 1, .u 8, .ro, .observer, .none, 0, .any, false⟩, -- ROPED_AT
   ⟨0x3100, 1, 1, 0x09, 1, .u 1, .cmd, .installer, .none, 0, .enum [1], false⟩, -- CLEAR_POSITION
   ⟨0x3100, 1, 1, 0x0A, 1, .u 1, .cmd, .installer, .none, 0, .enum [1], false⟩, -- REROPE
   ⟨0x3100, 1, 1, 0x0B, 1, .u 1, .ro, .observer, .none, 0, .num (0) (1) 1, false⟩, -- ROPE_MODE
   ⟨0x3100, 1, 1, 0x0C, 1, .u 2, .rw, .installer, .f, 34997, .dyn .etherType, true⟩, -- ETHERTYPE
   ⟨0x3100, 1, 1, 0x0D, 1, .u 2, .ro, .observer, .none, 256, .num (1) (256) 1, false⟩, -- SEG_LEN
   ⟨0x3100, 1, 1, 0x0E, 1, .u 1, .ro, .observer, .none, 0, .num (0) (3) 1, false⟩, -- RING_STATE
   ⟨0x3100, 1, 1, 0x0F, 1, .u 1, .ro, .observer, .none, 0, .num (0) (3) 1, false⟩, -- HEAD_ROLE
   ⟨0x3100, 1, 1, 0x10, 1, .u 1, .rw, .installer, .f, 128, .num (0) (255) 1, true⟩, -- HEAD_PRIO
   ⟨0x3100, 1, 1, 0x11, 1, .u 1, .ro, .observer, .none, 0, .any, false⟩, -- HEAD_POS
   ⟨0x3100, 1, 1, 0x12, 1, .u 4, .ro, .observer, .none, 0, .any, false⟩, -- HEAD_TERM
   ⟨0x3100, 1, 1, 0x13, 1, .u 1, .ro, .observer, .none, 0, .num (0) (4) 1, false⟩, -- LINK_A_STATE
   ⟨0x3100, 1, 1, 0x14, 1, .u 1, .ro, .observer, .none, 0, .num (0) (4) 1, false⟩, -- LINK_B_STATE
   ⟨0x3100, 1, 1, 0x15, 1, .bool, .ro, .observer, .none, 0, .any, false⟩, -- MODE_MISMATCH
   ⟨0x3101, 1, 1, 0x01, 1, .u 4, .rc, .observer, .none, 0, .any, false⟩, -- TAG_ERRORS
   ⟨0x3101, 1, 1, 0x02, 1, .u 4, .rc, .observer, .none, 0, .any, false⟩, -- STRIPPED
   ⟨0x3101, 1, 1, 0x03, 1, .u 4, .rc, .observer, .none, 0, .any, false⟩, -- HOP_DROPS
   ⟨0x3101, 1, 1, 0x04, 1, .u 4, .rc, .observer, .none, 0, .any, false⟩, -- DUP_DISCARDS
   ⟨0x3101, 1, 1, 0x05, 1, .u 4, .rc, .observer, .none, 0, .any, false⟩, -- STALE_DISCARDS
   ⟨0x3101, 1, 1, 0x06, 1, .u 4, .rc, .observer, .none, 0, .any, false⟩, -- BRIDGE_IN
   ⟨0x3101, 1, 1, 0x07, 1, .u 4, .rc, .observer, .none, 0, .any, false⟩, -- BRIDGE_OUT
   ⟨0x3101, 1, 1, 0x08, 1, .u 4, .rc, .observer, .none, 0, .any, false⟩, -- BRIDGE_OVERSIZE
   ⟨0x3101, 1, 1, 0x09, 1, .u 4, .rc, .observer, .none, 0, .any, false⟩, -- BREAKS
   ⟨0x3101, 1, 1, 0x0A, 1, .u 4, .rc, .observer, .none, 0, .any, false⟩, -- HEALS
   ⟨0x3101, 1, 1, 0x0B, 1, .u 4, .rc, .observer, .none, 0, .any, false⟩, -- HB_INVALID
   ⟨0x3101, 1, 1, 0x0C, 1, .u 4, .rc, .observer, .none, 0, .any, false⟩, -- BREAK_SHED
   ⟨0x3101, 1, 1, 0x0D, 1, .u 4, .rc, .observer, .none, 0, .any, false⟩, -- TAKEOVERS
   ⟨0x3101, 1, 1, 0x0E, 1, .u 4, .rc, .observer, .none, 0, .any, false⟩, -- IP_CONFLICTS
   ⟨0x3200, 1, 1, 0x01, 1, .u 1, .cmd, .service, .none, 0, .span 0 1, false⟩, -- ARM
   ⟨0x3200, 1, 1, 0x02, 1, .u 1, .ro, .observer, .none, 0, .num (0) (1) 1, false⟩, -- STATE
   ⟨0x3200, 1, 1, 0x03, 1, .u 4, .rw, .service, .l, 10000, .num (1) (3600000) 1, false⟩, -- DURATION_MS
   ⟨0x3201, 1, 4, 0x01, 1, .u 1, .rw, .service, .l, 0, .mask 7, false⟩] -- PORTS

/-- Rows of 11_rope.md, 12_control_and_sessions.md. -/
def od3c : List Obj :=
  [⟨0x3201, 1, 4, 0x02, 1, .u 1, .rw, .service, .l, 0, .mask 159, false⟩, -- CLASS_MASK
   ⟨0x3201, 1, 4, 0x03, 1, .u 2, .rw, .service, .l, 65535, .dyn .srcPos, false⟩, -- SRC_POS
   ⟨0x3201, 1, 4, 0x04, 1, .u 1, .rw, .service, .l, 0, .enum [0, 1, 2, 3, 4], false⟩, -- ACTION
   ⟨0x3201, 1, 4, 0x05, 1, .u 2, .rw, .service, .l, 1, .num (1) (65535) 1, false⟩, -- RATE_N
   ⟨0x3201, 1, 4, 0x06, 1, .u 4, .rw, .service, .l, 0, .any, false⟩, -- LIMIT
   ⟨0x3201, 1, 4, 0x07, 1, .u 2, .rw, .service, .l, 0, .num (0) (9212) 1, false⟩, -- BYTE_OFFSET
   ⟨0x3201, 1, 4, 0x08, 1, .u 4, .rw, .service, .l, 1, .any, false⟩, -- XOR_MASK
   ⟨0x3201, 1, 4, 0x09, 1, .bool, .rw, .service, .l, 0, .any, false⟩, -- FIX_FCS
   ⟨0x3201, 1, 4, 0x0A, 1, .u 1, .rw, .service, .l, 1, .num (1) (16) 1, false⟩, -- REORDER_DEPTH
   ⟨0x3201, 1, 4, 0x0B, 1, .u 4, .rc, .observer, .none, 0, .any, false⟩, -- ACTED
   ⟨0x3400, 1, 1, 0x01, 1, .oct 32 32, .wo, .installer, .l, 0, .any, false⟩, -- KEY_OBSERVER
   ⟨0x3400, 1, 1, 0x02, 1, .oct 32 32, .wo, .installer, .l, 0, .any, false⟩, -- KEY_OPERATOR
   ⟨0x3400, 1, 1, 0x03, 1, .oct 32 32, .wo, .installer, .l, 0, .any, false⟩, -- KEY_INSTALLER
   ⟨0x3400, 1, 1, 0x04, 1, .oct 32 32, .wo, .service, .l, 0, .any, false⟩, -- KEY_SERVICE
   ⟨0x3400, 1, 1, 0x05, 1, .u 1, .ro, .observer, .none, 0, .any, false⟩, -- KEY_STATE
   ⟨0x3400, 1, 1, 0x06, 1, .u 2, .rw, .installer, .f, 52331, .num (1024) (65535) 1, true⟩, -- UDP_PORT
   ⟨0x3400, 1, 1, 0x07, 1, .u 4, .rw, .installer, .l, 10000, .num (1000) (600000) 1, false⟩, -- SESSION_TIMEOUT
   ⟨0x3400, 1, 1, 0x08, 1, .u 2, .rw, .installer, .l, 1472, .num (512) (8972) 1, false⟩, -- MSG_MAX
   ⟨0x3400, 1, 1, 0x09, 1, .u 1, .ro, .observer, .none, 0, .num (0) (8) 1, false⟩, -- SESSIONS_OPEN
   ⟨0x3400, 1, 1, 0x0A, 1, .u 4, .rc, .observer, .none, 0, .any, false⟩, -- AUTH_FAILS
   ⟨0x3400, 1, 1, 0x0B, 1, .oct 32 32, .wo, .installer, .f, 0, .any, false⟩, -- TOPO_KEY
   ⟨0x3400, 1, 1, 0x0C, 1, .u 4, .rc, .observer, .none, 0, .any, false⟩, -- MSG_MALFORMED
   ⟨0x3400, 1, 1, 0x0D, 1, .u 4, .rc, .observer, .none, 0, .any, false⟩, -- SEQ_ERRORS
   ⟨0x3401, 1, 1, 0x01, 1, .u 4, .ro, .observer, .none, 0, .any, false⟩, -- MY_SESSION
   ⟨0x3401, 1, 1, 0x02, 1, .u 1, .rw, .observer, .l, 0, .num (0) (7) 1, false⟩, -- SESS_SEL
   ⟨0x3401, 1, 1, 0x03, 1, .oct 32 32, .ro, .observer, .none, 0, .any, false⟩, -- SESS_INFO
   ⟨0x3401, 1, 1, 0x04, 1, .u 4, .cmd, .installer, .none, 0, .any, false⟩, -- SESS_KILL
   ⟨0x3402, 1, 1, 0x01, 1, .u 1, .ro, .observer, .none, 0, .any, false⟩, -- LCL_ROLE
   ⟨0x3402, 1, 1, 0x02, 1, .bool, .rw, .operator, .l, 0, .any, false⟩] -- REPLY_IRQ

/-- Rows of 04_layer_composition.md. -/
def od4a : List Obj :=
  [⟨0x4000, 1, 1, 0x01, 1, .u 4, .rw, .operator, .s, 0, .num (0) (1048575) 1, false⟩, -- BG_R
   ⟨0x4000, 1, 1, 0x02, 1, .u 4, .rw, .operator, .s, 0, .num (0) (1048575) 1, false⟩, -- BG_G
   ⟨0x4000, 1, 1, 0x03, 1, .u 4, .rw, .operator, .s, 0, .num (0) (1048575) 1, false⟩, -- BG_B
   ⟨0x4000, 1, 1, 0x04, 1, .u 1, .rw, .installer, .s, 0, .enum [0, 1], false⟩, -- ENCODE
   ⟨0x4000, 1, 1, 0x05, 1, .u 1, .rw, .installer, .s, 0, .enum [0, 1], false⟩, -- ENCODE_BANK
   ⟨0x4000, 1, 1, 0x06, 1, .u 2, .ro, .observer, .none, 0, .any, false⟩, -- ACTIVE_LAYERS
   ⟨0x4000, 1, 1, 0x07, 1, .u 4, .ro, .observer, .none, 0, .any, false⟩, -- SAMPLES_LAST
   ⟨0x4100, 16, 16, 0x01, 1, .bool, .rw, .operator, .s, 0, .any, false⟩, -- ENABLE
   ⟨0x4100, 16, 16, 0x02, 1, .u 1, .rw, .operator, .s, 0, .enum [0, 1, 2, 3, 4, 5], false⟩, -- SOURCE_KIND
   ⟨0x4100, 16, 16, 0x03, 1, .u 2, .rw, .operator, .s, 0, .dyn .sourceRef, false⟩, -- SOURCE_REF
   ⟨0x4100, 16, 16, 0x04, 1, .u 2, .rw, .operator, .s, 0, .num (0) (8191) 1, false⟩, -- CROP_X
   ⟨0x4100, 16, 16, 0x05, 1, .u 2, .rw, .operator, .s, 0, .num (0) (8191) 1, false⟩, -- CROP_Y
   ⟨0x4100, 16, 16, 0x06, 1, .u 2, .rw, .operator, .s, 1920, .num (1) (8192) 1, false⟩, -- CROP_W
   ⟨0x4100, 16, 16, 0x07, 1, .u 2, .rw, .operator, .s, 1080, .num (1) (8192) 1, false⟩, -- CROP_H
   ⟨0x4100, 16, 16, 0x08, 1, .i 2, .rw, .operator, .s, 0, .num (-8192) (8191) 1, false⟩, -- DST_X
   ⟨0x4100, 16, 16, 0x09, 1, .i 2, .rw, .operator, .s, 0, .num (-8192) (8191) 1, false⟩, -- DST_Y
   ⟨0x4100, 16, 16, 0x0A, 1, .u 2, .rw, .operator, .s, 1920, .num (1) (8192) 1, false⟩, -- DST_W
   ⟨0x4100, 16, 16, 0x0B, 1, .u 2, .rw, .operator, .s, 1080, .num (1) (8192) 1, false⟩, -- DST_H
   ⟨0x4100, 16, 16, 0x0C, 1, .u 1, .rw, .operator, .s, 255, .enum [0, 1, 2, 3, 4, 5, 6, 7, 255], false⟩, -- SCALER
   ⟨0x4100, 16, 16, 0x0D, 1, .u 1, .rw, .operator, .s, 0, .enum [0, 1], false⟩, -- COEF_BANK
   ⟨0x4100, 16, 16, 0x0E, 1, .u 1, .rw, .operator, .s, 0, .enum [0, 1], false⟩, -- DEGAMMA_BANK
   ⟨0x4100, 16, 16, 0x0F, 1, .u 1, .rw, .operator, .s, 0, .enum [0, 1, 2], false⟩, -- BLEND
   ⟨0x4100, 16, 16, 0x10, 1, .bool, .rw, .operator, .s, 0, .any, false⟩, -- STATIC
   ⟨0x4100, 16, 16, 0x11, 1, .u 1, .rw, .installer, .f, 1, .enum [0, 1, 2], false⟩, -- EMBER_FMT
   ⟨0x4100, 16, 16, 0x12, 1, .u 4, .rw, .installer, .f, 0, .num (0) (73727) 1, false⟩, -- EMBER_OFFSET
   ⟨0x4100, 16, 16, 0x13, 1, .u 2, .rw, .operator, .l, 65535, .num (0) (65535) 1, false⟩, -- OPACITY
   ⟨0x4100, 16, 16, 0x14, 1, .u 2, .rw, .operator, .l, 0, .dyn .modSource, false⟩, -- MOD_SOURCE
   ⟨0x4100, 16, 16, 0x15, 1, .u 2, .rw, .operator, .l, 0, .num (0) (65535) 1, false⟩, -- MOD_DEPTH
   ⟨0x4100, 16, 16, 0x16, 1, .u 4, .rw, .operator, .s, 0, .num (0) (1048575) 1, false⟩, -- SOLID_R
   ⟨0x4100, 16, 16, 0x17, 1, .u 4, .rw, .operator, .s, 0, .num (0) (1048575) 1, false⟩, -- SOLID_G
   ⟨0x4100, 16, 16, 0x18, 1, .u 4, .rw, .operator, .s, 0, .num (0) (1048575) 1, false⟩, -- SOLID_B
   ⟨0x4100, 16, 16, 0x19, 1, .u 2, .rw, .operator, .s, 65535, .num (0) (65535) 1, false⟩, -- SOLID_A
   ⟨0x4100, 16, 16, 0x1F, 1, .u 1, .ro, .observer, .none, 0, .any, false⟩, -- STATUS
   ⟨0x4101, 16, 16, 0x01, 1, .u 8, .ro, .observer, .none, 0, .any, false⟩, -- APPLIED_FRAME
   ⟨0x4101, 16, 16, 0x02, 1, .u 4, .rc, .observer, .none, 0, .any, false⟩, -- FRAMES_NEW
   ⟨0x4101, 16, 16, 0x03, 1, .u 4, .rc, .observer, .none, 0, .any, false⟩, -- REPEATS
   ⟨0x4101, 16, 16, 0x04, 1, .u 4, .rc, .observer, .none, 0, .any, false⟩, -- PACKED_ERRORS
   ⟨0x4200, 1, 1, 0x01, 8, .u 1, .ro, .observer, .none, 255, .any, false⟩, -- SCALER_USER
   ⟨0x4201, 1, 1, 0x01, 1, .u 1, .rw, .observer, .l, 0, .num (0) (15) 1, false⟩, -- COEF_SEL
   ⟨0x4201, 1, 1, 0x02, 1, .domain, .wo, .installer, .none, 0, .any, false⟩, -- COEF_DATA
   ⟨0x4300, 1, 1, 0x01, 1, .u 1, .rw, .observer, .l, 0, .num (0) (33) 1, false⟩, -- LUT_SEL
   ⟨0x4300, 1, 1, 0x02, 1, .domain, .wo, .installer, .none, 0, .any, false⟩, -- LUT_DATA
   ⟨0x4400, 1, 1, 0x01, 1, .u 4, .ro, .observer, .none, 0, .any, false⟩, -- EMBER_KB
   ⟨0x4400, 1, 1, 0x02, 1, .u 4, .rc, .observer, .none, 0, .any, false⟩, -- FLATTENS
   ⟨0x4400, 1, 1, 0x03, 1, .u 4, .rc, .observer, .none, 0, .any, false⟩] -- FLATTEN_SKIPPED

/-- Rows of 04_layer_composition.md. -/
def od4b : List Obj :=
  [⟨0x4500, 1, 8, 0x01, 1, .u 1, .ro, .observer, .none, 0, .any, false⟩, -- STATE
   ⟨0x4500, 1, 8, 0x02, 1, .u 4, .rw, .operator, .l, 0, .num (0) (1000000000) 1, false⟩, -- PLAYOUT_DELAY
   ⟨0x4500, 1, 8, 0x03, 1, .u 4, .rc, .observer, .none, 0, .any, false⟩, -- FRAMES_TAKEN
   ⟨0x4500, 1, 8, 0x04, 1, .u 4, .rc, .observer, .none, 0, .any, false⟩, -- LATE
   ⟨0x4500, 1, 8, 0x05, 1, .u 4, .rc, .observer, .none, 0, .any, false⟩, -- MISSING
   ⟨0x4500, 1, 8, 0x06, 1, .u 4, .rc, .observer, .none, 0, .any, false⟩, -- INCOMPLETE
   ⟨0x4500, 1, 8, 0x07, 1, .u 4, .rc, .observer, .none, 0, .any, false⟩, -- SKIPPED
   ⟨0x4500, 1, 8, 0x08, 1, .i 4, .rc, .observer, .none, 2147483647, .any, false⟩, -- MARGIN_MIN
   ⟨0x4500, 1, 8, 0x09, 1, .u 1, .cmd, .operator, .l, 0, .enum [1], false⟩, -- MARK
   ⟨0x4500, 1, 8, 0x0A, 1, .u 1, .cmd, .operator, .l, 0, .enum [1], false⟩, -- REWIND
   ⟨0x4500, 1, 8, 0x0B, 1, .u 1, .ro, .observer, .none, 0, .any, false⟩, -- MARK_STATE
   ⟨0x4500, 1, 8, 0x0C, 1, .u 1, .ro, .observer, .none, 0, .any, false⟩, -- DEPTH
   ⟨0x4510, 1, 16, 0x01, 1, .u 1, .ro, .observer, .none, 0, .any, false⟩, -- STATE
   ⟨0x4510, 1, 16, 0x02, 1, .u 1, .cmd, .operator, .l, 0, .enum [1], false⟩, -- START
   ⟨0x4510, 1, 16, 0x03, 1, .u 1, .cmd, .operator, .l, 0, .enum [1], false⟩, -- STOP
   ⟨0x4510, 1, 16, 0x04, 1, .u 2, .ro, .observer, .none, 0, .any, false⟩, -- ENTRY
   ⟨0x4510, 1, 16, 0x05, 1, .oct 16 16, .wo, .operator, .l, 0, .any, false⟩, -- APPEND
   ⟨0x4510, 1, 16, 0x06, 1, .u 1, .cmd, .operator, .l, 0, .enum [1], false⟩, -- REWIND
   ⟨0x4510, 1, 16, 0x07, 1, .u 1, .ro, .observer, .none, 0, .any, false⟩, -- MARK_STATE
   ⟨0x4510, 1, 16, 0x08, 1, .u 2, .ro, .observer, .none, 0, .any, false⟩, -- DEPTH
   ⟨0x4520, 1, 1, 0x01, 1, .domain, .wo, .installer, .l, 0, .any, false⟩, -- SURF_DATA
   ⟨0x4520, 1, 1, 0x02, 1, .u 2, .rw, .observer, .l, 0, .num (0) (1023) 1, false⟩, -- SURF_SEL
   ⟨0x4520, 1, 1, 0x03, 1, .u 1, .ro, .observer, .none, 0, .any, false⟩, -- SURF_STATE
   ⟨0x4520, 1, 1, 0x04, 1, .u 4, .ro, .observer, .none, 0, .any, false⟩, -- STORE_FREE
   ⟨0x4601, 1, 1, 0x01, 32, .u 4, .ro, .observer, .none, 0, .any, false⟩, -- BAND_M
   ⟨0x4602, 1, 1, 0x01, 32, .u 2, .rw, .operator, .l, 0, .num (0) (65535) 1, false⟩, -- BAND_GAIN
   ⟨0x4603, 1, 1, 0x01, 2, .u 4, .rc, .observer, .none, 0, .any, false⟩] -- AUDIO_GAPS

/-- Rows of 05_raster_scanout.md. -/
def od5a : List Obj :=
  [⟨0x5000, 1, 1, 0x01, 1, .u 2, .rw, .installer, .s, 1920, .num (1) (8192) 1, false⟩, -- HACT
   ⟨0x5000, 1, 1, 0x02, 1, .u 2, .rw, .installer, .s, 88, .num (1) (4095) 1, false⟩, -- HFP
   ⟨0x5000, 1, 1, 0x03, 1, .u 2, .rw, .installer, .s, 44, .num (1) (1023) 1, false⟩, -- HSW
   ⟨0x5000, 1, 1, 0x04, 1, .u 2, .rw, .installer, .s, 148, .num (1) (4095) 1, false⟩, -- HBP
   ⟨0x5000, 1, 1, 0x05, 1, .u 2, .rw, .installer, .s, 1080, .num (1) (8192) 1, false⟩, -- VACT
   ⟨0x5000, 1, 1, 0x06, 1, .u 2, .rw, .installer, .s, 4, .num (1) (4095) 1, false⟩, -- VFP
   ⟨0x5000, 1, 1, 0x07, 1, .u 2, .rw, .installer, .s, 5, .num (1) (255) 1, false⟩, -- VSW
   ⟨0x5000, 1, 1, 0x08, 1, .u 2, .rw, .installer, .s, 36, .num (1) (1023) 1, false⟩, -- VBP
   ⟨0x5000, 1, 1, 0x09, 1, .u 1, .rw, .installer, .s, 0, .enum [0, 1], false⟩, -- BLANK_MODE
   ⟨0x5000, 1, 1, 0x0A, 1, .u 2, .rw, .installer, .s, 45, .num (3) (8192) 1, false⟩, -- VBMIN
   ⟨0x5000, 1, 1, 0x0B, 1, .u 2, .rw, .installer, .s, 90, .num (3) (8192) 1, false⟩, -- VBMAX
   ⟨0x5000, 1, 1, 0x0C, 1, .u 1, .rw, .installer, .s, 255, .dyn .paceStream, false⟩, -- PACE_STREAM
   ⟨0x5000, 1, 1, 0x0D, 1, .bool, .rw, .installer, .s, 1, .any, false⟩, -- HOLD_FALLBACK
   ⟨0x5000, 1, 1, 0x0E, 1, .u 1, .rw, .operator, .l, 4, .mask 7, false⟩, -- RSYNC_CFG
   ⟨0x5001, 1, 1, 0x01, 1, .u 2, .ro, .observer, .none, 2200, .any, false⟩, -- HTOTAL
   ⟨0x5001, 1, 1, 0x02, 1, .u 2, .ro, .observer, .none, 1125, .any, false⟩, -- VTOTAL
   ⟨0x5001, 1, 1, 0x03, 1, .u 4, .ro, .observer, .none, 0, .any, false⟩, -- PIXEL_RATE
   ⟨0x5001, 1, 1, 0x04, 1, .u 4, .ro, .observer, .none, 0, .any, false⟩, -- LINE_PS
   ⟨0x5001, 1, 1, 0x05, 1, .u 4, .ro, .observer, .none, 0, .any, false⟩, -- SOB_NS
   ⟨0x5001, 1, 1, 0x06, 1, .u 1, .ro, .observer, .none, 0, .any, false⟩, -- BLANK_STATE
   ⟨0x5001, 1, 1, 0x07, 1, .bool, .ro, .observer, .none, 0, .any, false⟩, -- FRAME_LOCK
   ⟨0x5001, 1, 1, 0x08, 1, .bool, .ro, .observer, .none, 0, .any, false⟩, -- TIMING_PEND
   ⟨0x5001, 1, 1, 0x09, 1, .u 4, .rc, .observer, .none, 0, .any, false⟩, -- STRETCHES
   ⟨0x5001, 1, 1, 0x0A, 1, .u 8, .ro, .observer, .none, 0, .any, false⟩, -- SETTLE_FRAME
   ⟨0x5001, 1, 1, 0x0B, 1, .u 4, .rc, .observer, .none, 0, .any, false⟩, -- TIMING_REJECTS
   ⟨0x5010, 1, 1, 0x01, 8, .u 2, .rw, .operator, .l, 0, .num (0) (16383) 1, false⟩, -- MATCH_LINE
   ⟨0x5010, 1, 1, 0x09, 1, .u 1, .rw, .operator, .l, 0, .any, false⟩, -- MATCH_EN
   ⟨0x5020, 1, 1, 0x01, 1, .u 8, .ro, .observer, .none, 0, .any, false⟩, -- FRAME_COUNTER
   ⟨0x5020, 1, 1, 0x02, 1, .time80, .ro, .observer, .none, 0, .any, false⟩, -- FLIP_TIME
   ⟨0x5020, 1, 1, 0x03, 1, .u 4, .ro, .observer, .none, 0, .any, false⟩, -- DONE_OFFSET
   ⟨0x5020, 1, 1, 0x04, 1, .time80, .ro, .observer, .none, 0, .any, false⟩, -- SOB_TIME
   ⟨0x5030, 1, 1, 0x01, 1, .u 2, .ro, .observer, .none, 0, .any, false⟩, -- UNDERRUN_MASK
   ⟨0x5030, 1, 1, 0x02, 16, .u 4, .rc, .observer, .none, 0, .any, false⟩, -- UNDERRUNS
   ⟨0x5040, 1, 1, 0x01, 1, .bool, .rw, .operator, .l, 1, .any, false⟩, -- FRZ_ENABLE
   ⟨0x5040, 1, 1, 0x02, 1, .u 2, .rw, .operator, .s, 0, .num (0) (8191) 1, false⟩, -- FRZ_X
   ⟨0x5040, 1, 1, 0x03, 1, .u 2, .rw, .operator, .s, 0, .num (0) (8191) 1, false⟩, -- FRZ_Y
   ⟨0x5040, 1, 1, 0x04, 1, .u 2, .rw, .operator, .s, 8192, .num (1) (8192) 1, false⟩, -- FRZ_W
   ⟨0x5040, 1, 1, 0x05, 1, .u 2, .rw, .operator, .s, 8192, .num (1) (8192) 1, false⟩, -- FRZ_H
   ⟨0x5040, 1, 1, 0x06, 1, .u 1, .rw, .operator, .l, 3, .num (1) (255) 1, false⟩, -- FRZ_F
   ⟨0x5040, 1, 1, 0x07, 1, .u 4, .ro, .observer, .none, 0, .any, false⟩, -- FRZ_SIG
   ⟨0x5040, 1, 1, 0x08, 1, .u 1, .ro, .observer, .none, 0, .any, false⟩, -- FRZ_COUNT
   ⟨0x5040, 1, 1, 0x09, 1, .u 4, .rc, .observer, .none, 0, .any, false⟩, -- FREEZES
   ⟨0x5050, 1, 1, 0x01, 1, .bool, .rw, .operator, .l, 1, .any, false⟩, -- STATIC_EN
   ⟨0x5050, 1, 1, 0x02, 1, .u 1, .rw, .operator, .l, 4, .num (2) (16) 1, false⟩, -- STATIC_K
   ⟨0x5050, 1, 1, 0x03, 1, .u 1, .ro, .observer, .none, 0, .num (0) (1) 1, false⟩] -- STATIC_STATE

/-- Rows of 05_raster_scanout.md. -/
def od5b : List Obj :=
  [⟨0x5050, 1, 1, 0x04, 1, .u 4, .rc, .observer, .none, 0, .any, false⟩] -- STATIC_TICKS

/-- Rows of 06_mapping_and_egress.md. -/
def od6a : List Obj :=
  [⟨0x6000, 1, 1, 0x01, 1, .u 4, .ro, .observer, .none, 0, .any, false⟩, -- ENDPOINTS
   ⟨0x6000, 1, 1, 0x02, 1, .u 4, .ro, .observer, .none, 0, .any, false⟩, -- CHANNELS
   ⟨0x6000, 1, 1, 0x03, 1, .u 4, .ro, .observer, .none, 0, .any, false⟩, -- MAP_ENTRIES
   ⟨0x6000, 1, 1, 0x04, 1, .u 2, .rc, .observer, .none, 0, .any, false⟩, -- MAP_LAG_MAX
   ⟨0x6000, 1, 1, 0x05, 1, .u 4, .rc, .observer, .none, 0, .any, false⟩, -- MAP_STALLS
   ⟨0x6000, 1, 1, 0x06, 1, .u 4, .ro, .observer, .none, 0, .any, false⟩, -- OUT_SIG_W
   ⟨0x6000, 1, 1, 0x07, 1, .u 4, .ro, .observer, .none, 0, .any, false⟩, -- OUT_SIG_R
   ⟨0x6000, 1, 1, 0x08, 1, .u 4, .rc, .observer, .none, 0, .any, false⟩, -- OUT_SIG_FAIL
   ⟨0x6000, 1, 1, 0x09, 1, .bool, .rw, .operator, .l, 1, .any, false⟩, -- DITHER_GLOBAL
   ⟨0x6100, 1, 32, 0x01, 1, .u 1, .ro, .observer, .none, 0, .any, false⟩, -- STATE
   ⟨0x6100, 1, 32, 0x02, 1, .u 4, .ro, .observer, .none, 0, .any, false⟩, -- FRAME_NS
   ⟨0x6100, 1, 32, 0x03, 1, .u 4, .rc, .observer, .none, 0, .any, false⟩, -- FRAMES
   ⟨0x6100, 1, 32, 0x04, 1, .bool, .rw, .installer, .s, 0, .any, false⟩, -- DARK_ZERO
   ⟨0x6200, 1, 8, 0x01, 1, .u 1, .ro, .observer, .none, 0, .any, false⟩, -- STATE
   ⟨0x6200, 1, 8, 0x02, 1, .u 2, .rw, .installer, .s, 176, .num (92) (1000) 1, false⟩, -- BREAK_US
   ⟨0x6200, 1, 8, 0x03, 1, .u 2, .rw, .installer, .s, 16, .num (12) (1000) 1, false⟩, -- MAB_US
   ⟨0x6200, 1, 8, 0x04, 1, .u 4, .rc, .observer, .none, 0, .any, false⟩, -- PACKETS
   ⟨0x6200, 1, 8, 0x05, 1, .u 4, .rc, .observer, .none, 0, .any, false⟩, -- RDM_SLOTS
   ⟨0x6210, 1, 1, 0x01, 1, .oct 13 244, .cmd, .operator, .l, 0, .any, false⟩, -- RDM_REQ
   ⟨0x6210, 1, 1, 0x02, 1, .oct 0 256, .rc, .observer, .none, 0, .any, false⟩, -- RDM_RESP
   ⟨0x6210, 1, 1, 0x03, 1, .oct 6 6, .ro, .observer, .none, 0, .any, false⟩, -- RDM_UID
   ⟨0x6210, 1, 1, 0x04, 1, .u 1, .cmd, .installer, .l, 0, .span 0 7, false⟩, -- DISC_START
   ⟨0x6210, 1, 1, 0x05, 1, .u 1, .rw, .observer, .l, 0, .num (0) (7) 1, false⟩, -- DISC_SEL
   ⟨0x6210, 1, 1, 0x06, 1, .domain, .ro, .observer, .none, 0, .any, false⟩, -- DISC_LIST
   ⟨0x6210, 1, 1, 0x07, 1, .u 1, .ro, .observer, .none, 0, .any, false⟩, -- DISC_STATE
   ⟨0x6300, 1, 1, 0x01, 1, .u 2, .ro, .observer, .none, 0, .any, false⟩, -- UNIVERSES
   ⟨0x6300, 1, 1, 0x02, 1, .u 4, .rc, .observer, .none, 0, .any, false⟩, -- ACCEPTED
   ⟨0x6300, 1, 1, 0x03, 1, .u 4, .rc, .observer, .none, 0, .any, false⟩, -- SEQ_DISCARDS
   ⟨0x6300, 1, 1, 0x04, 1, .u 4, .rc, .observer, .none, 0, .any, false⟩, -- MALFORMED
   ⟨0x6300, 1, 1, 0x05, 1, .u 2, .ro, .observer, .none, 0, .any, false⟩, -- SOURCES
   ⟨0x6300, 1, 1, 0x06, 1, .u 4, .rc, .observer, .none, 0, .any, false⟩, -- SOURCE_LIMIT
   ⟨0x6300, 1, 1, 0x07, 1, .u 2, .rw, .observer, .l, 0, .num (0) (4095) 1, false⟩, -- UNI_SEL
   ⟨0x6300, 1, 1, 0x08, 1, .u 1, .ro, .observer, .none, 0, .any, false⟩, -- UNI_STATE
   ⟨0x6300, 1, 1, 0x09, 1, .u 1, .ro, .observer, .none, 0, .any, false⟩, -- UNI_PRIORITY
   ⟨0x6300, 1, 1, 0x0A, 1, .u 1, .ro, .observer, .none, 0, .any, false⟩, -- UNI_SOURCES
   ⟨0x6340, 1, 1, 0x01, 1, .u 2, .ro, .observer, .none, 0, .any, false⟩, -- UNIVERSES
   ⟨0x6340, 1, 1, 0x02, 1, .u 4, .rc, .observer, .none, 0, .any, false⟩, -- PACKETS_SENT
   ⟨0x6340, 1, 1, 0x03, 1, .u 4, .rc, .observer, .none, 0, .any, false⟩, -- SYNC_SENT
   ⟨0x6340, 1, 1, 0x04, 1, .u 4, .rc, .observer, .none, 0, .any, false⟩, -- SKIPPED
   ⟨0x6340, 1, 1, 0x05, 1, .u 1, .rw, .operator, .l, 0, .num (0) (200) 1, false⟩, -- PRIORITY
   ⟨0x6340, 1, 1, 0x06, 1, .str 64, .rw, .installer, .f, 0, .any, false⟩, -- SOURCE_NAME
   ⟨0x6340, 1, 1, 0x07, 1, .bool, .rw, .operator, .l, 0, .any, false⟩, -- PREVIEW
   ⟨0x6400, 1, 1, 0x01, 1, .u 2, .ro, .observer, .none, 0, .any, false⟩, -- TX_STREAMS
   ⟨0x6400, 1, 1, 0x02, 1, .u 1, .ro, .observer, .none, 0, .any, false⟩, -- RX_WINDOWS
   ⟨0x6400, 1, 1, 0x03, 1, .u 4, .rc, .observer, .none, 0, .any, false⟩] -- PX_SENT

/-- Rows of 06_mapping_and_egress.md. -/
def od6b : List Obj :=
  [⟨0x6400, 1, 1, 0x04, 1, .u 4, .rc, .observer, .none, 0, .any, false⟩, -- PX_RECEIVED
   ⟨0x6400, 1, 1, 0x05, 1, .u 4, .rc, .observer, .none, 0, .any, false⟩, -- PX_LATE
   ⟨0x6400, 1, 1, 0x06, 1, .u 4, .rc, .observer, .none, 0, .any, false⟩, -- PX_EARLY
   ⟨0x6400, 1, 1, 0x07, 1, .u 4, .rc, .observer, .none, 0, .any, false⟩, -- PX_MALFORMED
   ⟨0x6400, 1, 1, 0x08, 1, .u 4, .rc, .observer, .none, 0, .any, false⟩, -- WINDOWS_MISSING
   ⟨0x6400, 1, 1, 0x09, 1, .u 8, .ro, .observer, .none, 0, .any, false⟩, -- RX_COMPLETE
   ⟨0x6500, 1, 1, 0x01, 1, .oct 4 4, .cmd, .operator, .l, 0, .any, false⟩, -- GROUP_SET
   ⟨0x6500, 1, 1, 0x02, 1, .oct 8 8, .cmd, .operator, .l, 0, .any, false⟩, -- GROUP_BIND
   ⟨0x6500, 1, 1, 0x03, 1, .u 2, .rw, .observer, .l, 0, .num (0) (1023) 1, false⟩, -- GROUP_SEL
   ⟨0x6500, 1, 1, 0x04, 1, .u 2, .ro, .observer, .none, 65535, .any, false⟩, -- GROUP_LEVEL
   ⟨0x6500, 1, 1, 0x05, 1, .u 4, .ro, .observer, .none, 65536, .any, false⟩, -- GROUP_EFFECTIVE
   ⟨0x6501, 1, 1, 0x01, 1, .oct 8 8, .cmd, .operator, .l, 0, .any, false⟩, -- FADE_START
   ⟨0x6501, 1, 1, 0x02, 1, .oct 2 2, .cmd, .operator, .l, 0, .any, false⟩, -- FADE_STOP
   ⟨0x6501, 1, 1, 0x03, 1, .u 2, .rw, .observer, .l, 0, .num (0) (4095) 1, false⟩, -- FADE_SEL
   ⟨0x6501, 1, 1, 0x04, 1, .u 2, .ro, .observer, .none, 0, .any, false⟩, -- FADE_LEVEL
   ⟨0x6501, 1, 1, 0x05, 1, .u 1, .ro, .observer, .none, 0, .any, false⟩, -- FADE_STATE
   ⟨0x6501, 1, 1, 0x06, 1, .u 2, .ro, .observer, .none, 0, .any, false⟩] -- FADES_ACTIVE

/-- Rows of 07_firebox_direct_drive.md. -/
def od7a : List Obj :=
  [⟨0x7000, 1, 1, 0x01, 1, .u 1, .ro, .observer, .none, 0, .num (0) (2) 1, false⟩, -- DRIVE_MODE
   ⟨0x7000, 1, 1, 0x02, 1, .u 1, .ro, .observer, .none, 1, .num (1) (64) 1, false⟩, -- ROWS
   ⟨0x7000, 1, 1, 0x03, 1, .u 1, .ro, .observer, .none, 1, .num (1) (64) 1, false⟩, -- SEGMENTS
   ⟨0x7000, 1, 1, 0x04, 1, .u 1, .ro, .observer, .none, 8, .num (8) (16) 1, false⟩, -- DEPTH
   ⟨0x7000, 1, 1, 0x05, 1, .u 2, .rw, .installer, .s, 0, .num (20) (400) 4, false⟩, -- T_DEAD_NS
   ⟨0x7000, 1, 1, 0x06, 1, .u 2, .rw, .installer, .s, 0, .num (200) (2000) 4, false⟩, -- T_PRE_NS
   ⟨0x7000, 1, 1, 0x07, 1, .u 4, .rw, .operator, .s, 0, .dyn .emitPhase, false⟩, -- EMIT_PHASE_NS
   ⟨0x7000, 1, 1, 0x08, 1, .u 4, .rw, .operator, .s, 0, .dyn .emitWin, false⟩, -- EMIT_WIN_NS
   ⟨0x7000, 1, 1, 0x09, 4, .u 2, .rw, .installer, .s, 0, .num (100) (40000) 25, false⟩, -- IFULL_UA
   ⟨0x7000, 1, 1, 0x0D, 4, .u 2, .rw, .installer, .s, 0, .num (0) (5000) 20, false⟩, -- VPRE_MV
   ⟨0x7000, 1, 1, 0x11, 1, .u 1, .rw, .installer, .s, 0, .mask 15, false⟩, -- LC_EN
   ⟨0x7000, 1, 1, 0x12, 1, .u 4, .ro, .observer, .none, 0, .any, false⟩, -- SLOT_NS
   ⟨0x7000, 1, 1, 0x13, 1, .u 2, .ro, .observer, .none, 0, .any, false⟩, -- STEPS_P
   ⟨0x7000, 1, 1, 0x14, 1, .u 1, .ro, .observer, .none, 0, .any, false⟩, -- DEPTH_AVAIL
   ⟨0x7000, 1, 1, 0x15, 1, .u 1, .ro, .observer, .none, 0, .any, false⟩, -- DRIVE_STATE
   ⟨0x7000, 1, 1, 0x16, 1, .u 4, .rc, .observer, .none, 0, .any, false⟩, -- FLUE_ERRORS
   ⟨0x7000, 1, 1, 0x17, 1, .u 4, .ro, .observer, .none, 0, .any, false⟩, -- SINK_DISS_MW
   ⟨0x7000, 1, 1, 0x18, 1, .u 4, .rc, .observer, .none, 0, .any, false⟩, -- SCAN_REJECTS
   ⟨0x7100, 1, 1, 0x01, 1, .u 1, .ro, .observer, .none, 0, .num (0) (4) 1, false⟩, -- DRAUGHT_STATE
   ⟨0x7100, 1, 1, 0x02, 1, .u 2, .ro, .observer, .none, 0, .any, false⟩, -- VLED_SET_MV
   ⟨0x7100, 1, 1, 0x03, 1, .u 2, .ro, .observer, .none, 0, .any, false⟩, -- VLED_MEAS_MV
   ⟨0x7100, 1, 1, 0x04, 1, .u 2, .rw, .installer, .s, 0, .num (2500) (12000) 5, false⟩, -- VLED_MIN_MV
   ⟨0x7100, 1, 1, 0x05, 1, .u 2, .rw, .installer, .s, 0, .num (2500) (12000) 5, false⟩, -- VLED_MAX_MV
   ⟨0x7100, 1, 1, 0x06, 1, .u 2, .rw, .installer, .s, 0, .num (2500) (12000) 5, false⟩, -- VLED_INIT_MV
   ⟨0x7100, 1, 1, 0x07, 1, .u 2, .rw, .installer, .s, 300, .num (100) (2000) 5, false⟩, -- HR_TARGET_MV
   ⟨0x7100, 1, 1, 0x08, 1, .u 2, .rw, .installer, .s, 100, .num (0) (1000) 5, false⟩, -- HR_MARGIN_MV
   ⟨0x7100, 1, 1, 0x09, 1, .u 1, .rw, .installer, .s, 50, .num (5) (50) 5, false⟩, -- SLEW_MV
   ⟨0x7100, 1, 1, 0x0A, 1, .u 1, .rw, .installer, .s, 20, .num (0) (100) 5, false⟩, -- DEADBAND_MV
   ⟨0x7100, 1, 1, 0x0B, 1, .oct 16 16, .ro, .observer, .none, 0, .any, false⟩, -- HR_MIN
   ⟨0x7100, 1, 1, 0x0C, 1, .u 2, .rw, .installer, .f, 0, .num (250) (2000) 50, false⟩, -- FSW_KHZ
   ⟨0x7100, 1, 1, 0x0D, 1, .u 1, .rw, .installer, .f, 0, .num (1) (4) 1, false⟩, -- PHASES
   ⟨0x7100, 1, 1, 0x0E, 1, .u 2, .rw, .installer, .f, 0, .num (10) (200) 1, false⟩, -- ILIM_MV
   ⟨0x7100, 1, 1, 0x0F, 1, .u 4, .rc, .observer, .none, 0, .any, false⟩, -- LIMIT_TICKS
   ⟨0x7100, 1, 1, 0x10, 1, .u 2, .rw, .installer, .s, 8000, .num (1000) (8000) 100, false⟩, -- DISS_LIMIT_MW
   ⟨0x7200, 1, 1, 0x01, 8, .i 2, .ro, .observer, .none, 32768, .any, false⟩, -- NTC_TEMP
   ⟨0x7200, 1, 1, 0x09, 4, .i 2, .ro, .observer, .none, 0, .any, false⟩, -- COLOUR_TEMP
   ⟨0x7200, 1, 1, 0x0D, 4, .u 2, .ro, .observer, .none, 32768, .any, false⟩, -- T_FACTOR
   ⟨0x7200, 1, 1, 0x11, 4, .u 4, .ro, .observer, .none, 0, .any, false⟩, -- W_FACTOR
   ⟨0x7200, 1, 1, 0x15, 1, .bool, .rw, .operator, .l, 0, .any, false⟩, -- TC_ENABLE
   ⟨0x7200, 1, 1, 0x16, 1, .i 2, .rw, .operator, .l, 0, .num (-40) (150) 1, false⟩, -- TEMP_WARN_C
   ⟨0x7200, 1, 1, 0x17, 1, .u 4, .rc, .observer, .none, 0, .any, false⟩, -- CLAMPS
   ⟨0x7300, 1, 1, 0x01, 1, .bool, .rw, .operator, .l, 0, .any, false⟩, -- DIAG_EN
   ⟨0x7300, 1, 1, 0x02, 1, .u 1, .rw, .installer, .s, 0, .enum [0, 1], false⟩, -- SHORT_ACTION
   ⟨0x7300, 1, 1, 0x03, 1, .u 2, .ro, .observer, .none, 0, .any, false⟩, -- OPEN_LAMPS
   ⟨0x7300, 1, 1, 0x04, 1, .bool, .rw, .operator, .l, 0, .any, false⟩] -- PROBE_EN

/-- Rows of 07_firebox_direct_drive.md, 08_calibration.md. -/
def od7b : List Obj :=
  [⟨0x7300, 1, 1, 0x05, 1, .u 2, .ro, .observer, .none, 0, .any, false⟩, -- SHORT_LAMPS
   ⟨0x7300, 1, 1, 0x06, 1, .u 2, .ro, .observer, .none, 0, .any, false⟩, -- UNVERIFIED_LAMPS
   ⟨0x7300, 1, 1, 0x07, 4, .u 2, .rw, .installer, .s, 0, .num (500) (12000) 20, false⟩, -- SHORT_MV
   ⟨0x7300, 1, 1, 0x0B, 1, .u 2, .rw, .observer, .l, 0, .num (0) (49151) 1, false⟩, -- LAMP_SEL
   ⟨0x7300, 1, 1, 0x0C, 1, .u 1, .ro, .observer, .none, 6, .num (0) (7) 1, false⟩, -- LAMP_STATUS
   ⟨0x7300, 1, 1, 0x0D, 1, .domain, .ro, .observer, .none, 0, .any, false⟩, -- STATUS_MAP
   ⟨0x7300, 1, 1, 0x0E, 1, .u 2, .cmd, .operator, .l, 0, .dyn .lampOrAll, false⟩, -- CLEAR
   ⟨0x7300, 1, 1, 0x0F, 1, .u 2, .ro, .observer, .none, 256, .any, false⟩, -- PROBE_PERIOD
   ⟨0x7300, 1, 1, 0x10, 1, .u 1, .ro, .observer, .none, 0, .num (0) (64) 1, false⟩, -- SPARES_ACTIVE
   ⟨0x7800, 1, 1, 0x01, 1, .u 1, .cmd, .installer, .l, 0, .enum [1, 2, 3, 4, 5, 6, 7], false⟩, -- CAL_RUN
   ⟨0x7800, 1, 1, 0x02, 1, .u 1, .ro, .observer, .none, 0, .num (0) (3) 1, false⟩, -- CAL_STATE
   ⟨0x7800, 1, 1, 0x03, 1, .u 1, .ro, .observer, .none, 0, .any, false⟩, -- ABORT_CAUSE
   ⟨0x7800, 1, 1, 0x04, 1, .u 1, .cmd, .installer, .l, 0, .enum [1], false⟩, -- CAL_ACCEPT
   ⟨0x7800, 1, 1, 0x05, 1, .u 1, .cmd, .installer, .l, 0, .enum [1], false⟩, -- CAL_DISCARD
   ⟨0x7800, 1, 1, 0x06, 1, .oct 16 16, .rw, .installer, .l, 0, .any, false⟩, -- CAL_REF_ID
   ⟨0x7800, 1, 1, 0x07, 1, .u 1, .rw, .installer, .l, 0, .num (0) (63) 1, false⟩, -- CAL_ROW
   ⟨0x7800, 1, 1, 0x08, 1, .u 1, .rw, .installer, .l, 7, .mask 7, false⟩, -- CAL_PORTS
   ⟨0x7800, 1, 1, 0x09, 1, .bool, .rw, .installer, .l, 0, .any, false⟩, -- NTC_SOAK
   ⟨0x7800, 1, 1, 0x0A, 1, .u 1, .ro, .observer, .none, 0, .any, false⟩, -- CAL_SOURCE
   ⟨0x7800, 1, 1, 0x0B, 1, .u 8, .ro, .observer, .none, 0, .any, false⟩, -- APPLIED_TICK
   ⟨0x7800, 1, 1, 0x0C, 1, .u 2, .ro, .observer, .none, 32768, .any, false⟩, -- BANDGAP_RATIO
   ⟨0x7800, 1, 1, 0x0D, 1, .u 1, .rw, .observer, .l, 0, .num (0) (1) 1, false⟩, -- VIEW
   ⟨0x7801, 1, 1, 0x01, 8, .u 2, .ro, .observer, .none, 65535, .any, false⟩, -- BANK_RMS
   ⟨0x7801, 1, 1, 0x09, 8, .i 2, .ro, .observer, .none, 32767, .any, false⟩, -- BANK_WORST
   ⟨0x7801, 1, 1, 0x11, 1, .domain, .ro, .observer, .none, 0, .any, false⟩, -- SINK_RESID
   ⟨0x7801, 1, 1, 0x12, 1, .domain, .ro, .observer, .none, 0, .any, false⟩, -- SINK_TRIMS
   ⟨0x7802, 1, 1, 0x01, 8, .i 2, .ro, .observer, .none, 0, .num (-128) (128) 1, false⟩, -- NTC_OFFSET
   ⟨0x7802, 1, 1, 0x09, 1, .u 4, .ro, .observer, .none, 10000000, .any, false⟩, -- R_BIAS
   ⟨0x7803, 1, 1, 0x01, 1, .u 4, .ro, .observer, .none, 0, .any, false⟩, -- TSLAT_TX
   ⟨0x7803, 1, 1, 0x03, 1, .u 4, .ro, .observer, .none, 0, .any, false⟩, -- TSLAT_TX
   ⟨0x7803, 1, 1, 0x05, 1, .u 4, .ro, .observer, .none, 0, .any, false⟩, -- TSLAT_TX
   ⟨0x7803, 1, 1, 0x02, 1, .u 4, .ro, .observer, .none, 0, .any, false⟩, -- TSLAT_RX
   ⟨0x7803, 1, 1, 0x04, 1, .u 4, .ro, .observer, .none, 0, .any, false⟩, -- TSLAT_RX
   ⟨0x7803, 1, 1, 0x06, 1, .u 4, .ro, .observer, .none, 0, .any, false⟩, -- TSLAT_RX
   ⟨0x7803, 1, 1, 0x07, 1, .u 1, .ro, .observer, .none, 0, .num (0) (64) 1, false⟩, -- EYE_W_A
   ⟨0x7803, 1, 1, 0x08, 1, .u 1, .ro, .observer, .none, 0, .num (0) (64) 1, false⟩, -- EYE_W_B
   ⟨0x7803, 1, 1, 0x09, 1, .u 4, .ro, .observer, .none, 4294967295, .any, false⟩] -- PTP_RESID_RMS

/-- Rows of 03_topo.md, 13_queues.md. -/
def od8a : List Obj :=
  [⟨0x8000, 1, 1, 0x01, 1, .u 1, .ro, .observer, .none, 0, .num (0) (2) 1, false⟩, -- ACTIVE_SLOT
   ⟨0x8000, 1, 1, 0x02, 1, .u 1, .rw, .installer, .l, 1, .num (1) (2) 1, true⟩, -- SELECT_SLOT
   ⟨0x8000, 1, 1, 0x03, 1, .u 1, .cmd, .installer, .none, 0, .span 1 2, false⟩, -- LOAD
   ⟨0x8000, 1, 1, 0x04, 1, .u 2, .ro, .observer, .none, 0, .any, false⟩, -- LOAD_RESULT
   ⟨0x8000, 1, 1, 0x05, 1, .u 2, .ro, .observer, .none, 0, .any, false⟩, -- LOAD_DETAIL
   ⟨0x8000, 1, 1, 0x06, 1, .u 8, .ro, .observer, .none, 0, .any, false⟩, -- LOAD_WHERE
   ⟨0x8000, 1, 1, 0x07, 1, .u 4, .ro, .observer, .none, 0, .any, false⟩, -- ACTIVE_TOPO_ID
   ⟨0x8000, 1, 1, 0x08, 1, .u 4, .ro, .observer, .none, 0, .any, false⟩, -- ACTIVE_BUILD
   ⟨0x8000, 1, 1, 0x09, 1, .u 4, .ro, .observer, .none, 0, .any, false⟩, -- CAND_TOPO_ID
   ⟨0x8000, 1, 1, 0x0A, 1, .u 1, .ro, .observer, .none, 0, .num (0) (4) 1, false⟩, -- CAND_STATE
   ⟨0x8000, 1, 1, 0x0B, 1, .u 1, .cmd, .operator, .l, 0, .enum [1], false⟩, -- SWITCH
   ⟨0x8000, 1, 1, 0x0C, 1, .u 8, .ro, .observer, .none, 0, .any, false⟩, -- SWITCH_LAST
   ⟨0x8000, 1, 1, 0x0D, 1, .u 4, .ro, .observer, .none, 0, .any, false⟩, -- CLAMP_COUNT
   ⟨0x8000, 1, 1, 0x0E, 1, .u 1, .ro, .observer, .none, 0, .num (0) (1) 1, false⟩, -- KEY_STATE
   ⟨0x8001, 1, 1, 0x01, 1, .domain, .wo, .installer, .none, 0, .any, false⟩, -- SLOT_A
   ⟨0x8001, 1, 1, 0x02, 1, .domain, .wo, .installer, .none, 0, .any, false⟩, -- SLOT_B
   ⟨0x8010, 1, 1, 0x01, 1, .u 1, .ro, .observer, .none, 24, .any, false⟩, -- REGION_MB
   ⟨0x8010, 1, 1, 0x02, 1, .u 1, .ro, .observer, .none, 16, .any, false⟩, -- REGION_MB
   ⟨0x8010, 1, 1, 0x03, 1, .u 1, .ro, .observer, .none, 8, .any, false⟩, -- REGION_MB
   ⟨0x8010, 1, 1, 0x04, 1, .u 1, .ro, .observer, .none, 40, .any, false⟩, -- REGION_MB
   ⟨0x8010, 1, 1, 0x05, 1, .u 1, .ro, .observer, .none, 8, .any, false⟩, -- REGION_MB
   ⟨0x8010, 1, 1, 0x06, 1, .u 1, .ro, .observer, .none, 6, .any, false⟩, -- REGION_MB
   ⟨0x8010, 1, 1, 0x07, 1, .u 1, .ro, .observer, .none, 2, .any, false⟩, -- REGION_MB
   ⟨0x8010, 1, 1, 0x08, 1, .u 1, .ro, .observer, .none, 4, .any, false⟩, -- REGION_MB
   ⟨0x8010, 1, 1, 0x09, 1, .u 1, .ro, .observer, .none, 20, .any, false⟩, -- REGION_MB
   ⟨0x8800, 1, 1, 0x01, 1, .u 4, .ro, .observer, .none, 131072, .num (16384) (262144) 1, false⟩, -- POOL_CELLS
   ⟨0x8800, 1, 1, 0x02, 1, .u 4, .ro, .observer, .none, 0, .any, false⟩, -- POOL_FREE
   ⟨0x8800, 1, 1, 0x03, 1, .u 4, .ro, .observer, .none, 0, .any, false⟩, -- RESERVED_CELLS
   ⟨0x8800, 1, 1, 0x04, 1, .u 2, .ro, .observer, .none, 64, .any, false⟩, -- BELAY_RESERVE
   ⟨0x8800, 1, 1, 0x05, 1, .u 4, .rw, .installer, .l, 0, .dyn .poolLow, false⟩, -- POOL_LOW_CELLS
   ⟨0x8800, 1, 1, 0x06, 1, .u 4, .rc, .observer, .none, 0, .any, false⟩, -- POOL_MIN
   ⟨0x8800, 1, 1, 0x07, 1, .u 2, .rw, .installer, .l, 1000, .num (500) (10000) 1, false⟩, -- WALK_PERIOD_US
   ⟨0x8800, 1, 1, 0x08, 1, .u 4, .rc, .observer, .none, 0, .any, false⟩, -- WALKS
   ⟨0x8800, 1, 1, 0x09, 1, .u 4, .rc, .observer, .none, 0, .any, false⟩, -- WALK_FAULTS
   ⟨0x8801, 1, 1, 0x01, 1, .u 2, .rw, .observer, .l, 0, .num (0) (1023) 1, false⟩, -- Q_SEL
   ⟨0x8801, 1, 1, 0x02, 1, .u 1, .ro, .observer, .none, 0, .num (0) (3) 1, false⟩, -- Q_KIND
   ⟨0x8801, 1, 1, 0x03, 1, .u 1, .ro, .observer, .none, 0, .num (0) (1) 1, false⟩, -- Q_POLICY
   ⟨0x8801, 1, 1, 0x04, 1, .u 1, .ro, .observer, .none, 15, .any, false⟩, -- Q_STAGE
   ⟨0x8801, 1, 1, 0x05, 1, .u 4, .ro, .observer, .none, 0, .any, false⟩, -- Q_DEPTH
   ⟨0x8801, 1, 1, 0x06, 1, .u 4, .ro, .observer, .none, 0, .any, false⟩, -- Q_RETAINED
   ⟨0x8801, 1, 1, 0x07, 1, .u 4, .ro, .observer, .none, 0, .any, false⟩, -- Q_LIMIT
   ⟨0x8801, 1, 1, 0x08, 1, .u 4, .ro, .observer, .none, 0, .any, false⟩, -- Q_CELLS
   ⟨0x8801, 1, 1, 0x09, 1, .u 4, .ro, .observer, .none, 0, .any, false⟩, -- Q_RESERVE
   ⟨0x8801, 1, 1, 0x0A, 1, .u 4, .rc, .observer, .none, 0, .any, false⟩, -- Q_LOST
   ⟨0x8801, 1, 1, 0x0B, 1, .u 4, .rc, .observer, .none, 0, .any, false⟩] -- Q_HIGH

/-- Rows of 13_queues.md, 14_scheduler_arbiter_carabiners.md. -/
def od8b : List Obj :=
  [⟨0x8801, 1, 1, 0x0C, 1, .u 8, .rc, .observer, .none, 0, .any, false⟩, -- Q_BP_CYCLES
   ⟨0x8801, 1, 1, 0x0D, 1, .u 1, .ro, .observer, .none, 0, .num (0) (2) 1, false⟩, -- Q_MARK
   ⟨0x8900, 1, 1, 0x01, 1, .bool, .rw, .operator, .l, 1, .any, false⟩, -- TRACE_EN
   ⟨0x8900, 1, 1, 0x02, 1, .u 1, .rw, .installer, .f, 3, .num (0) (7) 1, false⟩, -- EVENT_LIST
   ⟨0x8900, 1, 1, 0x03, 1, .u 4, .cmd, .operator, .none, 0, .any, false⟩, -- TASK_CANCEL
   ⟨0x8900, 1, 1, 0x04, 1, .u 4, .cmd, .installer, .none, 0, .any, false⟩, -- DESC_CANCEL
   ⟨0x8900, 1, 1, 0x05, 1, .u 4, .rc, .observer, .none, 0, .any, false⟩, -- RELEASES
   ⟨0x8900, 1, 1, 0x06, 1, .u 4, .rc, .observer, .none, 0, .any, false⟩, -- DISPATCHES
   ⟨0x8900, 1, 1, 0x07, 1, .u 4, .rc, .observer, .none, 0, .any, false⟩, -- DEADLINE_MISSES
   ⟨0x8900, 1, 1, 0x08, 1, .u 4, .rc, .observer, .none, 0, .any, false⟩, -- RELEASE_SKIPS
   ⟨0x8900, 1, 1, 0x09, 1, .u 4, .rc, .observer, .none, 0, .any, false⟩, -- RELEASE_DROPS
   ⟨0x8900, 1, 1, 0x0A, 1, .u 4, .rc, .observer, .none, 0, .any, false⟩, -- CANCELS
   ⟨0x8900, 1, 1, 0x0B, 1, .u 4, .rc, .observer, .none, 0, .any, false⟩, -- TASK_FAULTS
   ⟨0x8900, 1, 1, 0x0C, 1, .u 1, .ro, .observer, .none, 0, .num (0) (48) 1, false⟩, -- IN_FLIGHT
   ⟨0x8900, 1, 1, 0x0D, 1, .u 4, .ro, .observer, .none, 0, .any, false⟩, -- LAST_MISS_ID
   ⟨0x8901, 1, 1, 0x01, 16, .oct 16 16, .ro, .observer, .none, 0, .any, false⟩, -- ENGINE_STATE
   ⟨0x8903, 1, 1, 0x01, 1, .oct 32 32, .rc, .observer, .none, 0, .any, false⟩, -- TRACE_READ
   ⟨0x8903, 1, 1, 0x02, 1, .u 2, .ro, .observer, .none, 0, .num (0) (4096) 1, false⟩, -- TRACE_DEPTH
   ⟨0x8903, 1, 1, 0x03, 1, .u 4, .rc, .observer, .none, 0, .any, false⟩, -- TRACE_LOST
   ⟨0x8A00, 1, 1, 0x01, 1, .oct 3 3, .cmd, .operator, .none, 0, .any, false⟩, -- PRIO_SET
   ⟨0x8A00, 1, 1, 0x02, 1, .u 1, .rw, .operator, .l, 8, .num (2) (64) 1, false⟩, -- RESERVE_N
   ⟨0x8A00, 1, 1, 0x03, 1, .u 2, .rw, .operator, .l, 1000, .num (16) (65535) 1, false⟩, -- WAIT_LIMIT
   ⟨0x8A00, 1, 1, 0x04, 1, .u 4, .rc, .observer, .none, 0, .any, false⟩, -- WAIT_MAX_HEARTH
   ⟨0x8A00, 1, 1, 0x05, 1, .u 4, .rc, .observer, .none, 0, .any, false⟩, -- WAIT_MAX_DRAM
   ⟨0x8A00, 1, 1, 0x06, 1, .u 4, .rc, .observer, .none, 0, .any, false⟩, -- WAIT_LIMIT_COUNT
   ⟨0x8A01, 1, 1, 0x01, 1, .u 1, .ro, .observer, .none, 11, .num (0) (15) 1, false⟩, -- HEARTH_PRIO
   ⟨0x8A01, 1, 1, 0x02, 1, .u 1, .ro, .observer, .none, 11, .num (0) (15) 1, false⟩, -- HEARTH_PRIO
   ⟨0x8A01, 1, 1, 0x03, 1, .u 1, .ro, .observer, .none, 11, .num (0) (15) 1, false⟩, -- HEARTH_PRIO
   ⟨0x8A01, 1, 1, 0x04, 1, .u 1, .ro, .observer, .none, 11, .num (0) (15) 1, false⟩, -- HEARTH_PRIO
   ⟨0x8A01, 1, 1, 0x05, 1, .u 1, .ro, .observer, .none, 12, .num (0) (15) 1, false⟩, -- HEARTH_PRIO
   ⟨0x8A01, 1, 1, 0x06, 1, .u 1, .ro, .observer, .none, 12, .num (0) (15) 1, false⟩, -- HEARTH_PRIO
   ⟨0x8A01, 1, 1, 0x07, 1, .u 1, .ro, .observer, .none, 13, .num (0) (15) 1, false⟩, -- HEARTH_PRIO
   ⟨0x8A01, 1, 1, 0x08, 1, .u 1, .ro, .observer, .none, 6, .num (0) (15) 1, false⟩, -- HEARTH_PRIO
   ⟨0x8A01, 1, 1, 0x09, 1, .u 1, .ro, .observer, .none, 10, .num (0) (15) 1, false⟩, -- HEARTH_PRIO
   ⟨0x8A01, 1, 1, 0x0A, 1, .u 1, .ro, .observer, .none, 14, .num (0) (15) 1, false⟩, -- HEARTH_PRIO
   ⟨0x8A01, 1, 1, 0x0B, 1, .u 1, .ro, .observer, .none, 4, .num (0) (15) 1, false⟩, -- HEARTH_PRIO
   ⟨0x8A02, 1, 1, 0x01, 1, .u 1, .ro, .observer, .none, 11, .num (0) (15) 1, false⟩, -- DRAM_PRIO
   ⟨0x8A02, 1, 1, 0x02, 1, .u 1, .ro, .observer, .none, 11, .num (0) (15) 1, false⟩, -- DRAM_PRIO
   ⟨0x8A02, 1, 1, 0x03, 1, .u 1, .ro, .observer, .none, 11, .num (0) (15) 1, false⟩, -- DRAM_PRIO
   ⟨0x8A02, 1, 1, 0x04, 1, .u 1, .ro, .observer, .none, 11, .num (0) (15) 1, false⟩, -- DRAM_PRIO
   ⟨0x8A02, 1, 1, 0x05, 1, .u 1, .ro, .observer, .none, 12, .num (0) (15) 1, false⟩, -- DRAM_PRIO
   ⟨0x8A02, 1, 1, 0x06, 1, .u 1, .ro, .observer, .none, 12, .num (0) (15) 1, false⟩, -- DRAM_PRIO
   ⟨0x8A02, 1, 1, 0x07, 1, .u 1, .ro, .observer, .none, 13, .num (0) (15) 1, false⟩, -- DRAM_PRIO
   ⟨0x8A02, 1, 1, 0x08, 1, .u 1, .ro, .observer, .none, 6, .num (0) (15) 1, false⟩, -- DRAM_PRIO
   ⟨0x8A02, 1, 1, 0x09, 1, .u 1, .ro, .observer, .none, 10, .num (0) (15) 1, false⟩] -- DRAM_PRIO

/-- Rows of 13_queues.md, 14_scheduler_arbiter_carabiners.md. -/
def od8c : List Obj :=
  [⟨0x8A02, 1, 1, 0x0A, 1, .u 1, .ro, .observer, .none, 14, .num (0) (15) 1, false⟩, -- DRAM_PRIO
   ⟨0x8A02, 1, 1, 0x0B, 1, .u 1, .ro, .observer, .none, 4, .num (0) (15) 1, false⟩, -- DRAM_PRIO
   ⟨0x8B00, 1, 1, 0x01, 1, .u 1, .rw, .observer, .l, 0, .num (0) (63) 1, false⟩, -- CB_SEL
   ⟨0x8B00, 1, 1, 0x02, 1, .oct 16 16, .ro, .observer, .none, 0, .any, false⟩, -- CB_STATE
   ⟨0x8B00, 1, 1, 0x03, 1, .oct 4 4, .cmd, .operator, .none, 0, .any, false⟩, -- ACQUIRE
   ⟨0x8B00, 1, 1, 0x04, 1, .u 1, .cmd, .operator, .none, 0, .span 0 59, false⟩, -- RELEASE
   ⟨0x8B00, 1, 1, 0x05, 1, .oct 4 4, .cmd, .operator, .none, 0, .any, false⟩, -- RENEW
   ⟨0x8B00, 1, 1, 0x06, 1, .u 1, .ro, .observer, .none, 0, .num (0) (4) 1, false⟩, -- ACQ_RESULT
   ⟨0x8B00, 1, 1, 0x07, 1, .u 8, .ro, .observer, .none, 0, .any, false⟩, -- HELD_MASK
   ⟨0x8B00, 1, 1, 0x08, 1, .u 8, .ro, .observer, .none, 0, .any, false⟩, -- BROKEN_MASK
   ⟨0x8B00, 1, 1, 0x09, 1, .u 1, .cmd, .service, .none, 0, .span 0 63, false⟩, -- FORCE_RELEASE
   ⟨0x8B00, 1, 1, 0x0A, 1, .u 4, .rc, .observer, .none, 0, .any, false⟩, -- BREAKS
   ⟨0x8B00, 1, 1, 0x0B, 1, .u 4, .rc, .observer, .none, 0, .any, false⟩, -- RANK_VIOLATIONS
   ⟨0x8B00, 1, 1, 0x0C, 1, .u 8, .ro, .observer, .none, 0, .any, false⟩, -- MY_HELD
   ⟨0x8C00, 1, 32, 0x01, 1, .oct 64 64, .cmd, .operator, .none, 0, .any, false⟩, -- PUSH
   ⟨0x8C00, 1, 32, 0x02, 1, .oct 64 64, .rc, .observer, .none, 0, .any, false⟩, -- POP
   ⟨0x8C00, 1, 32, 0x03, 1, .u 4, .ro, .observer, .none, 0, .num (0) (1048576) 1, false⟩, -- DEPTH
   ⟨0x8C00, 1, 32, 0x04, 1, .u 4, .ro, .observer, .none, 0, .num (1) (1048576) 1, false⟩, -- LIMIT
   ⟨0x8C00, 1, 32, 0x05, 1, .u 1, .ro, .observer, .none, 0, .num (0) (1) 1, false⟩, -- POLICY
   ⟨0x8C00, 1, 32, 0x06, 1, .u 4, .rc, .observer, .none, 0, .any, false⟩, -- LOST
   ⟨0x8C00, 1, 32, 0x07, 1, .u 1, .rw, .operator, .l, 0, .num (0) (16) 1, false⟩, -- POP_WAIT
   ⟨0x8C00, 1, 32, 0x08, 1, .u 4, .ro, .observer, .none, 0, .any, false⟩, -- IN_DRAM
   ⟨0x8C00, 1, 32, 0x09, 1, .u 4, .rc, .observer, .none, 0, .any, false⟩] -- HIGH

/-- Rows of 15_belay_and_faults.md. -/
def od9a : List Obj :=
  [⟨0x9000, 1, 1, 0x01, 1, .oct 64 64, .ro, .observer, .none, 0, .any, false⟩, -- FIRST_FAULT
   ⟨0x9000, 1, 1, 0x02, 1, .u 1, .cmd, .installer, .none, 0, .enum [1], false⟩, -- FIRST_CLEAR
   ⟨0x9000, 1, 1, 0x03, 1, .u 1, .cmd, .operator, .none, 0, .enum [1], false⟩, -- FAULT_ACK
   ⟨0x9000, 1, 1, 0x04, 1, .u 1, .cmd, .installer, .none, 0, .enum [1], false⟩, -- DARK_RELEASE
   ⟨0x9000, 1, 1, 0x05, 1, .u 1, .ro, .observer, .none, 0, .any, false⟩, -- FAULT_N_STATE
   ⟨0x9000, 1, 1, 0x06, 1, .u 1, .ro, .observer, .none, 2, .any, false⟩, -- DARK_STATE
   ⟨0x9000, 1, 1, 0x07, 1, .u 1, .ro, .observer, .none, 0, .any, false⟩, -- HW_CAUSE
   ⟨0x9000, 1, 1, 0x08, 1, .u 4, .ro, .observer, .none, 0, .any, false⟩, -- ACTIVE_MASK
   ⟨0x9000, 1, 1, 0x09, 1, .u 4, .ro, .observer, .none, 0, .any, false⟩, -- PENDING_MASK
   ⟨0x9000, 1, 1, 0x0A, 1, .u 1, .ro, .observer, .none, 34, .any, false⟩, -- GUARANTEE
   ⟨0x9000, 1, 1, 0x0B, 1, .oct 64 64, .ro, .observer, .none, 0, .any, false⟩, -- LAST_BOOT_FAULT
   ⟨0x9000, 1, 1, 0x0C, 1, .u 1, .ro, .observer, .none, 0, .num (0) (3) 1, false⟩, -- RESTARTS
   ⟨0x9000, 1, 1, 0x0D, 1, .u 2, .ro, .observer, .none, 0, .any, false⟩, -- ENGINES_OUT
   ⟨0x9000, 1, 1, 0x0E, 1, .u 4, .ro, .observer, .none, 0, .any, false⟩, -- LEAKED_CELLS
   ⟨0x9001, 1, 1, 0x01, 1, .oct 64 64, .rc, .observer, .none, 0, .any, false⟩, -- FAULT_READ
   ⟨0x9001, 1, 1, 0x02, 1, .u 2, .ro, .observer, .none, 0, .num (0) (256) 1, false⟩, -- FAULT_DEPTH
   ⟨0x9001, 1, 1, 0x03, 1, .u 4, .rc, .observer, .none, 0, .any, false⟩, -- FAULT_LOST
   ⟨0x9002, 1, 1, 0x01, 1, .bool, .rw, .installer, .l, 1, .any, false⟩, -- SCRUB_EN
   ⟨0x9002, 1, 1, 0x02, 1, .u 2, .rw, .installer, .l, 4000, .num (500) (60000) 1, false⟩, -- SCRUB_HEARTH_MS
   ⟨0x9002, 1, 1, 0x03, 1, .u 4, .rw, .installer, .l, 600, .num (60) (86400) 1, false⟩, -- SCRUB_DRAM_S
   ⟨0x9002, 1, 1, 0x04, 1, .bool, .rw, .installer, .l, 1, .any, false⟩, -- SELFTEST_EN
   ⟨0x9002, 1, 1, 0x05, 1, .u 2, .rw, .installer, .l, 100, .num (10) (1000) 1, false⟩, -- SELFTEST_MS
   ⟨0x9002, 1, 1, 0x06, 1, .u 4, .rc, .observer, .none, 0, .any, false⟩, -- ECC_CORRECTED
   ⟨0x9002, 1, 1, 0x07, 1, .u 4, .rc, .observer, .none, 0, .any, false⟩, -- ECC_UNCORRECTED
   ⟨0x9002, 1, 1, 0x08, 1, .u 4, .rc, .observer, .none, 0, .any, false⟩, -- SCRUB_PASSES
   ⟨0x9003, 1, 1, 0x01, 1, .u 1, .cmd, .service, .none, 0, .span 5 31, false⟩, -- FAULT_INJECT
   ⟨0x9010, 1, 1, 0x01, 4, .u 1, .ro, .observer, .none, 255, .any, false⟩, -- POLICY
   ⟨0x9010, 1, 1, 0x05, 1, .u 1, .rw, .installer, .f, 2, .num (2) (3) 1, true⟩, -- POLICY
   ⟨0x9010, 1, 1, 0x06, 1, .u 1, .rw, .installer, .f, 2, .num (2) (3) 1, true⟩, -- POLICY
   ⟨0x9010, 1, 1, 0x07, 1, .u 1, .rw, .installer, .f, 2, .num (1) (3) 1, true⟩, -- POLICY
   ⟨0x9010, 1, 1, 0x08, 1, .u 1, .rw, .installer, .f, 1, .num (0) (3) 1, true⟩, -- POLICY
   ⟨0x9010, 1, 1, 0x09, 1, .u 1, .rw, .installer, .f, 2, .num (1) (3) 1, true⟩, -- POLICY
   ⟨0x9010, 1, 1, 0x0A, 1, .u 1, .rw, .installer, .f, 1, .num (1) (3) 1, true⟩, -- POLICY
   ⟨0x9010, 1, 1, 0x0B, 1, .u 1, .rw, .installer, .f, 2, .num (1) (3) 1, true⟩, -- POLICY
   ⟨0x9010, 1, 1, 0x0C, 1, .u 1, .rw, .installer, .f, 2, .num (1) (3) 1, true⟩, -- POLICY
   ⟨0x9010, 1, 1, 0x0D, 1, .u 1, .rw, .installer, .f, 2, .num (1) (3) 1, true⟩, -- POLICY
   ⟨0x9010, 1, 1, 0x0E, 1, .u 1, .rw, .installer, .f, 0, .num (0) (3) 1, true⟩, -- POLICY
   ⟨0x9010, 1, 1, 0x0F, 1, .u 1, .rw, .installer, .f, 1, .num (0) (3) 1, true⟩, -- POLICY
   ⟨0x9010, 1, 1, 0x10, 1, .u 1, .rw, .installer, .f, 1, .num (1) (3) 1, true⟩, -- POLICY
   ⟨0x9010, 1, 1, 0x11, 1, .u 1, .rw, .installer, .f, 2, .num (1) (3) 1, true⟩, -- POLICY
   ⟨0x9010, 1, 1, 0x12, 1, .u 1, .rw, .installer, .f, 2, .num (2) (3) 1, true⟩, -- POLICY
   ⟨0x9010, 1, 1, 0x13, 1, .u 1, .rw, .installer, .f, 2, .num (1) (3) 1, true⟩, -- POLICY
   ⟨0x9010, 1, 1, 0x14, 1, .u 1, .rw, .installer, .f, 1, .num (1) (3) 1, true⟩, -- POLICY
   ⟨0x9010, 1, 1, 0x15, 1, .u 1, .rw, .installer, .f, 1, .num (0) (3) 1, true⟩, -- POLICY
   ⟨0x9010, 1, 1, 0x16, 1, .u 1, .rw, .installer, .f, 0, .num (0) (3) 1, true⟩] -- POLICY

/-- Rows of 15_belay_and_faults.md, 16_events_and_power.md, 17_electrical_and_package.md. -/
def od9b : List Obj :=
  [⟨0x9010, 1, 1, 0x17, 1, .u 1, .rw, .installer, .f, 2, .num (2) (3) 1, true⟩, -- POLICY
   ⟨0x9010, 1, 1, 0x18, 1, .u 1, .rw, .installer, .f, 1, .num (1) (3) 1, true⟩, -- POLICY
   ⟨0x9010, 1, 1, 0x19, 1, .u 1, .rw, .installer, .f, 2, .num (1) (3) 1, true⟩, -- POLICY
   ⟨0x9010, 1, 1, 0x1A, 1, .u 1, .rw, .installer, .f, 1, .num (0) (3) 1, true⟩, -- POLICY
   ⟨0x9010, 1, 1, 0x1B, 1, .u 1, .rw, .installer, .f, 1, .num (0) (3) 1, true⟩, -- POLICY
   ⟨0x9010, 1, 1, 0x1C, 1, .u 1, .rw, .installer, .f, 1, .num (0) (3) 1, true⟩, -- POLICY
   ⟨0x9010, 1, 1, 0x1D, 1, .u 1, .rw, .installer, .f, 2, .num (2) (3) 1, true⟩, -- POLICY
   ⟨0x9010, 1, 1, 0x1E, 1, .u 1, .rw, .installer, .f, 2, .num (1) (3) 1, true⟩, -- POLICY
   ⟨0x9010, 1, 1, 0x1F, 1, .u 1, .rw, .installer, .f, 2, .num (2) (3) 1, true⟩, -- POLICY
   ⟨0x9100, 1, 1, 0x01, 1, .u 8, .w1c, .operator, .none, 0, .any, false⟩, -- PENDING
   ⟨0x9100, 1, 1, 0x02, 1, .u 8, .rw, .operator, .l, 47, .any, true⟩, -- MASK
   ⟨0x9100, 1, 1, 0x03, 1, .u 8, .rw, .operator, .l, 18446744073709551615, .any, true⟩, -- ROUTE_Q
   ⟨0x9100, 1, 1, 0x04, 1, .u 8, .rw, .operator, .l, 1008810714653089792, .any, true⟩, -- ROUTE_I
   ⟨0x9100, 1, 1, 0x05, 1, .u 8, .rw, .installer, .l, 0, .any, true⟩, -- ROUTE_F
   ⟨0x9100, 1, 1, 0x06, 1, .oct 32 32, .rc, .observer, .none, 0, .any, false⟩, -- EVQ_READ
   ⟨0x9100, 1, 1, 0x07, 1, .u 2, .ro, .observer, .none, 0, .num (0) (1024) 1, false⟩, -- EVQ_DEPTH
   ⟨0x9100, 1, 1, 0x08, 1, .u 4, .rc, .observer, .none, 0, .any, false⟩, -- EVQ_LOST
   ⟨0x9100, 1, 1, 0x09, 1, .u 1, .ro, .observer, .none, 0, .any, false⟩, -- IRQ_STATE
   ⟨0x9101, 1, 1, 0x01, 64, .u 4, .rc, .observer, .none, 0, .any, false⟩, -- EV_COUNT
   ⟨0x9200, 1, 1, 0x01, 10, .u 1, .ro, .observer, .none, 0, .num (0) (5) 1, false⟩, -- DOMAIN_STATE
   ⟨0x9200, 1, 1, 0x0B, 1, .u 2, .ro, .observer, .none, 1, .any, false⟩, -- NEEDED
   ⟨0x9200, 1, 1, 0x0C, 1, .bool, .rw, .installer, .f, 0, .any, true⟩, -- HEARTH_RET_EN
   ⟨0x9200, 1, 1, 0x0D, 1, .u 4, .rc, .observer, .none, 0, .any, false⟩, -- SWITCH_FAILS
   ⟨0x9200, 1, 1, 0x0E, 1, .oct 14 14, .ro, .observer, .none, 0, .any, false⟩, -- RAIL_MV
   ⟨0x9200, 1, 1, 0x0F, 1, .u 2, .ro, .observer, .none, 0, .any, false⟩, -- VDDQ_MV
   ⟨0x9201, 1, 1, 0x01, 1, .i 2, .ro, .observer, .none, 0, .any, false⟩, -- TJ_LOGIC
   ⟨0x9201, 1, 1, 0x02, 1, .i 2, .ro, .observer, .none, 0, .any, false⟩, -- TJ_FBX
   ⟨0x9201, 1, 1, 0x03, 1, .i 2, .rc, .observer, .none, 32768, .any, false⟩, -- TJ_PEAK
   ⟨0x9201, 1, 1, 0x04, 1, .u 4, .ro, .observer, .none, 0, .any, false⟩, -- LIFE_USED
   ⟨0x9210, 1, 1, 0x01, 1, .u 8, .ro, .observer, .none, 0, .any, false⟩, -- DRAM_INSTALLED
   ⟨0x9210, 1, 1, 0x02, 1, .u 8, .ro, .observer, .none, 0, .any, false⟩, -- DRAM_USABLE
   ⟨0x9210, 1, 1, 0x03, 1, .u 2, .rw, .installer, .f, 6400, .enum [3200, 4266, 5500, 6400, 7500, 8533], true⟩, -- DRAM_RATE
   ⟨0x9210, 1, 1, 0x04, 1, .u 4, .rc, .observer, .none, 0, .any, false⟩] -- DRAM_TRAIN_FAILS

/-- The rows of the objects whose index begins with the hexadecimal digit `d`. -/
def odChapter (d : Nat) : List Obj :=
  match d with
  | 1 => od1a ++ od1b
  | 2 => od2a ++ od2b
  | 3 => od3a ++ od3b ++ od3c
  | 4 => od4a ++ od4b
  | 5 => od5a ++ od5b
  | 6 => od6a ++ od6b
  | 7 => od7a ++ od7b
  | 8 => od8a ++ od8b ++ od8c
  | 9 => od9a ++ od9b
  | _ => []

/-- Does row `o` hold object `ix`? -/
def Obj.hasIndex (o : Obj) (ix : Nat) : Bool :=
  decide (o.ix ≤ ix) && decide ((ix - o.ix) / o.stride < o.cnt) && decide ((ix - o.ix) % o.stride = 0)

/-- Does row `o` hold subindex `sub`? -/
def Obj.hasSub (o : Obj) (sub : Nat) : Bool :=
  decide (o.sub ≤ sub) && decide (sub < o.sub + o.subN)

/-- The row of subindex `ix . sub`, if the dictionary has it. -/
def odFind (ix sub : Nat) : Option Obj :=
  (odChapter (ix / 4096)).find? fun o => o.hasSub sub && o.hasIndex ix

/-- Check 1 of R16: does object `ix` exist? -/
def odHasObject (ix : Nat) : Bool :=
  (odChapter (ix / 4096)).any fun o => o.hasIndex ix

/-- The default of the register with key `k`: what it holds after reset when nothing has written it. -/
def regDefault (k : Nat) : Nat :=
  match odFind (k / 256) (k % 256) with
  | some o => o.dflt
  | none => 0

end Sys2Proof.Machine
end

