-- ==== Sys2Proof/Machine/Store.lean ====
section
/-! DEFINITION. Sparse stores in one canonical form: a list of (address, value) pairs with addresses strictly rising and
no pair equal to what an unlisted address reads as. The register map, the Hearth, the DRAM and the boot flash are such
stores. -/

namespace Sys2Proof.Machine

variable {α : Type} [DecidableEq α]

/-- What address `a` reads as, `d` giving what an unlisted address reads as. -/
def storeGet (d : Nat → α) (m : List (Nat × α)) (a : Nat) : α :=
  match m with
  | [] => d a
  | (k, v) :: r => if k = a then v else if a < k then d a else storeGet d r a

/-- The store with `v` at address `a`. -/
def storePut (d : Nat → α) (m : List (Nat × α)) (a : Nat) (v : α) : List (Nat × α) :=
  match m with
  | [] => if v = d a then [] else [(a, v)]
  | (k, w) :: r =>
    if a < k then (if v = d a then (k, w) :: r else (a, v) :: (k, w) :: r)
    else if a = k then (if v = d a then r else (a, v) :: r)
    else (k, w) :: storePut d r a v

/-- The canonical form: every address above `lo`, addresses rising, no default listed. -/
def storeWfFrom (d : Nat → α) (lo : Nat) : List (Nat × α) → Bool
  | [] => true
  | (k, v) :: r => decide (lo ≤ k) && decide (v ≠ d k) && storeWfFrom d (k + 1) r

/-- The canonical form. -/
def storeWf (d : Nat → α) (m : List (Nat × α)) : Bool := storeWfFrom d 0 m

/-- A run of `n` values from address `a` on of a store that lists nothing below `a`, in one walk. -/
def storeWalk {α : Type} (d : Nat → α) : Nat → List (Nat × α) → Nat → List α
  | 0, _, _ => []
  | n + 1, [], a => d a :: storeWalk d n [] (a + 1)
  | n + 1, (k, v) :: r, a => if k = a then v :: storeWalk d n r (a + 1) else d a :: storeWalk d n ((k, v) :: r) (a + 1)

/-- The `n` values from address `a` on. -/
def storeRun {α : Type} (d : Nat → α) (m : List (Nat × α)) (a n : Nat) : List α :=
  storeWalk d n (m.dropWhile fun p => p.1 < a) a

/-- The store with the addresses from `a` to `a + n - 1` returned to what an unlisted address reads as. -/
def storeErase (m : List (Nat × α)) (a n : Nat) : List (Nat × α) :=
  m.filter fun p => decide (p.1 < a) || decide (a + n ≤ p.1)

/-- The store with the run of values `vs` from address `a` on, in one walk. -/
def storeBlit (d : Nat → α) (m : List (Nat × α)) (a : Nat) (vs : List α) : List (Nat × α) :=
  (m.filter fun p => decide (p.1 < a)) ++
    ((List.range vs.length).zip vs).filterMap (fun p => if p.2 = d (a + p.1) then none else some (a + p.1, p.2)) ++
    (m.filter fun p => decide (a + vs.length ≤ p.1))

/-- Set a key in an association list kept in order of first writing; a later value replaces the earlier one. -/
def assocSet (m : List (Nat × α)) (k : Nat) (v : α) : List (Nat × α) :=
  match m with
  | [] => [(k, v)]
  | (a, w) :: r => if a = k then (k, v) :: r else (a, w) :: assocSet r k v

/-- Look a key up in an association list. -/
def assocGet (m : List (Nat × α)) (k : Nat) : Option α :=
  match m with
  | [] => none
  | (a, w) :: r => if a = k then some w else assocGet r k

/-- An association list with every pair of `n` set over it, in order. -/
def setOver (m n : List (Nat × α)) : List (Nat × α) := n.foldl (fun a p => assocSet a p.1 p.2) m

/-- Drop a key from an association list. -/
def assocDel (m : List (Nat × α)) (k : Nat) : List (Nat × α) := m.filter fun p => p.1 != k

end Sys2Proof.Machine
end

