-- ==== Sys2Proof/Machine/Ops.lean ====
section
/-! DEFINITION. The named operations every meaning uses: the register map, the local clock and its advance (R262), the
tick's boundaries (R41), the sparse memories, and the record of what is sent. -/

namespace Sys2Proof.Machine

/-! ### Registers -/

/-- The value the register with key `k` holds. -/
def State.reg (s : State) (k : Nat) : Nat := storeGet regDefault s.regs k

/-- The state with `v` in the register with key `k`. -/
def State.setReg (s : State) (k v : Nat) : State := { s with regs := storePut regDefault s.regs k v }

/-- Set several registers, in order. -/
def State.setRegs (s : State) (l : List (Nat × Nat)) : State := l.foldl (fun t p => t.setReg p.1 p.2) s

/-- Count `n` more in a 32-bit counter, which saturates. -/
def State.addReg (s : State) (k n : Nat) : State := s.setReg k (min (s.reg k + n) (two32 - 1))

/-- Count one more in a 32-bit counter, which saturates. -/
def State.incReg (s : State) (k : Nat) : State := s.addReg k 1

/-- Count `n` more in a 64-bit counter, which saturates. -/
def State.addReg64 (s : State) (k n : Nat) : State := s.setReg k (min (s.reg k + n) (two64 - 1))

/-- Is the BOOL register with key `k` 1? -/
def State.flag (s : State) (k : Nat) : Bool := s.reg k == 1

/-- Keep the largest value seen in a register. -/
def State.maxReg (s : State) (k v : Nat) : State := s.setReg k (max (s.reg k) v)

/-- Keep an extreme since the last read: the read leaves 0 (R12), and the first value after it stands whatever the 0. `least`
takes the smaller of two numbers that `num` gives of the stored values. -/
def State.extreme (s : State) (least : Bool) (num : Nat → Int) (k v : Nat) : State :=
  if s.report.cleared.contains k then
    ({ s with report := { s.report with cleared := s.report.cleared.filter fun x => x != k } }).setReg k v
  else if (if least then decide (num v < num (s.reg k)) else decide (num (s.reg k) < num v)) then s.setReg k v
  else s

/-- Keep the smallest value since the last read. -/
def State.minReg (s : State) (k v : Nat) : State := s.extreme true (fun x => (x : Int)) k v

/-! ### Free values and outputs -/

/-- The outcome of a command: the next state is `t`, with the waiting commands as they were. -/
def State.done (s t : State) : Host.Outcome State Fault Refusal := .next { t with pending := s.pending }

/-- Note one thing sent. -/
def State.send (s : State) (o : Output) : State := { s with sent := o :: s.sent }

/-- The state after one free value has been drawn. -/
def State.drew (s : State) : State := { s with freeCount := s.freeCount + 1 }

/-! ### Modes -/

/-- MODE's code (Table 2.2). -/
def Mode.code : Mode → Nat
  | .reset => 0 | .roping => 1 | .staging => 2 | .onShow => 3 | .holdover => 4 | .dark => 5

/-- Is the mode one in which the unit runs its content: SHOW or HOLDOVER? -/
def Mode.shows (m : Mode) : Bool := m == .onShow || m == .holdover

/-- Is the unit out of RESET? -/
def State.alive (s : State) : Bool := s.mode.mode != .reset

/-- Is power domain `d` ON (Table 16.4)? -/
def State.domOn (s : State) (d : Nat) : Bool := s.power.dom.getD d 0 == 2

/-! ### The local clock -/

/-- The local clock, in ns since the PTP epoch. -/
def State.now (s : State) : Nat := s.clock.ns

/-- The unit stands at a tick boundary: the clock reads the instant of the boundary just taken, or the next ns. -/
def State.atBoundary (s : State) : Bool := decide (s.now < s.tick.time + 2) && decide (s.tick.time ≤ s.now)

/-- The clock after `n` CCLK cycles: `n` passes of the loop of R262, in closed form. -/
def clockAdvance (n : Nat) (c : ClockSt) : ClockSt :=
  let total := (c.frac : Int) + n * ((two32 : Int) + c.trim)
  { c with
    ns := (c.ns + (total / (two32 : Int)).toNat) % clockWrap
    frac := (total % (two32 : Int)).toNat
    cclk := c.cclk + n }

/-- The fewest CCLK cycles after which the clock has advanced by at least `d` ns (R41: the first CCLK edge at or after). -/
def cclkFor (c : ClockSt) (d : Nat) : Nat :=
  if d = 0 then 0
  else
    let need : Int := (d : Int) * two32 - c.frac
    let rate : Int := (two32 : Int) + c.trim
    ((need + rate - 1) / rate).toNat

/-- Time passes: `n` CCLK cycles. -/
def State.pass (s : State) (n : Nat) : State := { s with clock := clockAdvance n s.clock }

/-- Time passes until the clock reads at least `t`; nothing when it already does. -/
def State.reach (s : State) (t : Nat) : State := s.pass (cclkFor s.clock (t - s.clock.ns))

/-- Time passes until `c` CCLK cycles have elapsed since power-on; nothing when they already have. -/
def State.reachCclk (s : State) (c : Nat) : State := s.pass (c - s.clock.cclk)

/-- Milliseconds as CCLK cycles. -/
abbrev ms (n : Nat) : Nat := n * 1000000

/-- Shift the clock by `d` ns, as an initial set or a step does (R275, R276). -/
def State.shiftClock (s : State) (d : Int) : State :=
  { s with clock := { s.clock with ns := (((s.clock.ns : Int) + d) % (clockWrap : Int)).toNat } }

/-! ### The tick -/

/-- boundary(n) at rate `num / den` (R41). -/
def boundary (num den n : Nat) : Nat := n * den * nsPerSec / num

/-- The least `n` with boundary(n) at or after `t`. -/
def leastBoundary (num den t : Nat) : Nat := if num = 0 then 0 else ceilDiv (t * num) (den * nsPerSec)

/-- boundary(n) at the rate in force. -/
def State.boundary (s : State) (n : Nat) : Nat := Machine.boundary (s.reg Reg.tickNum) (s.reg Reg.tickDen) n

/-- The instant at which tick `n` begins: TICK_BIAS ticks lie between the index and the ticks since the epoch (R276). -/
def State.tickAt (s : State) (n : Nat) : Nat := s.boundary (n - s.reg Reg.tickBias)

/-- TICK_INDEX. -/
def State.tickIdx (s : State) : Nat := s.reg Reg.tickIndex

/-- The frame counter. -/
def State.frame (s : State) : Nat := s.reg Reg.frameCounter

/-- Presentation latency L. -/
def State.lat (s : State) : Nat := s.reg Reg.latency

/-- T_min: the shortest tick period in ns at the rate in force. -/
def State.tMin (s : State) : Nat := s.reg Reg.tickDen * nsPerSec / s.reg Reg.tickNum

/-- Does a write that completes now count as after the boundary that comes next or that is being taken (R55)? Its CCLK is that
boundary's, or a later one. -/
def State.pastBoundary (s : State) : Bool := decide (s.tick.nextTime ≤ s.now) || s.tick.restVled.isSome

/-! ### Boot flash -/

/-- What an erased flash byte reads as. -/
def flashDefault (_ : Nat) : Byte := 0xFF

/-- `n` flash bytes from address `a` on. -/
def State.flashBytes (s : State) (a n : Nat) : Bytes := storeRun flashDefault s.flash a n

/-- Erase `n` flash bytes from `a` on. -/
def State.flashErase (s : State) (a n : Nat) : State := { s with flash := storeErase s.flash a n }

/-- Program flash bytes from `a` on. -/
def State.flashProgram (s : State) (a : Nat) (bs : Bytes) : State :=
  { s with flash := storeBlit flashDefault s.flash a bs }

/-- Size of a topo slot in bytes (R65). -/
def State.slotSize (s : State) : Nat := (s.part.flashMb - 34) / 2 * 1048576

/-- Flash address of topo slot `n`, 1 for A and 2 for B (Table 3.1). -/
def State.slotBase (s : State) (n : Nat) : Nat := 0x2000000 + (if n = 2 then s.slotSize else 0)

/-- The flash region a write transfer fills: its topo slot, its firmware region, or its run of the raw flash. The boot ROM keeps a
downloaded image in memory (R365). -/
def State.flashRegion (s : State) (t : Transfer) : Option (Nat × Nat) :=
  let k := Reg.key t.ix t.sub
  if !t.write then none
  else if k = Reg.slotA then some (s.slotBase 1, s.slotSize)
  else if k = Reg.slotB then some (s.slotBase 2, s.slotSize)
  else if k = Reg.flashRaw then some (t.start, ceilDiv t.total 8192 * 8192)
  else if !s.alive then none
  else if k = Reg.fwImage then some (0, 0x1000000)
  else if k = Reg.fwFallback then some (0x1000000, 0x1000000)
  else none

/-- An abandoned transfer leaves its flash target erased (R69, R348). -/
def State.eraseTransfer (s : State) (t : Transfer) : State :=
  match s.flashRegion t with
  | some r => s.flashErase r.1 r.2
  | none => s

/-! ### Hearth and DRAM -/

/-- What a byte of the DRAM that nothing has written reads as (assumption log 5). -/
def ramDefault (_ : Nat) : Byte := 0

/-- Entry `i` of an output LUT that the topo does not give (R171). -/
def outLutDefault (i : Nat) : Nat := i * 16 + i / 256

/-- What a byte of the Hearth that nothing has written reads as: the default output LUTs from address `lut` on, 256 tables of 4,096
entries; 0 elsewhere (assumption log 5). -/
def hearthDefault (lut : Option Nat) (a : Nat) : Byte :=
  match lut with
  | some b =>
    if b ≤ a ∧ a < b + 2097152 then
      let v := outLutDefault ((a - b) / 2 % 4096)
      BitVec.ofNat 8 (if (a - b) % 2 = 0 then v / 256 else v)
    else 0
  | none => 0

/-- What an unlisted byte of a memory reads as. -/
def MemSt.unlisted (m : MemSt) (dram : Bool) : Nat → Byte := if dram then ramDefault else hearthDefault m.lut

/-- `n` bytes from address `a` of the DRAM or the Hearth. -/
def State.ramRead (s : State) (dram : Bool) (a n : Nat) : Bytes :=
  storeRun (s.mem.unlisted dram) (if dram then s.mem.dram else s.mem.hearth) a n

/-- Write bytes from address `a`; a poisoned line or burst the write covers completely is poisoned no longer (R429). -/
def State.ramWrite (s : State) (dram : Bool) (a : Nat) (bs : Bytes) : State :=
  let unit := if dram then 256 else 64
  let m := s.mem
  let poison := m.poison.filter fun p => !(p.1 == dram && decide (a ≤ p.2) && decide (p.2 + unit ≤ a + bs.length))
  if dram then { s with mem := { m with dram := storeBlit ramDefault m.dram a bs, poison := poison } }
  else { s with mem := { m with hearth := storeBlit (hearthDefault m.lut) m.hearth a bs, poison := poison } }

/-- Does a run of `n` bytes from `a` touch a poisoned line or burst? -/
def State.poisoned (s : State) (dram : Bool) (a n : Nat) : Bool :=
  let unit := if dram then 256 else 64
  s.mem.poison.any fun p => p.1 == dram && decide (p.2 < a + n) && decide (a < p.2 + unit)

/-- Rewrite the line or burst that holds address `a` with the poison code (R429). -/
def State.poisonAt (s : State) (dram : Bool) (a : Nat) : State :=
  let unit := if dram then 256 else 64
  let p := (dram, a / unit * unit)
  if s.mem.poison.contains p then s else { s with mem := { s.mem with poison := p :: s.mem.poison } }

/-- DRAM_USABLE: the addresses of DRAM the unit has (R476). -/
def State.dramSize (s : State) : Nat := s.reg Reg.dramUsable

/-- Base addresses of Hearth regions of the sizes given in MB (R68). -/
def regionBases : Nat → List Nat → List Nat
  | _, [] => []
  | a, n :: r => a :: regionBases (a + n * 1048576) r

/-- Applied region sizes in MB, in the order of Table 1.3 (REGION_MB). -/
def State.regions (s : State) : List Nat := (List.range 9).map fun i => s.reg (Reg.regionMb i)

/-- Base address of Hearth region `r`, in the order of Table 1.3 (R68). -/
def State.regionAt (s : State) (r : Nat) : Nat := (regionBases 0 s.regions).getD r 0

/-- The Hearth's store with default output tables at `lut`, and nothing else listed in the region of 2 MB at `base`. -/
def MemSt.withTables (m : MemSt) (lut : Option Nat) (base : Nat) : MemSt :=
  { m with lut := lut, hearth := m.hearth.filter fun p =>
    !(decide (base ≤ p.1) && decide (p.1 < base + 2097152)) && decide (p.2 ≠ hearthDefault lut p.1) }

/-- The classes-and-LUTs region takes its contents at an activation: the tables of OUTPUT_LUT, or the default ones (R171). -/
def State.lutTables (s : State) (sec : Bytes) : State :=
  ({ s with mem := s.mem.withTables (if sec.isEmpty then some (s.regionAt 6) else none) (s.regionAt 6) }).ramWrite false
    (s.regionAt 6) sec

/-- The Hearth bank that holds address `a`: 64-byte lines are interleaved across the 32 banks (R26). -/
def hearthBank (a : Nat) : Nat := a / 64 % 32

/-- Does address `a` lie in the cell pool, whose cells carry no ECC (R26)? -/
def State.inPool (s : State) (dram : Bool) (a : Nat) : Bool :=
  let b := s.regionAt 4
  !dram && decide (b ≤ a) && decide (a < b + s.regions.getD 4 0 * 1048576)

/-- Does a run of `n` bytes from `a` lie within one region of these sizes, or within `dram` bytes (R79)? -/
def rangeOk (regions : List Nat) (dram : Nat) (isDram : Bool) (a n : Nat) : Bool :=
  if n = 0 then true
  else if isDram then decide (a + n ≤ dram)
  else ((regionBases 0 regions).zip regions).any fun p => decide (p.1 ≤ a) && decide (a + n ≤ p.1 + p.2 * 1048576)

/-! ### Lists as queues -/

/-- Push to the tail of a queue of at most `cap` records under OVERWRITE: the oldest goes when it is full. The flag says
that one was lost. -/
def pushOver {α : Type} (cap : Nat) (q : List α) (x : α) : List α × Bool :=
  if q.length < cap then (q ++ [x], false) else (q.drop 1 ++ [x], true)

/-- Replace element `i` of a list. -/
def setAt {α : Type} (l : List α) (i : Nat) (x : α) : List α := l.set i x

end Sys2Proof.Machine
end

