-- ==== Sys2Proof/Machine/Pool.lean ====
section
/-! DEFINITION. The cell pool's accounting (R367 to R369, R379): cells held by each queue, and what is free in the shared
part. -/

namespace Sys2Proof.Machine

/-- Cells of an item of `n` bytes (R368). -/
def cellsOf (n : Nat) : Nat := ceilDiv n 64

/-- Cells a linked queue holds. -/
def Queue.cells (q : Queue) : Nat := (q.items.map fun i => cellsOf i.length).sum

/-- Items from READ to TAIL. -/
def Queue.depth (q : Queue) : Nat := q.items.length - q.retained

/-- Does a queue allocate from a reserve of its own: a HOLD queue at a stage from 1 to 6 (R369)? -/
def Queue.ownReserve (q : Queue) : Bool := q.hold && decide (q.stage ≤ 6)

/-- Cells of the shared part that the device queues of records hold: each record is one item. -/
def State.recordCells (s : State) : Nat :=
  (s.ports.map fun p => p.tsq.length + (p.diag.map fun d => cellsOf (16 + d.snap.length)).sum).sum +
    s.ev.queue.length + (s.belay.queue.length - s.q.belayUsed) + s.report.clamps.length + s.report.rejects.length +
    (s.tio.ecis.map fun e => e.queue.length).sum + s.sched.trace.length +
    (s.egress.resp.map fun r => cellsOf (16 + r.data.length)).sum +
    (s.comp.streams.map fun x => x.items.length).sum + (s.comp.loops.map fun x => x.items.length).sum

/-- Cells of the shared part in use: OVERWRITE queues and stage-7 HOLD queues allocate there (R369). -/
def State.sharedUsed (s : State) : Nat :=
  s.recordCells + (s.q.rx.map Queue.cells).sum +
    ((s.q.linked.filter fun p => !p.2.ownReserve).map fun p => p.2.cells).sum

/-- POOL_FREE: free cells of the shared part (R379). Cell 0, the belay reserve of 64 and the queue reserves are not of it,
and leaked cells are withheld. -/
def State.poolFree (s : State) : Nat :=
  s.reg Reg.poolCells - 1 - 64 - s.reg Reg.reservedCells - s.sharedUsed - s.belay.leaked

/-- Device queue `n` now holds `d` items: its Q_HIGH follows. -/
def State.seeDepth (s : State) (n d : Nat) : State :=
  { s with q := { s.q with highs := assocSet s.q.highs n (max ((assocGet s.q.highs n).getD 0) d) } }

/-- Push a record to a device queue of OVERWRITE policy whose records take one cell (R373): the oldest goes when the queue
is full or no shared cell is free; the new record is dropped when the queue is empty and no cell is free. The number is how
many records were lost. -/
def pushRecord {α : Type} (cap free : Nat) (q : List α) (x : α) : List α × Nat :=
  if free = 0 then
    match q with
    | [] => ([], 1)
    | _ :: r => (r ++ [x], 1)
  else
    let p := pushOver cap q x
    (p.1, if p.2 then 1 else 0)

/-- As `pushRecord`, for records of several cells: `size` gives a record's cells, and `fuel` bounds the walk by the records
held. -/
def pushSized {α : Type} (fuel cap free : Nat) (size : α → Nat) (q : List α) (x : α) : List α × Nat :=
  match fuel, q with
  | k + 1, y :: r =>
    if cap ≤ q.length ∨ free < size x then
      let p := pushSized k cap (free + size y) size r x
      (p.1, p.2 + 1)
    else (q ++ [x], 0)
  | _, _ => if free < size x then (q, 1) else (q ++ [x], 0)

end Sys2Proof.Machine
end

