-- ==== Sys2Proof/Machine/Flags.lean ====
section
/-! DEFINITION. Flags and pins: events, their pending bits, masks and routes (R443 to R450), and the levels on
LCL_IRQ_N and FAULT_N (R436, R447, R448). -/

namespace Sys2Proof.Machine

/-- Place an event record at the tail of the queue: records of one instant stand in ascending order of EV number (R445). -/
def placeEv (r : EvRec) : List EvRec → List EvRec
  | [] => [r]
  | x :: l => if (x :: l).all fun y => y.time == r.time && decide (r.ev < y.ev) then r :: x :: l else x :: placeEv r l

/-- Put an event record on the event queue: device queue 22, 1,024 records, OVERWRITE (R445). -/
def State.pushEv (s : State) (r : EvRec) : State :=
  let q := pushRecord 1024 s.poolFree s.ev.queue r
  let l := if q.1.isEmpty then [] else placeEv r q.1.dropLast
  (({ s with ev := { s.ev with queue := l } }).seeDepth 22 l.length).addReg Reg.evqLost q.2

/-- The events raised in the present CCLK, a mask. -/
def State.freshMask (s : State) : Nat := if s.ev.freshAt = s.clock.cclk then s.ev.fresh else 0

/-- Steps 1 and 2 of R443: the count and the pending bit. A raise is not acknowledged by an earlier FAULT_ACK (R448). -/
def State.markEv (s : State) (ev n : Nat) : State :=
  let s := s.addReg (Reg.evCount ev) n
  let s := s.setReg Reg.pending (setBit (s.reg Reg.pending) ev)
  { s with ev := { s.ev with fAcked := clearBit s.ev.fAcked ev, fresh := setBit s.freshMask ev, freshAt := s.clock.cclk } }

/-- Does event `ev` reach the event queue: not masked, and routed to Q? -/
def State.evQueued (s : State) (ev : Nat) : Bool := !bit (s.reg Reg.mask) ev && bit (s.reg Reg.routeQ) ev

/-- What R443 makes of a raise of event `ev`: its count, its pending bit and its record. -/
def State.noteEv (s : State) (ev : Nat) (payload : Bytes) : State :=
  let t := s.markEv ev 1
  if t.evQueued ev then
    t.pushEv { ev := ev, merged := false, time := t.now, tick := t.tickIdx, payload := payload.take 12 }
  else t

/-- POOL_MIN follows POOL_FREE. -/
def State.minPool (s : State) : State := s.minReg Reg.poolMin s.poolFree

/-- EV34 with POOL_FREE, once; its own record takes a cell (R379). -/
def State.poolEvent (s : State) : State :=
  (({ s with q := { s.q with lowArmed := false } }).noteEv 34 (beBytes 4 s.poolFree)).minPool

/-- EV34 when POOL_FREE has fallen to POOL_LOW_CELLS, once until it has risen above twice that (R379); POOL_MIN follows, the cell
of EV34's own record included. -/
def State.poolCheck (s : State) : State :=
  let low := s.reg Reg.poolLowCells
  if low = 0 then s.minPool
  else if s.poolFree ≤ low ∧ s.q.lowArmed ∧ s.alive then s.minPool.poolEvent
  else if 2 * low < s.poolFree then { s.minPool with q := { s.q with lowArmed := true } }
  else s.minPool

/-- Raise event `ev` with the payload of Table 16.1 (R443). No event is raised in RESET. -/
def State.raise (s : State) (ev : Nat) (payload : Bytes) : State :=
  if s.alive then (s.noteEv ev payload).poolCheck else s

/-- Raise a queue-loss event (EV20, EV32, EV37) for `n` items of `queue`: one record per queue and tick (R444). -/
def State.raiseLoss (s : State) (ev queue n : Nat) (payload : Bytes) : State :=
  if s.alive then
    let t := s.markEv ev n
    if t.evQueued ev && !t.ev.merged.contains (ev, queue) then
      let t := { t with ev := { t.ev with merged := (ev, queue) :: t.ev.merged } }
      (t.pushEv { ev := ev, merged := true, time := t.now, tick := t.tickIdx, payload := payload.take 12 }).poolCheck
    else t
  else s

/-- The 32 bytes of an event record (Table 16.2). -/
def EvRec.bytes (r : EvRec) : Bytes :=
  beBytes 1 r.ev ++ beBytes 1 (if r.merged then 1 else 0) ++ beBytes 10 (time80 r.time) ++ beBytes 8 r.tick ++
    slice r.payload 0 12

/-- The events that are pending, not masked and routed by the mask in register `route`. -/
def State.routed (s : State) (route : Nat) : Nat :=
  s.reg Reg.pending &&& s.reg route &&& (s.reg Reg.mask ^^^ (two64 - 1))

/-- IRQ_STATE (R447): bit 1 by events, bit 0 by REPLY_IRQ and READY. -/
def State.irqState (s : State) : Nat :=
  (if s.routed Reg.routeI != 0 then 2 else 0) + (if s.flag Reg.replyIrq && s.lcl.ready then 1 else 0)

/-- LCL_IRQ_N is asserted. -/
def State.lclIrq (s : State) : Bool := s.irqState != 0

/-- The reaction in force for class `c` (R420); the fixed classes have none of the sequencer's. -/
def State.policy (s : State) (c : Nat) : Nat := if 5 ≤ c ∧ c ≤ 31 then s.reg (Reg.key 0x9010 c) else 0

/-- Classes whose active condition the last column of Table 15.1 gives; the others are active only while pending. -/
def conditionClass (c : Nat) : Bool :=
  [0x01, 0x02, 0x03, 0x04, 0x05, 0x06, 0x11, 0x14, 0x15, 0x16, 0x17, 0x19, 0x1A, 0x1B, 0x1C, 0x1D, 0x1E, 0x1F].contains c

/-- ACTIVE_MASK (R418). -/
def State.activeFaults (s : State) : Nat :=
  s.belay.active ||| s.belay.slots.foldl (fun m x => if conditionClass x.rcd.cls then m else setBit m x.rcd.cls) 0

/-- Some active class of reaction SIGNAL or higher, not masked, holds FAULT_N (R436). -/
def State.activeSignals (s : State) (least : Nat) : Bool :=
  (List.range 32).any fun c => bit s.activeFaults c && !bit s.belay.maskedCls c && decide (least ≤ s.policy c)

/-- FAULT_N_STATE bits [2:0]: held by the DARK latch, by an active class, by an unacknowledged record (R436, R448). -/
def State.faultHold (s : State) : Nat :=
  (if s.belay.latchDark then 4 else 0) + (if s.activeSignals 1 then 2 else 0) +
    (if s.belay.unackSig || (s.routed Reg.routeF &&& (s.ev.fAcked ^^^ (two64 - 1))) != 0 then 1 else 0)

/-- FAULT_N is asserted: driven low. While RESET_N is low it is released. -/
def State.faultN (s : State) : Bool := s.pins.resetN && (s.faultHold != 0 || s.belay.bootFail)

/-! ### Clamp and reject reports -/

/-- SOURCE and SESSION_ID of a report record (Table 12.12): a network session, the local port. -/
def Origin.source : Origin → Nat × Nat
  | .session i => (0, i)
  | .localPort => (1, 0)

/-- Put a clamp record in the clamp report, device queue 25, and raise EV44 (R17, R360). `src` is SOURCE and SESSION_ID. -/
def State.clamped (s : State) (ix sub : Nat) (src : Nat × Nat) (field given applied : Nat) : State :=
  let r : ClampRec := { ix := ix, sub := sub, source := src.1, sess := src.2, field := field, given := given,
                        applied := applied, time := s.now }
  let q := pushRecord 256 s.poolFree s.report.clamps r
  let s := (({ s with report := { s.report with clamps := q.1 } }).seeDepth 25 q.1.length).addReg Reg.clampLost q.2
  let s := if q.2 = 0 then s else s.raiseLoss 32 25 q.2 (beBytes 2 25 ++ beBytes 4 q.2)
  s.raise 44 (beBytes 2 ix ++ beBytes 1 sub)

/-- Put a reject record in the reject report, device queue 26, and raise EV45 (R361). -/
def State.rejected (s : State) (ix sub : Nat) (src : Nat × Nat) (abort detail effect : Nat) : State :=
  let r : RejectRec := { ix := ix, sub := sub, source := src.1, sess := src.2, abort := abort, detail := detail,
                         time := s.now, effect := effect }
  let q := pushRecord 256 s.poolFree s.report.rejects r
  let s := (({ s with report := { s.report with rejects := q.1 } }).seeDepth 26 q.1.length).addReg Reg.rejectLost q.2
  let s := if q.2 = 0 then s else s.raiseLoss 32 26 q.2 (beBytes 2 26 ++ beBytes 4 q.2)
  s.raise 45 (beBytes 2 ix ++ beBytes 1 sub ++ beBytes 2 abort)

/-- The 48 bytes of a clamp record (Table 12.12). -/
def ClampRec.bytes (r : ClampRec) : Bytes :=
  beBytes 2 r.ix ++ beBytes 1 r.sub ++ beBytes 1 r.source ++ beBytes 4 r.sess ++ beBytes 8 r.field ++ beBytes 8 r.given ++
    beBytes 8 r.applied ++ beBytes 10 (time80 r.time) ++ beBytes 6 0

/-- The 32 bytes of a reject record (Table 12.13). -/
def RejectRec.bytes (r : RejectRec) : Bytes :=
  beBytes 2 r.ix ++ beBytes 1 r.sub ++ beBytes 1 r.source ++ beBytes 4 r.sess ++ beBytes 2 r.abort ++ beBytes 2 r.detail ++
    beBytes 10 (time80 r.time) ++ beBytes 10 (time80 r.effect)

end Sys2Proof.Machine
end

