-- ==== Sys2Proof/Machine/Hooks.lean ====
section
/-! DEFINITION. What an entry to DARK, STAGING or RESET does to the blocks that drive outputs: shared by every meaning
that changes the mode. -/

namespace Sys2Proof.Machine

/-- Start of each phase's pulse within the switching period, in ps: PHASES of them, 360 / PHASES degrees apart (R231). -/
def phaseStarts (n khz : Nat) : List Nat := (List.range n).map fun i => i * 1000000000 / (khz * n)

/-- The phases of the draught stage run at FSW_KHZ, or all stay low; the pins of phases not in use are low (R231). -/
def State.setPhases (s : State) (n khz : Nat) : State :=
  ({ s with pins := { s.pins with out := { s.pins.out with phases := n, khz := khz } },
            fbx := { s.fbx with phaseCut := [] } }).send (.phases khz (phaseStarts n khz))

/-- DEN takes a level; the PWM commands of the phases run while it is high (DESIGN CHOICE, log 87). -/
def State.setDen (s : State) (level : Bool) : State :=
  if s.fbx.den == level then s
  else
    let s := ({ s with fbx := { s.fbx with den := level } }).send (.den level)
    if level then s.setPhases (s.reg Reg.phases) (s.reg Reg.fswKhz) else s.setPhases 0 0

/-- The LED rail is given up: DEN falls, no ramp, DRAUGHT_STATE reads `n` (R232, R233). -/
def State.railOff (s : State) (n : Nat) : State :=
  let s := s.setDen false
  ({ s with fbx := { s.fbx with rampAt := none, limitOn := false } }).setReg Reg.draughtState n

/-- A slot in progress ends at once, with its row off and its sinks off (R221). -/
def State.slotCut (s : State) : State :=
  match s.fbx.slotOn with
  | none => s
  | some p =>
    let t := { s with fbx := { s.fbx with slotOn := none } }
    if s.now < p.2 then t.send (.slotCut p.1) else t

/-- Sinks and rows turn off: the emission frame under way is cut off. -/
def State.sinksOff (s : State) : State := { s.slotCut with fbx := { s.slotCut.fbx with on := false } }

/-- DMXn_DE of port `n`: high while the port transmits or marks, low while it receives an RDM response (R199, R201). -/
def State.setDe (s : State) (n : Nat) (level : Bool) : State :=
  let m := s.pins.out.dmxDe
  let m' := if level then setBit m n else clearBit m n
  if m' = m then s else ({ s with pins := { s.pins with out := { s.pins.out with dmxDe := m' } } }).send (.dmxDe m')

/-- Is port `p` held down: ENABLE 0, or TRAIL with HEAD_EN low (R291)? -/
def State.portHeld (s : State) (p : Nat) : Bool := !s.flag (Reg.portEnable p) || (p == 2 && !s.pins.headEn)

/-- A port whose loopback opens returns to service: it trains, or is held down (R257, R291). -/
def State.calReturn (s : State) (p : Nat) : State :=
  if s.reg (Reg.portLinkState p) = 3 then s.setReg (Reg.portLinkState p) (if s.portHeld p then 2 else 0) else s

/-- The sink sequence ends: row, sinks and DEN off (Table 8.3). -/
def State.calDark (s : State) : State := if s.fbx.den then s.sinksOff.railOff 0 else s.sinksOff

/-- A calibration run, or one that waits for its boundary, stops with a cause of Table 8.2: the sink sequence and a loopback under way
end, its results are discarded, and EV55 follows with the sequences that had completed (R252). -/
def State.calAbort (s : State) (cause : Nat) : State :=
  if s.cal.run.isNone && s.cal.want == 0 then s
  else
    let s := if (s.cal.run.any fun v => bit v 0) && !bit s.cal.done 0 then s.calDark else s
    let s := match s.cal.out with
      | some p => s.calReturn p
      | none => s
    let done := s.cal.done
    let s := { s with cal := { s.cal with run := none, want := 0, pend := none, ports := [], out := none } }
    let s := ((s.setReg Reg.calState 3).setReg Reg.abortCause cause).setReg Reg.calRun 3
    s.raise 55 (beBytes 1 3 ++ beBytes 1 cause ++ beBytes 1 done)

/-- The outputs' side of an entry to DARK (Table 2.3): sinks, rows and DEN off, calibration aborted, the data packets of the
tick withheld. -/
def State.darkOutputs (s : State) : State :=
  let s := (s.sinksOff.railOff 0).calAbort 1
  { s with egress := { s.egress with sacnOn := false } }

/-- The outputs' side of an entry to STAGING (Table 2.3). -/
def State.stagingOutputs (s : State) : State :=
  let s := s.sinksOff.railOff 0
  { s with egress := { s.egress with sacnOn := false } }

end Sys2Proof.Machine
end

