-- ==== Sys2Proof/Machine/Belay.lean ====
section
/-! DEFINITION. Changes of mode (R46 to R49) and the belay monitor's capture of faults (R415 to R422), the operations that
every detector shares. -/

namespace Sys2Proof.Machine

/-! ### Changes of mode -/

/-- Set MODE and LAST_CAUSE. -/
def State.setMode (s : State) (m : Mode) (cause : Nat) : State :=
  ({ s with mode := { s.mode with mode := m } }).setReg Reg.lastCause cause

/-- The CMD subindex with key `k` reads `v` (R487). -/
def State.cmdState (s : State) (k v : Nat) : State := s.setReg k v

/-- Arming is abandoned: SHOW_BLOCK bit 2 sets again (R52). -/
def State.dropArming (s : State) : State :=
  { s with mode := { s.mode with arming := none, armed := false, armBroken := false } }

/-- A bit of SHOW_BLOCK sets: an arming under way is abandoned at its next boundary, the bit clear again or not (R52). -/
def State.armBreak (s : State) : State :=
  if s.mode.arming.isSome then { s with mode := { s.mode with armBroken := true } } else s

/-- A command of class L is refused at its boundary: its state reads 3, and a reject record with DETAIL 2 is made (R487). -/
def State.refuseAt (s : State) (c : LCmd) (abort : Nat) : State :=
  (s.cmdState (Reg.key c.ix c.sub) 3).rejected c.ix c.sub c.org.source abort 2 c.effect

/-- Pending requests for SHOW end refused (R48). -/
def State.refuseShow (s : State) : State :=
  s.mode.showReqs.foldl (fun (s : State) c => s.refuseAt c 0x0107) { s with mode := { s.mode with showReqs := [] } }

/-- Requests for STAGING of this boundary end refused (R47, R48). -/
def State.refuseStaging (s : State) : State :=
  s.mode.stageReqs.foldl (fun (s : State) c => s.refuseAt c 0x0107) { s with mode := { s.mode with stageReqs := [] } }

/-- Entry to DARK (Table 2.4): the outputs go dark, arming stops, EV59 is raised. -/
def State.enterDark (s : State) (cause : Nat) : State :=
  let s := s.refuseShow.dropArming
  let s := { s with mode := { s.mode with darkRec := none, ropingEnd := none, toHoldover := none, toShow := false,
                                          termTicks := 3, darkNew := true } }
  (s.darkOutputs.setMode .dark cause).raise 59 (beBytes 1 cause)

/-- A DARK trigger (Table 2.4): taken at once from STAGING, SHOW and HOLDOVER, recorded in ROPING, nothing in DARK and
RESET. -/
def State.triggerDark (s : State) (cause : Nat) : State :=
  match s.mode.mode with
  | .reset | .dark => s
  | .roping => { s with mode := { s.mode with darkRec := some (s.mode.darkRec.getD cause) } }
  | .staging | .onShow | .holdover => s.enterDark cause

/-- The first entry to STAGING after RESET asks for the boot load, which waits for PD7 DRAM (R51, R84). -/
def State.askBootLoad (s : State) : State :=
  if s.topo.booted then s else { s with topo := { s.topo with booted := true, bootWait := true } }

/-- Entry to STAGING: outputs go to their STAGING state; PTP_WAIT is measured from here (R53). -/
def State.enterStaging (s : State) (cause : Nat) : State :=
  let s := s.dropArming
  let s := { s with mode := { s.mode with ropingEnd := none, toHoldover := none, toShow := false, termTicks := 3,
                                          ptpWaitAt := some s.clock.cclk } }
  (s.stagingOutputs.askBootLoad).setMode .staging cause

/-- Entry to HOLDOVER (Table 2.4): EV16, and holdover is measured from here (R47). -/
def State.enterHoldover (s : State) (cause : Nat) : State :=
  let s := { s with mode := { s.mode with toHoldover := none, toShow := false, holdAt := s.tick.time, ev17 := false } }
  (s.setMode .holdover cause).raise 16 (beBytes 1 cause)

/-! ### Faults -/

/-- Severity of a fault class (Table 15.1); 0xFF for the hard-wired classes (Table 15.7). -/
def severity (c : Nat) : Nat :=
  match c with
  | 0x01 | 0x02 | 0x05 | 0x06 | 0x17 | 0x1D => 3
  | 0x03 | 0x04 => 0xFF
  | 0x07 | 0x09 | 0x0B | 0x0C | 0x0D | 0x11 | 0x12 | 0x13 | 0x19 | 0x1E | 0x1F => 2
  | 0x0E | 0x16 => 0
  | _ => 1

/-- The reaction a capture of class `c` gets: its POLICY, with RESTART applied as DARK after three restarts (R431). -/
def State.reactionFor (s : State) (c : Nat) : Nat :=
  let p := s.policy c
  if p == 3 && s.belay.restartCap then 2 else p

/-- Is a fault of class `c` masked where the condition is the unit's own (Table 15.1)? -/
def State.maskedNow (s : State) (c : Nat) : Bool :=
  if c == 0x15 then s.mode.mode.shows && !s.mode.refLimit
  else if c == 0x16 then s.reg Reg.ropeMode == 0 && s.reg Reg.ringState == 1
  else false

/-- Does a fault of class `c` captured now take the first-fault latch: it is empty, or what it holds was captured in this very CCLK
and ranks behind, by severity and then by class code (R421)? -/
def State.takesLatch (s : State) (c : Nat) : Bool :=
  match s.belay.latch with
  | none => true
  | some x => s.belay.latchAt == s.clock.cclk && (decide (x.sev < severity c) || (x.sev == severity c && decide (c < x.cls)))

/-- Put a record in the first-fault latch when it may take it (R421); the record it displaces is latched no longer. -/
def State.fillLatch (s : State) (r : FaultRec) : State :=
  if s.takesLatch r.cls then
    let out := (s.belay.latch.map FaultRec.cls)
    let slots := s.belay.slots.map fun (x : FaultSlot) =>
      if some x.rcd.cls == out && bit x.rcd.flags 1 then { x with rcd := { x.rcd with flags := clearBit x.rcd.flags 1 } } else x
    { s with belay := { s.belay with latch := some r, latchAt := s.clock.cclk, slots := slots } }
  else s

/-- The record of a fault captured now. -/
def State.faultRec (s : State) (c reaction source detail : Nat) (masked injected : Bool) : FaultRec :=
  { cls := c, sev := severity c, reaction := reaction, count := 1, time := s.now, tick := s.tickIdx, frame := s.frame,
    mode := s.mode.mode.code,
    flags := (if injected then 16 else 0) + (if masked then 8 else 0) + (if s.takesLatch c then 2 else 0),
    source := source, detail := detail, lastTime := s.now, rseq := 0 }

/-- The wires of a capture (R422): FAULT_N for SIGNAL and above, the DARK outputs and the mode for DARK and RESTART. -/
def State.faultWires (s : State) (reaction : Nat) : State :=
  let now := some s.clock.cclk
  let s := if 1 ≤ reaction then { s with belay := { s.belay with unackSig := true, sigAt := now } } else s
  if 2 ≤ reaction then
    ({ s with belay := { s.belay with unackDark := true, darkAt := now, darkOut := true } }).triggerDark 3
  else s

/-- Capture a fault of class `c` (R421): a second occurrence while its record is pending or under way only counts. -/
def State.captureWith (s : State) (c source detail : Nat) (masked injected : Bool) : State :=
  if s.belay.slots.any fun x => x.rcd.cls == c then
    { s with belay := { s.belay with slots := s.belay.slots.map fun (x : FaultSlot) =>
        if x.rcd.cls == c then
          { x with rcd := { x.rcd with count := min (x.rcd.count + 1) (two32 - 1), lastTime := s.now } }
        else x } }
  else
    let reaction := if masked then 0 else s.reactionFor c
    let r := s.faultRec c reaction source detail masked injected
    let s := s.fillLatch r
    let s := { s with belay := { s.belay with
      slots := s.belay.slots ++ [({ rcd := r, stage := 0, order := s.clock.cclk } : FaultSlot)],
      maskedCls := if masked then setBit s.belay.maskedCls c else clearBit s.belay.maskedCls c } }
    s.faultWires reaction

/-- Capture a fault whose masking, if any, is the unit's own condition. -/
def State.capture (s : State) (c source detail : Nat) : State := s.captureWith c source detail (s.maskedNow c) false

/-- Class `c` becomes active (the last column of Table 15.1). -/
def State.setActive (s : State) (c : Nat) : State :=
  { s with belay := { s.belay with active := setBit s.belay.active c } }

/-- Class `c` stops being active. -/
def State.clearActive (s : State) (c : Nat) : State :=
  { s with belay := { s.belay with active := clearBit s.belay.active c, maskedCls := clearBit s.belay.maskedCls c } }

/-- The masking condition of class `c` ends: while the class is still active it is captured again, unmasked; when the masked
fault's reaction is still under way, the capture follows its end (R415). -/
def State.unmask (s : State) (c source detail : Nat) : State :=
  if bit s.belay.maskedCls c then
    let s := { s with belay := { s.belay with maskedCls := clearBit s.belay.maskedCls c } }
    if bit s.belay.active c && !(s.belay.slots.any fun x => x.rcd.cls == c) then s.captureWith c source detail false false
    else s
  else s

/-- The boot fails with fault class `c` (R51, R442): the unit stays in RESET with FAULT_N asserted, the class in the latch. With
BOOT_SEL 0b10 the boot ROM goes on accepting an image. -/
def State.bootFails (s : State) (c : Nat) : State :=
  let s := s.fillLatch { s.faultRec c 0xFF 0 0 false false with flags := 2 }
  { s with mode := { s.mode with boot := if s.mode.boot == .download then .download else .failed },
           belay := { s.belay with bootFail := true, active := setBit s.belay.active c } }

/-- Set the DARK latch (R434, R435): outputs off, FAULT_N, MODE DARK with LAST_CAUSE 11 from any mode but RESET; no
record, but the latch of the first fault takes the class. -/
def State.setDarkLatch (s : State) (c : Nat) : State :=
  let r : FaultRec := { s.faultRec c 0xFF 0 0 false false with flags := 3 }
  let s := s.fillLatch r
  let cause := if c == 3 then 1 else 2
  let s := { s with belay := { s.belay with latchDark := true, darkOut := true, hwCause := s.belay.hwCause ||| cause,
                                            active := setBit s.belay.active c } }
  let s := s.raise 58 (beBytes 1 s.belay.hwCause)
  match s.mode.mode with
  | .reset => s
  | .dark => s.setReg Reg.lastCause 11
  | .roping | .staging | .onShow | .holdover => s.enterDark 11

/-- The 64 bytes of a fault record (Table 15.7). -/
def FaultRec.bytes (r : FaultRec) : Bytes :=
  let b := beBytes 2 r.cls ++ beBytes 1 r.sev ++ beBytes 1 r.reaction ++ beBytes 4 r.count ++ beBytes 10 (time80 r.time) ++
    beBytes 8 r.tick ++ beBytes 8 r.frame ++ beBytes 1 r.mode ++ beBytes 1 r.flags ++ beBytes 4 r.source ++
    beBytes 8 r.detail ++ beBytes 10 (time80 r.lastTime) ++ beBytes 2 r.rseq
  b ++ beBytes 4 (crc32 b)

end Sys2Proof.Machine
end

