-- ==== Sys2Proof/Machine/Queues.lean ====
section
/-! DEFINITION. Pushing to and popping from linked queues and spill queues (R372 to R381): the operations that tasks, the
receive DMA and the dictionary share. -/

namespace Sys2Proof.Machine

/-! ### One linked queue -/

/-- Is a queue full (R371)? -/
def Queue.full (q : Queue) : Bool := decide (q.limit ≤ q.items.length)

/-- Free the oldest item, HEAD (R373). When it is the marked item the mark is lost and the retained items go (R377); those count
in no LOST, which R373 gives the item a push frees (DEDUCED, log 92). -/
def Queue.freeHead (q : Queue) : Queue :=
  match q.items with
  | [] => q
  | _ :: r =>
    let n := q.retained - 1
    if q.mark = 1 ∧ q.markAt = 0 then
      { q with items := r.drop n, retained := 0, mark := 2, markAt := 0, lost := min (q.lost + 1) (two32 - 1) }
    else { q with items := r, retained := n, markAt := q.markAt - 1, lost := min (q.lost + 1) (two32 - 1) }

/-- Link an item to the tail. -/
def Queue.append (q : Queue) (x : Bytes) : Queue :=
  let q := { q with items := q.items ++ [x], inBp := false }
  { q with high := max q.high q.items.length }

/-- Unlink the next item for a reader: a valid mark at or before it keeps it as RETAINED (R377). -/
def Queue.popItem (q : Queue) : Option (Bytes × Queue) :=
  match q.items.drop q.retained with
  | [] => none
  | x :: _ =>
    if q.mark = 1 ∧ q.markAt ≤ q.retained then some (x, { q with retained := q.retained + 1 })
    else some (x, { q with items := q.items.eraseIdx q.retained, markAt := q.markAt - 1 })

/-- Place the mark on the item `at_` places from HEAD; retained items before it are freed (R377). -/
def Queue.setMark (q : Queue) (at_ : Nat) : Queue :=
  let k := min at_ q.retained
  { q with items := q.items.drop k, retained := q.retained - k, mark := 1, markAt := at_ - k }

/-- Rewind: READ returns to MARK (R377). -/
def Queue.rewind (q : Queue) : Queue := { q with retained := 0 }

/-! ### Linked queues in the state -/

/-- The linked or receive queue of number `n`, when the model holds its items as bytes. -/
def State.queue? (s : State) (n : Nat) : Option Queue :=
  if n < 8 then s.q.rx[n]? else assocGet s.q.linked n

/-- Put queue `n` back. -/
def State.setQueue (s : State) (n : Nat) (q : Queue) : State :=
  if n < 8 then { s with q := { s.q with rx := s.q.rx.set n q } }
  else { s with q := { s.q with linked := assocSet s.q.linked n q } }

/-- Free cells queue `q` may allocate from: its own reserve, or the shared part (R369). -/
def State.cellsFor (s : State) (q : Queue) : Nat := if q.ownReserve then q.reserve - q.cells else s.poolFree

/-- Free items from HEAD until `need` cells are free and the queue is below its limit; `fuel` bounds the walk by the items
held. Answers the queue and how many items went (R373). -/
def Queue.makeRoom (fuel free need : Nat) (q : Queue) : Queue × Nat :=
  match fuel with
  | 0 => (q, 0)
  | k + 1 =>
    match q.items with
    | [] => (q, 0)
    | _ :: _ =>
      if q.full || decide (free < need) then
        let r := Queue.makeRoom k (free + (q.cells - q.freeHead.cells)) need q.freeHead
        (r.1, r.2 + 1)
      else (q, 0)

/-- A task takes an item passed straight to its stalled read. -/
def Task.takeItem (id : Nat) (x : Bytes) (t : Task) : Task :=
  if t.id == id && t.stalled then { t with stalled := false, hand := some x } else t

/-- Pass item `x` straight to the stalled read of task `id` (R375). -/
def State.giveTask (s : State) (id : Nat) (x : Bytes) : State :=
  { s with sched := { s.sched with engines := s.sched.engines.map fun e =>
      { e with run := e.run.map (Task.takeItem id x), biv := e.biv.map (Task.takeItem id x) } } }

/-- What a push did. -/
inductive PushRes where
  | pushed | bypassed (task : Nat) | refused | dropped
  deriving DecidableEq, Repr

/-- EV31 when a push lost the mark of queue `n` (R377). -/
def State.markEvent (s : State) (n : Nat) (before after : Queue) : State :=
  if before.mark = 1 ∧ after.mark = 2 then s.raise 31 (beBytes 2 n) else s

/-- Push `x` to linked queue `n` (R372, R373, R375): by bypass to a stalled reader, to the tail, refused by a full HOLD
queue with EV33 at the first refusal, or overwriting the oldest items of an OVERWRITE queue with EV32. -/
def State.push (s : State) (n : Nat) (x : Bytes) : PushRes × State :=
  match s.queue? n with
  | none => (.dropped, s)
  | some q =>
    match q.depth, q.readers with
    | 0, r :: rs => (.bypassed r.task, (s.setQueue n { q with readers := rs, inBp := false }).giveTask r.task x)
    | _, _ =>
      let need := cellsOf x.length
      if q.hold then
        if q.full || decide (s.cellsFor q < need) then
          let s := s.setQueue n { q with bp := min (q.bp + 1) (two64 - 1), inBp := true }
          (.refused, if q.inBp then s else s.raise 33 (beBytes 2 n))
        else (.pushed, (s.setQueue n (q.append x)).poolCheck)
      else
        let r := Queue.makeRoom q.items.length (s.cellsFor q) need q
        let fits := decide (need ≤ s.cellsFor q + (q.cells - r.1.cells)) && !r.1.full
        let lost := r.2 + (if fits then 0 else 1)
        let q' := if fits then r.1.append x else { r.1 with lost := min (r.1.lost + 1) (two32 - 1) }
        let s := (s.setQueue n q').markEvent n q r.1
        let s := if lost = 0 then s else s.raiseLoss 32 n lost (beBytes 2 n ++ beBytes 4 lost)
        (if fits then .pushed else .dropped, s.poolCheck)

/-- Pop the next item of linked queue `n`. -/
def State.pop (s : State) (n : Nat) : Option (Bytes × State) :=
  match s.queue? n with
  | none => none
  | some q =>
    match q.popItem with
    | none => none
    | some (x, q') => some (x, (s.setQueue n q').poolCheck)

/-- The receive DMA's push (R302): a frame that finds its queue at its limit or no shared cell free is dropped and counted
in the port's RX_QUEUE_DROPS. -/
def State.rxPush (s : State) (port n : Nat) (x : Bytes) : State :=
  match s.queue? n with
  | none => s.incReg (Reg.cntRxQueueDrops port)
  | some q =>
    match q.depth, q.readers with
    | 0, r :: rs => (s.setQueue n { q with readers := rs }).giveTask r.task x
    | _, _ =>
      if q.full || decide (s.poolFree < cellsOf x.length) then s.incReg (Reg.cntRxQueueDrops port)
      else (s.setQueue n (q.append x)).poolCheck

/-! ### Spill queues -/

/-- Items of a spill queue (R380). -/
def Spill.depth (q : Spill) : Nat := q.head.length + q.ringN + q.tail.length

/-- While the ring is empty and the head registers have room, entries move from tail to head (R380). -/
def Spill.settle (q : Spill) : Spill :=
  if q.ringN = 0 then
    let k := min (16 - q.head.length) q.tail.length
    { q with head := q.head ++ q.tail.take k, tail := q.tail.drop k }
  else q

/-- An OVERWRITE spill queue that is full loses its oldest head entry (R380). -/
def Spill.dropHead (q : Spill) : Spill := { q with head := q.head.drop 1, lost := min (q.lost + 1) (two32 - 1) }

/-- Append an item to the tail registers. -/
def Spill.append (q : Spill) (x : Bytes) : Spill :=
  let q := ({ q with tail := q.tail ++ [x], inBp := false } : Spill).settle
  { q with high := max q.high q.depth }

/-- Put spill queue `n` (0 to 31) back. -/
def State.setSpill (s : State) (n : Nat) (q : Spill) : State :=
  { s with q := { s.q with spills := assocSet s.q.spills n q } }

/-- SPILL_BURST_WRITE: four tail entries of spill queue `n` go to the DRAM ring as one burst (R380). -/
def State.spillBurst (s : State) (n : Nat) : State :=
  match assocGet s.q.spills n with
  | none => s
  | some q =>
    if q.tail.length < 4 then s
    else
      let at_ := fun i => q.base + ((q.ringAt + q.ringN + i) % q.limit) * 64
      let s := (List.range 4).foldl (fun t i => t.ramWrite true (at_ i) (q.tail.getD i [])) s
      s.setSpill n { q with tail := q.tail.drop 4, ringN := q.ringN + 4 }

/-- SPILL_READBACK: up to four entries of the ring come back into the head registers (R380), and a waiting POP or read takes
the first. -/
def State.spillReadback (s : State) (n : Nat) : State :=
  match assocGet s.q.spills n with
  | none => s
  | some q =>
    if q.ringN = 0 ∨ 12 < q.head.length then s
    else
      let k := min 4 q.ringN
      let items := (List.range k).map fun i => s.ramRead true (q.base + ((q.ringAt + i) % q.limit) * 64) 64
      s.setSpill n ({ q with head := q.head ++ items, ringAt := (q.ringAt + k) % q.limit, ringN := q.ringN - k } : Spill).settle

/-- The POP of `o` on window `ix` ends: its request takes the result, or it is returned at once. -/
def State.popResult (s : State) (o : Origin) (ix status : Nat) (val : Bytes) : State :=
  let mine := fun (j : Job) => j.org == o && j.ix == ix && j.got.isNone
  match s.ctl.jobs.find? mine with
  | some j =>
    { s with ctl := { s.ctl with jobs := s.ctl.jobs.map fun (x : Job) => if x = j then { x with got := some (status, val) } else x } }
  | none => s.send (.result o status ix 2 (if val.isEmpty then 0 else 0x0D) val)

/-- Push a 64-byte item to spill queue `n` (R380, R381): a waiting POP takes it straight, a full HOLD queue refuses it, a full
OVERWRITE queue loses its oldest. A push that finds 16
tail entries waits for their burst first. The flag says that it was accepted. -/
def State.spillPush (s : State) (n : Nat) (x : Bytes) : Bool × State :=
  let s := if 16 ≤ ((assocGet s.q.spills n).map fun q => q.tail.length).getD 0 then s.spillBurst n else s
  match assocGet s.q.spills n with
  | none => (false, s)
  | some q =>
    match q.depth, q.waits with
    | 0, .pop o _ :: ws => (true, (s.setSpill n { q with waits := ws, inBp := false }).popResult o (0x8C00 + n) 0 x)
    | 0, .task r :: ws => (true, (s.setSpill n { q with waits := ws, inBp := false }).giveTask r.task x)
    | _, _ =>
      if q.limit ≤ q.depth then
        if q.hold then
          let s := s.setSpill n { q with bp := min (q.bp + 1) (two64 - 1), inBp := true }
          (false, if q.inBp then s else s.raise 33 (beBytes 2 (992 + n)))
        else
          let s := s.setSpill n (q.dropHead.append x)
          (true, s.raiseLoss 32 (992 + n) 1 (beBytes 2 (992 + n) ++ beBytes 4 1))
      else (true, s.setSpill n (q.append x))

/-- The spill queue of queue number `n`, 992 and above. -/
def State.spill? (s : State) (n : Nat) : Option Spill := if 992 ≤ n then assocGet s.q.spills (n - 992) else none

/-- Push `x` to queue `n`, linked or spill; the flag says that it was accepted. -/
def State.pushAny (s : State) (n : Nat) (x : Bytes) : Bool × State :=
  if 992 ≤ n then s.spillPush (n - 992) (slice x 0 64)
  else
    match s.push n x with
    | (.refused, t) => (false, t)
    | (_, t) => (true, t)

/-- Pop the oldest item of spill queue `n`; with the head registers empty it waits for the read-back (R380). -/
def State.spillPop (s : State) (n : Nat) : Option (Bytes × State) :=
  let s := if ((assocGet s.q.spills n).map fun q => q.head.isEmpty).getD false then s.spillReadback n else s
  match assocGet s.q.spills n with
  | none => none
  | some q =>
    match q.head with
    | [] => none
    | x :: r => some (x, s.setSpill n ({ q with head := r } : Spill).settle)

/-- Pop the next item of queue `n`, linked or spill. -/
def State.popAny (s : State) (n : Nat) : Option (Bytes × State) :=
  if 992 ≤ n then s.spillPop (n - 992) else s.pop n

/-- Items a read of queue `n` could take, the spill ring's among them. -/
def State.depthOf (s : State) (n : Nat) : Nat :=
  match s.spill? n with
  | some q => q.depth
  | none => ((s.queue? n).map Queue.depth).getD 0

/-- A task's read of the empty queue `n` stalls (R376). -/
def State.stallOn (s : State) (n : Nat) (r : Reader) : State :=
  match s.spill? n with
  | some q => s.setSpill (n - 992) { q with waits := q.waits ++ [.task r] }
  | none =>
    match s.queue? n with
    | some q => s.setQueue n { q with readers := q.readers ++ [r] }
    | none => { s with q := { s.q with devWaits := s.q.devWaits ++ [(n, r)] } }

/-- The read of task `id` on queue `n` ends. -/
def State.unstall (s : State) (n id : Nat) : State :=
  match s.spill? n with
  | some q => s.setSpill (n - 992) { q with waits := q.waits.filter fun w =>
      match w with
      | .pop _ _ => true
      | .task r => r.task != id }
  | none =>
    match s.queue? n with
    | some q => s.setQueue n { q with readers := q.readers.filter fun r => r.task != id }
    | none => { s with q := { s.q with devWaits := s.q.devWaits.filter fun p => p.2.task != id } }

/-- The boundary at which the stalled read of task `id` on queue `n` ends; none while it waits without limit. -/
def State.stallEnd (s : State) (n id : Nat) : Option Nat :=
  let rs : List Reader :=
    match s.spill? n with
    | some q => q.waits.filterMap fun w =>
        match w with
        | .pop _ _ => none
        | .task r => some r
    | none => ((s.queue? n).map Queue.readers).getD (s.q.devWaits.map Prod.snd)
  ((rs.find? fun r => r.task == id).map Reader.until_).getD none

end Sys2Proof.Machine
end

