-- ==== Sys2Proof/Machine/Tx.lean ====
section
/-! DEFINITION. Transmission: what leaves a port, and when it does not (R294, R298, R301), and time-stamps (R304, R305). -/

namespace Sys2Proof.Machine

/-- Port `p` of the three. -/
def State.port (s : State) (p : Nat) : PortSt := s.ports.getD p {}

/-- Put port `p` back. -/
def State.setPort (s : State) (p : Nat) (x : PortSt) : State := { s with ports := s.ports.set p x }

/-- LINK_STATE of port `p` is 1, up (R289). -/
def State.portUp (s : State) (p : Nat) : Bool := s.reg (Reg.portLinkState p) == 1

/-- State of rope link `p`, 0 for ROPE-A and 1 for ROPE-B (Table 11.6). -/
def State.linkState (s : State) (p : Nat) : Nat := s.reg (if p = 0 then Reg.linkAState else Reg.linkBState)

/-- Is a port down for R298: not up, or a rope link DOWN or BROKEN (R318)? -/
def State.txDown (s : State) (p : Nat) : Bool :=
  !s.portUp p || (decide (p < 2) && (s.linkState p == 0 || s.linkState p == 4))

/-- Is transmission of port `p` held by a PAUSE (R301)? -/
def State.txPaused (s : State) (p : Nat) : Bool := (s.port p).pauseEnd.isSome

/-- Count a frame of `len` bytes that leaves port `p`; a frame shorter than 64 bytes is padded (R294). -/
def State.txCount (s : State) (p len : Nat) : State :=
  (s.incReg (Reg.cntTxFrames p)).addReg64 (Reg.cntTxOctets p) (max 64 len)

/-- A stamp enters the port's time-stamp queue (R304): OVERWRITE, TSQ_DEPTH long; an overwritten stamp counts in TSQ_LOST
and raises EV20 (R305). -/
def State.stamp (s : State) (p : Nat) (x : Stamp) : State :=
  let old := (s.port p).tsq
  let q := pushRecord (s.reg (Reg.portTsqDepth p)) s.poolFree old x
  let s := s.setPort p { s.port p with tsq := q.1, lost := (old.take q.2 ++ (s.port p).lost).take 64 }
  let s := ((s.maxReg (Reg.tsqTsqHigh p) q.1.length).addReg (Reg.tsqTsqLost p) q.2).poolCheck
  if q.2 = 0 then s else s.raiseLoss 20 (16 + p) q.2 (beBytes 1 p ++ beBytes 4 q.2)

/-- TSLAT_TX and TSLAT_RX of port `p` in ps, as applied. -/
def State.txLatency (s : State) (p : Nat) : Nat := s.cal.applied.tslat.getD (2 * p) 0
def State.rxLatency (s : State) (p : Nat) : Nat := s.cal.applied.tslat.getD (2 * p + 1) 0

/-- The stamp of something received or sent now on port `p`, referred to the port's balls: egress advanced by TSLAT_TX, ingress moved
back by TSLAT_RX (R257). -/
def State.rxTime (s : State) (p : Nat) : Nat := s.now - s.rxLatency p / 1000
def State.txTime (s : State) (p : Nat) : Nat := s.now + s.txLatency p / 1000

/-- The same instants in ps. -/
def State.txPs (s : State) (p : Nat) : Nat := s.now * 1000 + s.txLatency p
def State.rxPs (s : State) (p : Nat) : Nat := s.now * 1000 - s.rxLatency p

/-- A PTP event message (kinds 0 to 3) that leaves port `p` now is stamped (R304); the stamp is t3 of a Delay_Req and t1 of a
Pdelay_Req (R267, R272). -/
def State.stampOut (s : State) (p : Nat) : Output → State
  | .ptp _ m _ =>
    if 4 ≤ m.kind then s
    else
      let t := s.stamp p { time := s.txTime p, kind := 2, msg := m.kind, seq := m.seq }
      match m.kind with
      | 1 => { t with ptp := { t.ptp with delayT3 := some (s.txPs p) } }
      | 2 => { t with ptp := { t.ptp with pdelay := t.ptp.pdelay.set p { t.ptp.pdelay.getD p {} with t1 := s.txPs p } } }
      | _ => t
  | _ => s

/-- A frame of `len` bytes, shown as `o`, leaves port `p` now. -/
def State.txNow (s : State) (p len : Nat) (o : Output) : State := ((s.txCount p len).stampOut p o).send o

/-- Send a frame on port `p`: discarded for a down port (R298), waiting while a PAUSE holds the port (R301), otherwise sent. -/
def State.txAny (s : State) (p len : Nat) (o : Output) : State :=
  if s.txDown p then s.incReg (Reg.cntTxDiscards p)
  else if s.txPaused p then s.setPort p { s.port p with waiting := (s.port p).waiting ++ [(len, o)] }
  else s.txNow p len o

/-- Send a frame that the unit builds: none longer than the port's MAX_FRAME is built (R294). -/
def State.tx (s : State) (p len : Nat) (o : Output) : State :=
  if s.reg (Reg.portMaxFrame p) < len then s else s.txAny p len o

/-- As `tx`, for heartbeats, which a rope port that is up sends in every link state (R317). -/
def State.txLink (s : State) (p len : Nat) (o : Output) : State :=
  if !s.portUp p then s
  else if s.txPaused p then s.setPort p { s.port p with waiting := (s.port p).waiting ++ [(len, o)] }
  else s.txNow p len o

/-- Transmission resumes: what waited leaves in order. -/
def State.txResume (s : State) (p : Nat) : State :=
  let x := s.port p
  x.waiting.foldl (fun t w => t.txNow p w.1 w.2) (s.setPort p { x with pauseEnd := none, waiting := [] })

/-- Is `t` the stamp of a message by kind, message and sequence number? -/
def Stamp.isOf (t : Stamp) (kind msg seq : Nat) : Bool := t.kind == kind && t.msg == msg && t.seq == seq

/-- Take the stamp of a message from port `p`: from its time-stamp queue, or from those read before (R272). -/
def State.takeStamp (s : State) (p kind msg seq : Nat) : Option Nat × State :=
  let x := s.port p
  let hit := fun t : Stamp => t.isOf kind msg seq
  match x.tsq.find? hit, x.read.find? hit with
  | some t, _ => (some t.time, s.setPort p { x with tsq := x.tsq.eraseP hit })
  | none, some t => (some t.time, s.setPort p { x with read := x.read.eraseP hit })
  | none, none => (none, s)

/-- Has the stamp of a message been overwritten in the queue (R305)? -/
def State.stampLost (s : State) (p kind msg seq : Nat) : Bool := (s.port p).lost.any fun t => t.isOf kind msg seq

/-- Device firmware reads the time-stamp queues (R304): it keeps the stamps whose messages it has still to handle, received Syncs and
video packets. The spec gives no instant of it; the model takes every boundary (DESIGN CHOICE, log 89). -/
def State.readStamps (s : State) : State :=
  (List.range 3).foldl (fun (s : State) p =>
    let x := s.port p
    let keep := x.tsq.filter fun t => (t.kind == 1 && t.msg == 0) || t.kind == 3
    if x.tsq.isEmpty then s else s.setPort p { x with tsq := [], read := (keep ++ x.read).take 4096 }) s

/-- Draw a signed free value: a number the specification leaves open (assumption log 3). -/
def State.drawInt (s : State) : Int × State :=
  match s.oracle with
  | x :: r => (x, { s with oracle := r })
  | [] => (Config.freeInt s.freeCount, s.drew)

/-- Draw a free word of `b` bits. -/
def State.drawWord (s : State) (b : Nat) : Nat × State :=
  match s.oracle with
  | x :: r => (x.toNat % 2 ^ b, { s with oracle := r })
  | [] => (Config.freeWord s.freeCount % 2 ^ b, s.drew)

/-- Draw a random word of `b` bits from the on-die generator (R350, R351). -/
def State.drawRandom (s : State) (b : Nat) : Nat × State :=
  match s.oracle with
  | x :: r => (x.toNat % 2 ^ b, { s with oracle := r })
  | [] => (Config.freeRandom s.freeCount % 2 ^ b, s.drew)

end Sys2Proof.Machine
end

