-- ==== Sys2Proof/Machine/DevQ.lean ====
section
/-! DEFINITION. The device queues of records (Table 13.2): the bytes of a record, and taking the oldest. -/

namespace Sys2Proof.Machine

/-- Capture input `k`. -/
def State.eci (s : State) (k : Nat) : EciSt := s.tio.ecis.getD k {}

/-- Put capture input `k` back. -/
def State.setEci (s : State) (k : Nat) (x : EciSt) : State :=
  { s with tio := { s.tio with ecis := s.tio.ecis.set k x } }

/-- The 32 bytes of a trace record (Table 14.2). -/
def TraceRec.bytes (r : TraceRec) : Bytes :=
  beBytes 8 r.tick ++ beBytes 4 r.cycle ++ beBytes 1 r.engine ++ beBytes 1 r.dec ++ beBytes 1 r.list ++ beBytes 1 r.slot ++
    beBytes 4 r.task ++ beBytes 1 r.ty ++ beBytes 1 r.cb ++ beBytes 2 r.status ++ beBytes 4 r.prog ++ beBytes 4 0

/-- The bytes of a response, as RDM_RESP reads them. -/
def RdmResp.bytes (r : RdmResp) : Bytes :=
  beBytes 1 r.port ++ beBytes 6 r.uid ++ beBytes 1 r.status ++ beBytes 1 r.cc ++ beBytes 2 r.pid ++
    beBytes 1 r.data.length ++ r.data

/-- The 16 bytes of a capture record (Table 9.11). -/
def CapRec.bytes (r : CapRec) : Bytes :=
  beBytes 10 (time80 r.time) ++ beBytes 1 r.edge ++ beBytes 1 r.flags ++ beBytes 4 r.tick

/-- The 16 bytes of a diagnostic record before the frame (Table 10.5), and the frame. -/
def DiagRec.bytes (r : DiagRec) : Bytes :=
  beBytes 2 r.flags ++ beBytes 2 r.len ++ beBytes 10 (time80 r.time) ++ beBytes 2 r.snap.length ++ r.snap

/-- The 16 bytes of a time-stamp record (Table 10.6). -/
def Stamp.bytes (t : Stamp) : Bytes :=
  beBytes 10 (time80 t.time) ++ beBytes 1 t.kind ++ beBytes 1 t.msg ++ beBytes 2 t.seq ++ beBytes 2 0

/-- The oldest of a list, as bytes, and the rest; an empty list gives no bytes. -/
def oldest {α : Type} (f : α → Bytes) (l : List α) : Bytes × List α :=
  match l with
  | [] => ([], [])
  | x :: r => (f x, r)

/-- Take the oldest record of device queue `n`, 16 to 27 or 52 to 55; no bytes when it is empty. -/
def State.takeDevice (s : State) (n : Nat) : Bytes × State :=
  match n with
  | 22 =>
    let q := oldest EvRec.bytes s.ev.queue
    (q.1, { s with ev := { s.ev with queue := q.2 } })
  | 23 =>
    let q := oldest TraceRec.bytes s.sched.trace
    (q.1, { s with sched := { s.sched with trace := q.2 } })
  | 24 =>
    let q := oldest FaultRec.bytes s.belay.queue
    let used := s.q.belayUsed - (if q.1.isEmpty then 0 else 1)
    (q.1, { s with belay := { s.belay with queue := q.2 }, q := { s.q with belayUsed := used } })
  | 25 =>
    let q := oldest ClampRec.bytes s.report.clamps
    (q.1, { s with report := { s.report with clamps := q.2 } })
  | 26 =>
    let q := oldest RejectRec.bytes s.report.rejects
    (q.1, { s with report := { s.report with rejects := q.2 } })
  | 27 =>
    let q := oldest RdmResp.bytes s.egress.resp
    (q.1, { s with egress := { s.egress with resp := q.2 } })
  | n =>
    if 52 ≤ n then
      let q := oldest CapRec.bytes (s.eci (n - 52)).queue
      (q.1, s.setEci (n - 52) { s.eci (n - 52) with queue := q.2 })
    else if 19 ≤ n then
      let q := oldest DiagRec.bytes (s.port (n - 19)).diag
      (q.1, s.setPort (n - 19) { s.port (n - 19) with diag := q.2 })
    else
      let q := oldest Stamp.bytes (s.port (n - 16)).tsq
      (q.1, s.setPort (n - 16) { s.port (n - 16) with tsq := q.2 })

/-- Does device queue `n` hold records that a task can read? -/
def recordQueueNo (n : Nat) : Bool := (decide (16 ≤ n) && decide (n ≤ 27)) || (decide (52 ≤ n) && decide (n ≤ 55))

/-- Items a read of queue `n` could take: the ring of a spill queue and the records of a device queue among them. -/
def State.itemsIn (s : State) (n : Nat) : Nat :=
  if !recordQueueNo n then s.depthOf n
  else
    match n with
    | 22 => s.ev.queue.length
    | 23 => s.sched.trace.length
    | 24 => s.belay.queue.length
    | 25 => s.report.clamps.length
    | 26 => s.report.rejects.length
    | 27 => s.egress.resp.length
    | n =>
      if 52 ≤ n then (s.eci (n - 52)).queue.length
      else if 19 ≤ n then (s.port (n - 19)).diag.length
      else (s.port (n - 16)).tsq.length

/-- A task's pop of queue `n`, whatever its kind. -/
def State.popIn (s : State) (n : Nat) : Option (Bytes × State) :=
  if !recordQueueNo n then s.popAny n
  else if s.itemsIn n = 0 then none
  else
    let r := s.takeDevice n
    some (r.1, r.2.poolCheck)

end Sys2Proof.Machine
end

