-- ==== Sys2Proof/Machine/Sched.lean ====
section
/-! DEFINITION. The task scheduler, the carabiners and the arbiter (R386 to R414): releases, prefetch, dispatch, the ends of
tasks, cancellation, faults, grants. -/

namespace Sys2Proof.Machine

/-! ### Descriptors (Table 3.10) -/

/-- TYPE. -/
def dType (d : Bytes) : Nat := field d 0 1
/-- ENGINES. -/
def dEngines (d : Bytes) : Nat := field d 2 2
/-- IN_QUEUE. -/
def dIn (d : Bytes) : Nat := field d 4 2
/-- OUT_QUEUE. -/
def dOut (d : Bytes) : Nat := field d 6 2
/-- CARABINER. -/
def dCb (d : Bytes) : Nat := field d 8 1
/-- STALL_TICKS. -/
def dStall (d : Bytes) : Nat := field d 12 4
/-- SRC. -/
def dSrc (d : Bytes) : Nat := field d 16 8
/-- DST. -/
def dDst (d : Bytes) : Nat := field d 24 8
/-- LENGTH. -/
def dLen (d : Bytes) : Nat := field d 32 4
/-- A field of PARAM. -/
def dParam (d : Bytes) (off n : Nat) : Nat := field d (36 + off) n

/-- The address of a SRC or DST: the space, true for DRAM, and the byte address. -/
def addrOf (v : Nat) : Bool × Nat := (bit v 63, v % 2 ^ 63)

/-- Does an engine of the general group execute TYPE `ty` (Table 14.1)? -/
def typeGeneral (ty : Nat) : Bool := decide (ty ≤ 14)
/-- Does an engine of the packet group execute TYPE `ty`? -/
def typePacket (ty : Nat) : Bool := ty == 0 || ty == 8 || ty == 11 || ty == 14 || (decide (15 ≤ ty) && decide (ty ≤ 23))

/-- The checks of a descriptor's references (R79), each with the offset of its field, over region sizes in MB, DRAM bytes and the
queues that exist. The DST range of a CRC32 descriptor is checked over the 4 bytes it writes or LENGTH bytes, whichever are fewer
(DESIGN CHOICE, log 82). -/
def descFields (regions : List Nat) (dram : Nat) (queueOk : Nat → Bool) (d : Bytes) : List (Nat × Bool) :=
  let m := dEngines d
  let gen := m % 4096
  let pkt := m / 4096
  let src := addrOf (dSrc d)
  let dst := addrOf (dDst d)
  [(0, decide (dType d ≤ 23)),
   (2, m != 0 && (gen == 0 || pkt == 0) && (gen == 0 || typeGeneral (dType d)) && (pkt == 0 || typePacket (dType d))),
   (4, dIn d == 0xFFFF || queueOk (dIn d)), (6, dOut d == 0xFFFF || queueOk (dOut d)), (8, dCb d == 0xFF || decide (dCb d ≤ 63)),
   (16, rangeOk regions dram src.1 src.2 (dLen d)),
   (24, rangeOk regions dram dst.1 dst.2 (if dType d = 3 then min 4 (dLen d) else dLen d))]

/-- The range check of a descriptor (R79). -/
def descOk (regions : List Nat) (dram : Nat) (queueOk : Nat → Bool) (d : Bytes) : Bool :=
  (descFields regions dram queueOk d).all Prod.snd

/-- Does queue `n` exist: a device queue, or one the active topo declares (R370)? -/
def State.queueDeclared (s : State) (n : Nat) : Bool :=
  decide (n < 56) || (assocGet s.q.linked n).isSome || (s.spill? n).isSome

/-- A section of the active topo, 0 bytes when it has none. -/
def State.activeSec (s : State) (ty : Nat) : Bytes :=
  match s.topo.active with
  | some t => (assocGet t.sections ty).getD []
  | none => []

/-- The Hearth address of descriptor `n`. -/
def State.descAt (s : State) (n : Nat) : Nat := s.regionAt 7 + (s.activeSec 2).length + 64 * n

/-- Descriptor `n`, as the plan-and-descriptor region of the Hearth holds it: behind the plan (the order within the region is a DESIGN
CHOICE, log 61). -/
def State.descRow (s : State) (n : Nat) : Bytes := s.ramRead false (s.descAt n) 64

/-- Descriptors the active topo holds. -/
def State.descCount (s : State) : Nat := (s.activeSec 3).length / 64

/-- Release entry `n` of the plan in force (Table 3.8), as the Hearth holds it. -/
def State.planEntry (s : State) (n : Nat) : Bytes := s.ramRead false (s.regionAt 7 + 32 + 16 * n) 16

/-- Release entries of the active plan. -/
def State.planCount (s : State) : Nat := field (s.activeSec 2) 4 4

/-! ### Engines -/

/-- Engine `e`. -/
def State.engine (s : State) (e : Nat) : Engine := s.sched.engines.getD e {}

/-- Put engine `e` back. -/
def State.setEngine (s : State) (e : Nat) (x : Engine) : State :=
  { s with sched := { s.sched with engines := s.sched.engines.set e x } }

/-- Every task ready, in flight or suspended. -/
def State.tasks (s : State) : List Task :=
  s.sched.ready.flatten ++ s.sched.engines.flatMap fun e => e.run.toList ++ e.biv

/-- Every task in flight: prefetched, running or suspended (R386). -/
def State.inFlight (s : State) : List Task := s.sched.engines.flatMap fun e => e.run.toList ++ e.biv

/-- Refused CCLK, not yet counted, of the push that the running task `t` makes to queue `n` (R372). -/
def Task.bpLate (t : Task) (n now : Nat) : Nat :=
  match t.blocked with
  | some b => if dOut t.row = n then now - b.2 else 0
  | none => 0

/-- Refused CCLK, not yet counted, of the pushes that wait on queue `n`. A suspended task pushes nothing meanwhile. -/
def State.bpLate (s : State) (n : Nat) : Nat :=
  (s.sched.engines.map fun e => ((e.run.map fun t => t.bpLate n s.clock.cclk)).getD 0).sum

/-- Count the refused CCLK of the pushes that wait on queue `n` up to now (Q_BP_CYCLES). -/
def State.bpSettle (s : State) (n : Nat) : State :=
  let k := s.bpLate n
  let fresh := fun (t : Task) => if dOut t.row = n then { t with blocked := t.blocked.map fun b => (b.1, s.clock.cclk) } else t
  let s := { s with sched := { s.sched with engines := s.sched.engines.map fun (e : Engine) => { e with run := e.run.map fresh } } }
  match s.spill? n with
  | some q => s.setSpill (n - 992) { q with bp := min (q.bp + k) (two64 - 1) }
  | none =>
    match s.queue? n with
    | some q => s.setQueue n { q with bp := min (q.bp + k) (two64 - 1) }
    | none => s

/-- Is `a` before `b` in a bivouac: higher priority, or older between equals (R393)? -/
def Task.before (a b : Task) : Bool := decide (a.list < b.list) || (a.list == b.list && decide (a.order ≤ b.order))

/-- Put a task in its place among the bivouac slots. -/
def bivInsert (t : Task) : List Task → List Task
  | [] => [t]
  | x :: r => if t.before x then t :: x :: r else x :: bivInsert t r

/-! ### The trace (R400) -/

/-- Make a trace record of decision `dec`; a routine decision only for a descriptor with TRACE, while TRACE_EN is 1. -/
def State.trace (s : State) (engine dec slot status : Nat) (t : Task) : State :=
  let routine := decide (dec ≤ 7) || dec == 0x11
  if routine && !(bit (field t.row 1 1) 0 && s.flag Reg.traceEn) then s
  else
    let r : TraceRec :=
      { tick := s.tickIdx, cycle := s.clock.cclk - s.tick.cclk, engine := engine, dec := dec, list := t.list,
        slot := slot, task := t.id, ty := dType t.row, cb := dCb t.row, status := status, prog := t.prog }
    let q := pushRecord 4096 s.poolFree s.sched.trace r
    let s := ((({ s with sched := { s.sched with trace := q.1 } }).seeDepth 23 q.1.length).addReg Reg.traceLost q.2).poolCheck
    if q.2 = 0 then s else s.raiseLoss 37 23 q.2 (beBytes 4 q.2)

/-! ### Carabiners (R406 to R411) -/

/-- Carabiner `c`. -/
def State.cb (s : State) (c : Nat) : Carab := s.carabs.cbs.getD c {}

/-- Put carabiner `c` back. -/
def State.setCb (s : State) (c : Nat) (x : Carab) : State :=
  { s with carabs := { s.carabs with cbs := s.carabs.cbs.set c x } }

/-- OWNER_KIND (Table 14.7). -/
def CbOwner.kind : CbOwner → Nat
  | .task _ => 1 | .core _ => 2 | .session _ => 3 | .localPort => 4

/-- OWNER_ID. -/
def CbOwner.idOf : CbOwner → Nat
  | .task n => n | .core n => n | .session n => n | .localPort => 0

/-- The holder an origin is. -/
def Origin.holder : Origin → CbOwner
  | .session i => .session i
  | .localPort => .localPort

/-- A bit mask of the carabiners that satisfy `p`. -/
def State.cbMask (s : State) (p : Carab → Bool) : Nat :=
  ((List.range 64).zip s.carabs.cbs).foldl (fun a x => if p x.2 then a + 2 ^ x.1 else a) 0

/-- Force-release carabiner `c` (R410): FREE and BROKEN, EV38 with the former owner and a cause the specification does not
number (assumption log 3). -/
def State.breakCb (s : State) (c : Nat) : State :=
  let own := (s.cb c).owner
  let s := (s.setCb c { broken := true }).incReg Reg.breaks_8B00
  let d := s.drawWord 8
  d.2.raise 38 (beBytes 1 c ++ beBytes 1 ((own.map CbOwner.kind).getD 0) ++ beBytes 4 ((own.map CbOwner.idOf).getD 0) ++
    beBytes 1 d.1)

/-- TASK_FAULT's event (R399, R408): EV36 with the TASK_ID and a cause the specification does not number. -/
def State.taskFaultEvent (s : State) (id : Nat) : State :=
  let d := s.drawWord 8
  d.2.raise 36 (beBytes 4 id ++ beBytes 1 d.1)

/-! ### Starting a task (R394, R408) -/

/-- Move the head of engine `e`'s bivouac to RUN: a suspended task resumes, a task without a carabiner or with a free one
starts, one whose carabiner is held waits, one whose carabiner is broken ends CHECK_FAILED without doing its work. -/
def State.startHead (s : State) (e : Nat) : State :=
  let x := s.engine e
  match x.run, x.biv with
  | none, t :: rest =>
    if t.suspended then
      let t := { t with suspended := false, resumed := true, blocked := t.blocked.map fun b => (b.1, s.clock.cclk) }
      (s.setEngine e { x with run := some t, biv := rest }).trace e 6 0 0 t
    else
      let c := dCb t.row
      let go := fun (s : State) =>
        let t := { t with waiting := false }
        ((s.setEngine e { x with run := some t, biv := rest }).incReg Reg.dispatches).trace e 3 0 0 t
      if 64 ≤ c then go s
      else
        match (s.cb c).owner, (s.cb c).broken with
        | some _, _ =>
          if t.waiting then s
          else
            let t := { t with waiting := true }
            (s.setEngine e { x with biv := t :: rest }).trace e 0x0F 1 0 t
        | none, true =>
          ((s.setEngine e { x with biv := rest }).trace e 0x10 0 0x0107 { t with waiting := false }).taskFaultEvent t.id
        | none, false => go (s.setCb c { s.cb c with owner := some (.task t.id) })
  | _, _ => s

/-- Carabiner `c` is free: task engines that wait on it take it in engine order (R411). -/
def State.serveCb (s : State) (c : Nat) : State :=
  (List.range 16).foldl (fun s e =>
    match (s.engine e).run, (s.engine e).biv with
    | none, t :: _ => if t.waiting && dCb t.row == c then s.startHead e else s
    | _, _ => s) s

/-- A holder lets carabiner `c` go; `broken` is what BROKEN becomes. -/
def State.freeCb (s : State) (c : Nat) (broken : Bool) : State := (s.setCb c { broken := broken }).serveCb c

/-- Force-release carabiner `c`, and let a waiting task have it. -/
def State.forceCb (s : State) (c : Nat) : State := (s.breakCb c).serveCb c

/-- Force-release every carabiner that `own` holds (R410). -/
def State.forceAll (s : State) (own : CbOwner) : State :=
  (List.range 64).foldl (fun s c => if (s.cb c).owner == some own then s.forceCb c else s) s

/-! ### Ends of tasks -/

/-- Engine `e`'s RUN is empty: a suspended task at the head of the bivouac resumes (R395). -/
def State.resumeHead (s : State) (e : Nat) : State :=
  match (s.engine e).run, (s.engine e).biv with
  | none, t :: _ => if t.suspended then s.startHead e else s
  | _, _ => s

/-- The task in RUN of engine `e` ends with decision `dec`; the carabiner it holds is released. -/
def State.endRun (s : State) (e : Nat) (t : Task) (dec status : Nat) : State :=
  let c := dCb t.row
  let s := (s.setEngine e { s.engine e with run := none }).trace e dec 0 status t
  let s := if c < 64 ∧ (s.cb c).owner = some (.task t.id) then s.freeCb c (s.cb c).broken else s
  s.resumeHead e

/-- A task that was in RUN or suspended ends CANCEL_ABORTED (R396); its carabiner breaks. -/
def State.abortTask (s : State) (e slot : Nat) (t : Task) : State :=
  let s := ((s.unstall (dIn t.row) t.id).incReg Reg.cancels).trace e 9 slot 0 t
  if (s.cb (dCb t.row)).owner == some (.task t.id) then s.forceCb (dCb t.row) else s

/-- A task ends FAULTED (R399): EV36, the trace, TASK_FAULTS, the fault record, and its carabiner breaks. -/
def State.faultTask (s : State) (e slot : Nat) (t : Task) : State :=
  let s := ((s.unstall (dIn t.row) t.id).taskFaultEvent t.id).trace e 0x0D slot 0x0107 t
  let s := (s.incReg Reg.taskFaults).capture 0x10 e t.id
  if (s.cb (dCb t.row)).owner == some (.task t.id) then s.forceCb (dCb t.row) else s

/-- A read by a task returns an uncorrectable ECC error at address `a` (R418, R421). -/
def State.eccBad (s : State) (dram : Bool) (a : Nat) : State :=
  let src := if dram then 1 else 0
  ((s.incReg Reg.eccUncorrected).raise 57 (beBytes 8 a ++ beBytes 1 src)).capture 0x07 src a

/-- At a break point engine `e` checks BIV0: a strictly higher task whose carabiner is not held exchanges with the running
one, which takes its place among the slots by priority (R393, R395; DEDUCED, log 25). -/
def State.preempt (s : State) (e : Nat) : State :=
  let x := s.engine e
  match x.run, x.biv with
  | some t, h :: rest =>
    if h.list < t.list ∧ (64 ≤ dCb h.row ∨ (s.cb (dCb h.row)).owner = none ∨ h.suspended = true) then
      let s := if t.blocked.isSome then s.bpSettle (dOut t.row) else s
      let t := { t with suspended := true }
      let s := (s.setEngine e { x with run := none, biv := h :: bivInsert t rest }).trace e 5 1 0 t
      (s.startHead e).resumeHead e
    else s
  | _, _ => s

/-- A RUN task that waits on an empty queue or for room stands at a break point (R395). -/
def State.breakWait (s : State) (e : Nat) : State :=
  match (s.engine e).run with
  | some t => if t.stalled || t.blocked.isSome then s.preempt e else s
  | none => s

/-- What a task's work up to its next break point came to. -/
inductive After where
  | goOn (t : Task) | ended (t : Task) (status : Nat) | emptyEnd (t : Task) | faulted (t : Task)
  deriving DecidableEq, Repr

/-- Run the task in RUN of engine `e` up to its next break point, when it is of TYPE `ty` and waits for nothing. -/
def State.runTask (s : State) (e ty : Nat) (work : Task → State → After × State) : State :=
  match (s.engine e).run with
  | none => s
  | some t =>
    if dType t.row != ty || (t.stalled && s.itemsIn (dIn t.row) == 0) || t.blocked.isSome then s
    else
      let r := work { t with stalled := false } (if t.stalled then s.unstall (dIn t.row) t.id else s)
      let s := r.2
      match r.1 with
      | .goOn t =>
        let s := s.setEngine e { s.engine e with run := some t }
        if t.cancel then ((s.setEngine e { s.engine e with run := none }).abortTask e 0 t).resumeHead e else s.preempt e
      | .ended t st => s.endRun e t 4 st
      | .emptyEnd t => s.endRun e t 0x0E 0x0701
      | .faulted t => ((s.setEngine e { s.engine e with run := none }).faultTask e 0 t).resumeHead e

/-! ### Releases (R388 to R391) -/

/-- Put a task at the head or tail of ready list `l`. -/
def State.setReady (s : State) (l : Nat) (q : List Task) : State :=
  ({ s with sched := { s.sched with ready := s.sched.ready.set l q } }).seeDepth (8 + l) q.length

/-- Ready list `l`. -/
def State.readyList (s : State) (l : Nat) : List Task := s.sched.ready.getD l []

/-- Return a prefetched task to the head of its list (R393, R428). -/
def State.returnTask (s : State) (e slot : Nat) (t : Task) : State :=
  let t := { t with waiting := false }
  (s.setReady t.list (t :: s.readyList t.list)).trace e 7 slot 0 t

/-- The task that engine `e` would return for one of priority `list`: the lowest of its bivouac that is not suspended and
ranks below. -/
def Engine.victim (x : Engine) (list : Nat) : Option Task :=
  ((x.biv.filter fun t => !t.suspended && decide (list < t.list)).reverse).head?

/-- Make room for a newly ready task: no eligible engine has a free slot, so the lowest-numbered eligible engine that holds a
task of lower priority returns it (R393). -/
def State.makeSlot (s : State) (t : Task) : State :=
  let es := (List.range 16).filter fun e => bit (dEngines t.row) e && !(s.engine e).out
  if es.any fun e => decide ((s.engine e).biv.length < 2) then s
  else
    match es.find? fun e => ((s.engine e).victim t.list).isSome with
    | none => s
    | some e =>
      let x := s.engine e
      match x.victim t.list with
      | none => s
      | some v =>
        let slot := if (x.biv.map Task.id).head? = some v.id then 1 else 2
        (s.setEngine e { x with biv := x.biv.filter fun y => y.id != v.id }).returnTask e slot v

/-- The next instance of descriptor `n`: its TASK_ID, with the count moved on (R388). -/
def State.nextId (s : State) (n : Nat) : Nat × State :=
  let c := ((assocGet s.sched.inst n).getD 0 + 1) % 256
  (c * 16777216 + n % 16777216, { s with sched := { s.sched with inst := assocSet s.sched.inst n c, order := s.sched.order + 1 } })

/-- Release a task of descriptor `n`, whose row is `row`, into list `list`; `dec` is the trace decision. The flag says that
the list had room. -/
def State.release (s : State) (n : Nat) (row : Bytes) (entry due : Option Nat) (list dec : Nat) : Bool × Task × State :=
  let r := s.nextId n
  let t : Task := { id := r.1, desc := n, entry := entry, list := list, order := r.2.sched.order, due := due, row := row }
  let s := r.2
  if s.sched.limits.getD list 256 ≤ (s.readyList list).length then (false, t, s)
  else
    let s := (s.setReady list (s.readyList list ++ [t])).incReg Reg.releases
    (true, t, (s.trace 0xFE dec 0xFF 0 t).makeSlot t)

/-- Are tasks released: a topo is active and the mode is STAGING, SHOW, HOLDOVER or DARK (R414)? -/
def State.releasesRun (s : State) : Bool :=
  s.topo.active.isSome && s.domOn 1 && (s.mode.mode.shows || s.mode.mode == .staging || s.mode.mode == .dark)

/-- Do plan releases run: no switch stops them and no realignment interval runs (R389)? -/
def State.planRuns (s : State) : Bool :=
  let sw := match s.topo.switch with
    | .copying _ => false
    | _ => true
  s.releasesRun && sw && !s.tick.realign

/-- PLAN_RELEASE: release entry `n` at RELEASE_NS of the current tick (R389). -/
def State.planRelease (s : State) (n : Nat) : State :=
  let d := s.planEntry n
  let phase := field d 8 1
  let cycle := max 1 (field (s.activeSec 2) 0 2)
  if !s.planRuns || decide (s.planCount ≤ n) || s.sched.released.contains n || (phase != 0xFF && phase != s.tickIdx % cycle) then s
  else
    let s := s.reachCclk (s.tick.cclk + field d 0 4)
    let s := { s with sched := { s.sched with released := n :: s.sched.released } }
    let desc := field d 9 3
    let list := field d 12 1 / 32
    if s.tasks.any fun t => t.entry == some n then
      let t : Task := { id := ((assocGet s.sched.inst desc).getD 0) * 16777216 + desc, desc := desc, entry := some n, list := list,
                        order := 0, due := none, row := s.descRow desc }
      (s.incReg Reg.releaseSkips).trace 0xFE 0x0B 0xFF 0 t
    else
      let r := s.release desc (s.descRow desc) (some n) (some (s.tick.cclk + field d 4 4)) list 1
      if r.1 then r.2.2
      else ((r.2.2.incReg Reg.releaseDrops).trace 0xFE 0x0C 0xFF 0 r.2.1).raise 35 (beBytes 4 r.2.1.id)

/-- Is descriptor `n` named by some release entry? -/
def State.inPlan (s : State) (n : Nat) : Bool := (List.range s.planCount).any fun i => field (s.planEntry i) 9 3 == n

/-- EVENT_RELEASE: the descriptor's IN_QUEUE holds an item and no instance of it is ready or in flight (R390). While its ready list is
full the release waits (DEDUCED, log 25). A switch and a realignment interval stop plan releases only (R88, R389). -/
def State.eventRelease (s : State) (n : Nat) : State :=
  let row := s.descRow n
  if !s.releasesRun || decide (s.descCount ≤ n) || dIn row == 0xFFFF || s.itemsIn (dIn row) == 0 || s.inPlan n ||
      s.tasks.any (fun t => t.desc == n) then s
  else
    let list := s.reg Reg.eventList
    if s.sched.limits.getD list 256 ≤ (s.readyList list).length then s
    else (s.release n row none none list 0x11).2.2

/-! ### Prefetch, dispatch, deadlines (R392 to R398) -/

/-- The task engine `e` would prefetch: the oldest eligible one of the highest-priority list that holds one (R392). -/
def State.choice (s : State) (e : Nat) : Option Task :=
  s.sched.ready.findSome? fun q => q.find? fun t => bit (dEngines t.row) e

/-- Can engine `e` prefetch: it is in service, its domain is ON, a bivouac slot is empty? -/
def State.canPrefetch (s : State) (e : Nat) : Bool :=
  decide (e < 16) && !(s.engine e).out && decide ((s.engine e).biv.length < 2) &&
    s.domOn (if e < 12 then 1 else 2)

/-- PREFETCH: engine `e` takes its choice into a bivouac slot, unless a lower-numbered engine could take it, and range-checks
its descriptor (R392, R399). -/
def State.prefetch (s : State) (e : Nat) : State :=
  match s.choice e with
  | none => s
  | some t =>
    if !s.canPrefetch e || (List.range e).any fun k => s.canPrefetch k && s.choice k == some t then s
    else
      let s := s.setReady t.list ((s.readyList t.list).filter fun y => y.id != t.id)
      let topo := decide (t.desc < s.descCount)
      let t := if topo then { t with row := s.descRow t.desc } else t
      if (topo && s.poisoned false (s.descAt t.desc) 64) || !descOk s.regions s.dramSize s.queueDeclared t.row then s.faultTask e 0xFF t
      else
        let x := s.engine e
        let biv := bivInsert t x.biv
        ((s.setEngine e { x with biv := biv }).trace e 2 (if biv.head? = some t then 1 else 2) 0 t).breakWait e

/-- DISPATCH: RUN of engine `e` is empty, so BIV0 moves to RUN (R394); a RUN task that waits exchanges with a higher one (R395). -/
def State.dispatch (s : State) (e : Nat) : State := if (s.engine e).out then s else (s.startHead e).breakWait e

/-- Note the miss of a deadline on a task. -/
def Task.markMissed (id : Nat) (t : Task) : Task := if t.id = id then { t with missed := true } else t

/-- DEADLINE_MISS: a plan-released task has not completed by the CCLK of its deadline (R398). -/
def State.deadlineMiss (s : State) (id : Nat) : State :=
  match s.tasks.find? fun t => t.id == id && !t.missed && t.due.isSome with
  | none => s
  | some t =>
    let s := s.reachCclk (t.due.getD 0)
    let f := Task.markMissed id
    let es := s.sched.engines.map fun e => { e with run := e.run.map f, biv := e.biv.map f }
    let s := { s with sched := { s.sched with ready := s.sched.ready.map (List.map f), engines := es } }
    let s := ((s.incReg Reg.deadlineMisses).setReg Reg.lastMissId id).trace 0xFF 0x0A 0xFF 0 t
    s.raise 35 (beBytes 4 id)

/-! ### Cancellation (R396, R397) -/

/-- Cancel a task that has not started: it leaves its list or slot. -/
def State.cancelIdle (s : State) (e slot : Nat) (t : Task) : State :=
  (s.incReg Reg.cancels).trace e 8 slot 0 t

/-- Cancel the prefetched tasks of engine `e` that satisfy `p` and have not started. -/
def State.cancelPrefetched (s : State) (p : Task → Bool) (e : Nat) : State :=
  let x := s.engine e
  let hit := x.biv.filter fun t => p t && !t.suspended
  let s := s.setEngine e { x with biv := x.biv.filter fun t => !(p t && !t.suspended) }
  hit.foldl (fun s t => s.cancelIdle e (if (x.biv.map Task.id).head? = some t.id then 1 else 2) t) s

/-- Cancel the suspended and running tasks of engine `e` that satisfy `p`. -/
def State.cancelEngine (s : State) (p : Task → Bool) (e : Nat) : State :=
  let x := s.engine e
  let hit := x.biv.filter p
  let s := s.setEngine e { x with biv := x.biv.filter fun t => !p t }
  let s := hit.foldl (fun s t => s.abortTask e (if (x.biv.map Task.id).head? = some t.id then 1 else 2) t) s
  match x.run with
  | none => s
  | some t =>
    if !p t then s
    else if t.stalled || t.blocked.isSome then
      let s := if t.blocked.isSome then s.bpSettle (dOut t.row) else s
      ((s.setEngine e { s.engine e with run := none }).abortTask e 0 t).resumeHead e
    else s.setEngine e { s.engine e with run := some { t with cancel := true } }

/-- Cancel every task that satisfies `p`, wherever it stands: those that have not started before those whose end frees what others
wait for. -/
def State.cancelWhere (s : State) (p : Task → Bool) : State :=
  let hit := (s.sched.ready.flatten).filter p
  let s := { s with sched := { s.sched with ready := s.sched.ready.map fun q => q.filter fun t => !p t } }
  let s := hit.foldl (fun s t => s.cancelIdle 0xFE 0xFF t) s
  let s := (List.range 16).foldl (fun s e => s.cancelPrefetched p e) s
  (List.range 16).foldl (fun s e => s.cancelEngine p e) s

/-- TASK_CANCEL: 0x0107 when no such instance exists (R397). -/
def State.taskCancel (s : State) (id : Nat) : Nat × State :=
  if s.tasks.any fun t => t.id == id then (0, s.cancelWhere fun t => t.id == id && !t.cancel) else (0x0107, s)

/-- DESC_CANCEL: 0x0103 for an index at or beyond the descriptor count (R397). -/
def State.descCancel (s : State) (n : Nat) : Nat × State :=
  if s.descCount ≤ n then (0x0103, s) else (0, s.cancelWhere fun t => t.desc == n && !t.cancel)

/-- Engine `e` is taken out of service (R428). -/
def State.engineOut (s : State) (e : Nat) : State :=
  let x := s.engine e
  let s := match x.run with
    | some t => if t.blocked.isSome then s.bpSettle (dOut t.row) else s
    | none => s
  let s := s.setEngine e { out := true }
  let s := { s with belay := { s.belay with enginesOut := setBit s.belay.enginesOut e } }
  let s := match x.run with
    | some t => s.faultTask e 0 t
    | none => s
  (x.biv.reverse).foldl (fun s t =>
    let slot := if (x.biv.map Task.id).head? = some t.id then 1 else 2
    if t.suspended then s.faultTask e slot t else s.returnTask e slot t) s

/-! ### Reads and pushes that wait (R372, R376) -/

/-- Has the stalled read of task `t` reached its STALL_TICKS? -/
def State.readOver (s : State) (t : Task) : Bool :=
  t.stalled && ((s.stallEnd (dIn t.row) t.id).map fun n => decide (n ≤ s.tickIdx)).getD false

/-- QUEUE_READ_TIMEOUT: the stalled read of engine `e`'s task, running or suspended, has reached STALL_TICKS; the task ends with
QUEUE_EMPTY. -/
def State.readTimeout (s : State) (e : Nat) : State :=
  let x := s.engine e
  match x.run.filter s.readOver, x.biv.find? s.readOver with
  | some t, _ => (s.unstall (dIn t.row) t.id).endRun e { t with stalled := false } 0x0E 0x0701
  | none, some t =>
    ((s.unstall (dIn t.row) t.id).setEngine e { x with biv := x.biv.filter fun y => y.id != t.id }).trace e 0x0E
      (if (x.biv.map Task.id).head? = some t.id then 1 else 2) 0x0701 t
  | none, none => s

/-- Does queue `n` have room for an item of `len` bytes now? -/
def State.roomIn (s : State) (n len : Nat) : Bool :=
  match s.spill? n with
  | some q => !q.hold || decide (q.depth < q.limit)
  | none =>
    match s.queue? n with
    | some q => !q.hold || (!q.full && decide (cellsOf len ≤ s.cellsFor q))
    | none => false

/-- QUEUE_PUSH_UNBLOCKED: the refused push of engine `e`'s task is accepted once there is room (R372). -/
def State.pushUnblocked (s : State) (e : Nat) : State :=
  match (s.engine e).run with
  | none => s
  | some t =>
    match t.blocked with
    | none => s
    | some b =>
      if s.roomIn (dOut t.row) b.1.length then
        let s := s.bpSettle (dOut t.row)
        let s := (s.pushAny (dOut t.row) b.1).2
        s.setEngine e { s.engine e with run := some { t with blocked := none, prog := t.prog + 1 } }
      else s

/-! ### ACQUIRE, RELEASE, RENEW (R407, R409) -/

/-- The tick in which a write completes now: in the CCLK of a boundary it counts after it (R55). -/
def State.tickNow (s : State) : Nat := if s.tick.nextTime ≤ s.now then s.tickIdx + 1 else s.tickIdx

/-- LEASE_END: the lease of carabiner `c` has ended at this boundary. -/
def State.leaseEnd (s : State) (c : Nat) : State :=
  match (s.cb c).lease with
  | some n => if n ≤ s.tickNow ∧ c < 64 then s.forceCb c else s
  | none => s

/-- Note ACQ_RESULT for a caller. -/
def State.acqResult (s : State) (o : Origin) (v : Nat) : State :=
  { s with carabs := { s.carabs with result := (o, v) :: s.carabs.result.filter fun p => p.1 != o } }

/-- ACQUIRE of carabiner `c` by `o` for `lease` ticks: the abort code, or 0. -/
def State.acquire (s : State) (o : Origin) (c lease : Nat) : Nat × State :=
  if 63 < c then (0x0103, s)
  else
    let s := s.leaseEnd c
    let own := o.holder
    if 60 ≤ c then (0x0401, s.acqResult o 3)
    else if (List.range 64).any fun k => (s.cb k).owner == some own && decide (c ≤ k) then
      let s := (s.incReg Reg.rankViolations).raise 39 (beBytes 1 c ++ beBytes 1 own.kind)
      (0x0402, s.acqResult o 4)
    else if (s.cb c).owner.isSome then (0x0401, s.acqResult o 3)
    else
      let was := (s.cb c).broken
      let s := s.setCb c { owner := some own, broken := was, lease := some (s.tickNow + max 1 lease) }
      (0, s.acqResult o (if was then 2 else 1))

/-- RELEASE of carabiner `c` by `o`; BROKEN clears. -/
def State.releaseCb (s : State) (o : Origin) (c : Nat) : Nat × State :=
  let s := s.leaseEnd c
  if c < 64 ∧ (s.cb c).owner = some o.holder then (0, s.freeCb c false) else (0x0401, s)

/-- RENEW of carabiner `c` by `o`. -/
def State.renewCb (s : State) (o : Origin) (c lease : Nat) : Nat × State :=
  if 63 < c then (0x0103, s)
  else
    let s := s.leaseEnd c
    if (s.cb c).owner = some o.holder then (0, s.setCb c { s.cb c with lease := some (s.tickNow + max 1 lease) }) else (0x0401, s)

/-- FORCE_RELEASE of carabiner `c` (R410). -/
def State.forceRelease (s : State) (c : Nat) : Nat × State := if 63 < c then (0x0103, s) else (0, s.forceCb c)

/-- The 16 bytes of CB_STATE (Table 14.7). -/
def Carab.bytes (x : Carab) : Bytes :=
  beBytes 1 (if x.owner.isSome then 1 else 0) ++ beBytes 1 (if x.broken then 1 else 0) ++
    beBytes 1 ((x.owner.map CbOwner.kind).getD 0) ++ beBytes 1 0 ++ beBytes 4 ((x.owner.map CbOwner.idOf).getD 0) ++
    beBytes 8 (x.lease.getD (two64 - 1))

/-! ### The arbiter (R401 to R405) -/

/-- The request of two that has waited longer; the lower port between equal waits. -/
def older (a b : Nat × Nat) : Nat × Nat := if a.2 < b.2 ∨ (a.2 = b.2 ∧ b.1 < a.1) then b else a

/-- The request of two with the higher priority; the older between equals. -/
def higher (prio : Nat → Nat) (a b : Nat × Nat) : Nat × Nat :=
  if prio a.1 < prio b.1 then b else if prio b.1 < prio a.1 then a else older a b

/-- Which of the waiting requests an arbiter grants, `count` grants counted before (R402, steps 2 and 3). -/
def grantOf (n count : Nat) (prio : Nat → Nat) (r : Nat × Nat) (rest : List (Nat × Nat)) : Nat × Nat :=
  if (count + 1) % n = 0 then rest.foldl older r else rest.foldl (higher prio) r

/-- EV40 once for each request that has waited longer than WAIT_LIMIT; the longest wait (R405). -/
def State.waitCheck (s : State) (arb : Nat) (reqs : List (Nat × Nat)) : State :=
  let dram := arb == 32
  reqs.foldl (fun s r =>
    let s := s.maxReg (if dram then Reg.waitMaxDram else Reg.waitMaxHearth) r.2
    if s.reg Reg.waitLimit < r.2 ∧ ¬ s.arb.late.contains (arb, r.1) then
      let s := { s with arb := { s.arb with late := (arb, r.1) :: s.arb.late } }
      (s.incReg Reg.waitLimitCount).raise 40 (beBytes 1 r.1 ++ beBytes 1 (if dram then 1 else 0))
    else s) s

/-- May the belay monitor ask arbiter `arb` now: once in any 8 CCLK for a Hearth bank, once in any 8 arbitrations for DRAM (R404)? -/
def State.bmReady (s : State) (arb : Nat) : Bool :=
  decide (s.arb.bmNext.getD arb 0 ≤ (if arb = 32 then s.arb.cycles else s.clock.cclk))

/-- The belay monitor is granted on arbiter `arb`; the grant is not counted (R402). -/
def State.bmGrant (s : State) (arb : Nat) : State :=
  { s with arb := { s.arb with last := some (arb, 11),
                               bmNext := s.arb.bmNext.set arb ((if arb = 32 then s.arb.cycles else s.clock.cclk) + 8) } }

/-- ARBITRATION: one grant of a Hearth bank, or of DRAM, among requests given as (port, CCLK waited); `bm` says that the belay
monitor waits. -/
def State.arbitrate (s : State) (dram : Bool) (bank : Nat) (bm : Bool) (reqs : List (Nat × Nat)) : State :=
  let arb := if dram then 32 else bank
  if !s.domOn (if dram then 7 else 3) || decide (33 ≤ arb) || reqs.any fun r => decide (10 < r.1) then s
  else
    let s := s.waitCheck arb reqs
    let bm := bm && s.bmReady arb
    let s := { s with arb := { s.arb with cycles := s.arb.cycles + (if dram then 1 else 0) } }
    match bm, reqs with
    | true, _ => s.bmGrant arb
    | false, [] => s
    | false, r :: rest =>
      let n := s.arb.counts.getD arb 0
      let g := grantOf (s.reg Reg.reserveN) n (fun p => s.reg (if dram then Reg.dramPrio p else Reg.hearthPrio p)) r rest
      { s with arb := { s.arb with counts := s.arb.counts.set arb (n + 1), last := some (arb, g.1),
                                   late := s.arb.late.filter fun x => x != (arb, g.1) } }

/-- PRIO_SET (R403): TARGET, PORT and PRIORITY, already clamped; 0x0103 for a target or port outside Table 14.5. -/
def State.prioSet (s : State) (target port prio : Nat) : Nat × State :=
  if 1 < target ∨ 10 < port then (0x0103, s)
  else (0, s.setReg (if target = 1 then Reg.dramPrio port else Reg.hearthPrio port) prio)

end Sys2Proof.Machine
end

