-- ==== Sys2Proof/Machine/Layer.lean ====
section
/-! DEFINITION. Layers (R91 to R100, R120 to R130, R134): the sets they latch, where their pixels come from, and the composed
pixel; stored surfaces and loops (R109 to R113). -/

namespace Sys2Proof.Machine

/-! ### Access -/

/-- Layer `k`. -/
def State.layer (s : State) (k : Nat) : LayerSt := s.comp.layers.getD k {}

/-- Put layer `k` back. -/
def State.setLayer (s : State) (k : Nat) (x : LayerSt) : State :=
  { s with comp := { s.comp with layers := s.comp.layers.set k x } }

/-- Field `sub` of the set in use. -/
def LayerSt.f (l : LayerSt) (sub : Nat) : Nat := (assocGet l.cur sub).getD 0

/-- Sets that reach a pending register wait in it: what was there when cycle `c` began, and what came in that cycle (R96, R150). -/
def pendFold (c : Nat) (pend : Option (List (Nat × Nat))) (fresh : Option (Nat × List (Nat × Nat))) :
    Option (List (Nat × Nat)) × Option (Nat × List (Nat × Nat)) :=
  match fresh with
  | some (t, f) => if t = c then (pend, fresh) else (some (setOver (pend.getD []) f), none)
  | none => (pend, none)

/-- Fields reach a pending register in cycle `c`, over the waiting ones. -/
def pendPut (c : Nat) (pend : Option (List (Nat × Nat))) (fresh : Option (Nat × List (Nat × Nat))) (fields : List (Nat × Nat)) :
    Option (List (Nat × Nat)) × Option (Nat × List (Nat × Nat)) :=
  let r := pendFold c pend fresh
  (r.1, some (c, setOver ((r.2.map Prod.snd).getD []) fields))

/-- Everything that waits in a layer's pending register. -/
def LayerSt.waiting (l : LayerSt) : Option (List (Nat × Nat)) :=
  match l.fresh with
  | some f => some (setOver (l.pend.getD []) f.2)
  | none => l.pend

/-- The sets that a layer shows or will show: in use, latched, and latched with what waits over it. -/
def LayerSt.sets (l : LayerSt) : List (List (Nat × Nat)) :=
  [l.cur] ++ l.next.toList ++ (l.waiting.map fun p => setOver (l.next.getD l.cur) p).toList

/-- A signed field of the set in use. -/
def LayerSt.i (l : LayerSt) (sub : Nat) : Int := toSigned 2 (l.f sub)

/-- The commit fields of a layer: .01 to .12 and .16 to .19 (R95). -/
def commitSubs : List Nat :=
  [0x01, 0x02, 0x03, 0x04, 0x05, 0x06, 0x07, 0x08, 0x09, 0x0A, 0x0B, 0x0C, 0x0D, 0x0E, 0x0F, 0x10, 0x11, 0x12, 0x16, 0x17,
   0x18, 0x19]

/-- The register of field `sub` of layer `k`. -/
def layerReg (k sub : Nat) : Nat := Reg.key (0x4100 + 16 * k) sub

/-- The raster's state. -/
abbrev State.ras (s : State) : RasterSt := s.comp.raster

/-- Put the raster back. -/
def State.setRas (s : State) (r : RasterSt) : State := { s with comp := { s.comp with raster := r } }

/-- A field of the timing in use, by its subindex of 5000h. -/
def State.timing (s : State) (sub : Nat) : Nat := (assocGet s.ras.cur sub).getD 0

/-- A change for R164 occurs in this tick. -/
def State.noteChange (s : State) : State := s.setRas { s.ras with change := true }

/-- Stream `i`. -/
def State.stream (s : State) (i : Nat) : StreamSt := s.comp.streams.getD i {}

/-- Put stream `i` back. -/
def State.setStream (s : State) (i : Nat) (x : StreamSt) : State :=
  { s with comp := { s.comp with streams := s.comp.streams.set i x } }

/-- The video entry of stream `i` in the active topo (Table 4.12). -/
def State.videoEntry (s : State) (i : Nat) : Option Bytes :=
  let sec := s.activeSec 0x24
  (List.range (field sec 0 1)).findSome? fun n =>
    let e := slice sec (8 + 64 * n) 64
    if field e 0 1 = i then some e else none

/-- The audio entry of stream `i` (Table 4.13). -/
def State.audioEntry (s : State) (i : Nat) : Option Bytes :=
  let sec := s.activeSec 0x24
  (List.range (field sec 1 1)).findSome? fun n =>
    let e := slice sec (8 + 64 * field sec 0 1 + 64 * n) 64
    if field e 0 1 = i then some e else none

/-- The band entry of band `b` (Table 4.14). -/
def State.bandEntry (s : State) (b : Nat) : Option Bytes :=
  let sec := s.activeSec 0x24
  (List.range (field sec 2 1)).findSome? fun n =>
    let e := slice sec (8 + 64 * field sec 0 1 + 64 * field sec 1 1 + 32 * n) 32
    if field e 0 1 = b then some e else none

/-- Loop `j`. -/
def State.loop (s : State) (j : Nat) : LoopSt := s.comp.loops.getD j {}

/-- Put loop `j` back. -/
def State.setLoop (s : State) (j : Nat) (x : LoopSt) : State :=
  { s with comp := { s.comp with loops := s.comp.loops.set j x } }

/-! ### Sources -/

/-- Bytes of a line of a stream's frame as it lies in its buffer: whole pixel groups (assumption log 21). -/
def lineBytes (fmt w : Nat) : Nat :=
  match fmt with
  | 0 => 3 * w
  | 1 => ceilDiv w 4 * 15
  | 2 => ceilDiv w 2 * 9
  | _ => ceilDiv w 2 * 5

/-- A frame buffer's size: its lines, rounded up to 256 bytes (assumption log 21). -/
def bufferBytes (e : Bytes) : Nat := ceilDiv (lineBytes (field e 1 1) (field e 4 2) * field e 6 2) 256 * 256

/-- DRAM address of buffer `b` of a stream. -/
def bufferAt (e : Bytes) (b : Nat) : Nat := field e 32 8 + b * bufferBytes e

/-- Bits `[off, off + n)` of a run of bytes. -/
def bitField (bs : Bytes) (off n : Nat) : Nat :=
  (beNat (slice bs (off / 8) ((off % 8 + n + 7) / 8)) / 2 ^ ((8 - (off + n) % 8) % 8)) % 2 ^ n

/-- A pixel of a frame buffer at `base` of stream entry `e`, converted (R102). -/
def State.framePix (s : State) (e : Bytes) (base x y : Nat) : Pix :=
  let fmt := field e 1 1
  let w := field e 4 2
  let full := field e 3 1 == 1
  let line := base + y * lineBytes fmt w
  let rgb := fun (b : Nat) (g : Bytes) (off : Nat) =>
    let c := fun i => let v := bitField g (off + i * b) b
                      if full then codeFull b v else codeNarrow b v
    ({ r := c 0, g := c 1, b := c 2, a := 65535 } : Pix)
  match fmt with
  | 0 => rgb 8 (s.ramRead true (line + 3 * x) 3) 0
  | 1 => rgb 10 (s.ramRead true (line + x / 4 * 15) 15) (x % 4 * 30)
  | 2 => rgb 12 (s.ramRead true (line + x / 2 * 9) 9) (x % 2 * 36)
  | _ =>
    let g := s.ramRead true (line + x / 2 * 5) 5
    let n := if x / 2 + 1 < ceilDiv w 2 then s.ramRead true (line + (x / 2 + 1) * 5) 5 else g
    let mix := fun off => if x % 2 = 0 then bitField g off 10 else (bitField g off 10 + bitField n off 10 + 1) / 2
    codeYcc full (field e 2 1 == 1) (bitField g (if x % 2 = 0 then 10 else 30) 10) (mix 0) (mix 20)

/-- The packed header's figures of a packed file (Table 4.9): depth, components, RCT, width, height. -/
def packHead (d : Bytes) : Nat × Nat × Bool × Nat × Nat :=
  (field d 5 1, field d 6 1, bit (field d 7 1) 0, field d 8 2, field d 10 2)

/-- Does a packed file keep R114 and Table 4.9? -/
def packOk (d : Bytes) : Bool :=
  let h := field d 10 2
  let rows := ceilDiv h 8
  let off := fun r => field d (64 + 4 * r) 4
  field d 0 4 == 0x4E58504B && field d 4 1 == 1 && [8, 10, 12, 16].contains (field d 5 1) && [3, 4].contains (field d 6 1) &&
    decide (1 ≤ field d 8 2) && decide (field d 8 2 ≤ 8192) && decide (1 ≤ h) && decide (h ≤ 8192) &&
    field d 12 4 == 64 && field d 16 4 == 64 + 4 * rows && field d 24 4 == crc32 (slice d 0 24) &&
    decide (field d 16 4 + field d 20 4 ≤ d.length) &&
    (List.range rows).all fun r => decide (off r < field d 20 4) && (r == 0 || decide (off (r - 1) < off r))

/-- Widths of the blocks of a row of a surface `w` wide. -/
def blockWidths (w : Nat) : List Nat := (List.range (ceilDiv w 8)).map fun i => min 8 (w - 8 * i)

/-- Block row `r` of a packed file, decoded; none when it fails to decode (R119). -/
def packedRow (d : Bytes) (r : Nat) : Option (List (List (List Nat))) :=
  let p := packHead d
  let h := p.2.2.2.2
  let from_ := field d (64 + 4 * r) 4
  let to_ := if r + 1 < ceilDiv h 8 then field d (64 + 4 * (r + 1)) 4 else field d 20 4
  packRow p.1 p.2.1 (min 8 (h - 8 * r)) (blockWidths p.2.2.2.1) ((slice d (field d 16 4 + from_) (to_ - from_)).flatMap byteBits)

/-- A pixel of decoded block row `row`, `y` counted within the row. -/
def packedAt (b : Nat) (rct : Bool) (w : Nat) (row : List (List (List Nat))) (x y : Nat) : Pix :=
  let blk := row.getD (x / 8) []
  let bw := min 8 (w - x / 8 * 8)
  let c := unRct b rct (blk.map fun comp => comp.getD (y * bw + x % 8) 0)
  { r := codeFull b (c.getD 0 0), g := codeFull b (c.getD 1 0), b := codeFull b (c.getD 2 0),
    a := match c with
      | _ :: _ :: _ :: a :: _ => codeFull b a
      | _ => 65535 }

/-- The surface in slot `n`. -/
def State.surface (s : State) (n : Nat) : Option Surface := assocGet s.comp.surf.slots n

/-- The bytes of a stored surface, read from the DRAM surface store (R109). -/
def State.surfBytes (s : State) (f : Surface) : Bytes := s.ramRead true f.addr f.len

/-- A pixel of a stored surface (R109). -/
def State.surfPix (s : State) (f : Surface) (x y : Nat) : Pix :=
  let at_ := fun (size : Nat) => s.ramRead true (f.addr + y * f.stride + size * x) size
  match f.fmt with
  | 0 =>
    let c := fun i => codeFull 8 (field (at_ 4) i 1)
    { r := c 0, g := c 1, b := c 2, a := c 3 }
  | 1 =>
    let v := field (at_ 4) 0 4
    { r := codeFull 10 (bits v 31 22), g := codeFull 10 (bits v 21 12), b := codeFull 10 (bits v 11 2), a := bits v 1 0 * 21845 }
  | 2 => { r := field (at_ 8) 0 2, g := field (at_ 8) 2 2, b := field (at_ 8) 4 2, a := field (at_ 8) 6 2 }
  | 3 =>
    let c := fun i => codeFull 8 (field (at_ 3) i 1)
    { r := c 0, g := c 1, b := c 2, a := 65535 }
  | _ =>
    let d := s.surfBytes f
    let p := packHead d
    match packedRow d (y / 8) with
    | some row => packedAt p.1 p.2.2.1 p.2.2.2.1 row x (y % 8)
    | none => { r := 0, g := 0, b := 0, a := 0 }

/-- The surface in slot `n`, packed or not as asked. -/
def State.surfaceAs (s : State) (packed : Bool) (n : Nat) : Option Surface := (s.surface n).filter fun f => (f.fmt == 4) == packed

/-- What a source kind and reference give: width, height, pixels; none when the source is absent (R100). -/
def State.sourceOf (s : State) (kind ref : Nat) (frame : Option PFrame) : Option (Nat × Nat × (Nat → Nat → Pix)) :=
  let surf := fun (packed : Bool) (n : Nat) => (s.surfaceAs packed n).map fun f => (f.w, f.h, s.surfPix f)
  match kind with
  | 1 =>
    match s.videoEntry ref, frame with
    | some e, some p => some (field e 4 2, field e 6 2, s.framePix e (bufferAt e p.buf))
    | _, _ => none
  | 2 => surf false ref
  | 3 =>
    match (s.loop ref).cur with
    | some c => if (s.loop ref).state = 0 then none else surf false c.surface
    | none => none
  | 5 => surf true ref
  | _ => none

/-- The source's size where R100 checks a crop against it. -/
def State.sourceSize (s : State) (kind ref : Nat) (frame : Option PFrame) : Option (Nat × Nat) :=
  match kind with
  | 1 => (s.videoEntry ref).map fun e => (field e 4 2, field e 6 2)
  | _ => (s.sourceOf kind ref frame).map fun p => (p.1, p.2.1)

/-- Is the source of a kind and reference absent (R100): an undeclared stream or loop, an empty slot, a stream that has delivered
no frame since activation? A loop's slot is its current entry's. -/
def State.sourceAbsent (s : State) (kind ref : Nat) : Bool :=
  match kind with
  | 1 => (s.videoEntry ref).isNone || !(s.stream ref).live
  | 2 => (s.surfaceAs false ref).isNone
  | 3 => (s.loop ref).state == 0 || (s.loop ref).cur.any fun e => (s.surfaceAs false e.surface).isNone
  | 5 => (s.surfaceAs true ref).isNone
  | _ => false

/-- Has a layer a source to show: SOLID, or one that gives pixels? -/
def State.sourceShown (s : State) (l : LayerSt) : Bool :=
  l.f 0x02 == 4 || (!s.sourceAbsent (l.f 0x02) (l.f 0x03) && (s.sourceOf (l.f 0x02) (l.f 0x03) l.frame).isSome)

/-! ### Modulation (R132, R134) -/

/-- M of band `b`. -/
def State.bandM (s : State) (b : Nat) : Nat := unit16 (s.comp.audio.bands.getD b {}).env

/-- Level of fade slot `n`. -/
def State.fadeNow (s : State) (n : Nat) : Nat := (assocGet s.buf.levels n).getD 0

/-- The modulation value of a MOD_SOURCE; 65,536 when it names none. -/
def State.modValue (s : State) (src : Nat) : Nat :=
  if 0x1000 ≤ src then unit16 (s.fadeNow (src - 0x1000))
  else if 0x0100 ≤ src then s.bandM (src - 0x0100)
  else 65536

/-- The ramp factor of a loop entry at its tick `t` (R112). -/
def loopRamp (e : LoopEntry) (t : Nat) : Nat :=
  if e.ramp = 0 then 65536 else min (min (t + 1) (e.dwell - t)) e.ramp * 65536 / e.ramp

/-! ### The composed pixel -/

/-- A scaler coefficient, `bank` as COEF_SEL names it (R123). -/
def State.coef (s : State) (bank i : Nat) : Int :=
  match assocGet s.comp.coefs bank with
  | some l => l.getD i 0
  | none => clampInt (-2048) 2047 (Config.freeCoef (bank * 256 + i))

/-- An entry of a LUT bank, `sel` as LUT_SEL names it (R124). -/
def State.lut (s : State) (sel i : Nat) : Nat :=
  match assocGet s.comp.luts sel with
  | some l => l.getD i 0
  | none => if sel < 0x20 then degammaDefault i else Config.freeEncode (sel * 1024 + i) % 65536

/-- A layer's contribution at a raster position: linear colour, alpha, a_eff, blend mode. -/
structure Contrib where
  r : Nat
  g : Nat
  b : Nat
  a : Nat
  aeff : Nat
  mode : Nat
  deriving DecidableEq, Repr

/-- Does a block row that did not decode blank line `y` of the source (R119)? -/
def LayerSt.blanked (l : LayerSt) (y : Nat) : Bool := l.f 0x02 == 5 && l.badRows.contains (y / 8)

/-- The source line that line `i` of a layer's window is taken from, the nearest one where it is scaled. -/
def LayerSt.sourceRow (l : LayerSt) (i : Nat) : Nat :=
  l.f 0x05 + if l.f 0x0C = 0xFF then i else tapAt (l.f 0x07) (scaleBase (scalePos (l.f 0x07) (l.f 0x0B) i))

/-- Does layer `k`'s window hold (x, y) of the active raster? -/
def LayerSt.holds (l : LayerSt) (x y : Nat) : Bool :=
  let i : Int := (y : Int) - l.i 0x09
  let j : Int := (x : Int) - l.i 0x08
  decide (0 ≤ i) && decide (0 ≤ j) && decide (i < (l.f 0x0B : Int)) && decide (j < (l.f 0x0A : Int))

/-- Is the layer transparent on active line `y`: it has underrun (R160), or the block row failed to decode (R119)? -/
def LayerSt.blankAt (l : LayerSt) (y : Nat) : Bool :=
  (l.under.any fun u => decide (u ≤ y)) || l.blanked (l.sourceRow ((y : Int) - l.i 0x09).toNat)

/-- The pixel of layer `k` at (x, y) of the active raster from its source, converted, cropped and scaled (R102, R120 to R123). -/
def State.sourcePix (s : State) (k x y : Nat) : Option Pix :=
  let l := s.layer k
  let i := ((y : Int) - l.i 0x09).toNat
  let j := ((x : Int) - l.i 0x08).toNat
  match s.sourceOf (l.f 0x02) (l.f 0x03) l.frame with
  | none => none
  | some (w, h, pix) =>
    let src := fun cx cy => pix (min (w - 1) (l.f 0x04 + cx)) (min (h - 1) (l.f 0x05 + cy))
    let sc := l.f 0x0C
    some (if sc = 0xFF then src j i
      else scalePix (s.coef (sc * 2 + l.f 0x0D)) (l.f 0x06) (l.f 0x07) (l.f 0x0A) (l.f 0x0B) src j i)

/-! ### The ember cache's bytes (R128, R129) -/

/-- Layer `k`'s window clipped to the active raster: x, y, width, height. -/
def State.emberWin (s : State) (k : Nat) : Nat × Nat × Nat × Nat :=
  let l := s.layer k
  let lo := fun (at_ : Int) => (max 0 at_).toNat
  let span := fun (at_ : Int) (n most : Nat) => (min (most : Int) (at_ + n) - max 0 at_).toNat
  (lo (l.i 0x08), lo (l.i 0x09), span (l.i 0x08) (l.f 0x0A) (s.timing 1), span (l.i 0x09) (l.f 0x0B) (s.timing 5))

/-- Where the Hearth holds the pixel at (x, y) of layer `k`'s entry: its clipped window, line after line, from EMBER_OFFSET KB on in
the ember region (the order within an entry is a DESIGN CHOICE, log 84). -/
def State.emberAt (s : State) (k x y : Nat) : Nat :=
  let w := s.emberWin k
  s.regionAt 3 + s.reg (layerReg k 0x12) * 1024 + emberSize ((s.layer k).f 0x11) * ((y - w.2.1) * w.2.2.1 + (x - w.1))

/-- The pixel of layer `k` at (x, y): from a valid ember entry of a static layer, or from its source (R128). -/
def State.layerPix (s : State) (k x y : Nat) : Option Pix :=
  let l := s.layer k
  if l.f 0x10 = 1 && l.ember then
    if s.sourceShown l then some (emberPix (l.f 0x11) (s.ramRead false (s.emberAt k x y) (emberSize (l.f 0x11)))) else none
  else s.sourcePix k x y

/-- Layer `k` at position (x, y) of the active raster; none where it contributes nothing. -/
def State.layerAt (s : State) (k x y : Nat) : Option Contrib :=
  let l := s.layer k
  if l.f 0x01 != 1 || !l.holds x y || l.blankAt y then none
  else
    let aeff := alphaEff (s.reg (layerReg k 0x13)) (s.reg (layerReg k 0x15)) (s.modValue (s.reg (layerReg k 0x14)))
    let aeff := if l.f 0x02 = 3 then
        match (s.loop (l.f 0x03)).cur with
        | some e => aeff * loopRamp e (s.loop (l.f 0x03)).tick / 65536
        | none => aeff
      else aeff
    if l.f 0x02 = 4 then
      some { r := l.f 0x16, g := l.f 0x17, b := l.f 0x18, a := alphaPix aeff (l.f 0x19), aeff := aeff, mode := l.f 0x0F }
    else
      (s.layerPix k x y).map fun p =>
        let e := s.lut (k * 2 + l.f 0x0E)
        { r := linearise e p.r, g := linearise e p.g, b := linearise e p.b, a := alphaPix aeff p.a, aeff := aeff, mode := l.f 0x0F }

/-- The composed linear colour at (x, y): the layers in order over the background (R91, R126). -/
def State.linearAt (s : State) (x y : Nat) : Nat × Nat × Nat :=
  (List.range 16).foldl (fun d k =>
    match s.layerAt k x y with
    | none => d
    | some c => (blend c.mode c.aeff c.a c.r d.1, blend c.mode c.aeff c.a c.g d.2.1, blend c.mode c.aeff c.a c.b d.2.2))
    (s.reg (Reg.key 0x4000 1), s.reg (Reg.key 0x4000 2), s.reg (Reg.key 0x4000 3))

/-- The encoded pixel at (x, y) of the active raster (R127). -/
def State.pixelAt (s : State) (x y : Nat) : Pix :=
  let c := s.linearAt x y
  let e := encode16 (s.reg (Reg.key 0x4000 4) == 1) (s.lut (0x20 + s.reg (Reg.key 0x4000 5)))
  { r := e c.1, g := e c.2.1, b := e c.2.2, a := 65535 }

/-! ### Latching a layer's set (R98 to R100, R122, R128) -/

/-- A register that still reads the value a latch replaces reads the new one. -/
def State.fixReg (s : State) (key old v : Nat) : State := if s.reg key = old then s.setReg key v else s

/-- Change one field of a set, with a clamp record of SOURCE 3 that names `sub` (R142). -/
def State.fixField (s : State) (k sub v : Nat) (set : List (Nat × Nat)) : List (Nat × Nat) × State :=
  let old := (assocGet set sub).getD 0
  if old = v then (set, s)
  else (assocSet set sub v, (s.fixReg (layerReg k sub) old v).clamped (0x4100 + 16 * k) sub (3, 0) 0 old v)

/-- The set that layer `k` shows from its next raster on: latched, or in use. -/
def State.lastSet (s : State) (k : Nat) : List (Nat × Nat) := (s.layer k).next.getD (s.layer k).cur

/-- Does a lower-numbered enabled layer name scaler `n` (R99)? -/
def State.scalerTaken (s : State) (k n : Nat) : Bool :=
  (List.range k).any fun i =>
    let t := s.lastSet i
    assocGet t 0x01 == some 1 && assocGet t 0x0C == some n

/-- R100: the crop is reduced to the part inside the source. -/
def State.fixCrop (s : State) (k : Nat) (set : List (Nat × Nat)) : List (Nat × Nat) × State :=
  let g := fun sub => (assocGet set sub).getD 0
  match s.sourceSize (g 0x02) (g 0x03) (s.layer k).frame with
  | none => (set, s)
  | some (w, h) =>
    let x := min (g 0x04) (w - 1)
    let y := min (g 0x05) (h - 1)
    let a := s.fixField k 0x04 x set
    let b := a.2.fixField k 0x05 y a.1
    let c := b.2.fixField k 0x06 (min (g 0x06) (w - x)) b.1
    c.2.fixField k 0x07 (min (g 0x07) (h - y)) c.1

/-- R99 and R122: one scaler for one enabled layer; without a scaler the window is the crop; with one, the ratio is from 1/4
to 64. -/
def State.fixScaler (s : State) (k : Nat) (set : List (Nat × Nat)) : List (Nat × Nat) × State :=
  let g := fun sub => (assocGet set sub).getD 0
  let cw := g 0x06
  let ch := g 0x07
  if g 0x0C ≠ 0xFF ∧ g 0x01 = 1 ∧ s.scalerTaken k (g 0x0C) = true then
    let a := s.fixField k 0x0C 0xFF set
    (assocSet (assocSet a.1 0x0A cw) 0x0B ch, (a.2.fixReg (layerReg k 0x0A) (g 0x0A) cw).fixReg (layerReg k 0x0B) (g 0x0B) ch)
  else if g 0x0C = 0xFF then
    let a := s.fixField k 0x0A cw set
    a.2.fixField k 0x0B ch a.1
  else
    let a := s.fixField k 0x0A (clampNat (ceilDiv cw 4) (min 8192 (64 * cw)) (g 0x0A)) set
    a.2.fixField k 0x0B (clampNat (ceilDiv ch 4) (min 8192 (64 * ch)) (g 0x0B)) a.1

/-- The latch rules together, on the set of layer `k`. -/
def State.resolveSet (s : State) (k : Nat) (set : List (Nat × Nat)) : List (Nat × Nat) × State :=
  let a := s.fixCrop k set
  let b := a.2.fixScaler k a.1
  if assocGet b.1 0x02 == some 1 && assocGet b.1 0x10 == some 1 then b.2.fixField k 0x10 0 b.1 else b

/-- The fields whose change marks an ember entry invalid as it latches (R98). -/
def emberSubs : List Nat :=
  [0x02, 0x03, 0x04, 0x05, 0x06, 0x07, 0x08, 0x09, 0x0A, 0x0B, 0x0C, 0x0D, 0x0E, 0x10, 0x16, 0x17, 0x18, 0x19]

/-- Layer `k` latches `set` for its next raster. -/
def State.latchSet (s : State) (k : Nat) (set : List (Nat × Nat)) (commit : Bool) : State :=
  let r := s.resolveSet k set
  let l := r.2.layer k
  let was := l.next.getD l.cur
  let spoilt := emberSubs.any fun sub => assocGet r.1 sub != assocGet was sub
  let l := { l with next := some r.1, commit := commit || l.commit, ember := l.ember && !spoilt,
                    flatten := l.flatten && !spoilt }
  r.2.setLayer k l

/-- Higher-numbered enabled layers that share a scaler with a lower one latch without it (R99). -/
def State.dropScalers (s : State) : State :=
  (List.range 16).foldl (fun s k =>
    let t := s.lastSet k
    let n := (assocGet t 0x0C).getD 0xFF
    if assocGet t 0x01 == some 1 && n != 0xFF && s.scalerTaken k n then s.latchSet k t false else s) s

/-- Is the source of layer `k`, latched with ENABLE 1, absent (R100)? -/
def State.layerAbsent (s : State) (k : Nat) : Bool :=
  let t := s.lastSet k
  assocGet t 0x01 == some 1 && s.sourceAbsent ((assocGet t 0x02).getD 0) ((assocGet t 0x03).getD 0)

/-- EV30 once for the enabled layers whose source has become absent, with their mask (R100). -/
def State.absentCheck (s : State) : State :=
  let ks := (List.range 16).filter fun k => s.layerAbsent k && !(s.layer k).absent
  let s := (List.range 16).foldl (fun s k => s.setLayer k { s.layer k with absent := s.layerAbsent k }) s
  if ks.isEmpty then s else s.raise 30 (beBytes 1 0 ++ beBytes 2 (ks.foldl (fun m k => m + 2 ^ k) 0))

/-- SOB: every set in a layer's pending register latches, merged over the set before it; one that came in this cycle waits (R96). -/
def State.latchLayers (s : State) : State :=
  let s := (List.range 16).foldl (fun s k =>
    let l := s.layer k
    let r := pendFold s.clock.cclk l.pend l.fresh
    match r.1 with
    | none => s
    | some p => ((s.setLayer k { l with pend := none, fresh := r.2 }).latchSet k (setOver (s.lastSet k) p) true).noteChange) s
  s.dropScalers

/-- A raster takes up the latched sets (R97): EV09 and APPLIED_FRAME for the committed ones. -/
def State.takeSets (s : State) : State :=
  (List.range 16).foldl (fun s k =>
    let l := s.layer k
    match l.next with
    | none => s
    | some set =>
      let held := if assocGet set 0x02 = some 1 then (s.stream ((assocGet set 0x03).getD 0)).cur else none
      let s := s.setLayer k { l with cur := set, next := none, commit := false, frame := held }
      if l.commit then
        (s.setReg (Reg.key (0x4101 + 16 * k) 1) s.frame).raise 9 (beBytes 1 k ++ beBytes 8 s.frame)
      else s) s

/-- Commit fields of layer `k` applied at a boundary enter its pending register, over the waiting ones (R96). -/
def State.pendLayer (s : State) (k : Nat) (fields : List (Nat × Nat)) : State :=
  let l := s.layer k
  let r := pendPut s.clock.cclk l.pend l.fresh fields
  s.setLayer k { l with pend := r.1, fresh := r.2 }

/-! ### The ember cache (R128, R130) -/

/-- Bytes of layer `k`'s ember entry: the window clipped to the active raster. -/
def State.emberBytes (s : State) (k : Nat) : Nat :=
  emberSize ((s.layer k).f 0x11) * (s.emberWin k).2.2.1 * (s.emberWin k).2.2.2

/-- Does layer `k`'s entry lie within the ember region? -/
def State.emberFits (s : State) (k : Nat) : Bool :=
  decide (s.reg (layerReg k 0x12) * 1024 + s.emberBytes k ≤ s.regions.getD 3 0 * 1048576)

/-- Is layer `k` static without a valid entry, its source there? -/
def State.wantsEmber (s : State) (k : Nat) : Bool :=
  let l := s.layer k
  l.f 0x01 == 1 && l.f 0x10 == 1 && !l.ember && s.sourceShown l

/-- A flattening pass writes line `y` of layer `k`'s entry as a side effect of composing it: a line that is blank is written
transparent. A SOLID layer has no code values, and its entry holds none (DESIGN CHOICE, log 84). -/
def State.emberLine (s : State) (k y : Nat) : State :=
  let l := s.layer k
  let w := s.emberWin k
  if s.wantsEmber k && s.emberFits k && l.f 0x02 != 4 && decide (w.2.1 ≤ y) && decide (y < w.2.1 + w.2.2.2) then
    s.ramWrite false (s.emberAt k w.1 y) ((List.range w.2.2.1).flatMap fun i =>
      emberPack (l.f 0x11) (if l.blankAt y then { r := 0, g := 0, b := 0, a := 0 }
        else (s.sourcePix k (w.1 + i) y).getD { r := 0, g := 0, b := 0, a := 0 }))
  else s

/-- SOB of a composed raster: the flattening pass of layer `k` is counted, or the raster in which its entry does not fit; the entry
becomes valid with the next raster, unless the layer underran (R130, R160). -/
def State.flattenNote (s : State) (k : Nat) : State :=
  if !s.wantsEmber k then s
  else if s.emberFits k then (s.setLayer k { s.layer k with flatten := (s.layer k).under.isNone }).incReg Reg.flattens
  else s.incReg Reg.flattenSkipped

/-- The raster that flattened layer `k` has ended: its entry is valid. -/
def State.emberDone (s : State) (k : Nat) : State :=
  let l := s.layer k
  if l.flatten then s.setLayer k { l with flatten := false, ember := true } else s

/-- Every ember entry becomes invalid. -/
def State.emberEmpty (s : State) : State :=
  { s with comp := { s.comp with layers := s.comp.layers.map fun (l : LayerSt) => { l with ember := false, flatten := false } } }

/-! ### Surfaces (R109, R110) -/

/-- Does a surface image keep R110: its fields in range (Table 4.6), its CRC and, when packed, R114? Reserved bits are ignored. -/
def surfaceOk (img : Bytes) : Bool :=
  let fmt := field img 2 1
  let w := field img 4 2
  let h := field img 6 2
  let len := field img 12 4
  let px := [4, 4, 8, 3].getD fmt 0
  let d := slice img 32 len
  decide (field img 0 2 ≤ 1023) && decide (fmt ≤ 4) && decide (1 ≤ w) && decide (w ≤ 8192) && decide (1 ≤ h) && decide (h ≤ 8192) &&
    (fmt == 4 || decide (w * px ≤ field img 8 4)) && decide (32 + len ≤ img.length) && field img 16 4 == crc32 d &&
    (fmt != 4 || packOk d)

/-- The head of the surface an image holds, its bytes to stand at `addr`. -/
def surfaceOf (img : Bytes) (addr : Nat) : Surface :=
  let len := field img 12 4
  if field img 2 1 = 4 then { fmt := 4, w := field img 40 2, h := field img 42 2, stride := 0, addr := addr, len := len }
  else { fmt := field img 2 1, w := field img 4 2, h := field img 6 2, stride := field img 8 4, addr := addr, len := len }

/-- Bytes of the surface store in use. -/
def State.storeUsed (s : State) : Nat := (s.comp.surf.slots.map fun p => p.2.len).sum

/-- SURFACE_BASE of the LAYERS section. -/
def State.storeBase (s : State) : Nat := field (s.activeSec 0x20) 16 8

/-- SURFACE_SIZE of the LAYERS section. -/
def State.storeSize (s : State) : Nat := field (s.activeSec 0x20) 24 8

/-- The first address behind the surfaces stored. -/
def State.storeTop (s : State) : Nat := s.comp.surf.slots.foldl (fun m p => max m (p.2.addr + p.2.len)) s.storeBase

/-- Move the stored surfaces together at the start of the store, in the order in which they were stored. -/
def State.storeCompact (s : State) : State :=
  let all := s.comp.surf.slots.map fun p => (p, s.surfBytes p.2)
  (all.foldl (fun (r : Nat × State) x =>
    let t := r.2.ramWrite true r.1 x.2
    (r.1 + x.1.2.len, { t with comp := { t.comp with surf := { t.comp.surf with
      slots := assocSet t.comp.surf.slots x.1.1 { x.1.2 with addr := r.1 } } } })) (s.storeBase, s)).2

/-- Room for `len` bytes behind the surfaces stored, which move together when there is none (DESIGN CHOICE, log 61). -/
def State.storeRoom (s : State) (len : Nat) : State :=
  if s.storeTop + len ≤ s.storeBase + s.storeSize then s else s.storeCompact

/-- Store an image in its slot; a malformed one, or one that does not fit, leaves the slot empty (R110). The flag says that it
was stored. -/
def State.storeSurface (s : State) (img : Bytes) : Bool × State :=
  let n := field img 0 2
  let len := field img 12 4
  let c := s.comp.surf
  let s := { s with comp := { s.comp with surf := { c with slots := assocDel c.slots n, rejected := c.rejected.filter fun x => x != n } } }
  if surfaceOk img && decide (s.storeUsed + len ≤ s.storeSize) then
    let s := s.storeRoom len
    let at_ := s.storeTop
    let s := s.ramWrite true at_ (slice img 32 len)
    (true, { s with comp := { s.comp with surf := { s.comp.surf with slots := assocSet s.comp.surf.slots n (surfaceOf img at_) } } })
  else
    (false, { s with comp := { s.comp with surf := { s.comp.surf with rejected := n :: s.comp.surf.rejected } } })

/-- Is slot `n` referenced by a latched or pending layer set, or by the current entry of a playing loop (R110)? -/
def State.slotHeld (s : State) (n : Nat) : Bool :=
  let named := fun (t : List (Nat × Nat)) =>
    let k := (assocGet t 0x02).getD 0
    (k == 2 || k == 5) && assocGet t 0x03 == some n
  (s.comp.layers.any fun l => l.sets.any named) ||
  (s.comp.loops.any fun l => l.state == 2 && (l.cur.map fun e => e.surface == n).getD false)

/-- SURF_STATE of slot `n`: 0 empty, 1 valid, 2 in use, 3 rejected. -/
def State.surfState (s : State) (n : Nat) : Nat :=
  if s.comp.surf.rejected.contains n then 3
  else if (assocGet s.comp.surf.slots n).isNone then 0
  else if s.slotHeld n then 2 else 1

/-- The boundary after a SURF_DATA transfer: the image enters its slot, or is rejected with EV45 (R110). -/
def State.storeDue (s : State) : State :=
  let due := s.comp.surf.due
  let s := { s with comp := { s.comp with surf := { s.comp.surf with due := [] } } }
  due.foldl (fun s p =>
    let r := s.storeSurface p.2
    let s := r.2.noteChange
    if r.1 then s else s.rejected 0x4520 1 p.1.source 0x0107 4 0) s

/-! ### Loops (R111 to R113) -/

/-- Make the entry at `i` of loop `j` current. -/
def State.loopTo (s : State) (j i st : Nat) : State :=
  let l := s.loop j
  match l.items[i]? with
  | none => s
  | some e =>
    let s := (s.setLoop j { l with cur := some e, pos := some i, tick := 0, state := st, moved := true }).noteChange
    (List.range 16).foldl (fun s k =>
      let y := s.layer k
      if y.f 0x02 = 3 ∧ y.f 0x03 = j then
        (s.setLayer k { y with ember := false, flatten := false, moved := true }).incReg (Reg.key (0x4101 + 16 * k) 2)
      else s) s

/-- LOOP_ADVANCE: the current entry's dwell has ended (R111). -/
def State.loopAdvance (s : State) (j : Nat) : State :=
  let l := s.loop j
  match l.cur with
  | none => s
  | some e =>
    if l.state ≠ 2 ∨ l.tick < e.dwell then s
    else
      let next := match l.pos with
        | some p => p + 1
        | none => 0
      if next < l.items.length then s.loopTo j next 2
      else if l.mark = 1 then s.loopTo j l.markAt 2
      else s.setLoop j { l with state := 3, tick := e.dwell - 1 }

/-- Time in a loop's entry: one boundary more while it plays; its ramp factor may change. At the end of the dwell LOOP_ADVANCE says
what follows. -/
def State.loopTick (s : State) (j : Nat) : State :=
  let l := s.loop j
  match l.cur with
  | none => s
  | some e =>
    if l.state ≠ 2 then s.setLoop j { l with moved := false }
    else
      let moved := decide (l.tick + 1 < e.dwell) && loopRamp e l.tick != loopRamp e (l.tick + 1)
      let s := s.setLoop j { l with tick := l.tick + 1, moved := moved }
      if moved then s.noteChange else s

/-- LOOP_START: the first retained entry becomes current. -/
def State.loopStart (s : State) (j : Nat) : State := if (s.loop j).state = 0 then s else s.loopTo j 0 2

/-- LOOP_STOP: the current entry is held. -/
def State.loopStop (s : State) (j : Nat) : State :=
  let l := s.loop j
  if l.state = 2 then (s.setLoop j { l with state := 3 }).noteChange else s

/-- LOOP_REWIND: the marked entry becomes current; 0x0702 without a valid mark. -/
def State.loopRewind (s : State) (j : Nat) : Nat × State :=
  let l := s.loop j
  if l.mark = 1 then (0, s.loopTo j l.markAt 2) else (0x0702, s)

/-- The entry and MARK of 16 bytes (Table 4.15), its quantities clamped. -/
def loopEntryOf (b : Bytes) : LoopEntry × Bool :=
  ({ surface := field b 0 2, dwell := max 1 (field b 2 2), ramp := min 32767 (field b 4 2) }, bit (field b 6 1) 0)

/-- Append an entry (R113). -/
def State.loopAppend (s : State) (j : Nat) (b : Bytes) : State :=
  let l := s.loop j
  let e := loopEntryOf b
  let loss := fun (s : State) => s.raiseLoss 32 (36 + j) 1 (beBytes 2 (36 + j) ++ beBytes 4 1)
  if l.state = 0 then s
  else if s.poolFree = 0 ∧ l.items.isEmpty then loss (s.setLoop j { l with lost := min (l.lost + 1) (two32 - 1) })
  else
    let full := decide (l.cap ≤ l.items.length) || s.poolFree == 0
    let lostMark := full && l.mark == 1
    let l := if full then
        { l with items := l.items.drop 1, pos := (match l.pos with
                                                    | some (p + 1) => some p
                                                    | _ => none),
                 mark := if l.mark = 1 then 2 else l.mark, lost := min (l.lost + 1) (two32 - 1) }
      else l
    let l := if e.2 then { l with items := [e.1], mark := 1, markAt := 0, pos := none } else { l with items := l.items ++ [e.1] }
    let s := ((s.setLoop j l).seeDepth (36 + j) l.items.length).poolCheck
    let s := if lostMark then s.raise 31 (beBytes 2 (36 + j)) else s
    if full then loss s else s

end Sys2Proof.Machine
end

