-- ==== Sys2Proof/Machine/Tasks.lean ====
section
/-! DEFINITION. Task types that work on memory and queues (Table 14.1), the scheduler's rows, the arbiter's, the queue
engine's walks and spill bursts, and the belay monitor's scrubbers and engine tests (R378, R380, R386 to R405, R432,
R433). -/

namespace Sys2Proof.Machine

/-! ### Work of the task types -/

/-- A read of `n` bytes at `a` by a task: `ecc` says what the check bits showed, 0 nothing, 1 a single-bit error, 2 an
uncorrectable one. The flag says that the read is good (R399, R429). Cells of the pool have no check bits to show (R26). -/
def State.taskRead (s : State) (sp : Bool × Nat) (n ecc : Nat) : Bool × State :=
  if s.poisoned sp.1 sp.2 n then (false, s)
  else if s.inPool sp.1 sp.2 then (true, s)
  else if ecc = 2 then (false, s.eccBad sp.1 sp.2)
  else if ecc = 1 then (true, s.incReg Reg.eccCorrected)
  else (true, s)

/-- NOP: nothing; it marks an instant in the trace. -/
def workNop (t : Task) (s : State) : After × State := (.ended t 0, s)

/-- COPY up to the next 4,096 bytes. -/
def workCopy (ecc : Nat) (t : Task) (s : State) : After × State :=
  let len := dLen t.row
  let n := min 4096 (len - t.prog)
  let src := ((addrOf (dSrc t.row)).1, (addrOf (dSrc t.row)).2 + t.prog)
  let dst := addrOf (dDst t.row)
  if n = 0 then (.ended t 0, s)
  else
    let r := s.taskRead src n ecc
    if !r.1 then (.faulted t, r.2)
    else
      let s := r.2.ramWrite dst.1 (dst.2 + t.prog) (r.2.ramRead src.1 src.2 n)
      let t := { t with prog := t.prog + n }
      (if t.prog < len then .goOn t else .ended t 0, s)

/-- FILL up to the next 4,096 bytes. -/
def workFill (t : Task) (s : State) : After × State :=
  let len := dLen t.row
  let n := min 4096 (len - t.prog)
  let dst := addrOf (dDst t.row)
  let pat := slice t.row 36 8
  if n = 0 then (.ended t 0, s)
  else
    let s := s.ramWrite dst.1 (dst.2 + t.prog) ((List.range n).map fun i => pat.getD ((t.prog + i) % 8) 0)
    let t := { t with prog := t.prog + n }
    (if t.prog < len then .goOn t else .ended t 0, s)

/-- CRC32 up to the next 4,096 bytes; at the end the CRC goes to DST, and a mismatch under COMPARE faults the task. -/
def workCrc (ecc : Nat) (t : Task) (s : State) : After × State :=
  let len := dLen t.row
  let n := min 4096 (len - t.prog)
  let src := ((addrOf (dSrc t.row)).1, (addrOf (dSrc t.row)).2 + t.prog)
  let dst := addrOf (dDst t.row)
  if n = 0 then (.ended t 0, s)
  else
    let r := s.taskRead src n ecc
    if !r.1 then (.faulted t, r.2)
    else
      let acc := (r.2.ramRead src.1 src.2 n).foldl crcByte (if t.prog = 0 then 0xFFFFFFFF else t.acc)
      let t := { t with prog := t.prog + n, acc := acc }
      if t.prog < len then (.goOn t, r.2)
      else
        let v := acc ^^^ 0xFFFFFFFF
        let s := r.2.ramWrite dst.1 dst.2 (beBytes 4 v)
        (if bit (dParam t.row 4 1) 0 && v != dParam t.row 0 4 then .faulted t else .ended t 0, s)

/-- GATHER: one entry of its table, range-checked as it is taken (R399). -/
def workGather (ecc : Nat) (t : Task) (s : State) : After × State :=
  let n := dParam t.row 8 4
  if n ≤ t.prog then (.ended t 0, s)
  else
    let tab := addrOf (dParam t.row 0 8)
    let e := s.ramRead tab.1 (tab.2 + 24 * t.prog) 24
    let src := addrOf (field e 0 8)
    let dst := addrOf (field e 8 8)
    let len := field e 16 4
    if s.poisoned tab.1 (tab.2 + 24 * t.prog) 24 || !rangeOk s.regions s.dramSize src.1 src.2 len ||
        !rangeOk s.regions s.dramSize dst.1 dst.2 len then (.faulted t, s)
    else
      let r := s.taskRead src len ecc
      if !r.1 then (.faulted t, r.2)
      else
        let s := r.2.ramWrite dst.1 dst.2 (r.2.ramRead src.1 src.2 len)
        let t := { t with prog := t.prog + 1 }
        (if t.prog < n then .goOn t else .ended t 0, s)

/-- A task's next item: the one passed to its read, or the oldest of IN_QUEUE. -/
def State.nextItem (s : State) (t : Task) : Option (Bytes × State) :=
  match t.hand with
  | some x => some (x, s)
  | none => s.popIn (dIn t.row)

/-- What a read of an empty IN_QUEUE comes to: an event-released task ends, a holder of a carabiner ends QUEUE_EMPTY, another
stalls up to STALL_TICKS (R376, R390, R413). -/
def State.readEmpty (s : State) (t : Task) : After × State :=
  if t.entry.isNone then (.ended t 0, s)
  else if dCb t.row < 64 then (.emptyEnd t, s)
  else
    let lim := dStall t.row
    let r : Reader := { task := t.id, until_ := if lim = 0 then none else some (s.tickIdx + lim) }
    (.goOn { t with stalled := true }, s.stallOn (dIn t.row) r)

/-- Push an item to OUT_QUEUE; a refusal keeps it waiting (R372). -/
def State.taskPush (s : State) (t : Task) (x : Bytes) : Task × State :=
  if dOut t.row = 0xFFFF then ({ t with hand := none, prog := t.prog + 1 }, s)
  else
    let r := s.pushAny (dOut t.row) x
    if r.1 then ({ t with hand := none, prog := t.prog + 1 }, r.2)
    else ({ t with hand := none, blocked := some (x, s.clock.cclk + 1) }, r.2)

/-- QUEUE_MOVE: one item from IN_QUEUE to OUT_QUEUE. -/
def workMove (t : Task) (s : State) : After × State :=
  let most := dParam t.row 0 4
  if most ≠ 0 ∧ most ≤ t.prog then (.ended t 0, s)
  else
    match s.nextItem t with
    | none => if most = 0 then (.ended t 0, s) else s.readEmpty t
    | some (x, s) =>
      let r := s.taskPush t x
      (if r.1.blocked.isNone && most != 0 && decide (most ≤ r.1.prog) then .ended r.1 0 else .goOn r.1, r.2)

/-- SIGNAL: one item of LENGTH bytes from PARAM to OUT_QUEUE. -/
def workSignal (t : Task) (s : State) : After × State :=
  let n := min 24 (dLen t.row)
  if n = 0 ∨ 0 < t.prog then (.ended t 0, s)
  else
    let r := s.taskPush t (slice t.row 40 n)
    (if r.1.blocked.isSome then .goOn r.1 else .ended r.1 0, r.2)

/-- The descriptor index of the belay monitor's own tasks: engine tests and DRAM scrubs (assumption log 24). -/
def ownTest (e : Nat) : Nat := 0xFFFF00 + e
/-- The descriptor index of the belay monitor's DRAM scrub tasks. -/
def ownScrub : Nat := 0xFFFFF0

/-- A 64-byte descriptor of the belay monitor's own. -/
def ownRow (ty engines src len : Nat) : Bytes :=
  beBytes 1 ty ++ beBytes 1 0 ++ beBytes 2 engines ++ beBytes 2 0xFFFF ++ beBytes 2 0xFFFF ++ beBytes 1 0xFF ++ beBytes 3 0 ++
    beBytes 4 0 ++ beBytes 8 src ++ beBytes 8 0 ++ beBytes 4 len ++ List.replicate 28 0

/-- A scrub pass begins: of DRAM, or of the Hearth (R432). -/
def State.scrubPass (s : State) (dram : Bool) : State :=
  let now := s.clock.cclk
  { s with sched :=
      if dram then { s.sched with dramFrom := now, dramPer := ms (1000 * s.reg Reg.scrubDramS), dramAt := 0, dramLast := none }
      else { s.sched with scrubFrom := now, scrubPer := ms (s.reg Reg.scrubHearthMs) } }

/-- SCRUB up to the next 4,096 bytes: single-bit errors are corrected with EV56; poison is left as it is (R429, R432). -/
def workScrub (ecc : Nat) (t : Task) (s : State) : After × State :=
  let len := dLen t.row
  let n := min 4096 (len - t.prog)
  let src := ((addrOf (dSrc t.row)).1, (addrOf (dSrc t.row)).2 + t.prog)
  let ecc := if s.inPool src.1 src.2 then 0 else ecc
  if n = 0 || (t.desc == ownScrub && !s.flag Reg.scrubEn) then (.ended t 0, s)
  else if ecc = 2 && !s.poisoned src.1 src.2 n then (.faulted t, s.eccBad src.1 src.2)
  else
    let s := if ecc = 1 then
        (s.incReg Reg.eccCorrected).raise 56 (beBytes 8 src.2 ++ beBytes 1 (if src.1 then 1 else 0))
      else s
    let t := { t with prog := t.prog + n }
    if t.prog < len then (.goOn t, s)
    else if s.sched.dramLast = some t.id then (.ended t 0, ((s.scrubPass true).incReg Reg.scrubPasses).clearActive 0x14)
    else (.ended t 0, s)

/-- SELF_TEST: a failed pattern captures ENGINE_SELF_TEST (R433). -/
def workTest (e : Nat) (pass : Bool) (t : Task) (s : State) : After × State :=
  let s := s.setEngine e { s.engine e with testDue := none }
  let t := { t with prog := 1 }
  if pass then (.ended t 0, s) else (.ended t 0, (s.setActive 0x11).capture 0x11 e t.id)

/-! ### Scrubbing and tests (R432, R433) -/

/-- Is Hearth line `n` outside the cell pool? -/
def State.lineScrubbed (s : State) (n : Nat) : Bool :=
  decide (n < 2097152) && !s.inPool false (n * 64)

/-- The last Hearth line of a pass: the one before the cell pool where the pool ends the Hearth. -/
def State.lastLine (s : State) : Nat := if s.lineScrubbed 2097151 then 2097151 else s.regionAt 4 / 64 - 1

/-- HEARTH_SCRUB: the scrubber reads line `n` through the BM port of its bank; `ecc` as for a task's read. The last line ends the
pass. -/
def State.hearthScrub (s : State) (n ecc : Nat) : State :=
  if !s.flag Reg.scrubEn || !s.domOn 3 || !s.alive || !s.lineScrubbed n || !s.bmReady (hearthBank (n * 64)) then s
  else
    let s := s.bmGrant (hearthBank (n * 64))
    let s :=
      if s.poisoned false (n * 64) 64 then s
      else if ecc = 2 then s.eccBad false (n * 64)
      else if ecc = 1 then (s.incReg Reg.eccCorrected).raise 56 (beBytes 8 (n * 64) ++ beBytes 1 0)
      else s
    if n = s.lastLine then ((s.scrubPass false).incReg Reg.scrubPasses).clearActive 0x14 else s

/-- SCRUB_STALLED: a pass has not completed within twice its period. -/
def State.scrubStalled (s : State) (dram : Bool) : State :=
  let due := if dram then s.sched.dramFrom + 2 * s.sched.dramPer else s.sched.scrubFrom + 2 * s.sched.scrubPer
  if s.flag Reg.scrubEn && s.alive && s.domOn (if dram then 7 else 3) then
    let s := s.reachCclk due
    if s.clock.cclk = due ∨ due < s.clock.cclk then (s.setActive 0x14).capture 0x14 (if dram then 1 else 0) due else s
  else s

/-- DRAM_SCRUB_RELEASE: the next 16 MB of DRAM as a SCRUB task into ready list 7, from the activation on (R442). A pass whose last task
is gone without completing, faulted or cancelled, starts again from the first byte (DESIGN CHOICE, log 93). -/
def State.dramScrubRelease (s : State) : State :=
  let there := s.tasks.any fun t => some t.id == s.sched.dramLast
  if !s.flag Reg.scrubEn || !s.domOn 7 || !s.domOn 1 || s.topo.active.isNone || there then s
  else
    let s := if s.sched.dramLast.isSome then { s with sched := { s.sched with dramLast := none, dramAt := 0 } } else s
    let a := s.sched.dramAt
    let len := min 16777216 (s.dramSize - a)
    let r := s.release ownScrub (ownRow 10 0x0FFF (2 ^ 63 + a) len) none none 7 0x11
    if !r.1 then r.2.2
    else
      let last := decide (s.dramSize ≤ a + len)
      let s := r.2.2
      { s with sched := { s.sched with dramAt := if last then 0 else a + len,
                                       dramLast := if last then some r.2.1.id else none } }

/-- One engine's turn of ENGINE_TEST_RELEASE: a test of the last round not completed fails; otherwise a new one is released. -/
def State.testRelease (s : State) (e : Nat) : State :=
  let x := s.engine e
  if x.out || !s.domOn (if e < 12 then 1 else 2) then s
  else if x.testDue.isSome then
    ((s.setEngine e { x with testDue := none }).setActive 0x11).capture 0x11 e 0
  else
    let r := s.release (ownTest e) (ownRow 11 (2 ^ e) 0 0) none none 0 0x11
    if r.1 then
      let s := r.2.2
      s.setEngine e { s.engine e with testDue := some (s.clock.cclk + ms (s.reg Reg.selftestMs)) }
    else r.2.2

/-- ENGINE_TEST_RELEASE: each SELFTEST_MS, while SELFTEST_EN is 1, from the activation of a topo on (R433, R442). -/
def State.testRound (s : State) : State :=
  if !s.flag Reg.selftestEn || s.topo.active.isNone || !s.alive then s
  else
    let s := s.reachCclk s.sched.testAt
    let s := { s with sched := { s.sched with testAt := s.clock.cclk + ms (s.reg Reg.selftestMs) } }
    (List.range 16).foldl State.testRelease s

/-- LINK_WALK: a walk of every queue and the free list; `bad` says that a check failed, at `cell` of `queue` (R378). -/
def State.linkWalk (s : State) (bad : Bool) (queue cell : Nat) : State :=
  if !s.domOn 3 then s
  else
    let s := s.incReg Reg.walks
    if bad then (s.incReg Reg.walkFaults).capture 0x13 queue cell else s

/-! ### Rows -/

/-- PLAN_RELEASE (R389). -/
def execPlanRelease (entry : Nat) (s : State) : Host.Outcome State Fault Refusal := s.done (s.planRelease entry)

/-- EVENT_RELEASE (R390). -/
def execEventRelease (desc : Nat) (s : State) : Host.Outcome State Fault Refusal := s.done (s.eventRelease desc)

/-- PREFETCH (R392). -/
def execPrefetch (engine : Nat) (s : State) : Host.Outcome State Fault Refusal := s.done (s.prefetch engine)

/-- DISPATCH (R394). -/
def execDispatch (engine : Nat) (s : State) : Host.Outcome State Fault Refusal := s.done (s.dispatch engine)

/-- DEADLINE_MISS (R398). -/
def execDeadlineMiss (task : Nat) (s : State) : Host.Outcome State Fault Refusal := s.done (s.deadlineMiss task)

/-- QUEUE_READ_TIMEOUT (R376). -/
def execQueueReadTimeout (engine : Nat) (s : State) : Host.Outcome State Fault Refusal := s.done (s.readTimeout engine)

/-- SPILL_BURST_WRITE (R380). -/
def execSpillBurstWrite (q : Nat) (s : State) : Host.Outcome State Fault Refusal := s.done (s.spillBurst q)

/-- SPILL_READBACK (R380). -/
def execSpillReadback (q : Nat) (s : State) : Host.Outcome State Fault Refusal := s.done (s.spillReadback q)

/-- LINK_WALK (R378). -/
def execLinkWalk (bad : Bool) (queue cell : Nat) (s : State) : Host.Outcome State Fault Refusal :=
  s.done (s.linkWalk bad queue cell)

/-- ARBITRATION (R402). -/
def execArbitration (dram : Bool) (bank : Nat) (bm : Bool) (reqs : List (Nat × Nat)) (s : State) :
    Host.Outcome State Fault Refusal :=
  s.done (s.arbitrate dram bank bm reqs)

/-- LEASE_END (R409). -/
def execLeaseEnd (cb : Nat) (s : State) : Host.Outcome State Fault Refusal := s.done (s.leaseEnd cb)

/-- NOP (R387). -/
def execNop (engine : Nat) (s : State) : Host.Outcome State Fault Refusal := s.done (s.runTask engine 0 workNop)

/-- COPY (R387). -/
def execCopy (engine ecc : Nat) (s : State) : Host.Outcome State Fault Refusal := s.done (s.runTask engine 1 (workCopy ecc))

/-- FILL (R387). -/
def execFill (engine : Nat) (s : State) : Host.Outcome State Fault Refusal := s.done (s.runTask engine 2 workFill)

/-- CRC32 (R387). -/
def execCrc32 (engine ecc : Nat) (s : State) : Host.Outcome State Fault Refusal := s.done (s.runTask engine 3 (workCrc ecc))

/-- GATHER (R387). -/
def execGather (engine ecc : Nat) (s : State) : Host.Outcome State Fault Refusal :=
  s.done (s.runTask engine 9 (workGather ecc))

/-- SCRUB (R387). -/
def execScrub (engine ecc : Nat) (s : State) : Host.Outcome State Fault Refusal :=
  s.done (s.runTask engine 10 (workScrub ecc))

/-- SELF_TEST (R387, R433). -/
def execSelfTest (engine : Nat) (pass : Bool) (s : State) : Host.Outcome State Fault Refusal :=
  s.done (s.runTask engine 11 (workTest engine pass))

/-- HEARTH_SCRUB (R432). -/
def execHearthScrub (line ecc : Nat) (s : State) : Host.Outcome State Fault Refusal := s.done (s.hearthScrub line ecc)

/-- SCRUB_STALLED (R432). -/
def execScrubStalled (dram : Bool) (s : State) : Host.Outcome State Fault Refusal := s.done (s.scrubStalled dram)

/-- DRAM_SCRUB_RELEASE (R432). -/
def execDramScrubRelease (s : State) : Host.Outcome State Fault Refusal := s.done s.dramScrubRelease

/-- ENGINE_TEST_RELEASE (R433). -/
def execEngineTestRelease (s : State) : Host.Outcome State Fault Refusal := s.done s.testRound

end Sys2Proof.Machine
end

