-- ==== Sys2Proof/Machine/Mapping.lean ====
section
/-! DEFINITION. The map unit (R170 to R184): classes and map entries, the gather and the colour chain into COMPOSE, its signature
and read-back, intensity groups and fades; and the task types that decode packed files and load banks. -/

namespace Sys2Proof.Machine

/-! ### Classes and entries -/

/-- A map entry (Table 6.3). -/
structure MapEntry where
  mode  : Nat
  cls   : Nat
  group : Nat
  x     : Nat
  y     : Nat
  fx    : Nat
  fy    : Nat
  base  : Nat
  endp  : Nat
  param : Nat
  deriving DecidableEq, Repr

/-- The entry that 16 bytes spell. -/
def mapEntryOf (b : Bytes) : MapEntry :=
  let v := beNat (b.take 16)
  { mode := bits v 127 125, cls := bits v 124 119, group := bits v 118 109, x := bits v 108 96, y := bits v 95 83,
    fx := bits v 82 79, fy := bits v 78 75, base := bits v 74 53, endp := bits v 52 33, param := bits v 32 11 }

/-- Is it a raster entry? -/
def MapEntry.raster (e : MapEntry) : Bool := decide (1 ≤ e.mode) && decide (e.mode ≤ 4)

/-- Its footprint height h (R172). -/
def MapEntry.height (e : MapEntry) : Nat :=
  match e.mode with
  | 1 => 1 | 3 => 4 | _ => 2

/-- Its key K at `vact` active lines (R172, R174). -/
def MapEntry.key (vact : Nat) (e : MapEntry) : Nat := min (vact - 1) (e.y + e.height - 1)

/-- Class record `c` of a CLASSES section (Table 6.1). -/
def classRec (sec : Bytes) (c : Nat) : Bytes := slice sec (160 * c) 160

/-- N of a class record. -/
def classN (r : Bytes) : Nat := min 8 (field r 0 1)

/-- Channel descriptor `c` of a class record (Table 6.2). -/
def chanDesc (r : Bytes) (c : Nat) : Nat := field r (16 + 4 * c) 4

/-- CCLK an entry costs (R175). -/
def entryCost (n : Nat) (e : MapEntry) : Nat := 1 + (if 5 ≤ n then 1 else 0) + (if e.mode = 3 then 3 else 0)

/-- ENTRY_COUNT in force. -/
def State.mapCount (s : State) : Nat := field (s.activeSec 0x42) 0 4

/-- Map entry `i`, as the map region of the Hearth holds it (R172). -/
def State.mapEntry (s : State) (i : Nat) : MapEntry := mapEntryOf (s.ramRead false (s.regionAt 1 + 16 * i) 16)

/-- Declared universes (R191). -/
def State.uniCount (s : State) : Nat := field (s.activeSec 0x47) 0 2

/-- Where the merge-store slots of universe entry `i` stand: at the start of scratch, the snapshot of the same size behind them all
(R190; the place is a DESIGN CHOICE, log 61). -/
def State.storeAt (s : State) (i : Nat) : Nat := s.regionAt 8 + 512 * i

/-- A slot of the merge-store snapshot (R190). -/
def State.snapSlot (s : State) (n : Nat) : Nat := field (s.ramRead false (s.storeAt s.uniCount + n) 1) 0 1

/-! ### Groups (R181) -/

/-- A group's record. -/
def State.group (s : State) (n : Nat) : Group := (assocGet s.buf.groups n).getD {}

/-- A group's effective level from its record (R181). -/
def State.groupLevel (s : State) (g : Group) : Nat :=
  let l := unit16 g.level
  let l := if g.fade = 0xFFFF then l else l * unit16 (s.fadeNow g.fade) / 65536
  if g.band = 0xFF then l else l * (65536 - unit16 g.depth * (65536 - s.bandM g.band) / 65536) / 65536

/-- At the boundary of a composed tick every group's level is computed for that tick. -/
def State.levelGroups (s : State) : State :=
  let l := (s.buf.groups.map fun p => (p.1, s.groupLevel p.2)).filter fun p => p.2 != 65536
  { s with buf := { s.buf with levelsG := l } }

/-- g of group `n` for the tick. -/
def State.levelOf (s : State) (n : Nat) : Nat := (assocGet s.buf.levelsG n).getD 65536

/-! ### The colour chain (R177 to R180) -/

/-- P at a footprint tap, clamped to the active raster (R174). -/
def State.tap (s : State) (x y : Nat) : Pix := s.pixelAt (min (s.timing 1 - 1) x) (min (s.timing 5 - 1) y)

/-- Combine one colour of several pixels. -/
def pixMap (f : (Pix → Nat) → Nat) : Pix := { r := f Pix.r, g := f Pix.g, b := f Pix.b, a := 65535 }

/-- Step 1: the sample of a raster entry (R177). -/
def State.sample (s : State) (e : MapEntry) : Pix :=
  let box := fun (n : Nat) =>
    let taps := (List.range n).flatMap fun j => (List.range n).map fun i => s.tap (e.x + i) (e.y + j)
    pixMap fun c => ((taps.map c).sum + n * n / 2) / (n * n)
  match e.mode with
  | 1 => s.tap e.x e.y
  | 2 => box 2
  | 3 => box 4
  | _ =>
    let a := s.tap e.x e.y
    let b := s.tap (e.x + 1) e.y
    let c := s.tap e.x (e.y + 1)
    let d := s.tap (e.x + 1) (e.y + 1)
    pixMap fun k =>
      ((k a * (16 - e.fx) + k b * e.fx) * (16 - e.fy) + (k c * (16 - e.fx) + k d * e.fx) * e.fy + 128) / 256

/-- Step 2: the matrix value of channel `c` (R178). -/
def State.matrixValue (s : State) (cls : Nat) (r : Bytes) (c : Nat) (p : Pix) : Nat :=
  let a := fun (at_ k : Nat) => toSigned 2 (field r (at_ + 2 * (3 * c + k)) 2)
  if bit (field r 1 1) 2 then
    let w := (assocGet s.buf.weights cls).getD 0
    let m := fun k => matrixMix (a 48 k) (a 96 k) w
    matrixRow (m 0) (m 1) (m 2) p
  else matrixRow (a 48 0) (a 48 1) (a 48 2) p

/-- Slots before channel `c` of a PARAM entry. -/
def paramOffset (r : Bytes) (c : Nat) : Nat :=
  ((List.range c).map fun i => if bit (chanDesc r i) 26 then 2 else 1).sum

/-- Step 2 in PARAM mode: the merge-store snapshot (R178). -/
def State.paramValue (s : State) (e : MapEntry) (r : Bytes) (c : Nat) : Nat :=
  let at_ := e.param + paramOffset r c
  if bit (chanDesc r c) 26 then s.snapSlot at_ * 256 + s.snapSlot (at_ + 1) else s.snapSlot at_ * 257

/-- An entry of the output LUT of a class and colour, from the classes-and-LUTs region (R171). -/
def State.outEntry (s : State) (cls colour i : Nat) : Nat :=
  field (s.ramRead false (s.regionAt 6 + 8192 * (4 * cls + colour) + 2 * i) 2) 0 2

/-- The correction gain of an endpoint and colour, from the correction region; 32,768 where the topo gives none (R171). -/
def State.corrGain (s : State) (endp colour : Nat) : Nat :=
  if (s.activeSec 0x43).isEmpty then 32768 else field (s.ramRead false (s.regionAt 2 + 8 * endp + 2 * colour) 2) 0 2

/-- Steps 3 to 7 on value `v` of channel `c` (R179, R180). -/
def State.chainFrom (s : State) (e : MapEntry) (r : Bytes) (c v : Nat) : Nat :=
  let d := chanDesc r c
  let colour := bits d 31 30
  let flags := field r 1 1
  let v := if bit flags 0 then gain15 v (s.corrGain e.endp colour) else v
  let v := if bit flags 1 then gain15 v (s.buf.temps.getD colour 32768) else v
  let v := v * s.levelOf e.group / 65536
  let v := if bit d 29 then outLut (s.outEntry e.cls colour) v else v
  let t := if bit d 27 && s.flag Reg.ditherGlobal then ditherAt e.endp c s.tickIdx else 32767
  reduceBits (clampNat 8 16 (bits d 25 21)) v t

/-- The value that channel `c` of entry `e` stores. -/
def State.channelValue (s : State) (e : MapEntry) (r : Bytes) (p : Pix) (c : Nat) : Nat :=
  let d := chanDesc r c
  match e.mode with
  | 0 => d % 65536
  | 5 =>
    let v := s.paramValue e r c
    if bit d 28 then v else s.chainFrom e r c v
  | _ =>
    let v := s.matrixValue e.cls r c p
    if bit d 28 then v else s.chainFrom e r c v

/-! ### Buffers -/

/-- Where endpoint buffer `b` stands in the Hearth: L + 1 buffers of equal size share their region; with L = 1 the buffers are 0 and 2
(Table 1.3, R31). -/
def State.bufAt (s : State) (b : Nat) : Nat :=
  s.regionAt 0 + (if s.lat = 1 then b / 2 else b) * (s.regions.getD 0 0 * 1048576 / (s.lat + 1))

/-- A channel of buffer `b`: 2 bytes, most significant first. -/
def State.chan (s : State) (b ch : Nat) : Nat := field (s.ramRead false (s.bufAt b + 2 * ch) 2) 0 2

/-- Write a channel of buffer `b`. -/
def State.putChan (s : State) (b ch v : Nat) : State := s.ramWrite false (s.bufAt b + 2 * ch) (beBytes 2 v)

/-- The buffer transmitted in the current tick (R192). -/
def State.sendBuf (s : State) : Nat := if s.lat = 1 then s.buf.shown else s.buf.send

/-- What one channel write adds to a signature (R176). -/
def sigTerm (ch v : Nat) : Nat := crc32 (beBytes 4 ch ++ beBytes 2 v)

/-- A channel write by the map unit: into COMPOSE, and into W. -/
def State.mapWrite (s : State) (ch v : Nat) : State :=
  let c := s.buf.compose
  let s := s.putChan c ch v
  { s with buf := { s.buf with sigs := s.buf.sigs.set c ((s.buf.sigs.getD c 0 + sigTerm ch v) % two32) } }

/-! ### The gather (R175) -/

/-- Gather one entry through the colour chain. -/
def State.gather (s : State) (e : MapEntry) : State :=
  let r := classRec (s.activeSec 0x40) e.cls
  let p := if e.raster then s.sample e else { r := 0, g := 0, b := 0, a := 0 }
  (List.range (classN r)).foldl (fun s c => s.mapWrite (e.base + c) (s.channelValue e r p c)) s

/-- Work through entries in map order, at most `fuel`: those of keys up to `k`, and after the last raster entry the OFF and PARAM
entries, which at SOB (`all`) start without one. -/
def State.gatherRun (k : Nat) (all : Bool) : Nat → State → State
  | 0, s => s
  | fuel + 1, s =>
    let e := s.mapEntry s.ras.mapNext
    if e.raster && decide (k < e.key (s.timing 5)) || (!e.raster && !all && s.ras.mapNext == 0) then s
    else
      let s := s.gather e
      let cost := entryCost (classN (classRec (s.activeSec 0x40) e.cls)) e
      State.gatherRun k all fuel (s.setRas { s.ras with mapNext := s.ras.mapNext + 1, mapFree := s.ras.mapFree + cost })

/-- The map unit starts the entries of key `k` now; its lag in whole lines counts in MAP_LAG_MAX. -/
def State.gatherKey (s : State) (k : Nat) (all : Bool) : State :=
  let from_ := max s.ras.mapFree s.clock.cclk
  let s := State.gatherRun k all (s.mapCount - s.ras.mapNext) (s.setRas { s.ras with mapFree := from_ })
  let total := s.timing 5 + s.timing 6 + s.timing 7 + s.timing 8
  let lag := (s.ras.mapFree - s.clock.cclk) * s.reg Reg.tickNum * total / (s.reg Reg.tickDen * nsPerSec)
  (s.setRas { s.ras with mapBusy := (k, s.ras.mapFree) :: s.ras.mapBusy }).maxReg Reg.mapLagMax (min lag 65535)

/-- Composition of active line `y` waits while an entry of key at or below y − 64 is not done (R175). -/
def State.stallCheck (s : State) (y : Nat) : State :=
  if !s.ras.stalled && s.ras.mapBusy.any fun p => decide (p.1 + 64 ≤ y) && decide (s.clock.cclk < p.2) then
    (s.setRas { s.ras with stalled := true }).incReg Reg.mapStalls
  else s

/-! ### Read-back (R176) -/

/-- The sum over the channels of map entry `i` as buffer `b` holds them. -/
def State.sumEntry (s : State) (b i : Nat) : Nat :=
  let e := s.mapEntry i
  let n := classN (classRec (s.activeSec 0x40) e.cls)
  ((List.range n).map fun c => sigTerm (e.base + c) (s.chan b (e.base + c))).sum

/-- The read-back of a tick is whole: R is compared with W. -/
def State.sigCompare (s : State) (e : Nat) : State :=
  let b := s.sendBuf
  let r := s.buf.sum
  let s := s.setReg Reg.outSigR r
  if s.buf.sigOk.getD b false && r != s.buf.sigs.getD b 0 then
    (s.incReg Reg.outSigFail).capture 0x09 e r
  else s

/-- SIG_READBACK: up to 4,096 entries of its run; hold ticks and static ticks do not check. -/
def workReadback (e ecc : Nat) (t : Task) (s : State) : After × State :=
  let first := dParam t.row 0 4
  let count := dParam t.row 4 4
  let n := min 4096 (count - t.prog)
  if n = 0 || s.tick.hold || s.ras.noFlip then (.ended t 0, s)
  else if ecc = 2 then (.faulted t, s.eccBad false (first + t.prog))
  else
    let s := if ecc = 1 then s.incReg Reg.eccCorrected else s
    let b := s.sendBuf
    let add := ((List.range n).map fun (i : Nat) => s.sumEntry b (first + t.prog + i)).sum
    let s := { s with buf := { s.buf with sum := (s.buf.sum + add) % two32, seen := s.buf.seen + n } }
    let s := if s.buf.seen = s.mapCount then s.sigCompare e else s
    let t := { t with prog := t.prog + n }
    (if t.prog < count then .goOn t else .ended t 0, s)

/-! ### Flips (R30, R31) -/

/-- The roles rotate (L = 2) or swap (L = 1). -/
def State.rotate (s : State) : State :=
  let b := s.buf
  if s.lat = 1 then { s with buf := { b with compose := b.shown, shown := b.compose } }
  else { s with buf := { b with compose := b.shown, send := b.compose, shown := b.send } }

/-- A flip: the roles change, FLIP_TIME and EV05 (R152). Sets of untimed receive windows that the buffer holds are shown (R211). -/
def State.flip (s : State) : State :=
  let s := s.rotate.setReg Reg.flipTime (time80 s.now)
  let wins := s.egress.wins.map fun (p : Nat × WinSt) => if p.2.placed then (p.1, { p.2 with ready := none, placed := false }) else p
  let s := { s with egress := { s.egress with wins := wins } }
  s.raise 5 (beBytes 8 s.frame)

/-! ### Fades (R183, R184) -/

/-- One tick more of every running fade; those that ended at the boundary before count no longer. -/
def State.fadeStep (s : State) : State :=
  let fs := (s.buf.fades.filter fun f => !f.ended).map fun f => if f.t < f.dur then { f with t := f.t + 1 } else f
  let levels := fs.foldl (fun l f => assocSet l f.slot (fadeLevel f.start f.goal f.dur f.curve f.t)) s.buf.levels
  let s := { s with buf := { s.buf with fades := fs, levels := levels } }
  if fs.isEmpty then s else s.noteChange

/-- At b + D the slot's level equals TARGET: it becomes idle with EV54, and counts as active up to the next boundary. -/
def State.fadeDone (s : State) (slot : Nat) : State :=
  if s.buf.fades.any fun f => f.slot == slot && f.t == f.dur && !f.ended then
    ({ s with buf := { s.buf with fades := s.buf.fades.map fun (f : Fade) => if f.slot = slot then { f with ended := true } else f } }).raise 54
      (beBytes 2 slot)
  else s

/-- FADE_START at its boundary: SLOT, TARGET, DURATION (already clamped), CURVE. A fade of the slot that has reached its target at
this boundary ends first. -/
def State.fadeStart (s : State) (v : Bytes) : State :=
  let slot := field v 0 2
  let s := s.fadeDone slot
  let level := s.fadeNow slot
  let f : Fade := { slot := slot, start := level, goal := field v 2 2, dur := max 1 (field v 4 2), curve := field v 6 1, t := 0 }
  let now := fadeLevel f.start f.goal f.dur f.curve 0
  let fs := (s.buf.fades.filter fun g => g.slot != slot) ++ [f]
  ({ s with buf := { s.buf with fades := fs, levels := assocSet s.buf.levels slot now } }).noteChange

/-- FADE_STOP: the slot idles at its current level. -/
def State.fadeStop (s : State) (slot : Nat) : State :=
  let s := s.fadeDone slot
  ({ s with buf := { s.buf with fades := s.buf.fades.filter fun f => f.slot != slot } }).noteChange

/-- GROUP_SET: a group takes LEVEL. -/
def State.groupSet (s : State) (n level : Nat) : State :=
  ({ s with buf := { s.buf with groups := assocSet s.buf.groups n { s.group n with level := level } } }).noteChange

/-- GROUP_BIND: a group takes FADE, BAND and DEPTH. -/
def State.groupBind (s : State) (v : Bytes) : State :=
  let n := field v 0 2
  let g := { s.group n with fade := field v 2 2, band := field v 4 1, depth := field v 6 2 }
  ({ s with buf := { s.buf with groups := assocSet s.buf.groups n g } }).noteChange

/-! ### Task types that feed composition -/

/-- The RGBA16 bytes of line `y` of a decoded block row. -/
def packedLine (b : Nat) (rct : Bool) (w : Nat) (row : List (List (List Nat))) (y : Nat) : Bytes :=
  (List.range w).flatMap fun x =>
    let p := packedAt b rct w row x y
    beBytes 2 p.r ++ beBytes 2 p.g ++ beBytes 2 p.b ++ beBytes 2 p.a

/-- UNPACK: one block row of the packed file at SRC into RGBA16 at DST (R114 to R118). The bytes of a row that does not decode
are not stated: a free value. -/
def workUnpack (ecc : Nat) (t : Task) (s : State) : After × State :=
  let first := dParam t.row 4 2
  let count := dParam t.row 6 2
  let stride := dParam t.row 0 4
  if count ≤ t.prog || dLen t.row == 0 || stride == 0 then (.ended t 0, s)
  else
    let src := addrOf (dSrc t.row)
    let dst := addrOf (dDst t.row)
    let r := s.taskRead src (dLen t.row) ecc
    if !r.1 then (.faulted t, r.2)
    else
      let s := r.2
      let d := s.ramRead src.1 src.2 (dLen t.row)
      let p := packHead d
      let n := first + t.prog
      let lines := min 8 (p.2.2.2.2 - 8 * n)
      let at_ := fun y => dst.2 + (8 * t.prog + y) * stride
      let s := match packedRow d n with
        | some row =>
          (List.range lines).foldl (fun s y => s.ramWrite dst.1 (at_ y) (packedLine p.1 p.2.2.1 p.2.2.2.1 row y)) s
        | none =>
          (List.range lines).foldl (fun s y =>
            let v := s.drawWord (64 * p.2.2.2.1)
            v.2.ramWrite dst.1 (at_ y) (beBytes (8 * p.2.2.2.1) v.1)) s
      let t := { t with prog := t.prog + 1 }
      (if t.prog < count then .goOn t else .ended t 0, s)

/-- The 224 coefficients of a bank image (R123). -/
def coefsOf (b : Bytes) : List Int := (List.range 224).map fun i => clampInt (-2048) 2047 (toSigned 2 (field b (2 * i) 2))

/-- The 1,024 entries of a LUT bank image: 4 bytes each for a layer, 2 for the encode LUT (R124). -/
def lutOf (sel : Nat) (b : Bytes) : List Nat :=
  (List.range 1024).map fun i => if sel < 0x20 then field b (4 * i) 4 % 1048576 else field b (2 * i) 2

/-- Store a coefficient bank. -/
def State.putCoefs (s : State) (bank : Nat) (b : Bytes) : State :=
  ({ s with comp := { s.comp with coefs := assocSet s.comp.coefs bank (coefsOf b) } }).noteChange

/-- The coefficients of a bank image that R123 clamps, as given and as applied. -/
def coefClamps (b : Bytes) : List (Int × Int) :=
  ((List.range 224).map fun i => (toSigned 2 (field b (2 * i) 2), clampInt (-2048) 2047 (toSigned 2 (field b (2 * i) 2)))).filter
    fun p => p.1 != p.2

/-- Store a coefficient bank written by `src`, with a clamp record and EV44 for each coefficient clamped (R17, R123). -/
def State.writeCoefs (s : State) (src : Nat × Nat) (bank : Nat) (b : Bytes) : State :=
  ((coefClamps b).foldl (fun (s : State) p => s.clamped 0x4201 2 src 0 (ofSigned 8 p.1) (ofSigned 8 p.2)) s).putCoefs bank b

/-- Store a LUT bank. -/
def State.putLut (s : State) (sel : Nat) (b : Bytes) : State :=
  ({ s with comp := { s.comp with luts := assocSet s.comp.luts sel (lutOf sel b) } }).noteChange

/-- LUT_LOAD: one LUT or coefficient bank from SRC. -/
def workLutLoad (ecc : Nat) (t : Task) (s : State) : After × State :=
  let target := dParam t.row 0 1
  let src := addrOf (dSrc t.row)
  if dLen t.row = 0 then (.ended t 0, s)
  else
    let r := s.taskRead src (dLen t.row) ecc
    if !r.1 then (.faulted t, r.2)
    else
      let b := r.2.ramRead src.1 src.2 (dLen t.row)
      let s := if 0x40 ≤ target ∧ target < 0x50 then r.2.writeCoefs (3, 0) (target - 0x40) b
        else if target ≤ 0x21 then r.2.putLut target b
        else r.2
      (.ended t 0, s)

/-- SURF_STORE: a completed surface image at SRC into slot SLOT (R109), 4,096 bytes between break points. -/
def workSurfStore (ecc : Nat) (t : Task) (s : State) : After × State :=
  let len := dLen t.row
  let n := min 4096 (len - t.prog)
  let src := addrOf (dSrc t.row)
  if n = 0 then (.ended t 0, s)
  else
    let r := s.taskRead (src.1, src.2 + t.prog) n ecc
    if !r.1 then (.faulted t, r.2)
    else
      let t := { t with prog := t.prog + n }
      if t.prog < len then (.goOn t, r.2)
      else
        let img := r.2.ramRead src.1 src.2 len
        let img := beBytes 2 (dParam t.row 0 2) ++ img.drop 2
        (.ended t 0, (r.2.storeSurface img).2.noteChange)

/-! ### Rows -/

/-- UNPACK (R387). -/
def execUnpack (engine ecc : Nat) (s : State) : Host.Outcome State Fault Refusal :=
  s.done (s.runTask engine 4 (workUnpack ecc))

/-- SIG_READBACK (R387, R176). -/
def execSigReadback (engine ecc : Nat) (s : State) : Host.Outcome State Fault Refusal :=
  s.done (s.runTask engine 5 (workReadback engine ecc))

/-- LUT_LOAD (R387). -/
def execLutLoad (engine ecc : Nat) (s : State) : Host.Outcome State Fault Refusal :=
  s.done (s.runTask engine 12 (workLutLoad ecc))

/-- SURF_STORE (R387). -/
def execSurfStore (engine ecc : Nat) (s : State) : Host.Outcome State Fault Refusal :=
  s.done (s.runTask engine 13 (workSurfStore ecc))

/-- FADE_DONE (R183). -/
def execFadeDone (slot : Nat) (s : State) : Host.Outcome State Fault Refusal := s.done (s.fadeDone slot)

end Sys2Proof.Machine
end

