-- ==== Sys2Proof/Machine/RopeTx.lean ====
section
/-! DEFINITION. What the unit sends on the rope: its addresses, the tag, and by which ports a frame leaves its source (R21, R292, R310,
R314, R331, R332). -/

namespace Sys2Proof.Machine

/-! ### Addresses and the unit's place -/

/-- Has the unit a position: ADDR_STATE 2, 3 or 4 (Table 11.10)? -/
def State.hasPos (s : State) : Bool := decide (2 ≤ s.reg Reg.addrState)

/-- MAC_BASE. -/
def State.mac (s : State) : Nat := s.part.macBase

/-- The unit's host address, MAC_BASE + 2 (R292). -/
def State.hostMac (s : State) : Nat := s.part.macBase + 2

/-- The derived IPv4 address PREFIX.SEGMENT.POSITION (R21, R331). -/
def State.ipAddr (s : State) : Nat := s.reg Reg.prefixR * 65536 + s.reg Reg.segment * 256 + s.reg Reg.position

/-- ROPE is ON and the unit is out of RESET: rope ports run (R307, R336). -/
def State.ropeOn (s : State) : Bool := s.alive && s.power.dom.getD 2 0 == 2

/-- Three gratuitous ARP requests follow an address taking effect (R293). -/
def State.announceAddr (s : State) : State := { s with host := { s.host with arpLeft := 3, arpNext := s.clock.cclk } }

/-- A section of the active topo, by its identifier. -/
def Topo.section? (t : Topo) (id : Nat) : Option Bytes := assocGet t.sections id

/-- A section of the active topo. -/
def State.section? (s : State) (id : Nat) : Option Bytes := s.topo.active.bind fun t => t.section? id

/-- ROPE_MODE of the unit's own TRAFFIC section; DUPLICATE without one (R315). -/
def State.ownRopeMode (s : State) : Nat := ((s.section? 0x70).map fun b => field b 0 1).getD 0

/-- KEEP_ON_BREAK, CONTROL and TIME always among it (R314, R315). -/
def State.keepOnBreak (s : State) : Nat := ((s.section? 0x70).map fun b => field b 1 1).getD 0 ||| 3

/-- DIR_MASK of the TRAFFIC section; 0, ROPE-B, without one (DESIGN CHOICE, log 90). -/
def State.dirMask (s : State) : Nat := ((s.section? 0x70).map fun b => field b 2 1).getD 0

/-! ### Sending -/

/-- A rope tag of the unit for port `p` (Table 11.1). -/
def State.ropeTag (s : State) (p dstk cls dst inner hop seq : Nat) : RopeTag :=
  { nopos := !s.hasPos, dir := if p = 0 then 1 else 0, dstk := dstk, cls := cls,
    src := if s.hasPos then s.reg Reg.position else 0, dst := if dstk = 0 then dst else 0, hop := hop, seq := seq,
    inner := inner }

/-- Length of a rope frame with a payload of `n` bytes: addresses and EtherType, tag, payload, FCS. -/
def ropeLen (n : Nat) : Nat := 14 + 8 + n + 4

/-- Does a source act as on a broken ring: RING_STATE not 1, or not yet back to one port (R314)? RING_STATE 0, unknown, counts as broken
(DESIGN CHOICE, log 90). -/
def State.ropeBroken (s : State) : Bool := s.reg Reg.ringState != 1 || s.rope.bothWays

/-- The rope ports by which a frame of class `cls` leaves its source, ROPE-B first (R314): both in DUPLICATE, in SINGLE while the ring
is broken when its class is kept, and always for `both`; otherwise the one port that DIR_MASK names; none for a class not kept. -/
def State.ropePorts (s : State) (cls : Nat) (both : Bool) : List Nat :=
  let dup := both || s.reg Reg.ropeMode == 0
  if !dup && s.ropeBroken && !bit s.keepOnBreak cls then []
  else if dup || s.ropeBroken then [1, 0]
  else [if bit s.dirMask cls then 0 else 1]

/-- Originate a frame of class `cls` with DSTK 0, 1 or 3 (R310, R314), of `len` bytes and shown as `mk` says: out both ports
in DUPLICATE, in SINGLE while the ring is broken when its class is kept, and always for `both`; otherwise out the one port
that DIR_MASK names; a class not kept is shed. Frames of a unit with a position take the next sequence number. -/
def State.sendRopeWith (s : State) (dstk cls dst inner len : Nat) (both : Bool) (mk : Nat → RopeTag → Output) : State :=
  if !s.ropeOn then s
  else
    let seq := if s.hasPos then s.rope.seq else 0
    let one := fun (t : State) (p : Nat) => t.tx p len (mk p (s.ropeTag p dstk cls dst inner 0 seq))
    match s.ropePorts cls both with
    | [] => s.incReg Reg.breakShed
    | l =>
      let s1 := l.foldl one s
      if s.hasPos then { s1 with rope := { s1.rope with seq := (s.rope.seq + 1) % 65536 } } else s1

/-- Originate a frame with payload `payload`. -/
def State.sendRope (s : State) (dstk cls dst inner : Nat) (payload : Bytes) (both : Bool) : State :=
  s.sendRopeWith dstk cls dst inner (ropeLen payload.length) both fun p tag => .rope p tag payload

/-- The eight bytes of a rope tag (Table 11.1). -/
def RopeTag.bytes (t : RopeTag) : Bytes :=
  beBytes 1 (128 + (if t.nopos then 64 else 0) + t.dir * 32 + t.dstk * 8 + t.cls) ++ beBytes 1 t.src ++ beBytes 1 t.dst ++
    beBytes 1 t.hop ++ beBytes 2 t.seq ++ beBytes 2 t.inner

/-- The VLAN tag TRAIL sends (Table 10.2): PCP and VID, none when VLAN is 0. -/
def State.vlanTag (s : State) : Bytes :=
  if s.reg (Reg.portVlan 2) = 0 then []
  else beBytes 2 0x8100 ++ beBytes 2 (s.reg (Reg.portPcp 2) * 8192 + s.reg (Reg.portVlan 2))

/-- DSTK and DST_POS of a frame for MAC `da`: a unit of the segment, a group address, or off the segment (R324, R325). -/
def State.hostTo (s : State) (da : Nat) : Nat × Nat :=
  match s.rope.units.find? fun u => u.1 + 2 == da with
  | some u => (0, u.2)
  | none => if da / 1099511627776 % 2 = 1 then (1, 0) else (3, 0)

/-- Originate host traffic of `n` bytes toward DSTK and DST_POS `to_`, as class BRIDGED on the rope; the active head sends what leaves the
segment on TRAIL itself (R325). -/
def State.sendOut (s : State) (to_ : Nat × Nat) (ty n : Nat) (rope : Nat → RopeTag → Output) (trail : Output) : State :=
  if !s.ropeOn then s
  else
    let head := s.reg Reg.headRole == 3
    let s := if head && to_.1 == 3 then s else s.sendRopeWith to_.1 4 to_.2 ty (ropeLen n) false rope
    if head && to_.1 != 0 then s.tx 2 (18 + s.vlanTag.length + n) trail else s

/-- Originate a frame of EtherType `ty` for MAC `da` (R292, R293, R300). -/
def State.sendHost (s : State) (da ty : Nat) (pay : Bytes) : State :=
  let from_ := fun p => beBytes 6 da ++ beBytes 6 (s.mac + p)
  s.sendOut (s.hostTo da) ty pay.length
    (fun p tag => .frame p (withFcs (padded (from_ p ++ beBytes 2 (s.reg Reg.ethertype) ++ tag.bytes ++ pay))))
    (.frame 2 (withFcs (padded (from_ 2 ++ s.vlanTag ++ beBytes 2 ty ++ pay))))

/-- Send the UDP datagram `b` of the control protocol to a controller. The command names no MAC, so a unit of the segment is known by its
address, and everything else lies off the segment; DSCP 0 and TTL 64 (DESIGN CHOICE, log 90). -/
def State.sendUdp (s : State) (addr dport : Nat) (b : Bytes) : State :=
  let to_ := match (if addr / 256 = s.ipAddr / 256 then s.rope.units.find? fun u => u.2 == addr % 256 else none) with
    | some u => (0, u.2)
    | none => (3, 0)
  let ip := fun p => ipUdp (s.flag (Reg.portTxUdpCsum p)) s.ipAddr addr (s.reg Reg.udpPort) dport 0 64 b
  s.sendOut to_ 0x0800 (28 + b.length) (fun p _ => .udp p (ip p)) (.udp 2 (ip 2))

/-- A control payload: MSG_TYPE, MSG_VER 1, LEN, body (R332). -/
def ropeMsg (ty : Nat) (body : Bytes) : Bytes := beBytes 1 ty ++ beBytes 1 1 ++ beBytes 2 body.length ++ body

/-- Send a control message on one link as a NEIGHBOUR frame with HOP `hop`. -/
def State.sendNear (s : State) (p hop ty : Nat) (body : Bytes) : State :=
  let m := ropeMsg ty body
  if s.ropeOn then s.tx p (ropeLen m.length) (.rope p (s.ropeTag p 2 0 0 0 hop 0) m) else s

/-- Send a control message to the segment. -/
def State.sendSeg (s : State) (ty : Nat) (body : Bytes) : State := s.sendRope 1 0 0 0 (ropeMsg ty body) false

end Sys2Proof.Machine
end

