-- ==== Sys2Proof/Machine/Ptp.lean ====
section
/-! DEFINITION. Network time: PTP messages, best-master selection and the servo (R262 to R278). -/

namespace Sys2Proof.Machine

/-! ### Servo states (Table 9.7) -/

/-- SERVO_STATE: 0 UNSET, 1 ACQUIRE, 2 LOCKED, 3 HOLDOVER, 4 JUMP, 5 GRANDMASTER. -/
def State.servo (s : State) : Nat := s.reg Reg.servoState

/-- Time counts as locked: LOCKED or GRANDMASTER (R274). -/
def State.timeLocked (s : State) : Bool := s.servo == 2 || s.servo == 5

/-- Enter a servo state: HOLDOVER_MS runs from the entry to HOLDOVER or JUMP; class TIME_REF stops being active in LOCKED
and GRANDMASTER; outside JUMP STEP_PENDING reads 0 and no step is due. Disciplining that begins again starts its frequency term from
RATE_TRIM as it stands (R273). -/
def State.setServo (s : State) (n : Nat) : State :=
  let was := s.servo
  let held := decide (was = 3 ∨ was = 4)
  let s := s.setReg Reg.servoState n
  let s := if n = 2 ∨ n = 5 then s else s.armBreak
  let s := if (n = 3 ∨ n = 4) ∧ held = false then { s with ptp := { s.ptp with holdFrom := s.clock.cclk } } else s
  let s := if n = 2 ∨ n = 5 then s.clearActive 0x15 else s
  let s := if n = 1 ∧ was ≠ 1 ∧ was ≠ 2 then { s with ptp := { s.ptp with freq := s.clock.trim } } else s
  if n = 4 then s else { s.setReg Reg.stepPending 0 with tick := { s.tick with stepDue := none } }

/-- Set RATE_TRIM, held to ±200 ppm (R262, R273). -/
def State.setTrim (s : State) (z : Int) : State :=
  let z := clampInt (-858993) 858993 z
  ({ s with clock := { s.clock with trim := z } }).setReg Reg.rateTrim (ofSigned 4 z)

/-- RATE_TRIM frozen (R277): the rounded mean of its values over the last 64 measurements made in LOCKED, 0 with none. -/
def State.freezeTrim (s : State) : State :=
  match s.ptp.trims with
  | [] => s.setTrim 0
  | l => s.setTrim (roundDiv l.sum l.length)

/-- The negated mean of the last four measurements, in ns, ties away from zero (R276). -/
def stepOf (meas : List Int) : Int := -(roundDiv (meas.take 4).sum (1000 * max 1 (meas.take 4).length))

/-- Largest less smallest of a list of measurements. -/
def spread (l : List Int) : Int :=
  match l with
  | [] => 0
  | x :: r => r.foldl max x - r.foldl min x

/-- Measurement starts again (Table 9.6, first row); a set or a step that waits for its boundary goes with the measurements it would
come from. -/
def State.restartMeasuring (s : State) : State :=
  { s with ptp := { s.ptp with meas := [], nLock := 0, nBand := 0, nAbove := 0, nWithin := 0, nDiscard := 0,
                               syncWait := none, winFrom := s.clock.cclk, winN := 0 }
           tick := { s.tick with stepDue := none } }

/-- A mode in SHOW changes to HOLDOVER at the next boundary (Table 2.4). -/
def State.wantHoldover (s : State) (cause : Nat) : State :=
  if s.mode.mode == .onShow then { s with mode := { s.mode with toHoldover := some (s.mode.toHoldover.getD cause) } }
  else if s.mode.mode == .holdover then { s with mode := { s.mode with toShow := false } }
  else s

/-- The time reference is degraded (R274): EV13 with its cause, RATE_TRIM frozen, HOLDOVER; from JUMP the pending step is
dropped. Class TIME_REF is captured. -/
def State.degrade (s : State) (cause : Nat) : State :=
  let s := { s with ptp := { s.ptp with nDiscard := 0, lastSync := none }, mode := { s.mode with refLimit := false } }
  if s.servo = 1 ∨ s.servo = 2 then
    let s := (s.raise 13 (beBytes 1 cause)).freezeTrim
    (((s.setServo 3).setActive 0x15).capture 0x15 0 cause).wantHoldover 5
  else if s.servo = 4 then ((s.setServo 3).setActive 0x15).capture 0x15 0 cause
  else s

/-- Entry to JUMP: EV14 with the pending step, RATE_TRIM frozen (Table 9.6). -/
def State.enterJump (s : State) : State :=
  let d := ofSigned 8 (stepOf s.ptp.meas)
  let wasFrozen := s.servo == 3
  let s := (s.setServo 4).setReg Reg.stepPending d
  let s := if wasFrozen then s else s.freezeTrim
  let s := { s with ptp := { s.ptp with nWithin := 0, winFrom := s.clock.cclk, winN := 0, gmMeasure := false } }
  (s.raise 14 (beBytes 8 d)).wantHoldover 6

/-- STEP_THRESHOLD in ps. -/
def State.stepPs (s : State) : Int := (s.reg Reg.stepThreshold : Int) * 1000

/-- The auto-accept window takes a measurement (R278): one that breaks the spread starts it again. -/
def State.window (s : State) (z : Int) : State :=
  let p := s.ptp
  let lo := if p.winN = 0 then z else min p.winMin z
  let hi := if p.winN = 0 then z else max p.winMax z
  if hi - lo ≤ s.stepPs then
    { s with ptp := { p with winMin := lo, winMax := hi, winN := p.winN + 1 } }
  else { s with ptp := { p with winFrom := s.clock.cclk, winMin := z, winMax := z, winN := 1 } }

/-- `2 ^ e` seconds as CCLK cycles. -/
def logCclk (e : Int) : Nat := if 0 ≤ e then nsPerSec * 2 ^ e.toNat else nsPerSec / 2 ^ (-e).toNat

/-- The proportional term for θ = `z` ps at a Sync interval of `t` ns, in units of RATE_TRIM: the rate that removes θ in 8 intervals,
its time constant (R273, DEDUCED, log 4). -/
def servoP (z : Int) (t : Nat) : Int := -(roundDiv (z * 4294967296) (8000 * t))

/-- What the frequency term takes of θ: 1 / 512 of θ over an interval times a gain above 0 and at most 1, a free constant. At the most
that is an eighth of the square of the proportional gain, which keeps the overshoot below 10 % (R273, log 4). -/
def servoI (z : Int) (t : Nat) : Int := -(roundDiv (z * 4294967296 * (Config.freeGain % 65536 + 1)) (512000 * 65536 * t))

/-- RATE_TRIM after a usable measurement within the threshold: the sum of a proportional and a frequency term (R273). In LOCKED it is
kept for the mean of R277. -/
def State.discipline (s : State) (z : Int) : State :=
  let t := logCclk s.ptp.logSync
  let f := clampInt (-858993) 858993 (s.ptp.freq + servoI z t)
  let s := ({ s with ptp := { s.ptp with freq := f } }).setTrim (f + servoP z t)
  if s.servo = 2 then { s with ptp := { s.ptp with trims := (s.clock.trim :: s.ptp.trims).take 64 } } else s

/-- A usable exchange gives θ, in ps (R272, R273): the registers, the counts of consecutive measurements, and the state
machine of Table 9.6. -/
def State.measure (s : State) (z : Int) : State :=
  let a : Int := if z < 0 then -z else z
  let lock : Int := (s.reg Reg.lockNs : Int) * 1000
  let above := decide (s.stepPs < a)
  let p := s.ptp
  let s := s.setReg Reg.offsetPs (ofSigned 8 z)
  let s := if !above && p.nAbove = 1 then s.incReg Reg.outliers else s
  let s := { s with ptp := { p with
    meas := (z :: p.meas).take 64, nDiscard := 0,
    nLock := if a ≤ lock then p.nLock + 1 else 0,
    nBand := if lock < a ∧ above = false then p.nBand + 1 else 0,
    nAbove := if above then p.nAbove + 1 else 0,
    nWithin := if above then 0 else p.nWithin + 1 } }
  let p := s.ptp
  if s.servo = 0 then
    if 4 ≤ p.meas.length ∧ spread (p.meas.take 4) ≤ 1000000 then
      { s with tick := { s.tick with stepDue := some (stepOf p.meas, true) } }
    else s
  else if s.servo = 1 ∨ s.servo = 2 then
    if 4 ≤ p.nAbove then s.enterJump
    else if above then s
    else
      let s := s.discipline z
      if s.servo = 1 ∧ 16 ≤ p.nLock then
        let s := (s.setServo 2).raise 12 (beBytes 8 (s.reg Reg.gmIdentity))
        let s := { s with ptp := { s.ptp with nBand := 0 } }
        if s.mode.mode == .holdover then { s with mode := { s.mode with toShow := true } } else s
      else if s.servo = 2 ∧ 8 ≤ p.nBand then
        let s := (s.setServo 1).raise 13 (beBytes 1 3)
        ({ s with ptp := { s.ptp with nLock := 0 } }).wantHoldover 5
      else s
  else if s.servo = 3 then
    if above then (if 4 ≤ p.nAbove then s.enterJump else s)
    else (({ s with ptp := { p with nLock := if a ≤ lock then 1 else 0 } }).setServo 1).discipline z
  else if s.servo = 4 then
    if 4 ≤ p.nWithin then
      (({ s with ptp := { p with nLock := 0 } }).setServo 1).discipline z
    else (s.setReg Reg.stepPending (ofSigned 8 (stepOf p.meas))).window z
  else if p.gmMeasure then
    if !above then
      let s := { s with ptp := { s.ptp with gmMeasure := false } }
      (s.setServo 1).discipline z
    else if 4 ≤ p.nAbove then s.enterJump
    else s
  else s

/-- An exchange is discarded (R272): eight in a row degrade the reference, and the auto-accept window, in which every measurement is
usable, starts again (R278). -/
def State.discardExchange (s : State) : State :=
  let s := s.incReg Reg.discards
  let s := { s with ptp := { s.ptp with nDiscard := s.ptp.nDiscard + 1, winFrom := s.clock.cclk, winN := 0 } }
  if 8 ≤ s.ptp.nDiscard then s.degrade 0 else s

/-! ### Messages -/

/-- The PTP messages of `port` reach the unit: out of RESET, ROPE on, the port up. -/
def State.hears (s : State) (port : Nat) : Bool := s.alive && s.power.dom.getD 2 0 == 2 && s.portUp port

/-- R270: version 2, the unit's domain, majorSdoId 0, and not shorter than messageLength. -/
def State.ptpOk (s : State) (m : PtpMsg) : Bool :=
  m.long && m.version == 2 && m.domain == s.reg Reg.domain && m.sdo == 0

/-- Count a message ignored or malformed (R269, R270). -/
def State.ptpIgnored (s : State) : State := s.incReg Reg.ptpIgnored

/-- Compare two data sets (IEEE 1588-2019, clause 9.3): is `a` better than `b`? -/
def AnnData.better (a b : AnnData) : Bool :=
  let ka := [a.p1, a.cls, a.acc, a.var, a.p2, a.gm, a.steps]
  let kb := [b.p1, b.cls, b.acc, b.var, b.p2, b.gm, b.steps]
  ((ka.zip kb).find? fun p => p.1 != p.2).any fun p => decide (p.1 < p.2)

/-- The best of the masters heard. -/
def bestMaster (l : List Master) : Option Master :=
  match l with
  | [] => none
  | x :: r => some (r.foldl (fun a b => if b.data.better a.data then b else a) x)

/-- The data set the unit announces as grandmaster (R270). -/
def State.ownData (s : State) : AnnData :=
  { gm := s.part.eui64, p1 := s.reg Reg.priority1, cls := 248, acc := 0xFE,
    var := if s.flag Reg.clockState then 0xFFFE else 0xFFFF, p2 := s.reg Reg.priority2, steps := 0, utc := s.ptp.utc }

/-- The best master heard that the unit does not prefer itself to: where GM_ALLOWED is 1 and its own data set is better than every
other, best-master selection makes it the grandmaster (Table 9.2), and it counts as having no master (DEDUCED, log 89). -/
def State.best (s : State) : Option Master :=
  (bestMaster s.ptp.masters).filter fun x => !(s.flag Reg.gmAllowed && s.ownData.better x.data)

/-- The current master: the best heard, unless the unit is grandmaster and measures none. -/
def State.master (s : State) : Option Master :=
  if s.servo = 5 ∧ s.ptp.gmMeasure = false then none else s.best

/-- Does the unit act as a slave on `port`? TRAIL is passive but on the active head (R265). -/
def State.listens (s : State) (port : Nat) : Bool := port != 2 || s.reg Reg.headRole == 3

/-- Does port `p` use the delay request-response mechanism: TRAIL under profiles 0 and 2 (Table 9.5)? -/
def State.endToEnd (s : State) (p : Nat) : Bool := p == 2 && s.reg Reg.profile != 1

/-- correctionField, ns · 2^16, in ps. -/
def corrPs (c : Int) : Int := c * 1000 / 65536

/-- The path delay of an exchange heard on `port`, in ps; none when the latest Delay_Resp is older than 16 Delay_Req
intervals (R272). -/
def State.pathDelay (s : State) (port : Nat) : Option Int :=
  if s.endToEnd port then
    match s.ptp.delayAt with
    | none => none
    | some t =>
      if s.clock.cclk ≤ t + 16 * logCclk (toSigned 1 (s.reg Reg.logDelayReq)) then some (toSigned 8 (s.reg Reg.meanPathPs))
      else none
  else some (s.reg (Reg.linkDelay port))

/-- A complete exchange (R272): Sync received at `rx` ps, sent at `t1` ps, with its correction. -/
def State.exchange (s : State) (port srcClock srcPort rx t1 : Nat) (corr : Int) : State :=
  let s := { s with ptp := { s.ptp with lastSyncPair := some ((t1 : Int) + corrPs corr, rx) } }
  match s.pathDelay port with
  | none => s
  | some d =>
    let s := if s.endToEnd port then s else s.setReg Reg.meanPathPs (ofSigned 8 d)
    let s := s.setReg Reg.parentPort (srcClock * 65536 + srcPort)
    let s := match s.master with
      | some x => s.setReg Reg.stepsRemoved (x.data.steps + 1)
      | none => s
    s.measure ((rx : Int) - t1 - corrPs corr - d)

/-- An exchange goes on: complete with its Sync, its sending time and its receive stamp, it is measured; else it waits (R272). -/
def State.syncTry (s : State) (w : SyncWait) : State :=
  match w.rx, w.t1 with
  | some rx, some t1 => ({ s with ptp := { s.ptp with syncWait := none } }).exchange w.port w.clock w.srcPort rx t1 w.corr
  | _, _ => { s with ptp := { s.ptp with syncWait := some w } }

/-- SYNC: a Sync is received (R268, R272). Only a Sync of the current master is used, and only its first copy; its receive stamp comes
from the time-stamp queue, and a stamp overwritten there discards the exchange. -/
def State.onSync (s : State) (port : Nat) (m : PtpMsg) : State :=
  if !s.hears port then s
  else if !s.ptpOk m then s.ptpIgnored
  else if !s.listens port then s
  else
    match s.master with
    | none => s
    | some x =>
      if x.clock != m.srcClock || s.ptp.lastSeq == some (m.srcClock, m.seq) then s
      else
        let s := { s with ptp := { s.ptp with lastSync := some s.clock.cclk, logSync := m.logInt, lastSeq := some (m.srcClock, m.seq) } }
        let t := s.takeStamp port 1 0 m.seq
        if t.1.isNone && s.stampLost port 1 0 m.seq then s.discardExchange
        else
          t.2.syncTry { port := port, clock := m.srcClock, srcPort := m.srcPort, seq := m.seq, rx := t.1.map fun ns => ns * 1000,
                        t1 := if m.twoStep then none else some m.stamp, corr := m.corr }

/-- FOLLOW_UP: it completes the two-step exchange of its sequenceId and port (R272). -/
def State.onFollowUp (s : State) (port : Nat) (m : PtpMsg) : State :=
  if !s.hears port then s
  else if !s.ptpOk m then s.ptpIgnored
  else
    match s.ptp.syncWait with
    | none => s
    | some w =>
      if w.port = port ∧ w.clock = m.srcClock ∧ w.seq = m.seq ∧ w.t1 = none then
        s.syncTry { w with t1 := some m.stamp, corr := w.corr + m.corr }
      else s

/-- The receive stamp of a Sync of sequenceId `seq` arrives on `port`: an exchange that waits for it takes it (R272). -/
def State.syncStamped (s : State) (port seq : Nat) : State :=
  match s.ptp.syncWait with
  | none => s
  | some w =>
    if w.port = port ∧ w.seq = seq ∧ w.rx = none then
      let t := s.takeStamp port 1 0 seq
      t.2.syncTry { w with rx := t.1.map fun ns => ns * 1000 }
    else s

/-- Is the unit master on `port` (Table 9.2): the active head on its rope ports once its time is set or counted locked; a
grandmaster that is active head on TRAIL; a grandmaster on its rope ports? -/
def State.isMasterOn (s : State) (port : Nat) : Bool :=
  let gm := s.servo == 5 && !s.ptp.gmMeasure
  let head := s.reg Reg.headRole == 3
  let timed := s.flag Reg.clockState || s.servo == 5
  timed && (if port = 2 then gm && head else gm || head)

/-- messageLength of a kind of message, with `n` bytes of TLV. -/
def ptpLength (kind n : Nat) : Nat :=
  match kind with
  | 0 | 1 | 8 => 44
  | 11 => 64 + n
  | _ => 54

/-- controlField of a kind of message (Table 9.4). -/
def ptpControl (kind : Nat) : Nat :=
  match kind with
  | 0 => 0 | 1 => 1 | 8 => 2 | 9 => 3 | _ => 5

/-- A PTP message the unit originates (Table 9.4). -/
def State.ptpOut (s : State) (kind port seq : Nat) (logInt : Int) : PtpMsg :=
  { kind := kind, sdo := 0, version := 2, domain := s.reg Reg.domain, long := true, twoStep := false,
    ptpScale := s.flag Reg.clockState && s.ptp.scale, flags := s.ptp.flags, corr := 0, srcClock := s.part.eui64, srcPort := port + 1,
    seq := seq, logInt := logInt, stamp := s.txPs port, reqClock := 0, reqPort := 0, length := ptpLength kind 0,
    control := ptpControl kind }

/-- flagField: twoStepFlag, unicastFlag, ptpTimescale, and the leap and UTC flags. -/
def PtpMsg.flagField (m : PtpMsg) : Nat :=
  (if m.twoStep then 0x200 else 0) + (if m.unicast then 0x400 else 0) + (if m.ptpScale then 8 else 0) + m.flags % 8

/-- Part of a nanosecond in a body's time-stamp, in ns · 2^16: correctionField carries it, added to a sending time and taken from a
receiving one (IEEE 1588-2019). -/
def PtpMsg.subNs (m : PtpMsg) : Int :=
  let f : Int := ((m.stamp % 1000 * 65536 / 1000 : Nat) : Int)
  if m.kind = 9 then -f else if m.kind ≤ 2 then f else 0

/-- The bytes of a message, its header by Table 9.4; `d` is an Announce's data set. -/
def PtpMsg.bytes (m : PtpMsg) (d : Option AnnData) : Bytes :=
  let time := beBytes 10 (time80 (m.stamp / 1000))
  let body := match m.kind, d with
    | 11, some d => beBytes 10 0 ++ beBytes 2 d.utc ++ beBytes 1 0 ++ beBytes 1 d.p1 ++ beBytes 1 d.cls ++ beBytes 1 d.acc ++ beBytes 2 d.var ++
        beBytes 1 d.p2 ++ beBytes 8 d.gm ++ beBytes 2 d.steps ++ beBytes 1 d.source ++ d.path
    | 2, _ => time ++ beBytes 10 0
    | 3, _ | 9, _ | 10, _ => time ++ beBytes 8 m.reqClock ++ beBytes 2 m.reqPort
    | _, _ => time
  beBytes 1 (m.sdo * 16 + m.kind) ++ beBytes 1 (m.minor * 16 + m.version) ++ beBytes 2 m.length ++ beBytes 1 m.domain ++
    beBytes 1 m.minorSdo ++ beBytes 2 m.flagField ++ beBytes 8 (ofSigned 8 (m.corr + m.subNs)) ++ beBytes 4 0 ++ beBytes 8 m.srcClock ++
    beBytes 2 m.srcPort ++ beBytes 2 m.seq ++ beBytes 1 m.control ++ beBytes 1 (ofSigned 1 m.logInt) ++ body

/-- Is a kind link-local: Pdelay_Req, Pdelay_Resp, Pdelay_Resp_Follow_Up? -/
def ptpLocal (kind : Nat) : Bool := kind == 2 || kind == 3 || kind == 10

/-- The multicast address of a kind, and its UDP port (Table 9.3). -/
def ptpGroup (kind : Nat) : Nat := if ptpLocal kind then 0xE000006B else 0xE0000181
def ptpUdp (kind : Nat) : Nat := if kind ≤ 3 then 319 else 320

/-- The IPv4 packet of a message that leaves port `p` for `dest`: DSCP PTP_DSCP on TRAIL. TTL 1 for the link-local kinds and 64 for
the others, and DSCP 0 on the rope, are DESIGN CHOICE (log 89). -/
def State.ptpIp (s : State) (p dest : Nat) (m : PtpMsg) (d : Option AnnData) : Bytes :=
  ipUdp (s.flag (Reg.portTxUdpCsum p)) s.ipAddr dest (ptpUdp m.kind) (ptpUdp m.kind) (if p = 2 then s.reg Reg.ptpDscp else 0)
    (if ptpLocal m.kind then 1 else 64) (m.bytes d)

/-- What is shown of a message that leaves port `p`. -/
def State.ptpShown (s : State) (p dest : Nat) (m : PtpMsg) (d : Option AnnData) : Output :=
  match d with
  | some a => .announce p m a (s.ptpIp p dest m d)
  | none => .ptp p m (s.ptpIp p dest m none)

/-- Send a PTP message on `port` alone: TRAIL, or one rope link as a NEIGHBOUR frame of class TIME. -/
def State.sendPtp (s : State) (port dest : Nat) (m : PtpMsg) (d : Option AnnData) : State :=
  let len := if port = 2 then 46 + (if s.reg (Reg.portVlan 2) = 0 then 0 else 4) + m.length else ropeLen (28 + m.length)
  s.tx port len (s.ptpShown port dest m d)

/-- Send a PTP message to the segment in class TIME: in DUPLICATE both copies carry one sequenceId, each with the portNumber of the port
it leaves by (R268, Table 9.7). -/
def State.sendPtpRope (s : State) (mk : Nat → PtpMsg) (d : Option AnnData) : State :=
  let len := ropeLen (28 + (mk 0).length)
  s.sendRopeWith 1 1 0 0x0800 len false fun p _ => s.ptpShown p (ptpGroup (mk p).kind) (mk p) d

/-- The place of a port's periodic messages: the rope ports send theirs together. -/
def ptpSlot (port : Nat) : Nat := if port < 2 then 0 else port

/-- Send a message of a master port: on TRAIL, or on the rope. -/
def State.sendMaster (s : State) (port : Nat) (mk : Nat → PtpMsg) (d : Option AnnData) : State :=
  if port < 2 then s.sendPtpRope mk d else s.sendPtp port (ptpGroup (mk port).kind) (mk port) d

/-- DELAY_REQ: a master port with the delay request-response mechanism answers with a Delay_Resp carrying its receive stamp; a unicast
request is answered in unicast (R265, Table 9.3). -/
def State.onDelayReq (s : State) (port : Nat) (m : PtpMsg) : State :=
  if !s.hears port then s
  else if !s.ptpOk m then s.ptpIgnored
  else if !s.endToEnd port then s.ptpIgnored
  else if s.isMasterOn port then
    s.sendPtp port (if m.unicast then m.addr else ptpGroup 9) { s.ptpOut 9 port m.seq (toSigned 1 (s.reg Reg.logDelayReq)) with
      corr := m.corr, reqClock := m.srcClock, reqPort := m.srcPort, stamp := s.rxPs port, unicast := m.unicast } none
  else s

/-- DELAY_RESP: it updates the mean path delay when it answers the request in flight (R272). -/
def State.onDelayResp (s : State) (port : Nat) (m : PtpMsg) : State :=
  if !s.hears port then s
  else if !s.ptpOk m then s.ptpIgnored
  else if m.reqClock = s.part.eui64 ∧ m.reqPort = port + 1 ∧ m.seq = s.ptp.delaySeq then
    match s.ptp.delayT3, s.ptp.lastSyncPair with
    | some t3, some (t1, t2) =>
      let d : Int := (((t2 : Int) - t1) + ((m.stamp : Int) - corrPs m.corr - t3)) / 2
      let s := s.setReg Reg.meanPathPs (ofSigned 8 d)
      { s with ptp := { s.ptp with delayAt := some s.clock.cclk, delayT3 := none } }
    | _, _ => { s with ptp := { s.ptp with delayAt := some s.clock.cclk, delayT3 := none } }
  else s

/-- The grandmaster followed becomes `x` (Table 9.6, first and last rows): EV15 when another identity stood before. In JUMP its
measurements replace the pending step, which is 0 before the first of them (R278; DESIGN CHOICE, log 4). -/
def State.newMaster (s : State) (x : Master) : State :=
  let old := s.reg Reg.gmIdentity
  let s := { s with ptp := { s.ptp with flags := x.flags, utc := x.data.utc } }
  if x.data.gm = old then s
  else
    let s := s.setReg Reg.gmIdentity x.data.gm
    let s := if old = 0 then s else s.raise 15 (beBytes 8 x.data.gm)
    let s := if s.servo = 4 then s.setReg Reg.stepPending 0 else s
    s.restartMeasuring

/-- ANNOUNCE: it enters the masters heard and best-master selection runs (R274). -/
def State.onAnnounce (s : State) (port : Nat) (m : PtpMsg) (d : AnnData) : State :=
  if !s.hears port then s
  else if !s.ptpOk m then s.ptpIgnored
  else if d.gm = s.part.eui64 ∨ m.srcClock = s.part.eui64 ∨ !s.listens port then s
  else
    let x : Master := { data := d, clock := m.srcClock, rxPort := port, logInt := m.logInt,
                        scale := m.ptpScale, flags := m.flags, last := s.clock.cclk, addr := m.addr }
    let l := x :: s.ptp.masters.filter fun y => y.clock != m.srcClock
    let s := { s with ptp := { s.ptp with masters := l } }
    match s.best with
    | none => s
    | some b =>
      let s := { s with mode := { s.mode with ptpWaitAt := none } }
      if s.servo = 5 then
        if s.ptp.gmMeasure then s.newMaster b
        else if b.data.better s.ownData then
          let s := s.newMaster b
          { s with ptp := { s.ptp with gmMeasure := true } }
        else s
      else s.newMaster b

/-- No master is left: PTP_WAIT runs again from here (R53); a grandmaster that measured another announces again. -/
def State.mastersLost (s : State) : State :=
  let s := { s with mode := { s.mode with ptpWaitAt := some s.clock.cclk } }
  if s.servo = 5 then
    { s with ptp := { s.ptp with gmMeasure := false } } |>.setReg Reg.gmIdentity s.part.eui64
  else s

/-- SYNC_TIMEOUT: no Sync of the master for 8 of its intervals degrades the reference (R274). -/
def State.onSyncTimeout (s : State) : State :=
  match s.ptp.lastSync with
  | none => s
  | some t =>
    if s.alive then (s.reachCclk (t + 8 * logCclk s.ptp.logSync)).degrade 1 else s

/-- ANNOUNCE_TIMEOUT: the current master has announced nothing for its receipt timeout; the next best is followed, or the
reference is degraded with none left (R274). -/
def State.onAnnounceTimeout (s : State) : State :=
  match s.best with
  | none => s
  | some x =>
    if !s.alive then s
    else
      let s := s.reachCclk (x.last + s.reg Reg.announceTimeout * logCclk x.logInt)
      let s := { s with ptp := { s.ptp with masters := s.ptp.masters.filter fun y => y.clock != x.clock } }
      match s.best with
      | some y =>
        if s.servo ≠ 5 then s.newMaster y
        else if s.ptp.gmMeasure = false then s
        else if y.data.better s.ownData then s.newMaster y
        else s.mastersLost
      | none => (s.degrade 2).mastersLost

/-- PTP_WAIT_EXPIRE: with no announce in PTP_WAIT and GM_ALLOWED 1, the unit in STAGING becomes grandmaster (R53). -/
def State.onPtpWait (s : State) : State :=
  match s.mode.ptpWaitAt with
  | none => s
  | some t =>
    if s.mode.mode == .staging && s.best.isNone && (s.servo == 0 || s.servo == 3) then
      let s := s.reachCclk (t + ms (s.reg Reg.ptpWait))
      if s.flag Reg.gmAllowed then
        let s := (s.setServo 5).setRegs [(Reg.gmIdentity, s.part.eui64), (Reg.parentPort, 0), (Reg.stepsRemoved, 0),
          (Reg.meanPathPs, 0)]
        { s with mode := { s.mode with ptpWaitAt := none }, ptp := { s.ptp with gmMeasure := false } }
      else s
    else s

/-- A time in ps as ns · 2^16. -/
def psToCorr (ps : Nat) : Int := roundDiv ((ps : Int) * 65536) 1000

/-- PDELAY_REQ: answered with a one-step Pdelay_Resp, the turnaround in correctionField (R267). The response leaves in the CCLK of the
request, so the turnaround is what lies between the two stamps, the port's latencies (DESIGN CHOICE, log 89). -/
def State.onPdelayReq (s : State) (port : Nat) (m : PtpMsg) : State :=
  if !s.hears port then s
  else if !s.ptpOk m then s.ptpIgnored
  else if s.endToEnd port then s.ptpIgnored
  else
    s.sendPtp port (ptpGroup 3) { s.ptpOut 3 port m.seq 0x7F with
      corr := m.corr + psToCorr (s.txPs port - s.rxPs port), reqClock := m.srcClock, reqPort := m.srcPort, stamp := 0 } none

/-- The mean link delay of `port` takes a new value, in ps (R267). -/
def State.setLinkDelay (s : State) (port : Nat) (d : Int) : State :=
  s.setReg (Reg.linkDelay port) (clampInt 0 (two32 - 1 : Nat) d).toNat

/-- Put the peer delay state of `port` back. -/
def State.setPdelay (s : State) (port : Nat) (x : PdelaySt) : State :=
  { s with ptp := { s.ptp with pdelay := s.ptp.pdelay.set port x } }

/-- PDELAY_RESP: a one-step response gives the link delay; a two-step one waits for its follow-up (R267). -/
def State.onPdelayResp (s : State) (port : Nat) (m : PtpMsg) : State :=
  let x := s.ptp.pdelay.getD port {}
  if !s.hears port then s
  else if !s.ptpOk m then s.ptpIgnored
  else if x.waiting ∧ m.seq = x.seq ∧ m.reqClock = s.part.eui64 ∧ m.reqPort = port + 1 then
    let t4 := s.rxPs port
    if m.twoStep then s.setPdelay port { x with waiting := false, two := some (t4, m.stamp, m.corr) }
    else (s.setPdelay port { x with waiting := false }).setLinkDelay port (((t4 : Int) - x.t1 - corrPs m.corr) / 2)
  else s

/-- PDELAY_RESP_FOLLOW_UP: it completes a two-step peer delay exchange (R267). -/
def State.onPdelayFollow (s : State) (port : Nat) (m : PtpMsg) : State :=
  let x := s.ptp.pdelay.getD port {}
  if !s.hears port then s
  else if !s.ptpOk m then s.ptpIgnored
  else
    match x.two with
    | some (t4, t2, c) =>
      if m.seq = x.seq then
        (s.setPdelay port { x with two := none }).setLinkDelay port
          (((t4 : Int) - x.t1 - ((m.stamp : Int) - t2) - corrPs c - corrPs m.corr) / 2)
      else s
    | none => s

/-- PDELAY_REQ_SEND: a port with the peer delay mechanism measures its link every 2^LOG_PDELAY s (R267). -/
def State.pdelaySend (s : State) (port : Nat) : State :=
  let x := s.ptp.pdelay.getD port {}
  if s.hears port && !s.endToEnd port then
    let s := s.reachCclk x.next
    let n := (x.seq + 1) % 65536
    let e := toSigned 1 (s.reg Reg.logPdelay)
    (s.setPdelay port { seq := n, t1 := 0, waiting := true, two := none, next := s.clock.cclk + logCclk e }).sendPtp port
      (ptpGroup 2) (s.ptpOut 2 port n e) none
  else s

/-- DELAY_REQ_SEND: TRAIL of the active head, slave to a master there, sends a Delay_Req every 2^LOG_DELAY_REQ s, to the master itself
in hybrid mode (R265, Table 9.3). Nothing but Pdelay is sent while CLOCK_STATE is UNSET by Table 9.13; the delay mechanism itself must
run for the first measurements (R286), so the request is sent in UNSET too (assumption log 12). -/
def State.delayReqSend (s : State) : State :=
  match s.master.filter fun x => x.rxPort == 2 with
  | none => s
  | some x =>
    if s.hears 2 && s.endToEnd 2 && s.reg Reg.headRole == 3 then
      let s := s.reachCclk s.ptp.delayNext
      let n := (s.ptp.delaySeq + 1) % 65536
      let hybrid := s.reg Reg.trailMode == 1
      let due := s.clock.cclk + logCclk (toSigned 1 (s.reg Reg.logDelayReq))
      ({ s with ptp := { s.ptp with delaySeq := n, delayT3 := none, delayNext := due } }).sendPtp 2
        (if hybrid then x.addr else ptpGroup 1) { s.ptpOut 1 2 n 0x7F with unicast := hybrid } none
    else s

/-- SYNC_SEND: a master port sends a one-step Sync every 2^LOG_SYNC s (R269). -/
def State.syncSend (s : State) (port : Nat) : State :=
  if s.hears port && s.isMasterOn port then
    let k := ptpSlot port
    let s := s.reachCclk (s.ptp.syncNext.getD k 0)
    let n := (s.ptp.syncSeq.getD k 0 + 1) % 65536
    let e := toSigned 1 (s.reg Reg.logSync)
    ({ s with ptp := { s.ptp with syncSeq := s.ptp.syncSeq.set k n, syncNext := s.ptp.syncNext.set k (s.clock.cclk + logCclk e) } }).sendMaster
      port (fun p => s.ptpOut 0 p n e) none
  else s

/-- ANNOUNCE_SEND: a master port announces its own data set as grandmaster, or its master's with one step more and its path trace TLV
unchanged, every 2^LOG_ANNOUNCE s (R269, R270). -/
def State.announceSend (s : State) (port : Nat) : State :=
  if s.hears port && s.isMasterOn port then
    let k := ptpSlot port
    let s := s.reachCclk (s.ptp.annNext.getD k 0)
    let n := (s.ptp.annSeq.getD k 0 + 1) % 65536
    let e := toSigned 1 (s.reg Reg.logAnnounce)
    let d := match s.master with
      | some x => { x.data with steps := x.data.steps + 1 }
      | none => s.ownData
    ({ s with ptp := { s.ptp with annSeq := s.ptp.annSeq.set k n, annNext := s.ptp.annNext.set k (s.clock.cclk + logCclk e) } }).sendMaster
      port (fun p => { s.ptpOut 11 p n e with length := ptpLength 11 d.path.length }) (some d)
  else s

/-! ### Initial set and steps -/

/-- A realignment interval begins at the boundary just taken: it lasts to boundary(m), where tick `idx` begins as a settling
frame. It counts as one hold tick and in the frame counter, where the boundary has not counted it; nothing is composed, emitted
or sent for it (R276). The emission frame in progress is cut off as by a phase change (R221). -/
def State.realign (s : State) (m idx : Nat) : State :=
  let s := s.sinksOff
  let s := if s.tick.hold then s else s.incReg Reg.holdTicks
  let s := if s.tick.counted then s else s.setReg Reg.frameCounter ((s.frame + 1) % two64)
  { s with
    tick := { s.tick with nextTime := s.boundary m, nextIdx := idx, realign := true, settleNext := true, hold := true }
    comp := { s.comp with raster := { s.comp.raster with on := false } }
    egress := { s.egress with sacnOn := false } }

/-- The clock moves by `d` ns at a boundary and the ticks realign (R275, R276). -/
def State.applyStep (s : State) (d : Int) (initial : Bool) : State :=
  let k1 := s.tickIdx
  let s := s.shiftClock d
  let m := leastBoundary (s.reg Reg.tickNum) (s.reg Reg.tickDen) (s.now + 2000)
  let idx := if initial then m else max (m + s.reg Reg.tickBias) (k1 + 1)
  let s := s.setRegs [(Reg.tickBias, idx - m), (Reg.lastStep, ofSigned 8 d), (Reg.lastStepTick, idx)]
  let s := (s.incReg Reg.steps).realign m idx
  { s with tick := { s.tick with stepDue := none, sinceStep := 0, time := s.now }, mode := { s.mode with holdAt := s.mode.holdAt + d } }

/-- The timescale of a clock set now: its master's (Table 9.4). -/
def State.setScale (s : State) : Bool := (s.master.map Master.scale).getD s.ptp.scale

/-- INITIAL_SET: in UNSET, at the boundary after four consistent measurements; like a step it is formed at its application (R275,
R276). -/
def State.initialSet (s : State) : State :=
  match s.tick.stepDue with
  | some (_, true) =>
    if s.servo = 0 ∧ s.atBoundary then
      let scale := s.setScale
      let s := ((s.applyStep (stepOf s.ptp.meas) true).setReg Reg.clockState 1).restartMeasuring.setServo 1
      { s with ptp := { s.ptp with scale := scale } }
    else s
  | _ => s

/-- STEP_APPLY: a pending step is applied at boundary B (R276). -/
def State.stepApply (s : State) : State :=
  match s.tick.stepDue with
  | some (_, false) =>
    if s.atBoundary ∧ s.servo = 4 then
      let scale := s.setScale
      let s := (s.applyStep (stepOf s.ptp.meas) false).restartMeasuring.setServo 1
      { s with ptp := { s.ptp with scale := scale } }
    else s
  | _ => s

/-- A step is accepted in JUMP: it is taken at the next boundary (R276, R278). -/
def State.acceptStep (s : State) : State :=
  { s with tick := { s.tick with stepDue := some (stepOf s.ptp.meas, false) } }

/-- AUTO_ACCEPT: the conditions of R278 hold, so the step is taken without a command. -/
def State.autoAccept (s : State) : State :=
  let bitNo := if s.mode.mode == .staging then some 0 else if s.mode.mode == .holdover then some 1 else none
  match bitNo with
  | none => s
  | some b =>
    if s.servo = 4 ∧ bit (s.reg Reg.autoAccept) b ∧ 8 ≤ s.ptp.winN then
      (s.reachCclk (s.ptp.winFrom + ms (s.reg Reg.acceptWindow))).acceptStep
    else s

end Sys2Proof.Machine
end

