-- ==== Sys2Proof/Machine/Timed.lean ====
section
/-! DEFINITION. Timed I/O: pulse outputs (R281 to R283), edge capture inputs (R284, R285), and what an initial set or a
step does to them (R279). -/

namespace Sys2Proof.Machine

/-! ### Pulse outputs -/

/-- Pulse output `k`. -/
def State.pulse (s : State) (k : Nat) : PulseSt := s.tio.pulses.getD k {}

/-- Put pulse output `k` back. -/
def State.setPulse (s : State) (k : Nat) (x : PulseSt) : State :=
  { s with tio := { s.tio with pulses := s.tio.pulses.set k x } }

/-- The level on TPO pin `k`: asserted as POLARITY stood when the pulse began (R282); deasserted in RESET and in mode OFF. -/
def State.tpoLevel (s : State) (k : Nat) : Bool :=
  if (s.pulse k).on && s.alive then (s.pulse k).pol else !s.flag (Reg.pulsePolarity k)

/-- START of output `k` as an instant. -/
def State.pulseFrom (s : State) (k : Nat) : Nat := ofTime80 (s.reg (Reg.pulseStart k))

/-- The first START + j × PERIOD at or after `t` (R281). -/
def gridFrom (start period t : Nat) : Nat :=
  if t ≤ start ∨ period = 0 then start else start + ceilDiv (t - start) period * period

/-- Assert output `k` now: it stays asserted for WIDTH; FIRED counts (R283). -/
def State.pulseOn (s : State) (k : Nat) (x : PulseSt) : State :=
  (s.setPulse k { x with on := true, pol := s.flag (Reg.pulsePolarity k), offAt := s.clock.cclk + s.reg (Reg.pulseWidth k) }).incReg (Reg.pulseFired k)

/-- The next edge of output `k` (R281). An asserted pulse ends when its WIDTH has run. Otherwise the next assertion of the
mode is made: nothing in OFF; ONE_SHOT once, at START, and ONE_SHOT and PERIODIC only when the clock is SET (Table 9.13); in
TICK mode the assertion that a boundary has prepared. -/
def State.pulseEdge (s : State) (k : Nat) : State :=
  let x := s.pulse k
  let mode := s.reg (Reg.pulseMode k)
  if !s.alive || decide (4 ≤ k) then s
  else if x.on then (s.reachCclk x.offAt).setPulse k { x with on := false }
  else if mode = 1 then
    if s.flag Reg.clockState && !x.fired && !x.missed then
      let s := s.reach (s.pulseFrom k)
      let s := (s.pulseOn k { x with fired := true, late := false }).setReg (Reg.pulseState k) (if x.late then 4 else 3)
      s.raise 18 (beBytes 1 k)
    else s
  else if mode = 2 then
    if s.flag Reg.clockState then
      let at_ := x.next.getD (gridFrom (s.pulseFrom k) (s.reg (Reg.pulsePeriod k)) s.now)
      let s := s.reach at_
      (s.pulseOn k { x with next := some (at_ + s.reg (Reg.pulsePeriod k)) }).setReg (Reg.pulseState k) 2
    else s
  else if mode = 3 then
    match x.next with
    | some t => ((s.reach t).pulseOn k { x with next := none }).setReg (Reg.pulseState k) 2
    | none => s
  else s

/-- A boundary prepares the TICK pulse of output `k` when TICK_INDEX mod TICK_DIV is 0 (R281). -/
def State.pulseTick (s : State) (k : Nat) : State :=
  if s.reg (Reg.pulseMode k) = 3 ∧ s.tickIdx % max 1 (s.reg (Reg.pulseTickDiv k)) = 0 then
    s.setPulse k { s.pulse k with next := some (s.tick.time + s.reg (Reg.pulseTickOffset k)) }
  else s

/-- A limit of R282 resolved at the commit boundary, with one clamp record for a field changed. -/
def State.pulseClamp (s : State) (key v : Nat) : State :=
  if s.reg key = v then s else (s.clamped (key / 256) (key % 256) (3, 0) 0 (s.reg key) v).setReg key v

/-- The fields of output `k` apply at a commit boundary (R282). -/
def State.pulseApply (s : State) (k : Nat) : State :=
  let mode := s.reg (Reg.pulseMode k)
  let top := if mode = 3 then s.tMin else s.reg (Reg.pulsePeriod k)
  let s := s.pulseClamp (Reg.pulseWidth k) (clampNat 10 (top - 10) (s.reg (Reg.pulseWidth k)))
  let s := if mode = 3 then s.pulseClamp (Reg.pulseTickOffset k) (min (s.tMin - 1) (s.reg (Reg.pulseTickOffset k))) else s
  let x := { s.pulse k with next := none, late := false, missed := false, fired := false }
  if mode = 0 then (s.setPulse k x).setReg (Reg.pulseState k) 0
  else if mode = 1 then
    if s.pulseFrom k ≤ s.now then
      let s := (s.setPulse k { x with missed := true }).setReg (Reg.pulseState k) 5
      s.rejected (0x2100 + k) 1 (3, 0) 0x0107 3 0
    else (s.setPulse k x).setReg (Reg.pulseState k) 1
  else if mode = 2 then
    let t := gridFrom (s.pulseFrom k) (s.reg (Reg.pulsePeriod k)) (s.now + (if s.pulseFrom k ≤ s.now then 1 else 0))
    (s.setPulse k { x with next := some t }).setReg (Reg.pulseState k) 1
  else (s.setPulse k x).setReg (Reg.pulseState k) 1

/-- What a clock correction from `old` does to output `k` (R279): a waiting ONE_SHOT whose START has been passed fires late;
a period in progress, one that an edge has begun, is completed by elapsed time; a PERIODIC output held until the clock was set goes on
from its grid and fires nothing late (DEDUCED, log 80); TICK pulses follow the new ticks. -/
def State.pulseStep (s : State) (k old : Nat) : State :=
  let x := s.pulse k
  let mode := s.reg (Reg.pulseMode k)
  if mode = 1 ∧ x.fired = false ∧ x.missed = false ∧ s.pulseFrom k < s.now then s.setPulse k { x with late := true }
  else if mode = 2 then
    let left := if s.reg (Reg.pulseState k) = 2 then x.next.getD old - old else 0
    s.setPulse k { x with next := some (gridFrom (s.pulseFrom k) (s.reg (Reg.pulsePeriod k)) (s.now + left)) }
  else if mode = 3 then s.setPulse k { x with next := none }
  else s

/-- Every pulse output after a clock correction. -/
def State.pulsesStep (s : State) (old : Nat) : State := (List.range 4).foldl (fun t k => t.pulseStep k old) s

/-! ### Edge capture -/

/-- Is the edge selected by EDGE_SEL (Table 9.12)? -/
def edgeSelected (sel : Nat) (rising : Bool) : Bool := if rising then sel == 1 || sel == 3 else sel == 2 || sel == 3

/-- CFLAGS of a capture made now (Table 9.11). -/
def State.captureFlags (s : State) : Nat :=
  (if s.tick.sinceStep < 2 then 4 else 0) + (if s.timeLocked then 0 else 2) + (if s.flag Reg.clockState then 0 else 1)

/-- An edge on input `k` (R284, R285): captured when selected and the input had held its level for 10 ns; within 100 ns of
the capture before, only counted in LOST. -/
def State.edgeIn (s : State) (k : Nat) (rising : Bool) : State :=
  let x := s.eci k
  let s := { s with pins := { s.pins with eci := s.pins.eci.set k rising } }
  let held := x.edge.all fun t => decide (t + 10 ≤ s.clock.cclk)
  let x := { x with edge := some s.clock.cclk }
  if 4 ≤ k then s
  else if !s.alive || !edgeSelected (s.reg (Reg.eciEdgeSel k)) rising || !held then s.setEci k x
  else if x.last.any fun t => decide (s.clock.cclk < t + 100) then (s.setEci k x).incReg (Reg.eciLost k)
  else
    let edge := if rising then 1 else 2
    let r : CapRec := { time := s.now, edge := edge, flags := s.captureFlags, tick := s.tickIdx % two32 }
    let q := pushRecord 64 s.poolFree x.queue r
    let s := (s.setEci k { x with queue := q.1, last := some s.clock.cclk }).seeDepth (52 + k) q.1.length
    let s := s.poolCheck
    let s := s.addReg (Reg.eciLost k) q.2
    let s := if q.2 = 0 then s else s.raiseLoss 32 (52 + k) q.2 (beBytes 2 (52 + k) ++ beBytes 4 q.2)
    s.raise 19 (beBytes 1 k ++ beBytes 1 edge)

/-! ### Commands -/

/-- PULSE_EDGE (R281). -/
def execPulseEdge (output : Nat) (s : State) : Host.Outcome State Fault Refusal := s.done (s.pulseEdge output)

/-- EDGE_CAPTURED (R284). -/
def execEdgeCaptured (input : Nat) (rising : Bool) (s : State) : Host.Outcome State Fault Refusal :=
  s.done (s.edgeIn input rising)

/-- INITIAL_SET (R275), with its effect on the pulse outputs (R279). -/
def execInitialSet (s : State) : Host.Outcome State Fault Refusal :=
  let t := s.initialSet
  s.done (if t.tick.stepDue = s.tick.stepDue then t else t.pulsesStep s.now)

/-- STEP_APPLY (R276), with its effect on the pulse outputs (R279). -/
def execStepApply (s : State) : Host.Outcome State Fault Refusal :=
  let t := s.stepApply
  s.done (if t.tick.stepDue = s.tick.stepDue then t else t.pulsesStep s.now)

/-- AUTO_ACCEPT (R278). -/
def execAutoAccept (s : State) : Host.Outcome State Fault Refusal := s.done s.autoAccept

/-- SYNC (R272). -/
def execSync (port : Nat) (m : PtpMsg) (s : State) : Host.Outcome State Fault Refusal := s.done (s.onSync port m)

/-- FOLLOW_UP (R272). -/
def execFollowUp (port : Nat) (m : PtpMsg) (s : State) : Host.Outcome State Fault Refusal := s.done (s.onFollowUp port m)

/-- DELAY_REQ (R265). -/
def execDelayReq (port : Nat) (m : PtpMsg) (s : State) : Host.Outcome State Fault Refusal := s.done (s.onDelayReq port m)

/-- DELAY_RESP (R272). -/
def execDelayResp (port : Nat) (m : PtpMsg) (s : State) : Host.Outcome State Fault Refusal := s.done (s.onDelayResp port m)

/-- ANNOUNCE (R274). -/
def execAnnounce (port : Nat) (m : PtpMsg) (d : AnnData) (s : State) : Host.Outcome State Fault Refusal :=
  s.done (s.onAnnounce port m d)

/-- PDELAY_REQ (R267). -/
def execPdelayReq (port : Nat) (m : PtpMsg) (s : State) : Host.Outcome State Fault Refusal := s.done (s.onPdelayReq port m)

/-- PDELAY_RESP (R267). -/
def execPdelayResp (port : Nat) (m : PtpMsg) (s : State) : Host.Outcome State Fault Refusal :=
  s.done (s.onPdelayResp port m)

/-- PDELAY_RESP_FOLLOW_UP (R267). -/
def execPdelayRespFollowUp (port : Nat) (m : PtpMsg) (s : State) : Host.Outcome State Fault Refusal :=
  s.done (s.onPdelayFollow port m)

/-- SYNC_SEND (R269). -/
def execSyncSend (port : Nat) (s : State) : Host.Outcome State Fault Refusal := s.done (s.syncSend port)

/-- ANNOUNCE_SEND (R270). -/
def execAnnounceSend (port : Nat) (s : State) : Host.Outcome State Fault Refusal := s.done (s.announceSend port)

/-- DELAY_REQ_SEND (R265). -/
def execDelayReqSend (s : State) : Host.Outcome State Fault Refusal := s.done s.delayReqSend

/-- PDELAY_REQ_SEND (R267). -/
def execPdelayReqSend (port : Nat) (s : State) : Host.Outcome State Fault Refusal := s.done (s.pdelaySend port)

/-- SYNC_TIMEOUT (R274). -/
def execSyncTimeout (s : State) : Host.Outcome State Fault Refusal := s.done s.onSyncTimeout

/-- ANNOUNCE_TIMEOUT (R274). -/
def execAnnounceTimeout (s : State) : Host.Outcome State Fault Refusal := s.done s.onAnnounceTimeout

/-- PTP_WAIT_EXPIRE (R53). -/
def execPtpWaitExpire (s : State) : Host.Outcome State Fault Refusal := s.done s.onPtpWait

end Sys2Proof.Machine
end

