-- ==== Sys2Proof/Machine/Rope.lean ====
section
/-! DEFINITION. The rope: tagged frames, links, breaks and heals, heads, and roping (R309 to R336). -/

namespace Sys2Proof.Machine

/-! ### Ring state -/

/-- Set RING_STATE: at 1 class ROPE_LINK stops being active, SINGLE sources still send both ways until the next boundary,
and an active head wants a roping run (R314, R328). -/
def State.setRing (s : State) (n : Nat) : State :=
  let old := s.reg Reg.ringState
  let s := s.setReg Reg.ringState n
  if n = 1 ∧ old ≠ 1 then
    let s := s.clearActive 0x16
    { s with rope := { s.rope with bothWays := decide (2 ≤ old), wantRun := s.rope.wantRun || s.reg Reg.headRole == 3 } }
  else s

/-- The link of a break: its two ends. -/
def BreakRec.same (a b : BreakRec) : Bool :=
  (a.mac == b.mac && a.port == b.port) || (a.mac == b.lost && a.lost == b.mac && a.port != b.port)

/-- The links out of UP that the unit knows: those the notices name and its own. -/
def State.linksOut (s : State) : List BreakRec :=
  let own := ([0, 1].filter fun p => s.linkState p != 3).map fun p =>
    ({ mac := s.mac, port := p, lost := (s.rope.links.getD p {}).neighbour } : BreakRec)
  (s.rope.breaks ++ own).foldl (fun l b => if l.any fun x => x.same b then l else l ++ [b]) []

/-- RING_STATE as the active head derives it (R320). -/
def State.ringOf (s : State) : Nat :=
  match s.linksOut with
  | [] => 1
  | [_] => 2
  | [a, b] => if a.lost = b.lost ∧ a.lost ≠ 0 then 2 else 3
  | _ => 3

/-- RING_STATE taken from the unit's own links (R320). -/
def State.ringOwn (s : State) : Nat := if s.linkState 0 = 3 ∧ s.linkState 1 = 3 then 1 else 3

/-- Has no beacon been accepted in the last 3 ms? -/
def State.noBeacon (s : State) : Bool := s.rope.beaconAt.all fun t => decide (t + ms 3 ≤ s.clock.cclk)

/-- RING_STATE follows a change of the links or notices: on the active head, and on a unit without a beacon (R320). -/
def State.ringUpdate (s : State) : State :=
  if s.reg Reg.headRole = 3 then s.setRing s.ringOf
  else if s.noBeacon then s.setRing s.ringOwn
  else s

/-! ### Links -/

/-- Link `p`. -/
def State.link (s : State) (p : Nat) : LinkSt := s.rope.links.getD p {}

/-- Put link `p` back. -/
def State.setLink (s : State) (p : Nat) (x : LinkSt) : State :=
  { s with rope := { s.rope with links := s.rope.links.set p x } }

/-- Set LINK_A_STATE or LINK_B_STATE. -/
def State.setLinkState (s : State) (p n : Nat) : State := s.setReg (if p = 0 then Reg.linkAState else Reg.linkBState) n

/-- A break or heal is known: reporter, port. -/
def linkPayload (mac port : Nat) : Bytes := beBytes 6 mac ++ beBytes 1 port

/-- A roping run is abandoned: a break, a takeover or a silence interrupts it (R328). -/
def State.dropRun (s : State) : State :=
  if s.rope.run.isNone then s else { s with rope := { s.rope with run := none, runEnd := some s.clock.cclk } }

/-- A break is seen: EV23, and class ROPE_LINK is captured and active (R319, Table 15.1); a roping run under way is abandoned. -/
def State.seeBreak (s : State) (b : BreakRec) : State :=
  let s := s.raise 23 (linkPayload b.mac b.port)
  let s := (s.capture 0x16 b.port b.mac).setActive 0x16
  ({ s with rope := { s.rope with breaks := s.rope.breaks ++ [b] } }).dropRun

/-- The body of a BREAK_NOTICE of port `p`. -/
def State.breakBody (s : State) (p cause : Nat) : Bytes :=
  beBytes 6 s.mac ++ beBytes 1 p ++ beBytes 1 cause ++ beBytes 6 (s.link p).neighbour

/-- Link `p` leaves UP: EV23, BREAK_NOTICE, BREAKS + 1 (Table 11.6); RING_STATE follows. -/
def State.breakLink (s : State) (p cause next : Nat) : State :=
  let s := s.seeBreak { mac := s.mac, port := p, lost := (s.link p).neighbour }
  let s := ((s.incReg Reg.breaks_3101).setLinkState p next).setLink p { s.link p with cause := cause }
  (s.sendSeg 0x09 (s.breakBody p cause)).ringUpdate

/-- A rope port has come up (Table 11.6, first two rows). -/
def State.linkPortUp (s : State) (p : Nat) : State :=
  if s.linkState p = 0 then
    let x := s.link p
    (s.setLink p { x with count := 0, provingFrom := s.clock.cclk, lastHb := s.clock.cclk }).setLinkState p
      (if x.wasUp then 2 else 1)
  else s

/-- A rope port has gone down: a break from UP, DOWN from every other state. -/
def State.linkPortDown (s : State) (p : Nat) : State :=
  if s.linkState p = 3 then s.breakLink p 0 0 else (s.setLinkState p 0).ringUpdate

/-- HEARTBEAT is received on port `p` (R317, R318). -/
def State.heartbeat (s : State) (p mac addr seg term : Nat) : State :=
  if !s.ropeOn || decide (2 ≤ p) || !s.portUp p then s
  else
    let x := s.link p
    if s.hasPos && decide (2 ≤ addr) && seg != s.reg Reg.segment then (s.incReg Reg.hbInvalid).setLink p { x with count := 0 }
    else
      let fresh := decide (s.clock.cclk ≤ x.lastHb + 600000)
      let x' := { x with lastHb := s.clock.cclk, neighbour := mac }
      let s := { s with rope := { s.rope with termHeard := max s.rope.termHeard term } }
      match s.linkState p with
      | 1 =>
        let n := if fresh then x.count + 1 else 1
        if 3 ≤ n then ((s.setLink p { x' with count := 0, wasUp := true }).setLinkState p 3).ringUpdate
        else s.setLink p { x' with count := n }
      | 2 => s.setLink p { x' with provingFrom := if fresh then x.provingFrom else s.clock.cclk }
      | 4 => (s.setLink p { x' with provingFrom := s.clock.cclk }).setLinkState p 2
      | _ => s.setLink p x'

/-- HEARTBEAT_LOSS: 600 µs without a valid heartbeat (R318). -/
def State.heartbeatLoss (s : State) (p : Nat) : State :=
  let x := s.link p
  if !s.ropeOn || decide (2 ≤ p) then s
  else
    match s.linkState p with
    | 3 => (s.reachCclk (x.lastHb + 600000)).breakLink p 1 4
    | 1 | 2 =>
      let s := s.reachCclk (x.lastHb + 600000)
      s.setLink p { x with count := 0, provingFrom := s.clock.cclk }
    | _ => s

/-- PROVING_DONE: 100 ms of valid heartbeats heal the link (R318). -/
def State.provingDone (s : State) (p : Nat) : State :=
  let x := s.link p
  if s.ropeOn && decide (p < 2) && s.linkState p == 2 then
    let s := s.reachCclk (x.provingFrom + ms 100)
    if s.clock.cclk ≤ x.lastHb + 600000 then
      let s := (s.raise 24 (linkPayload s.mac p)).incReg Reg.heals
      let s := { s with rope := { s.rope with breaks := s.rope.breaks.filter fun b =>
        !(b.same { mac := s.mac, port := p, lost := x.neighbour }) } }
      let s := (s.setLinkState p 3).sendSeg 0x0A (beBytes 6 s.mac ++ beBytes 1 p ++ beBytes 1 0 ++ beBytes 6 x.neighbour)
      s.ringUpdate
    else s.setLink p { x with provingFrom := s.clock.cclk }
  else s

/-- HEARTBEAT_SEND: a HEARTBEAT leaves a rope port that is up (R317, Table 11.8). -/
def State.heartbeatSend (s : State) (p : Nat) : State :=
  if s.ropeOn && decide (p < 2) then
    let m := ropeMsg 0x01 (beBytes 6 s.mac ++ beBytes 1 p ++ beBytes 1 (s.reg Reg.addrState) ++
      beBytes 1 (s.reg Reg.segment) ++ beBytes 1 (s.reg Reg.position) ++ beBytes 4 (s.reg Reg.headTerm) ++ beBytes 2 0)
    s.txLink p (ropeLen m.length) (.rope p (s.ropeTag p 2 0 0 0 0 0) m)
  else s

/-- BREAK_NOTICE is received: EV23 for a break not yet seen (R319). The notices of a link's two ends report one break (DEDUCED, log 90). -/
def State.breakNotice (s : State) (b : BreakRec) : State :=
  if !s.ropeOn || s.rope.breaks.any fun x => x.same b then s
  else (s.seeBreak b).ringUpdate

/-- HEAL_NOTICE is received: EV24 for a break that had been seen; its break is forgotten, but for one of the unit's own link, which its own
state machine ends (R318, R319). -/
def State.healNotice (s : State) (b : BreakRec) : State :=
  if s.ropeOn && s.rope.breaks.any fun x => x.same b then
    let s := s.raise 24 (linkPayload b.mac b.port)
    ({ s with rope := { s.rope with breaks := s.rope.breaks.filter fun x => !x.same b || x.mac == s.mac } }).ringUpdate
  else s

/-- BREAK_NOTICE_REPEAT: the reporter repeats its notice while the link is out of UP (R319). -/
def State.breakRepeat (s : State) (p : Nat) : State :=
  if s.ropeOn && decide (p < 2) && s.linkState p != 3 && s.rope.breaks.any fun x => x.mac == s.mac && x.port == p then
    s.sendSeg 0x09 (s.breakBody p (s.link p).cause)
  else s

/-! ### Heads -/

/-- May the unit be head (R321)? -/
def State.eligible (s : State) : Bool := s.pins.headEn && s.portUp 2 && s.flag (Reg.portEnable 2)

/-- HEAD_ROLE takes a new value; a head that gives its role up abandons its run. -/
def State.setRole (s : State) (n : Nat) : State :=
  let s := if n = 3 then s else s.dropRun
  { s.setReg Reg.headRole n with rope := { s.rope with quietFrom := s.clock.cclk, bidFrom := none } }

/-- Eligibility has changed (Table 11.7). An active head whose TRAIL is down keeps its role until the rule of 1 ms acts. -/
def State.roleUpdate (s : State) : State :=
  let role := s.reg Reg.headRole
  if s.eligible then
    let s := { s with rope := { s.rope with trailDown := none } }
    if role = 0 then s.setRole 1 else s
  else if role = 0 then s
  else if role = 3 ∧ s.pins.headEn ∧ s.flag (Reg.portEnable 2) then
    { s with rope := { s.rope with trailDown := some (s.rope.trailDown.getD s.clock.cclk) } }
  else s.setRole 0

/-- The second part of the unit's head key (R322): its stored position, of whatever segment, since the segment in force is the head's to
announce (DEDUCED, log 90). -/
def State.keyPos (s : State) : Nat :=
  if s.reg Reg.storedPos = 0xFFFF then 256 else s.reg Reg.storedPos % 256

/-- Is the key `(prio, pos, mac)` lower than the unit's own (R322)? -/
def State.lowerKey (s : State) (prio pos mac : Nat) : Bool :=
  let own := s.reg Reg.headPrio
  decide (prio < own) || (prio == own && (decide (pos < s.keyPos) || (pos == s.keyPos && decide (mac < s.mac))))

/-- Another eligible unit has bid or announced itself. -/
def State.heardOther (s : State) (mac : Nat) : State :=
  { s with rope := { s.rope with others := assocSet s.rope.others mac s.clock.cclk } }

/-- SEGMENT and PREFIX take values: with an address in force, a change is followed by gratuitous ARP (R331). The last PREFIX
taken is kept in the cairn. -/
def State.takeSegment (s : State) (seg pre : Nat) : State :=
  let changed := s.reg Reg.segment != seg || s.reg Reg.prefixR != pre
  let s := (s.setReg Reg.segment seg).setReg Reg.prefixR pre
  let s := { s with cairn := { s.cairn with prefixV := pre } }
  if changed && s.hasPos then s.announceAddr else s

/-- HEAD_BEACON is received (R321, R322): a head yields to a higher term, or to the same term and a lower key; a bidder
stops. A beacon that does not win against the head already followed within 3 ms is not accepted (R323). -/
def State.headBeacon (s : State) (mac pos seg term pre mode ring len prio : Nat) : State :=
  if !s.ropeOn || mac == s.mac then s
  else
    let s := { s.heardOther mac with rope := { (s.heardOther mac).rope with termHeard := max s.rope.termHeard term } }
    let own := s.reg Reg.headTerm
    let wins :=
      if s.reg Reg.headRole = 3 then decide (own < term) || (term == own && s.lowerKey prio pos mac)
      else if s.noBeacon || s.rope.headMac == mac then true
      else decide (own ≤ term) && !(term == own && decide (s.rope.headPrio < prio))
    if !wins then s
    else
      let s := if 2 ≤ s.reg Reg.headRole then (s.setRole 1).roleUpdate else s
      let s := { s with rope := { s.rope with beaconAt := some s.clock.cclk, headMac := mac, headPrio := prio,
                                              modeDue := some mode } }
      let s := s.setRegs [(Reg.headPos, pos), (Reg.headTerm, term), (Reg.segLen, if s.hasPos then len else 256)]
      (s.takeSegment seg pre).setRing ring

/-- HEAD_BEACON_SEND: the active head announces what the segment takes up (R321). -/
def State.beaconSend (s : State) : State :=
  if s.ropeOn && s.reg Reg.headRole == 3 then
    let mode := s.ownRopeMode
    let body := beBytes 6 s.mac ++ beBytes 1 (s.reg Reg.position) ++ beBytes 1 (s.reg Reg.segment) ++
      beBytes 4 (s.reg Reg.headTerm) ++ beBytes 2 (s.reg Reg.prefixR) ++ beBytes 1 mode ++ beBytes 1 (s.reg Reg.ringState) ++
      beBytes 2 (s.reg Reg.segLen) ++ beBytes 1 (s.reg Reg.headPrio) ++ beBytes 1 0
    let s := s.sendRope 1 0 0 0 (ropeMsg 0x02 body) true
    { s with rope := { s.rope with modeDue := some mode, beaconAt := some s.clock.cclk } }
  else s

/-- BEACON_SILENCE: 3 ms without a beacon (R320, R322). -/
def State.beaconSilence (s : State) : State :=
  if s.ropeOn && s.reg Reg.headRole != 3 then
    let s := s.reachCclk (max (s.rope.beaconAt.getD 0) s.rope.quietFrom + ms 3)
    let s := s.setRing s.ringOwn
    if s.reg Reg.headRole = 1 then
      let s := s.setRole 2
      { s with rope := { s.rope with bidFrom := some s.clock.cclk } }
    else s
  else s

/-- HEAD_BID_SEND: a bidder's HEAD_BID (R322). -/
def State.bidSend (s : State) : State :=
  if s.ropeOn && s.reg Reg.headRole == 2 then
    s.sendSeg 0x03 (beBytes 6 s.mac ++ beBytes 1 (s.reg Reg.headPrio) ++ beBytes 1 0 ++ beBytes 2 s.keyPos ++
      beBytes 4 s.rope.termHeard)
  else s

/-- HEAD_BID is received: a bidder with a higher key stops (R322). -/
def State.headBid (s : State) (mac prio keyPos term : Nat) : State :=
  if !s.ropeOn || mac == s.mac then s
  else
    let s := { s.heardOther mac with rope := { (s.heardOther mac).rope with termHeard := max s.rope.termHeard term } }
    if s.reg Reg.headRole = 2 ∧ s.lowerKey prio keyPos mac then s.setRole 1 else s

/-- BIDDING_DONE: 1,000 µs of bidding make the unit active head (R322, R328). -/
def State.biddingDone (s : State) : State :=
  match s.rope.bidFrom with
  | some t =>
    if s.ropeOn && s.reg Reg.headRole == 2 then
      let s := (s.reachCclk (t + ms 1)).setRole 3
      let s := (s.incReg Reg.takeovers).setRegs [(Reg.headTerm, (s.rope.termHeard + 1) % two32),
        (Reg.headPos, s.reg Reg.position)]
      let s := s.takeSegment (s.reg Reg.segmentCfg) (s.reg Reg.prefixCfg)
      let s := { s with rope := { s.rope with termHeard := s.rope.termHeard + 1, headMac := s.mac,
                                              headPrio := s.reg Reg.headPrio, wantRun := true } }
      s.setRing s.ringOf
    else s
  | none => s

/-- A standby head starts bidding at once. -/
def State.startBid (s : State) : State :=
  if s.reg Reg.headRole = 1 then
    let s := s.setRole 2
    { s with rope := { s.rope with bidFrom := some s.clock.cclk } }
  else s

/-- HEAD_RESIGN is received (R322). -/
def State.headResign (s : State) (mac term : Nat) : State :=
  if !s.ropeOn || mac == s.mac then s
  else ({ s with rope := { s.rope with termHeard := max s.rope.termHeard term, beaconAt := none } }).startBid

/-- TRAIL_DOWN_RESIGN: TRAIL down for 1 ms on the active head, another eligible unit heard in the last 10 s (R322). -/
def State.trailResign (s : State) : State :=
  match s.rope.trailDown with
  | some t =>
    if s.ropeOn && s.reg Reg.headRole == 3 then
      let s := s.reachCclk (t + ms 1)
      if s.rope.others.any fun o => decide (s.clock.cclk ≤ o.2 + ms 10000) then
        let body := beBytes 6 s.mac ++ beBytes 4 (s.reg Reg.headTerm)
        let s := ((s.sendSeg 0x04 body).pass 100000).sendSeg 0x04 body
        (s.setRole 1).roleUpdate
      else s
    else s
  | none => s

/-! ### Roping -/

/-- The unit's own record of a ROPE_CALL (Table 11.8). -/
def State.ownRec (s : State) : CallRec :=
  { mac := s.mac, eligible := s.eligible, running := s.mode.mode != .roping && s.hasPos,
    stored := s.reg Reg.storedPos != 0xFFFF,
    seg := if s.mode.mode != .roping && s.hasPos then s.reg Reg.segment else s.reg Reg.storedPos / 256,
    pos := if s.mode.mode != .roping && s.hasPos then s.reg Reg.position else s.reg Reg.storedPos % 256,
    ropedAt := s.reg Reg.ropedAt }

/-- The 16 bytes of a record. -/
def CallRec.bytes (r : CallRec) : Bytes :=
  beBytes 6 r.mac ++ beBytes 1 ((if r.eligible then 4 else 0) + (if r.running then 2 else 0) + (if r.stored then 1 else 0)) ++
    beBytes 1 r.seg ++ beBytes 1 r.pos ++ beBytes 1 0 ++ beBytes 6 r.ropedAt

/-- The body of a ROPE_CALL or ROPE_CALL_END. -/
def callBody (id seg : Nat) (l : List CallRec) : Bytes :=
  beBytes 2 id ++ beBytes 1 seg ++ beBytes 1 0 ++ beBytes 2 l.length ++ l.flatMap CallRec.bytes

/-- The body of a ROPE_SET. -/
def setBody (id seg len : Nat) (l : List SetEntry) : Bytes :=
  beBytes 2 id ++ beBytes 1 seg ++ beBytes 1 0 ++ beBytes 2 len ++ beBytes 2 l.length ++
    l.flatMap fun e => beBytes 6 e.mac ++ beBytes 1 e.pos ++ beBytes 1 e.result

/-- Does record `a` come before `b`: earlier ROPED_AT, then lower MAC_BASE (Table 11.9)? -/
def CallRec.before (a b : CallRec) : Bool := decide (a.ropedAt < b.ropedAt) || (a.ropedAt == b.ropedAt && decide (a.mac < b.mac))

/-- Insert a record in order. -/
def insertRec (x : CallRec) : List CallRec → List CallRec
  | [] => [x]
  | y :: r => if x.before y then x :: y :: r else y :: insertRec x r

/-- Records by earliest ROPED_AT, then lowest MAC_BASE. -/
def sortRecs (l : List CallRec) : List CallRec := l.foldl (fun a x => insertRec x a) []

/-- The position of the first entry that holds one, by MAC. -/
def taken (l : List SetEntry) (pos : Nat) : Bool := l.any fun e => e.pos == pos && decide (e.result ≤ 2)

/-- Records in order that keep their position when it is free, with result `ok`; otherwise unaddressed, RESULT 3. -/
def keepFree (ok : Nat) (l : List CallRec) (acc : List SetEntry) : List SetEntry :=
  l.foldl (fun a r => a ++ [({ mac := r.mac, pos := r.pos, result := if taken a r.pos then 3 else ok } : SetEntry)]) acc

/-- Units not stored take (HEAD_POS + h + 1) mod SEG_LEN when it is free (Table 11.9, step 5), on a closed ring; on an open
ring they stay unaddressed (step 6). -/
def placeNew (closed : Bool) (headPos len : Nat) (l : List (Nat × CallRec)) (acc : List SetEntry) : List SetEntry :=
  l.foldl (fun a p =>
    let q := (headPos + p.1 + 1) % max 1 len
    a ++ [({ mac := p.2.mac, pos := if closed then q else 0,
             result := if closed && !taken a q then 1 else 4 } : SetEntry)]) acc

/-- Resolution of a roping run (Table 11.9): `head` first, then the other records with their hops. -/
def resolve (closed : Bool) (seg : Nat) (head : CallRec) (recs : List (Nat × CallRec)) : List SetEntry :=
  let len := recs.length + 1
  let stored := fun (r : CallRec) => r.stored && r.seg == seg
  let headPos := if head.running || stored head then head.pos else 0
  let h : SetEntry := { mac := head.mac, pos := headPos, result := if head.running then 2 else if stored head then 0 else 1 }
  if closed && !(recs.any fun p => stored p.2 || p.2.running) && !head.running then
    h :: recs.map fun p => ({ mac := p.2.mac, pos := (headPos + p.1 + 1) % 256, result := 1 } : SetEntry)
  else
    let run := sortRecs ((recs.filter fun p => p.2.running).map fun p => p.2)
    let kept := keepFree 2 run [h]
    let old := sortRecs ((recs.filter fun p => !p.2.running && stored p.2).map fun p => p.2)
    let kept := keepFree 0 old kept
    placeNew closed headPos len (recs.filter fun p => !p.2.running && !stored p.2) kept

/-- Take a position, or lose it (R330). The flag says that a running unit has lost its position: its network sessions
close. -/
def State.takeEntry (s : State) (e : SetEntry) : Bool × State :=
  let roping := s.mode.mode == .roping
  let done := fun (t : State) =>
    let t := t.announceAddr
    if roping then
      let t := t.raise 25 (beBytes 1 (t.reg Reg.segment) ++ beBytes 1 (t.reg Reg.position))
      { t with mode := { t.mode with ropingEnd := some (t.mode.ropingEnd.getD 7) } }
    else t
  match e.result with
  | 0 => (false, done (s.setRegs [(Reg.position, s.reg Reg.storedPos % 256), (Reg.addrState, 2)]))
  | 1 =>
    let at_ := s.now / nsPerSec
    let v := s.reg Reg.segment * 256 + e.pos
    let s := s.setRegs [(Reg.position, e.pos), (Reg.addrState, 3), (Reg.storedPos, v), (Reg.ropedAt, at_)]
    (false, done { s with cairn := { s.cairn with position := some (s.reg Reg.segment, e.pos), ropedAt := at_ } })
  | 2 => (false, s)
  | r =>
    let lost := s.hasPos && !roping
    (lost, (s.setRegs [(Reg.addrState, 0), (Reg.segLen, 256)]).raise 26 (beBytes 1 r ++ beBytes 1 e.pos))

/-- The positions a ROPE_SET gives, as (MAC, position) pairs: the units of the segment. -/
def unitsOf (l : List SetEntry) : List (Nat × Nat) := (l.filter fun e => decide (e.result ≤ 2)).map fun e => (e.mac, e.pos)

/-- The head ends its run (R328, steps 4 and 5): it resolves the records, sends ROPE_SET along the path or paths, and takes
its own entry. -/
def State.finishRun (s : State) (r : RunSt) (closed : Bool) : Bool × State :=
  let recs := (List.range r.recsB.length).zip r.recsB ++ (List.range r.recsA.length).zip r.recsA
  let set := resolve closed (s.reg Reg.segment) s.ownRec recs
  let len := if closed then recs.length + 1 else 256
  let body := setBody r.id (s.reg Reg.segment) len set
  let s := s.sendNear 1 0 0x08 body
  let s := if closed then s else s.sendNear 0 0 0x08 body
  let s := { s with rope := { s.rope with run := none, runEnd := some s.clock.cclk, units := unitsOf set } }
  let out := match set with
    | h :: _ => s.takeEntry h
    | [] => (false, s)
  let s := out.2.setReg Reg.segLen len
  (out.1, s.setReg Reg.headPos (s.reg Reg.position))

/-- ROPING_RUN: the active head starts a run, at least 100 ms after the previous one (R328). -/
def State.ropingRun (s : State) : Bool × State :=
  if s.ropeOn && s.reg Reg.headRole == 3 && s.rope.wantRun && s.rope.run.isNone then
    let s := match s.rope.runEnd with
      | some t => s.reachCclk (t + ms 100)
      | none => s
    let id := (s.rope.callId + 1) % 65536
    let up := fun p => s.linkState p == 3
    let r : RunSt := { id := id, began := s.clock.cclk, second := !up 1, recsB := [], recsA := [] }
    let s := { s with rope := { s.rope with callId := id, wantRun := false, gotCall := true, relayed := some id } }
    if up 1 || up 0 then
      let s := { s with rope := { s.rope with run := some r } }
      (false, s.sendNear (if up 1 then 1 else 0) 0 0x06 (callBody id (s.reg Reg.segment) [s.ownRec]))
    else s.finishRun r false
  else (false, s)

/-- The head calls the other arm, out ROPE-A, or resolves the open ring when no link leads there (R328, step 3). -/
def State.secondCall (s : State) (r : RunSt) : Bool × State :=
  if s.linkState 0 = 3 then
    let s := { s with rope := { s.rope with run := some { r with second := true, began := s.clock.cclk } } }
    (false, s.sendNear 0 0 0x06 (callBody r.id (s.reg Reg.segment) [s.ownRec]))
  else s.finishRun r false

/-- ROPE_CALL is received on `port` with HOP `hop` (R328). -/
def State.ropeCall (s : State) (port hop id seg : Nat) (recs : List CallRec) : Bool × State :=
  if !s.ropeOn || decide (2 ≤ port) then (false, s)
  else
    match s.rope.run with
    | some r =>
      if (recs.head?.map (·.mac)) == some s.mac then
        if r.id = id ∧ port = 0 ∧ r.second = false ∧ s.clock.cclk ≤ r.began + ms 20 then
          s.finishRun { r with recsB := recs.drop 1 } true
        else (false, s)
      else (false, s)
    | none =>
      -- the spec names no result code for it: 4, unaddressed (DESIGN CHOICE, log 90)
      if 255 ≤ hop then (false, s.raise 26 (beBytes 1 4 ++ beBytes 1 0))
      else
        let l := recs ++ [s.ownRec]
        let s := { s with rope := { s.rope with gotCall := true, relayed := some id } }
        let on := 1 - port
        (false, if s.linkState on = 3 then s.sendNear on (hop + 1) 0x06 (callBody id seg l)
                else s.sendNear port 0 0x07 (callBody id seg l))

/-- ROPE_CALL_END is received on `port` (R328, step 3): relayed toward the head, which takes the arm's records. -/
def State.ropeCallEnd (s : State) (port id seg : Nat) (recs : List CallRec) : Bool × State :=
  if !s.ropeOn || decide (2 ≤ port) then (false, s)
  else
    match s.rope.run with
    | some r =>
      if r.id ≠ id then (false, s)
      else if port = 1 ∧ r.second = false then s.secondCall { r with recsB := recs.drop 1 }
      else if port = 0 ∧ r.second then s.finishRun { r with recsA := recs.drop 1 } false
      else (false, s)
    | none => (false, s.sendNear (1 - port) 0 0x07 (callBody id seg recs))

/-- CALL_TIMEOUT: 20 ms without the call's return: the second call, or the run is abandoned (R328). -/
def State.callTimeout (s : State) : Bool × State :=
  match s.rope.run with
  | some r =>
    let s := s.reachCclk (r.began + ms 20)
    if r.second then (false, { s with rope := { s.rope with run := none, runEnd := some s.clock.cclk } })
    else s.secondCall r
  | none => (false, s)

/-- ROPE_SET is received on `port` (R330): relayed, and the unit's own entry taken. One whose CALL_ID is not that of the last
call relayed is ignored (R332). -/
def State.ropeSet (s : State) (port id seg len : Nat) (entries : List SetEntry) : Bool × State :=
  if !s.ropeOn || decide (2 ≤ port) || s.rope.relayed != some id || s.reg Reg.headRole == 3 then (false, s)
  else
    let s := s.sendNear (1 - port) 0 0x08 (setBody id seg len entries)
    let s := { s with rope := { s.rope with units := unitsOf entries } }
    let s := s.takeSegment seg (s.reg Reg.prefixR)
    match entries.find? fun e => e.mac == s.mac with
    | some e =>
      let r := s.takeEntry e
      (r.1, if r.2.hasPos then r.2.setReg Reg.segLen len else r.2)
    | none => (false, s)

/-- JOIN_REQ_SEND: a unit in ROPING without a position asks to join (R327). -/
def State.joinSend (s : State) : State :=
  if s.ropeOn && s.mode.mode == .roping && !s.hasPos then s.sendSeg 0x05 (beBytes 6 s.mac) else s

/-- JOIN_REQ is received: the active head wants a run (R328). -/
def State.joinReq (s : State) : State :=
  if s.ropeOn && s.reg Reg.headRole == 3 then { s with rope := { s.rope with wantRun := true } } else s

/-- ROPE_WAIT_EXPIRE: without a ROPE_CALL in ROPE_WAIT, the unit takes its stored position, or 0.0, and starts standalone
(R53, R330). -/
def State.ropeWait (s : State) : State :=
  if s.mode.mode == .roping && !s.rope.gotCall && s.mode.ropingEnd.isNone then
    let s := s.reachCclk (s.mode.ropingAt + ms (s.reg Reg.ropeWait))
    let v := if s.reg Reg.storedPos = 0xFFFF then 0 else s.reg Reg.storedPos
    let s := s.setRegs [(Reg.segment, v / 256), (Reg.position, v % 256), (Reg.addrState, 4)]
    { s.announceAddr with mode := { s.mode with ropingEnd := some 8 } }
  else s

/-- A change of rope mode is taken up at a boundary, and sources return to one port (R314). -/
def State.ropeBoundary (s : State) : State :=
  let s := match s.rope.modeDue with
    | some m =>
      let changed := s.reg Reg.ropeMode != m
      let s := s.setReg Reg.ropeMode m
      if changed && m == 1 then s.unmask 0x16 0 0 else s
    | none => s
  { s with rope := { s.rope with modeDue := none, bothWays := s.rope.bothWays && s.reg Reg.ringState != 1 } }

/-- DUP_WINDOW_FORGET: no frame of a source accepted for 10 ms (R313). -/
def State.forgetWin (s : State) (src : Nat) : State :=
  match assocGet s.rope.wins src with
  | some w =>
    let s := s.reachCclk (w.last + ms 10)
    { s with rope := { s.rope with wins := assocDel s.rope.wins src } }
  | none => s

/-! ### The crevasse injector -/

/-- The injector disarms: EV62 with STATE (R335). -/
def State.disarm (s : State) : State :=
  if s.inj.armed then
    let s := { s with inj := { s.inj with armed := false, rules := 0 } }
    (s.setReg Reg.state 0).raise 62 (beBytes 1 0)
  else s

/-- The injector arms every rule whose ACTION is not OFF, for DURATION_MS, for session `sess` (R335). -/
def State.armRules (s : State) (sess : Nat) : State :=
  let rules := (List.range 4).foldl (fun m k => if s.reg (Reg.ruleAction k) = 0 then m else setBit m k) 0
  let s := { s with inj := { armed := true, by_ := sess, till := s.clock.cclk + ms (s.reg Reg.durationMs), rules := rules } }
  (s.setReg Reg.state 1).raise 62 (beBytes 1 1)

/-- INJECT_DURATION_END (R335). -/
def State.injectEnd (s : State) : State := if s.inj.armed then (s.reachCclk s.inj.till).disarm else s

end Sys2Proof.Machine
end

