-- ==== Sys2Proof/Machine/Net.lean ====
section
/-! DEFINITION. The Ethernet ports: up and down, the frame checker, PAUSE, the receive queues, bridging, multicast
membership, and the crevasse injector's actions on received frames (R287 to R313, R324, R325, R334). -/

namespace Sys2Proof.Machine

/-! ### Ports -/

/-- LINK_STATE of port `p` takes a value; a change between up and down counts, and raises EV21 or EV22 on a rope port
(R289). -/
def State.setPortState (s : State) (p n : Nat) : State :=
  let was := s.portUp p
  let s := s.setReg (Reg.portLinkState p) n
  if was == decide (n = 1) then s
  else
    let s := s.incReg (Reg.portLinkChanges p)
    if p < 2 then s.raise (21 + p) (beBytes 1 (if n = 1 then 1 else 0)) else s

/-- Frames waiting for a port that goes down are lost and counted (R298). -/
def State.dropWaiting (s : State) (p : Nat) : State :=
  let x := s.port p
  (s.setPort p { x with waiting := [] }).addReg (Reg.cntTxDiscards p) x.waiting.length

/-- PORT_UP: the PCS has held lock for 1 ms (R289). An SGMII partner at 10 or 100 Mb/s leaves the link down (R287). -/
def State.portRise (s : State) (p : Nat) : State :=
  if !s.ropeOn || decide (3 ≤ p) || s.portHeld p || s.reg (Reg.portLinkState p) == 3 || s.portUp p then s
  else if p = 2 ∧ s.reg (Reg.portSpeed 2) = 3 ∧ s.host.phySpeed ≠ 1000 then s.setPortState 2 4
  else
    let s := s.setPortState p 1
    if p < 2 then s.linkPortUp p else s.roleUpdate

/-- Port `p` goes down and LINK_STATE reads `n`. -/
def State.portFall (s : State) (p n : Nat) : State :=
  let up := s.portUp p
  let s := (s.dropWaiting p).setPortState p n
  if !up then s
  else if p < 2 then (if n = 2 then (s.setLinkState p 0).ringUpdate else s.linkPortDown p)
  else s.roleUpdate

/-- PORT_DOWN: the PCS has lost lock for 20 µs (R289). -/
def State.portDrop (s : State) (p : Nat) : State :=
  if s.ropeOn && decide (p < 3) && s.portUp p then s.portFall p (if s.portHeld p then 2 else 0) else s

/-- ENABLE of port `p` or HEAD_EN has changed (R291): held down, or released to train. -/
def State.portHold (s : State) (p : Nat) : State :=
  if !s.ropeOn then s
  else if s.portHeld p then
    let s := s.portFall p 2
    if p = 2 then s.roleUpdate else s
  else if s.reg (Reg.portLinkState p) = 2 then s.setReg (Reg.portLinkState p) 0
  else s

/-- A new SPEED, FEC, MAX_FRAME, VLAN, PCP, TSQ_DEPTH or PHY_ADDR applies: the port goes down and trains again (R290). -/
def State.portRetrain (s : State) (p : Nat) : State :=
  if s.ropeOn ∧ s.portUp p then s.portFall p 0 else s

/-- A change of TSQ_DEPTH empties the time-stamp queue (R290). -/
def State.tsqClear (s : State) (p : Nat) : State := s.setPort p { s.port p with tsq := [] }

/-- HEAD_EN takes a level (R291, R321). -/
def State.headEnChange (s : State) (level : Bool) : State :=
  let s := { s with pins := { s.pins with headEn := level } }
  if s.ropeOn then (s.portHold 2).roleUpdate else s

/-- MDIO_POLL: the external PHY's status in SGMII mode (R288); a partner at 10 or 100 Mb/s reads 4 (R287). -/
def State.mdioPoll (s : State) (up : Bool) (speed : Nat) : State :=
  if s.ropeOn && s.reg (Reg.portSpeed 2) == 3 && !s.portHeld 2 then
    let s := { s with host := { s.host with phySpeed := speed } }
    if !up then (if s.portUp 2 ∨ s.reg (Reg.portLinkState 2) = 4 then s.portFall 2 0 else s)
    else if speed ≠ 1000 then s.portFall 2 4
    else if s.reg (Reg.portLinkState 2) = 4 then s.setPortState 2 0
    else s
  else s

/-! ### PAUSE (R301) -/

/-- Line rate of port `p` in Mb/s (Table 10.1). -/
def State.lineRate (s : State) (p : Nat) : Nat :=
  match s.reg (Reg.portSpeed p) with
  | 0 => 25000
  | 1 => 10000
  | _ => 1000

/-- A PAUSE frame of `quanta` is received. -/
def State.pauseRx (s : State) (p quanta : Nat) : State :=
  if !s.ropeOn || decide (3 ≤ p) || !s.portUp p then s
  else
    let s := s.incReg (Reg.cntPauseRx p)
    let x := s.port p
    if !s.flag (Reg.portPauseRxEn p) || x.disregard.isSome then s
    else if quanta = 0 then (if x.pauseEnd.isSome then (s.txResume p).setReg (Reg.portPauseState p) 0 else s)
    else
      let e := s.clock.cclk + quanta * 512 * 1000 / s.lineRate p
      (s.setPort p { x with pauseEnd := some e, holdFrom := if x.pauseEnd.isSome then x.holdFrom else s.clock.cclk }).setReg
        (Reg.portPauseState p) 1

/-- PAUSE_EXPIRE: the pause time runs out at or before PW_LIMIT. -/
def State.pauseExpire (s : State) (p : Nat) : State :=
  match (s.port p).pauseEnd with
  | some e =>
    if e ≤ (s.port p).holdFrom + s.reg (Reg.portPwLimit p) then
      ((s.reachCclk e).txResume p).setReg (Reg.portPauseState p) 0
    else s
  | none => s

/-- PAUSE_WATCHDOG: the hold reaches PW_LIMIT with pause time left; PAUSE is disregarded for 100 ms. -/
def State.pauseWatchdog (s : State) (p : Nat) : State :=
  match (s.port p).pauseEnd with
  | some e =>
    let limit := (s.port p).holdFrom + s.reg (Reg.portPwLimit p)
    if limit < e then
      let s := (s.reachCclk limit).txResume p
      let s := s.setPort p { s.port p with disregard := some (s.clock.cclk + ms 100) }
      ((s.setReg (Reg.portPauseState p) 2).incReg (Reg.cntPauseWatchdog p)).raise 27 (beBytes 1 p)
    else s
  | none => s

/-- PAUSE_DISREGARD_END: PAUSE acts again. -/
def State.pauseDisregardEnd (s : State) (p : Nat) : State :=
  match (s.port p).disregard with
  | some t =>
    let s := s.reachCclk t
    (s.setPort p { s.port p with disregard := none }).setReg (Reg.portPauseState p) 0
  | none => s

/-! ### Multicast membership and addresses (R293, R300) -/

/-- The membership groups a report carries (RFC 2236, RFC 3376). -/
def reportGroups (ip : Bytes) : List Nat :=
  let g := ip.drop (ihl ip)
  match field g 0 1 with
  | 0x16 => [field g 4 4]
  | 0x22 => (List.range (min 256 (field g 6 2))).map fun i => field g (12 + 8 * i) 4
  | _ => []

/-- A membership report of a unit of the segment is noted for bridging. -/
def State.noteReport (s : State) (ty : Nat) (ip : Bytes) : State :=
  if ty = 0x0800 ∧ ipProto ip = 2 then
    let m := (reportGroups ip).foldl (fun m g => assocSet m (g % 8388608) s.clock.cclk) s.rope.members
    { s with rope := { s.rope with members := m } }
  else s

/-- A group record of an IGMPv3 report (RFC 3376). -/
def igmpRecord (ty : Nat) (g : Nat) (srcs : List Nat) : Bytes :=
  beBytes 1 ty ++ beBytes 1 0 ++ beBytes 2 srcs.length ++ beBytes 4 g ++ srcs.flatMap (beBytes 4)

/-- The record of a group that a report carries: of a change, or of the membership as it stands; a source filter is an INCLUDE record,
none an EXCLUDE record, and a group that is left includes nothing. -/
def groupRecord (change : Bool) (g : Nat × List Nat × Bool) : Bytes :=
  igmpRecord (if g.2.2 then 3 else (if g.2.1.isEmpty then 2 else 1) + (if change then 2 else 0)) g.1 (if g.2.2 then [] else g.2.1)

/-- Records gathered into reports of at most `n` bytes. -/
def igmpChunks (n : Nat) (l : List Bytes) : List (List Bytes) :=
  l.foldl (fun (acc : List (List Bytes)) r =>
    match acc with
    | c :: rest => if (c.map List.length).sum + r.length ≤ n then (c ++ [r]) :: rest else [r] :: acc
    | [] => [[r]]) [] |>.reverse

/-- The packet of an IGMP message for `dst`, with TTL 1 and the Router Alert option. -/
def State.igmpIp (s : State) (dst : Nat) (b : Bytes) : Bytes :=
  ipPacket 2 0xC0 1 s.ipAddr dst (beBytes 4 0x94040000) (withSum b)

/-- Send an IGMP message to a group; the active head notes its own reports as those of the segment (R300, R324). -/
def State.sendIgmp (s : State) (dst : Nat) (b : Bytes) : State :=
  let ip := s.igmpIp dst b
  let s := if s.reg Reg.headRole = 3 then s.noteReport 0x0800 ip else s
  s.sendHost (0x01005E000000 + dst % 8388608) 0x0800 ip

/-- Membership reports for groups, in the version in use, and IGMPv2 leaves; each report counts (R300). -/
def State.sendReport (s : State) (change : Bool) (l : List (Nat × List Nat × Bool)) : State :=
  if !s.ropeOn then s
  else if s.reg Reg.igmpVersion = 2 then
    l.foldl (fun (s : State) g =>
      if g.2.2 then s.sendIgmp 0xE0000002 (beBytes 1 0x17 ++ beBytes 3 0 ++ beBytes 4 g.1)
      else (s.sendIgmp g.1 (beBytes 1 0x16 ++ beBytes 3 0 ++ beBytes 4 g.1)).incReg Reg.igmpReports) s
  else
    (igmpChunks 1400 (l.map (groupRecord change))).foldl (fun (s : State) c =>
      (s.sendIgmp 0xE0000016 (beBytes 1 0x22 ++ beBytes 5 0 ++ beBytes 2 c.length ++ c.flatten)).incReg Reg.igmpReports) s

/-- The PTP groups 224.0.1.129 and 224.0.0.107 (Table 9.3). -/
def ptpGroups : List Nat := [0xE0000181, 0xE000006B]

/-- The groups joined change: what is joined anew or filtered otherwise and what is left is reported at once, with two repeats without a
querier (R300). -/
def State.joinGroups (s : State) (l : List (Nat × List Nat)) : State :=
  if l = s.host.groups then s
  else
    let joined := (l.filter fun g => !s.host.groups.contains g).map fun g => (g.1, g.2, false)
    let left := (s.host.groups.filter fun g => l.all fun h => h.1 != g.1).map fun g => (g.1, ([] : List Nat), true)
    let s := { s with host := { s.host with groups := l, changes := joined ++ left, repeats := 2, repeatAt := s.clock.cclk + ms 1000 } }
    (s.sendReport true s.host.changes).setReg Reg.groups l.length

/-- IGMP_QUERY: answered with a report; an IGMPv2 query falls back for 260 s. -/
def State.igmpQuery (s : State) (version : Nat) : State :=
  if !s.ropeOn then s
  else
    let s := { s with host := { s.host with repeats := 0 } }
    let s := if version = 2 then
        ({ s with host := { s.host with v2Till := some (s.clock.cclk + ms 260000) } }).setReg Reg.igmpVersion 2
      else s
    s.sendReport false (s.host.groups.map fun g => (g.1, g.2, false))

/-- IGMP_REPORT_REPEAT: an unsolicited report is repeated 1 s later, twice. -/
def State.igmpRepeat (s : State) : State :=
  if s.ropeOn && decide (0 < s.host.repeats) then
    let s := s.reachCclk s.host.repeatAt
    ({ s with host := { s.host with repeats := s.host.repeats - 1, repeatAt := s.clock.cclk + ms 1000 } }).sendReport true
      s.host.changes
  else s

/-- IGMPV2_FALLBACK_END: 260 s after the last IGMPv2 query. -/
def State.igmpFallbackEnd (s : State) : State :=
  match s.host.v2Till with
  | some t =>
    let s := s.reachCclk t
    ({ s with host := { s.host with v2Till := none } }).setReg Reg.igmpVersion 3
  | none => s

/-- An ARP packet of the unit (RFC 826). -/
def State.arpPacket (s : State) (op mac target : Nat) : Bytes :=
  beBytes 2 1 ++ beBytes 2 0x0800 ++ beBytes 1 6 ++ beBytes 1 4 ++ beBytes 2 op ++ beBytes 6 s.hostMac ++ beBytes 4 s.ipAddr ++
    beBytes 6 mac ++ beBytes 4 target

/-- ARP_ANNOUNCE: one of three gratuitous ARP requests, 100 ms apart. -/
def State.arpAnnounce (s : State) : State :=
  if s.ropeOn && decide (0 < s.host.arpLeft) then
    let s := s.reachCclk s.host.arpNext
    let s := { s with host := { s.host with arpLeft := s.host.arpLeft - 1, arpNext := s.clock.cclk + ms 100 } }
    s.sendHost 0xFFFFFFFFFFFF 0x0806 (s.arpPacket 1 0 s.ipAddr)
  else s

/-! ### Frames -/

/-- A frame without its last four bytes. -/
def bodyOf (f : Bytes) : Bytes := f.take (f.length - 4)

/-- A frame ended with an inverted FCS (R297). -/
def stomped (body : Bytes) : Bytes := body ++ (fcsOf body).map (· ^^^ 0xFF)

/-- The rope tag of a frame on a rope port (Table 11.1). -/
def tagOf (f : Bytes) : RopeTag :=
  let t := field f 14 1
  { nopos := bit t 6, dir := bits t 5 5, dstk := bits t 4 3, cls := bits t 2 0, src := field f 15 1, dst := field f 16 1,
    hop := field f 17 1, seq := field f 18 2, inner := field f 20 2 }

/-- Does a frame carry a legal rope tag (R309)? -/
def State.tagOk (s : State) (f : Bytes) : Bool :=
  field f 12 2 == s.reg Reg.ethertype && bit (field f 14 1) 7 && decide (bits (field f 14 1) 2 0 ≤ 4)

/-- The checker's flags of a frame (Table 10.3): bits of classes 1 to 5. -/
def State.rxFlags (s : State) (p : Nat) (f : Bytes) (align : Bool) : Nat :=
  let fcs := f.drop (f.length - 4)
  let good := fcsOf (bodyOf f)
  let stomp := fcs == good.map (· ^^^ 0xFF)
  (if f.length < 64 then 1 else 0) + (if stomp then 16 else 0) + (if s.reg (Reg.portMaxFrame p) < f.length then 2 else 0) +
    (if align then 8 else 0) + (if fcs != good && !stomp then 4 else 0)

/-- The counter of the first class of Table 10.3 among the flags. -/
def badCounter (p flags : Nat) : Nat :=
  if bit flags 0 then Reg.cntRunts p
  else if bit flags 4 then Reg.cntStompedRx p
  else if bit flags 1 then Reg.cntOversize p
  else if bit flags 3 then Reg.cntAlignErrors p
  else if bit flags 2 then Reg.cntFcsErrors p
  else Reg.cntCsumErrors p

/-- A frame enters the diagnostic queue (R303). -/
def State.diagPush (s : State) (p flags : Nat) (f : Bytes) : State :=
  let n := min (min f.length 65535) (s.reg (Reg.portDiagSnap p))
  let r : DiagRec := { flags := flags, len := min f.length 65535, time := s.now, snap := f.take n }
  let x := s.port p
  let q := pushSized (x.diag.length + 1) 64 s.poolFree (fun d => cellsOf (16 + d.snap.length)) x.diag r
  let s := (((s.setPort p { x with diag := q.1 }).seeDepth (19 + p) q.1.length).addReg (Reg.diagDiagLost p) q.2).poolCheck
  if q.2 = 0 then s else s.raiseLoss 32 (19 + p) q.2 (beBytes 2 (19 + p) ++ beBytes 4 q.2)

/-- A frame in error: its class counts, EV28 with the flags, and the diagnostic queue when DELIVER_BAD is 1 (R295). -/
def State.badFrame (s : State) (p flags : Nat) (f : Bytes) : State :=
  let s := s.incReg (badCounter p flags)
  let s := if s.flag (Reg.portDeliverBad p) then s.diagPush p flags f else s
  s.raise 28 (beBytes 1 p ++ beBytes 2 flags)

/-! ### Local delivery -/

/-- A declared video stream entry (Table 4.12) received on port `p` whose destination, port and source filter match; its number. -/
def videoStream (sec : Bytes) (p : Nat) (ip : Bytes) : Option Nat :=
  (List.range (field sec 0 1)).findSome? fun i =>
    let e := slice sec (8 + 64 * i) 64
    if bit (field e 40 1) p ∧ field e 16 4 = field ip 16 4 ∧ field e 24 2 = udpDst ip ∧ (field e 20 4 = 0 ∨ field e 20 4 = field ip 12 4) then
      some (field e 0 1)
    else none

/-- A declared audio stream entry (Table 4.13) received on port `p` that matches. -/
def audioStream (sec : Bytes) (p : Nat) (ip : Bytes) : Option Nat :=
  (List.range (field sec 1 1)).findSome? fun i =>
    let e := slice sec (8 + 64 * field sec 0 1 + 64 * i) 64
    if bit (field e 20 1) p ∧ field e 4 4 = field ip 16 4 ∧ field e 12 2 = udpDst ip ∧ (field e 8 4 = 0 ∨ field e 8 4 = field ip 12 4) then
      some (field e 0 1)
    else none

/-- The STREAMS section of the active topo; an empty one without it. -/
def State.streams (s : State) : Bytes := (s.section? 0x24).getD []

/-- The receive queue of an IPv4 packet that port `p` received in rope class `cls` (Table 10.4); none when it matches no queue. PTP and E1.31 packets are
the unit's when they are sent to its own address, or to a group it has joined (R22). -/
def State.rxQueueOf (s : State) (p cls : Nat) (ip : Bytes) : Option Nat :=
  let d := udpDst ip
  let to_ := field ip 16 4
  if (d = 319 ∨ d = 320) ∧ (cls = 1 ∨ p = 2) ∧ (to_ = s.ipAddr ∨ ptpGroups.contains to_) then some 0
  else if (videoStream s.streams p ip).isSome then some 2
  else if (audioStream s.streams p ip).isSome then some 3
  else if d = 5568 ∧ (to_ = s.ipAddr ∨ (s.host.groups.any fun g => g.1 == to_)) then some 4
  else if d ≠ 0 ∧ d = s.reg Reg.udpPort ∧ field ip 16 4 = s.ipAddr then some 1
  else if ipProto ip = 1 ∨ ipProto ip = 2 then some 7
  else none

/-- What the receive DMA places in a queue: a 16-byte receive header (port, class, length, time of the first byte) and the
frame. The specification gives the 16 bytes and not their contents (assumption log 20). -/
def rxItem (p cls now : Nat) (f : Bytes) : Bytes :=
  beBytes 1 p ++ beBytes 1 cls ++ beBytes 2 f.length ++ beBytes 10 (time80 now) ++ beBytes 2 0 ++ f

/-- Is a MAC address one the unit takes locally (R296)? The PTP groups are taken before an activation joins them too, since the ports'
PTP service begins in ROPING (R286; DEDUCED, log 90). -/
def State.macLocal (s : State) (p da : Nat) : Bool :=
  da == s.mac + p || da == s.hostMac || da == 0xFFFFFFFFFFFF ||
    (ptpGroups ++ s.host.groups.map Prod.fst).any fun g => da == 0x01005E000000 + g % 8388608

/-- Stamp a received PTP event message or a packet of a declared video stream (R304). -/
def State.stampRx (s : State) (p : Nat) (ip : Bytes) : State :=
  let u := ip.drop (ihl ip + 8)
  if udpDst ip = 319 then
    let ty := field u 0 1 % 16
    if ty ≤ 3 then s.stamp p { time := s.rxTime p, kind := 1, msg := ty, seq := field u 30 2 } else s
  else
    match videoStream s.streams p ip with
    | some n => s.stamp p { time := s.rxTime p, kind := 3, msg := n, seq := field u 2 2 }
    | none => s

/-- A PTP packet: event messages are stamped, a Sync that waits for its stamp takes it (R272); management and signaling messages are
ignored and counted (R269). -/
def State.ptpHeard (s : State) (p : Nat) (ip : Bytes) : State :=
  let u := ip.drop (ihl ip + 8)
  let ty := field u 0 1 % 16
  let s := s.stampRx p ip
  if udpDst ip = 319 ∧ ty = 0 then s.syncStamped p (field u 30 2)
  else if (udpDst ip = 319 ∨ udpDst ip = 320) ∧ (ty = 12 ∨ ty = 13) then s.ptpIgnored
  else s

/-- Deliver an IPv4 packet `ip` of frame `f`, received on port `p` in rope class `cls` (0xFF on TRAIL): checksums, stamp,
queue. -/
def State.deliverIp (s : State) (p cls : Nat) (f ip : Bytes) : State :=
  let bad := ipFlags ip
  if bad != 0 then s.badFrame p bad f
  else
    let s := s.ptpHeard p ip
    match s.rxQueueOf p cls ip with
    | some q => s.rxPush p q (rxItem p cls s.now f)
    | none => s.incReg (Reg.cntFiltered p)

/-- Deliver a payload by EtherType: IPv4, ARP, or nothing the unit takes. -/
def State.deliverType (s : State) (p cls ty : Nat) (f pay : Bytes) : State :=
  if ty = 0x86DD then s.incReg (Reg.cntIpv6Drops p)
  else if ty = 0x0800 then
    if isFragment pay then s.incReg (Reg.cntFragments p) else s.deliverIp p cls f pay
  else if ty = 0x0806 then s.rxPush p 7 (rxItem p cls s.now f)
  else if ty = 0x8100 ∨ ty = 0x88A8 then s.incReg (Reg.cntVlanDrops p)
  else s.incReg (Reg.cntFiltered p)

/-- Local delivery of a rope frame (Tables 10.4 and 11.3). A unit without a position takes only CONTROL and TIME (R311). -/
def State.deliverRope (s : State) (p : Nat) (t : RopeTag) (f : Bytes) : State :=
  if !s.hasPos && decide (2 ≤ t.cls) then s
  else
    match t.cls with
    | 0 => s.rxPush p 5 (rxItem p 0 s.now f)
    | 3 => s.rxPush p 6 (rxItem p 3 s.now f)
    | c =>
      if s.macLocal p (field f 0 6) then s.deliverType p c t.inner f ((bodyOf f).drop 22)
      else s.incReg (Reg.cntFiltered p)

/-! ### Duplicates (R313) -/

/-- Test a frame against its source's window: accepted or not, with the window after it. -/
def State.dupTest (s : State) (src seq : Nat) : Bool × State :=
  let now := s.clock.cclk
  let put := fun (w : DupWin) => { s with rope := { s.rope with wins := assocSet s.rope.wins src w } }
  match (assocGet s.rope.wins src).filter fun w => decide (now < w.last + ms 10) with
  | none => (true, put { newest := seq, bits := 1, last := now })
  | some w =>
    let d := (seq + 65536 - w.newest) % 65536
    if 1 ≤ d ∧ d ≤ 32767 then (true, put { newest := seq, bits := (w.bits * 2 ^ (min d 256) + 1) % 2 ^ 256, last := now })
    else
      let back := (65536 - d) % 65536
      if back ≤ 255 then
        if bit w.bits back then (false, s.incReg Reg.dupDiscards)
        else (true, put { w with bits := setBit w.bits back, last := now })
      else (false, s.incReg Reg.staleDiscards)

/-! ### Forwarding (R297, R311) -/

/-- The longest a transit frame stays, in ns: 400, and the rest of an originated frame under way on egress port `q` (R312). -/
def State.hopMost (s : State) (q : Nat) : Nat := 400 + ceilDiv ((s.reg (Reg.portMaxFrame q) + 20) * 8000) (s.lineRate q)

/-- What a transparent clock adds to correctionField of a Sync or Follow_Up that passes from port `p` to `q` (R266), in ns · 2^16: the
mean link delay of the ingress link, and the residence time from time-stamp point to time-stamp point, a free value no greater than the
hop latency of R312 allows (assumption log 3). A non-zero UDP checksum is corrected by RFC 1624 (R299). -/
def State.residence (s : State) (p q : Nat) (t : RopeTag) (body : Bytes) : Bytes × State :=
  let ip := body.drop 22
  let o := 22 + ihl ip + 8
  let ty := field body o 1 % 16
  if t.cls = 1 ∧ (udpDst ip = 319 ∨ udpDst ip = 320) ∧ (ty = 0 ∨ ty = 8) then
    let r := s.drawWord 32
    let add := r.1 % (s.hopMost q * 65536 + 1) + (psToCorr (s.reg (Reg.linkDelay p))).toNat
    let new := beBytes 8 ((field body (o + 8) 8 + add) % two64)
    let c := field body (o - 2) 2
    let fix := checksum ((65535 - c) + (4 * 65535 - wordSum (slice body (o + 8) 8)) + wordSum new)
    let body := body.take (o + 8) ++ new ++ body.drop (o + 16)
    (if c = 0 then body else body.take (o - 2) ++ beBytes 2 fix ++ body.drop o, r.2)
  else (body, s)

/-- Forward a transit frame out the other rope port with HOP + 1 (R311), or ended early with an inverted FCS (R297). -/
def State.forward (s : State) (p : Nat) (t : RopeTag) (f : Bytes) (bad : Bool) : State :=
  let q := 1 - p
  let top := s.reg (Reg.portMaxFrame q)
  let body := (bodyOf f).take 17 ++ beBytes 1 (t.hop + 1) ++ (bodyOf f).drop 18
  if s.txDown q then s.incReg (Reg.cntTxDiscards q)
  else if bad || decide (top < f.length) then
    let cut := body.take (min body.length (top + 1 - 4))
    let s := s.incReg (Reg.cntStompedTx q)
    s.txAny q (cut.length + 4) (.frame q (stomped cut))
  else
    let r := s.residence p q t body
    r.2.tx q f.length (.frame q (withFcs r.1))

/-! ### Bridging (R324, R325) -/

/-- Bridge a rope frame to TRAIL (R325). -/
def State.bridgeOut (s : State) (t : RopeTag) (f : Bytes) : State :=
  let pay := (bodyOf f).drop 22
  let s := s.noteReport t.inner pay
  let body := (bodyOf f).take 12 ++ s.vlanTag ++ beBytes 2 t.inner ++ pay
  let body := padded body
  if s.reg (Reg.portMaxFrame 2) < body.length + 4 then s.incReg Reg.bridgeOversize
  else (s.tx 2 (body.length + 4) (.frame 2 (withFcs body))).incReg Reg.bridgeOut

/-- Where a TRAIL frame is bridged to: DSTK and position; none when it is not (R324). -/
def State.bridgeTo (s : State) (da : Nat) : Option (Nat × Nat) :=
  match s.rope.units.find? fun u => u.1 + 2 == da && u.1 != s.mac with
  | some u => some (0, u.2)
  | none =>
    if da = 0xFFFFFFFFFFFF then some (1, 0)
    else if da / 8388608 = 0x01005E000000 / 8388608 ∧
        ((assocGet s.rope.members (da % 8388608)).any fun t => decide (s.clock.cclk ≤ t + ms 260000)) then some (1, 0)
    else none

/-- Does the port of a UDP packet name a declared stream (R324)? -/
def declaredPort (sec : Bytes) (d : Nat) : Bool :=
  ((List.range (field sec 0 1)).any fun i => field sec (8 + 64 * i + 24) 2 == d) ||
    (List.range (field sec 1 1)).any fun i => field sec (8 + 64 * field sec 0 1 + 64 * i + 12) 2 == d

/-- Bridge a TRAIL frame onto the rope (R324): tag, class, the mode in force. -/
def State.bridgeIn (s : State) (dstk dst ty : Nat) (f pay : Bytes) : State :=
  let d := if ty = 0x0800 then udpDst pay else 0
  let cls := if d ≠ 0 ∧ (d = 5568 ∨ declaredPort s.streams d) then 2 else 4
  let s := s.incReg Reg.bridgeIn
  s.sendRopeWith dstk cls dst ty (ropeLen pay.length) false fun p tag =>
    .frame p (withFcs (f.take 12 ++ beBytes 2 (s.reg Reg.ethertype) ++ tag.bytes ++ pay))

/-! ### Reception -/

/-- A good frame on a rope port (R309, R311, R313, Table 11.4). -/
def State.ropeFrame (s : State) (p : Nat) (f : Bytes) : State :=
  let et := field f 12 2
  if et = 0x8100 ∨ et = 0x88A8 then s.incReg (Reg.cntVlanDrops p)
  else if !s.tagOk f then s.incReg Reg.tagErrors
  else
    let t := tagOf f
    let head := s.reg Reg.headRole == 3
    let mine := s.hasPos && !t.nopos && t.src == s.reg Reg.position
    let limit := if s.hasPos then s.reg Reg.segLen else 256
    let test := fun (u : State) (k : State → State) =>
      if t.nopos then k u
      else
        let r := u.dupTest t.src t.seq
        if r.1 then k r.2 else r.2
    if t.dstk = 2 then s.deliverRope p t f
    else if mine then s.incReg Reg.stripped
    else if limit ≤ t.hop then s.incReg Reg.hopDrops
    else if t.dstk = 0 ∧ s.hasPos ∧ t.dst = s.reg Reg.position then test s fun u => u.deliverRope p t f
    else if t.dstk = 3 ∧ head then test s fun u => u.bridgeOut t f
    else if t.dstk = 1 then
      let s := s.forward p t f false
      test s fun u =>
        let u := u.deliverRope p t f
        if head ∧ (t.cls = 2 ∨ t.cls = 4) then u.bridgeOut t f else u
    else s.forward p t f false

/-- A bad frame on a rope port: its forwarding has begun when it has 64 bytes, a legal tag, and Table 11.4 forwards it; the
egress port then ends it with an inverted FCS (R297). -/
def State.ropeBad (s : State) (p : Nat) (f : Bytes) : State :=
  let t := tagOf f
  let limit := if s.hasPos then s.reg Reg.segLen else 256
  let mine := s.hasPos && !t.nopos && t.src == s.reg Reg.position
  if 64 ≤ f.length ∧ s.tagOk f ∧ t.dstk ≠ 2 ∧ mine = false ∧ t.hop < limit ∧
      (t.dstk = 0 → ¬ (s.hasPos ∧ t.dst = s.reg Reg.position)) ∧ (t.dstk = 3 → s.reg Reg.headRole ≠ 3) then
    s.forward p t f true
  else s

/-- A good frame on TRAIL: VLAN rules, drops, bridging, local delivery (R296, R324). -/
def State.trailFrame (s : State) (f : Bytes) : State :=
  let tagged := field f 12 2 == 0x8100 || field f 12 2 == 0x88A8
  let vid := field f 14 2 % 4096
  let o := if tagged then 18 else 14
  let ty := field f (o - 2) 2
  let pay := (bodyOf f).drop o
  let da := field f 0 6
  if tagged && (ty == 0x8100 || ty == 0x88A8 || (vid != 0 && vid != s.reg (Reg.portVlan 2))) then
    s.incReg (Reg.cntVlanDrops 2)
  else if ty = 0x86DD then s.incReg (Reg.cntIpv6Drops 2)
  else if ty = 0x0800 ∧ isFragment pay then s.incReg (Reg.cntFragments 2)
  else
    let ptp := ty == 0x0800 && (udpDst pay == 319 || udpDst pay == 320)
    let headTo := if s.reg Reg.headRole = 3 ∧ ptp = false then s.bridgeTo da else none
    let local_ := s.macLocal 2 da
    let s := match headTo with
      | some (k, d) => s.bridgeIn k d ty f pay
      | none => s
    if local_ then s.deliverType 2 0xFF ty f pay
    else if headTo.isSome then s
    else s.incReg (Reg.cntFiltered 2)

/-- A frame reaches the checker of port `p` (R294 to R297). -/
def State.check (s : State) (p : Nat) (f : Bytes) (align : Bool) : State :=
  let flags := s.rxFlags p f align
  if flags != 0 then
    let s := s.badFrame p flags f
    if p < 2 then s.ropeBad p f else s
  else
    let s := (s.incReg (Reg.cntRxFrames p)).addReg64 (Reg.cntRxOctets p) f.length
    if field f 12 2 = 0x8808 then
      if field f 14 2 = 1 then s.pauseRx p (field f 16 2) else s.incReg (Reg.cntCtrlUnsupported p)
    else if p < 2 then s.ropeFrame p f
    else s.trailFrame f

/-! ### The crevasse injector (R334) -/

/-- Does rule `k` match a frame received on port `p`? -/
def State.ruleMatches (s : State) (k p : Nat) (f : Bytes) : Bool :=
  let tagged := decide (p < 2) && s.tagOk f
  let cls := if p = 2 then 7 else bits (field f 14 1) 2 0
  bit s.inj.rules k && bit (s.reg (Reg.rulePorts k)) p && (tagged || p == 2) && bit (s.reg (Reg.ruleClassMask k)) cls &&
    (s.reg (Reg.ruleSrcPos k) == 0xFFFF || (tagged && s.reg (Reg.ruleSrcPos k) == field f 15 1))

/-- XOR the four bytes of `mask` into a frame from offset `at_`; bytes beyond its end stay. -/
def corrupt (f : Bytes) (at_ mask : Nat) : Bytes :=
  let m := beBytes 4 mask
  (List.range f.length).zipWith (fun i b => if at_ ≤ i ∧ i < at_ + 4 then b ^^^ m.getD (i - at_) 0 else b) f

/-- A frame corrupted by rule `k`; with FIX_FCS its FCS is made again. -/
def State.corruptBy (s : State) (k : Nat) (f : Bytes) : Bytes :=
  let g := corrupt f (s.reg (Reg.ruleByteOffset k)) (s.reg (Reg.ruleXorMask k))
  if s.flag (Reg.ruleFixFcs k) then withFcs (bodyOf g) else g

/-- The rule that acts on a frame, with the counts after it: the lowest-numbered that matches, on each RATE_N-th frame that matches it,
until it has acted LIMIT times. A frame counts as a match of every rule it matches (DEDUCED, log 90). -/
def State.ruleFor (s : State) (p : Nat) (f : Bytes) : Option Nat × State :=
  if !s.inj.armed then (none, s)
  else
    match (List.range 4).find? fun k => s.ruleMatches k p f with
    | none => (none, s)
    | some k =>
      let n := s.inj.matched.getD k 0 + 1
      let a := s.inj.acted.getD k 0
      let matched := (List.range 4).map fun j => s.inj.matched.getD j 0 + (if s.ruleMatches j p f then 1 else 0)
      let s := { s with inj := { s.inj with matched := matched } }
      let limit := s.reg (Reg.ruleLimit k)
      if n % max 1 (s.reg (Reg.ruleRateN k)) = 0 ∧ (limit = 0 ∨ a < limit) then
        (some k, ({ s with inj := { s.inj with acted := s.inj.acted.set k (a + 1) } }).incReg (Reg.ruleActed k))
      else (none, s)

/-- What rule `k` does with a frame (R334). -/
def State.ruleAct (s : State) (k p : Nat) (f : Bytes) (align : Bool) : State :=
  match s.reg (Reg.ruleAction k) with
  | 1 => s
  | 2 => s.check p (s.corruptBy k f) align
  | 3 => (s.check p f align).check p f align
  | 4 =>
    let h : HeldFrame := { bytes := f, align := align, left := s.reg (Reg.ruleReorderDepth k), till := s.clock.cclk + 100000 }
    s.setPort p { s.port p with held := (s.port p).held ++ [h] }
  | _ => s.check p f align

/-- RX_FRAME: a frame arrives at port `p` (R295, R334). It brings the frames held before it closer to their release; those that have
waited for as many frames as they were to are received after it. -/
def State.rxFrame (s : State) (p : Nat) (f : Bytes) (align : Bool) : State :=
  if !s.ropeOn || decide (3 ≤ p) || !s.portUp p then s
  else
    let l := (s.port p).held
    let stay := (l.filter fun h => decide (1 < h.left)).map fun (h : HeldFrame) => { h with left := h.left - 1 }
    let r := (s.setPort p { s.port p with held := stay }).ruleFor p f
    let s := match r.1 with
      | none => r.2.check p f align
      | some k => r.2.ruleAct k p f align
    (l.filter fun h => decide (h.left ≤ 1)).foldl (fun t h => t.check p h.bytes h.align) s

/-- REORDER_HOLD_EXPIRE: a held frame is released after 100 µs (R334). -/
def State.reorderExpire (s : State) (p : Nat) : State :=
  match (s.port p).held with
  | h :: r =>
    let s := s.reachCclk h.till
    (s.setPort p { s.port p with held := r }).check p h.bytes h.align
  | [] => s

/-! ### Commands -/

/-- PORT_UP (R289). -/
def execPortUp (port : Nat) (s : State) : Host.Outcome State Fault Refusal := s.done (s.portRise port)

/-- PORT_DOWN (R289). -/
def execPortDown (port : Nat) (s : State) : Host.Outcome State Fault Refusal := s.done (s.portDrop port)

/-- RX_FRAME (R295). -/
def execRxFrame (port : Nat) (frame : Bytes) (align : Bool) (s : State) : Host.Outcome State Fault Refusal :=
  s.done (s.rxFrame port frame align)

/-- PAUSE (R301). -/
def execPause (port quanta : Nat) (s : State) : Host.Outcome State Fault Refusal := s.done (s.pauseRx port quanta)

/-- PAUSE_EXPIRE (R301). -/
def execPauseExpire (port : Nat) (s : State) : Host.Outcome State Fault Refusal := s.done (s.pauseExpire port)

/-- PAUSE_WATCHDOG (R301). -/
def execPauseWatchdog (port : Nat) (s : State) : Host.Outcome State Fault Refusal := s.done (s.pauseWatchdog port)

/-- PAUSE_DISREGARD_END (R301). -/
def execPauseDisregardEnd (port : Nat) (s : State) : Host.Outcome State Fault Refusal := s.done (s.pauseDisregardEnd port)

/-- MDIO_POLL (R288). -/
def execMdioPoll (up : Bool) (speed : Nat) (s : State) : Host.Outcome State Fault Refusal := s.done (s.mdioPoll up speed)

/-- ARP_ANNOUNCE (R293). -/
def execArpAnnounce (s : State) : Host.Outcome State Fault Refusal := s.done s.arpAnnounce

/-- IGMP_QUERY (R300); the port it came by makes no difference to the answer. -/
def execIgmpQuery (_port version : Nat) (s : State) : Host.Outcome State Fault Refusal := s.done (s.igmpQuery version)

/-- IGMP_REPORT_REPEAT (R300). -/
def execIgmpReportRepeat (s : State) : Host.Outcome State Fault Refusal := s.done s.igmpRepeat

/-- IGMPV2_FALLBACK_END (R300). -/
def execIgmpv2FallbackEnd (s : State) : Host.Outcome State Fault Refusal := s.done s.igmpFallbackEnd

/-- REORDER_HOLD_EXPIRE (R334). -/
def execReorderHoldExpire (port : Nat) (s : State) : Host.Outcome State Fault Refusal := s.done (s.reorderExpire port)

/-- HEAD_EN_CHANGE (R321). -/
def execHeadEnChange (level : Bool) (s : State) : Host.Outcome State Fault Refusal := s.done (s.headEnChange level)

/-- HEARTBEAT_SEND (R317). -/
def execHeartbeatSend (port : Nat) (s : State) : Host.Outcome State Fault Refusal := s.done (s.heartbeatSend port)

/-- HEARTBEAT (R317). The sender's port and position make no difference to the link's state. -/
def execHeartbeat (port mac _hport addrState seg _pos term : Nat) (s : State) : Host.Outcome State Fault Refusal :=
  s.done (s.heartbeat port mac addrState seg term)

/-- HEARTBEAT_LOSS (R318). -/
def execHeartbeatLoss (port : Nat) (s : State) : Host.Outcome State Fault Refusal := s.done (s.heartbeatLoss port)

/-- PROVING_DONE (R318). -/
def execProvingDone (port : Nat) (s : State) : Host.Outcome State Fault Refusal := s.done (s.provingDone port)

/-- BREAK_NOTICE (R319); the cause it names makes no difference to the receiver. -/
def execBreakNotice (mac port _cause lost : Nat) (s : State) : Host.Outcome State Fault Refusal :=
  s.done (s.breakNotice { mac := mac, port := port, lost := lost })

/-- HEAL_NOTICE (R319). -/
def execHealNotice (mac port lost : Nat) (s : State) : Host.Outcome State Fault Refusal :=
  s.done (s.healNotice { mac := mac, port := port, lost := lost })

/-- BREAK_NOTICE_REPEAT (R319). -/
def execBreakNoticeRepeat (port : Nat) (s : State) : Host.Outcome State Fault Refusal := s.done (s.breakRepeat port)

/-- HEAD_BEACON_SEND (R321). -/
def execHeadBeaconSend (s : State) : Host.Outcome State Fault Refusal := s.done s.beaconSend

/-- HEAD_BEACON (R321). -/
def execHeadBeacon (mac pos seg term prefixV mode ring segLen prio : Nat) (s : State) : Host.Outcome State Fault Refusal :=
  s.done (s.headBeacon mac pos seg term prefixV mode ring segLen prio)

/-- BEACON_SILENCE (R322). -/
def execBeaconSilence (s : State) : Host.Outcome State Fault Refusal := s.done s.beaconSilence

/-- HEAD_BID_SEND (R322). -/
def execHeadBidSend (s : State) : Host.Outcome State Fault Refusal := s.done s.bidSend

/-- HEAD_BID (R322). -/
def execHeadBid (mac prio keyPos term : Nat) (s : State) : Host.Outcome State Fault Refusal :=
  s.done (s.headBid mac prio keyPos term)

/-- BIDDING_DONE (R322). -/
def execBiddingDone (s : State) : Host.Outcome State Fault Refusal := s.done s.biddingDone

/-- HEAD_RESIGN (R322). -/
def execHeadResign (mac term : Nat) (s : State) : Host.Outcome State Fault Refusal := s.done (s.headResign mac term)

/-- TRAIL_DOWN_RESIGN (R322). -/
def execTrailDownResign (s : State) : Host.Outcome State Fault Refusal := s.done s.trailResign

/-- JOIN_REQ_SEND (R327). -/
def execJoinReqSend (s : State) : Host.Outcome State Fault Refusal := s.done s.joinSend

/-- JOIN_REQ (R328); who asks makes no difference to the head's run. -/
def execJoinReq (_mac : Nat) (s : State) : Host.Outcome State Fault Refusal := s.done s.joinReq

/-- ROPE_WAIT_EXPIRE (R53). -/
def execRopeWaitExpire (s : State) : Host.Outcome State Fault Refusal := s.done s.ropeWait

/-- DUP_WINDOW_FORGET (R313). -/
def execDupWindowForget (src : Nat) (s : State) : Host.Outcome State Fault Refusal := s.done (s.forgetWin src)

/-- INJECT_DURATION_END (R335). -/
def execInjectDurationEnd (s : State) : Host.Outcome State Fault Refusal := s.done s.injectEnd

end Sys2Proof.Machine
end

