-- ==== Sys2Proof/Machine/Stream.lean ====
section
/-! DEFINITION. Streams (R101, R103 to R108): reception of ST 2110-20 frames, the take at a boundary, the mark and its replay;
audio (R131 to R133): reception of ST 2110-30 samples and the modulation bands. -/

namespace Sys2Proof.Machine

/-! ### Packet work -/

/-- Work of a packet task between its break points: one item of IN_QUEUE handled by `f`. -/
def packetWork (f : Bytes → State → State) (t : Task) (s : State) : After × State :=
  match s.nextItem t with
  | none => s.readEmpty t
  | some (x, s) => (.goOn { t with hand := none, prog := t.prog + 1 }, f x s)

/-- A packet engine takes one item: for the task in its RUN when that is of TYPE `ty`, or, when it is idle, for the device's own
descriptor of that type on receive queue `q` (R390; assumption log 22). -/
def State.packetStep (s : State) (e ty q : Nat) (f : Bytes → State → State) : State :=
  match (s.engine e).run with
  | some _ => s.runTask e ty (packetWork f)
  | none =>
    if decide (12 ≤ e) && decide (e < 16) && !(s.engine e).out && s.domOn 2 then
      match s.pop q with
      | none => s
      | some (x, s) => f x s
    else s

/-- The frame of a receive item: port, rope class (0xFF on TRAIL), frame. -/
def itemFrame (x : Bytes) : Nat × Nat × Bytes := (field x 0 1, field x 1 1, x.drop 16)

/-- The IPv4 packet of a receive item: behind the Ethernet header and VLAN tag on TRAIL, behind the rope tag on a rope port. -/
def itemIp (x : Bytes) : Bytes :=
  let f := bodyOf (x.drop 16)
  if field x 0 1 = 2 then (if field f 12 2 = 0x8100 then f.drop 18 else f.drop 14) else f.drop 22

/-- The UDP payload of an IPv4 packet. -/
def udpPayload (ip : Bytes) : Bytes :=
  let u := ip.drop (ihl ip)
  (u.drop 8).take (field u 4 2 - 8)

/-- RTP payload behind the fixed header, CSRC list and header extension (RFC 3550). -/
def rtpPayload (r : Bytes) : Bytes :=
  let off := 12 + 4 * (field r 0 1 % 16)
  let off := if bit (field r 0 1) 4 then off + 4 + 4 * field r (off + 2) 2 else off
  r.drop off

/-- The count congruent to `v` modulo 2^32 within 2^31 of `now` (R104). -/
def unwrap32 (v now : Nat) : Nat :=
  let d := (v + two32 - now % two32) % two32
  if d < 2147483648 then now + d else now + d - two32

/-! ### Frames and presentation -/

/-- PTP time in ns of a count of the 90 kHz media clock, rounded down (DESIGN CHOICE, log 84: R104 gives no rounding). -/
def mediaNs (c : Nat) : Nat := c * 100000 / 9

/-- The first tick whose boundary is at or after PTP time `t`. -/
def State.tickFrom (s : State) (t : Nat) : Nat := leastBoundary (s.reg Reg.tickNum) (s.reg Reg.tickDen) t + s.reg Reg.tickBias

/-- The presentation tick of PTP time `t` on stream `i` (R104). -/
def State.presentTick (s : State) (i t : Nat) : Nat := s.tickFrom (t + s.reg (Reg.key (0x4500 + i) 2))

/-- How many expected frames of stream entry `e` are presented at tick `p` (R104). -/
def State.expectedAt (s : State) (i : Nat) (e : Bytes) (p : Nat) : Nat :=
  let num := field e 8 4
  let den := field e 12 4
  let index := fun t => ((t - s.reg (Reg.key (0x4500 + i) 2) + 1) * num - 1) / (den * nsPerSec)
  let lo := index (s.tickAt (p - 1))
  if num = 0 || den = 0 then 0
  else ((List.range (index (s.tickAt p) + 2 - lo)).filter fun k => s.presentTick i ((lo + k) * den * nsPerSec / num) == p).length

/-- The layers whose set in use shows stream `i`. -/
def State.streamLayers (s : State) (i : Nat) : List Nat :=
  (List.range 16).filter fun k => (s.layer k).f 0x01 == 1 && (s.layer k).f 0x02 == 1 && (s.layer k).f 0x03 == i

/-- The buffers that layers hold, and the one they compose next: the replay's next frame, or the one due at the next boundary
(R106). -/
def State.pinned (s : State) (i : Nat) : List Nat :=
  let due := ((s.stream i).items.filter fun f => decide (s.presentTick i f.t ≤ s.tickIdx + 1 + s.lat)).getLast?
  let next := match (s.stream i).replay with
    | some r => r.todo.head?.or due
    | none => due
  ((s.streamLayers i).filterMap fun k => (s.layer k).frame.map PFrame.buf) ++ (next.map PFrame.buf).toList

/-- Drop the `n`-th queued frame: the mark is lost when it is the marked one (R108, R377). -/
def StreamSt.dropItem (x : StreamSt) (n : Nat) : StreamSt :=
  if n = 0 ∧ x.mark = 1 then { x with items := x.items.drop (max 1 x.retained), retained := 0, mark := 2 }
  else { x with items := x.items.eraseIdx n, retained := if n < x.retained then x.retained - 1 else x.retained }

/-- A buffer for an arriving frame (R106): the oldest that is neither pinned nor queued, or the oldest queued frame's. -/
def State.takeBuffer (s : State) (i : Nat) : Option (Nat × State) :=
  let x := s.stream i
  let pin := s.pinned i
  let put := fun (s : State) (x : StreamSt) (b : Nat) =>
    let cut := (x.replay.map fun r => r.todo.any fun f => f.buf == b).getD false
    s.setStream i { x with order := (x.order.filter fun y => y != b) ++ [b], replay := if cut then none else x.replay }
  match x.order.find? fun b => !pin.contains b && !(x.items.any fun f => f.buf == b) with
  | some b => some (b, put s x b)
  | none =>
    match x.items.findIdx? fun f => !pin.contains f.buf with
    | none => none
    | some n =>
      let b := ((x.items[n]?).map PFrame.buf).getD 0
      let y := { x.dropItem n with lost := min (x.lost + 1) (two32 - 1) }
      let s := put s y b
      let s := if x.mark = 1 ∧ y.mark = 2 then s.raise 31 (beBytes 2 (28 + i)) else s
      some (b, s.raiseLoss 32 (28 + i) 1 (beBytes 2 (28 + i) ++ beBytes 4 1))

/-! ### Reception (R101, R103) -/

/-- Line headers of a payload (ST 2110-20): byte length, line, pixel offset, until one without the continuation bit. -/
def lineHeads : Nat → Bytes → List (Nat × Nat × Nat)
  | 0, _ => []
  | n + 1, b =>
    let h := (field b 0 2, field b 2 2, field b 4 2 % 32768)
    if bit (field b 4 2) 15 then h :: lineHeads n (b.drop 6) else [h]

/-- Bytes and pixels of a pixel group of a format. -/
def groupOf (fmt : Nat) : Nat × Nat :=
  match fmt with
  | 0 => (3, 1) | 1 => (15, 4) | 2 => (9, 2) | _ => (5, 2)

/-- Does a packet's line header lie outside the frame, or name an interlaced field? -/
def lineBad (e : Bytes) (h : Nat × Nat × Nat) : Bool :=
  let g := groupOf (field e 1 1)
  decide (field e 6 2 ≤ h.2.1) || decide (field e 4 2 < h.2.2 + h.1 / g.1 * g.2)

/-- Store a packet's runs in the buffer at `base`. -/
def State.storeLines (s : State) (e : Bytes) (base : Nat) : List (Nat × Nat × Nat) → Bytes → State
  | [], _ => s
  | h :: r, d =>
    let g := groupOf (field e 1 1)
    let at_ := base + h.2.1 * lineBytes (field e 1 1) (field e 4 2) + h.2.2 / g.2 * g.1
    State.storeLines (s.ramWrite true at_ (slice d 0 h.1)) e base r (d.drop h.1)

/-- A shared cell for an item of playout queue `i` (R373): with none free the oldest item goes, and with none queued the new one is
dropped. The flag says that the item can be linked. -/
def State.playoutRoom (s : State) (i : Nat) : Bool × State :=
  if s.poolFree ≠ 0 then (true, s)
  else
    let x := s.stream i
    let y := { x.dropItem 0 with lost := min (x.lost + 1) (two32 - 1) }
    let s := s.setStream i y
    let s := if x.mark = 1 ∧ y.mark = 2 then s.raise 31 (beBytes 2 (28 + i)) else s
    (!x.items.isEmpty, s.raiseLoss 32 (28 + i) 1 (beBytes 2 (28 + i) ++ beBytes 4 1))

/-- The frame being received ends: counted incomplete, late, or queued (R103, R105). Its last packet's stamp alone feeds MARGIN_MIN, and
only where the stamp has not been lost (R305). -/
def State.endFrame (s : State) (i : Nat) (r : RxVideo) : State :=
  let x := s.stream i
  let s := s.setStream i { x with rx := none }
  if r.bad then s.incReg (Reg.key (0x4500 + i) 6)
  else
    let t := mediaNs (unwrap32 r.ts (s.now * 9 / 100000))
    let p := s.presentTick i t
    let s := match r.stamp with
      | none => s
      | some at_ => s.extreme true (toSigned 4) (Reg.streamMarginMin i)
          (ofSigned 4 (clampInt (-2147483648) 2147483647 ((s.tickAt (p - s.lat) : Int) - at_)))
    let x := { s.stream i with live := true }
    if p ≤ s.tickIdx + s.lat ∧ s.ras.blank = 0 then
      let s := (s.setStream i { x with missNow := true }).incReg (Reg.key (0x4500 + i) 4)
      s.raise 29 (beBytes 1 i ++ beBytes 4 r.ts)
    else
      let room := (s.setStream i x).playoutRoom i
      let s := room.2
      let x := s.stream i
      if room.1 then
        let items := x.items ++ [{ t := t, ts := r.ts, buf := r.buf }]
        (s.setStream i { x with items := items, high := max x.high items.length }).poolCheck
      else s

/-- A packet of timestamp `ts` begins a frame: the frame before it, not ended by a marker, is incomplete. -/
def State.beginFrame (s : State) (i ts ext : Nat) : State :=
  let s := match (s.stream i).rx with
    | some r => s.endFrame i { r with bad := true }
    | none => s
  match s.takeBuffer i with
  | none => s
  | some (b, s) => s.setStream i { s.stream i with rx := some { ts := ts, buf := b, next := ext, bad := false } }

/-- VIDEO_INGEST of one receive item: the packet belongs to the stream its addresses match. One of another payload type is dropped; it
spoils the frame of its timestamp and begins none (R101, R103). -/
def State.ingestVideo (x : Bytes) (s : State) : State :=
  let ip := itemIp x
  match videoStream s.streams (field x 0 1) ip with
  | none => s
  | some i =>
    match s.videoEntry i with
    | none => s
    | some e =>
      let u := udpPayload ip
      let pl := rtpPayload u
      let ts := field u 4 4
      let ext := field pl 0 2 * 65536 + field u 2 2
      let marker := bit (field u 1 1) 7
      let known := ((s.stream i).rx.map RxVideo.ts) == some ts
      let alien := field u 1 1 % 128 != field e 26 1
      let stamp := s.takeStamp (field x 0 1) 3 i (field u 2 2)
      let s := stamp.2
      let s := if known || alien then s else s.beginFrame i ts ext
      match (s.stream i).rx with
      | none => s
      | some r =>
        if alien then (if known then s.setStream i { s.stream i with rx := some { r with bad := true } } else s) else
        let heads := lineHeads (pl.length / 6) (pl.drop 2)
        let bad := heads.any (lineBad e)
        let s := if bad then s else s.storeLines e (bufferAt e r.buf) heads (pl.drop (2 + 6 * heads.length))
        let r := { r with next := (ext + 1) % two32, bad := r.bad || bad || ext != r.next, stamp := stamp.1 }
        if marker then s.endFrame i r else s.setStream i { s.stream i with rx := some r }

/-! ### The take (R105, R107, R108) -/

/-- Layer `k` takes frame `f` of its stream. -/
def State.layerTakes (s : State) (k : Nat) (f : PFrame) (fresh count : Bool) : State :=
  let s := s.setLayer k { s.layer k with frame := some f, moved := (s.layer k).moved || fresh }
  if !count then s
  else if fresh then s.incReg (Reg.key (0x4101 + 16 * k) 2)
  else s.incReg (Reg.key (0x4101 + 16 * k) 3)

/-- Present frame `f` of stream `i` on its layers; `fresh` says it differs from the frame before. -/
def State.showFrame (s : State) (i : Nat) (f : PFrame) (fresh count : Bool) : State :=
  let s := (s.streamLayers i).foldl (fun s k => s.layerTakes k f (fresh || (s.layer k).frame.map PFrame.t != some f.t) count) s
  if fresh then s.noteChange else s

/-- One more tick of the frame held, noted on its retained copy too. -/
def StreamSt.holdOn (x : StreamSt) : StreamSt :=
  { x with cur := x.cur.map fun f => { f with held := f.held + 1 },
           items := x.items.map fun f => if x.cur.map PFrame.t = some f.t then { f with held := f.held + 1 } else f }

/-- Stream `i` takes the newest of the frames `due`, or holds its frame; older ones are skipped (R105). -/
def State.giveDue (s : State) (i : Nat) (due : List PFrame) (count : Bool) : State :=
  match due.getLast? with
  | none =>
    match (s.stream i).cur with
    | none => s
    | some f => (s.setStream i (s.stream i).holdOn).showFrame i f false count
  | some f =>
    let x : StreamSt := s.stream i
    let kept := x.items.take x.retained
    let rest := (x.items.drop x.retained).filter fun g => !due.contains g
    let gone := ((x.items.drop x.retained).filter fun g => due.contains g && g.t != f.t).length
    let f := { f with held := 1 }
    let x : StreamSt :=
      if x.mark = 1 then
        let kept := if kept.any fun g => g.t == f.t then kept else kept ++ [f]
        { x with items := kept ++ rest, retained := kept.length, cur := some f, replay := none }
      else { x with items := rest, retained := 0, cur := some f, replay := none }
    let s := s.setStream i x
    let s := if count then (s.addReg (Reg.key (0x4500 + i) 7) gone).incReg (Reg.key (0x4500 + i) 3) else s
    s.showFrame i f true count

/-- Frames of stream `i` that a clock step has put in the past are released; each counts in LATE, with one EV29 (R107). -/
def State.stepPast (s : State) (i p : Nat) (count : Bool) : State :=
  let x := s.stream i
  let newer := fun (f : PFrame) => x.cur.all fun c => decide (c.t < f.t)
  let past := (x.items.drop x.retained).filter fun f => newer f && decide (s.presentTick i f.t < p)
  let s := s.setStream i { x with items := x.items.filter fun f => !past.contains f }
  match past with
  | [] => s
  | f :: _ => if count then (s.addReg (Reg.key (0x4500 + i) 4) past.length).raise 29 (beBytes 1 i ++ beBytes 4 f.ts) else s

/-- Expected frames of presentation tick `p` that are not among those due count in MISSING, with one EV30 (R105). -/
def State.noteMissing (s : State) (i p : Nat) (e : Bytes) (due : List PFrame) : State :=
  let n := s.expectedAt i e p - (due.filter fun f => s.presentTick i f.t == p).length
  if n = 0 then s
  else
    let mask := (s.streamLayers i).foldl (fun a k => a + 2 ^ k) 0
    let s := s.setStream i { s.stream i with missNow := true }
    (s.addReg (Reg.key (0x4500 + i) 5) n).raise 30 (beBytes 1 0 ++ beBytes 2 mask)

/-- The live take at boundary n, for presentation tick `p` = n + L. -/
def State.takeLive (s : State) (i p : Nat) (e : Bytes) (count : Bool) : State :=
  let x := s.stream i
  let due := x.items.filter fun f => (x.cur.all fun c => decide (c.t < f.t)) && decide (s.presentTick i f.t ≤ p)
  (if count then s.noteMissing i p e due else s).giveDue i due count

/-- A frame's PTP time is unwrapped again against a clock that has stepped (R104, R107). -/
def State.rewrap (s : State) (f : PFrame) : PFrame := { f with t := mediaNs (unwrap32 f.ts (s.now * 9 / 100000)) }

/-- Every frame of a stream, its PTP time unwrapped again. -/
def State.rewrapAll (s : State) (x : StreamSt) : StreamSt :=
  { x with items := x.items.map s.rewrap, cur := x.cur.map s.rewrap,
           replay := x.replay.map fun r => { r with todo := r.todo.map s.rewrap } }

/-- The take of stream `i` at a boundary, where the clock has `stepped` or not: the replay's next frame, or the due frame. A stream
that no layer shows holds none. -/
def State.takeStream (s : State) (i : Nat) (stepped count : Bool) : State :=
  match s.videoEntry i with
  | none => s
  | some e =>
    let s := if stepped then (s.setStream i (s.rewrapAll (s.stream i))).stepPast i (s.tickIdx + s.lat) count else s
    if (s.streamLayers i).isEmpty then s.setStream i { s.stream i with cur := none, replay := none }
    else
      let x := s.stream i
      match x.replay with
      | none => s.takeLive i (s.tickIdx + s.lat) e count
      | some r =>
        if 1 < r.left then
          let s := s.setStream i { x with replay := some { r with left := r.left - 1 } }
          match x.cur with
          | some f => s.showFrame i f false count
          | none => s
        else
          match r.todo with
          | f :: rest =>
            let s := s.setStream i { x with cur := some f, replay := some { r with todo := rest, left := max 1 f.held } }
            s.showFrame i f true count
          | [] => (s.setStream i { x with replay := none }).takeLive i (s.tickIdx + s.lat) e count

/-- Every stream's take; in STAGING and DARK nothing is counted (R142). -/
def State.takeStreams (s : State) (stepped : Bool) : State :=
  (List.range 8).foldl (fun s i => s.takeStream i stepped s.mode.mode.shows) s

/-- A raster start in variable blanking: each stream's newest complete frame, whatever its time (R157). -/
def State.takeNewest (s : State) : State :=
  (List.range 8).foldl (fun s i =>
    if (s.streamLayers i).isEmpty then s.setStream i { s.stream i with cur := none, replay := none }
    else
      let x := s.stream i
      s.giveDue i (x.items.filter fun f => x.cur.all fun c => decide (c.t < f.t)) true) s

/-- The takes of a boundary, or of a raster start: in fixed blanking by presentation time, as a raster starts in variable blanking the
newest frame (R105, R157). Absent sources are looked for once the layers have their frames. -/
def State.takeStep (s : State) (started : Bool) : State :=
  (if s.ras.blank = 0 then s.takeStreams (s.tick.sinceStep == 0) else if started then s.takeNewest else s).absentCheck

/-- MARK: the mark goes on the frame the layer holds at this boundary (R108). -/
def State.streamMark (s : State) (i : Nat) : State :=
  let x := s.stream i
  match x.cur with
  | none => s
  | some f =>
    let rest := x.items.drop x.retained
    let later := (x.items.take x.retained).filter fun g => decide (f.t < g.t)
    s.setStream i { x with items := f :: later ++ rest, retained := 1 + later.length, mark := 1 }

/-- REWIND: a replay from the mark up to the frame due at this boundary; 0x0702 without a valid mark (R108). -/
def State.streamRewind (s : State) (i : Nat) : Nat × State :=
  let x := s.stream i
  if x.mark ≠ 1 then (0x0702, s)
  else
    let p := s.tickIdx + s.lat
    let due := (x.items.filter fun f => decide (s.presentTick i f.t ≤ p)).getLast?
    let stop := max ((due.map PFrame.t).getD 0) ((x.cur.map PFrame.t).getD 0)
    (0, s.setStream i { x with replay := some { todo := (x.items.take x.retained).filter fun f => decide (f.t < stop),
                                                left := 0 } })

/-! ### Audio (R131 to R133) -/

/-- Samples of an L24 payload of `ch` channels, first sample first. -/
def audioSamples (ch : Nat) : Nat → Bytes → List (List Int)
  | 0, _ => []
  | n + 1, b =>
    if b.length < 3 * ch then []
    else ((List.range ch).map fun c => toSigned 3 (field b (3 * c) 3)) :: audioSamples ch n (b.drop (3 * ch))

/-- AUDIO_INGEST of one receive item: its samples enter the ring, each under its number on the 48 kHz media clock. -/
def State.ingestAudio (x : Bytes) (s : State) : State :=
  let ip := itemIp x
  match audioStream s.streams (field x 0 1) ip with
  | none => s
  | some i =>
    match s.audioEntry i with
    | none => s
    | some e =>
      let u := udpPayload ip
      if field u 1 1 % 128 ≠ field e 3 1 then s
      else
        let ch := max 1 (field e 1 1)
        let pl := rtpPayload u
        let first := unwrap32 (field u 4 4) (s.now * 3 / 62500)
        let got := audioSamples ch (pl.length / (3 * ch)) pl
        let new := ((List.range got.length).zip got).map fun p => (i, first + p.1, p.2)
        let a := s.comp.audio
        let old := a.samples.filter fun o => !(o.1 == i && decide (first ≤ o.2.1) && decide (o.2.1 < first + got.length))
        { s with comp := { s.comp with audio := { a with samples := old ++ new } } }

/-- First sample number whose RTP time is at or after `t` ns. -/
def sampleFrom (t : Nat) : Nat := ceilDiv (t * 3) 62500

/-- One sample through a band's biquad (R132): the band after it and |y|. -/
def BandSt.filter (c : Bytes) (b : BandSt) (x : Int) : BandSt × Nat :=
  let k := fun n => toSigned 4 (field c (4 + 4 * n) 4)
  let acc := k 0 * x + k 1 * b.x1 + k 2 * b.x2 - k 3 * b.y1 - k 4 * b.y2
  let y := clampInt (-8388608) 8388607 ((acc + 134217728) / 268435456)
  ({ b with x1 := x, x2 := b.x1, y1 := y, y2 := b.y1 }, min 8388607 y.natAbs)

/-- A band's tick: the peak of its samples moves the envelope (R132). -/
def BandSt.tick (c : Bytes) (gain : Nat) (xs : List Int) (b : BandSt) : BandSt :=
  let r := xs.foldl (fun (a : BandSt × Nat) x =>
    let f := a.1.filter c x
    (f.1, max a.2 f.2)) (b, 0)
  let p := min (r.2 * gain / 256) 8388607 / 128
  let env := b.env
  { r.1 with env := if env < p then env + ceilDiv (p - env) (max 1 (field c 24 2)) else env - ceilDiv (env - p) (max 1 (field c 26 2)) }

/-- The band values for presentation tick n + L, at boundary n (R133); samples of earlier ticks leave the ring. -/
def State.bandTick (s : State) : State :=
  let p := s.tickIdx + s.lat
  let window := fun (e : Bytes) =>
    (sampleFrom (s.tickAt (p - 1) - field e 16 4), sampleFrom (s.tickAt p - field e 16 4))
  let find := fun i n => (s.comp.audio.samples.find? fun o => o.1 == i && o.2.1 == n).map fun o => o.2.2
  let runs := (List.range 2).map fun i => match s.audioEntry i with
    | none => []
    | some e =>
      let w := window e
      (List.range (w.2 - w.1)).map fun (k : Nat) => find i (w.1 + k)
  let bands := ((List.range 32).zip s.comp.audio.bands).map fun q =>
    match s.bandEntry q.1 with
    | none => q.2
    | some c => q.2.tick c (s.reg (Reg.key 0x4602 (q.1 + 1)))
        ((runs.getD (field c 1 1) []).map fun x => (x.getD []).getD (field c 2 1) 0)
  let keep := s.comp.audio.samples.filter fun o => match s.audioEntry o.1 with
    | none => false
    | some e => decide ((window e).2 ≤ o.2.1)
  let s := { s with comp := { s.comp with audio := { samples := keep, bands := bands } } }
  (List.range 2).foldl (fun s i =>
    if (runs.getD i []).any Option.isNone then s.incReg (Reg.key 0x4603 (i + 1)) else s) s

/-! ### Rows -/

/-- VIDEO_INGEST (R387). -/
def execVideoIngest (engine : Nat) (s : State) : Host.Outcome State Fault Refusal :=
  s.done (s.packetStep engine 15 2 State.ingestVideo)

/-- AUDIO_INGEST (R387). -/
def execAudioIngest (engine : Nat) (s : State) : Host.Outcome State Fault Refusal :=
  s.done (s.packetStep engine 16 3 State.ingestAudio)

/-- Work of AUDIO_BANDS: from band to band of BAND_MASK. The band values themselves are computed at the boundary (R133). -/
def workBands (t : Task) (s : State) : After × State :=
  let left := (List.range 32).filter fun b => decide (t.prog ≤ b) && bit (dParam t.row 0 4) b
  match left with
  | [] => (.ended t 0, s)
  | b :: _ => (.goOn { t with prog := b + 1 }, s)

/-- AUDIO_BANDS (R387). -/
def execAudioBands (engine : Nat) (s : State) : Host.Outcome State Fault Refusal := s.done (s.runTask engine 7 workBands)

end Sys2Proof.Machine
end

