-- ==== Sys2Proof/Machine/Raster.lean ====
section
/-! DEFINITION. The raster (R143 to R166): its start, its lines, SOB and frame done, settling frames, variable blanking,
underruns, the freeze detector and the static state. -/

namespace Sys2Proof.Machine

/-! ### Figures of a timing set -/

/-- A field of a timing set. -/
def timingOf (t : List (Nat × Nat)) (sub : Nat) : Nat := (assocGet t sub).getD 0

/-- HTOTAL. -/
def hTotal (t : List (Nat × Nat)) : Nat := timingOf t 1 + timingOf t 2 + timingOf t 3 + timingOf t 4

/-- VTOTAL. -/
def vTotal (t : List (Nat × Nat)) : Nat := timingOf t 5 + timingOf t 6 + timingOf t 7 + timingOf t 8

/-- The raster line of SOB: VSW + VBP + VACT. -/
def sobLine (t : List (Nat × Nat)) : Nat := timingOf t 7 + timingOf t 8 + timingOf t 5

/-- `a / b` to the nearest, ties upward. -/
def roundUp (a b : Nat) : Nat := (2 * a + b) / (2 * b)

/-- ns from the raster start to line `k`, at rate `num / den` (R155). -/
def lineOffset (num den total k : Nat) : Nat := roundUp (k * den * nsPerSec) (num * total)

/-- The instant of line `k` of the raster of tick `n` in fixed blanking (R146). -/
def lineInstant (num den total n k : Nat) : Nat := roundUp ((n * total + k) * den * nsPerSec) (num * total)

/-- Does a timing keep the limits of R148 at rate `num / den`? -/
def timingOk (num den : Nat) (t : List (Nat × Nat)) : Bool :=
  decide (hTotal t * vTotal t * num ≤ 4000000000 * den) &&
    decide ((sobLine t + 1) * den * nsPerSec + 2000 * (num * vTotal t) ≤ den * nsPerSec * vTotal t)

/-- The subindices of a timing set: 5000h.01 to .0D, and 0x40 plus the subindex for FRZ_X to FRZ_H. -/
def timingSubs : List Nat := [0x01, 0x02, 0x03, 0x04, 0x05, 0x06, 0x07, 0x08, 0x09, 0x0A, 0x0B, 0x0C, 0x0D]

/-- FRZ_X, FRZ_Y, FRZ_W and FRZ_H in a timing set. -/
def freezeSubs : List Nat := [0x42, 0x43, 0x44, 0x45]

/-- The register of a field of a timing set. -/
def timingReg (sub : Nat) : Nat := if sub < 0x40 then Reg.key 0x5000 sub else Reg.key 0x5040 (sub - 0x40)

/-- VTOTAL of the timing in use. -/
def State.vTotal (s : State) : Nat := Machine.vTotal s.ras.cur

/-- When line `k` of the current raster starts. -/
def State.lineAt (s : State) (k : Nat) : Nat :=
  if s.ras.blank = 0 then lineInstant (s.reg Reg.tickNum) (s.reg Reg.tickDen) s.vTotal (s.ras.tick - s.reg Reg.tickBias) k
  else s.ras.start + lineOffset (s.reg Reg.tickNum) (s.reg Reg.tickDen) s.vTotal k

/-- Where pixel position `h` of a line lies, in ns from the line's start, at rate `num / den` (R146). -/
def pixelOffset (num den : Nat) (t : List (Nat × Nat)) (h : Nat) : Nat :=
  roundUp (h * den * nsPerSec) (num * Machine.vTotal t * hTotal t)

/-- RSYNC on the line that starts now (R147): RSYNC_V is asserted on the lines of VSW, RSYNC_H for the first HSW pixel positions; both
are held deasserted when RSYNC_EN is 0. -/
def State.rsyncLine (s : State) : State :=
  let cfg := s.reg Reg.rsyncCfg
  let t := s.ras.cur
  let v := (bit cfg 2 && decide (s.ras.line < timingOf t 7)) == bit cfg 0
  let n := if bit cfg 2 then pixelOffset (s.reg Reg.tickNum) (s.reg Reg.tickDen) t (timingOf t 3) else 0
  let from_ := if s.ras.line = 0 then s.now else s.lineAt s.ras.line
  (s.setRas { s.ras with rsync := some (v, bit cfg 1, from_, from_ + n) }).send (.rsync s.ras.line v (bit cfg 1) from_ (from_ + n))

/-! ### Composition of a tick (R45, R52, R165) -/

/-- Does the mode compose: SHOW, HOLDOVER, or arming ticks; and no switch has stopped it (R88)? -/
def State.mayCompose (s : State) : Bool :=
  let copying := match s.topo.switch with
    | .copying _ => true
    | _ => false
  (s.mode.mode.shows || s.mode.arming.isSome) && s.domOn 5 && !copying && !s.tick.realign

/-- FRAME_LOCK (R157). -/
def State.frameLock (s : State) : Bool :=
  s.mode.mode == .onShow && s.ras.on && s.ras.blank == 0 && !s.tick.settling && !s.tick.realign

/-! ### A raster starts -/

/-- The timing latched for this raster takes effect; a change of the freeze window empties FRZ_COUNT (R151, R162). -/
def State.takeTiming (s : State) : State :=
  match s.ras.next with
  | none => s
  | some t =>
    let moved := freezeSubs.any fun x => timingOf t x != timingOf s.ras.cur x
    let s := s.setRas { s.ras with cur := t, next := none, commit := false, frzFired := if moved then false else s.ras.frzFired }
    if moved then s.setReg Reg.frzCount 0 else s

/-- A line comparator of the current line fires (R154). -/
def State.lineMatch (s : State) : State :=
  (List.range 8).foldl (fun s i =>
    if bit (s.reg Reg.matchEn) i && s.reg (Reg.matchLine i) == s.ras.line then
      s.raise 2 (beBytes 1 i ++ beBytes 2 s.ras.line ++ beBytes 8 s.frame)
    else s) s

/-- Streams note whether the raster that ends had a CONTENT_LATE or CONTENT_MISSING (R158). -/
def State.missStep (s : State) : State :=
  (List.range 8).foldl (fun s i =>
    let x := s.stream i
    s.setStream i { x with missRow := if x.missNow then x.missRow + 1 else 0, missNow := false }) s

/-- What a raster's layers and streams note ends with it. -/
def State.endNotes (s : State) : State :=
  (List.range 16).foldl (fun s k => s.setLayer k { s.layer k with moved := false }) s.missStep

/-- The raster under way composes from here: its signature starts, and levels are taken. -/
def State.composeStart (s : State) : State :=
  let c := s.buf.compose
  let s := s.setRas { s.ras with composes := true }
  ({ s with buf := { s.buf with sigs := s.buf.sigs.set c 0, sigOk := s.buf.sigOk.set c false } }).levelGroups

/-- A raster starts now: what was latched before comes into use (R97, R151). Nothing composes until `composeStart`, which the takes of
the boundary precede (R141). -/
def State.beginRaster (s : State) : State :=
  let s := (List.range 16).foldl (fun s k =>
    let s := s.emberDone k
    s.setLayer k { s.layer k with under := none, badRows := [] }) s
  let s := s.takeTiming.takeSets
  let r := s.ras
  let s := s.setRas { r with on := true, start := s.now, tick := s.tickIdx, line := 0, sobDone := false, composes := false,
                             done := false, blank := r.blankNext.getD r.blank, blankNext := none, extend := false,
                             underMask := 0, frzAcc := 0xFFFFFFFF, mapNext := 0, mapBusy := [], mapFree := 0, stalled := false }
  s.rsyncLine.lineMatch

/-- The start of a raster's frame: a hold tick or a flip, EV10 after a settling frame, the frame counter (R34, R35, R151,
R152). A switch that begins here keeps the roles (R88). The flag says that a flip was made. -/
def State.openFrame (s : State) : Bool × State :=
  let ended := s.ras.on && s.ras.composes
  let overrun := ended && !s.ras.done
  let settle := s.tick.settleNext
  let wasSettling := s.tick.settling
  let hold := overrun || settle
  let before := s.frame
  let s := s.setReg Reg.frameCounter ((before + 1) % two64)
  let s := { s with tick := { s.tick with hold := hold, settling := settle, settleNext := false, counted := true } }
  let s := if hold then s.incReg Reg.holdTicks else s
  let s := if overrun then s.capture 0x08 0 s.frame else s
  let s := if settle then s.noteChange else s
  let s := if wasSettling && !settle then
      (s.setReg Reg.settleFrame before).raise 10 (beBytes 8 s.frame ++ beBytes 1 (s.ras.blankNext.getD s.ras.blank))
    else s
  if ended && !hold && !s.topo.switchBegin then (true, s.flip) else (false, s)

/-! ### Underruns (R160, R161) and packed rows (R119) -/

/-- Does enabled layer `k`'s window cover active line `y`? -/
def State.covers (s : State) (k y : Nat) : Bool :=
  let l := s.layer k
  l.f 0x01 == 1 && decide (l.i 0x09 ≤ (y : Int)) && decide ((y : Int) < l.i 0x09 + l.f 0x0B)

/-- The layers of `late` whose scaled line for active line `y` is due and not complete underrun. -/
def State.underrun (s : State) (late y : Nat) : State :=
  (List.range 16).foldl (fun s k =>
    if bit late k && s.covers k y && (s.layer k).under.isNone then
      let s := s.setLayer k { s.layer k with under := some y }
      s.setRas { s.ras with underMask := setBit s.ras.underMask k }
    else s) s

/-- Block rows of a PACKED layer that active line `y` needs: a row that fails to decode blanks its 8 lines. -/
def State.packedCheck (s : State) (y : Nat) : State :=
  (List.range 4).foldl (fun s k =>
    let l := s.layer k
    if !s.covers k y || l.f 0x02 != 5 || (l.f 0x10 == 1 && l.ember) then s
    else
      match s.surface (l.f 0x03) with
      | none => s
      | some f =>
        let d := s.surfBytes f
        let i := (y : Int) - l.i 0x09
        let at_ := fun (d : Int) => if l.f 0x0C = 0xFF then i.toNat
          else tapAt (l.f 0x07) (scaleBase (scalePos (l.f 0x07) (l.f 0x0B) i.toNat) + d)
        let rows := [-2, -1, 0, 1, 2, 3].map fun d => (l.f 0x05 + at_ d) / 8
        rows.foldl (fun s r =>
          let l := s.layer k
          if l.badRows.contains r || (packedRow d r).isSome || f.fmt != 4 then s
          else (s.setLayer k { l with badRows := r :: l.badRows }).incReg (Reg.key (0x4101 + 16 * k) 4)) s) s

/-! ### The freeze detector (R162, R163) -/

/-- The freeze window clipped to the active raster: x, y, width, height. -/
def State.freezeWin (s : State) : Nat × Nat × Nat × Nat :=
  let x := s.timing 0x42
  let y := s.timing 0x43
  (x, y, min (s.timing 0x44) (s.timing 1 - x), min (s.timing 0x45) (s.timing 5 - y))

/-- Active line `y`'s pixels enter the signature. -/
def State.freezeLine (s : State) (y : Nat) : State :=
  let w := s.freezeWin
  if decide (y < w.2.1) || decide (w.2.1 + w.2.2.2 ≤ y) then s
  else
    let acc := (List.range w.2.2.1).foldl (fun a i =>
      let p := s.pixelAt (w.1 + i) y
      (beBytes 2 p.r ++ beBytes 2 p.g ++ beBytes 2 p.b).foldl crcByte a) s.ras.frzAcc
    s.setRas { s.ras with frzAcc := acc }

/-- Does layer `k` overlap the clipped window? -/
def State.inFreeze (s : State) (k : Nat) : Bool :=
  let l := s.layer k
  let w := s.freezeWin
  decide (l.i 0x08 < (w.1 + w.2.2.1 : Nat)) && decide ((w.1 : Int) < l.i 0x08 + l.f 0x0A) &&
    decide (l.i 0x09 < (w.2.1 + w.2.2.2 : Nat)) && decide ((w.2.1 : Int) < l.i 0x09 + l.f 0x0B)

/-- Is motion expected in this raster (R163)? -/
def State.motion (s : State) : Bool :=
  (List.range 16).any fun k =>
    let l := s.layer k
    let src := s.reg (layerReg k 0x14)
    l.f 0x01 == 1 && s.inFreeze k &&
      ((l.f 0x02 == 1 && l.moved) || (l.f 0x02 == 3 && (l.moved || (s.loop (l.f 0x03)).moved)) ||
        (decide (0x1000 ≤ src) && s.reg (layerReg k 0x15) != 0 && s.buf.fades.any fun f => f.slot + 0x1000 == src))

/-- The signature closes at SOB; FRZ_COUNT follows, but not in a hold tick that is no settling frame, and at FRZ_F an episode begins. -/
def State.freezeClose (s : State) : State :=
  let w := s.freezeWin
  if w.2.2.1 = 0 ∨ w.2.2.2 = 0 then s.setReg Reg.frzSig 0
  else
    let sig := s.ras.frzAcc ^^^ 0xFFFFFFFF
    let same := s.ras.frzPrev == some sig
    let s := (s.setReg Reg.frzSig sig).setRas { s.ras with frzPrev := some sig }
    if !s.flag Reg.frzEnable || (s.tick.hold && !s.tick.settling) then s
    else if !(s.motion && same) then (s.setReg Reg.frzCount 0).setRas { s.ras with frzFired := false }
    else
      let s := s.setReg Reg.frzCount (min 255 (s.reg Reg.frzCount + 1))
      if s.ras.frzFired || decide (s.reg Reg.frzCount < s.reg Reg.frzF) then s
      else
        let s := (s.setRas { s.ras with frzFired := true }).raise 6 (beBytes 8 s.frame ++ beBytes 4 sig)
        (s.incReg Reg.freezes).capture 0x0F 0 sig

/-! ### SOB (R150) -/

/-- R149: VBMIN and VBMAX resolved, with a clamp record for each field raised. -/
def State.resolveBlanks (s : State) (t : List (Nat × Nat)) : List (Nat × Nat) × State :=
  let raise := fun (s : State) (t : List (Nat × Nat)) (sub floor : Nat) =>
    let v := timingOf t sub
    if v < floor then
      (assocSet t sub floor, (s.fixReg (timingReg sub) v floor).clamped 0x5000 sub (3, 0) 0 v floor)
    else (t, s)
  let a := raise s t 0x0A (timingOf t 6 + timingOf t 7 + timingOf t 8)
  raise a.2 a.1 0x0B (timingOf a.1 0x0A)

/-- The timing pending register latches, or its set is rejected whole; a set that came in this cycle waits (R150). -/
def State.latchTiming (s : State) : State :=
  let q := pendFold s.clock.cclk s.ras.pend s.ras.fresh
  match q.1 with
  | none => s
  | some p =>
    let was := s.ras.next.getD s.ras.cur
    let t := setOver was p
    let s := s.setRas { s.ras with pend := none, fresh := q.2 }
    if timingOk (s.reg Reg.tickNum) (s.reg Reg.tickDen) t then
      let r := s.resolveBlanks t
      let s := (r.2.setRas { r.2.ras with next := some r.1, commit := true }).noteChange
      if timingSubs.any fun x => timingOf r.1 x != timingOf s.ras.cur x then
        { s with tick := { s.tick with settleNext := true } }
      else s
    else
      let s := p.foldl (fun s q => s.fixReg (timingReg q.1) q.2 (timingOf was q.1)) s
      let sub := (p.map Prod.fst).foldl min 0xFF
      let ix := if sub < 0x40 then 0x5000 else 0x5040
      (s.incReg Reg.timingRejects).rejected ix (sub % 0x40) (3, 0) 0x0107 3 0

/-- The timing set of the next raster. -/
def State.lastTiming (s : State) : List (Nat × Nat) := s.ras.next.getD s.ras.cur

/-- The blanking state that the latched set and the mode call for (R155, R158, R159). -/
def State.blankWanted (s : State) : Nat :=
  let t := s.lastTiming
  let pace := timingOf t 0x0C
  if s.mode.mode.shows && timingOf t 9 == 1 then 1
  else if s.mode.mode == .holdover && (s.ras.blank == 2 ||
      (s.mode.ev17 && timingOf t 0x0D == 1 && pace != 0xFF && decide (2 ≤ (s.stream pace).missRow + if (s.stream pace).missNow then 1 else 0))) then 2
  else 0

/-- SOB latches a change of the blanking state; a return to fixed blanking extends the porch (R158, R159). -/
def State.latchBlank (s : State) : State :=
  let b := s.blankWanted
  if b = s.ras.blank then s.setRas { s.ras with blankNext := none }
  else
    let s := s.setRas { s.ras with blankNext := some b, extend := b == 0 }
    { s with tick := { s.tick with settleNext := true } }

/-- A layer underruns in a fourth raster in a row, or a later one: the record made of the third counts it, pending, under way or queued
(R161). Once that record has been read, R421 makes a new one (DESIGN CHOICE, log 85). -/
def State.underAgain (s : State) (k : Nat) : State :=
  let mine := fun (r : FaultRec) => r.cls == 0x0E && r.source == k
  if (s.belay.slots.any fun x => x.rcd.cls == 0x0E) || !s.belay.queue.any mine then s.capture 0x0E k 0
  else
    let n := s.belay.queue.length - 1 - (s.belay.queue.reverse.findIdx mine)
    { s with belay := { s.belay with queue := s.belay.queue.modify n fun r =>
      { r with count := min (r.count + 1) (two32 - 1), lastTime := s.now } } }

/-- Underruns are reported at SOB; a third raster in a row makes a record (R160, R161). -/
def State.underReport (s : State) : State :=
  let m := s.ras.underMask
  let s := s.setReg Reg.underrunMask m
  let s := if m = 0 then s else s.raise 4 (beBytes 2 m ++ beBytes 8 s.frame)
  (List.range 16).foldl (fun s k =>
    let l := s.layer k
    if bit m k then
      let s := (s.setLayer k { l with underN := l.underN + 1 }).incReg (Reg.underruns k)
      if l.underN = 2 then s.capture 0x0E k 0 else if 2 < l.underN then s.underAgain k else s
    else s.setLayer k { l with underN := 0 }) s

/-- What the composed raster reports at SOB: contributing layers, the samples composed, PACKED_ERR. A line on which a layer is
transparent has none of its samples. -/
def State.rasterReport (s : State) : State :=
  let area := fun k =>
    let l := s.layer k
    let w := s.emberWin k
    if l.f 0x01 == 1 && s.sourceShown l then
      w.2.2.1 * ((List.range w.2.2.2).filter fun i => !l.blankAt (w.2.1 + i)).length
    else 0
  let areas := (List.range 16).map area
  let mask := (List.range 16).foldl (fun a k => if areas.getD k 0 = 0 then a else a + 2 ^ k) 0
  let s := (s.setReg (Reg.key 0x4000 6) mask).setReg (Reg.key 0x4000 7) (min areas.sum (two32 - 1))
  (List.range 16).foldl (fun s k => s.setLayer k { s.layer k with packedErr := !(s.layer k).badRows.isEmpty }) s

/-- SOB: layer sets latch, the timing set latches, the freeze signature closes, EV01; in a composed raster the last gathers
start, underruns are reported and the known-answer test runs, `kat` saying that it failed. -/
def State.sob (s : State) (kat : Bool) : State :=
  if !s.ras.on || s.ras.sobDone || s.ras.line != sobLine s.ras.cur then s
  else
    let s := s.setRas { s.ras with sobDone := true }
    let s := if s.ras.composes then (List.range 16).foldl State.flattenNote s else s
    let s := s.latchLayers.latchTiming.latchBlank
    let s := if s.ras.composes then s.freezeClose else s
    let s := (s.setReg Reg.sobTime (time80 s.now)).raise 1 (beBytes 8 s.frame)
    let s := s.absentCheck
    if !s.ras.composes then s
    else
      let s := (s.gatherKey (s.timing 5 - 1) true).underReport.rasterReport
      if kat && s.flag Reg.selftestEn && s.domOn 4 then s.capture 0x0D 0 0 else s

/-! ### Lines -/

/-- The work of line `k` in a composed raster: layers due, composition, gathers; `fault` is what the checkers found, 1 a lane
of the map unit, 2 a lane of the blender or encoder, 3 an uncorrectable fetch from DRAM address `addr`. -/
def State.composeLine (s : State) (k late fault addr : Nat) : State :=
  let first := s.timing 7 + s.timing 8
  let vact := s.timing 5
  let s := if first ≤ k + 1 ∧ k + 1 < first + vact then s.underrun late (k + 1 - first) else s
  let s := if first ≤ k ∧ k < first + vact then
      let y := k - first
      let s := (List.range 16).foldl (fun (s : State) n => s.emberLine n y) (s.packedCheck y)
      let s := s.freezeLine y
      if y + 16 < vact then s.stallCheck (y + 16) else s
    else s
  let s := if first < k ∧ k < first + vact then s.gatherKey (k - first - 1) false else s
  match fault with
  | 1 => s.capture 0x0B 0 k
  | 2 => s.capture 0x0C 0 k
  | 3 => s.eccBad true addr
  | _ => s

/-- Is content ready for a restart in variable blanking (R156)? -/
def State.contentReady (s : State) : Bool :=
  let p := s.timing 0x0C
  let x := s.stream p
  p == 0xFF || x.items.any fun f => x.cur.all fun c => decide (c.t < f.t)

/-- A raster starts in variable blanking, at VBMAX without content when `stretched` (R156, R157). -/
def State.restart (s : State) (stretched : Bool) : State :=
  let r := s.openFrame
  let s := if stretched then (r.2.incReg Reg.stretches).raise 11 (beBytes 8 r.2.frame) else r.2
  let s := s.endNotes.beginRaster
  let s := if stretched then s else s.takeStep true
  if s.mayCompose then s.composeStart else s

/-- RASTER_LINE_START: the next raster line starts, or in variable blanking the next raster does. -/
def State.lineStart (s : State) (late fault addr : Nat) : State :=
  let k := s.ras.line + 1
  let top := s.timing 5
  let variable_ := s.ras.blank != 0
  if !s.ras.on || !s.domOn 5 || (!variable_ && decide (s.vTotal ≤ k)) then s
  else
    let s := s.reach (s.lineAt k)
    let ready := s.ras.done && decide (s.ras.doneAt + 2000 ≤ s.now) && s.contentReady
    if variable_ && !s.ras.extend && decide (top + s.timing 0x0B ≤ k) && !ready then s.restart true
    else if variable_ && !s.ras.extend && decide (top + s.timing 0x0A ≤ k) && ready then s.restart false
    else
      let s := (s.setRas { s.ras with line := k }).rsyncLine.lineMatch
      if s.ras.composes then s.composeLine k late fault addr else s

/-! ### Frame done (R153) -/

/-- Is the last gather of the raster under way or written: every map entry taken, for an empty map at SOB (R175)? -/
def State.gathered (s : State) : Bool := if s.mapCount = 0 then s.ras.sobDone else decide (s.mapCount ≤ s.ras.mapNext)

/-- FRAME_DONE: the last gather is written into COMPOSE; one later than 2,000 ns before the boundary raises nothing (R34). -/
def State.frameDone (s : State) : State :=
  if !s.ras.on || !s.ras.composes || s.ras.done || !s.gathered then s
  else
    let s := s.reachCclk s.ras.mapFree
    if s.ras.blank = 0 ∧ s.tick.nextTime < s.now + 2000 then s
    else
      let off := min (s.now - s.ras.start) (two32 - 1)
      let c := s.buf.compose
      let s := s.setRas { s.ras with done := true, doneAt := s.now }
      let s := { s with buf := { s.buf with sigOk := s.buf.sigOk.set c true } }
      let s := (s.setReg Reg.outSigW (s.buf.sigs.getD c 0)).setReg Reg.doneOffset off
      let s := s.minReg Reg.marginMin (s.tick.nextTime - s.now)
      s.raise 3 (beBytes 8 s.frame ++ beBytes 4 off)

/-! ### The static state (R164 to R166) -/

/-- STATIC_ENTER: none of the last five ticks had a change. -/
def State.staticEnter (s : State) : State :=
  if s.domOn 5 && s.flag Reg.staticEn && s.mode.mode.shows && s.ras.blank == 0 && s.reg Reg.staticState == 0 && decide (5 ≤ s.ras.quiet) &&
      !s.ras.change then
    let s := (s.setReg Reg.staticState 1).raise 7 []
    if s.tickIdx % s.reg Reg.staticK = 0 || !s.ras.composes then s
    else (s.setRas { s.ras with composes := false, noFlip := true }).incReg Reg.staticTicks
  else s

/-- The boundary's part: a change ends the static state with EV08; without one the tick may compose nothing. Answers whether the
tick composes. -/
def State.staticStep (s : State) : Bool × State :=
  let c := s.ras.change
  let s := s.setRas { s.ras with quiet := if c then 0 else s.ras.quiet + 1, change := false, noFlip := false }
  let may := s.mayCompose
  if s.reg Reg.staticState = 1 then
    if c || !s.flag Reg.staticEn || !s.mode.mode.shows || !s.domOn 5 then
      (may, (s.setReg Reg.staticState 0).raise 8 [])
    else if s.tickIdx % s.reg Reg.staticK = 0 then (may, s)
    else (false, (s.setRas { s.ras with noFlip := true }).incReg Reg.staticTicks)
  else (may, s)

/-! ### Rows -/

/-- SOB (R150). -/
def execSob (kat : Bool) (s : State) : Host.Outcome State Fault Refusal := s.done (s.sob kat)

/-- FRAME_DONE (R153). -/
def execFrameDone (s : State) : Host.Outcome State Fault Refusal := s.done s.frameDone

/-- STATIC_ENTER (R165). -/
def execStaticEnter (s : State) : Host.Outcome State Fault Refusal := s.done s.staticEnter

end Sys2Proof.Machine
end

