-- ==== Sys2Proof/Machine/Sacn.lean ====
section
/-! DEFINITION. sACN ingress (R185 to R191): the checks on E1.31 packets, sources, priorities, synchronisation, the merge store
and its snapshot. -/

namespace Sys2Proof.Machine

/-! ### Declared universes -/

/-- The SACN_IN section of the active topo. -/
def State.sacnIn (s : State) : Bytes := s.activeSec 0x47

/-- Entry `i`: UNIVERSE, MERGE, LOSS, PORTS. -/
def State.uniEntry (s : State) (i : Nat) : Bytes := slice s.sacnIn (16 + 8 * i) 8

/-- The entry that declares universe `u`. -/
def State.uniIndex (s : State) (u : Nat) : Option Nat := (List.range s.uniCount).find? fun i => field (s.uniEntry i) 0 2 == u

/-- A universe's state, by entry number. -/
def State.uni (s : State) (i : Nat) : UniSt := (assocGet s.sacn.unis i).getD {}

/-- Put a universe back. -/
def State.setUni (s : State) (i : Nat) (x : UniSt) : State := { s with sacn := { s.sacn with unis := assocSet s.sacn.unis i x } }

/-- Live sources of the unit. -/
def State.liveSources (s : State) : Nat := (s.sacn.unis.map fun p => p.2.srcs.length).sum

/-! ### The merge (R188) -/

/-- The winning priority of a universe; 0 without a source. -/
def UniSt.priority (u : UniSt) : Nat := (u.srcs.map SacnSrc.prio).foldl max 0

/-- The merged values over the old ones, under HTP, or under LTP when `ltp`. -/
def UniSt.merge (ltp : Bool) (old : Bytes) (u : UniSt) : Bytes :=
  let win := u.srcs.filter fun x => x.has && x.prio == u.priority
  match win with
  | [] => old
  | w :: ws =>
    if ltp then
      let x := ws.foldl (fun a b => if a.order < b.order then b else a) w
      x.slots ++ old.drop x.slots.length
    else
      (List.range 512).map fun i => win.foldl (fun a x => if a.toNat < (x.slots.getD i 0).toNat then x.slots.getD i 0 else a) 0

/-- The merge-store slots of entry `i`, which scratch holds (R190). -/
def State.uniSlots (s : State) (i : Nat) : Bytes := s.ramRead false (s.storeAt i) 512

/-- Merging is recomputed for entry `i`; a value that changes is a change for R164. -/
def State.remerge (s : State) (i : Nat) : State :=
  let v := (s.uni i).merge (field (s.uniEntry i) 2 1 == 1) (s.uniSlots i)
  if v = s.uniSlots i then s else (s.ramWrite false (s.storeAt i) v).noteChange

/-- A universe has lost its last source: EV30, and LOSS ZERO takes effect at the next boundary (R191). -/
def State.uniLost (s : State) (i : Nat) : State :=
  let u := s.uni i
  if u.srcs.isEmpty then
    let s := s.setUni i { u with zero := field (s.uniEntry i) 3 1 == 1 }
    s.raise 30 (beBytes 1 1 ++ beBytes 2 (field (s.uniEntry i) 0 2))
  else s.remerge i

/-- Remove source `cid` of entry `i`. -/
def State.dropSource (s : State) (i cid : Nat) : State :=
  let u := s.uni i
  if u.srcs.any fun x => x.cid == cid then
    (s.setUni i { u with srcs := u.srcs.filter fun x => x.cid != cid }).uniLost i
  else s

/-! ### Packets (R185 to R187, R189) -/

/-- The ACN packet identifier, with the preamble and postamble sizes before it. -/
def acnHead : Nat := 0x00100000 * 2 ^ 96 + 0x4153432D45312E3137000000

/-- Is `v` the flags and length of a PDU that runs from offset `at_` to `end_`? -/
def pduOk (b : Bytes) (at_ end_ : Nat) : Bool := field b at_ 2 == 0x7000 + (end_ - at_)

/-- What is wrong with an E1.31 data packet: 0 nothing, 1 a runt, 2 oversize, which a packet is too whose PDU lengths disagree with its
count (R186), 3 otherwise malformed. -/
def e131Bad (b : Bytes) : Nat :=
  let n := field b 123 2
  if field b 40 4 ≠ 2 ∨ field b 117 1 ≠ 2 then 3
  else if n = 0 then 1
  else if 514 ≤ n then 2
  else if !pduOk b 16 (125 + n) || !pduOk b 38 (125 + n) || !pduOk b 115 (125 + n) || decide (b.length < 125 + n) then 2
  else if field b 118 1 ≠ 0xA1 ∨ field b 119 2 ≠ 0 ∨ field b 121 2 ≠ 1 then 3
  else if field b 125 1 ≠ 0 ∨ 200 < field b 108 1 then 3
  else 0

/-- A bad packet is dropped and counted; a runt or an oversize one goes to the diagnostic queue under DELIVER_BAD with that error flag
(R186). -/
def State.sacnBad (s : State) (x : Bytes) (kind : Nat) : State :=
  let p := field x 0 1
  let s := s.incReg Reg.malformed
  if kind ≠ 3 && s.flag (Reg.portDeliverBad p) then s.diagPush p kind (x.drop 16) else s

/-- Is a sequence number `q` after the last accepted `last`: their signed 8-bit difference outside −19 to 0 (R187)? -/
def seqFresh (last q : Nat) : Bool :=
  let d := (q + 256 - last) % 256
  !(d == 0 || decide (237 ≤ d))

/-- The source `cid` has sent sync packets for `addr`, or waited for them, and they have not timed out (R189). -/
def State.syncHolds (s : State) (cid addr : Nat) : Bool := addr != 0 && !s.sacn.free.contains (cid, addr)

/-- An accepted data packet of source `cid` on entry `i`: held for its sync packet, or merged. -/
def State.sacnTake (s : State) (i cid : Nat) (b : Bytes) : State :=
  let u := s.uni i
  let addr := field b 109 2
  let slots := slice b 126 (field b 123 2 - 1)
  let hold := s.syncHolds cid addr
  let now := s.clock.cclk
  let c := s.sacn
  let waits := c.syncs.any fun y => y.1 == cid && y.2.1 == addr
  let c := { c with order := c.order + 1, syncs := if hold && !waits then c.syncs ++ [(cid, addr, now)] else c.syncs }
  let was := (u.srcs.find? fun y => y.cid == cid).getD
    { cid := cid, prio := 0, seq := 0, slots := [], last := 0, order := 0, held := none, has := false }
  let src := { was with prio := field b 108 1, seq := field b 111 1, last := now }
  let src := if hold then { src with held := some (addr, slots), heldAt := c.order }
    else { src with slots := slots, order := c.order, held := none, has := true }
  let srcs := if u.srcs.any fun y => y.cid == cid then u.srcs.map fun y => if y.cid == cid then src else y else u.srcs ++ [src]
  let s := ({ s with sacn := c }).setUni i { u with srcs := srcs, ever := true, zero := false }
  (s.incReg Reg.accepted).remerge i

/-- A sync packet of source `cid` for `addr`: what it holds for that address is merged (R189). -/
def State.sacnSync (s : State) (cid addr : Nat) : State :=
  let c := s.sacn
  let rest := c.syncs.filter fun y => !(y.1 == cid && y.2.1 == addr)
  let c := { c with syncs := rest ++ [(cid, addr, s.clock.cclk)], free := c.free.filter fun y => y != (cid, addr) }
  s.sacn.unis.foldl (fun (s : State) (p : Nat × UniSt) =>
    let u := s.uni p.1
    let hit := fun (y : SacnSrc) => y.cid == cid && (y.held.map Prod.fst) == some addr
    if u.srcs.any hit then
      let srcs := u.srcs.map fun y =>
        if hit y then { y with slots := (y.held.map Prod.snd).getD [], held := none, has := true, order := y.heldAt } else y
      (s.setUni p.1 { u with srcs := srcs }).remerge p.1
    else s) { s with sacn := c }

/-- Does sACN ingress run (R212)? -/
def State.sacnRuns (s : State) : Bool := s.topo.active.isSome && s.alive && s.mode.mode != .roping

/-- What the checks make of an item of RXQ_SACN: nothing, or an accepted data packet's entry, or a sync packet. -/
inductive SacnKind where
  | none | data (entry : Nat) | sync
  deriving DecidableEq, Repr

/-- SACN_PARSE of one receive item: R185 to R187, with what they count. A universe outside 1 to 63,999, or not declared, has no entry:
its packet is dropped and counted nowhere (DESIGN CHOICE, log 86). -/
def State.sacnCheck (s : State) (x : Bytes) : SacnKind × State :=
  let b := udpPayload (itemIp x)
  if !s.sacnRuns then (.none, s)
  else if field b 0 16 ≠ acnHead then (.none, s.sacnBad x 3)
  else if field b 18 4 = 8 then
    if field b 40 4 = 1 then (.sync, s) else if field b 40 4 = 2 then (.none, s) else (.none, s.sacnBad x 3)
  else if field b 18 4 ≠ 4 then (.none, s.sacnBad x 3)
  else
    let bad := e131Bad b
    if bad ≠ 0 then (.none, s.sacnBad x bad)
    else if bit (field b 112 1) 7 then (.none, s)
    else
      match if field b 113 2 = 0 ∨ 63999 < field b 113 2 then none else s.uniIndex (field b 113 2) with
      | none => (.none, s)
      | some i =>
        let u := s.uni i
        let cid := field b 22 16
        if !bit (field (s.uniEntry i) 4 1) (field x 0 1) then (.none, s)
        else
          match u.srcs.find? fun y => y.cid == cid with
          | some y =>
            if !seqFresh y.seq (field b 111 1) then (.none, s.incReg Reg.seqDiscards)
            else if bit (field b 112 1) 6 then (.none, s.dropSource i cid)
            else (.data i, s)
          | none =>
            if bit (field b 112 1) 6 then (.none, s)
            else if 4 ≤ u.srcs.length ∨ 8192 ≤ s.liveSources then (.none, s.incReg Reg.sourceLimit)
            else (.data i, s)

/-- SACN_MERGE of one item that SACN_PARSE accepted (R188, R189). -/
def State.sacnMerge (x : Bytes) (s : State) : State :=
  let b := udpPayload (itemIp x)
  let cid := field b 22 16
  if field b 18 4 = 8 then s.sacnSync cid (field b 45 2)
  else
    match s.uniIndex (field b 113 2) with
    | none => s
    | some i => s.sacnTake i cid b

/-- Work of a SACN_PARSE task: one packet checked, and pushed to OUT_QUEUE when accepted. -/
def workParse (t : Task) (s : State) : After × State :=
  match s.nextItem t with
  | none => s.readEmpty t
  | some (x, s) =>
    let r := s.sacnCheck x
    match r.1 with
    | .none => (.goOn { t with hand := none, prog := t.prog + 1 }, r.2)
    | _ =>
      let p := r.2.taskPush t x
      (.goOn p.1, p.2)

/-- SACN_PARSE on engine `e`: its task's work, or the device's own descriptor on RXQ_SACN, which merges what it accepts. -/
def State.sacnParse (s : State) (e : Nat) : State :=
  match (s.engine e).run with
  | some _ => s.runTask e 17 workParse
  | none => s.packetStep e 17 4 fun x s =>
    let r := s.sacnCheck x
    match r.1 with
    | .none => r.2
    | _ => r.2.sacnMerge x

/-! ### Timeouts -/

/-- SACN_SOURCE_TIMEOUT: the source `cid`, on the universe where its last accepted packet is oldest, is removed after 2,500 ms. -/
def State.sacnTimeout (s : State) (cid : Nat) : State :=
  let hits := s.sacn.unis.flatMap fun p => (p.2.srcs.filter fun y => y.cid == cid).map fun y => (p.1, y.last)
  match hits with
  | [] => s
  | h :: r =>
    let o := r.foldl (fun a b => if b.2 < a.2 then b else a) h
    (s.reachCclk (o.2 + ms 2500)).dropSource o.1 cid

/-- SACN_SYNC_TIMEOUT: no sync packet with address `addr` for 2,500 ms, so packets with it merge on arrival. -/
def State.sacnSyncTimeout (s : State) (addr : Nat) : State :=
  match s.sacn.syncs.find? fun y => y.2.1 == addr with
  | none => s
  | some y =>
    let s := s.reachCclk (y.2.2 + ms 2500)
    { s with sacn := { s.sacn with syncs := s.sacn.syncs.filter fun z => z != y,
                                   free := (y.1, addr) :: s.sacn.free } }

/-- The boundary: LOSS ZERO takes effect, and the merged values are copied to the snapshot (R190, R191). -/
def State.mergeSnapshot (s : State) : State :=
  let zero := s.sacn.unis.filter fun p => p.2.zero
  let zeroed := zero.any fun p => (s.uniSlots p.1).any fun b => b != 0
  let s := { s with sacn := { s.sacn with unis := s.sacn.unis.map fun p => (p.1, { p.2 with zero := false }) } }
  let s := zero.foldl (fun (s : State) p => s.ramWrite false (s.storeAt p.1) (List.replicate 512 0)) s
  let s := s.ramWrite false (s.storeAt s.uniCount) (s.ramRead false (s.storeAt 0) (512 * s.uniCount))
  if zeroed then s.noteChange else s

/-- UNI_STATE of entry `i`: 0 never live, 1 live, 2 lost. -/
def State.uniStateOf (s : State) (i : Nat) : Nat :=
  let u := s.uni i
  if !u.srcs.isEmpty then 1 else if u.ever then 2 else 0

/-! ### Rows -/

/-- SACN_MERGE (R387). -/
def execSacnMerge (engine : Nat) (s : State) : Host.Outcome State Fault Refusal :=
  s.done (s.runTask engine 6 (packetWork State.sacnMerge))

/-- SACN_SOURCE_TIMEOUT (R187). -/
def execSacnSourceTimeout (src : Nat) (s : State) : Host.Outcome State Fault Refusal := s.done (s.sacnTimeout src)

/-- SACN_SYNC_TIMEOUT (R189). -/
def execSacnSyncTimeout (univ : Nat) (s : State) : Host.Outcome State Fault Refusal := s.done (s.sacnSyncTimeout univ)

end Sys2Proof.Machine
end

