-- ==== Sys2Proof/Machine/Egress.lean ====
section
/-! DEFINITION. What the strand ports, the DMX ports with their RDM controllers, and the sACN transmitter send (R192 to R206,
R212). -/

namespace Sys2Proof.Machine

/-! ### What is transmitted (R192, R197, R200, R212) -/

/-- Do the builders of EGRS run: the domain on, a topo active, the DARK latch clear, out of RESET and ROPING? -/
def State.egressRuns (s : State) : Bool :=
  s.domOn 6 && s.topo.active.isSome && s.alive && s.mode.mode != .roping && !s.belay.latchDark && !s.tick.realign

/-- Do strand, sACN and rope pixel egress transmit the buffers: SHOW, HOLDOVER, and with L = 2 the last arming tick? -/
def State.contentOut (s : State) : Bool :=
  s.mode.mode.shows || s.mode.arming == some 0 || (s.mode.arming == some 1 && s.lat == 2)

/-- Does DMX transmit the buffers: SHOW and HOLDOVER, arming over? -/
def State.dmxOut (s : State) : Bool := s.mode.mode.shows || s.mode.arming == some 0

/-- What the outputs hold through the arming ticks of a switch: what they presented in tick T − 1 (R88). `last` says that an output
which sends ahead of the boundary it presents at asks: with L = 2 the last arming tick sends what boundary T + W + L shows. -/
def State.heldOut (s : State) (last : Bool) : Option HeldOut :=
  match s.topo.switch with
  | .arming n => if last && n == 1 && s.lat == 2 then none else s.egress.held.filter fun h => h.shows == s.mode.mode.shows
  | _ => none

/-! ### Strands (R193 to R197) -/

/-- Strand port entry `p` (Table 6.8). -/
def State.strandEntry (s : State) (p : Nat) : Bytes := slice (s.activeSec 0x45) (64 * p) 64

/-- Bits of a frame (R194). -/
def strandFrameBits (e : Bytes) : Nat :=
  field e 13 1 + field e 8 2 * (field e 11 1 + field e 10 1 * field e 3 1) + field e 16 2

/-- T_frame in ns. -/
def strandFrameNs (e : Bytes) : Nat :=
  match field e 0 1 with
  | 0 => 0
  | 3 => strandFrameBits e * field e 20 2
  | _ => strandFrameBits e * field e 18 2

/-- The low `n` bits of `v`, most significant first. -/
def msbFirst (n v : Nat) : List Bool := (List.range n).map fun i => bit v (n - 1 - i)

/-- The bits of a frame whose channels read as `chan` says. -/
def strandBits (e : Bytes) (chan : Nat → Nat) : List Bool :=
  let b := field e 3 1
  let per := field e 10 1
  let base := field e 4 4
  let one := fun (i : Nat) => msbFirst (field e 11 1) (field e 12 1) ++
    (List.range per).flatMap fun c => msbFirst b (chan (base + i * per + c) / 2 ^ (16 - b))
  List.replicate (field e 13 1) (bit (field e 14 1) 1) ++ (List.range (field e 8 2)).flatMap one ++
    List.replicate (field e 16 2) (bit (field e 14 1) 0)

/-! ### The signals of a strand (R193, R194) -/

/-- A pin mask from the data and clock levels of entry `e`: D_P, C_P, C_N and D_N from bit 3 down (R193). C_N as a latch pin is low
here; `Output.latch` raises it. -/
def strandMask (e : Bytes) (data clock : Bool) : Nat :=
  let d := data != bit (field e 2 1) 2
  match field e 0 1 with
  | 1 => (if d then 8 else 0) + (if clock then 4 else 0)
  | 2 => (if d then 8 else 1) + (if clock then 4 else 2)
  | 3 => if d then 8 else 0
  | _ => 0

/-- The pins of a port between frames: the clock at its level before a leading edge, the data low before INVERT (DESIGN CHOICE,
log 87). -/
def strandIdle (e : Bytes) : Nat := strandMask e false (bit (field e 2 1) 1)

/-- One bit from `t` on. Clocked: the data changes on the trailing edge, which opens the period, and the clock is high for
floor(CLK_DIV / 2) ns, at the period's end with CPOL 0 and at its start with CPOL 1. NRZ: high for T1H_NS or T0H_NS, then low. -/
def bitWave (e : Bytes) (t : Nat) (b : Bool) : List (Nat × Nat) :=
  if field e 0 1 = 3 then [(t, strandMask e true false), (t + field e (if b then 24 else 22) 2, strandMask e false false)]
  else
    let half := field e 18 2 / 2
    if bit (field e 2 1) 1 then [(t, strandMask e b true), (t + half, strandMask e b false)]
    else [(t, strandMask e b false), (t + (field e 18 2 - half), strandMask e b true)]

/-- The changes of a port's pins over a frame, by offset in ns, and the idle levels at its end. -/
def strandWave (e : Bytes) (bits : List Bool) : List (Nat × Nat) :=
  let per := field e (if field e 0 1 = 3 then 20 else 18) 2
  ((List.range bits.length).zip bits).flatMap (fun p => bitWave e (p.1 * per) p.2) ++ [(bits.length * per, strandIdle e)]

/-- The strand pins leave their reset state: a topo with a STRAND section is active (R197, Table 17.5). -/
def State.strandPinsOn (s : State) : State :=
  (List.range 32).foldl (fun (s : State) p =>
    let v := strandIdle (s.strandEntry p)
    if s.pins.out.strands.getD p 0 = v then s
    else ({ s with pins := { s.pins with out := { s.pins.out with strands := s.pins.out.strands.set p v } } }).send (.strandPins p v)) s

/-- STATE of strand port `p` (Table 6.9): 0 off, 1 running, 2 holding, 3 sending zeros. -/
def State.strandStateOf (s : State) (p : Nat) : Nat :=
  if !s.egressRuns || field (s.strandEntry p) 0 1 == 0 then 0
  else if s.contentOut then 1
  else if s.flag (Reg.strandDarkZero p) then 3 else 2

/-- The frame port `p` sends in this tick, with its entry; none where it sends nothing (R195, R197). -/
def State.strandFrame (s : State) (p : Nat) : Option (Bytes × List Bool) :=
  let st := s.strandStateOf p
  match s.heldOut true with
  | some h => if s.egressRuns then assocGet h.strands p else none
  | none =>
    if st = 0 ∨ st = 2 then none
    else
      let e := s.strandEntry p
      let b := s.sendBuf
      some (e, strandBits e fun c => if st = 1 then s.chan b c else 0)

/-- STRAND_FRAME_START: port `p` sends its frame so that it ends at the next boundary, or in variable blanking from the raster
start. -/
def State.strandStart (s : State) (p : Nat) : State :=
  match s.strandFrame p with
  | none => s
  | some x =>
    if 32 ≤ p ∨ (assocGet s.egress.strands p).isSome then s
    else
      let e := x.1
      let s := if s.ras.blank = 0 then s.reach (s.tick.nextTime - strandFrameNs e) else s
      let s := s.send (.strand p s.now x.2 (strandWave e x.2))
      let s := { s with egress := { s.egress with strands := (p, e) :: s.egress.strands } }
      let s := s.incReg (Reg.strandFrames p)
      if s.ras.blank ≠ 0 ∧ field e 1 1 = 1 then s.send (.latch p (field e 30 2)) else s

/-- The boundary: the frames sent latch, in port order, and every port may send again. -/
def State.strandLatch (s : State) : State :=
  let sent := s.egress.strands
  let s := { s with egress := { s.egress with strands := [] } }
  if s.ras.blank ≠ 0 then s
  else (List.range 32).foldl (fun (s : State) p =>
    match assocGet sent p with
    | some e => if field e 1 1 == 1 then s.send (.latch p (field e 30 2)) else s
    | none => s) s

/-! ### DMX (R198 to R200) -/

/-- DMX port entry `n` of the active topo (Table 6.10). -/
def State.dmxOwn (s : State) (n : Nat) : Bytes := slice (s.activeSec 0x46) (32 * n) 32

/-- The entry port `n` runs by: through the arming ticks of a switch still the old topo's (R88). -/
def State.dmxEntry (s : State) (n : Nat) : Bytes :=
  match s.heldOut false with
  | some h => ((assocGet h.dmx n).map fun x => x.1).getD []
  | none => s.dmxOwn n

/-- Is DMX port `n` transmitting? -/
def State.dmxOn (s : State) (n : Nat) : Bool := s.egressRuns && field (s.dmxEntry n) 0 1 == 1

/-- STATE of DMX port `n`: 0 marking, 1 running, 2 safe values. -/
def State.dmxStateOf (s : State) (n : Nat) : Nat := if !s.dmxOn n then 0 else if s.dmxOut then 1 else 2

/-- The slots of port `n` in this tick: its channels, or its safe values (R198, R200). -/
def State.dmxSlots (s : State) (n : Nat) : Bytes :=
  match s.heldOut false with
  | some h => ((assocGet h.dmx n).map fun x => x.2).getD []
  | none =>
    let e := s.dmxOwn n
    let b := s.sendBuf
    (List.range (field e 2 2)).map fun i =>
      if s.dmxOut then BitVec.ofNat 8 (s.chan b (field e 4 4 + i) / 256)
      else BitVec.ofNat 8 (field (s.activeSec 0x4A) (512 * n + i) 1)

/-- T_D + 2,000 ns fits DIVIDER tick periods: BREAK_US is reduced first, then MAB_US, with a clamp record for each (R199). -/
def State.dmxFit (s : State) (n : Nat) : State :=
  let e := s.dmxOwn n
  let room := (field e 8 2 * s.tMin - 2000) / 1000 - (field e 2 2 + 1) * 44
  let brk := s.reg (Reg.dmxBreakUs n)
  let mab := s.reg (Reg.dmxMabUs n)
  if field e 0 1 != 1 || decide (brk + mab ≤ room) then s
  else
    let brk' := max 92 (room - mab)
    let mab' := if brk' + mab ≤ room then mab else max 12 (room - brk')
    let s := if brk' = brk then s
      else (s.setReg (Reg.dmxBreakUs n) brk').clamped (0x6200 + n) 2 (3, 0) 0 brk brk'
    if mab' = mab then s else (s.setReg (Reg.dmxMabUs n) mab').clamped (0x6200 + n) 3 (3, 0) 0 mab mab'

/-! ### RDM (R201 to R203) -/

/-- The RDM controller of port `n`. -/
def State.rdm (s : State) (n : Nat) : RdmSt := s.egress.rdm.getD n {}

/-- Put it back. -/
def State.setRdm (s : State) (n : Nat) (x : RdmSt) : State :=
  { s with egress := { s.egress with rdm := s.egress.rdm.set n x } }

/-- The UID that addresses every responder. -/
def rdmBroadcast : Nat := 0xFFFFFFFFFFFF

/-- The 16-bit sum of bytes RDM uses as its checksum (E1.20). -/
def rdmSum (b : Bytes) : Nat := (b.foldl (fun a x => a + x.toNat) 0) % 65536

/-- The request packet (R203, E1.20). -/
def rdmPacket (own port tn : Nat) (r : RdmReq) : Bytes :=
  let b := beBytes 1 0xCC ++ beBytes 1 0x01 ++ beBytes 1 (24 + r.data.length) ++ beBytes 6 r.uid ++ beBytes 6 own ++
    beBytes 1 tn ++ beBytes 1 (port + 1) ++ beBytes 1 0 ++ beBytes 2 r.sub ++ beBytes 1 r.cc ++ beBytes 2 r.pid ++
    beBytes 1 r.data.length ++ r.data
  b ++ beBytes 2 (rdmSum b)

/-- The request discovery makes next: un-mute, mute of a UID found, or the topmost branch still to search. -/
def RdmSt.discNext (x : RdmSt) : Option RdmReq :=
  if x.disc ≠ 1 then none
  else if x.unmute then some { uid := rdmBroadcast, sub := 0, cc := 0x10, pid := 3, data := [] }
  else
    match x.mute, x.search with
    | some u, _ => some { uid := u, sub := 0, cc := 0x10, pid := 2, data := [] }
    | none, b :: _ => some { uid := rdmBroadcast, sub := 0, cc := 0x10, pid := 1, data := beBytes 6 b.1 ++ beBytes 6 b.2 }
    | none, [] => none

/-- The next transaction of a port: a queued request, or the device's own discovery. The flag says that it is its own. -/
def RdmSt.next (x : RdmSt) : Option (RdmReq × Bool × RdmSt) :=
  match x.queue with
  | r :: q => some (r, false, { x with queue := q })
  | [] => x.discNext.map fun r => (r, true, x)

/-- Break and mark-after-break of an RDM request, in µs (R201). -/
def rdmBreakUs : Nat := 176
def rdmMabUs : Nat := 16

/-- The time an RDM request of `n` bytes takes on the line, in ns: break, mark-after-break and 44 µs a slot. -/
def rdmNs (n : Nat) : Nat := (rdmBreakUs + rdmMabUs + 44 * n) * 1000

/-- A refresh slot of port `n` (DE falls behind an RDM request and rises again at the next packet, R472): the transaction under way takes it, a waiting one starts in it, or a DMX packet is sent. -/
def State.dmxSlot (s : State) (n : Nat) : State :=
  let e := s.dmxEntry n
  let x := s.rdm n
  if x.busy.isSome then s.incReg (Reg.dmxRdmSlots n)
  else
    match (if bit (field e 1 1) 0 && decide (field e 16 1 - 1 ≤ x.since) then x.next else none) with
    | some (r, own, y) =>
      let b := rdmPacket s.part.rdmUid n ((y.tn + 1) % 256) r
      let y := { y with busy := some r, own := own, sentAt := s.clock.cclk + rdmNs b.length, since := 0, tn := (y.tn + 1) % 256 }
      (((s.setRdm n y).setDe n true |>.incReg (Reg.dmxRdmSlots n)).send (.rdm n rdmBreakUs rdmMabUs b)).setDe n false
    | none =>
      let s := (s.setRdm n { x with since := min 255 (x.since + 1) }).setDe n true
      (s.incReg (Reg.dmxPackets n)).send (.dmx n (s.reg (Reg.dmxBreakUs n)) (s.reg (Reg.dmxMabUs n)) (s.dmxSlots n))

/-- The boundary: every port whose DIVIDER and PHASE name this tick has a refresh slot (R199). -/
def State.dmxTick (s : State) : State :=
  (List.range 8).foldl (fun (s : State) n =>
    let e := s.dmxEntry n
    if s.dmxOn n && s.tickIdx % max 1 (field e 8 2) == field e 10 2 then s.dmxSlot n else s) s

/-- A response enters the response queue: device queue 27, 256 entries, OVERWRITE (R203). -/
def State.rdmPush (s : State) (r : RdmResp) : State :=
  let was := s.egress.resp
  let q := pushSized was.length 256 s.poolFree (fun (x : RdmResp) => cellsOf (16 + x.data.length)) was r
  let s := { s with egress := { s.egress with resp := q.1, respLost := min (s.egress.respLost + q.2) (two32 - 1) } }
  let s := (s.seeDepth 27 q.1.length).poolCheck
  let s := if q.2 = 0 then s else s.raiseLoss 32 27 q.2 (beBytes 2 27 ++ beBytes 4 q.2)
  if was.isEmpty then s.raise 63 (beBytes 1 r.port ++ beBytes 1 0) else s

/-- A discovery that has nothing left to search, or too many UIDs, ends (Table 6.11). -/
def State.discEnd (s : State) (n : Nat) : State :=
  let x := s.rdm n
  if x.disc ≠ 1 then s
  else if 512 < x.found.length then
    (s.setRdm n { x with disc := 3, search := [], mute := none, found := x.found.take 512 }).raise 63 (beBytes 1 n ++ beBytes 1 1)
  else if !x.unmute && x.mute.isNone && x.search.isEmpty then
    (s.setRdm n { x with disc := 2 }).raise 63 (beBytes 1 n ++ beBytes 1 1)
  else s

/-- A branch answered by several responders is halved; one of a single UID is tried by muting it. -/
def RdmSt.split (x : RdmSt) : RdmSt :=
  match x.search with
  | [] => x
  | (lo, hi) :: r =>
    if lo = hi then { x with mute := some lo }
    else
      let mid := (lo + hi) / 2
      { x with search := (lo, mid) :: (mid + 1, hi) :: r }

/-- The UID of a DISC_UNIQUE_BRANCH response (E1.20): preamble bytes 0xFE, separator 0xAA, the UID in twelve bytes, its checksum
in four. -/
def discUid (b : Bytes) : Option Nat :=
  let e := (b.dropWhile fun x => x == 0xFE).drop 1
  let byte := fun (i : Nat) => field e (2 * i) 1 &&& field e (2 * i + 1) 1
  let uid := (List.range 6).foldl (fun a i => a * 256 + byte i) 0
  let sum := byte 6 * 256 + byte 7
  if e.length < 16 ∨ rdmSum (e.take 12) ≠ sum then none else some uid

/-- Does a response packet hold: start codes and checksum? -/
def rdmGood (b : Bytes) : Bool :=
  let n := field b 2 1
  field b 0 2 == 0xCC01 && decide (24 ≤ n) && decide (n + 2 ≤ b.length) && rdmSum (b.take n) == field b n 2 &&
    decide (field b 16 1 ≤ 3)

/-- A UID that does not answer its mute: the branch is halved further, or dropped when it holds no other. -/
def RdmSt.dropSingle (x : RdmSt) : RdmSt :=
  match x.search with
  | (lo, hi) :: r => if lo = hi then { x with search := r } else x.split
  | [] => x

/-- What discovery makes of a response, or of none. -/
def RdmSt.discStep (x : RdmSt) (r : RdmReq) (resp : Option Bytes) : RdmSt :=
  match r.pid, resp with
  | 3, _ => { x with unmute := false }
  | 2, some b => if rdmGood b then { x with mute := none, found := x.found ++ [r.uid] } else ({ x with mute := none } : RdmSt).dropSingle
  | 2, none => ({ x with mute := none } : RdmSt).dropSingle
  | _, some b => match discUid b with
    | some u => { x with mute := some u }
    | none => x.split
  | _, none => { x with search := x.search.drop 1 }

/-- RDM_RESPONSE on port `n`. -/
def State.rdmResponse (s : State) (n : Nat) (b : Bytes) : State :=
  let x := s.rdm n
  match x.busy with
  | none => s
  | some r =>
    let y := { x with busy := none }
    let s := s.reachCclk x.sentAt
    if x.own then (s.setRdm n (y.discStep r (some b))).discEnd n
    else if rdmGood b then
      (s.setRdm n y).rdmPush { port := n, uid := field b 9 6, status := field b 16 1, cc := field b 20 1, pid := field b 21 2,
                               data := (b.drop 24).take (field b 23 1) }
    else (s.setRdm n y).rdmPush { port := n, uid := r.uid, status := 5, cc := r.cc, pid := r.pid, data := [] }

/-- RDM_TIMEOUT on port `n`: 2,800 µs from the end of the request without a response. -/
def State.rdmTimeout (s : State) (n : Nat) : State :=
  let x := s.rdm n
  match x.busy with
  | none => s
  | some r =>
    let s := s.reachCclk (x.sentAt + 2800000)
    let y := { x with busy := none }
    if x.own then (s.setRdm n (y.discStep r none)).discEnd n
    else (s.setRdm n y).rdmPush { port := n, uid := r.uid, status := 4, cc := r.cc, pid := r.pid, data := [] }

/-- Is there room for one more request on port `n` (R203)? -/
def State.rdmRoom (s : State) (n : Nat) : Bool := decide ((s.rdm n).queue.length < 64)

/-- RDM_REQ at its boundary: the request joins its port's queue. -/
def State.rdmReq (s : State) (v : Bytes) : State :=
  let n := field v 0 1
  let x := s.rdm n
  let r : RdmReq := { uid := field v 1 6, sub := field v 7 2, cc := field v 9 1, pid := field v 10 2,
                      data := slice v 13 (field v 12 1) }
  s.setRdm n { x with queue := x.queue ++ [r] }

/-- DISC_START at its boundary: discovery begins anew, over every UID but broadcast. -/
def State.discStart (s : State) (n : Nat) : State :=
  let x := s.rdm n
  s.setRdm n { x with disc := 1, found := [], mute := none, unmute := true, search := [(0, 0xFFFFFFFFFFFE)] }

/-! ### sACN egress (R204 to R206) -/

/-- The SACN_OUT section of the active topo. -/
def State.sacnOut (s : State) : Bytes := s.activeSec 0x48

/-- Declared universes. -/
def State.outCount (s : State) : Nat := field s.sacnOut 64 2

/-- Entry `i` (Table 6.12). -/
def State.outEntry16 (s : State) (i : Nat) : Bytes := slice s.sacnOut (96 + 16 * i) 16

/-- The root layer of an E1.31 packet whose PDU is `n` bytes long: vector and CID. -/
def acnRoot (n vector : Nat) (cid : Bytes) : Bytes :=
  beBytes 16 acnHead ++ beBytes 2 (0x7000 + n) ++ beBytes 4 vector ++ cid

/-- The E1.31 group of a universe. -/
def sacnGroup (u : Nat) : Nat := 0xEFFF0000 + u

/-- UDP port of E1.31. -/
def sacnPort : Nat := 5568

/-- The IPv4 packet that carries `b` to `dest` from port `p`: UDP 5568 at both ends, TTL 32, DSCP 0 (R204). -/
def State.sacnIp (s : State) (p dest : Nat) (b : Bytes) : Bytes :=
  ipUdp (s.flag (Reg.portTxUdpCsum p)) s.ipAddr dest sacnPort sacnPort 0 32 b

/-- Send `b` to `dest` by PORT of section `sec`, TRAIL or rope (R204). -/
def State.sacnSend (s : State) (sec : Bytes) (dest : Nat) (b : Bytes) : State :=
  if field sec 70 1 = 0 then s.tx 2 (46 + s.vlanTag.length + b.length) (.sacn 2 (s.sacnIp 2 dest b))
  else s.sendRopeWith 3 2 0 0x0800 (ropeLen (28 + b.length)) false fun p _ => .sacn p (s.sacnIp p dest b)

/-- Wire time in ns of a packet of `n` bytes of UDP payload, with preamble and gap. -/
def State.sacnWire (s : State) (sec : Bytes) (n : Nat) : Nat :=
  let p := if field sec 70 1 = 0 then 2 else 0
  ceilDiv ((46 + 20 + n) * 8000) (s.lineRate p)

/-- The slots of entry `e` from the buffer transmitted in this tick. -/
def State.sacnSlots (s : State) (e : Bytes) : Bytes :=
  let b := s.sendBuf
  let base := field e 4 4
  if field e 8 1 = 0 then (List.range (field e 2 2)).map fun i => BitVec.ofNat 8 (s.chan b (base + i) / 256)
  else (List.range (field e 2 2 / 2)).flatMap fun i => beBytes 2 (s.chan b (base + i))

/-- The data packet of entry `e` with sequence number `q` and these slots. -/
def State.sacnData (s : State) (e : Bytes) (q : Nat) (slots : Bytes) : Bytes :=
  let n := slots.length
  let prio := if field e 9 1 = 0xFF then s.reg Reg.priority else field e 9 1
  let opts := (if s.flag Reg.preview then 128 else 0) + (if s.egress.sacnTerm then 64 else 0)
  acnRoot (110 + n) 4 s.part.serial ++ beBytes 2 (0x7000 + 88 + n) ++ beBytes 4 2 ++ beBytes 64 (s.reg Reg.sourceName) ++
    beBytes 1 prio ++ beBytes 2 (field s.egress.outSec 66 2) ++ beBytes 1 q ++ beBytes 1 opts ++ beBytes 2 (field e 0 2) ++
    beBytes 2 (0x7000 + 11 + n) ++ [0x02, 0xA1, 0x00, 0x00, 0x00, 0x01] ++ beBytes 2 (n + 1) ++ [0x00] ++ slots

/-- The synchronisation packet of universe `u`. -/
def State.sacnSyncPkt (s : State) (u : Nat) : Bytes :=
  acnRoot 33 8 s.part.serial ++ beBytes 2 0x700B ++ beBytes 4 1 ++ beBytes 1 s.egress.syncSeq ++ beBytes 2 u ++ beBytes 2 0

/-- The boundary, or in variable blanking the raster start: the sync packet that releases the data of the tick before, then the data
packets of this tick may leave (R205, R206). Packets of the last tick that never left are skipped. -/
def State.sacnStart (s : State) : State :=
  let g := s.egress
  let left := if g.sacnOn then field g.outSec 64 2 - g.sacnNext else 0
  let s := s.addReg Reg.skipped left
  let uni := field g.outSec 66 2
  let sync := g.sacnOn && uni != 0 && s.egressRuns
  let s := if sync then
      let s := (s.sacnSend g.outSec (sacnGroup uni) (s.sacnSyncPkt uni)).incReg Reg.syncSent
      { s with egress := { s.egress with syncSeq := (s.egress.syncSeq + 1) % 256 } }
    else s
  let content := s.contentOut
  let term := !content && decide (0 < s.mode.termTicks)
  let sec := ((s.heldOut true).map HeldOut.outSec).getD s.sacnOut
  let s := { s with mode := { s.mode with termTicks := s.mode.termTicks - 1 } }
  { s with egress := { s.egress with
      sacnOn := s.egressRuns && (content || term), sacnTerm := term, sacnNext := 0, outSec := sec,
      sacnFrom := s.clock.cclk + (if sync then s.sacnWire g.outSec 49 else 0) } }

/-- SACN_DATA_PACKET: the next packet in entry order leaves, or is skipped after the guard instant. -/
def State.sacnPacket (s : State) : State :=
  let g := s.egress
  let sec := g.outSec
  if !g.sacnOn || !s.egressRuns || decide (field sec 64 2 ≤ g.sacnNext) then s
  else
    let s := s.reachCclk g.sacnFrom
    let next := { g with sacnNext := g.sacnNext + 1 }
    if s.tick.nextTime < s.now + field sec 72 4 then ({ s with egress := next }).incReg Reg.skipped
    else
      let e := slice sec (96 + 16 * g.sacnNext) 16
      let uni := field e 0 2
      let q := (assocGet g.sacnSeq uni).getD 0
      let slots := match s.heldOut true with
        | some h => h.sacn.getD g.sacnNext []
        | none => s.sacnSlots e
      let b := s.sacnData e q slots
      let dest := if field e 10 4 = 0 then sacnGroup uni else field e 10 4
      let s := (s.sacnSend sec dest b).incReg Reg.packetsSent
      { s with egress := { next with sacnSeq := assocSet g.sacnSeq uni ((q + 1) % 256),
                                     sacnFrom := s.clock.cclk + max (field sec 76 4) (s.sacnWire sec b.length) } }

/-- The universe discovery packet of page `k` of `last` (E1.31). -/
def State.sacnDiscPage (s : State) (k last : Nat) (us : List Nat) : Bytes :=
  let n := 2 * us.length
  acnRoot (104 + n) 8 s.part.serial ++ beBytes 2 (0x7000 + 82 + n) ++ beBytes 4 2 ++ beBytes 64 (s.reg Reg.sourceName) ++
    beBytes 4 0 ++ beBytes 2 (0x7000 + 8 + n) ++ beBytes 4 1 ++ beBytes 1 k ++ beBytes 1 last ++ us.flatMap (beBytes 2)

/-- SACN_DISCOVERY: every 10 s when DISCOVERY is 1, to the discovery universe 64,214, 512 universes to a page. It stops with sACN
egress (R45, R206). -/
def State.sacnDiscovery (s : State) : State :=
  if !s.egressRuns || !s.egress.sacnOn || !bit (field s.sacnOut 69 1) 1 then s
  else
    let s := s.reachCclk s.egress.discAt
    let us := (List.range s.outCount).map fun i => field (s.outEntry16 i) 0 2
    let last := (us.length - 1) / 512
    let s := { s with egress := { s.egress with discAt := s.clock.cclk + ms 10000 } }
    (List.range (last + 1)).foldl (fun (s : State) k =>
      s.sacnSend s.sacnOut (sacnGroup 64214) (s.sacnDiscPage k last ((us.drop (512 * k)).take 512))) s

/-! ### A switch (R88) -/

/-- What the outputs present now, for the arming ticks of a switch. -/
def State.holdNow (s : State) : HeldOut :=
  { shows := s.mode.mode.shows,
    strands := (List.range 32).filterMap fun p => (s.strandFrame p).map fun x => (p, x),
    dmx := (List.range 8).filterMap fun n => if s.dmxOn n then some (n, s.dmxEntry n, s.dmxSlots n) else none,
    outSec := s.sacnOut,
    sacn := if s.contentOut then (List.range s.outCount).map fun i => s.sacnSlots (s.outEntry16 i) else [] }

/-! ### Rows -/

/-- STRAND_FRAME_START (R195). -/
def execStrandFrameStart (port : Nat) (s : State) : Host.Outcome State Fault Refusal := s.done (s.strandStart port)

/-- RDM_RESPONSE (R203). -/
def execRdmResponse (port : Nat) (bytes : Bytes) (s : State) : Host.Outcome State Fault Refusal :=
  s.done (s.rdmResponse port bytes)

/-- RDM_TIMEOUT (R201). -/
def execRdmTimeout (port : Nat) (s : State) : Host.Outcome State Fault Refusal := s.done (s.rdmTimeout port)

/-- SACN_DATA_PACKET (R205). -/
def execSacnDataPacket (s : State) : Host.Outcome State Fault Refusal := s.done s.sacnPacket

/-- SACN_DISCOVERY (R204). -/
def execSacnDiscovery (s : State) : Host.Outcome State Fault Refusal := s.done s.sacnDiscovery

end Sys2Proof.Machine
end

