-- ==== Sys2Proof/Machine/RopePx.lean ====
section
/-! DEFINITION. Rope pixel frames (R207 to R211), and the packet tasks that build headers and checksums or answer hosts (R293,
R299, R331, R332, R387). -/

namespace Sys2Proof.Machine

/-! ### Transmit streams (R207, R208) -/

/-- The ROPE_PIXEL section of the active topo. -/
def State.ropePx (s : State) : Bytes := s.activeSec 0x49

/-- Declared transmit streams and receive windows. -/
def State.pxTx (s : State) : Nat := field s.ropePx 0 2
def State.pxRx (s : State) : Nat := field s.ropePx 2 1

/-- Transmit entry `i`. -/
def State.pxTxEntry (s : State) (i : Nat) : Bytes := slice s.ropePx (16 + 16 * i) 16

/-- Receive entry `i`. -/
def State.pxRxEntry (s : State) (i : Nat) : Bytes := slice s.ropePx (16 + 16 * s.pxTx + 16 * i) 16

/-- The payload of fragment `k` of transmit entry `e`, for presentation tick `pres` (Table 6.14). -/
def State.pxPayload (s : State) (e : Bytes) (pres k : Nat) : Bytes :=
  let per := max 1 (field e 12 2)
  let total := field e 8 4
  let n := min per (total - k * per)
  let b := s.sendBuf
  beBytes 1 1 ++ beBytes 1 (if s.ras.noFlip then 1 else 0) ++ beBytes 1 (field e 1 1) ++ beBytes 1 0 ++ beBytes 8 pres ++
    beBytes 4 (k * per) ++ beBytes 2 n ++ beBytes 2 k ++ beBytes 2 (ceilDiv total per) ++ beBytes 2 0 ++
    (List.range n).flatMap fun i => beBytes 2 (s.chan b (field e 4 4 + k * per + i))

/-- Send one stream's frames in fragment order. -/
def State.pxSend (s : State) (e : Bytes) (pres : Nat) : State :=
  (List.range (ceilDiv (field e 8 4) (max 1 (field e 12 2)))).foldl (fun (s : State) k =>
    (s.sendRope (if field e 0 1 = 0xFF then 1 else 0) 3 (field e 0 1) 0 (s.pxPayload e pres k) false).incReg Reg.pxSent) s

/-- The boundary, or in variable blanking the raster start: every stream sends for the next tick, untimed in variable blanking;
nothing in a hold tick (R35, R207, R211, R212). Within a switch only the last arming tick sends (R88). -/
def State.pxTick (s : State) : State :=
  let held := match s.topo.switch with
    | .copying _ => true
    | .arming n => n != 1
    | _ => false
  if !s.egressRuns || !s.contentOut || s.lat != 2 || s.tick.hold || held then s
  else
    let pres := if s.ras.blank = 0 then (s.tickIdx + 1) % two64 else two64 - 1
    (List.range s.pxTx).foldl (fun (s : State) i => s.pxSend (s.pxTxEntry i) pres) s

/-! ### Receive windows (R209 to R211) -/

/-- The receive entry of window `w`. -/
def State.pxWindow (s : State) (w : Nat) : Option Bytes :=
  ((List.range s.pxRx).map s.pxRxEntry).find? fun e => field e 0 1 == w

/-- A window's state. -/
def State.win (s : State) (w : Nat) : WinSt := (assocGet s.egress.wins w).getD {}

/-- Put it back. -/
def State.setWin (s : State) (w : Nat) (x : WinSt) : State :=
  { s with egress := { s.egress with wins := assocSet s.egress.wins w x } }

/-- The buffer that becomes SHOW at the next boundary (R209). -/
def State.nextShow (s : State) : Nat := if s.lat = 1 then s.buf.compose else s.buf.send

/-- Write channel values into a buffer. -/
def State.putChans (s : State) (b : Nat) (l : List (Nat × Nat)) : State :=
  l.foldl (fun (s : State) p => s.putChan b p.1 p.2) s

/-- Is a pixel payload `b` of a frame of `len` bytes, from position `src`, one that window entry `e` may take (R209)? -/
def pxFits (e b : Bytes) (len src : Nat) (nopos : Bool) : Bool :=
  let n := field b 16 2
  field b 0 1 == 1 && !nopos && src == field e 1 1 && decide (field b 12 4 + n ≤ field e 8 4) &&
    len == max 64 (50 + 2 * n) && field b 20 2 == field e 12 2 && decide (field b 18 2 < field b 20 2)

/-- One window is judged for the next presentation: complete, or its channels keep the values shown (R210). A complete set of an
untimed window stays until a flip has shown it (R211). Answers whether the window is missing. -/
def State.winJudge (s : State) (e : Bytes) : Bool × State :=
  let w := field e 0 1
  let x := s.win w
  let full := decide (x.frags.length = field e 12 2)
  let x := if x.untimed && full then { x with frags := [], vals := [], ready := some x.vals } else x
  let b := s.nextShow
  match (if x.untimed then x.ready else if full then some x.vals else none) with
  | some vals =>
    let x := if x.untimed then { x with placed := true } else { x with frags := [], vals := [] }
    let s := (s.putChans b vals).setWin w x
    (false, { s with egress := { s.egress with winNext := setBit s.egress.winNext w } })
  | none =>
    let s := s.putChans b ((List.range (field e 8 4)).map fun i => (field e 4 4 + i, s.chan s.buf.shown (field e 4 4 + i)))
    (true, s.setWin w (if x.untimed then x else { x with frags := [], vals := [] }))

/-- 2,000 ns before the boundary: the receive windows are judged once (R210). Windows missing are counted and reported where the
coming tick presents: in SHOW and HOLDOVER, and in the last arming tick. -/
def State.windowCut (s : State) : State :=
  if s.egress.cut || s.pxRx == 0 then s
  else
    let r := (List.range s.pxRx).foldl (fun (r : Nat × State) i =>
      let e := r.2.pxRxEntry i
      let j := r.2.winJudge e
      (if j.1 then setBit r.1 (field e 0 1) else r.1, j.2)) (0, s)
    let s := { r.2 with egress := { r.2.egress with cut := true } }
    if r.1 = 0 || !(s.mode.mode.shows || s.mode.arming == some 1) then s
    else (s.addReg Reg.windowsMissing (popCount 64 r.1)).raise 30 (beBytes 1 2 ++ beBytes 8 r.1)

/-- An accepted fragment: its values go into the window's channels, unless the windows of this tick have been judged. One accepted
2,000 ns before the boundary or later comes after the judgement (R210, R217). -/
def State.pxAccept (s : State) (e b : Bytes) (untimed : Bool) : State :=
  let s := if s.tick.nextTime ≤ s.now + 2000 then s.windowCut else s
  let w := field e 0 1
  let x := s.win w
  let k := field b 18 2
  let x := if x.untimed != untimed then ({ untimed := untimed } : WinSt) else x
  if x.frags.contains k then s
  else
    let vals := (List.range (field b 16 2)).map fun i => (field e 4 4 + field b 12 4 + i, field b (24 + 2 * i) 2)
    let s := s.setWin w { x with frags := x.frags ++ [k], vals := x.vals ++ vals }
    let s := if s.egress.cut then s else s.putChans s.nextShow vals
    s.incReg Reg.pxReceived

/-- PIXEL_RX of one receive item. -/
def State.pxItem (x : Bytes) (s : State) : State :=
  let f := x.drop 16
  let b := (bodyOf f).drop 22
  let t := tagOf f
  if s.topo.active.isNone then s
  else
    match s.pxWindow (field b 2 1) with
    | none => s.incReg Reg.pxMalformed
    | some e =>
      let p := field b 4 8
      if !pxFits e b f.length t.src t.nopos then s.incReg Reg.pxMalformed
      else if p = two64 - 1 then s.pxAccept e b true
      else if p ≤ s.tickIdx then s.incReg Reg.pxLate
      else if s.tickIdx + 1 < p then s.incReg Reg.pxEarly
      else s.pxAccept e b false

/-- The boundary: windows are judged when they have not been, and RX_COMPLETE names those complete. Fragments accepted after the
judgement are not used. -/
def State.windowTick (s : State) : State :=
  let s := s.windowCut
  let s := s.setReg Reg.rxComplete s.egress.winNext
  let wins := s.egress.wins.map fun (p : Nat × WinSt) => if p.2.untimed then p else (p.1, ({} : WinSt))
  { s with egress := { s.egress with wins := wins, winNext := 0, cut := false } }

/-! ### Headers and checksums (R299, R387) -/

/-- HDR_BUILD: one header template after another, of the sACN universes or the rope pixel streams. -/
def workHdr (t : Task) (s : State) : After × State :=
  let n := if dParam t.row 0 1 = 0 then s.outCount else s.pxTx
  if t.prog + 1 < n then (.goOn { t with prog := t.prog + 1 }, s) else (.ended { t with prog := n } 0, s)

/-- Where the IPv4 header of a frame stands: behind a plain, a VLAN-tagged or a rope-tagged Ethernet header. -/
def State.ipAt (s : State) (f : Bytes) : Option Nat :=
  let ty := field f 12 2
  if ty = 0x0800 then some 14
  else if ty = 0x8100 ∧ field f 16 2 = 0x0800 then some 18
  else if ty = s.reg Reg.ethertype ∧ field f 20 2 = 0x0800 then some 22
  else none

/-- CSUM: the frame at SRC, LEN bytes, takes its checksums. -/
def workCsum (ecc : Nat) (t : Task) (s : State) : After × State :=
  let src := addrOf (dSrc t.row)
  let r := s.taskRead src (dLen t.row) ecc
  if !r.1 then (.faulted t, r.2)
  else
    let f := r.2.ramRead src.1 src.2 (dLen t.row)
    let s := match r.2.ipAt f with
      | none => r.2
      | some o => r.2.ramWrite src.1 src.2 (f.take o ++ insertSums (r.2.flag (Reg.portTxUdpCsum (if o = 22 then 0 else 2))) (f.drop o))
    (.ended { t with prog := dLen t.row } 0, s)

/-! ### Hosts (R293, R331) -/

/-- An ARP packet `a`: a claim of the unit's own address by another host is a conflict; a request for it is answered. -/
def State.arpIn (s : State) (a : Bytes) : State :=
  let own := s.ipAddr
  let s := if s.hasPos && field a 14 4 == own && field a 8 6 != s.hostMac then
      (s.incReg Reg.ipConflicts).raise 26 (beBytes 1 5 ++ beBytes 1 (s.reg Reg.position))
    else s
  if s.hasPos && field a 6 2 == 1 && field a 24 4 == own then
    s.sendHost (field a 8 6) 0x0806 (s.arpPacket 2 (field a 8 6) (field a 14 4))
  else s

/-- An IPv4 packet for HOST from MAC `src`: an echo request whose ICMP payload is at most 1,472 bytes is answered, with its identifier,
sequence number and data; other ICMP is ignored. TTL 64 and a type of service of 0 are DESIGN CHOICE (log 90). -/
def State.icmpIn (s : State) (src : Nat) (ip : Bytes) : State :=
  let m := (ip.take (field ip 2 2)).drop (ihl ip)
  if ipProto ip = 1 ∧ field m 0 1 = 8 ∧ m.length ≤ 1480 ∧ field ip 16 4 = s.ipAddr then
    s.sendHost src 0x0800 (ipPacket 1 0 64 s.ipAddr (field ip 12 4) [] (withSum (beBytes 2 0 ++ m.drop 2)))
  else s

/-- HOST of one receive item. -/
def State.hostItem (x : Bytes) (s : State) : State :=
  let f := bodyOf (x.drop 16)
  let r := if field x 0 1 = 2 then
      (if field f 12 2 = 0x8100 then (field f 16 2, f.drop 18) else (field f 12 2, f.drop 14))
    else (field f 20 2, f.drop 22)
  if r.1 = 0x0806 then s.arpIn r.2 else if r.1 = 0x0800 then s.icmpIn (field f 6 6) r.2 else s

/-! ### Rope control messages (R332) -/

/-- Does a control payload hold: a known MSG_TYPE, MSG_VER 1, and a LEN that agrees with its frame, padding apart? -/
def ropeCtrlOk (b : Bytes) : Bool :=
  let n := field b 2 2
  decide (1 ≤ field b 0 1) && decide (field b 0 1 ≤ 0x0A) && field b 1 1 == 1 && b.length == max 38 (4 + n)

/-- ROPE_CTRL of a task: a message that holds goes to OUT_QUEUE, for the control cores. -/
def workRopeCtrl (t : Task) (s : State) : After × State :=
  match s.nextItem t with
  | none => s.readEmpty t
  | some (x, s) =>
    if ropeCtrlOk ((bodyOf (x.drop 16)).drop 22) then
      let p := s.taskPush t x
      (.goOn p.1, p.2)
    else (.goOn { t with hand := none, prog := t.prog + 1 }, s.incReg Reg.tagErrors)

/-- ROPE_CTRL on engine `e`: a task's, or the device's own descriptor on the rope control queue. What the message does is the
command of its own name. -/
def State.ropeCtrl (s : State) (e : Nat) : State :=
  match (s.engine e).run with
  | some _ => s.runTask e 20 workRopeCtrl
  | none => s.packetStep e 20 5 fun x s =>
    if ropeCtrlOk ((bodyOf (x.drop 16)).drop 22) then s else s.incReg Reg.tagErrors

/-! ### Rows -/

/-- PIXEL_RX (R209). -/
def execPixelRx (engine : Nat) (s : State) : Host.Outcome State Fault Refusal := s.done (s.packetStep engine 18 6 State.pxItem)

/-- HDR_BUILD (R387). -/
def execHdrBuild (engine : Nat) (s : State) : Host.Outcome State Fault Refusal := s.done (s.runTask engine 21 workHdr)

/-- CSUM (R299). -/
def execCsum (engine ecc : Nat) (s : State) : Host.Outcome State Fault Refusal := s.done (s.runTask engine 22 (workCsum ecc))

/-- HOST (R293). -/
def execHost (engine : Nat) (s : State) : Host.Outcome State Fault Refusal := s.done (s.packetStep engine 23 7 State.hostItem)

end Sys2Proof.Machine
end

