-- ==== Sys2Proof/Machine/Firebox.lean ====
section
/-! DEFINITION. The firebox (R213 to R228, R235, R240 to R246): the flue copy, the emission grid, the row slots and their on-times,
lamp diagnosis, spares and probes. -/

namespace Sys2Proof.Machine

/-! ### Sinks and lamps -/

/-- The SCAN section of the active topo. -/
def State.scanSec (s : State) : Bytes := s.activeSec 0x50

/-- Entry of sink `i` (Table 7.2). -/
def State.sinkEntry (s : State) (i : Nat) : Bytes := slice s.scanSec (64 + 8 * i) 8

/-- Is sink `i` used? -/
def State.sinkUsed (s : State) (i : Nat) : Bool := bit (field (s.sinkEntry i) 0 1) 7

/-- Its colour. -/
def State.sinkColour (s : State) (i : Nat) : Nat := field (s.sinkEntry i) 0 1 % 4

/-- The channel sink `i` emits in row `r` (R216). -/
def State.sinkChan (s : State) (i r : Nat) : Nat := field (s.sinkEntry i) 4 4 + r * field (s.sinkEntry i) 2 2

/-- Used sinks, in order. -/
def State.usedSinks (s : State) : List Nat := (List.range 768).filter s.sinkUsed

/-- Colours that used sinks have. -/
def State.coloursUsed (s : State) : List Nat := (List.range 4).filter fun c => s.usedSinks.any fun i => s.sinkColour i == c

/-- The sink of a lamp index, and its row. -/
def lampSink (l : Nat) : Nat := l % 768
def lampRow (l : Nat) : Nat := l / 768

/-- Is lamp `l` used: its sink used and its row below ROWS (Table 7.9)? -/
def State.lampUsed (s : State) (l : Nat) : Bool := s.sinkUsed (lampSink l) && decide (lampRow l < s.reg Reg.rows)

/-- Lamp indices in use, rising. -/
def State.lamps (s : State) : List Nat := (List.range (s.reg Reg.rows)).flatMap fun r => s.usedSinks.map fun i => r * 768 + i

/-- LAMP_STATUS of lamp `l` (Table 7.9). -/
def State.lampStatusOf (s : State) (l : Nat) : Nat :=
  if s.domOn 8 && s.lampUsed l then (assocGet s.fbx.status l).getD 0 else 6

/-- Lamps of one status. -/
def State.lampsOf (s : State) (n : Nat) : Nat := (s.lamps.filter fun l => s.lampStatusOf l == n).length

/-! ### The slot and the grayscale (R222, R224 to R226) -/

/-- t_slot in ns. -/
def slotNs (k rows win : Nat) : Nat := 4 * ((win / max 1 k) / (4 * max 1 rows))

/-- p: steps of the PWM window. -/
def stepsP (slot dead pre : Nat) : Nat := (slot - dead - pre) / 4

/-- G_c. -/
def fullScale (k p : Nat) (low : Bool) : Nat := if low then k * (p - 15) else k * p

/-- U_c. -/
def unitCount (k p : Nat) (low : Bool) : Nat := if low then 16 * fullScale k p low else fullScale k p low

/-- D_c: the available depth. -/
def grayDepth (k p : Nat) (low : Bool) : Nat :=
  if unitCount k p low = 0 then 0 else min 16 (unitCount k p low + 1).log2

/-- The four low bits of `v` in reverse order. -/
def bitrev4 (v : Nat) : Nat := (v % 2) * 8 + (v / 2 % 2) * 4 + (v / 4 % 2) * 2 + v / 8 % 2

/-- The on-time Q of value `v` in units, with temporal dither (R225). -/
def onTime (u tick sink row v : Nat) : Nat :=
  let x := v * u
  let d := ((x % 65535) * 16) / 65535
  if bitrev4 ((tick + sink + 5 * row) % 16) < d then x / 65535 + 1 else x / 65535

/-- Full-current and low-current steps of segment `j` (R225, R226). -/
def segSteps (k tick j q : Nat) (low : Bool) : Nat × Nat :=
  let n := if low then q / 16 else q
  (n * (j + 1) / k - n * j / k, if low && j == tick % k then q % 16 else 0)

/-- The least D_c over the colours in use, for timing figures (R224, R227). -/
def State.leastDepth (s : State) (p lc : Nat) : Nat :=
  (s.coloursUsed.map fun c => grayDepth (s.reg Reg.segments) p (bit lc c)).foldl min 16

/-- SLOT_NS, STEPS_P and DEPTH_AVAIL follow the drive objects. -/
def State.driveFigures (s : State) : State :=
  let slot := slotNs (s.reg Reg.segments) (s.reg Reg.rows) (s.reg Reg.emitWinNs)
  let p := stepsP slot (s.reg Reg.tDeadNs) (s.reg Reg.tPreNs)
  ((s.setReg Reg.slotNs slot).setReg Reg.stepsP p).setReg Reg.depthAvail
    (if s.coloursUsed.isEmpty then 0 else s.leastDepth p (s.reg Reg.lcEn))

/-- Do new values of T_DEAD_NS, T_PRE_NS, EMIT_WIN_NS and LC_EN keep D_c at DEPTH for every colour in use (R227)? -/
def State.driveOk (s : State) (dead pre win lc : Nat) : Bool :=
  let p := stepsP (slotNs (s.reg Reg.segments) (s.reg Reg.rows) win) dead pre
  s.coloursUsed.all fun c => decide (s.reg Reg.depth ≤ grayDepth (s.reg Reg.segments) p (bit lc c))

/-- PROBE_PERIOD (R244). -/
def State.probePeriodOf (s : State) : Nat :=
  let p := s.reg Reg.stepsP
  let gs := s.coloursUsed.map fun c => fullScale (s.reg Reg.segments) p (bit (s.reg Reg.lcEn) c)
  match gs with
  | [] => 256
  | g :: r => 256 * max 1 (ceilDiv 9766 (max 1 (r.foldl min g)))

/-! ### The flue copy (R217 to R219, R240) -/

/-- A window that is not complete holds channel `ch` (R210, R217). -/
def State.windowMissing (s : State) (ch : Nat) : Bool :=
  (List.range s.pxRx).any fun i =>
    let e := s.pxRxEntry i
    decide (field e 4 4 ≤ ch) && decide (ch < field e 4 4 + field e 8 4) && !bit s.egress.winNext (field e 0 1)

/-- The value the copy takes for lamp `l` from buffer `b`; `cut` says that windows not complete keep the active store's. -/
def State.copyValue (s : State) (b : Nat) (cut : Bool) (l : Nat) : Nat :=
  let ch := s.sinkChan (lampSink l) (lampRow l)
  if cut && s.windowMissing ch then (assocGet s.fbx.active l).getD 0
  else
    let v := s.chan b ch
    if bit (field (s.sinkEntry (lampSink l)) 0 1) 6 then gain15 v (s.buf.temps.getD (s.sinkColour (lampSink l)) 32768) else v

/-- Copy every used lamp's value of buffer `b` into the inactive store. -/
def State.flueCopy (s : State) (b : Nat) (cut : Bool) : State :=
  let store := s.lamps.filterMap fun l =>
    let v := s.copyValue b cut l
    if v = 0 then none else some (l, v)
  { s with fbx := { s.fbx with inactive := store, copy := 1, copyDue := false,
                               copyEnd := s.clock.cclk + ceilDiv (2 * s.lamps.length) 64 } }

/-- Is a SWITCH carried out at the boundary to come: one that arrived, or a timed one that is due by then? -/
def State.switchComing (s : State) : Bool :=
  s.topo.switch == .waiting && ((s.stage.cmds.any fun c => c.ix == 0x8000 && c.sub == 0x0B) ||
    (s.stage.timed.any fun w => w.ix == 0x8000 && w.sub == 0x0B && decide (w.due ≤ s.tick.nextTime)))

/-- Does a switch keep the outputs at the values of tick T − 1 at the boundary to come (R88)? Only the boundary T + W + L shows a
new frame. -/
def State.switchHolds (s : State) : Bool :=
  match s.topo.switch with
  | .none => false
  | .waiting => s.switchComing
  | .copying _ => true
  | .arming n => n != 1

/-- Does the boundary to come take a copy: not a hold tick, not a settling frame, not the end of a tick that composed nothing
(R218)? -/
def State.copyWanted (s : State) : Bool :=
  s.domOn 8 && s.reg Reg.driveMode != 0 && s.ras.on && s.ras.composes && s.ras.done && !s.ras.noFlip && !s.tick.settleNext &&
    !s.switchHolds

/-- FLUE_COPY_START: 2,000 ns before the boundary, or at the raster start in variable blanking (R218). The hold-tick decision of R34
is what `copyWanted` reads: frame done has come or has not. -/
def State.flueStart (s : State) : State :=
  if s.ras.blank = 0 then
    let s := (s.reach (s.tick.nextTime - 2000)).windowCut
    if s.copyWanted && s.fbx.copy != 1 then s.flueCopy s.nextShow true else s
  else if s.fbx.copyDue && s.domOn 8 && s.reg Reg.driveMode != 0 then
    let s := { s with fbx := { s.fbx with swapFrom := s.ras.start + 2000 } }
    s.flueCopy s.buf.shown false
  else { s with fbx := { s.fbx with copyDue := false } }

/-- FLUE_COPY_DONE: the CRC holds, or the copy is not used (R219). -/
def State.flueDone (s : State) (ok : Bool) : State :=
  if s.fbx.copy ≠ 1 then s
  else
    let s := s.reachCclk s.fbx.copyEnd
    if ok then { s with fbx := { s.fbx with copy := 2 } }
    else (({ s with fbx := { s.fbx with copy := 3 } }).incReg Reg.flueErrors).capture 0x0A 0 s.tickIdx

/-! ### Rows (R214, Table 17.5) -/

/-- The level that turns a row switch on: ROW_POL. -/
def State.rowOn (s : State) : Bool := bit (field s.scanSec 5 1) 0

/-- The ROWG pins leave their high impedance at the activation of a SCAN section, driven to the off level of its ROW_POL. -/
def State.rowPinsOn (s : State) : State :=
  let v := if s.scanSec.isEmpty then none else some (!s.rowOn)
  if s.pins.out.rows == v then s
  else ({ s with pins := { s.pins with out := { s.pins.out with rows := v } } }).send (.rows v)

/-! ### Emission (R220 to R222) -/

/-- Does the firebox emit: FBX_SINK on, a drive mode, SHOW or HOLDOVER, its supply good, the rail not tripped? -/
def State.emits (s : State) : Bool :=
  s.domOn 8 && s.reg Reg.driveMode != 0 && s.mode.mode.shows && !s.belay.latchDark && !s.power.fbxLow &&
    s.reg Reg.draughtState != 4

/-- DRIVE_STATE: 0 off, 1 withheld, 2 emitting, 3 repeating the active store. -/
def State.driveStateOf (s : State) : Nat :=
  if !s.domOn 8 || s.reg Reg.driveMode == 0 then 0
  else if s.mode.arming.isSome && !s.mode.mode.shows then 1
  else if !s.emits then 0
  else if s.fbx.rampAt.isSome then 1
  else if s.fbx.repeats then 3 else 2

/-- Draw a headroom sample that no command gave: a pin voltage and whether the current is weak (assumption log 3). -/
def State.drawSample (s : State) (sink : Nat) : SinkSample × State :=
  let a := s.drawWord 14
  let b := a.2.drawWord 1
  ({ sink := sink, mv := a.1, weak := b.1 == 1 }, b.2)

/-- An emission frame starts at `at_`: the old one is cut off and a whole copy swaps in (R217, R220, R221). -/
def State.openEmission (s : State) (at_ : Nat) : State :=
  let s := s.slotCut
  let f := s.fbx
  let swap := f.copy == 2 && decide (f.swapFrom ≤ s.now)
  let cfg : FrameCfg := { k := s.reg Reg.segments, rows := s.reg Reg.rows, win := s.reg Reg.emitWinNs, slot := s.reg Reg.slotNs,
                          p := s.reg Reg.stepsP, lc := s.reg Reg.lcEn }
  { s with fbx := { f with
    active := if swap then f.inactive else f.active, inactive := if swap then f.active else f.inactive,
    copy := if swap || f.copy == 3 then 0 else f.copy,
    repeats := !swap, on := s.emits, tick := s.tickIdx, start := at_, cfg := cfg, seg := 0, slot := 0, withheld := false,
    trims := s.cal.applied.trims, hrSeg := List.replicate 8 none, hrNow := List.replicate 8 none, diss := 0, seen := [], probed := [] } }

/-- EMISSION_FRAME_START: the frame starts where the unit emits, and the off-current check runs; `stuck` says that a sink
commanded off carries current, and `sink` names it (R220, Table 15.6). -/
def State.frameStart (s : State) (stuck : Bool) (sink : Nat) : State :=
  let at_ := s.tick.time + s.reg Reg.emitPhaseNs
  if !s.domOn 8 || s.reg Reg.driveMode == 0 || s.tick.realign then s
  else
    let s := s.reach at_
    let s := if (s.emits || s.mode.arming.isSome) && !(s.fbx.on && s.fbx.tick == s.tickIdx) then s.openEmission at_ else s
    if stuck then (s.setActive 0x1D).capture 0x1D sink s.tickIdx else s.clearActive 0x1D

/-- The lesser of two minima. -/
def minOpt (a b : Option Nat) : Option Nat :=
  match a, b with
  | some x, some y => some (min x y)
  | none, y => y
  | x, none => x

/-- A segment ends: its minima join the frame's. -/
def FbxSt.closeSeg (f : FbxSt) : FbxSt :=
  { f with hrNow := List.zipWith minOpt f.hrNow f.hrSeg, hrSeg := List.replicate 8 none }

/-- EMISSION_SEGMENT_START: the next segment of the frame under way. -/
def State.segmentStart (s : State) : State :=
  let f := s.fbx
  if !f.on || !s.emits || decide (f.cfg.k ≤ f.seg) then s
  else
    let s := s.reach (f.start + f.seg * f.cfg.win / f.cfg.k)
    let f := s.fbx.closeSeg
    { s with fbx := { f with seg := f.seg + 1, slot := 0, withheld := f.rampAt.isSome } }

/-- The spare that stands for sink `i`, engaged for lamp it names. -/
def State.spareOf (s : State) (i : Nat) : Option (Nat × Nat) := (s.fbx.spares.find? fun p => p.1 == i).map fun p => p.2

/-- The sink that lights for used sink `i`: itself, or its spare. -/
def State.liveSink (s : State) (i : Nat) : Nat := ((s.spareOf i).map Prod.fst).getD i

/-- The on-times of row `r` in segment `j`: used sink, the sink that lights, full and low steps; sinks held off by SHORT_ACTION or in
a disabled bank are dark. -/
def State.lit (s : State) (j r : Nat) : List (Nat × Nat × Nat × Nat) :=
  let f := s.fbx
  s.usedSinks.filterMap fun i =>
    let l := r * 768 + i
    let sink := s.liveSink i
    if f.held.contains l || bit f.bankOff (sink / 96) then none
    else
      let low := bit f.cfg.lc (s.sinkColour i)
      let q := onTime (unitCount f.cfg.k f.cfg.p low) f.tick i r ((assocGet f.active l).getD 0)
      let n := segSteps f.cfg.k f.tick j q low
      if n.1 + n.2 = 0 then none else some (i, sink, n)

/-- The current of a sink in nA: IFULL_UA of its colour, in the low range one sixteenth of it, by its trims (R213, R255). -/
def State.sinkNa (s : State) (sink colour : Nat) (low : Bool) : Nat :=
  let set := s.reg (Reg.ifullUa colour) * 1000 / (if low then 16 else 1)
  match s.fbx.trims.find? fun t => t.1 == sink with
  | none => set
  | some t => (((set * t.2.1 / 32768 : Nat) : Int) + t.2.2).toNat

/-- One condition seen in a diagnosable slot or probe (R241). -/
def State.seeSample (s : State) (l : List (Nat × LampSeen)) (lamp colour : Nat) (x : SinkSample) : List (Nat × LampSeen) :=
  let y := (assocGet l lamp).getD {}
  let y := if x.weak && decide (x.mv < 100) then { y with opens := y.opens + 1 }
    else if s.reg (Reg.shortMv colour) < x.mv then { y with shorts := y.shorts + 1 }
    else { y with goods := y.goods + 1 }
  assocSet l lamp y

/-- One sink of a slot: its headroom and diagnosis sample when the on-time is long enough, and its dissipation. A spare conducts at
its primary's colour current and trim (R245). -/
def State.slotSink (s : State) (samples : List SinkSample) (r : Nat) (p : Nat × Nat × Nat × Nat) : State :=
  let c := s.sinkColour p.1
  let sink := p.2.1
  let full := p.2.2.1
  let low := p.2.2.2
  let s := if full + low < 40 then s
    else
      let d : SinkSample × State := match samples.find? fun x => x.sink == sink with
        | some x => (x, s)
        | none => s.drawSample sink
      let s := d.2
      let x := d.1
      let s := { s with fbx := { s.fbx with seen := s.seeSample s.fbx.seen (r * 768 + p.1) c x } }
      if full < 40 ∨ (x.weak ∧ x.mv < 100) then s
      else
        let b := sink / 96
        { s with fbx := { s.fbx with hrSeg := s.fbx.hrSeg.set b (minOpt (s.fbx.hrSeg.getD b none) (some x.mv)),
                                     lastHr := assocSet s.fbx.lastHr sink x.mv } }
  let hr := (assocGet s.fbx.lastHr sink).getD 0
  let q := s.sinkNa p.1 c false * full + s.sinkNa p.1 c true * low
  { s with fbx := { s.fbx with diss := s.fbx.diss + q * hr * 4 / 1000 } }

/-- The lamps probed in row `r` of segment 0 of this frame (R244). -/
def State.probeLamps (s : State) (r : Nat) : List Nat :=
  let i := s.fbx.tick % s.probePeriodOf
  if !s.flag Reg.probeEn then []
  else (s.usedSinks.filter fun x => x % 96 == i && (s.lampStatusOf (r * 768 + x) == 4 || s.lampStatusOf (r * 768 + x) == 7)).map
    fun x => r * 768 + x

/-- The columns pre-charged in a slot of LINE_SCAN, with the VPRE_MV of their colour: every used sink's, and an engaged spare's; those
of a disabled bank are left (R223). -/
def State.charged (s : State) : List (Nat × Nat) :=
  let vpre := fun i => s.reg (Reg.vpreMv (s.sinkColour i))
  let l := (s.usedSinks.map fun i => (i, vpre i)) ++ s.fbx.spares.map fun x => (x.2.1, vpre x.1)
  l.filter fun x => !bit s.fbx.bankOff (x.1 / 96)

/-- The slot of row `r` of segment `j` that starts at `t`, with `on` its sinks (Table 7.4). In DIRECT_STRING no row is driven and no
column pre-charged; a probe turns the row on 160 ns early (R244). -/
def State.slotOut (s : State) (j r t : Nat) (probed : Bool) (on : List (Nat × Nat × Nat)) : SlotOut :=
  let f := s.fbx
  let scan := s.reg Reg.driveMode == 1
  let dead := s.reg Reg.tDeadNs
  let pwm := t + dead + s.reg Reg.tPreNs
  { tick := f.tick, seg := j, row := r, start := t, chargeAt := t + dead, charge := if scan then s.charged else [],
    rowPin := if scan then some (r, s.rowOn) else none, rowAt := if probed then pwm - 160 else pwm, pwmAt := pwm,
    endAt := t + f.cfg.slot, on := on }

/-- SCAN_SLOT: the next row slot of the segment. `samples` are the pins sampled in it, `probes` those of its probe. -/
def State.scanSlot (s : State) (samples probes : List SinkSample) : State :=
  let f := s.fbx
  if !f.on || !s.emits || f.seg == 0 || decide (f.cfg.rows ≤ f.slot) then s
  else
    let j := f.seg - 1
    let r := f.slot
    let t := f.start + j * f.cfg.win / f.cfg.k + r * f.cfg.slot
    let s := s.reach t
    let s := { s with fbx := { s.fbx with slot := r + 1 } }
    if f.withheld then s
    else
      let s := { s with fbx := { s.fbx with slotOn := some (r, t + f.cfg.slot) } }
      let ps := if j = 0 then s.probeLamps r else []
      let probeAt := t + s.reg Reg.tDeadNs + s.reg Reg.tPreNs - 160
      let s := if ps.isEmpty then s else s.send (.probe r probeAt (ps.map fun l => s.liveSink (lampSink l)))
      let s := ps.foldl (fun (s : State) l =>
        let sink := s.liveSink (lampSink l)
        let d : SinkSample × State := match probes.find? fun x => x.sink == sink with
          | some x => (x, s)
          | none => s.drawSample sink
        { d.2 with fbx := { d.2.fbx with probed := d.2.seeSample d.2.fbx.probed l (d.2.sinkColour (lampSink l)) d.1 } }) s
      let on := s.lit j r
      let s := s.send (.slot (s.slotOut j r t (!ps.isEmpty) (on.map fun p => p.2)))
      on.foldl (fun (s : State) p => s.slotSink samples r p) s

/-! ### Verdicts (R242 to R246) -/

/-- The verdict of what was seen: 2 OPEN, 3 SHORT, 1 GOOD. -/
def LampSeen.verdict (x : LampSeen) : Nat :=
  if x.shorts = 0 ∧ x.goods = 0 then 2 else if x.opens = 0 ∧ x.goods = 0 then 3 else 1

/-- Entry `i` of SPARE_STRINGS: primary and spare. -/
def State.sparePairs (s : State) : List (Nat × Nat) :=
  let b := s.activeSec 0x54
  (List.range (field b 0 1)).map fun i => (field b (4 + 4 * i) 2, field b (6 + 4 * i) 2)

/-- The free spare of sink `i` (R245). -/
def State.freeSpare (s : State) (i : Nat) : Option Nat :=
  if (s.spareOf i).isSome then none else (s.sparePairs.find? fun p => p.1 == i).map Prod.snd

/-- What happened in a frame: lamps newly OPEN (masked or not), newly SHORT. -/
structure Verdicts where
  masked : List Nat := []
  opens  : List Nat := []
  shorts : List Nat := []
  deriving DecidableEq, Repr

/-- Put a lamp's status, and its frame count. -/
def State.setLamp (s : State) (l st : Nat) : State :=
  { s with fbx := { s.fbx with status := assocSet (assocDel s.fbx.status l) l st, counts := assocSet s.fbx.counts l 0 } }

/-- A verdict on lamp `l` (Table 7.9); `probe` for a probe's. -/
def State.judgeLamp (s : State) (l v : Nat) (probe : Bool) (r : Verdicts) : Verdicts × State :=
  let st := s.lampStatusOf l
  if st = 2 ∨ st = 3 then (r, s)
  else if st = 5 then (if v = 2 then ({ r with opens := r.opens ++ [l] }, s.setLamp l 2) else (r, s))
  else if v = 1 then (r, s.setLamp l (if probe then 7 else 1))
  else if v = 3 then
    let s := s.setLamp l 3
    ({ r with shorts := r.shorts ++ [l] },
      if s.reg Reg.shortAction = 1 then { s with fbx := { s.fbx with held := l :: s.fbx.held } } else s)
  else
    match s.freeSpare (lampSink l) with
    | some x =>
      let s := s.setLamp l 5
      ({ r with masked := r.masked ++ [l] },
        { s with fbx := { s.fbx with spares := s.fbx.spares ++ [(lampSink l, x, l)] } })
    | none => ({ r with opens := r.opens ++ [l] }, s.setLamp l 2)

/-- One lamp at the end of a frame: its verdict, or one frame more without one. -/
def State.lampEnd (l : Nat) (r : Verdicts × State) : Verdicts × State :=
  let s := r.2
  match assocGet s.fbx.seen l, assocGet s.fbx.probed l with
  | some x, _ => s.judgeLamp l x.verdict false r.1
  | none, some x => s.judgeLamp l x.verdict true r.1
  | none, none =>
    (r.1, { s with fbx := { s.fbx with counts := assocSet s.fbx.counts l ((assocGet s.fbx.counts l).getD 0 + 1) } })

/-- The least of a list of lamp indices. -/
def leastLamp (l : List Nat) : Nat :=
  match l with
  | [] => 0
  | a :: r => r.foldl min a

/-- Events and fault records of the lamps newly OPEN or SHORT. -/
def State.lampReport (s : State) (r : Verdicts) : State :=
  let all := r.masked ++ r.opens
  let s := if all.isEmpty then s
    else s.raise 48 (beBytes 4 all.length ++ beBytes 2 (leastLamp all) ++ beBytes 1 (if r.opens.isEmpty then 1 else 0))
  let s := r.masked.foldl (fun (s : State) l => s.captureWith 0x1B l s.frame true false) s
  let s := r.opens.foldl (fun (s : State) l => (s.setActive 0x1B).captureWith 0x1B l s.frame false false) s
  let s := if r.shorts.isEmpty then s
    else s.raise 49 (beBytes 4 r.shorts.length ++ beBytes 2 (leastLamp r.shorts))
  r.shorts.foldl (fun (s : State) l => (s.setActive 0x1C).captureWith 0x1C l s.frame false false) s

/-- May lamp `l` become UNVERIFIED: 64 frames without a verdict (R243)? -/
def State.unverDue (s : State) (l : Nat) : Bool :=
  let st := s.lampStatusOf l
  ((st == 0 || st == 1) && decide (64 ≤ (assocGet s.fbx.counts l).getD 0)) || (st == 7 && decide (64 ≤ s.fbx.diagOff))

/-- LAMP_UNVERIFIED: every lamp due becomes UNVERIFIED, with one EV50. -/
def State.lampsUnverified (s : State) : State :=
  let due := s.lamps.filter s.unverDue
  if due.isEmpty then s
  else
    let s := due.foldl (fun (s : State) l =>
      { s with fbx := { s.fbx with status := assocSet (assocDel s.fbx.status l) l 4 } }) s
    s.raise 50 (beBytes 4 due.length ++ beBytes 2 (leastLamp due))

/-- HR_MIN: bank minima, 0xFFFF without a sample. -/
def hrBytes (l : List (Option Nat)) : Nat := beNat (l.flatMap fun x => beBytes 2 (x.getD 0xFFFF))

/-- SINK_DISS_MW after a frame, and the class SINK_DISSIPATION (R235). -/
def State.dissEnd (s : State) : State :=
  let w := s.fbx.diss / max 1 s.tMin
  let log := (w :: s.fbx.dissLog).take 16
  let mw := log.sum / log.length / 1000000
  let s := ({ s with fbx := { s.fbx with dissLog := log, diss := 0 } }).setReg Reg.sinkDissMw mw
  if s.reg Reg.dissLimitMw < mw then (s.setActive 0x19).capture 0x19 0 mw else s.clearActive 0x19

/-- EMISSION_FRAME_END: segment K − 1 is over, verdicts are made and the figures follow (R228, R235, R242). -/
def State.frameEnd (s : State) : State :=
  let f := s.fbx
  if !f.on || !s.emits then s
  else
    let s := s.reach (f.start + f.cfg.win)
    let s := { s with fbx := s.fbx.closeSeg }
    let s := { s with fbx := { s.fbx with on := false, hrLast := s.fbx.hrNow } }
    let s := (s.setReg Reg.hrMin (hrBytes s.fbx.hrLast)).dissEnd
    let diag := s.flag Reg.diagEn
    let s := { s with fbx := { s.fbx with diagOff := if diag then 0 else s.fbx.diagOff + 1,
                                          seen := if diag then s.fbx.seen else [], probed := if diag then s.fbx.probed else [] } }
    let r := s.lamps.foldl (fun r l => State.lampEnd l r) (({} : Verdicts), s)
    r.2.lampReport r.1

/-- CLEAR at its boundary: a lamp, or every lamp for 0xFFFF, returns to UNKNOWN; sinks held off come back and its spares are
released (R246). -/
def State.lampClear (s : State) (v : Nat) : State :=
  let hit := fun (l : Nat) => v == 0xFFFF || l == v
  let f := s.fbx
  let s := { s with fbx := { f with status := f.status.filter (fun p => !hit p.1), counts := f.counts.filter (fun p => !hit p.1),
                                    held := f.held.filter (fun l => !hit l), spares := f.spares.filter (fun p => !hit p.2.2) } }
  let s := if s.lampsOf 2 = 0 then s.clearActive 0x1B else s
  let s := if s.lampsOf 3 = 0 then s.clearActive 0x1C else s
  { s with fbx := { s.fbx with bankOff := if v = 0xFFFF then 0 else clearBit s.fbx.bankOff (lampSink v / 96) } }

/-- The boundary: with PROBE_EN back at 0, every GOOD_BY_PROBE lamp becomes UNVERIFIED (R243). -/
def State.probeTick (s : State) : State :=
  let on := s.flag Reg.probeEn
  let was := s.fbx.probeOld
  let s := { s with fbx := { s.fbx with probeOld := on } }
  if on || !was then s
  else
    let due := s.lamps.filter fun l => s.lampStatusOf l == 7
    if due.isEmpty then s
    else
      let s := due.foldl (fun (s : State) l =>
        { s with fbx := { s.fbx with status := assocSet (assocDel s.fbx.status l) l 4 } }) s
      s.raise 50 (beBytes 4 due.length ++ beBytes 2 (leastLamp due))

/-! ### Raster starts in variable blanking (R197, R206, R211, R218) -/

/-- What a raster start in variable blanking sends: strand frames, the sACN sync and data packets, untimed rope pixel frames, and the
flue copy unless the frame is held or settling (R218). -/
def State.rasterEgress (s : State) : State :=
  let s := s.strandLatch.sacnStart.pxTick
  { s with fbx := { s.fbx with copyDue := !s.tick.hold && !s.tick.settling } }

/-- RASTER_LINE_START with what follows when it starts a raster. -/
def State.rasterLine (s : State) (late fault addr : Nat) : State :=
  let t := s.lineStart late fault addr
  if t.frame = s.frame then t else t.rasterEgress

/-! ### Rows -/

/-- RASTER_LINE_START (R146). -/
def execRasterLineStart (late fault addr : Nat) (s : State) : Host.Outcome State Fault Refusal :=
  s.done (s.rasterLine late fault addr)

/-- FLUE_COPY_START (R217). -/
def execFlueCopyStart (s : State) : Host.Outcome State Fault Refusal := s.done s.flueStart

/-- FLUE_COPY_DONE (R219). -/
def execFlueCopyDone (ok : Bool) (s : State) : Host.Outcome State Fault Refusal := s.done (s.flueDone ok)

/-- EMISSION_FRAME_START (R220). -/
def execEmissionFrameStart (stuck : Bool) (sink : Nat) (s : State) : Host.Outcome State Fault Refusal :=
  s.done (s.frameStart stuck sink)

/-- EMISSION_SEGMENT_START (R220). -/
def execEmissionSegmentStart (s : State) : Host.Outcome State Fault Refusal := s.done s.segmentStart

/-- SCAN_SLOT (R222). -/
def execScanSlot (samples probes : List SinkSample) (s : State) : Host.Outcome State Fault Refusal :=
  s.done (s.scanSlot samples probes)

/-- EMISSION_FRAME_END (R242). -/
def execEmissionFrameEnd (s : State) : Host.Outcome State Fault Refusal := s.done s.frameEnd

/-- LAMP_UNVERIFIED (R243). -/
def execLampUnverified (s : State) : Host.Outcome State Fault Refusal := s.done s.lampsUnverified

end Sys2Proof.Machine
end

