-- ==== Sys2Proof/Machine/Draught.lean ====
section
/-! DEFINITION. The draught controller (R229 to R234) and temperature compensation (R236 to R239). -/

namespace Sys2Proof.Machine

/-! ### The rail (R229 to R234) -/

/-- Is the draught controller ON: its domain, and a DRAUGHT section in the active topo? -/
def State.draughtOn (s : State) : Bool := s.domOn 9 && !(s.activeSec 0x51).isEmpty

/-- A voltage rounded to 5 mV. -/
def roundTo5 (v : Nat) : Nat := (v + 2) / 5 * 5

/-- The new setpoint from the least headroom `h` (R229). -/
def newSetpoint (vset h target deadband slew lo hi : Nat) : Nat :=
  let e : Int := (h : Int) - target
  let e := if -(deadband : Int) ≤ e ∧ e ≤ deadband then 0 else e
  roundTo5 (clampInt lo hi ((vset : Int) - clampInt (-(slew : Int)) slew e)).toNat

/-- The least bank minimum of the last frame to end, with its bank. -/
def leastHr (l : List (Option Nat)) : Option (Nat × Nat) :=
  ((List.range l.length).zip l).foldl (fun a p =>
    match p.2, a with
    | none, a => a
    | some h, none => some (h, p.1)
    | some h, some b => if h < b.1 then some (h, p.1) else some b) none

/-- The boundary: the setpoint law, and the limit of R230. A rail that has ramped for a tick regulates from here. -/
def State.draughtTick (s : State) (vled : Nat) : State :=
  let s := if s.domOn 8 then s.setReg Reg.vledMeasMv vled else s
  let st := s.reg Reg.draughtState
  if !s.draughtOn || st == 0 || st == 4 || s.cal.run.isSome || s.fbx.rampAt.isSome then s
  else
    let least := leastHr s.fbx.hrLast
    let top := s.reg Reg.vledMaxMv
    let s := match least with
      | none => s
      | some h => s.setReg Reg.vledSetMv (newSetpoint (s.reg Reg.vledSetMv) h.1 (s.reg Reg.hrTargetMv + s.reg Reg.hrMarginMv)
          (s.reg Reg.deadbandMv) (s.reg Reg.slewMv) (s.reg Reg.vledMinMv) top)
    let starved := match least with
      | none => false
      | some h => s.reg Reg.vledSetMv == top && decide (h.1 < s.reg Reg.hrTargetMv)
    let was := s.fbx.limitOn
    let s := ({ s with fbx := { s.fbx with limitOn := starved } }).setReg Reg.draughtState (if starved then 3 else 2)
    match starved, least with
    | true, some h =>
      let s := s.incReg Reg.limitTicks
      if was then s else s.raise 51 (beBytes 1 h.2 ++ beBytes 2 h.1)
    | _, _ => s

/-- The entry to SHOW from STAGING: DEN rises and the ramp begins (R232). -/
def State.railOn (s : State) : State :=
  if s.draughtOn then
    let s := (s.setDen true).setReg Reg.draughtState 1
    { s with fbx := { s.fbx with rampAt := some s.clock.cclk, hrLast := List.replicate 8 none } }
  else s

/-- DRAUGHT_RAMP_END: 900 µs after DEN rose; the setpoint stands at VLED_INIT_MV and emission is withheld no longer. -/
def State.rampEnd (s : State) : State :=
  match s.fbx.rampAt with
  | none => s
  | some t =>
    let s := s.reachCclk (t + 900000)
    let top := if s.cal.run.isSome then s.cal.vmax else s.reg Reg.vledInitMv
    ({ s with fbx := { s.fbx with rampAt := none } }).setReg Reg.vledSetMv top

/-- VLED_SET_MV as it reads: on the ramp while that runs. -/
def State.vledSetOf (s : State) : Nat :=
  match s.fbx.rampAt with
  | none => s.reg Reg.vledSetMv
  | some t => min 900000 (s.clock.cclk - t) * (if s.cal.run.isSome then s.cal.vmax else s.reg Reg.vledInitMv) / 900000

/-- DRAUGHT_OV: VLED_SNS above VLED_MAX_MV + 500 mV. DEN falls, the sinks turn off, and the class is captured. -/
def State.draughtOv (s : State) (mv : Nat) : State :=
  if !s.draughtOn || decide (mv ≤ (if s.cal.run.isSome then s.cal.vmax else s.reg Reg.vledMaxMv) + 500) then s
  else (((s.sinksOff.railOff 4).calAbort 5).setActive 0x17).capture 0x17 0 mv

/-- VLED_BELOW_MAX: after a trip, VLED_SNS is back at or below VLED_MAX_MV. -/
def State.belowMax (s : State) (mv : Nat) : State :=
  if bit s.belay.active 0x17 && decide (mv ≤ s.reg Reg.vledMaxMv) then s.clearActive 0x17 else s

/-- DRAUGHT_UV: VLED_SNS has stayed below the setpoint − 300 mV for 1 ms, or missed VLED_INIT_MV by 200 mV 1,000 µs after DEN
rose; in a sink sequence it is VLED_MAX_MV that the ramp goes to (DEDUCED, log 88). The firebox keeps regulating. -/
def State.draughtUv (s : State) (mv : Nat) : State :=
  let st := s.reg Reg.draughtState
  let init := if s.cal.run.isSome then s.cal.vmax else s.reg Reg.vledInitMv
  let low := (st == 2 || st == 3) && decide (mv + 300 < s.reg Reg.vledSetMv)
  let missed := st == 1 && (decide (mv + 200 < init) || decide (init + 200 < mv))
  if s.draughtOn && (low || missed) then s.capture 0x18 0 mv else s

/-- The switching cycle that phase `i` of `n` is in at `t` ns, at `khz`; cycles count from the local clock's start (DESIGN CHOICE,
log 87). -/
def phaseCycle (t khz n i : Nat) : Nat := (t * khz * n + (n - i) * 1000000) / (1000000 * n)

/-- PHASE_CURRENT_LIMIT: DCS of `phase` exceeds ILIM_MV, and its on-pulse ends for the rest of the switching cycle (R231). -/
def State.phaseLimit (s : State) (phase mv : Nat) : State :=
  let o := s.pins.out
  let c := phaseCycle s.clock.cclk o.khz o.phases phase
  if s.draughtOn && s.fbx.den && decide (phase < o.phases) && decide (s.reg Reg.ilimMv < mv) &&
      assocGet s.fbx.phaseCut phase != some c then
    ({ s with fbx := { s.fbx with phaseCut := assocSet s.fbx.phaseCut phase c } }).send (.phaseEnd phase)
  else s

/-- The voltages of the DRAUGHT objects are resolved, with a clamp record for each field changed (R234). -/
def State.draughtResolve (s : State) : State :=
  let lo := s.reg Reg.vledMinMv
  let hi := s.reg Reg.vledMaxMv
  let s := if hi < lo then (s.setReg Reg.vledMaxMv lo).clamped 0x7100 5 (3, 0) 0 hi lo else s
  let hi := s.reg Reg.vledMaxMv
  let init := s.reg Reg.vledInitMv
  let init' := clampNat lo hi init
  let s := if init' = init then s else (s.setReg Reg.vledInitMv init').clamped 0x7100 6 (3, 0) 0 init init'
  if hi < s.reg Reg.vledSetMv ∧ s.fbx.rampAt.isNone ∧ s.cal.run.isNone then s.setReg Reg.vledSetMv hi else s

/-! ### The thermistor law (R236) -/

/-- 2^64, the scale of the logarithms below. -/
abbrev lnOne : Int := 18446744073709551616

/-- Twice the area tangent of `n / d`, for 0 ≤ n / d ≤ 1 / 3, scaled by 2^64: `fuel` terms of its series. -/
def atanh2 : Nat → Nat → Int → Int → Int
  | 0, _, _, _ => 0
  | fuel + 1, k, term, sq => 2 * term / (2 * k + 1) + atanh2 fuel (k + 1) (term * sq / lnOne) sq

/-- The natural logarithm of `n / d` between 1 and 2, scaled by 2^64. -/
def lnUnit (n d : Nat) : Int :=
  let y : Int := ((n : Int) - d) * lnOne / ((n : Int) + d)
  atanh2 30 0 y (y * y / lnOne)

/-- The natural logarithm of `n`, scaled by 2^64. -/
def lnNat (n : Nat) : Int := (n.log2 : Int) * lnUnit 2 1 + lnUnit n (2 ^ n.log2)

/-- θ in 1/16 °C of a thermistor of `rt` mΩ, NOM_OHMS `nom` and BETA `beta` (R236); none where the law gives no positive
temperature. -/
def thetaOf (nom beta rt : Nat) : Option Int :=
  let l := lnNat rt - lnNat (nom * 1000)
  let d : Int := 20 * beta * lnOne + 5963 * l
  if d ≤ 0 then none else some (roundDiv (954080 * beta * lnOne - 43704 * d) (10 * d).toNat)

/-! ### Sampling (R236, R237) -/

/-- The TEMPCOMP section. -/
def State.tempSec (s : State) : Bytes := s.activeSec 0x52

/-- The NTC entry of input `i`, and the colour entry of colour `c` (Table 7.7). -/
def State.ntcEntry (s : State) (i : Nat) : Bytes := slice s.tempSec (16 + 8 * i) 8
def State.colourEntry (s : State) (c : Nat) : Bytes := slice s.tempSec (80 + 136 * c) 136

/-- NTC_TEMP of input `i`, when it is valid. -/
def State.ntcTheta (s : State) (i : Nat) : Option Int :=
  let v := s.reg (Reg.ntcTemp i)
  if v = 0x8000 then none else some (toSigned 2 v)

/-- The board temperature of colour `c`: the mean or the maximum of its valid inputs; it stays as it is without one (R237). -/
def State.colourTheta (s : State) (c : Nat) : State :=
  let e := s.colourEntry c
  let l := (List.range 8).filterMap fun i => if bit (field e 0 1) i then s.ntcTheta i else none
  match l with
  | [] => s
  | a :: r =>
    let v := if field e 1 1 = 1 then r.foldl max a else l.sum / (l.length : Int)
    s.setReg (Reg.colourTemp c) (ofSigned 2 v)

/-- EV52 when a valid input exceeds TEMP_WARN_C, again only after every input has fallen 2 °C below it (R237). -/
def State.tempWarn (s : State) : State :=
  let top := toSigned 2 (s.reg Reg.tempWarnC) * 16
  let hot := (List.range 8).find? fun i => (s.ntcTheta i).any fun t => decide (top < t)
  let cool := (List.range 8).all fun i => (s.ntcTheta i).all fun t => decide (t ≤ top - 32)
  match hot with
  | some i =>
    if s.fbx.warned then s
    else
      let s := { s with fbx := { s.fbx with warned := true } }
      s.raise 52 (beBytes 1 i ++ beBytes 2 (s.reg (Reg.ntcTemp i)))
  | none => if cool then { s with fbx := { s.fbx with warned := false } } else s

/-- An input whose average lies outside 100 Ω to 1,000,000 Ω is invalid: one record of NTC_INPUT as it becomes so. -/
def State.ntcInvalid (s : State) (i : Nat) : State :=
  let was := bit s.fbx.ntcBad i
  let s := ({ s with fbx := { s.fbx with ntcBad := setBit s.fbx.ntcBad i } }).setReg (Reg.ntcTemp i) 0x8000
  if was then s else (s.setActive 0x1A).capture 0x1A i 0

/-- An input reads a temperature, its offset added (R256). -/
def State.ntcValid (s : State) (i : Nat) (t : Int) : State :=
  let bad := clearBit s.fbx.ntcBad i
  let v := clampInt (-32767) 32767 (t + s.cal.applied.ntcOff.getD i 0)
  let s := ({ s with fbx := { s.fbx with ntcBad := bad } }).setReg (Reg.ntcTemp i) (ofSigned 2 v)
  if bad = 0 then s.clearActive 0x1A else s

/-- NTC_SAMPLE of input `i`: `rt` is its resistance in mΩ against the nominal bias resistor; R_BIAS scales it (R236, R256). The last
eight samples are averaged. -/
def State.ntcSample (s : State) (i rt : Nat) : State :=
  let e := s.ntcEntry i
  if !s.domOn 8 || decide (8 ≤ i) || !bit (field e 6 1) 0 then s
  else
    let r := rt * s.cal.applied.rBias / 10000000
    let l := (r :: s.fbx.ntc.getD i []).take 8
    let avg := l.sum / l.length
    let s := { s with fbx := { s.fbx with ntc := s.fbx.ntc.set i l } }
    let s := if avg < 100000 ∨ 1000000000 < avg then s.ntcInvalid i
      else
        match thetaOf (field e 0 4) (field e 4 2) avg with
        | some t => s.ntcValid i t
        | none =>
          let d := s.drawInt
          d.2.ntcValid i d.1
    ((List.range 4).foldl State.colourTheta s).tempWarn

/-! ### Factors and weights (R238, R239) -/

/-- The value of a 32-point curve at θ, and whether it is clamped (R238). -/
def curveAt (p : Nat → Nat) (lo : Int) (step : Nat) (theta : Int) : Nat × Bool :=
  let d := theta - lo
  if d < 0 then (p 0, true)
  else if 31 * (step : Int) ≤ d ∧ d ≠ 31 * step then (p 31, true)
  else if d = 31 * step then (p 31, false)
  else
    let i := d.toNat / step
    let f := d.toNat % step
    (((p i : Int) + (((p (i + 1) : Int) - p i) * f + (step / 2 : Nat)) / (step : Int)).toNat, false)

/-- Gain and weight of colour `c`, and whether either is clamped. -/
def State.factorsOf (s : State) (c : Nat) : Nat × Nat × Bool :=
  let e := s.colourEntry c
  let theta := toSigned 2 (s.reg (Reg.colourTemp c))
  let lo := toSigned 2 (field e 4 2)
  let step := max 1 (field e 6 2)
  let g := curveAt (fun i => field e (8 + 2 * i) 2) lo step theta
  let w := curveAt (fun i => field e (72 + 2 * i) 2) lo step theta
  (g.1, unit16 w.1, g.2)

/-- One colour at a boundary, with EV53 at its first clamped result. -/
def State.colourTick (s : State) (c : Nat) : State :=
  let f := s.factorsOf c
  let s := (s.setReg (Reg.tFactor c) f.1).setReg (Reg.wFactor c) f.2.1
  if f.2.2 then
    let was := bit s.fbx.clamped c
    let s := ({ s with fbx := { s.fbx with clamped := setBit s.fbx.clamped c } }).incReg Reg.clamps
    if was then s else s.raise 53 (beBytes 1 c ++ beBytes 2 (s.reg (Reg.colourTemp c)))
  else { s with fbx := { s.fbx with clamped := clearBit s.fbx.clamped c } }

/-- The boundary: every T_c and w from the temperatures now available (R239); 1.0 and 0 with TC_ENABLE 0 or no TEMPCOMP section. -/
def State.tempTick (s : State) : State :=
  let on := s.flag Reg.tcEnable && !s.tempSec.isEmpty && s.domOn 8
  let s := if on then (List.range 4).foldl State.colourTick s
    else (List.range 4).foldl (fun (s : State) c => (s.setReg (Reg.tFactor c) 32768).setReg (Reg.wFactor c) 0) s
  let temps := (List.range 4).map fun c => s.reg (Reg.tFactor c)
  let weights := (List.range 64).filterMap fun k =>
    let c := field s.tempSec (624 + k) 1
    if on && decide (c < 4) then some (k, s.reg (Reg.wFactor c)) else none
  { s with buf := { s.buf with temps := temps, weights := weights } }

/-! ### Rows -/

/-- DRAUGHT_RAMP_END (R232). -/
def execDraughtRampEnd (s : State) : Host.Outcome State Fault Refusal := s.done s.rampEnd

/-- DRAUGHT_OV (R233). -/
def execDraughtOv (mv : Nat) (s : State) : Host.Outcome State Fault Refusal := s.done (s.draughtOv mv)

/-- DRAUGHT_UV (R233). -/
def execDraughtUv (mv : Nat) (s : State) : Host.Outcome State Fault Refusal := s.done (s.draughtUv mv)

/-- VLED_BELOW_MAX (R418). -/
def execVledBelowMax (mv : Nat) (s : State) : Host.Outcome State Fault Refusal := s.done (s.belowMax mv)

/-- PHASE_CURRENT_LIMIT (R231). -/
def execPhaseCurrentLimit (phase mv : Nat) (s : State) : Host.Outcome State Fault Refusal := s.done (s.phaseLimit phase mv)

/-- NTC_SAMPLE (R236). -/
def execNtcSample (input rt : Nat) (s : State) : Host.Outcome State Fault Refusal := s.done (s.ntcSample input rt)

end Sys2Proof.Machine
end

