-- ==== Sys2Proof/Machine/Calib.lean ====
section
/-! DEFINITION. Calibration (R249 to R260): runs, the results of their sequences, acceptance, the cairn record, and the eye
scan. -/

namespace Sys2Proof.Machine

/-! ### Runs (R250 to R254) -/

/-- May CAL_RUN of `v` be accepted now: 0, or the abort code it is rejected with (R250, R251). -/
def State.calRunCode (s : State) (v : Nat) : Nat :=
  if v = 0 ∨ 8 ≤ v then 0x0103
  else if s.mode.mode ≠ .staging then 0x0203
  else if s.cal.run.isSome ∨ s.cal.want ≠ 0 then 0x0401
  else 0

/-- An accepted CAL_RUN: pending results go, and the run waits for its boundary (R251). -/
def State.calRequest (s : State) (v : Nat) : State :=
  let s := { s with cal := { s.cal with want := v, pend := none, done := 0 } }
  ((s.setReg Reg.calState 1).setReg Reg.abortCause 0).cmdState Reg.calRun 1

/-- A port goes out of service for the latency sequence: LINK_STATE 3, and 256 test frames are stamped (R257, R304). -/
def State.calPort (s : State) (p : Nat) : State :=
  let s := s.portFall p 3
  (List.range 256).foldl (fun (s : State) i => s.stamp p { time := s.now, kind := 4, msg := 0, seq := i }) s

/-- Instants of Table 8.3 in ns from the start of the run: VLED_SNS is read, the row turns on, the sequence ends. -/
def calReadNs : Nat := 900000
def calLitNs : Nat := 1000000
def calSinkNs : Nat := 31820000

/-- The longest a port is out of service (R257), which the model takes (DESIGN CHOICE, log 88). -/
def calPortNs : Nat := 5000000

/-- Where the sink sequence and the NTC sequence of a run of `v` end, in ns from its start: sequences follow one another in the order
SINK, NTC, TSLAT (R251, R253, R256). -/
def calEnds (v : Nat) (soak : Bool) : Nat × Nat :=
  let sink := if bit v 0 then calSinkNs else 0
  (sink, sink + if bit v 1 then 20000000 + (if soak then 64000000 else 0) else 0)

/-- 1,000 µs: the row of CAL_ROW turns on in LINE_SCAN, and the sinks conduct in turn, every bank in parallel (Table 8.3). -/
def State.calLight (s : State) : State :=
  let t0 := s.now - (s.clock.cclk - s.cal.startAt)
  let at_ := t0 + calLitNs
  let till := t0 + calSinkNs
  let pin := if s.reg Reg.driveMode = 1 then some (s.cal.row, s.rowOn) else none
  let sinks := s.usedSinks ++ s.sparePairs.map Prod.snd
  ({ s with cal := { s.cal with lit := true }, fbx := { s.fbx with slotOn := some (s.cal.row, till) } }).send
    (.sinkRun pin at_ till (sinks.map fun x => (x, at_ + 160000 * (x % 96))))

/-- One port of the latency sequence returns to service when its time is over, and the next goes out (R257). -/
def State.calPortStep (s : State) : State :=
  let s := match s.cal.out with
    | none => s
    | some p =>
      if s.cal.portAt + calPortNs ≤ s.clock.cclk then
        { s.calReturn p with cal := { s.cal with out := none, portAt := s.cal.portAt + calPortNs } }
      else s
  match s.cal.out, s.cal.ports with
  | none, p :: r => { s.calPort p with cal := { s.cal with out := some p, ports := r } }
  | none, [] => { s with cal := { s.cal with done := setBit s.cal.done 2 } }
  | _, _ => s

/-- What a run has reached by now: the sinks' light, the end of each sequence, one port after another. -/
def State.calStep (s : State) : State :=
  match s.cal.run with
  | none => s
  | some v =>
    let t := s.clock.cclk - s.cal.startAt
    let ends := calEnds v s.cal.soak
    let s := if bit v 0 && !s.cal.lit && decide (calLitNs ≤ t) then s.calLight else s
    let s := if bit v 0 && !bit s.cal.done 0 && decide (ends.1 ≤ t) then
        { s.calDark with cal := { s.cal with done := setBit s.cal.done 0 } }
      else s
    let s := if bit v 1 && decide (ends.2 ≤ t) then { s with cal := { s.cal with done := setBit s.cal.done 1 } } else s
    if bit v 2 && decide (ends.2 ≤ t) then (List.range 4).foldl (fun (s : State) _ => s.calPortStep) s else s

/-- CAL_RUN_START: at the boundary the run starts, or aborts with cause 4 or 6 (R251 to R253). -/
def State.calStart (s : State) : State :=
  let v := s.cal.want
  if v = 0 || !s.atBoundary then s
  else if bit v 0 && (s.scanSec.isEmpty || s.reg Reg.driveMode == 0) then s.calAbort 4
  else if bit v 2 && s.reg Reg.calPorts % 8 == 0 then s.calAbort 6
  else
    let soak := s.flag Reg.ntcSoak
    let s := { s with cal := { s.cal with
      want := 0, run := some v, startAt := s.clock.cclk, done := 0, lit := false, soak := soak, vmax := s.reg Reg.vledMaxMv,
      row := s.reg Reg.calRow, full := (List.range 4).map fun c => s.reg (Reg.ifullUa c), out := none,
      ports := (List.range 3).filter fun p => bit v 2 && bit (s.reg Reg.calPorts) p, portAt := s.clock.cclk + (calEnds v soak).2 } }
    let s := if bit v 0 && s.draughtOn then
        { (s.setDen true).setReg Reg.draughtState 1 with fbx := { (s.setDen true).fbx with rampAt := some s.clock.cclk } }
      else s
    s.calStep

/-! ### Results (R253, R255 to R257) -/

/-- Trim of a sink in a set of results; neutral when none is listed. -/
def CalSet.trim (c : CalSet) (sink : Nat) : Nat × Int :=
  ((c.trims.find? fun t => t.1 == sink).map fun t => t.2).getD (32768, 0)

/-- `n / d` to the nearest, ties away from zero. -/
def roundQuot (n d : Int) : Int := if d < 0 then roundDiv (-n) d.natAbs else roundDiv n d.natAbs

/-- GAIN_TRIM and OFFSET_TRIM from pass 1, currents in pA; none where the slope is 0 and the formulas divide by it (R255). -/
def trimOf (full hi lo : Nat) : Option (Nat × Int) :=
  let ih := full * 1000000
  let il := ih / 16
  let rise : Int := (hi : Int) - lo
  if rise = 0 then none
  else
    let gain := clampInt 29491 36045 (roundQuot (32768 * ((ih : Int) - il)) rise)
    let num : Int := (il : Int) * rise - (lo : Int) * ((ih : Int) - il)
    some (gain.toNat, clampInt (-2000) 2000 (roundQuot num (1000 * rise)))

/-- The residual of one point, in 0.01 %. -/
def residual (target m : Nat) : Int := clampInt (-32767) 32765 (roundDiv (((m : Int) - target) * 10000) target)

/-- A sink's residual: its point of greater magnitude, the hi point on a tie. -/
def sinkResidual (full hi lo : Nat) : Int :=
  let ih := full * 1000000
  let a := residual ih hi
  let b := residual (ih / 16) lo
  if a.natAbs < b.natAbs then b else a

/-- Sinks the sink sequence calibrates, with their colours: used ones, and spares in the colour of their primary (R253). -/
def State.calSinks (s : State) : List (Nat × Nat) :=
  (s.usedSinks.map fun i => (i, s.sinkColour i)) ++ s.sparePairs.map fun p => (p.2, s.sinkColour p.1)

/-- Put a sink's result into a set. -/
def CalSet.put (c : CalSet) (sink : Nat) (trim : Nat × Int) (resid : Int) : CalSet :=
  { c with trims := (sink, trim.1, trim.2) :: c.trims.filter (fun t => t.1 != sink),
           resid := (sink, resid) :: c.resid.filter (fun t => t.1 != sink) }

/-- One sink of the sink sequence. A measurement that no command gives, and the trim of a sink with slope 0, are free values
(assumption log 3). -/
def State.calSink (m : CalMeas) (x : Nat × Nat) (r : CalSet × State) : CalSet × State :=
  let s := r.2
  let sink := x.1
  let full := s.cal.full.getD x.2 0
  let a : (Nat × Nat × Bool) × State := match m.pass1.find? fun p => p.1 == sink with
    | some p => (p.2, s)
    | none =>
      let h := s.drawWord 36
      let l := h.2.drawWord 36
      ((h.1, l.1, false), l.2)
  if a.1.2.2 then (r.1.put sink (s.cal.applied.trim sink) 0x7FFE, a.2)
  else
    let t : (Nat × Int) × State := match trimOf full a.1.1 a.1.2.1 with
      | some t => (t, a.2)
      | none =>
        let g := a.2.drawInt
        let o := g.2.drawInt
        (((clampInt 29491 36045 g.1).toNat, clampInt (-2000) 2000 o.1), o.2)
    let b : (Nat × Nat) × State := match m.pass2.find? fun p => p.1 == sink with
      | some p => (p.2, t.2)
      | none =>
        let h := t.2.drawWord 36
        let l := h.2.drawWord 36
        ((h.1, l.1), l.2)
    (r.1.put sink t.1 (sinkResidual full b.1.1 b.1.2), b.2)

/-- A number of a list of measurements, drawn where no command gives it (assumption log 3). -/
def State.measured_ (s : State) (l : List Int) (i : Nat) : Int × State :=
  match l[i]? with
  | some x => (x, s)
  | none => s.drawInt

/-- One NTC input of the NTC sequence (R256). -/
def State.calNtcOne (m : CalMeas) (r : List Int × State) (i : Nat) : List Int × State :=
  let s := r.2
  if s.cal.soak && bit (field (s.ntcEntry i) 6 1) 0 && (s.ntcTheta i).isSome then
    let x := s.measured_ m.ntc i
    (r.1 ++ [clampInt (-128) 128 (m.die - x.1)], x.2)
  else (r.1 ++ [s.cal.applied.ntcOff.getD i 0], s)

/-- The NTC sequence (R256). -/
def State.calNtc (s : State) (m : CalMeas) (c : CalSet) : CalSet × State :=
  let r := (List.range 8).foldl (State.calNtcOne m) (([] : List Int), s)
  ({ c with rBias := m.rBias, ntcOff := r.1 }, r.2)

/-- TSLAT_TX and TSLAT_RX of a port from the latency beyond the time-stamp point (R257). -/
def splitLatency (speed ps : Nat) : Nat × Nat :=
  let tx := (roundDiv ((ps : Int) * (match speed with | 0 => 46 | 1 => 48 | _ => 50)) 100).toNat
  (tx, ps - tx)

/-- One port of the latency sequence: `ports` are those of CAL_PORTS (R257). -/
def State.calTslatOne (m : CalMeas) (ports : List Nat) (r : List Nat × State) (p : Nat) : List Nat × State :=
  let s := r.2
  if ports.contains p then
    let d := s.measured_ (m.beyond.map Int.ofNat) p
    let x := splitLatency (s.reg (Reg.portSpeed p)) d.1.toNat
    (r.1 ++ [x.1, x.2], d.2)
  else (r.1 ++ [s.cal.applied.tslat.getD (2 * p) 0, s.cal.applied.tslat.getD (2 * p + 1) 0], s)

/-- The time-stamp latency sequence (R257). -/
def State.calTslat (s : State) (m : CalMeas) (ports : List Nat) (c : CalSet) : CalSet × State :=
  let r := (List.range 3).foldl (State.calTslatOne m ports) (([] : List Nat), s)
  ({ c with tslat := r.1 }, r.2)

/-- The instants of a run of `v` that are still to come pass in order, each with its effect. -/
def State.calFinish (s : State) (v : Nat) : State :=
  let ends := calEnds v s.cal.soak
  let l := (if bit v 0 then [calLitNs, ends.1] else []) ++ [ends.2] ++
    (if bit v 2 then (List.range 3).map fun i => s.cal.portAt - s.cal.startAt + (i + 1) * calPortNs else [])
  l.foldl (fun (s : State) t =>
    if s.cal.done == v then s else (s.reachCclk (s.cal.startAt + t)).calStep) s

/-- CAL_SEQUENCE_DONE: every sequence named has completed with measurements `m`; results become pending and EV55 follows, or the
run aborts for want of an LED rail (R252, R254). -/
def State.calDone (s : State) (m : CalMeas) : State :=
  match s.cal.run with
  | none => s
  | some v =>
    if bit v 0 && !s.draughtOn && decide (m.vled < 2500) then (s.reachCclk (s.cal.startAt + calReadNs)).calAbort 7
    else
      let ports := (match s.cal.out with | some p => [p] | none => []) ++ s.cal.ports
      let s := s.calFinish v
      let c : CalSet := { s.cal.applied with resid := if bit v 0 then [] else s.cal.applied.resid }
      let r := if bit v 0 then s.calSinks.foldl (fun r x => State.calSink m x r) (c, s) else (c, s)
      let r := if bit v 1 then r.2.calNtc m r.1 else r
      let r := if bit v 2 then r.2.calTslat m ports r.1 else r
      let s := { r.2 with cal := { r.2.cal with run := none, pend := some (v, r.1) } }
      ((s.setReg Reg.calState 2).cmdState Reg.calRun 2).raise 55 (beBytes 1 2 ++ beBytes 1 0 ++ beBytes 1 v)

/-! ### Figures of a set of results -/

/-- Residuals of bank `b` that count. -/
def CalSet.bankResid (c : CalSet) (b : Nat) : List Int :=
  (c.resid.filter fun p => p.1 / 96 == b && p.2 != 0x7FFE).map fun p => p.2

/-- BANK_RMS, to the nearest. -/
def CalSet.bankRms (c : CalSet) (b : Nat) : Nat :=
  match c.bankResid b with
  | [] => 0xFFFF
  | l => (isqrt (4 * (l.map fun x => x.natAbs * x.natAbs).sum / l.length) + 1) / 2

/-- BANK_WORST: the lower sink's on a tie. -/
def CalSet.bankWorst (c : CalSet) (b : Nat) : Nat :=
  match (List.range 96).filterMap fun i => (assocGet c.resid (96 * b + i)).filter fun x => x != 0x7FFE with
  | [] => 0x7FFF
  | a :: r => ofSigned 2 (r.foldl (fun x y => if x.natAbs < y.natAbs then y else x) a)

/-- SINK_RESID: 768 × I16. -/
def CalSet.residBytes (c : CalSet) : Bytes :=
  (List.range 768).flatMap fun i => beBytes 2 (match assocGet c.resid i with | some x => ofSigned 2 x | none => 0x7FFF)

/-- SINK_TRIMS: 768 × (GAIN_TRIM, OFFSET_TRIM). -/
def CalSet.trimBytes (c : CalSet) : Bytes :=
  (List.range 768).flatMap fun i => beBytes 2 (c.trim i).1 ++ beBytes 2 (ofSigned 2 (c.trim i).2)

/-- The results that VIEW shows. -/
def State.calView (s : State) : CalSet :=
  if s.reg Reg.view = 1 then (s.cal.pend.map Prod.snd).getD {} else s.cal.applied

/-! ### Acceptance (R259, R260) -/

/-- The parts of `c` that `v` names, the others of `old`. -/
def CalSet.merge (v : Nat) (c old : CalSet) : CalSet :=
  { trims := if bit v 0 then c.trims else old.trims, resid := if bit v 0 then c.resid else old.resid,
    ntcOff := if bit v 1 then c.ntcOff else old.ntcOff, rBias := if bit v 1 then c.rBias else old.rBias,
    tslat := if bit v 2 then c.tslat else old.tslat }

/-- CAL_ACCEPT at its boundary: every pending trim applies in one step, and the record waits for the cairn. Parts the run did not
name keep their trims, those too that wait for a topo. The flag says whether there was anything to accept. -/
def State.calAccept (s : State) : Bool × State :=
  match s.cal.pend with
  | none => (false, s)
  | some (v, c) =>
    let refs := (List.range 3).map fun k =>
      if bit v k then (s.reg Reg.calRefId, time80 s.now) else s.cal.refs.getD k (0, 0)
    let src := s.reg Reg.calSource ||| v
    let gen := (s.cal.gen + 1) % two32
    let due := s.cal.due.map (CalSet.merge v c)
    let k := due.getD (CalSet.merge v c s.cal.applied)
    let r : CalRec := { gen := gen, parts := src, refs := refs, trims := k.trims, ntcOff := k.ntcOff, rBias := k.rBias,
                        tslat := k.tslat }
    let s := { s with cal := { s.cal with applied := CalSet.merge v c s.cal.applied, due := due, pend := none, refs := refs, gen := gen },
                      cairn := { s.cairn with calWrite := some r } }
    (true, ((s.setReg Reg.calSource src).setReg Reg.appliedTick s.tickIdx).setReg Reg.calState 0)

/-- CAL_DISCARD at its boundary: a run aborts with cause 3, pending results are dropped. -/
def State.calDiscard (s : State) : State :=
  if s.cal.run.isSome || s.cal.want != 0 then s.calAbort 3
  else if s.cal.pend.isSome then ({ s with cal := { s.cal with pend := none } }).setReg Reg.calState 0
  else s

/-- MAGIC of a calibration record. -/
def calMagic : Nat := 0x4E58434C

/-- REF_ID and TIME80 of a part. -/
def refBytes (x : Nat × Nat) : Bytes := beBytes 16 x.1 ++ beBytes 10 x.2

/-- The 4,096 bytes of a calibration record (Table 8.7). Bytes the table reserves are 0. -/
def CalRec.bytes (r : CalRec) : Bytes :=
  let c : CalSet := { trims := r.trims }
  let b := beBytes 4 calMagic ++ beBytes 4 r.gen ++ beBytes 1 r.parts ++ beBytes 7 0 ++ refBytes (r.refs.getD 0 (0, 0)) ++
    beBytes 52 0 ++ refBytes (r.refs.getD 1 (0, 0)) ++ refBytes (r.refs.getD 2 (0, 0)) ++ c.trimBytes ++
    (r.ntcOff.flatMap fun x => beBytes 2 (ofSigned 2 x)) ++ beBytes 4 r.rBias ++ (r.tslat.flatMap fun x => beBytes 4 x) ++ beBytes 830 0
  b ++ beBytes 4 (crc32 b)

/-- The record a page holds, when it is valid: MAGIC and CRC are correct. -/
def calRecOf (b : Bytes) : Option CalRec :=
  if field b 0 4 ≠ calMagic then none
  else if field b 4092 4 ≠ crc32 (b.take 4092) then none
  else
    let ref := fun (o : Nat) => (field b o 16, field b (o + 16) 10)
    let trim := fun (i : Nat) => (field b (146 + 4 * i) 2, toSigned 2 (field b (148 + 4 * i) 2))
    some { gen := field b 4 4, parts := field b 8 1, refs := [ref 16, ref 94, ref 120],
           trims := (List.range 768).filterMap fun i => if trim i = (32768, 0) then none else some (i, trim i),
           ntcOff := (List.range 8).map fun i => toSigned 2 (field b (3218 + 2 * i) 2), rBias := field b 3234 4,
           tslat := (List.range 6).map fun i => field b (3238 + 4 * i) 4 }

/-- Flash address of calibration page `i`: the first two 4 KB pages of the cairn, which starts 2 MB below the end of the flash
(Table 3.1). Where in the cairn they stand is a DESIGN CHOICE (log 88). -/
def State.calPageAt (s : State) (i : Nat) : Nat := (s.part.flashMb - 2) * 1048576 + 4096 * i

/-- The record of page `i`. -/
def State.calRec (s : State) (i : Nat) : Option CalRec := calRecOf (s.flashBytes (s.calPageAt i) 4096)

/-- The page a record goes to: one not valid, or the older (R260). -/
def State.calPage (s : State) : Nat :=
  match s.calRec 0, s.calRec 1 with
  | none, _ => 0
  | some _, none => 1
  | some a, some b => if a.gen < b.gen then 0 else 1

/-- CAL_RECORD_WRITE_DONE: the record stands in the alternate page. -/
def State.calWritten (s : State) : State :=
  match s.cairn.calWrite with
  | none => s
  | some r =>
    let a := s.calPageAt s.calPage
    ({ s with cairn := { s.cairn with calWrite := none } }.flashErase a 4096).flashProgram a r.bytes

/-- The valid page with the higher GENERATION. -/
def State.newestRec (s : State) : Option CalRec :=
  match s.calRec 0, s.calRec 1 with
  | some a, some b => if a.gen < b.gen then some b else some a
  | some a, none => some a
  | none, b => b

/-- Boot: the calibration record of the cairn, when the cairn has been read, or factory trims (R260, R261). Latencies hold from here,
the other trims from the first boundary after a topo is accepted. -/
def State.calLoad (s : State) (read : Bool) : State :=
  let base : CalSet := { trims := s.part.trims, tslat := s.part.tslat }
  match if read then s.newestRec else none with
  | none => { s with cal := { applied := base } }
  | some r =>
    let c := CalSet.merge r.parts { trims := r.trims, ntcOff := r.ntcOff, rBias := r.rBias, tslat := r.tslat } base
    ({ s with cal := { applied := { base with tslat := c.tslat }, due := some c, refs := r.refs, gen := r.gen } }).setReg
      Reg.calSource r.parts

/-- The first boundary after a topo is accepted: the trims of the cairn apply in one step. -/
def State.calApplyDue (s : State) : State :=
  match s.cal.due with
  | none => s
  | some c => ({ s with cal := { s.cal with applied := c, due := none } }).setReg Reg.appliedTick s.tickIdx

/-! ### The eye scan (R258) -/

/-- EYE_SCAN of rope port `p`: the width; while the link is down EYE_W reads 0 whatever was scanned. -/
def State.eyeScan (s : State) (p width : Nat) : State :=
  if !s.ropeOn || decide (2 ≤ p) then s
  else s.setReg (if p = 0 then Reg.eyeWA else Reg.eyeWB) (if s.portUp p then min 64 width else 0)

/-! ### Rows -/

/-- CAL_RUN_START (R251). -/
def execCalRunStart (s : State) : Host.Outcome State Fault Refusal := s.done s.calStart

/-- CAL_SEQUENCE_DONE (R252). -/
def execCalSequenceDone (m : CalMeas) (s : State) : Host.Outcome State Fault Refusal := s.done (s.calDone m)

/-- CAL_RECORD_WRITE_DONE (R260). -/
def execCalRecordWriteDone (s : State) : Host.Outcome State Fault Refusal := s.done s.calWritten

/-- EYE_SCAN (R258). -/
def execEyeScan (port width : Nat) (s : State) : Host.Outcome State Fault Refusal := s.done (s.eyeScan port width)

end Sys2Proof.Machine
end

