-- ==== Sys2Proof/Machine/Power.lean ====
section
/-! DEFINITION. The power controller (R451 to R454, R476): which domains are needed, and how each is switched on and off. -/

namespace Sys2Proof.Machine

/-! ### What is needed -/

/-- Does the topo hold one of these sections? -/
def Topo.hasAny (t : Topo) (l : List Nat) : Bool := l.any fun id => (t.section? id).isSome

/-- The domains COMP, SCAN, EGRS, FBX_SINK and FBX_DRAUGHT a topo needs, as a mask (R453). -/
def Topo.domains (t : Topo) : Nat :=
  (if t.hasAny [0x20] then 16 else 0) + (if t.hasAny [0x30] then 32 else 0) +
    (if t.hasAny [0x45, 0x46, 0x48, 0x49] then 64 else 0) + (if t.hasAny [0x50] then 256 else 0) +
    (if t.hasAny [0x51] then 512 else 0)

/-- The domains of a topo that may be absent. -/
def topoDomains (t : Option Topo) : Nat := (t.map Topo.domains).getD 0

/-- The topo waiting: one that has passed its load checks and is neither in force, discarded nor failed (R453). -/
def State.waitingTopo (s : State) : Option Topo :=
  match s.topo.staged with
  | some t => some t
  | none => s.topo.cand

/-- NEEDED: the domains the mode, the active topo and the waiting topo require (Table 16.6). -/
def State.neededMask (s : State) : Nat :=
  match s.mode.mode with
  | .reset =>
    match s.mode.boot with
    | .unpowered | .held => 1
    | .tested | .running => 11
    | .rom | .download | .hold | .verified | .failed => 3
  | .roping => 15
  | .staging | .onShow | .holdover | .dark => 0x8F ||| topoDomains s.topo.active ||| topoDomains s.waitingTopo

/-- The domains domain `d` depends on (Table 16.5). -/
def domainDeps (d : Nat) : List Nat :=
  match d with
  | 1 => [0]
  | 2 | 5 | 6 | 7 => [3]
  | 3 => [1]
  | 4 => [3, 7]
  | 8 => [5]
  | 9 => [8]
  | _ => []

/-- The domains in switching order (Table 16.5). -/
def domainOrder : List Nat := [0, 1, 3, 2, 7, 4, 5, 6, 8, 9]

/-- DOMAIN_STATE of domain `d` (Table 16.4). -/
def State.domState (s : State) (d : Nat) : Nat := s.power.dom.getD d 0

/-- DOMAIN_STATE of `d` changes, with EV60 (R452). -/
def State.setDom (s : State) (d n : Nat) : State :=
  if s.domState d = n then s
  else ({ s with power := { s.power with dom := s.power.dom.set d n } }).raise 60 (beBytes 1 d ++ beBytes 1 n)

/-- May domain `d` start to switch on: needed, every domain it depends on ON, and OFF, in RET or FAILED? A FAILED DRAM waits
for its retry (R476). -/
def State.mayStart (s : State) (d : Nat) : Bool :=
  bit s.neededMask d && (domainDeps d).all s.domOn && [0, 3, 5].contains (s.domState d) && !(d == 7 && s.domState d == 5)

/-- Domain `d` starts to switch on. -/
def State.startDomain (s : State) (d : Nat) : State :=
  let s := { s with power := { s.power with since := s.power.since.set d s.clock.cclk } }
  s.setDom d 1

/-- DOMAIN_SWITCH_ON: the domains that are ready start in table order, 10 µs apart (R452). -/
def State.domainOn (s : State) (d : Nat) : State :=
  let first := domainOrder.find? fun x => s.mayStart x && s.domState x != 5
  if s.alive && s.mayStart d && (s.domState d == 5 || first == some d) then
    let prev := (domainOrder.filter fun x => s.domState x == 1).map fun x => s.power.since.getD x 0 + 10000
    (s.reachCclk (prev.foldl max 0)).startDomain d
  else s

/-! ### Results of switching on -/

/-- The firebox as FBX_SINK switches on: both frame stores 0, every lamp UNKNOWN or UNUSED (R247). -/
def State.fireboxCleared (s : State) : State :=
  { s with fbx := { s.fbx with active := [], inactive := [], copy := 0, on := false, status := [], counts := [], seen := [],
                               probed := [], held := [], spares := [], bankOff := 0 } }

/-- The boot load starts, or stays waiting, once PD7 DRAM is ON (R51, R84): SELECT_SLOT first, then the other slot. -/
def State.bootLoad (s : State) : State :=
  if s.topo.bootWait && s.domOn 7 && s.topo.load.isNone then
    let slot := s.reg Reg.selectSlot
    let s := { s with topo := { s.topo with bootWait := false,
                                            load := some { slot := slot, boot := true, other := some (3 - slot), since := s.clock.cclk } } }
    s.setReg Reg.candState (if s.mode.mode == .staging then s.reg Reg.candState else 1)
  else s

/-- DRAM has been trained: its size is known (R476). -/
def State.dramTrained (s : State) : State :=
  let n := s.part.dramGb * 1073741824
  (s.setRegs [(Reg.dramInstalled, n), (Reg.dramUsable, n / 8 * 7)]).bootLoad

/-- DOMAIN_SWITCH_TIMEOUT: no power-good within 5 ms, so the domain is OFF and reads FAILED (R452, R476). -/
def State.switchTimeout (s : State) (d : Nat) : State :=
  if s.domState d = 1 then
    let s := s.reachCclk (s.power.since.getD d 0 + ms 5)
    let s := (s.setDom d 5).incReg Reg.switchFails
    if d = 7 then s.incReg Reg.dramTrainFails else s
  else s

/-- DOMAIN_POWER_GOOD: the domain is ON; its blocks start at the next tick boundary (R452, R454). A report later than 5 ms after the
start is none. -/
def State.powerGood (s : State) (d : Nat) : State :=
  if s.domState d = 1 then
    if s.power.since.getD d 0 + ms 5 < s.clock.cclk then s.switchTimeout d
    else
      let s := s.setDom d 2
      if d = 7 then s.dramTrained else if d = 8 then s.fireboxCleared else s
  else s

/-- Are the domains that depend on `d` OFF? -/
def State.dependentsOff (s : State) (d : Nat) : Bool :=
  domainOrder.all fun x => !(domainDeps x).contains d || s.domState x == 0 || s.domState x == 5

/-- May domain `d` start to switch off: not needed, on, and every domain that depends on it OFF (R452, R454)? -/
def State.mayStop (s : State) (d : Nat) : Bool :=
  !bit s.neededMask d && (s.domState d == 1 || s.domState d == 2) && s.dependentsOff d

/-- DOMAIN_SWITCH_OFF: a domain neither the mode nor a topo needs switches off, in the reverse of the switching order (R452, R454). -/
def State.domainOff (s : State) (d : Nat) : State :=
  if s.alive && domainOrder.reverse.find? s.mayStop == some d then
    let s := (s.setDom d 4).setDom d 0
    let s := if d = 5 then { s with comp := { s.comp with raster := { s.comp.raster with rsync := none } } }
      else if d = 6 then { s with pins := { s.pins with out := { s.pins.out with strands := List.replicate 32 0 } } }
      else if d = 8 then ({ s with pins := { s.pins with out := { s.pins.out with rows := none } } }).send (.rows none)
      else s
    if d = 8 then s.sinksOff else if d = 9 then s.railOff 0 else s
  else s

/-- DRAM_RETRY: once per second while NEEDED names DRAM (R476). -/
def State.dramRetry (s : State) : State :=
  if s.alive && s.domState 7 == 5 && bit s.neededMask 7 && s.domOn 3 then
    (s.reachCclk (s.power.since.getD 7 0 + nsPerSec)).startDomain 7
  else s

/-! ### Rows -/

/-- DOMAIN_SWITCH_ON (R452). -/
def execDomainSwitchOn (d : Nat) (s : State) : Host.Outcome State Fault Refusal := s.done (s.domainOn d)

/-- DOMAIN_POWER_GOOD (R452). -/
def execDomainPowerGood (d : Nat) (s : State) : Host.Outcome State Fault Refusal := s.done (s.powerGood d)

/-- DOMAIN_SWITCH_TIMEOUT (R452). -/
def execDomainSwitchTimeout (d : Nat) (s : State) : Host.Outcome State Fault Refusal := s.done (s.switchTimeout d)

/-- DOMAIN_SWITCH_OFF (R454). -/
def execDomainSwitchOff (d : Nat) (s : State) : Host.Outcome State Fault Refusal := s.done (s.domainOff d)

/-- DRAM_RETRY (R476). -/
def execDramRetry (s : State) : Host.Outcome State Fault Refusal := s.done s.dramRetry

end Sys2Proof.Machine
end

