-- ==== Sys2Proof/Machine/Reset.lean ====
section
/-! DEFINITION. Entry to RESET (R38, R46, R50, R264, R286, R385, R414, R435, R442, R450, R456, R464): what is cleared and what
is kept, and where the boot begins. -/

namespace Sys2Proof.Machine

/-- Registers that live in AON and keep their values through RESET: the rate trim, the pulse fields, the edge selections and
LIFE_USED (R286, R484), the rails and temperatures last measured. -/
def keptReg (k : Nat) : Bool :=
  k == Reg.rateTrim || k == Reg.lifeUsed || k == Reg.railMv || k == Reg.vddqMv || k == Reg.tjLogic ||
    ((List.range 4).any fun j => decide (Reg.key (0x2100 + j) 1 ≤ k) && decide (k ≤ Reg.key (0x2100 + j) 7)) ||
    ((List.range 4).any fun j => k == Reg.key (0x2110 + j) 1)

/-- The tick generator as RESET takes it back to 60/1 Hz: it goes on counting by R41 on the local clock. -/
def State.tickReset (s : State) : TickSt :=
  if s.reg Reg.tickNum = 60 ∧ s.reg Reg.tickDen = 1 ∧ s.tick.realign = false then
    { time := s.tick.time, nextTime := s.tick.nextTime, nextIdx := s.tick.nextIdx, cclk := s.tick.cclk }
  else
    let n := leastBoundary 60 1 (s.now + 1)
    { time := Machine.boundary 60 1 (n - 1), nextTime := Machine.boundary 60 1 n, nextIdx := n, cclk := s.clock.cclk }

/-- TICK_INDEX and TICK_BIAS as RESET leaves them. -/
def State.indexReset (s : State) : List (Nat × Nat) :=
  if s.reg Reg.tickNum = 60 ∧ s.reg Reg.tickDen = 1 ∧ s.tick.realign = false then
    [(Reg.tickIndex, s.reg Reg.tickIndex), (Reg.tickBias, s.reg Reg.tickBias), (Reg.tickTime, s.reg Reg.tickTime)]
  else
    let n := leastBoundary 60 1 (s.now + 1) - 1
    [(Reg.tickIndex, n), (Reg.tickTime, time80 (Machine.boundary 60 1 n))]

/-- The belay monitor after an entry to RESET: DARK outputs asserted, queues and slots empty; the DARK latch stays unless
RESET_N went low, and so does the count of restarts (R431, R435, R442). -/
def BelaySt.afterReset (b : BelaySt) (byPin : Bool) : BelaySt :=
  let c : BelaySt := { restartsAt := b.restartsAt }
  if byPin then { c with restartsAt := [] }
  else { c with latchDark := b.latchDark, hwCause := b.hwCause, active := b.active &&& 24, restartCap := b.restartCap,
                latch := if b.latchDark then b.latch else none }

/-- Where the boot begins for a value of BOOT_SEL (Table 2.7). -/
def bootOf (sel : Nat) : BootStage :=
  match sel with
  | 0 | 1 => .rom
  | 2 => .download
  | _ => .hold

/-- The cleared state that goes on in RESET: AON, the pins, the local clock, the cairn, the flash and the part itself are
kept; `ret` leaves HEARTH in RET (R456). -/
def State.cleared (s : State) (byPin ret : Bool) : State :=
  { (({} : State)) with
    regs := s.regs.filter fun p => keptReg p.1
    pins := { s.pins with out := {} }
    clock := s.clock
    tick := s.tickReset
    power := { s.power with dom := [2, 0, 0, if ret then 3 else 0, 0, 0, 0, 0, 0, 0], since := ({} : PowerSt).since,
                            warned := [] }
    belay := s.belay.afterReset byPin
    mode := { bootSel := s.mode.bootSel, boot := .held }
    fw := { s.fw with running := none }
    cairn := { s.cairn with calWrite := none }
    part := s.part
    tio := { pulses := s.tio.pulses.map fun p => { p with on := false } }
    flash := s.flash
    sent := s.sent
    freeCount := s.freeCount
    oracle := s.oracle
    pending := s.pending }

/-- Entry to RESET with LAST_CAUSE `cause`: everything but AON switches off, sessions, transfers, staged values and timed
writes end (R46, Table 2.4). -/
def State.enterReset (s : State) (cause : Nat) : State :=
  let s := s.xfer.open_.foldl State.eraseTransfer (s.sinksOff.setDen false)
  let idx := s.indexReset
  let ret := s.flag Reg.hearthRetEn && cause != 0 && (s.domState 3 == 2 || s.domState 3 == 3)
  let t := (s.cleared (cause == 1) ret).setRegs idx
  t.setReg Reg.lastCause cause

/-- A restart that no edge of RESET_N follows begins to boot at once, with BOOT_SEL as last sampled: CTRL switches on. -/
def State.bootAgain (s : State) : State :=
  { s with mode := { s.mode with boot := bootOf s.mode.bootSel, bootAt := s.clock.cclk }, power := { s.power with dom := s.power.dom.set 1 2 },
           lcl := {} }

end Sys2Proof.Machine
end

