-- ==== Sys2Proof/Machine/BelaySeq.lean ====
section
/-! DEFINITION. The belay sequencer (R421 to R431), its commands (R436, R439 to R441), and the pins and checks it watches
(R433 to R438). -/

namespace Sys2Proof.Machine

/-! ### Reactions -/

/-- Of two slots, the one the sequencer takes: higher severity, then one already under way, then the earlier capture, then
the lower class (R423). -/
def takeBefore (a b : FaultSlot) : FaultSlot :=
  if a.rcd.sev < b.rcd.sev then b
  else if b.rcd.sev < a.rcd.sev then a
  else if a.stage = 0 ∧ b.stage ≠ 0 then b
  else if b.stage = 0 ∧ a.stage ≠ 0 then a
  else if b.order < a.order ∨ (b.order = a.order ∧ b.rcd.cls < a.rcd.cls) then b
  else a

/-- The slot the sequencer works on next. -/
def State.topSlot (s : State) : Option FaultSlot :=
  match s.belay.slots with
  | [] => none
  | x :: r => some (r.foldl takeBefore x)

/-- Replace the slot of a class. -/
def State.setSlot (s : State) (x : FaultSlot) : State :=
  { s with belay := { s.belay with slots := s.belay.slots.map fun (y : FaultSlot) =>
      if y.rcd.cls == x.rcd.cls then x else y } }

/-- A reaction under way that another pre-empts carries PREEMPTED (R423). -/
def State.markPreempted (s : State) (x : FaultSlot) : State :=
  { s with belay := { s.belay with slots := s.belay.slots.map fun (y : FaultSlot) =>
      if y.stage != 0 && y.rcd.cls != x.rcd.cls then { y with rcd := { y.rcd with flags := y.rcd.flags ||| 4 } } else y } }

/-- QUEUE_LINK recovery: queue `n` is emptied, LOST rises by DEPTH + RETAINED, and its cells are withheld (Table 15.5). -/
def State.emptyQueue (s : State) (n : Nat) : State :=
  match s.queue? n with
  | none => s
  | some q =>
    let lost := min (q.lost + q.items.length) (two32 - 1)
    let s := s.setQueue n { q with items := [], retained := 0, mark := 0, lost := lost }
    { s with belay := { s.belay with leaked := s.belay.leaked + q.cells } }

/-- Class recovery (Table 15.5). The poisoned line is that of DETAIL; the flue link is re-synchronised before the next copy. -/
def State.recover (s : State) (r : FaultRec) : State :=
  match r.cls with
  | 0x07 => s.poisonAt (r.source == 1) r.detail
  | 0x0A => { s with fbx := { s.fbx with copy := if s.fbx.copy = 3 then 0 else s.fbx.copy } }
  | 0x11 => s.engineOut r.source
  | 0x12 => s.forceAll (.core r.source)
  | 0x13 => s.emptyQueue r.source
  | 0x1D => { s with fbx := { s.fbx with bankOff := setBit s.fbx.bankOff (r.source / 96) } }
  | _ => s

/-- Push a record to the fault queue: device queue 24, 256 records, OVERWRITE; the belay reserve of 64 cells serves when the
pool is empty (R426). A record lost raises EV32, as every queue that Table 13.2 lists does (R373). -/
def State.pushFault (s : State) (r : FaultRec) : State :=
  let q := s.belay.queue
  let full := decide (256 ≤ q.length)
  let put : State → State := fun s =>
    (({ s with belay := { s.belay with queue := (if full then q.drop 1 else q) ++ [r] } }).seeDepth 24 (min 256 (q.length + 1))).poolCheck
  let lost : State → State := fun s => (s.incReg Reg.faultLost).raiseLoss 32 24 1 (beBytes 2 24 ++ beBytes 4 1)
  if full then lost (put s)
  else if s.poolFree ≠ 0 then put s
  else if s.q.belayUsed < 64 then put { s with q := { s.q with belayUsed := s.q.belayUsed + 1 } }
  else lost s

/-- The reaction of slot `x` ends: its record is built and queued, and for DARK and RESTART the cairn write begins. A masked
class whose condition has ended meanwhile is captured again (R415, R424). -/
def State.endReaction (s : State) (x : FaultSlot) : State :=
  let r := { x.rcd with rseq := s.belay.rseq }
  let s := { s with belay := { s.belay with
    rseq := (s.belay.rseq + 1) % 65536, slots := s.belay.slots.filter fun y => y.rcd.cls != r.cls,
    cairnDue := if 2 ≤ r.reaction then some r else s.belay.cairnDue,
    restartDue := if r.reaction = 3 then some s.clock.cclk else s.belay.restartDue } }
  let s := s.pushFault r
  if bit r.flags 3 && bit s.belay.active r.cls && !bit s.belay.maskedCls r.cls then
    s.captureWith r.cls r.source r.detail false false
  else s

/-- One step of a reaction (Table 15.4): the snapshot, the recovery, or the record. -/
def State.reactionStep (s : State) : State :=
  match s.topSlot with
  | none => s
  | some x =>
    let s := s.markPreempted x
    if x.stage = 0 then s.setSlot { x with stage := 1 }
    else if x.stage = 1 then
      let s := s.setSlot { x with stage := 2 }
      s.recover x.rcd
    else s.endReaction x

/-- FAULT_REACTION: the sequencer works through `n` steps; between two of them a graver fault may have come in. -/
def State.reactionSteps : Nat → State → State
  | 0, s => s
  | n + 1, s => State.reactionSteps n s.reactionStep

/-- CAIRN_WRITE_DONE: the latch and the record are in the cairn (R424). -/
def State.cairnWritten (s : State) : State :=
  match s.belay.cairnDue with
  | none => s
  | some r =>
    { s with cairn := { s.cairn with latch := s.belay.latch, rcd := some r },
             belay := { s.belay with cairnDue := none, lastBoot := s.belay.latch } }

/-- Belay-initiated restarts within the last 600 s (R431). -/
def State.recentRestarts (s : State) : List Nat :=
  s.belay.restartsAt.filter fun t => decide (s.clock.cclk < t + 600 * nsPerSec)

/-- BELAY_RESTART: RESET once the cairn write has ended, or 250 ms after the reaction (R431). -/
def State.belayRestart (s : State) : State :=
  match s.belay.restartDue with
  | none => s
  | some t =>
    let s := if s.belay.cairnDue.isSome then s.reachCclk (t + ms 250) else s
    let l := s.recentRestarts ++ [s.clock.cclk]
    let s := { s with belay := { s.belay with restartsAt := l, restartCap := s.belay.restartCap || decide (3 ≤ l.length) } }
    (s.enterReset 12).bootAgain

/-! ### Commands -/

/-- FAULT_ACK: every record captured before this CCLK is acknowledged, and so are the events routed to FAULT_N that were raised
before it (R436, R448). -/
def State.faultAck (s : State) : State :=
  let now := some s.clock.cclk
  { s with belay := { s.belay with unackSig := s.belay.unackSig && s.belay.sigAt == now,
                                   unackDark := s.belay.unackDark && s.belay.darkAt == now },
           ev := { s.ev with fAcked := s.ev.fAcked ||| (s.routed Reg.routeF &&& (s.freshMask ^^^ (two64 - 1))) } }

/-- May the DARK outputs be released (R439)? -/
def State.darkReleasable (s : State) : Bool :=
  !s.belay.latchDark && !s.belay.unackDark && !(s.belay.slots.any fun x => decide (2 ≤ x.rcd.reaction)) && !s.activeSignals 2

/-- DARK_RELEASE (R439). -/
def State.darkRelease (s : State) : Bool × State :=
  if s.darkReleasable then (true, { s with belay := { s.belay with darkOut := false } }) else (false, s)

/-- FIRST_CLEAR: the first-fault latch is emptied (R440). -/
def State.firstClear (s : State) : State := { s with belay := { s.belay with latch := none } }

/-- FAULT_INJECT of a sequencer class (R441). -/
def State.faultInject (s : State) (c : Nat) : State :=
  (s.captureWith c 0 0 (s.maskedNow c) true).raise 62 (beBytes 1 c)

/-! ### Views -/

/-- PENDING_MASK. -/
def State.pendingFaults (s : State) : Nat := s.belay.slots.foldl (fun m x => setBit m x.rcd.cls) 0

/-- Default reaction of a class (Table 15.1). -/
def policyDefault (c : Nat) : Nat := regDefault (Reg.key 0x9010 c)

/-- The range of rail `n`, in mV, and its nominal value (Table 17.2); rail 7 stands for VDDQ_DDR. -/
def railRange (n : Nat) : Nat × Nat × Nat :=
  match n with
  | 0 => (7275, 7725, 7500)
  | 1 => (7760, 8240, 8000)
  | 2 => (8245, 8755, 8500)
  | 3 => (17100, 18900, 18000)
  | 4 => (31350, 34650, 33000)
  | 5 => (10185, 10815, 10500)
  | 6 => (47500, 52500, 50000)
  | _ => (4850, 5150, 5000)

/-- Highest Tj of the unit's grade, in 1/16 °C (Table 17.2). -/
def State.tjMax (s : State) : Int := if s.part.grade = 0 then 105 * 16 else 115 * 16

/-- Lowest Tj of the unit's grade, in 1/16 °C (Table 17.2). -/
def State.tjMin (s : State) : Int := if s.part.grade = 0 then 0 else -640

/-- Does a die read outside the range of Table 17.2 (R459)? The firebox die reads while FBX_SINK is ON. -/
def State.tjOutside (s : State) : Bool :=
  let out := fun (k : Nat) => decide (s.tjMax < toSigned 2 (s.reg k)) || decide (toSigned 2 (s.reg k) < s.tjMin)
  out Reg.tjLogic || (s.domOn 8 && s.reg Reg.tjFbx != 0x8000 && out Reg.tjFbx)

/-- GUARANTEE (R416). -/
def State.guaranteeBits (s : State) : Nat :=
  (if s.reg Reg.ropeMode == 0 && s.reg Reg.ringState == 1 &&
      (s.rope.beaconAt.isSome || s.reg Reg.headRole == 3) then 0 else 32) +
    (if ((List.range 32).any fun c => decide (5 ≤ c) && decide (s.policy c < policyDefault c)) then 16 else 0) +
    (if s.flag Reg.selftestEn then 0 else 8) + (if s.flag Reg.scrubEn then 0 else 4) +
    (if s.topo.active.isSome then 0 else 2) + (if s.power.outOf.isEmpty && !s.tjOutside then 0 else 1)

/-! ### Pins and checks -/

/-- DARK_N goes low (R438). -/
def State.darkPinLow (s : State) : State :=
  let s := { s with pins := { s.pins with darkN := false } }
  s.triggerDark 4

/-- DARK_N returns high (R438). -/
def State.darkPinHigh (s : State) : State := { s with pins := { s.pins with darkN := true } }

/-- The reference check of the firebox (Table 15.6): a deviation beyond 10 %, in units of 0.1 %, is FIREBOX_REF (R433,
R480). -/
def State.fireboxRef (s : State) (dev : Int) : State :=
  if !s.domOn 8 then s
  else if 100 < dev ∨ dev < -100 then (s.setActive 0x1E).capture 0x1E 0 (ofSigned 8 dev)
  else s.clearActive 0x1E

/-- A control core's heartbeat has been missing for 2 ms (R418, Table 15.5). -/
def State.coreWatchdog (s : State) (n : Nat) : State :=
  if s.alive && s.domOn 1 && decide (n < 4) then s.capture 0x12 n 0 else s

/-! ### Rows -/

/-- DARK_N_LOW (R438). -/
def execDarkNLow (s : State) : Host.Outcome State Fault Refusal := s.done s.darkPinLow

/-- DARK_N_HIGH (R438). -/
def execDarkNHigh (s : State) : Host.Outcome State Fault Refusal := s.done s.darkPinHigh

/-- CLOCK_FAIL (R434): the cross-check runs from the entry to ROPING (R442). -/
def execClockFail (_clock : Nat) (s : State) : Host.Outcome State Fault Refusal :=
  s.done (if s.alive then s.setDarkLatch 4 else s)

/-- BELAY_INTERNAL (R434): the lockstep compare runs from the entry to ROPING (R442). -/
def execBelayInternal (_unit : Nat) (s : State) : Host.Outcome State Fault Refusal :=
  s.done (if s.alive then s.setDarkLatch 3 else s)

/-- FAULT_PIN (R437): only while the unit drives the pin low. The class is active while the readback disagrees (Table 15.1); no row
tells that it agrees again, so it stays active until RESET (DEDUCED, log 93). -/
def execFaultPin (s : State) : Host.Outcome State Fault Refusal :=
  s.done (if s.alive && s.faultN then (s.setActive 0x1F).capture 0x1F 0 0 else s)

/-- FIREBOX_REF (R433). -/
def execFireboxRef (deviation : Int) (s : State) : Host.Outcome State Fault Refusal := s.done (s.fireboxRef deviation)

/-- CORE_WATCHDOG (R418). -/
def execCoreWatchdog (cpu : Nat) (s : State) : Host.Outcome State Fault Refusal := s.done (s.coreWatchdog cpu)

/-- FAULT_REACTION (R424). -/
def execFaultReaction (steps : Nat) (s : State) : Host.Outcome State Fault Refusal :=
  s.done (if s.alive then State.reactionSteps steps s else s)

/-- CAIRN_WRITE_DONE (R424). -/
def execCairnWriteDone (s : State) : Host.Outcome State Fault Refusal := s.done s.cairnWritten

/-- BELAY_RESTART (R431). -/
def execBelayRestart (s : State) : Host.Outcome State Fault Refusal := s.done s.belayRestart

end Sys2Proof.Machine
end

