-- ==== Sys2Proof/Machine/Boot.lean ====
section
/-! DEFINITION. From power-on to ROPING (R50, R51, R442, R461, R465), the supplies and the die temperatures (R455, R456, R460,
R462), and the life counter (R484). -/

namespace Sys2Proof.Machine

/-! ### The boot sequence -/

/-- The boot ROM starts with BOOT_SEL `sel`: CTRL switches on (R50, Table 2.8). -/
def State.bootStart (s : State) (sel : Nat) : State :=
  { s with mode := { s.mode with boot := bootOf sel, bootSel := sel, bootAt := s.clock.cclk }, power := { s.power with dom := s.power.dom.set 1 2 },
           lcl := {} }

/-- POWER_UP: AON runs with its clock at 0 s, and 2 ms after the last rail is in range the internal reset ends; the boot
starts when RESET_N has risen already (R264, R461). -/
def State.powerUp (s : State) : State :=
  if s.mode.boot == .unpowered then
    let s := { s with power := { s.power with dom := s.power.dom.set 0 2},
                      mode := { s.mode with boot := .held } }
    let s := (s.setReg Reg.lastCause 0).pass (ms 2)
    if s.pins.resetN then s.bootStart s.pins.bootSel else s
  else s

/-- RESET_N goes low past its filter (R465): RESET with LAST_CAUSE 1, and the DARK latch clears. -/
def State.resetLow (s : State) : State :=
  let s := { s with pins := { s.pins with resetN := false } }
  if s.mode.boot == .unpowered then s else s.enterReset 1

/-- RESET_N rises with BOOT_SEL at `sel` (R50): the boot starts, no sooner than 2 ms after the last rail has entered its range, unless a
supply still holds the unit in reset (R461). -/
def State.resetRise (s : State) (sel : Nat) : State :=
  if s.pins.resetN then s
  else
    let s := { s with pins := { s.pins with resetN := true, bootSel := sel % 4 } }
    if s.mode.boot == .held && s.power.outOf.isEmpty then (s.reachCclk (s.power.railsAt + ms 2)).bootStart (sel % 4) else s

/-- Has a step of Table 2.8 with a limit of `n` ms from the start of the boot taken longer? An image over the local port comes
when it comes: its boot has no such limits (assumption log 81). -/
def State.bootLate (s : State) (n : Nat) : Bool :=
  s.mode.bootSel != 2 && decide (s.mode.bootAt + ms n < s.clock.cclk)

/-- The image the boot ROM may run, with FW_RUNNING: `primaryOk` and `fallbackOk` are the verdicts of its signature check
(R50, R363). -/
def State.bootImage (s : State) (primaryOk fallbackOk : Bool) : Option (FwImg × Nat) :=
  let good := fun (i : Option FwImg) (ok : Bool) => i.filter fun x => x.valid && ok && decide (s.fw.floor ≤ x.secVer)
  match (if s.mode.bootSel = 0 then good s.fw.primary primaryOk else none) with
  | some i => some (i, 0)
  | none => (good s.fw.fallback fallbackOk).map fun i => (i, 1)

/-- FIRMWARE_VERIFY: no permitted image verified within 60 ms is BOOT_SIGNATURE (R51). -/
def State.firmwareVerify (s : State) (primaryOk fallbackOk : Bool) : State :=
  if s.mode.boot == .rom then
    match (if s.bootLate 60 then none else s.bootImage primaryOk fallbackOk) with
    | some (i, n) =>
      ({ s with fw := { s.fw with running := some i }, mode := { s.mode with boot := .verified } }).setRegs
        [(Reg.fwVersion, i.version), (Reg.fwRunning, n)]
    | none => s.bootFails 1
  else s

/-- The receive queues with the limits of Table 13.2, as HEARTH switches on (R385). -/
def State.hearthOn (s : State) : State :=
  let q : Queue := { hold := true, stage := 7, limit := 1024 }
  let s := { s with power := { s.power with dom := s.power.dom.set 3 2 },
                    q := { rx := List.replicate 8 q } }
  s.setRegs [(Reg.reservedCells, 2048), (Reg.poolMin, s.poolFree - 2048)]

/-- BOOT_SELF_TEST: HEARTH switches on and is tested with the belay monitor; a DARK latch still set stops the boot here
(R51, R435). -/
def State.selfTest (s : State) (pass : Bool) : State :=
  if s.mode.boot == .verified then
    let s := s.hearthOn
    if pass && !s.belay.latchDark && !s.bootLate 120 then { s with mode := { s.mode with boot := .tested } } else s.bootFails 2
  else s

/-- The registers that show figures of the part (R2, R292, R365). -/
def State.partRegs (s : State) : List (Nat × Nat) :=
  let m := s.part.macBase
  [(Reg.grade, s.part.grade), (Reg.serial, beNat s.part.serial), (Reg.rdmUid, s.part.rdmUid), (Reg.macBase, m),
   (Reg.eui64, m / 2 ^ 24 * 2 ^ 40 + 0xFFFE * 2 ^ 24 + m % 2 ^ 24), (Reg.portMacAddr 0, m), (Reg.portMacAddr 1, m + 1),
   (Reg.portMacAddr 2, m + 2), (Reg.fwFloor, s.fw.floor),
   (Reg.primaryVersion, ((s.fw.primary.filter FwImg.valid).map FwImg.version).getD 0)]

/-- What the cairn holds comes back: fields, position, prefix, keys, calibration, the last latch (R51, R260, R336, R366). -/
def State.cairnLoad (s : State) : State :=
  let c := s.cairn
  let s := (s.setRegs s.partRegs).setRegs c.fields
  let s := s.setReg Reg.prefixR c.prefixV
  let s := match c.position with
    | some (seg, pos) => s.setRegs [(Reg.storedPos, seg * 256 + pos), (Reg.ropedAt, c.ropedAt), (Reg.segment, seg),
                                    (Reg.addrState, 1)]
    | none => s
  let s := { s with ctl := { s.ctl with keys := c.keys }, belay := { s.belay with lastBoot := c.latch } }
  s.calLoad (!s.bootLate 130)

/-- CAIRN_READ: the cairn is read, a corrupt page counting as absent; ROPE starts to switch on and ROPING begins with the belay
monitor's DARK outputs released (R51, R442). A read that exceeds 130 ms counts as absent for this boot. A DARK_N already low is
recorded: its level acts in every mode but RESET (R438, Table 2.4). -/
def State.cairnRead (s : State) (corrupt : Bool) : State :=
  if s.mode.boot == .tested then
    let s := if corrupt then { s with cairn := {} } else s
    let s := if s.bootLate 130 then { ({ s with cairn := {} }).cairnLoad with cairn := s.cairn } else s.cairnLoad
    let s := { s with mode := { s.mode with mode := .roping, boot := .running, ropingAt := s.clock.cclk,
                                            darkRec := if s.pins.darkN then none else some 4 },
                      belay := { s.belay with darkOut := false }, lcl := {} }
    ((List.range 8).foldl (fun (s : State) n => s.setDe n true) (s.scrubPass false)).startDomain 2
  else s

/-! ### Supplies and temperatures -/

/-- The code of the rail that supply `n` belongs to: VDDQ_DDR, 7 here, is the second member of rail 5 (R455). -/
def railCode (n : Nat) : Nat := if n = 7 then 5 else n

/-- Is supply `n` outside its recommended range at `mv`? -/
def outOfRange (n mv : Nat) : Bool :=
  let r := railRange n
  decide (10 * mv < r.1) || decide (r.2.1 < 10 * mv)

/-- Is supply `n` beyond its warning band, the range narrowed by 2 % of nominal at each end (R455)? -/
def beyondBand (n mv : Nat) : Bool :=
  let r := railRange n
  decide (500 * mv < 50 * r.1 + r.2.2) || decide (50 * r.2.1 < 500 * mv + r.2.2)

/-- SUPPLY_OUT_OF_RANGE: the class SUPPLY; in RESET the unit is held, and a loss of VDD_CORE or VDD_SRAM ends RET (R455,
R456, R461). -/
def State.supplyOut (s : State) (n mv : Nat) : State :=
  if decide (7 < n) || !outOfRange n mv || s.mode.boot == .unpowered then s
  else
    let s := { s with power := { s.power with outOf := if s.power.outOf.contains n then s.power.outOf
                                                       else n :: s.power.outOf } }
    if s.alive then (s.setActive 5).capture 0x05 (railCode n) mv
    else
      let ret := s.domState 3 == 3 && decide (2 ≤ n)
      { s with mode := { s.mode with boot := .held },
               power := { s.power with dom := [2, 0, 0, if ret then 3 else 0, 0, 0, 0, 0, 0, 0] } }

/-- SUPPLY_BACK_IN_RANGE: SUPPLY stops being active once every rail is in range; in RESET the boot starts again 2 ms later
(R418, R461). -/
def State.supplyBack (s : State) (n mv : Nat) : State :=
  if outOfRange n mv then s
  else
    let s := { s with power := { s.power with outOf := s.power.outOf.filter (· != n),
                                              fbxLow := s.power.fbxLow && n != 6, railsAt := s.clock.cclk } }
    if !s.power.outOf.isEmpty then s
    else if s.alive then s.clearActive 5
    else if s.mode.boot == .held && s.pins.resetN then (s.pass (ms 2)).bootStart s.pins.bootSel
    else s

/-- VDD_DDRPHY in mV as last measured (RAIL_MV, rail 5); 0 before any measurement. -/
def State.ddrphyMv (s : State) : Nat := s.reg Reg.railMv / 65536 % 65536

/-- SUPPLY_WARN: EV61, once until the rail has been back inside its band for 10 ms. For rail 5 it carries VDD_DDRPHY when both
members are beyond their bands (R455). -/
def State.supplyWarn (s : State) (n mv : Nat) : State :=
  let c := railCode n
  let again := (assocGet s.power.inBand c).any fun t => decide (t + ms 10 ≤ s.clock.cclk)
  if decide (7 < n) || !beyondBand n mv || (s.power.warned.contains c && !again) then s
  else
    let s := { s with power := { s.power with warned := c :: s.power.warned.filter (· != c),
                                              inBand := assocDel s.power.inBand c } }
    let v := if n = 7 ∧ s.ddrphyMv ≠ 0 ∧ beyondBand 5 s.ddrphyMv then s.ddrphyMv else mv
    s.raise 61 (beBytes 1 c ++ beBytes 2 v)

/-- FBX_SUPPLY_LOW: VDD_FBX below 4.5 V turns sinks and rows off and drives DEN low at once (R462). -/
def State.fbxSupplyLow (s : State) : State :=
  let s := (s.sinksOff).railOff 0
  { s with power := { s.power with fbxLow := true } }

/-- The highest reading of a die, 0 the logic die and 1 the firebox die, as the objects show it (R460). -/
def State.dieRead (s : State) (die : Nat) (t : Int) : State :=
  let s := (s.setReg (if die = 0 then Reg.tjLogic else Reg.tjFbx) (ofSigned 2 t)).extreme false (toSigned 2) Reg.tjPeak (ofSigned 2 t)
  { s with power := { s.power with hourPeak := max s.power.hourPeak t } }

/-- OVER_TEMP: a die reads above its grade's maximum (R460). -/
def State.overTemp (s : State) (die : Nat) (t : Int) : State :=
  if s.alive && decide (s.tjMax < t) && decide (die < 2) then
    let s := s.dieRead die t
    let s := { s with power := { s.power with overTemp := setBit s.power.overTemp die } }
    (s.setActive 6).capture 0x06 die (ofSigned 8 t)
  else s

/-- OVER_TEMP_CLEAR: below the maximum less 10 °C; the class stops being active once that holds of both dies (R418). -/
def State.overTempClear (s : State) (die : Nat) (t : Int) : State :=
  if decide (t < s.tjMax - 160) && decide (die < 2) then
    let s := s.dieRead die t
    let s := { s with power := { s.power with overTemp := clearBit s.power.overTemp die } }
    if s.power.overTemp = 0 then s.clearActive 6 else s
  else s

/-- Rated hours of the band that holds a temperature in 1/16 °C (Table 17.18); none above 115 °C. -/
def ratedHours (t : Int) : Option Nat :=
  if t ≤ 95 * 16 then some 175200
  else if t ≤ 100 * 16 then some 120000
  else if t ≤ 105 * 16 then some 82000
  else if t ≤ 110 * 16 then some 56000
  else if t ≤ 115 * 16 then some 38000
  else none

/-- LIFE_HOUR: the share of the hour's band is added to LIFE_USED, kept in the cairn (R484). Above 115 °C the specification
rates no life, and the share is a free value (assumption log 3). -/
def State.lifeHour (s : State) : State :=
  if s.mode.boot == .unpowered then s
  else
    let s := s.reachCclk s.power.lifeAt
    let d := match ratedHours s.power.hourPeak with
      | some h => (1000000000000 / h, s)
      | none => s.drawWord 32
    let acc := s.power.lifeAcc + d.1
    let s := d.2
    let s := { s with power := { s.power with lifeAcc := acc, hourPeak := -32768, lifeAt := s.power.lifeAt + 3600 * nsPerSec } }
    let used := min (acc / 1000000) (two32 - 1)
    let s := s.setReg Reg.lifeUsed used
    { s with cairn := { s.cairn with fields := assocSet s.cairn.fields Reg.lifeUsed used } }

/-! ### Rows -/

/-- POWER_UP (R461). -/
def execPowerUp (s : State) : Host.Outcome State Fault Refusal := s.done s.powerUp

/-- RESET_N_LOW (R465). -/
def execResetNLow (s : State) : Host.Outcome State Fault Refusal := s.done s.resetLow

/-- RESET_N_RISE (R50). -/
def execResetNRise (bootSel : Nat) (s : State) : Host.Outcome State Fault Refusal := s.done (s.resetRise bootSel)

/-- FIRMWARE_VERIFY (R51). -/
def execFirmwareVerify (primaryOk fallbackOk : Bool) (s : State) : Host.Outcome State Fault Refusal :=
  s.done (s.firmwareVerify primaryOk fallbackOk)

/-- BOOT_SELF_TEST (R51). -/
def execBootSelfTest (pass : Bool) (s : State) : Host.Outcome State Fault Refusal := s.done (s.selfTest pass)

/-- CAIRN_READ (R51). -/
def execCairnRead (corrupt : Bool) (s : State) : Host.Outcome State Fault Refusal := s.done (s.cairnRead corrupt)

/-- SUPPLY_OUT_OF_RANGE (R455). -/
def execSupplyOutOfRange (rail mv : Nat) (s : State) : Host.Outcome State Fault Refusal := s.done (s.supplyOut rail mv)

/-- SUPPLY_WARN (R455). -/
def execSupplyWarn (rail mv : Nat) (s : State) : Host.Outcome State Fault Refusal := s.done (s.supplyWarn rail mv)

/-- SUPPLY_BACK_IN_RANGE (R455). -/
def execSupplyBackInRange (rail mv : Nat) (s : State) : Host.Outcome State Fault Refusal := s.done (s.supplyBack rail mv)

/-- FBX_SUPPLY_LOW (R462). -/
def execFbxSupplyLow (s : State) : Host.Outcome State Fault Refusal := s.done s.fbxSupplyLow

/-- OVER_TEMP (R460). -/
def execOverTemp (die : Nat) (temp : Int) (s : State) : Host.Outcome State Fault Refusal := s.done (s.overTemp die temp)

/-- OVER_TEMP_CLEAR (R418). -/
def execOverTempClear (die : Nat) (temp : Int) (s : State) : Host.Outcome State Fault Refusal :=
  s.done (s.overTempClear die temp)

/-- LIFE_HOUR (R484). -/
def execLifeHour (s : State) : Host.Outcome State Fault Refusal := s.done s.lifeHour

end Sys2Proof.Machine
end

