-- ==== Sys2Proof/Machine/Ends.lean ====
section
/-! DEFINITION. How sessions and DOMAIN transfers end (R348, R354), shared by every command that ends one. -/

namespace Sys2Proof.Machine

/-- A transfer leaves the list of open transfers. -/
def State.dropXfer (s : State) (h : Nat) : State :=
  { s with xfer := { s.xfer with open_ := s.xfer.open_.filter fun x => x.handle != h } }

/-- A transfer is abandoned: a target in memory keeps its value, a flash target is left erased and invalid, and FW_STATE says so
of a firmware image (R348). -/
def State.abandon (s : State) (t : Transfer) : State :=
  let s := (s.dropXfer t.handle).eraseTransfer t
  if t.write && t.ix == 0x1010 then s.setReg Reg.fwState 4 else s

/-- Abandon every transfer of `o`. -/
def State.abandonOf (s : State) (o : Origin) : State :=
  (s.xfer.open_.filter fun t => t.org == o).foldl (fun (s : State) t => s.abandon t) s

/-- The session with this ID. -/
def State.session (s : State) (id : Nat) : Option Session := s.ctl.sessions.find? fun x => x.id == id

/-- Waits of a party on spill queues end with it. -/
def Spill.dropPops (o : Origin) (q : Spill) : Spill :=
  { q with waits := q.waits.filter fun w => match w with
      | .pop p _ => p != o
      | .task _ => true }

/-- A session ends for a cause of Table 12.9: its transfers are abandoned, the injector it armed disarms, its carabiners are
force-released as BROKEN, and EV43 is raised (R354). -/
def State.endSession (s : State) (id cause : Nat) : State :=
  match s.session id with
  | none => s
  | some _ =>
    let o := Origin.session id
    let s := s.abandonOf o
    let s := if s.inj.armed && s.inj.by_ == id then s.disarm else s
    let s := s.forceAll (.session id)
    let s := { s with ctl := { s.ctl with sessions := s.ctl.sessions.filter (fun x => x.id != id), jobs := s.ctl.jobs.filter fun j => j.org != o },
                      carabs := { s.carabs with result := s.carabs.result.filter fun p => p.1 != o },
                      q := { s.q with spills := s.q.spills.map fun (p : Nat × Spill) => (p.1, p.2.dropPops o) } }
    s.raise 43 (beBytes 4 id ++ beBytes 1 cause)

/-- Every session ends with `cause`. -/
def State.closeAll (s : State) (cause : Nat) : State :=
  (s.ctl.sessions.map Session.id).foldl (fun (s : State) id => s.endSession id cause) s

/-- Every session of role `r` ends with `cause`. -/
def State.closeRole (s : State) (r : Role) (cause : Nat) : State :=
  ((s.ctl.sessions.filter fun x => x.role == r).map Session.id).foldl (fun (s : State) id => s.endSession id cause) s

/-- A roping result of a running unit that lost its position closes its network sessions (R330). -/
def State.afterRoping (r : Bool × State) : State := if r.1 then r.2.closeAll 3 else r.2

/-! ### Rows -/

/-- ROPING_RUN (R328). -/
def execRopingRun (s : State) : Host.Outcome State Fault Refusal := s.done (State.afterRoping s.ropingRun)

/-- ROPE_CALL (R328). -/
def execRopeCall (port hop callId seg : Nat) (recs : List CallRec) (s : State) : Host.Outcome State Fault Refusal :=
  s.done (State.afterRoping (s.ropeCall port hop callId seg recs))

/-- ROPE_CALL_END (R328). -/
def execRopeCallEnd (port callId seg : Nat) (recs : List CallRec) (s : State) : Host.Outcome State Fault Refusal :=
  s.done (State.afterRoping (s.ropeCallEnd port callId seg recs))

/-- CALL_TIMEOUT (R328). -/
def execCallTimeout (s : State) : Host.Outcome State Fault Refusal := s.done (State.afterRoping s.callTimeout)

/-- ROPE_SET (R330). -/
def execRopeSet (port callId seg segLen : Nat) (entries : List SetEntry) (s : State) : Host.Outcome State Fault Refusal :=
  s.done (State.afterRoping (s.ropeSet port callId seg segLen entries))

end Sys2Proof.Machine
end

