-- ==== Sys2Proof/Machine/Apply.lean ====
section
/-! DEFINITION. Applying values at a tick boundary (R55 to R60): one set of values, of one step of R59 or of OBJECT_INIT, enters
the registers as one change, and each block takes what follows from it. -/

namespace Sys2Proof.Machine

/-- The set with one value for each key, the later standing. -/
def dedupe (l : List (Nat × Nat)) : List (Nat × Nat) := l.foldl (fun a p => assocSet a p.1 p.2) []

/-- The value a key has in a set, or the register's. -/
def State.setOr (s : State) (l : List (Nat × Nat)) (k : Nat) : Nat := (assocGet l k).getD (s.reg k)

/-- The drive gate of R227: when T_DEAD_NS, T_PRE_NS, EMIT_WIN_NS or LC_EN of a set would bring a colour in use below DEPTH, no
field of 7000h of that set applies; SCAN_REJECTS counts it, and a reject record names the lowest subindex. -/
def State.driveGate (s : State) (l : List (Nat × Nat)) : List (Nat × Nat) × State :=
  let mine := l.filter fun p => p.1 / 256 == 0x7000
  let asked := mine.any fun p => p.1 == Reg.tDeadNs || p.1 == Reg.tPreNs || p.1 == Reg.emitWinNs || p.1 == Reg.lcEn
  if asked && !s.driveOk (s.setOr l Reg.tDeadNs) (s.setOr l Reg.tPreNs) (s.setOr l Reg.emitWinNs) (s.setOr l Reg.lcEn) then
    let sub := (mine.map fun p => p.1 % 256).foldl min 0xFF
    (l.filter fun p => p.1 / 256 != 0x7000, (s.incReg Reg.scanRejects).rejected 0x7000 sub (3, 0) 0x0107 3 0)
  else (l, s)

/-- The role of a session key slot. -/
def slotRole (n : Nat) : Role :=
  match n with
  | 0 => .observer
  | 1 => .operator
  | 2 => .installer
  | _ => .service

/-- A key slot takes a key: 32 zero bytes empty it; it goes to the cairn, and every session opened with it closes (R356, R357). -/
def State.applyKey (s : State) (n v : Nat) : State :=
  let k : Option Bytes := if v = 0 then none else some (beBytes 32 v)
  let s := { s with ctl := { s.ctl with keys := s.ctl.keys.set n k }, cairn := { s.cairn with keys := s.cairn.keys.set n k } }
  if n < 4 then s.closeRole (slotRole n) 2 else s

/-- Fields of 3100h that an ROPING run takes from the cairn: SEGMENT_CFG, PREFIX_CFG, ETHERTYPE and HEAD_PRIO (Table 11.10). -/
def ropeField (k : Nat) : Bool := k == Reg.segmentCfg || k == Reg.prefixCfg || k == Reg.ethertype || k == Reg.headPrio

/-- The layer a key belongs to. -/
def layerOf (k : Nat) : Option Nat :=
  if 0x410000 ≤ k ∧ k < 0x420000 ∧ k / 256 % 16 = 0 ∧ commitSubs.contains (k % 256) then some (k / 4096 % 16) else none

/-- The place of a key in a timing set (R150): the objects 5000h.01 to .0D, and the freeze window. -/
def timingSubOf (k : Nat) : Option Nat :=
  if k / 256 = 0x5000 ∧ timingSubs.contains (k % 256) then some (k % 256)
  else if k / 256 = 0x5040 ∧ freezeSubs.contains (0x40 + k % 256) then some (0x40 + k % 256)
  else none

/-- The cairn takes the value of a field it keeps. -/
def State.cairnField (s : State) (k v : Nat) : State :=
  { s with cairn := { s.cairn with fields := assocSet s.cairn.fields k v } }

/-- One value enters its place. -/
def State.applyOne (s : State) (k v : Nat) : State :=
  let s := if ((odFind (k / 256) (k % 256)).map Obj.cairn).getD false then s.cairnField k v else s
  if ropeField k then s
  else if Reg.keyObserver ≤ k ∧ k ≤ Reg.keyService then s.applyKey (k - Reg.keyObserver) v
  else if k = Reg.topoKey then s.applyKey 4 v
  else if 0x451005 ≤ k ∧ k ≤ 0x451F05 ∧ k % 256 = 5 then s.loopAppend (k / 256 - 0x4510) (beBytes 16 v)
  else
    let s := s.setReg k v
    match layerOf k, timingSubOf k with
    | some n, _ => s.pendLayer n [(k % 256, v)]
    | none, some sub =>
      let r := pendPut s.clock.cclk s.ras.pend s.ras.fresh [(sub, v)]
      s.setRas { s.ras with pend := r.1, fresh := r.2 }
    | none, none => s

/-- Does a set hold a value of object `ix`? -/
def touches (l : List (Nat × Nat)) (ix : Nat) : Bool := l.any fun p => p.1 / 256 == ix

/-- What new values of port `p`'s fields do: a field that needs training takes the port down, ENABLE holds or releases it (R290,
R291). -/
def State.portApplied (s : State) (l : List (Nat × Nat)) (p : Nat) : State :=
  let has := fun sub => l.any fun x => x.1 == Reg.key (0x3000 + 64 * p) sub
  let s := if has 0x10 then s.tsqClear p else s
  let s := if [0x01, 0x02, 0x05, 0x0B, 0x0C, 0x10].any has || (p == 2 && l.any fun x => x.1 == Reg.phyAddr) then s.portRetrain p
    else s
  if has 0x03 then s.portHold p else s

/-- What follows from a set once its values stand. -/
def State.afterSet (s : State) (l : List (Nat × Nat)) : State :=
  let s := if l.any fun p => decide (0x400000 ≤ p.1) && decide (p.1 < 0x660000) then s.noteChange else s
  let s := (List.range 3).foldl (fun (s : State) p => s.portApplied l p) s
  let s := (List.range 4).foldl (fun (s : State) k => if touches l (0x2100 + k) then s.pulseApply k else s) s
  let s := if touches l 0x7100 then s.draughtResolve else s
  let s := if touches l 0x7000 then s.driveFigures else s
  let s := (List.range 8).foldl (fun (s : State) n => if touches l (0x6200 + n) then s.dmxFit n else s) s
  if l.any fun p => p.1 == Reg.udpPort then s.closeAll 3 else s

/-- A set of values applies as one change. SCRUB_EN set to 1 begins both scrub passes again (DESIGN CHOICE, log 93). -/
def State.applySet (s : State) (l : List (Nat × Nat)) : State :=
  let r := s.driveGate (dedupe l)
  let t := (r.1.foldl (fun (s : State) p => s.applyOne p.1 p.2) r.2).afterSet r.1
  if t.flag Reg.scrubEn && !s.flag Reg.scrubEn then (t.scrubPass false).scrubPass true else t

/-- The values gathered from writes in a row apply as one change. -/
def State.flushSet (r : List (Nat × Nat) × State) : State := if r.1.isEmpty then r.2 else r.2.applySet r.1

/-! ### The steps of R59 -/

/-- Step 1: L writes completed in the previous tick. -/
def State.applyLive (s : State) : State :=
  let l := s.stage.live
  ({ s with stage := { s.stage with live := [] } }).applySet l

/-- Step 3: the commit set closed in the previous tick; LAST_COMMIT_TICK when it held anything (R58). -/
def State.applyCommit (s : State) : State :=
  if s.stage.commit.isEmpty then s
  else
    let l := s.stage.commit
    let s := ({ s with stage := { s.stage with commit := [] } }).applySet l
    s.setReg Reg.lastCommitTick s.tickIdx

/-- The boundary is over: writes that completed in its CCLK or while its work went on take the places of the new tick's (R55). -/
def State.lateIn (s : State) : State :=
  let g := s.stage
  { s with stage := { g with
      staged := dedupe (g.staged ++ g.late.staged)
      commit := dedupe (g.commit ++ g.late.commit)
      live := dedupe (g.live ++ g.late.live)
      cmds := g.cmds ++ g.late.cmds
      late := {} } }

/-- A timed commit closes the staging set and applies it at once (R59, R62). -/
def State.timedCommit (s : State) : State :=
  if s.stage.staged.isEmpty then s
  else
    let l := s.stage.staged
    let s := ({ s with stage := { s.stage with staged := [] } }).applySet l
    s.setReg Reg.lastCommitTick s.tickIdx

end Sys2Proof.Machine
end

