-- ==== Sys2Proof/Machine/Operands.lean ====
section
/-! DEFINITION. Operand forms: the encodings and lengths of values (R339, R340), the legal values of a field (R16, check 8)
and clamping to the nearest legal value (R17). -/

namespace Sys2Proof.Machine

/-- Type code (Table 12.1). -/
def Ty.code : Ty → Nat
  | .bool => 1
  | .u n => if n = 1 then 2 else if n = 2 then 3 else if n = 4 then 4 else 5
  | .i n => if n = 1 then 6 else if n = 2 then 7 else if n = 4 then 8 else 9
  | .f32 => 0x0A
  | .time80 => 0x0B
  | .str _ => 0x0C
  | .oct _ _ => 0x0D
  | .domain => 0x0E

/-- Length in bytes of a stored value: the declared maximum of a STR or OCT. -/
def Ty.size : Ty → Nat
  | .bool => 1
  | .u n => n
  | .i n => n
  | .f32 => 4
  | .time80 => 10
  | .str m => m
  | .oct _ hi => hi
  | .domain => 0

/-- Check 7 of R16: is a value of `n` bytes of legal length? -/
def Ty.lenOk (t : Ty) (n : Nat) : Bool :=
  match t with
  | .str m => decide (n ≤ m)
  | .oct lo hi => decide (lo ≤ n) && decide (n ≤ hi)
  | .domain => false
  | t => n == t.size

/-- The encoding part of check 8 (R340, R8). -/
def Ty.encOk (t : Ty) (v : Bytes) : Bool :=
  match t with
  | .bool => decide (beNat v ≤ 1)
  | .f32 => beNat v / 8388608 % 256 != 255
  | .time80 => time80Ok (beNat v)
  | .str _ => utf8Ok v.length v
  | _ => true

/-- The stored form of a value: STR is padded with 0x00 to its maximum (R340). -/
def Ty.store (t : Ty) (v : Bytes) : Nat :=
  match t with
  | .str m => beNat (slice v 0 m)
  | _ => beNat v

/-- A string without the padding at its end. -/
def unpad (v : Bytes) : Bytes := (v.reverse.dropWhile fun b => b == 0).reverse

/-- The wire form of stored value `v` (R339); a STR is returned without its padding. -/
def Ty.wire (t : Ty) (v : Nat) : Bytes :=
  match t with
  | .str m => unpad (beBytes m v)
  | t => beBytes t.size v

/-- What the ranges of some fields depend on: T_min, the streams, loops and bands a topo declares, and POOL_CELLS. -/
structure RangeCtx where
  tMin    : Nat
  streams : List Nat
  loops   : List Nat
  bands   : List Nat
  pool    : Nat
  deriving DecidableEq, Repr

/-- Is `v` a legal MOD_SOURCE (R94)? -/
def modSourceOk (bands : List Nat) (v : Nat) : Bool :=
  v == 0 || (decide (0x1000 ≤ v) && decide (v ≤ 0x1FFF)) ||
    (decide (0x0100 ≤ v) && decide (v ≤ 0x011F) && bands.contains (v - 0x0100))

/-- The list part of check 8: does `v` belong to the list its rule gives? Quantities always pass; they are clamped. -/
def Rng.listed (c : RangeCtx) (r : Rng) (v : Nat) : Bool :=
  match r with
  | .enum l => l.contains v
  | .span lo hi => decide (lo ≤ v) && decide (v ≤ hi)
  | .dyn .sourceRef => decide (v ≤ 1023) || c.streams.contains v || c.loops.contains v
  | .dyn .modSource => modSourceOk c.bands v
  | .dyn .paceStream => v == 0xFF || c.streams.contains v
  | .dyn .srcPos => decide (v ≤ 255) || v == 0xFFFF
  | .dyn .etherType => !([0x0800, 0x0806, 0x86DD, 0x8808, 0x88F7].contains v)
  | _ => true

/-- Low and high limit and step of a quantity; none when the field is not one. -/
def Rng.limits (c : RangeCtx) (r : Rng) : Option (Int × Int × Nat) :=
  match r with
  | .num lo hi step => some (lo, hi, step)
  | .dyn .emitPhase => some (0, (c.tMin : Int) - 4000, 1)
  | .dyn .emitWin => some (100000, (c.tMin : Int), 1)
  | .dyn .poolLow => some (0, (c.pool : Int), 1)
  | .dyn .etherType => some (0x0600, 0xFFFF, 1)
  | _ => none

/-- The legal value nearest to `v` between `lo` and `hi` on `step`, counted from `lo`; of two equally near, the one nearer
zero (R17). -/
def nearestLegal (lo hi : Int) (step : Nat) (v : Int) : Int :=
  if v < lo then lo
  else if hi < v then hi
  else
    let down := lo + (v - lo) / (max 1 step : Nat) * (max 1 step : Nat)
    let up := down + (max 1 step : Nat)
    if down = v ∨ hi < up then down
    else if v - down < up - v then down
    else if up - v < v - down then up
    else if down.natAbs ≤ up.natAbs then down else up

/-- The signed or unsigned number a stored value of type `t` means. -/
def Ty.num (t : Ty) (v : Nat) : Int :=
  match t with
  | .i n => toSigned n v
  | _ => (v : Int)

/-- The stored value of number `z`. -/
def Ty.ofNum (t : Ty) (z : Int) : Nat :=
  match t with
  | .i n => ofSigned n z
  | _ => z.toNat

/-- The value applied for written value `v`: reserved bits are ignored (R5), a quantity is clamped (R17). -/
def Obj.applied (c : RangeCtx) (o : Obj) (v : Nat) : Nat :=
  match o.rng with
  | .mask m => v &&& m
  | .dyn .lampOrAll => if v = 0xFFFF then v else min 49151 v
  | r =>
    match r.limits c with
    | some (lo, hi, step) => o.ty.ofNum (nearestLegal lo hi step (o.ty.num v))
    | none => v

/-- Was `v` clamped: does the applied value differ from it in a quantity? -/
def Obj.clamps (c : RangeCtx) (o : Obj) (v : Nat) : Bool :=
  match o.rng with
  | .mask _ => false
  | _ => o.applied c v != v

/-- GIVEN and APPLIED of a clamp record: sign- or zero-extended to 8 bytes (Table 12.12). -/
def Obj.wide (o : Obj) (v : Nat) : Nat := ofSigned 8 (o.ty.num v)

/-- The power domain of object `ix`'s block (R25): 0 AON, 1 CTRL, 2 ROPE, 3 HEARTH, 4 COMP, 5 SCAN, 6 EGRS, 7 DRAM, 8 FBX_SINK,
9 FBX_DRAUGHT. The sACN ingress objects go with chapter 06's egress builders, since R25 excepts 6500h and 6501h alone, and the
calibration objects with the firebox circuits that Table 1.1 documents in chapter 08 (DEDUCED, log 83). -/
def odDomain (ix : Nat) : Nat :=
  if ix = 0x1101 ∨ (0x2000 ≤ ix ∧ ix < 0x3000) ∨ ix = 0x9010 ∨ (0x9000 ≤ ix ∧ ix ≤ 0x9003) ∨ ix = 0x9100 ∨ ix = 0x9101 ∨
      ix = 0x9200 ∨ ix = 0x9201 then 0
  else if 0x3000 ≤ ix ∧ ix < 0x3400 then 2
  else if 0x4000 ≤ ix ∧ ix < 0x5000 then 4
  else if 0x5000 ≤ ix ∧ ix ≤ 0x6000 then 5
  else if 0x6500 ≤ ix ∧ ix ≤ 0x6501 then 1
  else if 0x6100 ≤ ix ∧ ix ≤ 0x6400 then 6
  else if ix = 0x7100 then 9
  else if 0x7000 ≤ ix ∧ ix < 0x7900 then 8
  else if ix = 0x8800 ∨ ix = 0x8801 ∨ (0x8A00 ≤ ix ∧ ix ≤ 0x8A02) ∨ (0x8C00 ≤ ix ∧ ix < 0x8C20) then 3
  else 1

end Sys2Proof.Machine
end

