-- ==== Sys2Proof/Machine/Records.lean ====
section
/-! DEFINITION. Records that commands carry as one OCT value (R184, R203, R403, R113, R397, R287): the lists their fields belong to
(R16, check 8) and the quantities clamped on arrival (R17). -/

namespace Sys2Proof.Machine

/-- Do the fields of a record command belong to their lists? `descs` is the descriptor count, `trailSpeed` the SPEED the TRAIL port
is to have. Other subindices are checked by their ranges alone. -/
def recordListed (descs trailSpeed ix sub : Nat) (v : Bytes) : Bool :=
  let k := Reg.key ix sub
  if k = Reg.groupSet then decide (field v 0 2 ≤ 1023)
  else if k = Reg.groupBind then
    decide (field v 0 2 ≤ 1023) && (decide (field v 2 2 ≤ 4095) || field v 2 2 == 0xFFFF) &&
      (decide (field v 4 1 ≤ 31) || field v 4 1 == 0xFF)
  else if k = Reg.fadeStart then decide (field v 0 2 ≤ 4095) && decide (field v 6 1 ≤ 4)
  else if k = Reg.fadeStop then decide (field v 0 2 ≤ 4095)
  else if k = Reg.rdmReq then decide (field v 0 1 ≤ 7) && decide (field v 12 1 ≤ 231) && v.length == 13 + field v 12 1
  else if k = Reg.prioSet then decide (field v 0 1 ≤ 1) && decide (field v 1 1 ≤ 10)
  else if k = Reg.acquire ∨ k = Reg.renew then decide (field v 0 1 ≤ 63)
  else if k = Reg.descCancel then decide (field v 0 4 < descs)
  else if 0x451005 ≤ k ∧ k ≤ 0x451F05 ∧ sub = 5 then decide (field v 0 2 ≤ 1023)
  else if 0x4140 ≤ ix ∧ ix ≤ 0x41F0 ∧ ix % 16 = 0 ∧ sub = 2 then field v 0 1 != 5
  else if k = Reg.portFec 2 then field v 0 1 == 0 || trailSpeed == 1
  else true

/-- Put `n` bytes of `v` at offset `off`. -/
def putField (b : Bytes) (off n v : Nat) : Bytes := b.take off ++ beBytes n v ++ b.drop (off + n)

/-- Clamp one field of a record into its range; its offset and the pair given and applied are noted when it changes. -/
def clampField (off n lo hi : Nat) (r : List (Nat × Nat × Nat) × Bytes) : List (Nat × Nat × Nat) × Bytes :=
  let v := field r.2 off n
  let w := clampNat lo hi v
  if v = w then r else (r.1 ++ [(off, v, w)], putField r.2 off n w)

/-- The quantities of a record command, clamped on arrival: DURATION, LEASE, PRIO, DWELL and RAMP. -/
def recordClamp (ix sub : Nat) (v : Bytes) : List (Nat × Nat × Nat) × Bytes :=
  let k := Reg.key ix sub
  if k = Reg.fadeStart then clampField 4 2 1 65535 ([], v)
  else if k = Reg.acquire ∨ k = Reg.renew then clampField 2 2 1 65535 ([], v)
  else if k = Reg.prioSet then clampField 2 1 0 15 ([], v)
  else if 0x451005 ≤ k ∧ k ≤ 0x451F05 ∧ sub = 5 then clampField 4 2 0 32767 (clampField 2 2 1 65535 ([], v))
  else ([], v)

end Sys2Proof.Machine
end

