-- ==== Sys2Proof/Machine/Cmd.lean ====
section
/-! DEFINITION. The commands of the object dictionary (R487): the values each takes, what an arrival is refused for, and what
each does when it is carried out, at its completion for class "—" and at its boundary for class L. -/

namespace Sys2Proof.Machine

/-- What carrying out a command gives: the abort code it is refused with or 0, the state its subindex reads, and the machine. -/
abbrev CmdOut := Nat × Nat × State

/-- Done. -/
def cmdOk (s : State) : CmdOut := (0, 2, s)
/-- Under way. -/
def cmdRun (s : State) : CmdOut := (0, 1, s)
/-- Refused with an abort code. -/
def cmdFail (c : Nat) (s : State) : CmdOut := (c, 3, s)
/-- Done when `r` carries no abort code. -/
def cmdOf (r : Nat × State) : CmdOut := if r.1 = 0 then cmdOk r.2 else cmdFail r.1 r.2

/-- Check 8 of R16 for the records that commands carry. -/
def State.recordOk (s : State) (ix sub : Nat) (v : Bytes) : Bool :=
  recordListed s.descCount (s.setOr (s.stage.late.live ++ s.stage.live) (Reg.portSpeed 2)) ix sub v

/-! ### What an arrival is refused for -/

/-- Is the mode the wrong one for a mode-bound command (R16, check 5)? CAL_RUN needs STAGING, CLEAR_POSITION STAGING or
ROPING (R251, R333). -/
def State.modeBound (s : State) (ix sub : Nat) : Bool :=
  let k := Reg.key ix sub
  (k == Reg.calRun && s.mode.mode != .staging) ||
    (k == Reg.clearPosition && s.mode.mode != .staging && s.mode.mode != .roping)

/-- Commands of one subindex that wait for their boundary. -/
def State.waitingCmds (s : State) (ix sub : Nat) : List LCmd :=
  (s.stage.cmds ++ s.stage.late.cmds).filter fun c => c.ix == ix && c.sub == sub

/-- Is the queue of waiting commands full (R184, R203, R487)? -/
def State.cmdsFull (s : State) (ix sub : Nat) (v : Bytes) : Bool :=
  let k := Reg.key ix sub
  if k = Reg.groupSet ∨ k = Reg.groupBind ∨ k = Reg.fadeStart ∨ k = Reg.fadeStop then
    decide (4096 ≤ (s.waitingCmds 0x6500 1).length + (s.waitingCmds 0x6500 2).length + (s.waitingCmds 0x6501 1).length +
      (s.waitingCmds 0x6501 2).length)
  else if k = Reg.rdmReq then
    let n := field v 0 1
    decide (64 ≤ (s.rdm n).queue.length + ((s.waitingCmds ix sub).filter fun c => field c.val 0 1 == n).length)
  else decide (64 ≤ (s.waitingCmds ix sub).length)

/-- A SWITCH on arrival (R85). -/
def State.switchRefused (s : State) : Nat :=
  let c := s.reg Reg.candState
  if c ≠ 2 ∧ c ≠ 3 then 0x0401
  else if c = 3 ∧ s.mode.mode ≠ .staging then 0x0203
  else if s.topo.switch ≠ .none then 0x0401
  else 0

/-- The abort code a write is refused with on arrival by the rule that owns it, or 0; `timed` for a timed write. A stream REWIND needs a
valid mark when it is issued (R108); a loop's is refused when the mark is lost (R113), and where there has been none it is refused at
its boundary (DESIGN CHOICE, log 85: R113 does not say when). -/
def State.arrivalRefused (s : State) (ix sub : Nat) (v : Bytes) (timed : Bool) : Nat :=
  let k := Reg.key ix sub
  if k = Reg.switch then s.switchRefused
  else if 0x3201 ≤ ix ∧ ix ≤ 0x3204 ∧ s.inj.armed then 0x0401
  else if timed then 0
  else if 0x4500 ≤ ix ∧ ix < 0x4508 ∧ sub = 0x0A then (if (s.comp.streams.getD (ix - 0x4500) {}).mark = 1 then 0 else 0x0702)
  else if 0x4510 ≤ ix ∧ ix < 0x4520 ∧ sub = 6 then (if (s.comp.loops.getD (ix - 0x4510) {}).mark = 2 then 0x0702 else 0)
  else if k = Reg.calRun then s.calRunCode (beNat v)
  else if k = Reg.calAccept then (if s.reg Reg.calState = 2 then 0 else 0x0401)
  else 0

/-! ### Carrying out -/

/-- LOAD (R84): it replaces any candidate; a topo that has passed its checks in STAGING and waits for its boundary stays. While a LOAD
made in STAGING is read, and after it failed, CAND_STATE reads 0: that load makes no candidate (DESIGN CHOICE, log 82). -/
def State.loadCmd (s : State) (slot : Nat) : CmdOut :=
  if s.topo.switch ≠ .none ∨ s.topo.load.isSome then cmdFail 0x0401 s
  else if !s.domOn 7 then cmdFail 0x0601 s
  else
    let s := { s with topo := { s.topo with cand := none,
                                            load := some { slot := slot, boot := false, other := none, since := s.clock.cclk } } }
    cmdRun ((s.setReg Reg.candTopoId 0).setReg Reg.candState (if s.mode.mode = .staging then 0 else 1))

/-- SWITCH at its boundary: the switch begins there, or the candidate is no longer switchable (R85). -/
def State.switchCmd (s : State) : CmdOut :=
  let c := s.reg Reg.candState
  if s.topo.cand.isSome && (c == 2 || (c == 3 && s.mode.mode == .staging)) then
    cmdRun { s with topo := { s.topo with switchBegin := true } }
  else cmdFail 0x0107 { s with topo := { s.topo with switch := .none } }

/-- Drop every waiting timed write (R64, R85). -/
def State.timedCancel (s : State) : State :=
  let had := s.stage.timed.any fun t => Reg.key t.ix t.sub == Reg.switch
  let s := { s with stage := { s.stage with timed := [] } }
  if had && s.topo.switch == .waiting then { s with topo := { s.topo with switch := .none } } else s

/-- COMMIT at its completion: the staging set joins the commit set (R58), the one of the boundary after next when the COMMIT
counts as after the boundary at hand (R55). -/
def State.commitCmd (s : State) : State :=
  let g := s.stage
  if s.pastBoundary then
    { s with stage := { g with staged := [], late := { g.late with
        staged := [], commit := dedupe (g.late.commit ++ g.staged ++ g.late.staged) } } }
  else { s with stage := { g with commit := dedupe (g.commit ++ g.staged), staged := [] } }

/-- SNAPSHOT: clock, tick and frame of one CCLK (R263). -/
def State.snapshotCmd (s : State) : State :=
  s.setRegs [(Reg.snapTime, time80 s.now), (Reg.snapTick, s.tickIdx), (Reg.snapTickTime, s.reg Reg.tickTime),
             (Reg.snapFrame, s.frame)]

/-- CLEAR_POSITION: the stored position is erased; in force from the next reset (R333). -/
def State.clearPosition (s : State) : State :=
  let s := { s with cairn := { s.cairn with position := none, ropedAt := 0 } }
  s.setRegs [(Reg.storedPos, 0xFFFF), (Reg.ropedAt, 0)]

/-- FW_FLOOR_RAISE (R365). -/
def State.floorRaise (s : State) : CmdOut :=
  match s.fw.running with
  | none => cmdFail 0x0107 s
  | some r =>
    let lower := fun (i : Option FwImg) => i.any fun x => x.valid && decide (x.secVer < r.secVer)
    if lower s.fw.primary || lower s.fw.fallback || decide (64 ≤ s.fw.raises) then cmdFail 0x0107 s
    else if r.secVer ≤ s.fw.floor then cmdOk s
    else cmdOk (({ s with fw := { s.fw with floor := r.secVer, raises := s.fw.raises + 1 } }).setReg Reg.fwFloor r.secVer)

/-- REQ_SHOW at its boundary: the request waits for its arming, or is refused outside STAGING and during a calibration run (R47,
R52, R252). -/
def State.reqShowCmd (s : State) (c : LCmd) : CmdOut :=
  if s.mode.mode = .staging ∧ s.cal.run.isNone ∧ s.cal.want = 0 then
    cmdRun { s with mode := { s.mode with showReqs := s.mode.showReqs ++ [c] } }
  else cmdFail 0x0107 s

/-- REQ_STAGING at its boundary: the change of mode is decided among the triggers of the boundary (R48). -/
def State.reqStagingCmd (s : State) (c : LCmd) : CmdOut :=
  if s.mode.mode.shows || s.mode.mode == .dark then
    cmdRun { s with mode := { s.mode with stageReqs := s.mode.stageReqs ++ [c] } }
  else cmdFail 0x0107 s

/-- ARM: 1 arms the rules, 0 disarms (R335). -/
def State.armCmd (s : State) (o : Origin) (v : Nat) : State :=
  match v, o with
  | 0, _ => s.disarm
  | _, .session id => s.armRules id
  | _, .localPort => s.armRules 0

/-- Commands of chapters 02, 03, 09, 11 and 12. -/
def State.runSystem (s : State) (c : LCmd) : CmdOut :=
  let k := Reg.key c.ix c.sub
  let v := beNat c.val
  if k = Reg.reqShow then s.reqShowCmd c
  else if k = Reg.reqStaging then s.reqStagingCmd c
  else if k = Reg.reqDark then cmdOk (s.triggerDark 2)
  else if k = Reg.commit then cmdOk s.commitCmd
  else if k = Reg.discard then cmdOk { s with stage := { s.stage with staged := [], late := { s.stage.late with staged := [] } } }
  else if k = Reg.timedCancel then cmdOk s.timedCancel
  else if k = Reg.load then s.loadCmd v
  else if k = Reg.switch then s.switchCmd
  else if k = Reg.snapshot then cmdOk s.snapshotCmd
  else if k = Reg.acceptStep then (if s.servo = 4 then cmdOk s.acceptStep else cmdFail 0x0107 s)
  else if k = Reg.clearPosition then cmdOk s.clearPosition
  else if k = Reg.rerope then
    (if s.reg Reg.headRole = 3 then cmdOk { s with rope := { s.rope with wantRun := true } } else cmdFail 0x0107 s)
  else if k = Reg.arm then cmdOk (s.armCmd c.org v)
  else if k = Reg.sessKill then (if (s.session v).isSome then cmdOk (s.endSession v 4) else cmdFail 0x0107 s)
  else if k = Reg.fwRestart then
    (if s.xfer.open_.any fun t => t.ix == 0x1010 then cmdFail 0x0107 s
     else cmdRun { s with mode := { s.mode with fwRestart := true } })
  else if k = Reg.fwFloorRaise then s.floorRaise
  else cmdOk s

/-- Commands of chapters 04, 06, 07 and 08. -/
def State.runMedia (s : State) (c : LCmd) : CmdOut :=
  let k := Reg.key c.ix c.sub
  let v := beNat c.val
  if 0x4500 ≤ c.ix ∧ c.ix < 0x4508 then
    (if c.sub = 9 then cmdOk (s.streamMark (c.ix - 0x4500)) else cmdOf (s.streamRewind (c.ix - 0x4500)))
  else if 0x4510 ≤ c.ix ∧ c.ix < 0x4520 then
    (if c.sub = 2 then cmdOk (s.loopStart (c.ix - 0x4510))
     else if c.sub = 3 then cmdOk (s.loopStop (c.ix - 0x4510))
     else cmdOf (s.loopRewind (c.ix - 0x4510)))
  else if k = Reg.groupSet then cmdOk (s.groupSet (field c.val 0 2) (field c.val 2 2))
  else if k = Reg.groupBind then cmdOk (s.groupBind c.val)
  else if k = Reg.fadeStart then cmdOk (s.fadeStart c.val)
  else if k = Reg.fadeStop then cmdOk (s.fadeStop (field c.val 0 2))
  else if k = Reg.rdmReq then (if s.rdmRoom (field c.val 0 1) then cmdOk (s.rdmReq c.val) else cmdFail 0x0401 s)
  else if k = Reg.discStart then cmdOk (s.discStart v)
  else if k = Reg.clear then cmdOk (s.lampClear v)
  else if k = Reg.calRun then (if s.calRunCode v = 0 then cmdRun (s.calRequest v) else cmdFail (s.calRunCode v) s)
  else if k = Reg.calAccept then (if s.calAccept.1 then cmdOk s.calAccept.2 else cmdFail 0x0401 s)
  else if k = Reg.calDiscard then cmdOk s.calDiscard
  else cmdOk s

/-- Commands of chapters 13, 14 and 15. -/
def State.runCore (s : State) (c : LCmd) : CmdOut :=
  let k := Reg.key c.ix c.sub
  let v := beNat c.val
  if k = Reg.taskCancel then cmdOf (s.taskCancel v)
  else if k = Reg.descCancel then cmdOf (s.descCancel v)
  else if k = Reg.prioSet then cmdOf (s.prioSet (field c.val 0 1) (field c.val 1 1) (field c.val 2 1))
  else if k = Reg.acquire then cmdOf (s.acquire c.org (field c.val 0 1) (field c.val 2 2))
  else if k = Reg.release then cmdOf (s.releaseCb c.org v)
  else if k = Reg.renew then cmdOf (s.renewCb c.org (field c.val 0 1) (field c.val 2 2))
  else if k = Reg.forceRelease then cmdOf (s.forceRelease v)
  else if 0x8C00 ≤ c.ix ∧ c.ix < 0x8C20 then
    let r := s.spillPush (c.ix - 0x8C00) c.val
    if r.1 then cmdOk r.2 else cmdFail 0x0401 r.2
  else if k = Reg.firstClear then cmdOk s.firstClear
  else if k = Reg.faultAck then cmdOk s.faultAck
  else if k = Reg.darkRelease then (if s.darkReleasable then cmdOk s.darkRelease.2 else cmdFail 0x0107 s)
  else if k = Reg.faultInject then cmdOk (s.faultInject v)
  else cmdOk s

/-- A command is carried out. -/
def State.runCmd (s : State) (c : LCmd) : CmdOut :=
  if c.ix < 0x4000 ∨ c.ix / 256 = 0x80 then s.runSystem c
  else if c.ix < 0x8000 then s.runMedia c
  else s.runCore c

/-- A command is carried out at its completion: its abort code, and the machine with the state its subindex reads (R487). -/
def State.cmdNow (s : State) (c : LCmd) : Nat × State :=
  let r := s.runCmd c
  (r.1, r.2.2.cmdState (Reg.key c.ix c.sub) r.2.1)

/-- A command is carried out at its boundary; a refusal makes a reject record with DETAIL 2 (R487). -/
def State.cmdAt (s : State) (c : LCmd) : State :=
  let r := s.runCmd c
  if r.1 = 0 then r.2.2.cmdState (Reg.key c.ix c.sub) r.2.1 else r.2.2.refuseAt c r.1

/-- Every command that waits for this boundary, in order of arrival. -/
def State.runLive (s : State) : State :=
  let l := s.stage.cmds
  l.foldl (fun (s : State) c => s.cmdAt c) { s with stage := { s.stage with cmds := [] } }

end Sys2Proof.Machine
end

