-- ==== Sys2Proof/Machine/TopoFmt.lean ====
section
/-! DEFINITION. The sections of a topo as a load walks them: lengths and counts (order 14 of Table 3.9), and the quantities
of every section with their ranges (order 15, R17, R40, R82). -/

namespace Sys2Proof.Machine

/-- A topo image under check: header figures and known sections by type, ascending. -/
structure Image where
  num  : Nat
  den  : Nat
  lat  : Nat
  w    : Nat
  secs : List (Nat × Bytes)
  deriving DecidableEq, Repr

/-- Section `ty`, empty when the image has none. -/
def Image.sec (m : Image) (ty : Nat) : Bytes := (assocGet m.secs ty).getD []

/-- Does the image hold section `ty`? -/
def Image.has (m : Image) (ty : Nat) : Bool := (assocGet m.secs ty).isSome

/-- T_min at the applied rate, the tick period of the ranges. -/
def Image.tMin (m : Image) : Nat := m.den * nsPerSec / max 1 m.num

/-- Section types of Table 3.3. -/
def knownTypes : List Nat :=
  [0x01, 0x02, 0x03, 0x10, 0x20, 0x21, 0x22, 0x23, 0x24, 0x25, 0x30, 0x40, 0x41, 0x42, 0x43, 0x44, 0x45, 0x46, 0x47, 0x48,
   0x49, 0x4A, 0x50, 0x51, 0x52, 0x53, 0x54, 0x60, 0x70]

/-! ### Walks -/

/-- Offsets of the OBJECT_INIT entries of a section (R80), and where a bad length stands; `fuel` bounds the walk by the
section's length. -/
def initWalk (b : Bytes) : Nat → Nat → List Nat × Option Nat
  | 0, _ => ([], none)
  | fuel + 1, off =>
    if b.length ≤ off then ([], none)
    else
      let next := off + 4 + ceilDiv (field b (off + 3) 1) 4 * 4
      if b.length < next then ([], some off)
      else
        let r := initWalk b fuel next
        (off :: r.1, r.2)

/-- Entries of a DEGAMMA table by TARGET: bytes after its head; none outside R136's list. -/
def lutBytes (target : Nat) : Option Nat :=
  if target ≤ 0x0F then some 4096 else if target = 0x20 then some 2048 else none

/-- Offsets of the tables of a DEGAMMA section. -/
def degammaWalk (b : Bytes) : Nat → Nat → List Nat × Option Nat
  | 0, _ => ([], none)
  | fuel + 1, off =>
    if b.length ≤ off then ([], none)
    else
      match lutBytes (field b off 1) with
      | none => ([], some off)
      | some n =>
        if b.length < off + 8 + n then ([], some off)
        else
          let r := degammaWalk b fuel (off + 8 + n)
          (off :: r.1, r.2)

/-- Offsets of the loop tables of a PLAYLIST section (R137). -/
def playlistWalk (b : Bytes) : Nat → Nat → List Nat × Option Nat
  | 0, _ => ([], none)
  | fuel + 1, off =>
    if b.length ≤ off then ([], none)
    else
      let next := off + 8 + 16 * field b (off + 4) 2
      if b.length < off + 8 ∨ b.length < next then ([], some off)
      else
        let r := playlistWalk b fuel next
        (off :: r.1, r.2)

/-- Offsets of the images of a SURFACES section (R139). -/
def surfacesWalk (b : Bytes) : Nat → Nat → List Nat × Option Nat
  | 0, _ => ([], none)
  | fuel + 1, off =>
    if b.length ≤ off then ([], none)
    else
      let stop := off + 32 + field b (off + 12) 4
      if b.length < off + 32 ∨ b.length < stop then ([], some off)
      else
        let r := surfacesWalk b fuel (ceilDiv stop 64 * 64)
        (off :: r.1, r.2)

/-- Where the loops of a PLAYLIST section stand. -/
def loopHeads (b : Bytes) : List Nat := (playlistWalk b b.length 0).1
/-- Where the tables of a DEGAMMA section stand. -/
def degammaHeads (b : Bytes) : List Nat := (degammaWalk b b.length 0).1
/-- Where the entries of an OBJECT_INIT section stand. -/
def initHeads (b : Bytes) : List Nat := (initWalk b b.length 0).1
/-- Where the images of a SURFACES section stand. -/
def surfHeads (b : Bytes) : List Nat := (surfacesWalk b b.length 0).1

/-- Offsets of the video, audio and band entries of a STREAMS section (R138). -/
def videoOffs (b : Bytes) : List Nat := (List.range (field b 0 1)).map fun i => 8 + 64 * i
/-- Audio entries. -/
def audioOffs (b : Bytes) : List Nat := (List.range (field b 1 1)).map fun i => 8 + 64 * field b 0 1 + 64 * i
/-- Band entries. -/
def bandOffs (b : Bytes) : List Nat :=
  (List.range (field b 2 1)).map fun i => 8 + 64 * (field b 0 1 + field b 1 1) + 32 * i

/-- Offsets of `n` entries of `size` bytes from `base` on. -/
def entryOffs (base size n : Nat) : List Nat := (List.range n).map fun i => base + size * i

/-! ### Order 14: lengths -/

/-- The length a section has by its own counts, with the offset of the count; none for a section that is walked. A DESCRIPTORS
section has no count: LOAD_WHERE of a length off its multiple of 64 is the start of the descriptor cut short (DESIGN CHOICE, log
82). -/
def secLength (m : Image) (ty : Nat) (b : Bytes) : Option (Nat × Nat) :=
  match ty with
  | 0x01 => some (32, 0)
  | 0x02 => some (32 + 16 * field b 4 4, 4)
  | 0x03 => some (b.length / 64 * 64, b.length / 64 * 64)
  | 0x20 => some (1088, 0)
  | 0x21 => some (7168, 0)
  | 0x24 => some (8 + 64 * (field b 0 1 + field b 1 1) + 32 * field b 2 1, 0)
  | 0x30 => some (64, 0)
  | 0x40 => some (10240, 0)
  | 0x41 => some (2097152, 0)
  | 0x42 => some (16 + 16 * field b 0 4, 0)
  | 0x43 => some (8 * field (m.sec 1) 16 4, 0)
  | 0x44 => some (16384, 0)
  | 0x45 => some (2048, 0)
  | 0x46 => some (256, 0)
  | 0x47 => some (16 + 8 * field b 0 2, 0)
  | 0x48 => some (96 + 16 * field b 64 2, 64)
  | 0x49 => some (16 + 16 * (field b 0 2 + field b 2 1), 0)
  | 0x4A => some (4096, 0)
  | 0x50 => some (6208, 0)
  | 0x51 => some (32, 0)
  | 0x52 => some (688, 0)
  | 0x53 => some (16, 0)
  | 0x54 => some (4 + 4 * field b 0 1, 0)
  | 0x60 => some (16 + 32 * field b 0 2, 0)
  | 0x70 => some (32, 0)
  | _ => none

/-- Where a section's length breaks its own counts (order 14). -/
def lengthFault (m : Image) (ty : Nat) (b : Bytes) : Option Nat :=
  match secLength m ty b with
  | some (n, at_) => if b.length = n then none else some at_
  | none =>
    match ty with
    | 0x10 => (initWalk b b.length 0).2
    | 0x22 => (degammaWalk b b.length 0).2
    | 0x23 => (playlistWalk b b.length 0).2
    | 0x25 => (surfacesWalk b b.length 0).2
    | _ => none

/-! ### Order 15: quantities -/

/-- A quantity of a section: `size` bytes at `off`, of which `width` bits from bit `shift` on hold it. -/
structure Quant where
  off    : Nat
  size   : Nat
  signed : Bool := false
  lo     : Int
  hi     : Int
  step   : Nat := 1
  shift  : Nat := 0
  width  : Nat := 0
  deriving DecidableEq, Repr

/-- An unsigned quantity. -/
def qu (off size lo hi : Nat) : Quant := { off := off, size := size, lo := lo, hi := hi }
/-- An unsigned quantity on a step. -/
def qs (off size lo hi step : Nat) : Quant := { off := off, size := size, lo := lo, hi := hi, step := step }
/-- A signed quantity. -/
def qi (off size : Nat) (lo hi : Int) : Quant := { off := off, size := size, signed := true, lo := lo, hi := hi }

/-- The same quantity `b` bytes further on. -/
def Quant.at_ (b : Nat) (q : Quant) : Quant := { q with off := b + q.off }

/-- The quantities of `l` in each entry that starts at an offset of `offs`. -/
def quantsAt (offs : List Nat) (l : List Quant) : List Quant := offs.flatMap fun o => l.map (Quant.at_ o)

/-- `n` like quantities, `size` bytes apart. -/
def quantRun (q : Quant) (n : Nat) : List Quant := (List.range n).map fun i => q.at_ (q.size * i)

/-- Value of a quantity in a section. -/
def Quant.value (q : Quant) (b : Bytes) : Int :=
  let v := field b q.off q.size
  if q.width = 0 then (if q.signed then toSigned q.size v else (v : Int)) else ((v / 2 ^ q.shift % 2 ^ q.width : Nat) : Int)

/-- A section with value `z` in a quantity. -/
def Quant.put (q : Quant) (b : Bytes) (z : Int) : Bytes :=
  let v := field b q.off q.size
  let v' := if q.width = 0 then ofSigned q.size z
    else v - v / 2 ^ q.shift % 2 ^ q.width * 2 ^ q.shift + z.toNat * 2 ^ q.shift
  patch b q.off (beBytes q.size v')

/-- One clamp of a load: section, offset, value given and value applied. -/
structure LoadClamp where
  ty      : Nat
  off     : Nat
  given   : Int
  applied : Int
  deriving DecidableEq, Repr

/-- Note a clamp: a field clamped twice is one clamp, from the value given to the last applied. -/
def noteClamp (l : List LoadClamp) (c : LoadClamp) : List LoadClamp :=
  if l.any fun x => x.ty == c.ty && x.off == c.off then
    l.map fun x => if x.ty == c.ty && x.off == c.off then { x with applied := c.applied } else x
  else l ++ [c]

/-- Clamp one quantity of section `ty`. -/
def clampQuant (ty : Nat) (r : List LoadClamp × Bytes) (q : Quant) : List LoadClamp × Bytes :=
  let v := q.value r.2
  let z := nearestLegal q.lo q.hi q.step v
  if z = v then r else (noteClamp r.1 { ty := ty, off := q.off, given := v, applied := z }, q.put r.2 z)

/-- Layer entry quantities (Table 4.10). -/
def layerQuants : List Quant :=
  [qu 4 2 0 8191, qu 6 2 0 8191, qu 8 2 1 8192, qu 10 2 1 8192, qi 12 2 (-8192) 8191, qi 14 2 (-8192) 8191, qu 16 2 1 8192,
   qu 18 2 1 8192, qu 32 4 0 73727, qu 40 4 0 1048575, qu 44 4 0 1048575, qu 48 4 0 1048575]

/-- Video stream quantities (Table 4.12). -/
def videoQuants : List Quant :=
  [qu 4 2 16 8192, qu 6 2 16 8192, qu 26 1 96 127, qu 27 1 3 16, qu 28 4 0 1000000000]

/-- Audio stream quantities (Table 4.13). -/
def audioQuants : List Quant := [qu 1 1 1 16, qu 3 1 96 127, qu 16 4 0 1000000000]

/-- Band quantities (Table 4.14). -/
def bandQuants : List Quant := [qu 24 2 1 65535, qu 26 2 1 65535]

/-- Raster quantities (Table 5.7). -/
def rasterQuants : List Quant :=
  [qu 0 2 1 8192, qu 2 2 1 4095, qu 4 2 1 1023, qu 6 2 1 4095, qu 8 2 1 8192, qu 10 2 1 4095, qu 12 2 1 255, qu 14 2 1 1023,
   qu 18 2 3 8192, qu 20 2 3 8192, qu 23 1 2 16] ++ quantRun (qu 24 2 0 16383) 8 ++
  [qu 41 1 1 255, qu 42 2 0 8191, qu 44 2 0 8191, qu 46 2 1 8192, qu 48 2 1 8192]

/-- Strand port quantities (Table 6.8). -/
def strandQuants : List Quant :=
  [qu 8 2 1 8192, qu 10 1 1 8, qu 11 1 0 8, qu 13 1 0 64, qu 16 2 0 1024, qu 18 2 10 1000, qu 20 2 400 2500,
   qu 26 4 1000 1000000, qu 30 2 20 1000]

/-- DMX port quantities (Table 6.10). -/
def dmxQuants : List Quant :=
  [qu 2 2 1 512, qu 8 2 1 256, qu 12 2 92 1000, qu 14 2 12 1000, qu 16 1 2 16]

/-- SCAN header quantities (Table 7.1). -/
def scanQuants (tMin : Nat) : List Quant :=
  [qu 1 1 1 64, qu 2 1 1 64, qu 3 1 8 16, qs 6 2 20 400 4, qs 8 2 200 2000 4, qu 12 4 0 (tMin - 4000)] ++
  quantRun (qs 20 2 100 40000 25) 4 ++ quantRun (qs 28 2 0 5000 20) 4

/-- DRAUGHT quantities (Table 7.5). -/
def draughtQuants : List Quant :=
  [qs 0 2 2500 12000 5, qs 2 2 2500 12000 5, qs 4 2 2500 12000 5, qs 6 2 100 2000 5, qs 8 2 0 1000 5, qs 10 1 5 50 5,
   qs 11 1 0 100 5, qs 12 2 250 2000 50, qu 14 1 1 4, qu 16 2 10 200, qs 18 2 1000 8000 100] ++ quantRun (qu 20 2 0 12000) 4

/-- The quantities of section `ty` whose ranges stand by themselves. -/
def secQuants (m : Image) (ty : Nat) (b : Bytes) : List Quant :=
  match ty with
  | 0x01 => [qu 0 1 1 8, qu 1 1 1 16, qu 2 1 0 8, qu 3 1 0 72, qu 4 1 1 16, qu 5 1 4 8, qu 6 1 2 2, qu 7 1 1 8,
             qu 16 4 0 1048576, qu 20 4 0 4194304]
  | 0x02 => [qu 0 2 1 256, qu 8 4 0 1041666666] ++ quantsAt (entryOffs 32 16 (field b 4 4))
              [qu 0 4 0 (m.tMin - 2000), qu 4 4 0 (m.tMin - 2000), qu 14 2 1 65535]
  | 0x03 => quantsAt (entryOffs 0 64 (b.length / 64)) [qu 12 4 0 65535, qu 32 4 0 16777216]
  | 0x20 => [qu 0 4 0 1048575, qu 4 4 0 1048575, qu 8 4 0 1048575] ++ quantsAt (entryOffs 64 64 16) layerQuants
  | 0x21 => quantRun (qi 0 2 (-2048) 2047) 3584
  | 0x23 => (loopHeads b).flatMap fun o =>
      (qu 2 2 1 4096).at_ o :: quantsAt (entryOffs (o + 8) 16 (field b (o + 4) 2)) [qu 2 2 1 65535, qu 4 2 0 32767]
  | 0x24 => quantsAt (videoOffs b) videoQuants ++ quantsAt (audioOffs b) audioQuants ++ quantsAt (bandOffs b) bandQuants
  | 0x30 => rasterQuants
  | 0x40 => quantsAt (entryOffs 0 160 64) [qu 0 1 0 8]
  | 0x45 => quantsAt ((entryOffs 0 64 32).filter fun o => field b o 1 != 0) strandQuants
  | 0x46 => quantsAt ((entryOffs 0 32 8).filter fun o => field b o 1 == 1) dmxQuants
  | 0x48 => [qu 68 1 0 200, qu 72 4 100000 5000000, qu 76 4 0 100000] ++
      (entryOffs 96 16 (field b 64 2)).flatMap fun o =>
        (qu 2 2 1 512).at_ o :: (if field b (o + 9) 1 = 0xFF then [] else [(qu 9 1 0 200).at_ o])
  | 0x49 => quantsAt (entryOffs (16 + 16 * field b 0 2) 16 (field b 2 1)) [qu 12 2 1 65535]
  | 0x50 => scanQuants m.tMin ++ (if field b 16 4 = 0 then [] else [qu 16 4 100000 m.tMin])
  | 0x51 => draughtQuants
  | 0x52 => [qi 2 2 (-40) 150] ++
      quantsAt ((entryOffs 16 8 8).filter fun o => bit (field b (o + 6) 1) 0) [qu 0 4 1000 1000000, qu 4 2 1000 10000] ++
      quantsAt (entryOffs 80 136 4) [qu 6 2 1 256]
  | 0x53 => quantRun (qs 4 2 500 12000 20) 4
  | 0x60 => qu 6 2 500 10000 :: (entryOffs 16 32 (field b 0 2)).flatMap fun o =>
      (qu 6 2 1 9232).at_ o ::
        (if 16 ≤ field b o 2 ∧ field b o 2 < 64 ∧ field b (o + 8) 4 = 0 then []
         else [(qu 8 4 1 (if field b (o + 2) 1 = 1 then 1048576 else 262080)).at_ o])
  | _ => []

/-- The quantities whose ranges rest on fields already clamped: window against crop (R122), a band's CHANNEL, OUT_BITS of used
channels, NRZ times and CLK_DIV (R196), DMX phase, pixel frame size (R208), POOL_LOW_CELLS; VBMIN and VBMAX (R149); the rail
(R234). `frameMax` is the rope ports' maximum frame. -/
def secQuants2 (m : Image) (frameMax ty : Nat) (b : Bytes) : List Quant :=
  match ty with
  | 0x20 => (entryOffs 64 64 16).flatMap fun o =>
      if field b (o + 20) 1 = 0xFF then []
      else
        let cw := field b (o + 8) 2
        let ch := field b (o + 10) 2
        [qu (o + 16) 2 (ceilDiv cw 4) (min 8192 (64 * cw)), qu (o + 18) 2 (ceilDiv ch 4) (min 8192 (64 * ch))]
  | 0x24 => (bandOffs b).flatMap fun o =>
      match (audioOffs b).find? fun a => field b a 1 == field b (o + 1) 1 with
      | some a => [qu (o + 2) 1 0 (field b (a + 1) 1 - 1)]
      | none => []
  | 0x30 =>
    [{ qu 18 2 0 65535 with lo := ((field b 10 2 + field b 12 2 + field b 14 2 : Nat) : Int) }]
  | 0x40 => (entryOffs 0 160 64).flatMap fun o =>
      (List.range (field b o 1)).map fun c => { qu (o + 16 + 4 * c) 4 8 16 with shift := 21, width := 5 }
  | 0x45 => ((entryOffs 0 64 32).filter fun o => field b o 1 != 0).flatMap fun o =>
      let nrz := field b (o + 20) 2 - 40
      [qu (o + 22) 2 40 nrz, qu (o + 24) 2 40 nrz] ++ (if field b o 1 = 1 then [qu (o + 18) 2 20 1000] else [])
  | 0x46 => ((entryOffs 0 32 8).filter fun o => field b o 1 == 1).map fun o => qu (o + 10) 2 0 (field b (o + 8) 2 - 1)
  | 0x49 => (entryOffs 16 16 (field b 0 2)).map fun o => qu (o + 12) 2 1 ((frameMax - 50) / 2)
  | 0x51 => [{ qu 2 2 0 12000 with lo := (field b 0 2 : Int) }]
  | 0x60 => [qu 2 4 0 (field (m.sec 1) 4 1 * 16384)]
  | _ => []

/-- The last resolutions: VBMAX (R149) and VLED_INIT_MV (R234), which rest on the second round. -/
def secQuants3 (ty : Nat) (b : Bytes) : List Quant :=
  match ty with
  | 0x30 => [{ qu 20 2 0 65535 with lo := (field b 18 2 : Int) }]
  | 0x51 => [{ qu 4 2 0 12000 with lo := (field b 0 2 : Int), hi := (field b 2 2 : Int) }]
  | _ => []

/-- The rate of a video stream, held from 1 Hz to 960 Hz in the manner of R40: outside, it becomes 1/1 or 960/1. -/
def rateQuants (b : Bytes) : List Quant :=
  (videoOffs b).flatMap fun o =>
    let num := field b (o + 8) 4
    let den := field b (o + 12) 4
    if num = 0 ∨ num < den then [qu (o + 8) 4 1 1, qu (o + 12) 4 1 1]
    else if 960 * den < num then [qu (o + 8) 4 960 960, qu (o + 12) 4 1 1]
    else []

/-- Clamp every quantity of one section, in three rounds. -/
def clampSec (m : Image) (frameMax : Nat) (r : List LoadClamp) (ty : Nat) (b : Bytes) : List LoadClamp × Bytes :=
  let a := (secQuants m ty b).foldl (clampQuant ty) (r, b)
  let a := if ty = 0x24 then (rateQuants a.2).foldl (clampQuant ty) a else a
  let c := (secQuants2 m frameMax ty a.2).foldl (clampQuant ty) a
  (secQuants3 ty c.2).foldl (clampQuant ty) c

/-- Clamp every section, lowest type first. -/
def clampSecs (m : Image) (frameMax : Nat) : List (Nat × Bytes) → List LoadClamp → List LoadClamp × List (Nat × Bytes)
  | [], l => (l, [])
  | (ty, b) :: r, l =>
    let a := clampSec m frameMax l ty b
    let t := clampSecs { m with secs := assocSet m.secs ty a.2 } frameMax r a.1
    (t.1, (ty, a.2) :: t.2)

/-- The timing set of a RASTER section, as subindices of 5000h. -/
def rasterTiming (b : Bytes) : List (Nat × Nat) :=
  [(1, field b 0 2), (2, field b 2 2), (3, field b 4 2), (4, field b 6 2), (5, field b 8 2), (6, field b 10 2),
   (7, field b 12 2), (8, field b 14 2)]

/-- DONE_NS raised to SOB_NS plus one line time (R168). -/
def raiseDone (m : Image) (r : List LoadClamp × List (Nat × Bytes)) : List LoadClamp × List (Nat × Bytes) :=
  match assocGet r.2 0x30, assocGet r.2 0x02 with
  | some rb, some pb =>
    let t := rasterTiming rb
    let least := lineOffset m.num m.den (Machine.vTotal t) (sobLine t + 1)
    let a := clampQuant 0x02 (r.1, pb) { qu 8 4 0 4294967295 with lo := (least : Int) }
    (a.1, assocSet r.2 0x02 a.2)
  | _, _ => r

/-- Header clamps (R40, Table 3.4): rate, LATENCY and SWITCH_TICKS. -/
def clampHead (h : Bytes) : List LoadClamp × Bytes :=
  let a := ([qu 36 4 1 960000, qu 40 4 1 1001, qu 44 1 1 2, qu 45 1 1 16] : List Quant).foldl (clampQuant 0) ([], h)
  let num := field a.2 36 4
  let den := field a.2 40 4
  if num * 1001 < 24000 * den then ([qu 36 4 24000 24000, qu 40 4 1001 1001] : List Quant).foldl (clampQuant 0) a
  else if 960 * den < num then ([qu 36 4 960 960, qu 40 4 1 1] : List Quant).foldl (clampQuant 0) a
  else a

/-- Everything order 15 does: the clamps made, and the image with every quantity in range. -/
def clampImage (frameMax : Nat) (h : Bytes) (secs : List (Nat × Bytes)) : List LoadClamp × Image :=
  let a := clampHead h
  let m : Image := { num := field a.2 36 4, den := field a.2 40 4, lat := field a.2 44 1, w := field a.2 45 1, secs := secs }
  let r := clampSecs m frameMax secs a.1
  let r := raiseDone m r
  (r.1.filter fun c => c.given != c.applied, { m with secs := r.2 })

end Sys2Proof.Machine
end

