-- ==== Sys2Proof/Machine/TopoRefs.lean ====
section
/-! DEFINITION. Load checks of order 16 and 17 (Table 3.9): references and enumerations, and reserved fields. A check is an
offset in its section and whether it holds; each follows the rule of the chapter that owns the section. -/

namespace Sys2Proof.Machine

/-- A check: where, and does it hold? -/
abbrev Chk := Nat × Bool

/-- The first check that fails. -/
def firstBad (l : List Chk) : Option Nat := (l.find? fun c => !c.2).map Prod.fst

/-- Does `x` stand once in a list? -/
def once (l : List Nat) (x : Nat) : Bool := (l.filter fun y => y == x).length == 1

/-- A number that stood earlier in the list of numbers read at offsets `offs`: the later place is at fault. -/
def noRepeat (offs : List Nat) (f : Nat → Nat) : List Chk :=
  offs.map fun o => (o, (offs.find? fun p => f p == f o) == some o)

/-! ### What a topo declares -/

/-- Stream numbers of the video entries. -/
def Image.videos (m : Image) : List Nat := (videoOffs (m.sec 0x24)).map fun o => field (m.sec 0x24) o 1
/-- Bands. -/
def Image.bands (m : Image) : List Nat := (bandOffs (m.sec 0x24)).map fun o => field (m.sec 0x24) o 1
/-- Loops. -/
def Image.loops (m : Image) : List Nat := (loopHeads (m.sec 0x23)).map fun o => field (m.sec 0x23) o 1
/-- CHANNELS. -/
def Image.channels (m : Image) : Nat := field (m.sec 1) 20 4
/-- ENDPOINTS. -/
def Image.endpoints (m : Image) : Nat := field (m.sec 1) 16 4

/-- The fixed region sizes in MB, scratch apart (Table 1.3). -/
def Image.fixedRegions (m : Image) : List Nat :=
  field (m.sec 1) 0 1 * (m.lat + 1) :: (List.range 7).map fun i => field (m.sec 1) (1 + i) 1

/-- The region sizes, scratch taking the remainder of 128 MB (R28). -/
def Image.regions (m : Image) : List Nat := m.fixedRegions ++ [128 - m.fixedRegions.sum]

/-- Entries of the QUEUES section. -/
def Image.queueEntries (m : Image) : List Bytes :=
  (entryOffs 16 32 (field (m.sec 0x60) 0 2)).map fun o => slice (m.sec 0x60) o 32

/-- A queue of Table 13.2: HOLD, stage (0xFF outside the order), ITEM_MAX, and whether QUEUES gives its LIMIT. -/
structure DeviceQueue where
  hold  : Bool
  stage : Nat
  item  : Nat
  set   : Bool
  deriving DecidableEq, Repr

/-- Device queue `n` (Table 13.2); `frameMax` is MAX_FRAME of the port with the largest. -/
def deviceQueue (frameMax n : Nat) : Option DeviceQueue :=
  if n < 8 then some { hold := true, stage := 7, item := frameMax + 16, set := true }
  else if n < 16 then some { hold := true, stage := 6, item := 64, set := true }
  else if n < 19 then some { hold := false, stage := 0xFF, item := 16, set := false }
  else if n < 22 then some { hold := false, stage := 0xFF, item := 1552, set := false }
  else if n < 24 then some { hold := false, stage := 0xFF, item := 32, set := false }
  else if n < 25 then some { hold := false, stage := 0xFF, item := 64, set := false }
  else if n < 26 then some { hold := false, stage := 0xFF, item := 48, set := false }
  else if n < 27 then some { hold := false, stage := 0xFF, item := 32, set := false }
  else if n < 28 then some { hold := false, stage := 0xFF, item := 256, set := false }
  else if n < 36 then some { hold := false, stage := 0xFF, item := 64, set := false }
  else if n < 56 then some { hold := false, stage := 0xFF, item := 16, set := false }
  else none

/-- HOLD and stage of queue `n`, when the image has it (R370). -/
def Image.queueInfo (m : Image) (n : Nat) : Option (Bool × Nat) :=
  match deviceQueue 0 n with
  | some q => some (q.hold, q.stage)
  | none =>
    if n < 64 then none
    else (m.queueEntries.find? fun e => field e 0 2 == n).map fun e => (field e 3 1 == 1, field e 4 1)

/-- Receive windows: first channel and channels of each. -/
def Image.windows (m : Image) : List (Nat × Nat) :=
  let b := m.sec 0x49
  (entryOffs (16 + 16 * field b 0 2) 16 (field b 2 1)).map fun o => (field b (o + 4) 4, field b (o + 8) 4)

/-- Do two runs of channels overlap? -/
def runsMeet (a b : Nat × Nat) : Bool := decide (a.1 < b.1 + b.2) && decide (b.1 < a.1 + a.2)

/-- Does an egress range lie within CHANNELS and clear of every receive window (R192)? -/
def Image.rangeFree (m : Image) (r : Nat × Nat) : Bool :=
  decide (r.1 + r.2 ≤ m.channels) && !(m.windows.any fun w => runsMeet w r)

/-! ### Order 16 -/

/-- PLAN (R77). -/
def planRefs (m : Image) (b : Bytes) : List Chk :=
  let n := (m.sec 3).length / 64
  let key := fun o => (if field b (o + 8) 1 = 0xFF then 0 else field b (o + 8) 1 + 1) * two32 + field b o 4
  (List.range (field b 4 4)).map fun i =>
    let o := 32 + 16 * i
    (o, (field b (o + 8) 1 == 0xFF || decide (field b (o + 8) 1 < field b 0 2)) && decide (field b (o + 9) 3 < n) &&
      (i == 0 || decide (key (o - 16) ≤ key o)))

/-- DESCRIPTORS (R79, R382, R406, R413). -/
def descRefs (m : Image) (dram : Nat) (b : Bytes) : List Chk :=
  (entryOffs 0 64 (b.length / 64)).flatMap fun o =>
    let d := slice b o 64
    let out := if dOut d = 0xFFFF then none else m.queueInfo (dOut d)
    let into := ((m.queueInfo (dIn d)).map Prod.snd).getD 6
    let stage := match out with
      | some (true, st) => decide (st < (if dIn d = 0xFFFF then 6 else into))
      | _ => true
    ((descFields m.regions dram (fun n => (m.queueInfo n).isSome) d ++
      [(6, stage), (8, dCb d == 0xFF || (decide (dCb d ≤ 59) && !(out.any Prod.fst)))]).map fun (c : Nat × Bool) => (o + c.1, c.2))

/-- LAYERS (R140, R168). -/
def layerRefs (m : Image) (b : Bytes) : List Chk :=
  let offs := entryOffs 64 64 16
  let scalerUsed := fun o => offs.any fun p => decide (p < o) && bit (field b (p + 23) 1) 0 && field b (p + 20) 1 == field b (o + 20) 1
  [(0, m.has 0x30), (12, decide (field b 12 1 ≤ 1)), (13, decide (field b 13 1 ≤ 1))] ++ offs.flatMap fun o =>
    let kind := field b o 1
    let ref := field b (o + 2) 2
    let sc := field b (o + 20) 1
    [(o, decide (kind ≤ 5) && (kind != 5 || decide (o < 64 + 64 * 4)) && !(kind == 1 && bit (field b (o + 23) 1) 1)),
     (o + 1, decide (field b (o + 1) 1 ≤ 2)),
     (o + 2, match kind with
       | 1 => m.videos.contains ref
       | 2 | 5 => decide (ref ≤ 1023)
       | 3 => m.loops.contains ref
       | _ => true),
     (o + 20, sc == 0xFF || (decide (sc ≤ 7) && !(bit (field b (o + 23) 1) 0 && scalerUsed o))),
     (o + 21, decide (field b (o + 21) 1 ≤ 1)), (o + 22, decide (field b (o + 22) 1 ≤ 1)),
     (o + 26, modSourceOk m.bands (field b (o + 26) 2)), (o + 30, decide (field b (o + 30) 1 ≤ 2))]

/-- DEGAMMA (R136). -/
def degammaRefs (b : Bytes) : List Chk := (degammaHeads b).map fun o => (o + 1, decide (field b (o + 1) 1 ≤ 1))

/-- PLAYLIST (R137). -/
def playlistRefs (b : Bytes) : List Chk :=
  noRepeat (loopHeads b) (fun o => field b o 1) ++ (loopHeads b).flatMap fun o =>
    let es := entryOffs (o + 8) 16 (field b (o + 4) 2)
    (o, decide (field b o 1 ≤ 15)) :: (o, decide ((es.filter fun e => bit (field b (e + 6) 1) 0).length ≤ 1)) ::
      es.map fun e => (e, decide (field b e 2 ≤ 1023))

/-- STREAMS (R138, R140). -/
def streamRefs (b : Bytes) : List Chk :=
  let audio := (audioOffs b).map fun o => field b o 1
  noRepeat (videoOffs b) (fun o => field b o 1) ++ noRepeat (audioOffs b) (fun o => field b o 1) ++
    noRepeat (bandOffs b) (fun o => field b o 1) ++
    ((videoOffs b).flatMap fun o =>
      [(o, decide (field b o 1 ≤ 7)), (o + 1, decide (field b (o + 1) 1 ≤ 3)),
       (o + 2, decide (field b (o + 1) 1 < 3) || decide (field b (o + 2) 1 ≤ 1)),
       (o + 3, decide (field b (o + 3) 1 ≤ 1)), (o + 41, decide (field b (o + 41) 1 ≤ 1))]) ++
    ((audioOffs b).flatMap fun o => [(o, decide (field b o 1 ≤ 1)), (o + 2, decide (field b (o + 2) 1 ≤ 1))]) ++
    (bandOffs b).flatMap fun o => [(o, decide (field b o 1 ≤ 31)), (o + 1, audio.contains (field b (o + 1) 1))]

/-- SURFACES (R139). -/
def surfaceRefs (m : Image) (b : Bytes) : List Chk :=
  (0, m.has 0x20) :: noRepeat (surfHeads b) (fun o => field b o 2) ++
    (surfHeads b).map fun o => (o, surfaceOk (slice b o (32 + field b (o + 12) 4)))

/-- RASTER (R167). -/
def rasterRefs (m : Image) (b : Bytes) : List Chk :=
  [(16, decide (field b 16 1 ≤ 1)), (17, field b 17 1 == 0xFF || m.videos.contains (field b 17 1))]

/-- MAP (R168, R173, R190, R211). -/
def mapRefs (m : Image) (b : Bytes) : List Chk :=
  let ent := fun i => mapEntryOf (slice b (16 + 16 * i) 16)
  let k := fun (e : MapEntry) => e.y + e.height - 1
  let cls := m.sec 0x40
  let n := fun (e : MapEntry) => classN (classRec cls e.cls)
  let count := field b 0 4
  let run := fun (e : MapEntry) => (e.base, n e)
  let slots := fun (e : MapEntry) => ((List.range (n e)).map fun c => if bit (chanDesc (classRec cls e.cls) c) 26 then 2 else 1).sum
  (0, m.has 0x30) :: (List.range count).map fun i =>
    let e := ent i
    let p := ent (i - 1)
    (16 + 16 * i, decide (e.mode ≤ 5) && (i == 0 || !e.raster || (p.raster && decide (k p ≤ k e))) && n e != 0 &&
      decide (e.endp < m.endpoints) && m.rangeFree (run e) &&
      (e.mode != 5 || decide (e.param + slots e ≤ 512 * field (m.sec 0x47) 0 2)) &&
      !((List.range i).any fun j => runsMeet (run (ent j)) (run e)))

/-- GROUPS_FADES (R182). -/
def groupRefs (m : Image) (b : Bytes) : List Chk :=
  (entryOffs 0 8 1024).flatMap fun o =>
    [(o + 2, field b (o + 2) 2 == 0xFFFF || decide (field b (o + 2) 2 ≤ 4095)),
     (o + 4, field b (o + 4) 1 == 0xFF || m.bands.contains (field b (o + 4) 1))]

/-- STRAND (R192, R196). -/
def strandRefs (m : Image) (b : Bytes) : List Chk :=
  (entryOffs 0 64 32).flatMap fun o =>
    let p := field b o 1
    if p = 0 then []
    else
      [(o, decide (p ≤ 3)), (o + 1, field b (o + 1) 1 == 0 || (field b (o + 1) 1 == 1 && p == 1)),
       (o + 3, [8, 12, 16].contains (field b (o + 3) 1)),
       (o + 4, m.rangeFree (field b (o + 4) 4, field b (o + 8) 2 * field b (o + 10) 1))]

/-- DMX (R192). -/
def dmxRefs (m : Image) (b : Bytes) : List Chk :=
  (entryOffs 0 32 8).flatMap fun o =>
    [(o, decide (field b o 1 ≤ 1)), (o + 4, field b o 1 != 1 || m.rangeFree (field b (o + 4) 4, field b (o + 2) 2))]

/-- SACN_IN (R191). -/
def sacnInRefs (b : Bytes) : List Chk :=
  let offs := entryOffs 16 8 (field b 0 2)
  noRepeat offs (fun o => field b o 2) ++ offs.flatMap fun o =>
    [(o + 2, decide (field b (o + 2) 1 ≤ 1)), (o + 3, decide (field b (o + 3) 1 ≤ 1))]

/-- SACN_OUT (R192, R204, Table 6.12). -/
def sacnOutRefs (m : Image) (b : Bytes) : List Chk :=
  let offs := entryOffs 96 16 (field b 64 2)
  (0, utf8Ok 64 (unpad (slice b 0 64))) :: (66, decide (field b 66 2 ≤ 63999)) :: (70, decide (field b 70 1 ≤ 1)) ::
    noRepeat offs (fun o => field b o 2) ++ offs.flatMap fun o =>
    let wide := field b (o + 8) 1 == 1
    [(o, decide (1 ≤ field b o 2) && decide (field b o 2 ≤ 63999)),
     (o + 8, decide (field b (o + 8) 1 ≤ 1) && !(wide && field b (o + 2) 2 % 2 == 1)),
     (o + 4, m.rangeFree (field b (o + 4) 4, if wide then field b (o + 2) 2 / 2 else field b (o + 2) 2))]

/-- ROPE_PIXEL (R192, Table 6.15). -/
def pixelRefs (m : Image) (b : Bytes) : List Chk :=
  let tx := entryOffs 16 16 (field b 0 2)
  let rx := entryOffs (16 + 16 * field b 0 2) 16 (field b 2 1)
  noRepeat rx (fun o => field b o 1) ++
    (tx.flatMap fun o => [(o + 1, decide (field b (o + 1) 1 ≤ 63)), (o + 4, m.rangeFree (field b (o + 4) 4, field b (o + 8) 4))]) ++
    rx.flatMap fun o => [(o, decide (field b o 1 ≤ 63)), (o + 4, decide (field b (o + 4) 4 + field b (o + 8) 4 ≤ m.channels))]

/-- Is sink `i` of a SCAN section used? -/
def scanUsed (b : Bytes) (i : Nat) : Bool := bit (field b (64 + 8 * i) 1) 7

/-- SCAN (R216). -/
def scanRefs (m : Image) (b : Bytes) : List Chk :=
  (0, decide (field b 0 1 ≤ 2)) :: (1, field b 0 1 != 2 || field b 1 1 == 1) :: (List.range 768).map fun i =>
    let o := 64 + 8 * i
    (o + 4, !scanUsed b i || decide (field b (o + 4) 4 + (field b 1 1 - 1) * field b (o + 2) 2 < m.channels))

/-- TEMPCOMP (Table 7.7). -/
def tempRefs (b : Bytes) : List Chk :=
  let on := (List.range 8).foldl (fun a i => if bit (field b (16 + 8 * i + 6) 1) 0 then a + 2 ^ i else a) 0
  (0, decide (field b 0 1 ≤ 1)) :: ((entryOffs 80 136 4).flatMap fun o =>
    [(o, field b o 1 &&& (255 - on) == 0), (o + 1, decide (field b (o + 1) 1 ≤ 1))]) ++
    (List.range 64).map fun c => (624 + c, decide (field b (624 + c) 1 ≤ 3) || field b (624 + c) 1 == 0xFF)

/-- DIAG (Table 7.10). -/
def diagRefs (b : Bytes) : List Chk := (List.range 3).map fun i => (i, decide (field b i 1 ≤ 1))

/-- SPARE_STRINGS (R216, Table 7.10). -/
def spareRefs (m : Image) (b : Bytes) : List Chk :=
  let sinks := (List.range (2 * field b 0 1)).map fun i => field b (4 + 2 * i) 2
  (List.range (2 * field b 0 1)).map fun i =>
    let x := field b (4 + 2 * i) 2
    (4 + 2 * i, decide (x ≤ 767) && once sinks x && (i % 2 == 1 || scanUsed (m.sec 0x50) x))

/-- QUEUES (R370, R377, R382). -/
def queueRefs (frameMax : Nat) (b : Bytes) : List Chk :=
  let offs := entryOffs 16 32 (field b 0 2)
  noRepeat offs (fun o => field b o 2) ++ offs.map fun o =>
    let n := field b o 2
    let kind := field b (o + 2) 1
    let hold := field b (o + 3) 1 == 1
    let stage := field b (o + 4) 1
    let mark := bit (field b (o + 5) 1) 0
    let plain := decide (kind ≤ 1) && decide (field b (o + 3) 1 ≤ 1) &&
      (if hold then decide (1 ≤ stage) && decide (stage ≤ 7) && !mark else stage == 0xFF)
    let own := match deviceQueue frameMax n with
      | some q => kind == 0 && hold == q.hold && stage == q.stage && field b (o + 6) 2 == q.item &&
          (q.set || field b (o + 8) 4 == 0)
      | none => decide (64 ≤ n) && decide (n ≤ 1023) && ((kind == 1) == decide (992 ≤ n)) &&
          (kind == 0 || (field b (o + 6) 2 == 64 && !mark && field b (o + 16) 8 % 256 == 0))
    (o, plain && own && (kind == 1 || field b (o + 16) 8 == 0))

/-- TRAFFIC (Table 11.5). -/
def trafficRefs (b : Bytes) : List Chk := [(0, decide (field b 0 1 ≤ 1))]

/-- The checks of order 16 of section `ty`. -/
def secRefs (m : Image) (dram frameMax ty : Nat) (b : Bytes) : List Chk :=
  match ty with
  | 0x02 => planRefs m b
  | 0x03 => descRefs m dram b
  | 0x20 => layerRefs m b
  | 0x22 => degammaRefs b
  | 0x23 => playlistRefs b
  | 0x24 => streamRefs b
  | 0x25 => surfaceRefs m b
  | 0x30 => rasterRefs m b
  | 0x42 => mapRefs m b
  | 0x44 => groupRefs m b
  | 0x45 => strandRefs m b
  | 0x46 => dmxRefs m b
  | 0x47 => sacnInRefs b
  | 0x48 => sacnOutRefs m b
  | 0x49 => pixelRefs m b
  | 0x50 => scanRefs m b
  | 0x52 => tempRefs b
  | 0x53 => diagRefs b
  | 0x54 => spareRefs m b
  | 0x60 => queueRefs frameMax b
  | 0x70 => trafficRefs b
  | _ => []

/-! ### Order 17 -/

/-- A run of `n` reserved bytes. -/
def rsv (b : Bytes) (off n : Nat) : Chk := (off, (slice b off n).all fun x => x == 0)

/-- Reserved bits: those of `mask` in the byte at `off`. -/
def rsvBits (b : Bytes) (off mask : Nat) : Chk := (off, field b off 1 &&& mask == 0)

/-- First and end offset of the PARAM bytes a task type uses (Table 14.1). -/
def paramUsed (ty : Nat) : Nat × Nat :=
  match ty with
  | 2 => (0, 8) | 3 => (0, 5) | 4 => (0, 8) | 5 => (0, 8) | 7 => (0, 4) | 8 => (0, 4) | 9 => (0, 12) | 11 => (0, 1)
  | 12 => (0, 1) | 13 => (0, 2) | 14 => (4, 28) | 15 => (0, 1) | 16 => (0, 1) | 21 => (0, 1) | _ => (0, 0)

/-- Reserved fields of a task descriptor. -/
def descRsv (b : Bytes) (o : Nat) : List Chk :=
  let u := paramUsed (field b o 1)
  [rsvBits b (o + 1) 0xFE, rsv b (o + 9) 3, rsv b (o + 36) u.1, rsv b (o + 36 + u.2) (28 - u.2)] ++
    (if field b o 1 = 3 then [rsvBits b (o + 40) 0xFE] else [])

/-- Reserved fields of section `ty`. -/
def secRsv (ty : Nat) (b : Bytes) : List Chk :=
  match ty with
  | 0x01 => [rsv b 8 1, rsv b 9 7, rsv b 24 8]
  | 0x02 => [rsv b 2 2, rsv b 12 20] ++ (entryOffs 32 16 (field b 4 4)).flatMap fun o => [rsvBits b (o + 12) 0x1F, rsv b (o + 13) 1]
  | 0x03 => (entryOffs 0 64 (b.length / 64)).flatMap (descRsv b)
  | 0x20 => [rsv b 14 2, rsv b 32 32] ++ (entryOffs 64 64 16).flatMap fun o => [rsvBits b (o + 23) 0xFC, rsv b (o + 31) 1, rsv b (o + 54) 10]
  | 0x22 => (degammaHeads b).flatMap fun o => rsv b (o + 2) 6 ::
      (if field b o 1 = 0x20 then []
       else (entryOffs (o + 8) 4 1024).map fun p => (p, decide (field b p 4 < 1048576)))
  | 0x23 => (loopHeads b).flatMap fun o => [rsvBits b (o + 1) 0xFE, rsv b (o + 6) 2] ++
      (entryOffs (o + 8) 16 (field b (o + 4) 2)).flatMap fun e => [rsvBits b (e + 6) 0xFE, rsv b (e + 7) 9]
  | 0x24 => rsv b 3 5 :: ((videoOffs b).flatMap fun o => [rsvBits b (o + 40) 0xF8, rsv b (o + 42) 22]) ++
      ((audioOffs b).flatMap fun o => [rsv b (o + 14) 2, rsvBits b (o + 20) 0xF8, rsv b (o + 21) 43]) ++
      (bandOffs b).flatMap fun o => [rsv b (o + 3) 1, rsv b (o + 30) 2]
  | 0x25 => (surfHeads b).flatMap fun o => [rsv b (o + 3) 1, rsv b (o + 20) 12]
  | 0x30 => [rsvBits b 22 0xC0, rsv b 50 14]
  | 0x40 => (entryOffs 0 160 64).flatMap fun o => [rsvBits b (o + 1) 0xF8, rsv b (o + 2) 14, rsv b (o + 144) 16] ++
      (List.range 8).map fun c => rsvBits b (o + 17 + 4 * c) 0x1F
  | 0x42 => rsv b 4 12 :: (entryOffs 16 16 (field b 0 4)).flatMap fun o => [(o + 14, field b (o + 14) 2 % 2048 == 0)]
  | 0x44 => (entryOffs 0 8 1024).map fun o => rsv b (o + 5) 1
  | 0x45 => (entryOffs 0 64 32).flatMap fun o => [rsvBits b (o + 2) 0xF8, rsvBits b (o + 14) 0xFC, rsv b (o + 15) 1, rsv b (o + 32) 32]
  | 0x46 => (entryOffs 0 32 8).flatMap fun o => [rsvBits b (o + 1) 0xFE, rsv b (o + 17) 15]
  | 0x47 => rsv b 2 14 :: (entryOffs 16 8 (field b 0 2)).flatMap fun o => [rsvBits b (o + 4) 0xF8, rsv b (o + 5) 3]
  | 0x48 => [rsvBits b 69 0xFC, rsv b 71 1, rsv b 80 16] ++ (entryOffs 96 16 (field b 64 2)).map fun o => rsv b (o + 14) 2
  | 0x49 => rsv b 3 13 :: (entryOffs 16 16 (field b 0 2 + field b 2 1)).flatMap fun o => [rsv b (o + 2) 2, rsv b (o + 14) 2]
  | 0x50 => [rsvBits b 4 0xF0, rsvBits b 5 0xFE, rsv b 10 2, rsv b 36 28] ++
      (entryOffs 64 8 768).flatMap fun o => [rsvBits b o 0x3C, rsv b (o + 1) 1]
  | 0x51 => [rsv b 15 1, rsv b 28 4]
  | 0x52 => [rsv b 1 1, rsv b 4 12] ++ ((entryOffs 16 8 8).flatMap fun o => [rsvBits b (o + 6) 0xFE, rsv b (o + 7) 1]) ++
      (entryOffs 80 136 4).map fun o => rsv b (o + 2) 2
  | 0x53 => [rsv b 3 1, rsv b 12 4]
  | 0x54 => [rsv b 1 3]
  | 0x60 => rsv b 8 8 :: (entryOffs 16 32 (field b 0 2)).flatMap fun o => [rsvBits b (o + 5) 0xFE, rsv b (o + 12) 4, rsv b (o + 24) 8]
  | 0x70 => [rsvBits b 1 0xE0, rsvBits b 2 0xE0, rsv b 3 1, rsv b 24 8]
  | _ => []

end Sys2Proof.Machine
end

