-- ==== Sys2Proof/Machine/TopoCheck.lean ====
section
/-! DEFINITION. The load of a topo image (R65 to R83): the header, the directory and the signature, OBJECT_INIT, and the
budget checks of orders 19 to 29. -/

namespace Sys2Proof.Machine

/-- What the checks need to know of the unit: STEPPING, the topo key, DRAM_USABLE, the rope ports' link rate in Mb/s, the
rates and maximum frames of the ports, the TRAIL port's SPEED, and SEG_LEN. -/
structure UnitFacts where
  stepping : Nat
  key      : Option Bytes
  dram     : Nat
  ropeRate : Nat
  trailRate : Nat
  trailSpeed : Nat
  ropeMax  : Nat
  frameMax : Nat
  segLen   : Nat
  deriving DecidableEq, Repr

/-- Where a check of a load failed: detail, section type, offset. -/
abbrev LoadFail := Nat × Nat × Nat

/-- The first failure of a list of whole-image checks of one detail. -/
def failAt (detail : Nat) (l : List (Nat × Chk)) : Option LoadFail :=
  (l.find? fun c => !c.2.2).map fun c => (detail, c.1, c.2.1)

/-- The checks of every section, lowest type first. -/
def eachSec (secs : List (Nat × Bytes)) (f : Nat → Bytes → List Chk) : List (Nat × Chk) :=
  secs.flatMap fun p => (f p.1 p.2).map fun c => (p.1, c)

/-- The first of several failures. -/
def firstFail : List (Option LoadFail) → Option LoadFail
  | [] => none
  | some x :: _ => some x
  | none :: r => firstFail r

/-! ### Orders 1 to 13: header, signature, directory -/

/-- A directory entry (Table 3.5): its place in the image, TYPE, SFLAGS, OFFSET, LENGTH, SEC_CRC. -/
structure DirEntry where
  at_   : Nat
  ty    : Nat
  flags : Nat
  off   : Nat
  len   : Nat
  crc   : Nat
  deriving DecidableEq, Repr

/-- The section directory. -/
def directory (b : Bytes) : List DirEntry :=
  (List.range (field b 34 2)).map fun i =>
    let o := 128 + 16 * i
    { at_ := o, ty := field b o 2, flags := field b (o + 2) 2, off := field b (o + 4) 4, len := field b (o + 8) 4,
      crc := field b (o + 12) 4 }

/-- Orders 1 to 8. `b` is the image as the slot holds it, of IMAGE_LEN bytes; `room` is the slot's size and `held` the bytes
its last transfer wrote. A TOPO_ID of 0 passes: Table 3.4 says that it is not 0, but Table 3.9 lists no check of it (DESIGN CHOICE,
log 82). -/
def headFail (u : UnitFacts) (room : Nat) (held : Option Nat) (b : Bytes) : Option LoadFail :=
  let len := field b 8 4
  if len < 4096 ∨ 50331648 < len ∨ room < len ∨ held.getD len ≠ len then some (0x0101, 0, 8)
  else if field b 0 4 ≠ 0x4E585450 ∨ field b 4 1 ≠ 1 then some (0x0102, 0, 0)
  else if field b 124 4 ≠ crc32 (slice b 0 124) then some (0x0103, 0, 124)
  else if field b 12 2 ≠ 0x9600 then some (0x0104, 0, 12)
  else if u.stepping < field b 14 1 then some (0x0105, 0, 14)
  else if field b 6 2 ≠ 128 then some (0x0106, 0, 6)
  else if field b 34 2 < 3 ∨ 64 < field b 34 2 then some (0x0106, 0, 34)
  else
    match u.key with
    | none => some (0x0107, 0, 0)
    | some k => if hmac k (slice b 0 (len - 32)) = slice b (len - 32) 32 then none else some (0x0108, 0, len - 32)

/-- Orders 9 to 13. -/
def dirFail (b : Bytes) (d : List DirEntry) : Option LoadFail :=
  let len := field b 8 4
  let first := 128 + 16 * d.length
  let inside := fun (e : DirEntry) => e.off % 64 == 0 && e.len != 0 && decide (first ≤ e.off) && decide (e.off + e.len + 32 ≤ len)
  let clear := fun (e : DirEntry) => d.all fun x => decide (e.at_ ≤ x.at_) || !runsMeet (x.off, x.len) (e.off, e.len)
  let alone := fun (e : DirEntry) => d.all fun x => decide (e.at_ ≤ x.at_) || x.ty != e.ty
  firstFail [
    (d.find? fun e => !(inside e && clear e)).map fun e => (0x0109, 0, e.at_),
    (d.find? fun e => !alone e).map fun e => (0x010A, 0, e.at_),
    (d.find? fun e => !(knownTypes.contains e.ty || bit e.flags 0)).map fun e => (0x010B, 0, e.at_),
    ([1, 2, 3].find? fun ty => !(d.any fun e => e.ty == ty)).map fun ty => (0x010C, ty, 0),
    (d.find? fun e => crc32 (slice b e.off e.len) != e.crc).map fun e => (0x010D, e.ty, 0)]

/-- The known sections of an image, ascending by type. -/
def imageSecs (b : Bytes) (d : List DirEntry) : List (Nat × Bytes) :=
  knownTypes.filterMap fun ty => (d.find? fun e => e.ty == ty).map fun e => (ty, slice b e.off e.len)

/-! ### Order 18: OBJECT_INIT (R80) -/

/-- What ranges depend on, for a topo's own initial values. -/
def Image.ranges (m : Image) : RangeCtx :=
  { tMin := m.tMin, streams := m.videos, loops := m.loops, bands := m.bands, pool := field (m.sec 1) 4 1 * 16384 }

/-- The domains an image needs, as Topo.domains. -/
def Image.domains (m : Image) : Nat :=
  Topo.domains { slot := 0, id := 0, build := 0, num := 0, den := 0, lat := 0, switchW := 0, regions := [], endpoints := 0,
                 channels := 0, sections := m.secs }

/-- An OBJECT_INIT entry: its offset, its key, its value as applied (a STR padded to its size), and the clamps it makes, each with
the clamped field's offset in the value. -/
structure InitEntry where
  off   : Nat
  key   : Nat
  val   : Bytes
  clamps : List (Nat × Int × Int)
  deriving DecidableEq, Repr

/-- May an entry name subindex `sub` of `o` with value `v`: writable by an INSTALLER in STAGING, of legal length and value, of an
object not excluded and of a domain the topo needs? -/
def initOk (u : UnitFacts) (m : Image) (ix sub : Nat) (o : Obj) (v : Bytes) : Bool :=
  let excluded := (decide (0x1000 ≤ ix) && decide (ix ≤ 0x10FF)) || (decide (0x3400 ≤ ix) && decide (ix ≤ 0x34FF)) ||
    (decide (0x8000 ≤ ix) && decide (ix ≤ 0x80FF))
  let d := odDomain ix
  !excluded && o.role != .service && o.acc != .ro && o.acc != .rc && o.ty != .domain && o.ty.lenOk v.length && o.ty.encOk v &&
    o.rng.listed m.ranges (o.ty.store v) && recordListed ((m.sec 3).length / 64) u.trailSpeed ix sub v &&
    ([0, 1, 2, 3, 7].contains d || bit m.domains d)

/-- The value an entry applies, with its clamps: a quantity's, or those of a record's fields, each with its offset. -/
def initValue (m : Image) (ix sub : Nat) (o : Obj) (v : Bytes) : Bytes × List (Nat × Int × Int) :=
  match o.ty with
  | .oct _ _ =>
    let r := recordClamp ix sub v
    (r.2, r.1.map fun p => (p.1, (p.2.1 : Int), (p.2.2 : Int)))
  | t =>
    let given := t.store v
    let got := o.applied m.ranges given
    (beBytes t.size got, if o.clamps m.ranges given then [(0, t.num given, t.num got)] else [])

/-- The OBJECT_INIT entry at `o`; none when order 18 fails at it. -/
def initEntry (u : UnitFacts) (m : Image) (b : Bytes) (o : Nat) : Option InitEntry :=
  let ix := field b o 2
  let sub := field b (o + 2) 1
  let v := slice b (o + 4) (field b (o + 3) 1)
  match odFind ix sub with
  | none => none
  | some obj =>
    if initOk u m ix sub obj v then
      let r := initValue m ix sub obj v
      some { off := o, key := Reg.key ix sub, val := r.1, clamps := r.2 }
    else none

/-- The entries of OBJECT_INIT up to the first that fails, and where that one stands. -/
def initEntries (u : UnitFacts) (m : Image) (b : Bytes) : List Nat → List InitEntry × Option Nat
  | [] => ([], none)
  | o :: r =>
    match initEntry u m b o with
    | none => ([], some o)
    | some e =>
      let t := initEntries u m b r
      (e :: t.1, t.2)

/-- Clamps of OBJECT_INIT values: one for each field clamped (R82). -/
def initClamps (l : List InitEntry) : List LoadClamp :=
  l.flatMap fun e => e.clamps.map fun p => { ty := 0x10, off := e.off + 4 + p.1, given := p.2.1, applied := p.2.2 }

/-! ### Orders 19 to 28 -/

/-- R83 and R75: the plan against the hardware. -/
def planFails (m : Image) : List (Option LoadFail) :=
  let b := m.sec 2
  let lim := m.tMin - 2000
  let offs := entryOffs 32 16 (field b 4 4)
  let w := fun o => field b (o + 14) 2 * 64
  let general := fun o => decide (dEngines (slice (m.sec 3) (64 * field b (o + 9) 3) 64) % 4096 ≠ 0)
  let load := fun (p : Nat) (g : Bool) =>
    ((offs.filter fun o => general o == g && (field b (o + 8) 1 == p || field b (o + 8) 1 == 0xFF)).map w).sum
  [ failAt 0x0204 ((offs.map fun o => (2, o, decide (field b o 4 + w o ≤ field b (o + 4) 4) && decide (field b (o + 4) 4 ≤ lim))) ++
      [(2, 8, decide (field b 8 4 ≤ lim))]),
    failAt 0x0205 ((List.range (field b 0 2)).map fun p => (2, 0, decide (load p true ≤ 12 * lim) && decide (load p false ≤ 4 * lim))) ]

/-- A layer's window clipped to the active raster, in pixels. -/
def windowArea (rb b : Bytes) (o : Nat) : Nat :=
  let span := fun (at_ : Int) (n most : Nat) => (min (most : Int) (at_ + n) - max 0 at_).toNat
  span (toSigned 2 (field b (o + 12) 2)) (field b (o + 16) 2) (field rb 0 2) *
    span (toSigned 2 (field b (o + 14) 2)) (field b (o + 18) 2) (field rb 8 2)

/-- Bits of a pixel by FORMAT. -/
def pixelBits (fmt : Nat) : Nat := match fmt with
  | 0 => 24 | 1 => 30 | 2 => 36 | _ => 20

/-- The sum of two fractions. -/
def addFrac (a b : Nat × Nat) : Nat × Nat := (a.1 * b.2 + b.1 * a.2, a.2 * b.2)

/-- The streams' total bit rate as a fraction, in bit/s: active video samples, and 24-bit audio samples at 48 kHz. -/
def streamRate (b : Bytes) : Nat × Nat :=
  let v := (videoOffs b).map fun o =>
    (pixelBits (field b (o + 1) 1) * field b (o + 4) 2 * field b (o + 6) 2 * field b (o + 8) 4, max 1 (field b (o + 12) 4))
  let a := (audioOffs b).map fun o => (field b (o + 1) 1 * 24 * 48000, 1)
  (v ++ a).foldl addFrac (0, 1)

/-- Order 24: raster rate, layer samples and ingress (R140, R148, R168). -/
def rateFails (m : Image) : Option LoadFail :=
  let rb := m.sec 0x30
  let lb := m.sec 0x20
  let area := (((entryOffs 64 64 16).filter fun o => bit (field lb (o + 23) 1) 0).map (windowArea rb lb)).sum
  let s := streamRate (m.sec 0x24)
  failAt 0x0206 [(0x30, 0, !m.has 0x30 || timingOk m.num m.den (rasterTiming rb)),
    (0x20, 0, !m.has 0x20 || decide (area * m.num ≤ 16000000000 * m.den)),
    (0x24, 0, !m.has 0x24 || decide (s.1 ≤ 25000000000 * s.2))]

/-- Order 25 (R316). -/
def trafficFails (u : UnitFacts) (m : Image) : Option LoadFail :=
  if !m.has 0x70 then none
  else
    let b := m.sec 0x70
    let sum := fun (p : Nat → Bool) => (((List.range 5).filter p).map fun c => field b (4 + 4 * c) 4).sum
    let keep := field b 1 1 ||| 3
    failAt 0x0207 [(0x70, 4, if field b 0 1 = 0 then decide (sum (fun _ => true) ≤ u.ropeRate)
      else decide (sum (fun c => bit (field b 2 1) c) ≤ u.ropeRate) && decide (sum (fun c => !bit (field b 2 1) c) ≤ u.ropeRate) &&
        decide (sum (fun c => bit keep c) ≤ u.ropeRate))]

/-- Orders 26 and 27: rope pixel egress (R31, R32). The SEND transmission is every frame of every stream at the rope's rate,
with preamble and gap, and 400 ns for each hop to the farthest unit of the segment. -/
def pixelFails (u : UnitFacts) (m : Image) : List (Option LoadFail) :=
  let b := m.sec 0x49
  let frames := (entryOffs 16 16 (field b 0 2)).flatMap fun o =>
    let per := max 1 (field b (o + 12) 2)
    (List.range (ceilDiv (field b (o + 8) 4) per)).map fun k => 50 + 2 * min per (field b (o + 8) 4 - k * per) + 20
  let ns := ceilDiv (frames.sum * 8000) (max 1 u.ropeRate) + 400 * (u.segLen - 1)
  [ failAt 0x0208 [(0x49, 0, field b 0 2 == 0 || m.lat != 1)],
    failAt 0x0209 [(0x49, 0, field b 0 2 == 0 || decide (ns + 2000 ≤ m.tMin))] ]

/-! ### Order 29 -/

/-- Do the runs of a list lie within `size` bytes and clear of each other? The place of the first that does not. -/
def runsFit (size : Nat) : List (Nat × Nat × Nat × Nat) → List (Nat × Nat) → Option (Nat × Nat)
  | [], _ => none
  | (ty, off, a, n) :: r, seen =>
    if decide (a + n ≤ size) && !(seen.any fun x => runsMeet x (a, n)) then runsFit size r ((a, n) :: seen) else some (ty, off)

/-- The DRAM runs a topo claims: surface store, frame buffers, spill rings (R140, R382). -/
def Image.dramRuns (m : Image) : List (Nat × Nat × Nat × Nat) :=
  let lb := m.sec 0x20
  let vb := m.sec 0x24
  (if m.has 0x20 then [(0x20, 16, field lb 16 8, field lb 24 8)] else []) ++
    ((videoOffs vb).map fun o => (0x24, o + 32, field vb (o + 32) 8, field vb (o + 27) 1 * bufferBytes (slice vb o 64))) ++
    ((entryOffs 16 32 (field (m.sec 0x60) 0 2)).filter fun o => field (m.sec 0x60) (o + 2) 1 == 1).map fun o =>
      (0x60, o + 16, field (m.sec 0x60) (o + 16) 8, 64 * field (m.sec 0x60) (o + 8) 4)

/-- LIMIT of ready list `l` (Table 13.2). -/
def Image.readyLimit (m : Image) (l : Nat) : Nat :=
  ((m.queueEntries.find? fun e => field e 0 2 == 8 + l).map fun e => field e 8 4).getD 256

/-- Cells of the queue reserves: HOLD queues at stages 1 to 6 (R369). -/
def Image.reservedCells (m : Image) : Nat :=
  ((List.range 8).map m.readyLimit).sum +
    ((m.queueEntries.filter fun e => decide (64 ≤ field e 0 2) && field e 2 1 == 0 && field e 3 1 == 1 && decide (field e 4 1 ≤ 6)).map
      fun e => field e 8 4 * ceilDiv (field e 6 2) 64).sum

/-- A DRAM run that does not fit (order 29). -/
def dramFails (u : UnitFacts) (m : Image) : Option LoadFail :=
  (runsFit u.dram m.dramRuns []).map fun x => (0x020B, x.1, x.2)

/-- Counts within their capacity. -/
def countChecks (m : Image) : List (Nat × Chk) :=
  let c := fun (ty off n most : Nat) => (ty, off, decide (n ≤ most))
  let sb := m.sec 0x24
  [c 0x02 4 (field (m.sec 2) 4 4) 262144, c 0x24 0 (field sb 0 1) 8, c 0x24 1 (field sb 1 1) 2, c 0x24 2 (field sb 2 1) 32,
   c 0x42 0 (field (m.sec 0x42) 0 4) 1048576, c 0x47 0 (field (m.sec 0x47) 0 2) 4096, c 0x48 64 (field (m.sec 0x48) 64 2) 8192,
   c 0x49 0 (field (m.sec 0x49) 0 2) 256, c 0x49 2 (field (m.sec 0x49) 2 1) 64, c 0x54 0 (field (m.sec 0x54) 0 1) 64,
   c 0x60 0 (field (m.sec 0x60) 0 2) 1024] ++
  (loopHeads (m.sec 0x23)).map fun o => c 0x23 (o + 4) (field (m.sec 0x23) (o + 4) 2) (field (m.sec 0x23) (o + 2) 2)

/-- Layers and surfaces (R139, R140). -/
def layerChecks (m : Image) : List (Nat × Chk) :=
  let lb := m.sec 0x20
  let offs := entryOffs 64 64 16
  let fetch := (offs.map fun o => field lb (o + 36) 4).sum
  let sf := m.sec 0x25
  (offs.map fun o => (0x20, o + 32, !bit (field lb (o + 23) 1) 1 ||
      decide (field lb (o + 32) 4 * 1024 + emberSize (field lb (o + 30) 1) * windowArea (m.sec 0x30) lb o ≤ m.regions.getD 3 0 * 1048576))) ++
    [(0x20, 0, decide (fetch * m.num ≤ 51200000000 * m.den)),
     (0x25, 0, decide (((surfHeads sf).map fun o => field sf (o + 12) 4).sum ≤ field lb 24 8))]

/-- Strand, DMX and sACN timing (R196, R199, R205). The wire times of sACN packets are compared exactly, `rate` times their ns. -/
def egressChecks (u : UnitFacts) (m : Image) : List (Nat × Chk) :=
  let st := m.sec 0x45
  let dm := m.sec 0x46
  let so := m.sec 0x48
  let rate := max 1 (if field so 70 1 = 0 then u.trailRate else u.ropeRate)
  let wire := fun n => (66 + n) * 8000
  let sync := if field so 66 2 = 0 then 0 else wire 49
  let data := ((entryOffs 96 16 (field so 64 2)).map fun o => max (field so 76 4 * rate) (wire (126 + field so (o + 2) 2))).sum
  ((entryOffs 0 64 32).map fun o =>
    let e := slice st o 64
    (0x45, o, field e 0 1 == 0 || decide (strandFrameNs e + (if field e 1 1 = 1 then 0 else field e 26 4) + 2000 ≤ m.tMin))) ++
  ((entryOffs 0 32 8).map fun o =>
    let td := (field dm (o + 12) 2 + field dm (o + 14) 2 + (field dm (o + 2) 2 + 1) * 44) * 1000
    (0x46, o, field dm o 1 != 1 || decide (td + 2000 ≤ field dm (o + 8) 2 * m.tMin))) ++
  [(0x48, 0, field so 64 2 == 0 || decide (sync + data + (field so 72 4 + 2000) * rate ≤ m.tMin * rate))]

/-- Firebox figures: DEPTH (R216, R224) and the dissipation estimate (R235). -/
def scanChecks (m : Image) : List (Nat × Chk) :=
  let b := m.sec 0x50
  let dr := m.sec 0x51
  if !m.has 0x50 then []
  else
    let win := if field b 16 4 = 0 then m.tMin else field b 16 4
    let k := field b 2 1
    let p := stepsP (slotNs k (field b 1 1) win) (field b 6 2) (field b 8 2)
    let used := (List.range 768).filter (scanUsed b)
    let colour := fun i => field b (64 + 8 * i) 1 % 4
    let low := fun c => bit (field b 4 1) c
    let power := (used.map fun i => field b (20 + 2 * colour i) 2 * field dr (20 + 2 * colour i) 2 * field b 1 1 *
      fullScale k p (low (colour i)) * 4).sum
    [(0x50, 3, used.all fun i => decide (field b 3 1 ≤ grayDepth k p (low (colour i)))),
     (0x51, 18, !m.has 0x51 || decide (power ≤ field dr 18 2 * 1000000 * m.tMin))]

/-- The multicast groups an image names, once each, with the sources it takes them from; none where any entry of the group takes every
source (R300). -/
def Image.groups (m : Image) : List (Nat × List Nat) :=
  let sb := m.sec 0x24
  let l := ((videoOffs sb).map fun o => (field sb (o + 16) 4, field sb (o + 20) 4)) ++
    (audioOffs sb).map fun o => (field sb (o + 4) 4, field sb (o + 8) 4)
  let l := l.filter fun g => decide (0xE0000000 ≤ g.1) && decide (g.1 < 0xF0000000)
  let u := (entryOffs 16 8 (field (m.sec 0x47) 0 2)).map fun o => sacnGroup (field (m.sec 0x47) o 2)
  let all := ptpGroups.map (fun g => (g, 0)) ++ l ++ u.map fun g => (g, 0)
  (all.map Prod.fst).eraseDups.map fun g =>
    let srcs := (all.filter fun x => x.1 == g).map Prod.snd
    (g, if srcs.contains 0 then [] else srcs.eraseDups)

/-- The checks of order 29. -/
def capacityFails (u : UnitFacts) (m : Image) : List (Option LoadFail) :=
  [ failAt 0x020B (countChecks m ++ (if m.has 0x20 then layerChecks m else [])),
    dramFails u m,
    failAt 0x020B ((0x47, 0, decide (1024 * field (m.sec 0x47) 0 2 ≤ m.regions.getD 8 0 * 1048576)) :: egressChecks u m ++
      scanChecks m ++ [(0x60, 0, decide (m.reservedCells + 64 ≤ field (m.sec 1) 4 1 * 16384 - 1)),
      (0x47, 0, decide (m.groups.length ≤ 8192))]) ]

/-- Orders 19 to 29 in order. The sum of section lengths, of order 28, leaves out unknown OPTIONAL sections, which the load skips
(DESIGN CHOICE, log 82). -/
def budgetFail (u : UnitFacts) (m : Image) : Option LoadFail :=
  let p := m.sec 1
  let total := (m.secs.map fun x => x.2.length).sum
  firstFail ([
    failAt 0x0201 [(1, 0, decide (m.fixedRegions.sum ≤ 128))],
    failAt 0x0202 [(1, 20, decide (2 * m.channels ≤ field p 0 1 * 1048576))],
    failAt 0x0203 [(1, 16, decide (16 * m.endpoints ≤ field p 1 1 * 1048576) && decide (8 * m.endpoints ≤ field p 2 1 * 1048576)),
      (2, 0, decide ((m.sec 2).length + (m.sec 3).length ≤ field p 7 1 * 1048576))]] ++
    planFails m ++ [rateFails m, trafficFails u m] ++ pixelFails u m ++
    [failAt 0x020A [(0, 45, decide (ceilDiv total 16 ≤ m.w * (m.tMin - 2000)))]] ++ capacityFails u m)

/-! ### The whole load -/

/-- What a load comes to: its clamps, and its failure or its topo. -/
structure LoadOut where
  clamps : List LoadClamp
  fail   : Option LoadFail
  topo   : Topo
  deriving DecidableEq, Repr

/-- The topo of a checked image. -/
def topoOf (slot : Nat) (h : Bytes) (m : Image) : Topo :=
  { slot := slot, id := field h 16 4, build := field h 20 4, num := m.num, den := m.den, lat := m.lat, switchW := m.w,
    regions := m.regions, endpoints := m.endpoints, channels := m.channels, sections := m.secs }

/-- Orders 14 to 29, on an image whose header and directory have passed. -/
def loadBody (u : UnitFacts) (slot : Nat) (b : Bytes) (d : List DirEntry) : LoadOut :=
  let secs := imageSecs b d
  let h := b.take 128
  let raw : Image := { num := 0, den := 1, lat := 0, w := 0, secs := secs }
  match secs.findSome? fun p => (lengthFault raw p.1 p.2).map fun o => (0x010E, p.1, o) with
  | some f => { clamps := [], fail := some f, topo := topoOf slot h raw }
  | none =>
    let c := clampImage u.ropeMax h secs
    let m := c.2
    let t := topoOf slot h m
    let dirRsv := (rsv h 15 1 :: rsv h 46 78 :: d.map fun e => (e.at_ + 2, decide (e.flags ≤ 1))).map fun x => ((0 : Nat), x)
    let early := firstFail [
      failAt 0x010F (eachSec m.secs (secRefs m u.dram u.frameMax)),
      failAt 0x0110 (dirRsv ++ eachSec m.secs secRsv)]
    match early with
    | some f => { clamps := c.1, fail := some f, topo := t }
    | none =>
      let ini := initEntries u m (m.sec 0x10) (initHeads (m.sec 0x10))
      let clamps := c.1 ++ initClamps ini.1
      let fail := match ini.2 with
        | some o => some (0x0111, 0x10, o)
        | none => budgetFail u m
      { clamps := clamps, fail := fail, topo := t }

/-- Load an image: the checks of Table 3.9 in order, up to the first that fails. -/
def loadImage (u : UnitFacts) (slot room : Nat) (held : Option Nat) (b : Bytes) : LoadOut :=
  let d := directory b
  let bad : LoadFail → LoadOut := fun f =>
    { clamps := [], fail := some f, topo := topoOf slot [] { num := 0, den := 1, lat := 0, w := 0, secs := [] } }
  match headFail u room held b with
  | some f => bad f
  | none =>
    match dirFail b d with
    | some f => bad f
    | none => loadBody u slot b d

/-- The unit's own facts. -/
def State.unitFacts (s : State) : UnitFacts :=
  { stepping := s.reg (Reg.key 0x1000 3), key := s.ctl.keys.getD 4 none, dram := s.dramSize,
    ropeRate := min (s.lineRate 0) (s.lineRate 1), trailRate := s.lineRate 2, trailSpeed := s.reg (Reg.portSpeed 2),
    ropeMax := min (s.reg (Reg.portMaxFrame 0)) (s.reg (Reg.portMaxFrame 1)),
    frameMax := ((List.range 3).map fun p => s.reg (Reg.portMaxFrame p)).foldl max 0,
    segLen := s.reg Reg.segLen }

/-- Read and check the image in a slot (R81). -/
def State.loadSlot (s : State) (slot : Nat) : LoadOut :=
  let base := s.slotBase slot
  let len := field (s.flashBytes base 128) 8 4
  let take := if len < 4096 ∨ min 50331648 s.slotSize < len then 128 else len
  loadImage s.unitFacts slot s.slotSize (s.fw.slotLens.getD (slot - 1) none) (s.flashBytes base take)

end Sys2Proof.Machine
end

