-- ==== Sys2Proof/Machine/TopoLoad.lean ====
section
/-! DEFINITION. The end of a topo load (R81, R82, R84, R86), and the values the sections of a topo give the dictionary's objects
at activation. -/

namespace Sys2Proof.Machine

/-! ### The end of a load -/

/-- The topo as an image, for the checks that read its sections. -/
def Topo.image (t : Topo) : Image := { num := t.num, den := t.den, lat := t.lat, w := t.switchW, secs := t.sections }

/-- Section `ty` of a topo, empty when it has none. -/
def Topo.sec (t : Topo) (ty : Nat) : Bytes := (t.section? ty).getD []

/-- What the ranges of the dictionary depend on now. -/
def State.ranges (s : State) : RangeCtx :=
  let c := (s.topo.active.map fun t => t.image.ranges).getD { tMin := 0, streams := [], loops := [], bands := [], pool := 0 }
  { c with tMin := s.tMin, pool := s.reg Reg.poolCells }

/-- The OBJECT_INIT entries of a topo. -/
def State.initOf (s : State) (t : Topo) : List InitEntry :=
  (initEntries s.unitFacts t.image (t.sec 0x10) (initHeads (t.sec 0x10))).1

/-- The class of the subindex with key `k`. -/
def keyClass (k : Nat) : Chg := ((odFind (k / 256) (k % 256)).map Obj.chg).getD .none

/-- The value in force of a field; of a field that an ROPING run takes, the one the cairn holds. -/
def State.fieldNow (s : State) (k : Nat) : Nat :=
  if ropeField k then (assocGet s.cairn.fields k).getD (s.reg k) else s.reg k

/-- Is a candidate compatible with the active topo (R86)? -/
def State.compatible (s : State) (t : Topo) : Bool :=
  match s.topo.active with
  | none => false
  | some a =>
    a.num == t.num && a.den == t.den && a.lat == t.lat && a.regions == t.regions &&
      (s.initOf t).all fun e => keyClass e.key != .f || beNat e.val == s.fieldNow e.key

/-- LOAD_WHERE of a place in a section (Table 3.2). -/
def whereOf (ty off : Nat) : Nat := ty * 2 ^ 48 + off

/-- A boundary has applied F values: CAND_STATE follows the candidate's compatibility (R86). -/
def State.candCheck (s : State) : State :=
  match s.topo.cand with
  | none => s
  | some t =>
    if s.reg Reg.candState == 2 || s.reg Reg.candState == 3 then s.setReg Reg.candState (if s.compatible t then 2 else 3) else s

/-- The clamp records of a load (R82). -/
def State.loadClamps (s : State) (l : List LoadClamp) : State :=
  let s := l.foldl (fun (s : State) c =>
    s.clamped 0x8000 0xFF (2, 0) (whereOf c.ty c.off) (ofSigned 8 c.given) (ofSigned 8 c.applied)) s
  s.setReg Reg.clampCount l.length

/-- A load has failed (R81): its result, EV47 for the budget, and at boot the other slot (R51). -/
def State.loadFailed (s : State) (l : LoadSt) (f : LoadFail) : State :=
  let budget := decide (0x0200 ≤ f.1)
  let s := s.setRegs [(Reg.loadResult, if budget then 0x0802 else 0x0801), (Reg.loadDetail, f.1),
                      (Reg.loadWhere, whereOf f.2.1 f.2.2)]
  let s := if budget then s.raise 47 (beBytes 2 f.1) else s
  let s := if l.boot then s else s.cmdState Reg.load 3
  match l.other with
  | some n => { s with topo := { s.topo with load := some { slot := n, boot := l.boot, other := none, since := s.clock.cclk } } }
  | none =>
    ({ s with topo := { s.topo with load := none } }).setReg Reg.candState (if s.mode.mode = Mode.staging then 0 else 4)

/-- A load has succeeded (R84): in STAGING the topo waits for its boundary, elsewhere it is the candidate. -/
def State.loadPassed (s : State) (l : LoadSt) (t : Topo) : State :=
  let s := s.setRegs [(Reg.loadResult, 0), (Reg.loadDetail, 0), (Reg.loadWhere, 0)]
  let s := s.raise 46 (beBytes 1 l.slot ++ beBytes 4 t.id)
  let s := if l.boot then s else s.cmdState Reg.load 2
  let s := { s with topo := { s.topo with load := none } }
  if s.mode.mode = .staging then
    ({ s with topo := { s.topo with staged := some t, loadedAt := s.clock.cclk } }).setReg Reg.candState 0
  else
    ({ s with topo := { s.topo with cand := some t } }).setRegs
      [(Reg.candTopoId, t.id), (Reg.candState, if s.compatible t then 2 else 3)]

/-- TOPO_LOAD_DONE: the slot has been read and checked (R81). A boot load that takes longer than 400 ms, from where the slot's own
read began, fails as its check would (R51; assumption log 81). -/
def State.loadDone (s : State) : State :=
  match s.topo.load with
  | none => s
  | some l =>
    if !s.alive || !s.domOn 7 then s
    else
      let o := s.loadSlot l.slot
      let s := s.loadClamps o.clamps
      match (if l.boot && decide (l.since + ms 400 < s.clock.cclk) then some (o.fail.getD (0, 0, 0)) else o.fail) with
      | some f => s.loadFailed l f
      | none => s.loadPassed l o.topo

/-! ### Objects that take their values from a topo -/

/-- Fields of a layer entry (Table 4.10): offset, size, subindex. -/
def layerFields : List (Nat × Nat × Nat) :=
  [(0, 1, 0x02), (1, 1, 0x0F), (2, 2, 0x03), (4, 2, 0x04), (6, 2, 0x05), (8, 2, 0x06), (10, 2, 0x07), (12, 2, 0x08), (14, 2, 0x09),
   (16, 2, 0x0A), (18, 2, 0x0B), (20, 1, 0x0C), (21, 1, 0x0D), (22, 1, 0x0E), (24, 2, 0x13), (26, 2, 0x14), (28, 2, 0x15),
   (30, 1, 0x11), (32, 4, 0x12), (40, 4, 0x16), (44, 4, 0x17), (48, 4, 0x18), (52, 2, 0x19)]

/-- One bit of a flag byte as a BOOL. -/
def flagOf (v b : Nat) : Nat := if bit v b then 1 else 0

/-- The values of a layer entry, by subindex. -/
def layerValues (e : Bytes) : List (Nat × Nat) :=
  (0x01, flagOf (field e 23 1) 0) :: (0x10, flagOf (field e 23 1) 1) :: layerFields.map fun f => (f.2.2, field e f.1 f.2.1)

/-- Layer `k`'s entry of a LAYERS section. -/
def layerEntry (b : Bytes) (k : Nat) : Bytes := slice b (64 + 64 * k) 64

/-- LAYERS: background, encoding and the 16 layers. -/
def layersRegs (b : Bytes) : List (Nat × Nat) :=
  [(Reg.bgR, field b 0 4), (Reg.bgG, field b 4 4), (Reg.bgB, field b 8 4), (Reg.encode, field b 12 1),
   (Reg.encodeBank, field b 13 1)] ++
  (List.range 16).flatMap fun k => (layerValues (layerEntry b k)).map fun p => (layerReg k p.1, p.2)

/-- The timing set of a RASTER section, the freeze window with it. -/
def timingSet (b : Bytes) : List (Nat × Nat) :=
  rasterTiming b ++
    [(0x09, field b 16 1), (0x0A, field b 18 2), (0x0B, field b 20 2), (0x0C, field b 17 1), (0x0D, flagOf (field b 22 1) 4),
     (0x42, field b 42 2), (0x43, field b 44 2), (0x44, field b 46 2), (0x45, field b 48 2)]

/-- RASTER (Table 5.7). -/
def rasterRegs (b : Bytes) : List (Nat × Nat) :=
  ((timingSet b).map fun p => (timingReg p.1, p.2)) ++
  [(Reg.rsyncCfg, field b 22 1 % 8), (Reg.staticEn, flagOf (field b 22 1) 3), (Reg.frzEnable, flagOf (field b 22 1) 5),
   (Reg.staticK, field b 23 1), (Reg.matchEn, field b 40 1), (Reg.frzF, field b 41 1)] ++
  (List.range 8).map fun i => (Reg.matchLine i, field b (24 + 2 * i) 2)

/-- SCAN (Table 7.1); an EMIT_WIN_NS of 0 becomes T_min (R227). -/
def scanRegs (tMin : Nat) (b : Bytes) : List (Nat × Nat) :=
  [(Reg.driveMode, field b 0 1), (Reg.rows, field b 1 1), (Reg.segments, field b 2 1), (Reg.depth, field b 3 1),
   (Reg.lcEn, field b 4 1 % 16), (Reg.tDeadNs, field b 6 2), (Reg.tPreNs, field b 8 2), (Reg.emitPhaseNs, field b 12 4),
   (Reg.emitWinNs, if field b 16 4 = 0 then tMin else field b 16 4)] ++
  (List.range 4).flatMap fun c => [(Reg.ifullUa c, field b (20 + 2 * c) 2), (Reg.vpreMv c, field b (28 + 2 * c) 2)]

/-- DRAUGHT (Table 7.5). -/
def draughtRegs (b : Bytes) : List (Nat × Nat) :=
  [(Reg.vledMinMv, field b 0 2), (Reg.vledMaxMv, field b 2 2), (Reg.vledInitMv, field b 4 2), (Reg.hrTargetMv, field b 6 2),
   (Reg.hrMarginMv, field b 8 2), (Reg.slewMv, field b 10 1), (Reg.deadbandMv, field b 11 1), (Reg.fswKhz, field b 12 2),
   (Reg.phases, field b 14 1), (Reg.ilimMv, field b 16 2), (Reg.dissLimitMw, field b 18 2)]

/-- DIAG (Table 7.10). -/
def diagRegs (b : Bytes) : List (Nat × Nat) :=
  [(Reg.diagEn, field b 0 1), (Reg.probeEn, field b 1 1), (Reg.shortAction, field b 2 1)] ++
  (List.range 4).map fun c => (Reg.shortMv c, field b (4 + 2 * c) 2)

/-- TEMPCOMP (Table 7.7). -/
def tempRegs (b : Bytes) : List (Nat × Nat) := [(Reg.tcEnable, field b 0 1), (Reg.tempWarnC, field b 2 2)]

/-- STRAND and DMX (Tables 6.8, 6.10). -/
def strandRegs (b : Bytes) : List (Nat × Nat) :=
  (List.range 32).map fun p => (Reg.strandDarkZero p, flagOf (field b (64 * p + 2) 1) 0)

/-- BREAK_US and MAB_US of the DMX ports. -/
def dmxRegs (b : Bytes) : List (Nat × Nat) :=
  (List.range 8).flatMap fun n => [(Reg.dmxBreakUs n, field b (32 * n + 12) 2), (Reg.dmxMabUs n, field b (32 * n + 14) 2)]

/-- SACN_OUT (Table 6.12). -/
def sacnRegs (b : Bytes) : List (Nat × Nat) :=
  [(Reg.priority, field b 68 1), (Reg.sourceName, field b 0 64), (Reg.preview, flagOf (field b 69 1) 0)]

/-- QUEUES (R382). -/
def queueRegs (b : Bytes) : List (Nat × Nat) := [(Reg.poolLowCells, field b 2 4), (Reg.walkPeriodUs, field b 6 2)]

/-- PLAYOUT_DELAY of the declared streams and GAIN of the declared bands (Tables 4.12, 4.14). -/
def streamRegs (b : Bytes) : List (Nat × Nat) :=
  ((videoOffs b).map fun o => (Reg.streamPlayoutDelay (field b o 1), field b (o + 28) 4)) ++
  (bandOffs b).map fun o => (Reg.bandGain (field b o 1), field b (o + 28) 2)

/-- Every key that a topo gives a value, with the value of the topo, or where it has no such section the default. -/
def topoRegs (t : Topo) : List (Nat × Nat) :=
  let from_ := fun (ty : Nat) (f : Bytes → List (Nat × Nat)) => match t.section? ty with
    | some b => f b
    | none => (f []).map fun p => (p.1, regDefault p.1)
  let diag := match t.section? 0x53 with
    | some b => diagRegs b
    | none => [(Reg.diagEn, 1), (Reg.probeEn, 0), (Reg.shortAction, 1)] ++ (List.range 4).map fun c => (Reg.shortMv c, 2500)
  ((List.range 8).map fun i => (Reg.streamPlayoutDelay i, regDefault (Reg.streamPlayoutDelay i))) ++
    ((List.range 32).map fun i => (Reg.bandGain i, regDefault (Reg.bandGain i))) ++ streamRegs (t.sec 0x24) ++
    from_ 0x20 layersRegs ++ from_ 0x30 rasterRegs ++ from_ 0x50 (scanRegs t.image.tMin) ++ from_ 0x51 draughtRegs ++
    from_ 0x52 tempRegs ++ diag ++ from_ 0x45 strandRegs ++ from_ 0x46 dmxRegs ++ from_ 0x48 sacnRegs ++ from_ 0x60 queueRegs

/-! ### Rows -/

/-- TOPO_LOAD_DONE (R84). -/
def execTopoLoadDone (s : State) : Host.Outcome State Fault Refusal := s.done s.loadDone

end Sys2Proof.Machine
end

