-- ==== Sys2Proof/Machine/Views.lean ====
section
/-! DEFINITION. What the subindices that show the state of a block read as: every RO or RC subindex whose value is not a
register of its own. A view is a stored value (R339), an OCT being its bytes as one number. -/

namespace Sys2Proof.Machine

/-! ### Queues (Table 13.2, Table 13.7) -/

/-- What 8801h shows of a queue. -/
structure QueueView where
  kind     : Nat := 0
  hold     : Bool := false
  stage    : Nat := 15
  depth    : Nat := 0
  retained : Nat := 0
  limit    : Nat := 0
  cells    : Nat := 0
  reserve  : Nat := 0
  lost     : Nat := 0
  high     : Nat := 0
  bp       : Nat := 0
  mark     : Nat := 0
  deriving DecidableEq, Repr

/-- HIGH of a device queue of records. -/
def State.highOf (s : State) (n : Nat) : Nat := (assocGet s.q.highs n).getD 0

/-- A device queue of one-cell records: its depth, LIMIT and LOST. -/
def State.recordView (s : State) (n depth limit lost : Nat) : QueueView :=
  { kind := 1, depth := depth, limit := limit, cells := depth, lost := lost, high := s.highOf n }

/-- A linked or receive queue. -/
def Queue.view (kind : Nat) (q : Queue) : QueueView :=
  { kind := kind, hold := q.hold, stage := q.stage, depth := q.depth, retained := q.retained, limit := q.limit, cells := q.cells,
    reserve := q.reserve, lost := q.lost, high := q.high, bp := q.bp, mark := q.mark }

/-- A spill queue: its head and tail stand in registers and its ring in DRAM, so it holds no cell. -/
def Spill.view (q : Spill) : QueueView :=
  { kind := 3, hold := q.hold, stage := q.stage, depth := q.depth, limit := q.limit, lost := q.lost, high := q.high, bp := q.bp }

/-- Device queues 8 to 55 (Table 13.2). -/
def State.deviceView (s : State) (n : Nat) : QueueView :=
  if n < 16 then
    let d := (s.readyList (n - 8)).length
    let l := s.sched.limits.getD (n - 8) 256
    { s.recordView n d l 0 with hold := true, stage := 6, reserve := l }
  else if n < 19 then
    let p := n - 16
    { s.recordView n (s.port p).tsq.length (s.reg (Reg.portTsqDepth p)) (s.reg (Reg.tsqTsqLost p)) with
      high := s.reg (Reg.tsqTsqHigh p) }
  else if n < 22 then
    let d := (s.port (n - 19)).diag
    { s.recordView n d.length 64 (s.reg (Reg.diagDiagLost (n - 19))) with
      cells := (d.map fun x => cellsOf (16 + x.snap.length)).sum }
  else if n = 22 then s.recordView n s.ev.queue.length 1024 (s.reg Reg.evqLost)
  else if n = 23 then s.recordView n s.sched.trace.length 4096 (s.reg Reg.traceLost)
  else if n = 24 then s.recordView n s.belay.queue.length 256 (s.reg Reg.faultLost)
  else if n = 25 then s.recordView n s.report.clamps.length 256 (s.reg Reg.clampLost)
  else if n = 26 then s.recordView n s.report.rejects.length 256 (s.reg Reg.rejectLost)
  else if n = 27 then
    { s.recordView n s.egress.resp.length 256 s.egress.respLost with
      cells := (s.egress.resp.map fun r => cellsOf (16 + r.data.length)).sum }
  else if n < 36 then
    let x := s.stream (n - 28)
    { s.recordView n (x.items.length - x.retained) (((s.videoEntry (n - 28)).map fun e => field e 2 1).getD 0) x.lost with
      retained := x.retained, cells := x.items.length, high := x.high, mark := x.mark }
  else if n < 52 then
    let x := s.loop (n - 36)
    { s.recordView n x.items.length x.cap x.lost with mark := x.mark }
  else
    let k := n - 52
    s.recordView n (s.eci k).queue.length 64 (s.reg (Reg.eciLost k))

/-- What 8801h shows of queue `n`. -/
def State.queueView (s : State) (n : Nat) : QueueView :=
  if n < 8 then ((s.queue? n).map fun q => q.view 1).getD { kind := 1, hold := true, stage := 7 }
  else if n < 56 then s.deviceView n
  else if n < 992 then ((s.queue? n).map fun q => q.view 2).getD {}
  else ((s.spill? n).map Spill.view).getD {}

/-- The queue Q_SEL names; Q_BP_CYCLES counts up to now. -/
def State.selQueue (s : State) : QueueView :=
  let n := s.reg Reg.qSel
  { s.queueView n with bp := min ((s.queueView n).bp + s.bpLate n) (two64 - 1) }

/-- 8801h.02 to 8801h.0D. -/
def QueueView.field (q : QueueView) (sub : Nat) : Nat :=
  match sub with
  | 0x02 => q.kind
  | 0x03 => if q.hold then 1 else 0
  | 0x04 => q.stage
  | 0x05 => q.depth
  | 0x06 => q.retained
  | 0x07 => q.limit
  | 0x08 => q.cells
  | 0x09 => q.reserve
  | 0x0A => q.lost
  | 0x0B => q.high
  | 0x0C => q.bp
  | _ => q.mark

/-- Spill window 8C00h + q: DEPTH, LIMIT, POLICY, LOST, IN_DRAM, HIGH. -/
def State.spillView (s : State) (n sub : Nat) : Option Nat :=
  let q := assocGet s.q.spills n
  let of_ := fun (f : Spill → Nat) => some ((q.map f).getD 0)
  match sub with
  | 0x03 => of_ Spill.depth
  | 0x04 => of_ Spill.limit
  | 0x05 => of_ fun x => if x.hold then 1 else 0
  | 0x06 => of_ Spill.lost
  | 0x08 => of_ Spill.ringN
  | 0x09 => of_ Spill.high
  | _ => none

/-! ### Modes, classes, sessions -/

/-- SHOW_BLOCK (Table 2.5). -/
def State.showBlock (s : State) : Nat :=
  let put := fun (b : Bool) (v : Nat) => if b then v else 0
  let offDom := (List.range 10).any fun d => bit (topoDomains s.topo.active) d && !s.domOn d
  put s.topo.active.isNone 1 + put (!s.timeLocked) 2 + put (!s.mode.armed) 4 + put (s.alive && s.belay.darkOut) 8 + put (!s.pins.darkN) 16 +
    put (s.cal.run.isSome || s.cal.want != 0) 32 + put offDom 64

/-- Earliest time of effect waiting. -/
def State.timedNext (s : State) : Nat :=
  match s.stage.timed.map TimedW.due with
  | [] => 0
  | t :: r => time80 (r.foldl min t)

/-- The 32 bytes of SESS_INFO for table entry `n`. -/
def State.sessInfo (s : State) (n : Nat) : Nat :=
  match s.ctl.sessions.find? fun x => x.slot == n with
  | none => 0
  | some x =>
    let role := match x.role with
      | .observer => 0
      | .operator => 1
      | .installer => 2
      | .service => 3
    beNat (beBytes 4 x.id ++ beBytes 1 role ++ beBytes 1 0 ++ beBytes 2 x.port ++ beBytes 4 x.addr ++ beBytes 10 (time80 x.opened) ++
      beBytes 4 ((s.clock.cclk - x.last) / 1000000) ++ beBytes 4 x.nextSeq ++ beBytes 2 0)

/-- Bit n: key slot n holds a key. -/
def State.keyState (s : State) : Nat :=
  ((List.range 4).map fun n => if ((s.ctl.keys.getD n none).isSome) then 2 ^ n else 0).sum

/-- Chapters 01, 02, 03, 12 and 1Fxxh. -/
def State.viewSystem (s : State) (o : Origin) (k : Nat) : Option Nat :=
  if k = Reg.modeR then some s.mode.mode.code
  else if k = Reg.showBlock then some s.showBlock
  else if k = Reg.stagedCount then some (dedupe (s.stage.staged ++ s.stage.late.staged)).length
  else if k = Reg.timedPending then some s.stage.timed.length
  else if k = Reg.timedNext then some s.timedNext
  else if k = Reg.clampDepth then some s.report.clamps.length
  else if k = Reg.rejectDepth then some s.report.rejects.length
  else if k = Reg.keyState_8000 then some (if (s.ctl.keys.getD 4 none).isSome then 1 else 0)
  else if k = Reg.keyState_3400 then some s.keyState
  else if k = Reg.sessionsOpen then some s.ctl.sessions.length
  else if k = Reg.mySession then some o.source.2
  else if k = Reg.sessInfo then some (s.sessInfo (s.reg Reg.sessSel))
  else if k = Reg.lclRole then some (if s.pins.keyEn then 2 else 1)
  else none

/-! ### Time and network -/

/-- Root mean square of the offsets of the last 64 measurements, in ps (R258). -/
def State.residRms (s : State) : Nat :=
  if s.servo = 5 then 0
  else if s.servo ≠ 2 then 0xFFFFFFFF
  else
    let l := s.ptp.meas
    min 0xFFFFFFFE (isqrt ((l.map fun z => (z * z).toNat).sum / max 1 l.length))

/-- Chapters 09, 10 and 11. -/
def State.viewNet (s : State) (k : Nat) : Option Nat :=
  if k = Reg.clockNow then some (time80 s.now)
  else if k = Reg.holdoverMs then
    some (if s.servo = 3 ∨ s.servo = 4 then (s.clock.cclk - s.ptp.holdFrom) / 1000000 else 0)
  else if 0x211000 ≤ k ∧ k < 0x211400 ∧ k % 256 = 3 then some (s.eci (k / 256 - 0x2110)).queue.length
  else if k = Reg.tsqTsqLevel 0 ∨ k = Reg.tsqTsqLevel 1 ∨ k = Reg.tsqTsqLevel 2 then some (s.port (k / 16384 % 4)).tsq.length
  else if k = Reg.diagDiagDepth 0 ∨ k = Reg.diagDiagDepth 1 ∨ k = Reg.diagDiagDepth 2 then some (s.port (k / 16384 % 4)).diag.length
  else if k = Reg.ptpResidRms then some s.residRms
  else if k = Reg.modeMismatch then some (if s.reg Reg.ropeMode = s.ownRopeMode then 0 else 1)
  else none

/-! ### Composition and raster -/

/-- STATUS of layer `n` (Table 4.2). -/
def State.layerStatusOf (s : State) (n : Nat) : Nat :=
  let l := s.layer n
  (if l.waiting.isSome || (l.next.isSome && l.commit) then 1 else 0) + (if l.ember then 2 else 0) + (if l.packedErr then 4 else 0)

/-- The layer that uses scaler `j`, or 0xFF. -/
def State.scalerUserOf (s : State) (j : Nat) : Nat :=
  ((List.range 16).find? fun n => (s.layer n).f 0x0C == j && (s.layer n).f 0x01 == 1).getD 0xFF

/-- Ember KB in valid use. -/
def State.emberKbOf (s : State) : Nat :=
  ((List.range 16).map fun n => if (s.layer n).ember then ceilDiv (s.emberBytes n) 1024 else 0).sum

/-- Subindices of stream `i` that show its state. -/
def State.streamView (s : State) (i sub : Nat) : Option Nat :=
  let x := s.stream i
  match sub with
  | 0x01 => some (if (s.videoEntry i).isNone then 0 else if x.live then 2 else 1)
  | 0x0B => some x.mark
  | 0x0C => some (x.items.length - x.retained)
  | _ => none

/-- Subindices of loop `j` that show its state. -/
def State.loopView (s : State) (j sub : Nat) : Option Nat :=
  let x := s.loop j
  match sub with
  | 0x01 => some x.state
  | 0x04 => some (x.pos.getD 0)
  | 0x07 => some x.mark
  | 0x08 => some x.items.length
  | _ => none

/-- Chapter 04. -/
def State.viewComp (s : State) (k : Nat) : Option Nat :=
  let ix := k / 256
  let sub := k % 256
  if 0x4100 ≤ ix ∧ ix < 0x4200 ∧ ix % 16 = 0 ∧ sub = 0x1F then some (s.layerStatusOf (ix / 16 % 16))
  else if ix = 0x4200 then some (s.scalerUserOf (sub - 1))
  else if k = Reg.emberKb then some s.emberKbOf
  else if 0x4500 ≤ ix ∧ ix < 0x4508 then s.streamView (ix - 0x4500) sub
  else if 0x4510 ≤ ix ∧ ix < 0x4520 then s.loopView (ix - 0x4510) sub
  else if k = Reg.surfState then some (s.surfState (s.reg Reg.surfSel))
  else if k = Reg.storeFree then some ((s.storeSize - s.storeUsed) / 1024)
  else if ix = 0x4601 then some (s.bandM (sub - 1))
  else none

/-- The raster figures of 5001h, from the latched timing (R145); without a raster, from 5000h. -/
def State.viewRaster (s : State) (k : Nat) : Option Nat :=
  let t := if s.lastTiming.isEmpty then timingSubs.map fun x => (x, s.reg (timingReg x)) else s.lastTiming
  let num := s.reg Reg.tickNum
  let den := s.reg Reg.tickDen
  if k = Reg.htotal then some (hTotal t)
  else if k = Reg.vtotal then some (Machine.vTotal t)
  else if k = Reg.pixelRate then some (hTotal t * Machine.vTotal t * num / (den * 1000))
  else if k = Reg.linePs then some (roundUp (den * nsPerSec * 1000) (num * max 1 (Machine.vTotal t)))
  else if k = Reg.sobNs then some (lineOffset num den (max 1 (Machine.vTotal t)) (sobLine t))
  else if k = Reg.blankState then some s.ras.blank
  else if k = Reg.frameLock then some (if s.frameLock then 1 else 0)
  else if k = Reg.timingPend then some (if s.ras.pend.isSome || s.ras.fresh.isSome || (s.ras.next.isSome && s.ras.commit) then 1 else 0)
  else none

/-! ### Mapping, egress, firebox, calibration -/

/-- Chapter 06. -/
def State.viewEgress (s : State) (k : Nat) : Option Nat :=
  let ix := k / 256
  let sub := k % 256
  if k = Reg.endpoints then some ((s.topo.active.map Topo.endpoints).getD 0)
  else if k = Reg.channels then some ((s.topo.active.map Topo.channels).getD 0)
  else if k = Reg.mapEntries then some s.mapCount
  else if k = Reg.groupLevel then some (s.group (s.reg Reg.groupSel)).level
  else if k = Reg.groupEffective then some (s.levelOf (s.reg Reg.groupSel))
  else if k = Reg.fadeLevel then some (s.fadeNow (s.reg Reg.fadeSel))
  else if k = Reg.fadeState then some (if s.buf.fades.any fun f => f.slot == s.reg Reg.fadeSel && !f.ended then 1 else 0)
  else if k = Reg.fadesActive then some (s.buf.fades.filter fun f => !f.ended).length
  else if 0x6100 ≤ ix ∧ ix < 0x6120 ∧ sub = 1 then some (s.strandStateOf (ix - 0x6100))
  else if 0x6100 ≤ ix ∧ ix < 0x6120 ∧ sub = 2 then
    some (if field (s.strandEntry (ix - 0x6100)) 0 1 = 0 then 0 else strandFrameNs (s.strandEntry (ix - 0x6100)))
  else if 0x6200 ≤ ix ∧ ix < 0x6208 ∧ sub = 1 then some (s.dmxStateOf (ix - 0x6200))
  else if k = Reg.discState then some (s.rdm (s.reg Reg.discSel)).disc
  else if k = Reg.universes_6300 then some s.uniCount
  else if k = Reg.sources then some s.liveSources
  else if k = Reg.uniState then some (s.uniStateOf (s.reg Reg.uniSel))
  else if k = Reg.uniPriority then some (s.uni (s.reg Reg.uniSel)).priority
  else if k = Reg.uniSources then some (s.uni (s.reg Reg.uniSel)).srcs.length
  else if k = Reg.universes_6340 then some s.outCount
  else if k = Reg.txStreams then some s.pxTx
  else if k = Reg.rxWindows then some s.pxRx
  else none

/-- Chapters 07 and 08. -/
def State.viewFirebox (s : State) (k : Nat) : Option Nat :=
  let ix := k / 256
  let sub := k % 256
  let c := s.calView
  if k = Reg.driveState then some s.driveStateOf
  else if k = Reg.vledSetMv then some s.vledSetOf
  else if k = Reg.openLamps then some (s.lampsOf 2)
  else if k = Reg.shortLamps then some (s.lampsOf 3)
  else if k = Reg.unverifiedLamps then some (s.lampsOf 4)
  else if k = Reg.lampStatus then some (s.lampStatusOf (s.reg Reg.lampSel))
  else if k = Reg.probePeriod then some s.probePeriodOf
  else if k = Reg.sparesActive then some s.fbx.spares.length
  else if k = Reg.bandgapRatio then some (if s.domOn 8 then Config.freeBandgap s.tickIdx % 65536 else 32768)
  else if ix = 0x7801 ∧ 1 ≤ sub ∧ sub ≤ 8 then some (c.bankRms (sub - 1))
  else if ix = 0x7801 ∧ 9 ≤ sub ∧ sub ≤ 16 then some (c.bankWorst (sub - 9))
  else if ix = 0x7802 ∧ 1 ≤ sub ∧ sub ≤ 8 then some (ofSigned 2 (c.ntcOff.getD (sub - 1) 0))
  else if k = Reg.rBias then some c.rBias
  else if k = Reg.eyeWA then some (if s.portUp 0 then s.reg k else 0)
  else if k = Reg.eyeWB then some (if s.portUp 1 then s.reg k else 0)
  else if ix = 0x7803 ∧ 1 ≤ sub ∧ sub ≤ 6 then some (c.tslat.getD (sub - 1) 0)
  else none

/-! ### Queues, scheduler, belay, power -/

/-- The 16 bytes of ENGINE_STATE (Table 14.4). -/
def State.engineView (s : State) (e : Nat) : Nat :=
  let x := s.engine e
  let id := fun (t : Option Task) => beBytes 4 ((t.map Task.id).getD 0xFFFFFFFF)
  let waits := ((x.biv[0]?).map Task.waiting).getD false
  let resumed := (x.run.map Task.resumed).getD false
  beNat (id x.run ++ id x.biv[0]? ++ id x.biv[1]? ++ beBytes 1 ((if waits then 2 else 0) + (if resumed then 1 else 0)) ++
    beBytes 1 (Config.freeBusy e s.tickIdx % 256) ++ beBytes 2 0)

/-- Chapters 13 and 14. -/
def State.viewSched (s : State) (o : Origin) (k : Nat) : Option Nat :=
  let ix := k / 256
  let sub := k % 256
  if k = Reg.poolFree then some s.poolFree
  else if k = Reg.belayReserve then some (64 - s.q.belayUsed)
  else if ix = 0x8801 ∧ 2 ≤ sub then some (s.selQueue.field sub)
  else if 0x8C00 ≤ ix ∧ ix < 0x8C20 then s.spillView (ix - 0x8C00) sub
  else if k = Reg.inFlight then some s.inFlight.length
  else if ix = 0x8901 then some (s.engineView (sub - 1))
  else if k = Reg.traceDepth then some s.sched.trace.length
  else if k = Reg.cbState then some (beNat (s.cb (s.reg Reg.cbSel)).bytes)
  else if k = Reg.acqResult then some (((s.carabs.result.find? fun p => p.1 == o).map Prod.snd).getD 0)
  else if k = Reg.heldMask then some (s.cbMask fun c => c.owner.isSome)
  else if k = Reg.brokenMask then some (s.cbMask Carab.broken)
  else if k = Reg.myHeld then some (s.cbMask fun c => c.owner == some o.holder)
  else none

/-- FAULT_N_STATE: the pin's level in bit 3 (R436, R448). -/
def State.faultNStateOf (s : State) : Nat := (if s.faultN then 8 else 0) + s.faultHold

/-- Chapters 15 to 17. -/
def State.viewBelay (s : State) (k : Nat) : Option Nat :=
  let ix := k / 256
  let sub := k % 256
  let rcd := fun (r : Option FaultRec) => some ((r.map fun x => beNat x.bytes).getD 0)
  if k = Reg.firstFault then rcd s.belay.latch
  else if k = Reg.faultNState then some s.faultNStateOf
  else if k = Reg.darkState then some ((if s.belay.darkOut then 2 else 0) + (if s.belay.latchDark then 1 else 0))
  else if k = Reg.hwCause then some s.belay.hwCause
  else if k = Reg.activeMask then some s.activeFaults
  else if k = Reg.pendingMask then some s.pendingFaults
  else if k = Reg.guarantee then some s.guaranteeBits
  else if k = Reg.lastBootFault then rcd s.belay.lastBoot
  else if k = Reg.restarts then some (min 3 s.recentRestarts.length)
  else if k = Reg.enginesOut then some s.belay.enginesOut
  else if k = Reg.leakedCells then some s.belay.leaked
  else if k = Reg.faultDepth then some s.belay.queue.length
  else if k = Reg.evqDepth then some s.ev.queue.length
  else if k = Reg.irqState then some s.irqState
  else if ix = 0x9200 ∧ 1 ≤ sub ∧ sub ≤ 10 then some (s.power.dom.getD (sub - 1) 0)
  else if k = Reg.needed then some s.neededMask
  else if k = Reg.tjFbx then some (if s.domOn 8 then s.reg k else 0x8000)
  else none

/-- The view of a subindex, for reader `o`; none when it reads as its register. -/
def State.viewOf (s : State) (o : Origin) (k : Nat) : Option Nat :=
  match k / 1048576 with
  | 1 => s.viewSystem o k
  | 2 | 3 => if 0x340000 ≤ k then s.viewSystem o k else s.viewNet k
  | 4 => s.viewComp k
  | 5 => s.viewRaster k
  | 6 => s.viewEgress k
  | 7 => if k = Reg.ptpResidRms then s.viewNet k else s.viewFirebox k
  | 8 => if k = Reg.keyState_8000 then s.viewSystem o k else s.viewSched o k
  | 9 => s.viewBelay k
  | _ => none

end Sys2Proof.Machine
end

