-- ==== Sys2Proof/Machine/Access.lean ====
section
/-! DEFINITION. Reads, writes, timed writes and descriptions of subindices (R11 to R17, R55 to R62, R338 to R341, R345, R360,
R361, R486, R487): what a network session and the local port share. -/

namespace Sys2Proof.Machine

/-! ### Who asks, and checks 1 to 4 of R16 -/

/-- Roles in order (R15). -/
def Role.rank : Role → Nat
  | .observer => 0
  | .operator => 1
  | .installer => 2
  | .service => 3

/-- The role of a role code. -/
def roleOf (n : Nat) : Role := slotRole n

/-- The role an origin holds: a session's own, the local port's by KEY_EN (R359). None when no such session is open. -/
def State.roleOf (s : State) (o : Origin) : Option Role :=
  match o with
  | .session id => (s.session id).map Session.role
  | .localPort => some (if s.lcl.keyEn then .installer else .operator)

/-- The role a write counts with: the local port may write KEY_SERVICE while its slot is empty and KEY_EN is high (R356). -/
def State.writeRole (s : State) (o : Origin) (r : Role) (ix sub : Nat) : Role :=
  if o = .localPort ∧ Reg.key ix sub = Reg.keyService ∧ s.lcl.keyEn ∧ (s.ctl.keys.getD 3 none).isNone then .service else r

/-- Checks 1 to 4 of R16 and the domain check of R341: the abort code, or 0 with the subindex's row. -/
def State.checkTarget (s : State) (r need : Role) (ix sub : Nat) (own : Bool) (acc : Acc → Bool) : Nat × Option Obj :=
  if (decide (0xF000 ≤ ix) && r != .service) || !odHasObject ix then (0x0101, none)
  else
    match odFind ix sub with
    | none => (0x0102, none)
    | some x =>
      if r.rank < (if own then x.role else need).rank then (0x0201, none)
      else if !acc x.acc then (0x0202, none)
      else if s.alive && !s.domOn (odDomain ix) then (0x0601, none)
      else (0, some x)

/-- May a subindex of this code be written (R12)? -/
def Acc.writable : Acc → Bool
  | .rw | .wo | .w1c | .cmd => true
  | .ro | .rc => false

/-! ### Checks 5 to 8, and clamping -/

/-- Checks 5 to 8 of R16 on a write of `val` with TYPE `ty` to row `x`. -/
def State.checkValue (s : State) (x : Obj) (ix sub ty : Nat) (val : Bytes) : Nat :=
  if (x.chg == .f && s.mode.mode != .staging) || s.modeBound ix sub then 0x0203
  else if x.ty = .domain ∨ ty ≠ x.ty.code then 0x0103
  else if !x.ty.lenOk val.length then 0x0104
  else if !x.ty.encOk val || !x.rng.listed s.ranges (beNat val) || !s.recordOk ix sub val then 0x0103
  else 0

/-- All of R16 on a write or timed write. -/
def State.checkWrite (s : State) (o : Origin) (r : Role) (ix sub ty : Nat) (val : Bytes) : Nat × Option Obj :=
  match s.checkTarget (s.writeRole o r ix sub) .observer ix sub true Acc.writable with
  | (c, none) => (c, none)
  | (_, some x) => (s.checkValue x ix sub ty val, some x)

/-- R17: the value applied, with a clamp record for each quantity that changed. The flag says that one did. -/
def State.clampWrite (s : State) (o : Origin) (x : Obj) (ix sub : Nat) (val : Bytes) : Bool × Bytes × State :=
  let rc := recordClamp ix sub val
  let v := x.ty.store val
  let a := x.applied s.ranges v
  let pairs := if x.clamps s.ranges v then [(x.wide v, x.wide a)] else rc.1.map Prod.snd
  let out := match x.ty with
    | .oct _ _ => rc.2
    | .str _ => beBytes x.ty.size v
    | _ => beBytes x.ty.size a
  (!pairs.isEmpty, out, pairs.foldl (fun (s : State) p => s.clamped ix sub o.source 0 p.1 p.2) s)

/-! ### Writes -/

/-- A write is rejected on arrival: a reject record with DETAIL 0 and EV45 (R361). -/
def State.refuse (s : State) (o : Origin) (ix sub code effect : Nat) : Nat × State :=
  (code, if s.alive then s.rejected ix sub o.source code 0 effect else s)

/-- A command's write is refused on arrival by the rule that owns it: its state reads 3 as well (R487). -/
def State.refuseCmd (s : State) (o : Origin) (x : Obj) (ix sub code effect : Nat) : Nat × State :=
  (if x.acc == .cmd then s.cmdState (Reg.key ix sub) 3 else s).refuse o ix sub code effect

/-- A command of class L queues to its boundary; a SWITCH waits there (R85, R487). -/
def State.queueCmd (s : State) (c : LCmd) : State :=
  let g := s.stage
  let s := if s.pastBoundary then { s with stage := { g with late := { g.late with cmds := g.late.cmds ++ [c] } } }
    else { s with stage := { g with cmds := g.cmds ++ [c] } }
  if Reg.key c.ix c.sub = Reg.switch then { s with topo := { s.topo with switch := .waiting } } else s

/-- Writing 1 to a bit clears it (R12). -/
def State.clearOnes (s : State) (k v : Nat) : State :=
  s.setReg k (s.reg k &&& ((two64 - 1) ^^^ (v % two64 &&& (s.freshMask ^^^ (two64 - 1)))))

/-- A completed S write: the staged shadow takes the value (R57). -/
def State.stageWrite (s : State) (k v : Nat) : State :=
  let g := s.stage
  if s.pastBoundary then { s with stage := { g with late := { g.late with staged := assocSet g.late.staged k v } } }
  else { s with stage := { g with staged := assocSet g.staged k v } }

/-- A completed L or F write waits for its boundary (R56). -/
def State.liveWrite (s : State) (k v : Nat) : State :=
  let g := s.stage
  if s.pastBoundary then { s with stage := { g with late := { g.late with live := assocSet g.late.live k v } } }
  else { s with stage := { g with live := assocSet g.live k v } }

/-- A write that has passed its checks takes effect by its change class (R11, R14, R56, R57). A setting the specification keeps
in the cairn is stored there when it is written (R44). -/
def State.putWrite (s : State) (o : Origin) (x : Obj) (ix sub : Nat) (val : Bytes) : Nat × State :=
  let k := Reg.key ix sub
  if x.acc = .cmd then
    let c : LCmd := { org := o, ix := ix, sub := sub, val := val }
    if x.chg = .l then (0, s.queueCmd c)
    else
      let r := s.cmdNow c
      if r.1 = 0 then r else r.2.refuse o ix sub r.1 0
  else if x.acc = .w1c then (0, s.clearOnes k (beNat val))
  else
    match x.chg with
    | .s => (0, s.stageWrite k (beNat val))
    | .l | .f => (0, (if x.cairn then s.cairnField k (beNat val) else s).liveWrite k (beNat val))
    | .none => (0, s.applySet [(k, beNat val)])

/-- WRITE: the status and the machine. A command clamped on its arrival and refused at its completion leaves its clamp record and
EV44 beside the reject record: R17 makes the record when the value is clamped, and R487 takes nothing back (DESIGN CHOICE, log
80). -/
def State.opWrite (s : State) (o : Origin) (r : Role) (ix sub ty : Nat) (val : Bytes) : Nat × State :=
  match s.checkWrite o r ix sub ty val with
  | (c, none) => s.refuse o ix sub c 0
  | (c, some x) =>
    if c ≠ 0 then s.refuse o ix sub c 0
    else if s.arrivalRefused ix sub val false ≠ 0 then s.refuseCmd o x ix sub (s.arrivalRefused ix sub val false) 0
    else if x.acc = .cmd ∧ x.chg = .l ∧ s.cmdsFull ix sub val then s.refuseCmd o x ix sub 0x0401 0
    else
      let q := s.clampWrite o x ix sub val
      let w := q.2.2.putWrite o x ix sub q.2.1
      (if w.1 = 0 ∧ q.1 then 1 else w.1, w.2)

/-! ### Timed writes (R61, R62) -/

/-- TIMED_WRITE: the status and the machine. `time` is the TIME80 of effect. The refusal of the rule that owns the subindex, a
SWITCH's or an armed injector's, stands with the checks on arrival, before TIME is checked (DESIGN CHOICE, log 80). -/
def State.opTimed (s : State) (o : Origin) (r : Role) (ix sub ty : Nat) (val : Bytes) (time : Nat) : Nat × State :=
  let at_ := if time80Ok time then ofTime80 time else 0
  match s.checkWrite o r ix sub ty val with
  | (c, none) => s.refuse o ix sub c at_
  | (c, some x) =>
    if c ≠ 0 then s.refuse o ix sub c at_
    else if s.arrivalRefused ix sub val true ≠ 0 then s.refuseCmd o x ix sub (s.arrivalRefused ix sub val true) at_
    else if !time80Ok time then s.refuse o ix sub 0x0103 0
    else
      let q := s.clampWrite o x ix sub val
      let s := q.2.2
      if at_ ≤ s.now then s.refuse o ix sub 0x0501 at_
      else if 1024 ≤ s.stage.timed.length then s.refuse o ix sub 0x0401 at_
      else
        let t : TimedW := { org := o, ix := ix, sub := sub, val := q.2.1, due := at_ }
        let s := { s with stage := { s.stage with timed := s.stage.timed ++ [t] } }
        let s := if Reg.key ix sub = Reg.switch then { s with topo := { s.topo with switch := .waiting } } else s
        (if q.1 then 1 else 0, s)

/-- One timed write acts at its boundary: `r` holds the values gathered so far (R62). A W1C target has no class of R62: it acts at
that boundary too, in its place among the others (DESIGN CHOICE, log 80), and leaves the bits that the boundary itself has set
(R13). -/
def State.timedOne (r : List (Nat × Nat) × State) (t : TimedW) : List (Nat × Nat) × State :=
  let k := Reg.key t.ix t.sub
  let c : LCmd := { org := t.org, ix := t.ix, sub := t.sub, val := t.val, effect := t.due }
  match odFind t.ix t.sub with
  | none => r
  | some x =>
    if x.acc = .cmd then
      if k = Reg.commit then r else ([], (State.flushSet r).cmdAt c)
    else if x.acc = .w1c then
      let s := State.flushSet r
      ([], s.clearOnes k (beNat t.val))
    else
      match x.chg with
      | .s => (r.1, { r.2 with stage := { r.2.stage with staged := assocSet r.2.stage.staged k (beNat t.val) } })
      | .f =>
        if r.2.mode.mode = .staging then (r.1 ++ [(k, beNat t.val)], r.2)
        else (r.1, r.2.rejected t.ix t.sub t.org.source 0x0203 1 t.due)
      | .l | .none => (r.1 ++ [(k, beNat t.val)], r.2)

/-- Step 2 of R59: the timed writes due at this boundary, in order of arrival. The flag says that a timed commit is due. -/
def State.timedDue (s : State) : Bool × State :=
  let due := s.stage.timed.filter fun t => decide (t.due ≤ s.tick.time)
  let s := { s with stage := { s.stage with timed := s.stage.timed.filter fun t => !decide (t.due ≤ s.tick.time) } }
  let s := State.flushSet (due.foldl State.timedOne ([], s))
  let commits := due.filter fun t => Reg.key t.ix t.sub == Reg.commit
  (!commits.isEmpty, if commits.isEmpty then s else s.cmdState Reg.commit 2)

/-! ### Reads -/

/-- What an operation gave: a status, a type and a value, or a wait on a spill queue. -/
inductive OpOut where
  | done (status ty : Nat) (val : Bytes)
  | wait
  deriving DecidableEq, Repr

/-- Is `k` a subindex whose read removes the oldest record (R486)? -/
def recordKey (k : Nat) : Bool :=
  [Reg.clampRead, Reg.rejectRead, Reg.evqRead, Reg.faultRead, Reg.traceRead, Reg.rdmResp].contains k ||
    ((List.range 3).any fun p => k == Reg.diagDiagRead p) || ((List.range 4).any fun j => k == Reg.eciCapture j)

/-- The device queue whose oldest record subindex `k` reads. -/
def recordQueue (k : Nat) : Nat :=
  if k = Reg.clampRead then 25
  else if k = Reg.rejectRead then 26
  else if k = Reg.evqRead then 22
  else if k = Reg.faultRead then 24
  else if k = Reg.traceRead then 23
  else if k = Reg.rdmResp then 27
  else if 0x211000 ≤ k ∧ k < 0x211400 then 52 + (k / 256 - 0x2110)
  else 19 + k / 16384 % 4

/-- The oldest record of the queue behind subindex `k`, removed; no bytes when it is empty (R486). -/
def State.takeRecord (s : State) (k : Nat) : Bytes × State := s.takeDevice (recordQueue k)

/-- POP of spill queue `n` for `o` (R381): the oldest item; on an empty queue a wait of POP_WAIT boundaries, or 0x0701. -/
def State.popWindow (s : State) (o : Origin) (n : Nat) : OpOut × State :=
  match s.spillPop n with
  | some (x, t) => (.done 0 0x0D x, t)
  | none =>
    match assocGet s.q.spills n with
    | none => (.done 0x0701 0 [], s)
    | some q =>
      let w := s.reg (Reg.spillPopWait n)
      if w = 0 then (.done 0x0701 0 [], s)
      else (.wait, s.setSpill n { q with waits := q.waits ++ [.pop o w] })

/-- The value subindex `x` reads, as a stored value (R12, R56, R57). -/
def State.readValue (s : State) (o : Origin) (x : Obj) (k : Nat) : Nat :=
  match s.viewOf o k with
  | some v => v
  | none =>
    match x.chg with
    | .l | .f => (assocGet s.stage.late.live k).getD ((assocGet s.stage.live k).getD (s.fieldNow k))
    | .s | .none => s.reg k

/-- A RC read of Q_LOST clears the LOST of queue `n`; a queue's own counter is the same counter (Table 13.7). -/
def State.clearLost (s : State) (n : Nat) : State :=
  if n < 8 ∨ 64 ≤ n then
    match s.spill? n, s.queue? n with
    | some q, _ => s.setSpill (n - 992) { q with lost := 0 }
    | none, some q => s.setQueue n { q with lost := 0 }
    | none, none => s
  else if n = 22 then s.setReg Reg.evqLost 0
  else if n = 23 then s.setReg Reg.traceLost 0
  else if n = 24 then s.setReg Reg.faultLost 0
  else if n = 25 then s.setReg Reg.clampLost 0
  else if n = 26 then s.setReg Reg.rejectLost 0
  else if n = 27 then { s with egress := { s.egress with respLost := 0 } }
  else if n < 16 then s
  else if n < 19 then s.setReg (Reg.tsqTsqLost (n - 16)) 0
  else if n < 22 then s.setReg (Reg.diagDiagLost (n - 19)) 0
  else if n < 36 then s.setStream (n - 28) { s.stream (n - 28) with lost := 0 }
  else if n < 52 then s.setLoop (n - 36) { s.loop (n - 36) with lost := 0 }
  else if n < 56 then s.setReg (Reg.eciLost (n - 52)) 0
  else s

/-- A RC read of Q_HIGH clears the HIGH of queue `n`. -/
def State.clearHigh (s : State) (n : Nat) : State :=
  if n < 8 ∨ 64 ≤ n then
    match s.spill? n, s.queue? n with
    | some q, _ => s.setSpill (n - 992) { q with high := 0 }
    | none, some q => s.setQueue n { q with high := 0 }
    | none, none => s
  else if 16 ≤ n ∧ n < 19 then s.setReg (Reg.tsqTsqHigh (n - 16)) 0
  else if 28 ≤ n ∧ n < 36 then s.setStream (n - 28) { s.stream (n - 28) with high := 0 }
  else { s with q := { s.q with highs := assocDel s.q.highs n } }

/-- A RC read of Q_BP_CYCLES clears the count of queue `n`. -/
def State.clearBp (s : State) (n : Nat) : State :=
  let s := s.bpSettle n
  match s.spill? n, s.queue? n with
  | some q, _ => s.setSpill (n - 992) { q with bp := 0 }
  | none, some q => s.setQueue n { q with bp := 0 }
  | none, none => s

/-- The smallest and largest values since the last read: a read leaves 0, and the next value to be measured replaces it (R12). -/
def extremeKey (k : Nat) : Bool :=
  k == Reg.marginMin || k == Reg.poolMin || k == Reg.tjPeak || (List.range 8).any fun i => k == Reg.streamMarginMin i

/-- What a read of RC subindex `k` clears (R12): the value goes to 0. -/
def State.clearRead (s : State) (k : Nat) : State :=
  if k = Reg.qLost then s.clearLost (s.reg Reg.qSel)
  else if k = Reg.qHigh then s.clearHigh (s.reg Reg.qSel)
  else if k = Reg.qBpCycles then s.clearBp (s.reg Reg.qSel)
  else if 0x8C0000 ≤ k ∧ k < 0x8C2000 ∧ k % 256 = 6 then s.clearLost (k / 256 - 0x8C00 + 992)
  else if 0x8C0000 ≤ k ∧ k < 0x8C2000 ∧ k % 256 = 9 then s.clearHigh (k / 256 - 0x8C00 + 992)
  else
    let s := if extremeKey k && !s.report.cleared.contains k then
        { s with report := { s.report with cleared := k :: s.report.cleared } }
      else s
    s.setReg k 0

/-- The value of a successful READ of row `x`, and what it clears. -/
def State.fetchValue (s : State) (o : Origin) (x : Obj) (ix sub : Nat) : OpOut × State :=
  let k := Reg.key ix sub
  let give := fun (v : Bytes) => OpOut.done 0 x.ty.code v
  if recordKey k then
    let r := s.takeRecord k
    (give r.1, r.2.poolCheck)
  else if 0x8C00 ≤ ix ∧ ix < 0x8C20 ∧ sub = 2 then s.popWindow o (ix - 0x8C00)
  else
    match x.acc with
    | .cmd =>
      (give (match x.ty with
        | .oct _ _ => beBytes 1 (s.reg k)
        | t => beBytes t.size (s.reg k)), s)
    | .wo => (give (List.replicate x.ty.size 0), s)
    | .rc => (give (x.ty.wire (s.readValue o x k)), s.clearRead k)
    | .ro | .rw | .w1c => (give (x.ty.wire (s.readValue o x k)), s)

/-- READ: OBSERVER may, but for a DOMAIN subindex, which needs its own role (R338). -/
def State.opRead (s : State) (o : Origin) (r : Role) (ix sub ty : Nat) : OpOut × State :=
  let dom := (odFind ix sub).any fun x => x.ty == .domain
  match s.checkTarget r .observer ix sub dom (fun _ => true) with
  | (c, none) => (.done c 0 [], s)
  | (_, some x) =>
    if x.ty = .domain ∨ (ty ≠ 0 ∧ ty ≠ x.ty.code) then (.done 0x0103 0 [], s) else s.fetchValue o x ix sub

/-! ### DESCRIBE (R345) -/

/-- ACCESS of a description. -/
def Acc.code : Acc → Nat
  | .ro => 0 | .rw => 1 | .wo => 2 | .rc => 3 | .w1c => 4 | .cmd => 5

/-- CHANGE of a description. -/
def Chg.code : Chg → Nat
  | .none => 0 | .l => 1 | .s => 2 | .f => 3

/-- Largest value of a DOMAIN subindex, in bytes. -/
def State.domainMax (s : State) (k : Nat) : Nat :=
  if k = Reg.fwImage ∨ k = Reg.fwFallback then 16777216
  else if k = Reg.flashRaw then s.part.flashMb * 1048576
  else if k = Reg.slotA ∨ k = Reg.slotB then min 50331648 s.slotSize
  else if k = Reg.coefData then 448
  else if k = Reg.lutData then 4096
  else if k = Reg.surfData then 32 + s.storeSize
  else if k = Reg.discList then 3072
  else if k = Reg.statusMap then 49152
  else if k = Reg.sinkResid then 1536
  else 3072

/-- MIN, MAX and STEP of row `x` in force. -/
def Obj.span (c : RangeCtx) (x : Obj) : Int × Int × Nat :=
  match x.rng with
  | .enum _ | .dyn .sourceRef | .dyn .modSource | .dyn .paceStream | .dyn .srcPos => (0, 0, 0)
  | .span lo hi => (lo, hi, 0)
  | .dyn .lampOrAll => (0, 0xFFFF, 0)
  | r =>
    match r.limits c with
    | some (lo, hi, step) => (lo, hi, if step = 1 then 0 else step)
    | none => (0, 0, 0)

/-- DFLAGS: ENUM and DYNAMIC. -/
def Obj.dflags (x : Obj) : Nat :=
  match x.rng with
  | .enum _ | .span _ _ | .dyn .srcPos => 2
  | .dyn .sourceRef | .dyn .modSource | .dyn .paceStream => 3
  | .dyn .emitPhase | .dyn .emitWin | .dyn .poolLow => 1
  | .dyn .etherType | .dyn .lampOrAll | .any | .num _ _ _ | .mask _ => 0

/-- The range of WIDTH and TICK_OFFSET of a pulse output, which other fields decide (Table 9.10). -/
def State.pulseSpan (s : State) (k : Nat) : Option (Int × Int × Nat) :=
  (List.range 4).findSome? fun i =>
    if k = Reg.pulseWidth i then some (10, (s.reg (Reg.pulsePeriod i) : Int) - 10, 0)
    else if k = Reg.pulseTickOffset i then some (0, (s.tMin : Int) - 1, 0)
    else none

/-- The 32 bytes of a description (Table 12.7). -/
def State.describe (s : State) (x : Obj) (k : Nat) : Bytes :=
  let sp := (s.pulseSpan k).getD (x.span s.ranges)
  let flags := if (s.pulseSpan k).isSome then 1 else x.dflags
  let role := match x.acc with
    | .ro | .rc => 0
    | _ => x.role.rank
  beBytes 1 x.ty.code ++ beBytes 1 x.acc.code ++ beBytes 1 x.chg.code ++ beBytes 1 role ++
    beBytes 4 (if x.ty = .domain then s.domainMax k else x.ty.size) ++ beBytes 8 (ofSigned 8 sp.1) ++
    beBytes 8 (ofSigned 8 sp.2.1) ++ beBytes 4 sp.2.2 ++ beBytes 1 flags ++ beBytes 3 0

/-- DESCRIBE. -/
def State.opDescribe (s : State) (r : Role) (ix sub : Nat) : OpOut × State :=
  match s.checkTarget r .observer ix sub false (fun _ => true) with
  | (c, none) => (.done c 0 [], s)
  | (_, some x) => (.done 0 0x0D (s.describe x (Reg.key ix sub)), s)

/-! ### Rows -/

/-- A result goes back to the origin, unless it waits. -/
def State.answer (o : Origin) (ix sub : Nat) (r : OpOut × State) : State :=
  match r.1 with
  | .done st ty v => r.2.send (.result o st ix sub ty v)
  | .wait => r.2

/-- A message of session `id` has passed R353: its idle time starts again (R354). -/
def State.touchSession (s : State) (id : Nat) : State :=
  { s with ctl := { s.ctl with sessions := s.ctl.sessions.map fun (x : Session) =>
      if x.id == id then { x with last := s.clock.cclk } else x } }

/-- A message of `o` has been accepted. -/
def State.touch (s : State) (o : Origin) : State :=
  match o with
  | .session id => s.touchSession id
  | .localPort => s

/-- An operation of origin `o`, carried out while the unit serves it: in every mode but RESET; a session that is not open gets
0x0301 (R353, R359). -/
def State.serve (s : State) (o : Origin) (ix sub : Nat) (f : State → Role → OpOut × State) : State :=
  if !s.alive then s
  else
    match s.roleOf o with
    | none => State.answer o ix sub (.done 0x0301 0 [], s)
    | some r => State.answer o ix sub (f (s.touch o) r)

/-- The outcome of a write as an operation's. -/
def outOf (r : Nat × State) : OpOut × State := (.done r.1 0 [], r.2)

/-- A write of `val` in the subindex's own type. -/
def State.rowWrite (s : State) (o : Origin) (ix sub : Nat) (val : Bytes) : State :=
  let ty := ((odFind ix sub).map fun x => x.ty.code).getD 0
  s.serve o ix sub fun s r => outOf (s.opWrite o r ix sub ty val)

/-- A write of a number to a subindex of `n` bytes. -/
def State.rowNum (s : State) (o : Origin) (k n v : Nat) : State := s.rowWrite o (k / 256) (k % 256) (beBytes n v)

/-- A read in the subindex's own type. -/
def State.rowRead (s : State) (o : Origin) (k : Nat) : State :=
  s.serve o (k / 256) (k % 256) fun s r => s.opRead o r (k / 256) (k % 256) 0

end Sys2Proof.Machine
end

