-- ==== Sys2Proof/Machine/Domain.lean ====
section
/-! DEFINITION. DOMAIN transfers (R346 to R349) and the rules of their targets: topo slots (R66, R69), firmware images and raw
flash (R363 to R365), scaler and LUT banks (R123, R124), surfaces (R110), and the lists that are read. -/

namespace Sys2Proof.Machine

/-! ### Targets -/

/-- The topo slot a key names, 1 or 2. -/
def slotKey (k : Nat) : Option Nat := if k = Reg.slotA then some 1 else if k = Reg.slotB then some 2 else none

/-- Is `k` a firmware image? -/
def fwKey (k : Nat) : Bool := k == Reg.fwImage || k == Reg.fwFallback

/-- Flash address at which a target begins; none for a target that is not in flash. -/
def State.flashAt (s : State) (k start : Nat) : Option Nat :=
  match slotKey k with
  | some n => some (s.slotBase n)
  | none =>
    if k = Reg.flashRaw then some start
    else if !s.alive then none
    else if k = Reg.fwImage then some 0
    else if k = Reg.fwFallback then some 0x1000000
    else none

/-- Does a layer set name coefficient bank `b` (scaler × 2 + bank), or degamma bank `b` of layer `n`? -/
def State.setsName (s : State) (f : Nat → List (Nat × Nat) → Bool) : Bool :=
  (List.range 16).any fun n =>
    (s.layer n).sets.any (f n)

/-- Does a latched or pending set use coefficient bank `b` (R123)? A set uses a bank when its ENABLE is 1 (DESIGN CHOICE, log 84:
R123 does not say whether a disabled layer's set uses one). -/
def State.coefHeld (s : State) (b : Nat) : Bool :=
  s.setsName fun _ t => assocGet t 0x01 == some 1 && assocGet t 0x0C == some (b / 2) && (assocGet t 0x0D).getD 0 == b % 2

/-- Is LUT bank `b` in use (R123, R124): a degamma bank by a latched or pending set whose
ENABLE is 1 (DESIGN CHOICE, log 84), an encode bank by ENCODE_BANK? -/
def State.lutHeld (s : State) (b : Nat) : Bool :=
  if 0x20 ≤ b then s.reg Reg.encodeBank == b - 0x20
  else s.setsName fun n t => n == b / 2 && assocGet t 0x01 == some 1 && (assocGet t 0x0E).getD 0 == b % 2

/-- Bytes of the LUT bank a LUT_SEL names. -/
def lutSize (sel : Nat) : Nat := if sel < 0x20 then 4096 else 2048

/-- The bank a transfer to `k` writes: what COEF_SEL or LUT_SEL names. -/
def State.bankOf (s : State) (k : Nat) : Nat :=
  if k = Reg.coefData then s.reg Reg.coefSel else if k = Reg.lutData then s.reg Reg.lutSel else 0

/-- Is the bank a transfer to `k` writes in use? -/
def State.bankHeld (s : State) (k b : Nat) : Bool :=
  (k == Reg.coefData && s.coefHeld b) || (k == Reg.lutData && s.lutHeld b)

/-- Is the slot one that a waiting or running switch draws on (R69)? In its arming ticks the switch's topo is the active one. -/
def State.switchDraws (s : State) (n : Nat) : Bool :=
  match s.topo.switch with
  | .none => false
  | .waiting | .copying _ => s.topo.cand.any fun t => t.slot == n
  | .arming _ => s.topo.active.any fun t => t.slot == n

/-- The rules of a write target, in the order of R16 and R346: length, then use. -/
def State.targetCode (s : State) (k total start : Nat) : Nat :=
  match slotKey k with
  | some n =>
    if s.slotSize < total then 0x0104
    else if s.switchDraws n then 0x0401
    else 0
  | none =>
    if fwKey k then
      if total < 4096 ∨ 16777216 < total then 0x0104
      else if s.xfer.open_.any fun t => t.ix == 0x1010 then 0x0401
      else 0
    else if k = Reg.flashRaw then
      if start % 8192 ≠ 0 then 0x0103
      else if total < 8192 ∨ s.part.flashMb * 1048576 < start + total then 0x0104
      else 0
    else if k = Reg.coefData then (if total ≠ 448 then 0x0104 else if s.bankHeld k (s.bankOf k) then 0x0401 else 0)
    else if k = Reg.lutData then (if total ≠ lutSize (s.bankOf k) then 0x0104 else if s.bankHeld k (s.bankOf k) then 0x0401 else 0)
    else 0

/-- Is the mode the wrong one for a transfer to or from `k` (check 5 of R16; R69, R365)? -/
def State.transferMode (s : State) (k dir : Nat) (x : Obj) : Bool :=
  (k == Reg.flashRaw && s.alive) ||
    (dir == 0 && ((x.chg == .f && s.mode.mode != .staging) ||
      ((slotKey k).any fun n => s.reg Reg.activeSlot == n && s.mode.mode != .staging)))

/-- The checks of DOMAIN_BEGIN (R346): R16 and R341, the target's rules, and the transfer's own. `short` says that VLEN is not 12. -/
def State.beginCode (s : State) (r : Role) (ix sub dir total start : Nat) (short : Bool := false) : Nat :=
  let k := Reg.key ix sub
  match s.checkTarget r .observer ix sub true (fun a => dir == 1 || a.writable) with
  | (c, none) => c
  | (_, some x) =>
    if s.transferMode k dir x then 0x0203
    else if x.ty ≠ .domain then 0x0103
    else if short then 0x0104
    else if 1 < dir then 0x0103
    else if dir = 0 ∧ s.targetCode k total start ≠ 0 then s.targetCode k total start
    else if dir = 0 ∧ total = 0 then 0x0104
    else if start ≠ 0 ∧ (k ≠ Reg.flashRaw ∨ start % 8192 ≠ 0 ∨ s.part.flashMb * 1048576 ≤ start) then 0x0103
    else if 4 ≤ s.xfer.open_.length ∨ s.xfer.open_.any fun t => t.ix == ix && t.sub == sub then 0x0401
    else 0

/-! ### Beginning -/

/-- The snapshot a read transfer of `k` takes (R349); the raw flash is read in place, since nothing else writes it meanwhile.
A write-only subindex reads as zero bytes of its length (R12). -/
def State.snapshotOf (s : State) (k : Nat) : Bytes :=
  if k = Reg.discList then (s.rdm (s.reg Reg.discSel)).found.flatMap fun u => beBytes 6 u
  else if k = Reg.statusMap then (List.range 49152).map fun l => BitVec.ofNat 8 (s.lampStatusOf l)
  else if k = Reg.sinkResid then s.calView.residBytes
  else if k = Reg.sinkTrims then s.calView.trimBytes
  else if k = Reg.coefData then List.replicate 448 0
  else if k = Reg.lutData then List.replicate (lutSize (s.bankOf k)) 0
  else []

/-- The first number from `n` on that is from 1 to `2 ^ b - 1` and not in `used`. -/
def unused (b n : Nat) (used : List Nat) : Nat :=
  (((List.range (used.length + 1)).map fun i => (n + (2 ^ b - 2) + i) % (2 ^ b - 1) + 1).find? fun h => !used.contains h).getD 1

/-- A region of the flash was erased or written raw: a firmware image or a slot it meets is known again by its header only. -/
def State.rescan (s : State) (a n : Nat) : State :=
  let meets := fun (b len : Nat) => decide (a < b + len) && decide (b < a + n)
  let head := fun (b : Nat) =>
    let h := s.flashBytes b 64
    if field h 0 4 = 0x4E584657 ∧ field h 14 2 = 0x9600 ∧ field h 16 1 ≤ s.reg Reg.stepping then
      some ({ version := field h 8 4, secVer := field h 12 2, valid := true } : FwImg)
    else none
  let f := s.fw
  { s with fw := { f with
      primary := if meets 0 0x1000000 then head 0 else f.primary
      fallback := if meets 0x1000000 0x1000000 then head 0x1000000 else f.fallback
      slotLens := (List.range 2).map fun i => if meets (s.slotBase (i + 1)) s.slotSize then none else f.slotLens.getD i none } }

/-- A write transfer begins: a flash target is erased (R69, R346, R364). -/
def State.eraseTarget (s : State) (k total start : Nat) : State :=
  match slotKey k with
  | some n =>
    let s := s.flashErase (s.slotBase n) s.slotSize
    { s with fw := { s.fw with slotLens := s.fw.slotLens.set (n - 1) none } }
  | none =>
    if k = Reg.flashRaw then (s.flashErase start (ceilDiv total 8192 * 8192)).rescan start (ceilDiv total 8192 * 8192)
    else if !fwKey k then s
    else
      let s := s.setReg Reg.fwState 1
      if !s.alive then s
      else if k = Reg.fwImage then
        ({ s.flashErase 0 0x1000000 with fw := { s.fw with primary := none } }).setReg Reg.primaryVersion 0
      else { s.flashErase 0x1000000 0x1000000 with fw := { s.fw with fallback := none } }

/-- DOMAIN_BEGIN. The handle is a free value unlike that of any open transfer (assumption log 3). -/
def State.opBegin (s : State) (o : Origin) (r : Role) (ix sub dir total start : Nat) (short : Bool := false) : OpOut × State :=
  let k := Reg.key ix sub
  let c := s.beginCode r ix sub dir total start short
  if c ≠ 0 then (if dir = 1 then (.done c 0 [], s) else outOf (s.refuse o ix sub c 0))
  else
    let w := s.drawWord 16
    let h := unused 16 w.1 (s.xfer.open_.map Transfer.handle)
    let s := w.2
    let data := if dir = 1 then s.snapshotOf k else []
    let n := if dir = 0 then total else if k = Reg.flashRaw then s.part.flashMb * 1048576 - start else data.length
    let t : Transfer := { handle := h, org := o, ix := ix, sub := sub, write := dir == 0, total := n,
                          start := if k = Reg.flashRaw then start else s.bankOf k, data := data, part := [], crc := none,
                          last := s.clock.cclk }
    let s := if dir = 0 then s.eraseTarget k total start else s
    let s := { s with xfer := { s.xfer with open_ := s.xfer.open_ ++ [t] } }
    (.done 0 0x0D (beBytes 2 h ++ beBytes 2 0 ++ beBytes 4 n ++ beBytes 4 (ceilDiv n 8192)), s)

/-! ### Parts and reads -/

/-- The transfer `h` of `o`; any other party that names it finds none (R346). -/
def State.xferOf (s : State) (o : Origin) (h : Nat) : Option Transfer :=
  s.xfer.open_.find? fun t => t.handle == h && t.org == o

/-- Put a transfer back, used now. -/
def State.setXfer (s : State) (t : Transfer) : State :=
  { s with xfer := { s.xfer with open_ := s.xfer.open_.map fun (x : Transfer) =>
      if x.handle == t.handle then { t with last := s.clock.cclk } else x } }

/-- A verified block of a flash target is programmed (R347). -/
def State.programBlock (s : State) (t : Transfer) : State :=
  match s.flashAt (Reg.key t.ix t.sub) t.start with
  | none => s
  | some a =>
    let s := s.flashProgram (a + t.data.length) t.part
    if t.ix = 0x1012 then s.rescan (a + t.data.length) t.part.length else s

/-- The bytes of a block that are still missing are all there: its CRC decides (R347). -/
def State.closeBlock (s : State) (t : Transfer) (crc : Nat) : Nat × State :=
  if crc32 t.part = crc then
    (0, (s.programBlock t).setXfer { t with data := t.data ++ t.part, part := [], crc := none })
  else (0x0105, s.setXfer { t with part := [], crc := none })

/-- DOMAIN_DATA: one part (R347). A part that is refused makes no reject record, which R361 asks of transfers (DEDUCED, log 91). -/
def State.opData (s : State) (o : Origin) (h block off crc : Nat) (data : Bytes) : Nat × State :=
  match (s.xferOf o h).filter Transfer.write with
  | none => (0x0306, s)
  | some t =>
    let s := s.setXfer t
    let have_ := t.data.length + t.part.length
    let size := min 8192 (t.total - t.data.length)
    if block * 8192 + off + data.length ≤ have_ then (0, s)
    else if block ≠ t.data.length / 8192 ∨ off ≠ t.part.length ∨ t.total ≤ t.data.length then (0x0106, s)
    else if size < off + data.length then (0x0104, s)
    else if t.crc.getD crc ≠ crc then (0x0105, s)
    else
      let t := { t with part := t.part ++ data, crc := some crc }
      if t.part.length < size then (0, s.setXfer t) else s.closeBlock t crc

/-- DOMAIN_READ: the block's CRC and at most `room` bytes of it (R349). A block or an offset outside the snapshot gets 0x0106, for which the
spec names no code (DESIGN CHOICE, log 91). -/
def State.opDomRead (s : State) (o : Origin) (h block off count room : Nat) : OpOut × State :=
  match (s.xferOf o h).filter fun t => !t.write with
  | none => (.done 0x0306 0 [], s)
  | some t =>
    let s := s.setXfer t
    if t.total ≤ block * 8192 ∨ 8192 < off then (.done 0x0106 0 [], s)
    else
      let size := min 8192 (t.total - block * 8192)
      let b := if t.ix = 0x1012 then s.flashBytes (t.start + block * 8192) size else slice t.data (block * 8192) size
      (.done 0 0x0D (beBytes 4 (crc32 b) ++ (b.drop off).take (min count room)), s)

/-! ### The end of a transfer -/

/-- The boot ROM's checks of a firmware image (R364), `sigOk` being the verdict on its signature. -/
def State.fwOk (s : State) (b : Bytes) (sigOk : Bool) : Bool :=
  field b 0 4 == 0x4E584657 && field b 4 4 == b.length && field b 14 2 == 0x9600 && decide (field b 16 1 ≤ s.reg Reg.stepping) &&
    decide (s.fw.floor ≤ field b 12 2) && sigOk

/-- A firmware image is whole (R364, R365): it takes its region, or in the boot ROM's memory it runs. -/
def State.fwDone (s : State) (k : Nat) (b : Bytes) (sigOk : Bool) : Nat × State :=
  if !s.fwOk b sigOk then
    let s := s.setReg Reg.fwState 3
    (0x0803, if s.alive then s else s.bootFails 1)
  else
    let i : FwImg := { version := field b 8 4, secVer := field b 12 2, valid := true }
    let s := s.setReg Reg.fwState 2
    if !s.alive then
      (0, ({ s with fw := { s.fw with running := some i }, mode := { s.mode with boot := .verified },
                    belay := { s.belay with bootFail := false, active := clearBit s.belay.active 1 } }).setRegs
        [(Reg.fwVersion, i.version), (Reg.fwRunning, 2)])
    else if k = Reg.fwImage then (0, ({ s with fw := { s.fw with primary := some i } }).setReg Reg.primaryVersion i.version)
    else (0, { s with fw := { s.fw with fallback := some i } })

/-- A slot holds a new image from now on; a candidate loaded from it is discarded (R69). A switch already begun goes on with the
topo it copies, which DRAM holds (DESIGN CHOICE, log 82). -/
def State.slotDone (s : State) (n len : Nat) : State :=
  let s := { s with fw := { s.fw with slotLens := s.fw.slotLens.set (n - 1) (some len) } }
  let begun := match s.topo.switch with
    | .copying _ => true
    | _ => s.topo.switchBegin
  if (s.topo.cand.any fun t => t.slot == n) && !begun then
    ({ s with topo := { s.topo with cand := none } }).setRegs [(Reg.candTopoId, 0), (Reg.candState, 0)]
  else s

/-- All the bytes have arrived: the target's own rules (R348). -/
def State.xferDone (s : State) (t : Transfer) (sigOk : Bool) : Nat × State :=
  let k := Reg.key t.ix t.sub
  match slotKey k with
  | some n => (0, s.slotDone n t.total)
  | none =>
    if fwKey k then s.fwDone k t.data sigOk
    else if k = Reg.coefData then
      if s.coefHeld t.start then (0x0401, s)
      else (if (coefClamps t.data).isEmpty then 0 else 1, s.writeCoefs t.org.source t.start t.data)
    else if k = Reg.lutData then (if s.lutHeld t.start then (0x0401, s) else (0, s.putLut t.start t.data))
    else if k = Reg.surfData then
      if s.slotHeld (field t.data 0 2) then (0x0401, s)
      else (0, { s with comp := { s.comp with surf := { s.comp.surf with due := s.comp.surf.due ++ [(t.org, t.data)] } } })
    else (0, s)

/-- DOMAIN_END (R348, R349): a read releases its snapshot; a write completes, is incomplete, or is abandoned. -/
def State.opEnd (s : State) (o : Origin) (h : Nat) (abandon sigOk : Bool) : Nat × State :=
  match s.xferOf o h with
  | none => (0x0306, s)
  | some t =>
    if !t.write then (0, s.dropXfer h)
    else if abandon then (0, s.abandon t)
    else
      let r := if t.data.length < t.total then (0x0104, s.abandon t) else (s.dropXfer h).xferDone t sigOk
      (r.1, if r.1 ≠ 0 && r.1 ≠ 1 && s.alive then r.2.rejected t.ix t.sub o.source r.1 4 0 else r.2)

/-! ### Rows -/

/-- Does the boot ROM serve object `ix` to `o` (R359, R365)? -/
def State.bootServes (s : State) (o : Origin) (ix sub : Nat) : Bool :=
  !s.alive && o == .localPort &&
    ((s.mode.boot == .download && Reg.key ix sub == Reg.fwImage) || (s.mode.boot == .hold && s.lcl.keyEn && ix == 0x1012))

/-- As `serve`, the boot ROM serving its own objects in RESET. -/
def State.serveDom (s : State) (o : Origin) (ix sub : Nat) (f : State → Role → OpOut × State) :
    State :=
  if s.bootServes o ix sub then State.answer o ix sub (f s ((s.roleOf o).getD .operator)) else s.serve o ix sub f

/-- Index and subindex of the transfer `h` of `o`, for the boot ROM's check. -/
def State.xferTarget (s : State) (o : Origin) (h : Nat) : Nat × Nat := ((s.xferOf o h).map fun t => (t.ix, t.sub)).getD (0, 0)

/-- Begin, send as one block run, and end a transfer of a whole value to `k` by its own operations, stopping at the first that
fails: what a controller does to write a DOMAIN subindex. -/
def State.wholeWrite (s : State) (o : Origin) (r : Role) (k start : Nat) (data : Bytes) (sigOk : Bool) : OpOut × State :=
  match s.opBegin o r (k / 256) (k % 256) 0 data.length start with
  | (.done 0 _ v, s) =>
    let h := field v 0 2
    let s := (List.range (ceilDiv data.length 8192)).foldl (fun (s : State) i =>
      let b := slice data (8192 * i) (min 8192 (data.length - 8192 * i))
      (s.opData o h i 0 (crc32 b) b).2) s
    outOf (s.opEnd o h false sigOk)
  | x => x

/-- A row that writes a whole DOMAIN subindex. -/
def State.rowWhole (s : State) (o : Origin) (k start : Nat) (data : Bytes) (sigOk : Bool) : State :=
  s.serveDom o (k / 256) (k % 256) fun s r => s.wholeWrite o r k start data sigOk

/-- DOMAIN_BEGIN (R346). -/
def execDomainBegin (o : Origin) (ix sub dir total start : Nat) (s : State) : Host.Outcome State Fault Refusal :=
  s.done (s.serveDom o ix sub fun s r => s.opBegin o r ix sub dir total start)

/-- DOMAIN_DATA (R347). -/
def execDomainData (o : Origin) (transfer block offset crc : Nat) (data : Bytes) (s : State) : Host.Outcome State Fault Refusal :=
  let t := s.xferTarget o transfer
  s.done (s.serveDom o t.1 t.2 fun s _ => outOf (s.opData o transfer block offset crc data))

/-- DOMAIN_READ (R349). -/
def execDomainRead (o : Origin) (transfer block offset count : Nat) (s : State) : Host.Outcome State Fault Refusal :=
  let t := s.xferTarget o transfer
  s.done (s.serveDom o t.1 t.2 fun s _ => s.opDomRead o transfer block offset count 65535)

/-- DOMAIN_END (R348). -/
def execDomainEnd (o : Origin) (transfer : Nat) (abandon sigOk : Bool) (s : State) : Host.Outcome State Fault Refusal :=
  let t := s.xferTarget o transfer
  s.done (s.serveDom o t.1 t.2 fun s _ => outOf (s.opEnd o transfer abandon sigOk))

/-- DOMAIN_TRANSFER_TIMEOUT (R348): 10,000 ms without an operation that names the transfer. -/
def execDomainTransferTimeout (transfer : Nat) (s : State) : Host.Outcome State Fault Refusal :=
  match s.xfer.open_.find? fun t => t.handle == transfer with
  | none => s.done s
  | some t => s.done ((s.reachCclk (t.last + ms 10000)).abandon t)

end Sys2Proof.Machine
end

