-- ==== Sys2Proof/Machine/Install.lean ====
section
/-! DEFINITION. A topo comes into force: at its activation boundary in STAGING (R84), or at boundary T + W of a switch (R88). -/

namespace Sys2Proof.Machine

/-! ### The picture path (R139, R142, R212) -/

/-- Layer `k` takes its LAYERS entry as its latched set, without passing the pending register (R142). -/
def State.installLayer (s : State) (b : Bytes) (k : Nat) : State :=
  let v := layerValues (layerEntry b k)
  (s.setLayer k {}).latchSet k (commitSubs.map fun sub => (sub, (assocGet v sub).getD 0)) false

/-- Every layer, with the latch rules of R99, R100 and R128. -/
def State.installLayers (s : State) (t : Topo) : State :=
  match t.section? 0x20 with
  | none => { s with comp := { s.comp with layers := List.replicate 16 {} } }
  | some b => ((List.range 16).foldl (fun (s : State) k => s.installLayer b k) s).dropScalers.takeSets

/-- Scaler and LUT banks: a degamma bank the topo does not supply takes its default contents (R124, R136). -/
def State.installBanks (s : State) (t : Topo) : State :=
  let s := match t.section? 0x21 with
    | none => s
    | some b => (List.range 16).foldl (fun (s : State) i => s.putCoefs i (slice b (448 * i) 448)) s
  let s := { s with comp := { s.comp with luts := [] } }
  let b := t.sec 0x22
  (degammaHeads b).foldl (fun (s : State) o =>
    let sel := if field b o 1 = 0x20 then 0x20 + field b (o + 1) 1 else field b o 1 * 2 + field b (o + 1) 1
    s.putLut sel (slice b (o + 8) ((lutBytes (field b o 1)).getD 0))) s

/-- The loops of PLAYLIST; one with AUTO_START plays (R137). -/
def State.installLoops (s : State) (t : Topo) : State :=
  let b := t.sec 0x23
  let s := { s with comp := { s.comp with loops := List.replicate 16 {} } }
  (loopHeads b).foldl (fun (s : State) o =>
    let j := field b o 1
    let s := s.setLoop j { cap := field b (o + 2) 2, state := 1 }
    let s := (List.range (field b (o + 4) 2)).foldl (fun (s : State) i => s.loopAppend j (slice b (o + 8 + 16 * i) 16)) s
    if bit (field b (o + 1) 1) 0 then s.loopStart j else s) s

/-- Streams: a playout queue keeps its contents in a switch when both topos declare the stream identically (R89, R142). -/
def State.installStreams (s : State) (t : Topo) (old : Option Topo) (switch : Bool) : State :=
  let entry := fun (x : Topo) (i : Nat) =>
    let b := x.sec 0x24
    ((videoOffs b).find? fun o => field b o 1 == i).map fun o => slice b o 64
  let keep := fun i => switch && (entry t i).isSome && (old.bind fun x => entry x i) == entry t i
  let fresh := fun i => match entry t i with
    | none => ({} : StreamSt)
    | some e => { order := List.range (field e 27 1) }
  { s with comp := { s.comp with streams := (List.range 8).map fun i => if keep i then s.stream i else fresh i, audio := {} } }

/-- The surfaces of SURFACES stand in their slots, every other slot empty (R139). -/
def State.installSurfaces (s : State) (t : Topo) : State :=
  let b := t.sec 0x25
  let s := { s with comp := { s.comp with surf := {} } }
  (surfHeads b).foldl (fun (s : State) o => (s.storeSurface (slice b o (32 + field b (o + 12) 4))).2) s

/-- Groups and fade levels (R182); merge store and snapshot empty, receive windows empty (R191, R212). -/
def State.installLevels (s : State) (t : Topo) : State :=
  let b := t.sec 0x44
  let group := fun i => ({ level := field b (8 * i) 2, fade := field b (8 * i + 2) 2, band := field b (8 * i + 4) 1,
                           depth := field b (8 * i + 6) 2 } : Group)
  let groups := if b.isEmpty then [] else (List.range 1024).map fun i => (i, group i)
  let levels := if b.isEmpty then [] else (List.range 4096).filterMap fun i =>
    let v := field b (8192 + 2 * i) 2
    if v = 0 then none else some (i, v)
  { s with buf := { s.buf with groups := groups.filter fun p => p.2 != {}, levels := levels, levelsG := [], fades := [],
                               sum := 0, seen := 0, sigOk := [false, false, false] }
           sacn := {}
           egress := { s.egress with wins := [], winNext := 0, sacnOn := s.egress.sacnOn && s.egress.held.isSome,
                                     discAt := s.clock.cclk + ms 10000 } }

/-- The tables that the Hearth holds are copied into their regions: map entries, corrections, output LUTs, and the plan with the
descriptors behind it (R172, R171, R84, R88); the merge store and its snapshot are emptied (R212). -/
def State.installTables (s : State) (t : Topo) : State :=
  let s := s.lutTables (t.sec 0x41)
  let s := s.ramWrite false (s.regionAt 1) ((t.sec 0x42).drop 16)
  let s := s.ramWrite false (s.regionAt 2) (t.sec 0x43)
  let s := s.ramWrite false (s.regionAt 7) (t.sec 2 ++ t.sec 3)
  s.ramWrite false (s.storeAt 0) (List.replicate (1024 * s.uniCount) 0)

/-- The raster is set by the RASTER section, in fixed blanking, and starts anew. -/
def State.installRaster (s : State) (t : Topo) : State :=
  (s.setRas { next := (t.section? 0x30).map timingSet }).setReg Reg.staticState 0

/-! ### Queues (R89, R369, R385) -/

/-- Receive queue `n` of a topo. -/
def Topo.rxQueue (t : Topo) (n : Nat) : Queue :=
  { hold := true, stage := 7,
    limit := ((t.image.queueEntries.find? fun e => field e 0 2 == n).map fun e => field e 8 4).getD 1024 }

/-- A declared linked queue. -/
def linkedOf (e : Bytes) : Queue :=
  let hold := field e 3 1 == 1
  let stage := field e 4 1
  let need := if hold && decide (stage ≤ 6) then field e 8 4 * ceilDiv (field e 6 2) 64 else 0
  { hold := hold, stage := stage, limit := field e 8 4, reserve := need }

/-- A declared spill queue. -/
def spillOf (e : Bytes) : Spill :=
  { hold := field e 3 1 == 1, stage := field e 4 1, limit := field e 8 4, base := field e 16 8 }

/-- POPs that wait on spill queues end empty, since every declared queue starts empty. -/
def State.endPops (s : State) : State :=
  let waits := s.q.spills.flatMap fun (p : Nat × Spill) => p.2.waits.filterMap fun w => match w with
    | .pop o _ => some (p.1, o)
    | .task _ => none
  waits.foldl (fun (s : State) w => s.popResult w.2 (0x8C00 + w.1) 0x0701 []) s

/-- Frames of the receive queues are dropped and counted on the port they came by (R385). -/
def State.dropRx (s : State) : State :=
  (s.q.rx.flatMap Queue.items).foldl (fun (s : State) x => s.incReg (Reg.cntRxQueueDrops (field x 0 1))) s

/-- The queues of a topo. In a switch the receive queues keep their contents. -/
def State.installQueues (s : State) (t : Topo) (switch : Bool) : State :=
  let s := s.endPops
  let s := if switch then s else s.dropRx
  let rx := (List.range 8).map fun n =>
    let q := t.rxQueue n
    if switch then { (s.q.rx.getD n q) with limit := q.limit, readers := [] } else q
  let linked := (t.image.queueEntries.filter fun e => decide (64 ≤ field e 0 2) && field e 2 1 == 0).map fun e => (field e 0 2, linkedOf e)
  let spills := (t.image.queueEntries.filter fun e => field e 2 1 == 1).map fun e => (field e 0 2 - 992, spillOf e)
  let s := { s with q := { s.q with rx := rx, linked := linked, spills := spills, lowArmed := true, highs := s.q.highs.filter fun p => decide (16 ≤ p.1) },
                    sched := { s.sched with limits := (List.range 8).map t.image.readyLimit, released := [] }
                    belay := { s.belay with leaked := 0 } }
  let s := s.setRegs [(Reg.poolCells, field (t.sec 1) 4 1 * 16384), (Reg.reservedCells, t.image.reservedCells)]
  { s with report := { s.report with cleared := s.report.cleared.filter fun x => x != Reg.poolMin } }
    |>.setReg Reg.poolMin s.poolFree

/-! ### The firebox (R247) -/

/-- Lamp statuses become UNKNOWN or UNUSED; the stores are kept in a switch while FBX_SINK is ON. -/
def State.installFirebox (s : State) (switch : Bool) : State :=
  let f := s.fbx
  let s := s.fireboxCleared
  if switch && s.domOn 8 then { s with fbx := { s.fbx with active := f.active, inactive := f.inactive } } else s

/-! ### OBJECT_INIT (R80) -/

/-- One entry takes its turn: a field joins those gathered so far, a command is carried out after them. -/
def State.initOne (r : List (Nat × Nat) × State) (p : Nat × Bytes) : List (Nat × Nat) × State :=
  if ((odFind (p.1 / 256) (p.1 % 256)).map Obj.acc).getD .ro == .cmd then
    ([], (State.flushSet r).cmdAt { org := .localPort, ix := p.1 / 256, sub := p.1 % 256, val := p.2 })
  else (r.1 ++ [(p.1, beNat p.2)], r.2)

/-- Carry out entries in the order they stand, at one boundary. -/
def State.applyInit (s : State) (l : List (Nat × Bytes)) : State := State.flushSet (l.foldl State.initOne ([], s))

/-- The entries for objects whose domain is ON apply now; the others wait for it. -/
def State.installInit (s : State) (t : Topo) : State :=
  let l := (s.initOf t).map fun e => (odDomain (e.key / 256), e.key, e.val)
  let on := fun (d : Nat) => s.domOn d
  let s := { s with topo := { s.topo with initDue := l.filter fun (e : Nat × Nat × Bytes) => !on e.1 } }
  s.applyInit ((l.filter fun (e : Nat × Nat × Bytes) => on e.1).map fun (e : Nat × Nat × Bytes) => e.2)

/-- A boundary: entries whose domain has come ON apply, before its block starts (R454). -/
def State.initStep (s : State) : State :=
  let ready := s.topo.initDue.filter fun e => s.domOn e.1
  if ready.isEmpty then s
  else ({ s with topo := { s.topo with initDue := s.topo.initDue.filter fun e => !s.domOn e.1 } }).applyInit
    (ready.map fun (e : Nat × Nat × Bytes) => e.2)

/-! ### The whole -/

/-- The objects of Table 3.2 and the figures of the header, and every object that takes a value from the topo. -/
def State.installRegs (s : State) (t : Topo) : State :=
  s.setRegs ([(Reg.activeSlot, t.slot), (Reg.activeTopoId, t.id), (Reg.activeBuild, t.build), (Reg.candTopoId, 0),
    (Reg.candState, 0), (Reg.tickNum, t.num), (Reg.tickDen, t.den), (Reg.latency, t.lat)] ++
    ((List.range 9).map fun i => (Reg.regionMb i, t.regions.getD i 0)) ++ topoRegs t)

/-- A change of rate: a realignment interval runs to boundary(m) of the new rate, where tick m begins (R84). -/
def State.installRate (s : State) (changed : Bool) : State :=
  if changed then
    let m := leastBoundary (s.reg Reg.tickNum) (s.reg Reg.tickDen) (s.tick.time + 2000)
    (s.realign m m).setReg Reg.tickBias 0
  else s

/-- The topo's tables come into force at the boundary just taken. -/
def State.install (s : State) (t : Topo) (switch : Bool) : State :=
  let old := s.topo.active
  let changed := s.reg Reg.tickNum != t.num || s.reg Reg.tickDen != t.den
  let s := (s.calAbort 2).cancelWhere fun _ => true
  let s := { s with topo := { s.topo with active := some t, cand := none, staged := none } }
  let s := (s.installRegs t).installTables t
  let s := (s.installStreams t old switch).installSurfaces t
  let s := (s.installBanks t).installLoops t
  let s := ((s.installRaster t).installLayers t).installLevels t
  let s := (s.installQueues t switch).installFirebox switch
  let s := (if (t.section? 0x45).isSome then s.strandPinsOn else s).rowPinsOn.driveFigures.draughtResolve
  let s := (List.range 8).foldl (fun (s : State) n => s.dmxFit n) s
  let s := (s.joinGroups t.image.groups).calApplyDue
  let s := ((s.installInit t).installRate changed).scrubPass true
  s.noteChange

/-- The raster of the topo in force starts at the boundary just taken, when SCAN is ON and no realignment interval runs. The
boundary counts one raster start (R152). -/
def State.firstRaster (s : State) : Bool × State :=
  if s.domOn 5 && !s.tick.realign && (s.section? 0x30).isSome then
    (true, (if s.tick.counted then s else s.openFrame.2).beginRaster)
  else (false, s)

/-- That raster starts, the streams are taken, and it composes or not. -/
def State.startRaster (s : State) (composes : Bool) : State :=
  let r := s.firstRaster
  let s := r.2.takeStep r.1
  if r.1 && composes then s.composeStart else s

/-- TOPO_ACTIVATE: the first boundary after the checks of a STAGING load ended (R84). A domain that the topo needs and that is not
ON abandons an arming under way; otherwise the arming tick composes on (R52). -/
def State.topoActivate (s : State) : State :=
  match s.topo.staged with
  | none => s
  | some t =>
    if s.alive && s.atBoundary && decide (s.topo.loadedAt < s.tick.cclk) then
      let s := s.install t false
      let s := if (List.range 10).any fun d => bit t.domains d && !s.domOn d then s.armBreak else s
      s.startRaster (s.mode.arming.isSome && !s.mode.armBroken)
    else s

/-- SWITCH_BEGIN at boundary T (R88): plan releases and composition stop, tasks are cancelled, the ember cache is emptied. -/
def State.switchStart (s : State) : State :=
  match s.topo.cand with
  | none => s
  | some t =>
    if s.topo.switchBegin && s.atBoundary then
      let s := s.cancelWhere fun _ => true
      let s := { s with topo := { s.topo with switchBegin := false, switch := .copying t.switchW } }
      let s := s.emberEmpty
      (s.setRas { s.ras with composes := false }).setReg Reg.switchLast s.tickIdx
    else s

/-- SWITCH_TABLES_IN_FORCE at boundary T + W: the new tables, then L arming ticks, which compose in SHOW and HOLDOVER and are only
counted in STAGING; in DARK there are none, and SWITCH reads 2 (R88, R90). -/
def State.switchTables (s : State) : State :=
  match s.topo.cand, s.topo.switch with
  | some t, .copying 0 =>
    if !s.atBoundary then s
    else
      let dark := s.mode.mode == .dark
      let held := if dark then none else some s.holdNow
      let s := { s with topo := { s.topo with switch := if dark then .none else .arming t.lat }, egress := { s.egress with held := held } }
      let s := (s.install t true).startRaster s.mode.mode.shows
      if dark then s.cmdState Reg.switch 2 else s
  | _, _ => s

/-- A boundary's part of a switch: one tick less to copy or to arm; at T + W + L SWITCH reads 2 (R88). -/
def State.switchStep (s : State) : State :=
  match s.topo.switch with
  | .copying (n + 1) => { s with topo := { s.topo with switch := .copying n } }
  | .arming (n + 2) => { s with topo := { s.topo with switch := .arming (n + 1) } }
  | .arming _ => ({ s with topo := { s.topo with switch := .none }, egress := { s.egress with held := none } }).cmdState Reg.switch 2
  | _ => s

/-! ### Rows -/

/-- TOPO_ACTIVATE (R84). -/
def execTopoActivate (s : State) : Host.Outcome State Fault Refusal := s.done s.topoActivate

/-- SWITCH_BEGIN (R88). -/
def execSwitchBegin (s : State) : Host.Outcome State Fault Refusal := s.done s.switchStart

/-- SWITCH_TABLES_IN_FORCE (R88). -/
def execSwitchTablesInForce (s : State) : Host.Outcome State Fault Refusal := s.done s.switchTables

end Sys2Proof.Machine
end

