-- ==== Sys2Proof/Machine/Sess.lean ====
section
/-! DEFINITION. The control protocol: handshakes, sessions, the sequence rule, requests and their replies (R337 to R344, R350
to R354), and the local port (R358, R359). -/

namespace Sys2Proof.Machine

/-! ### Operation items -/

/-- An operation item (Table 12.4). -/
structure OpItem where
  op    : Nat
  flags : Nat
  ix    : Nat
  sub   : Nat
  ty    : Nat
  time  : Nat
  val   : Bytes
  deriving DecidableEq, Repr

/-- Bytes up to the next multiple of 4. -/
def pad4 (n : Nat) : Nat := ceilDiv n 4 * 4

/-- The first item of a body and the rest; none when it runs past the body. -/
def takeItem (b : Bytes) : Option (OpItem × Bytes) :=
  let op := field b 0 1
  let head := if op = 3 then 20 else 8
  let n := field b 6 2
  if b.length < head ∨ b.length < head + pad4 n then none
  else
    some ({ op := op, flags := field b 1 1, ix := field b 2 2, sub := field b 4 1, ty := field b 5 1, time := field b 8 10,
            val := slice b head n }, b.drop (head + pad4 n))

/-- Do the items of a body fit it (R342)? -/
def itemsOk : Nat → Bytes → Bool
  | 0, b => b.isEmpty
  | n + 1, b =>
    if b.isEmpty then true
    else
      match takeItem b with
      | none => false
      | some (_, r) => itemsOk n r

/-- A result item (Table 12.6). -/
def resultItem (ix sub status ty : Nat) (v : Bytes) : Bytes :=
  beBytes 2 status ++ beBytes 2 ix ++ beBytes 1 sub ++ beBytes 1 ty ++ beBytes 2 v.length ++ slice v 0 (pad4 v.length)

/-- The room an item's largest result needs (R344). -/
def OpItem.need (i : OpItem) : Nat :=
  match i.op with
  | 1 => 8 + pad4 (((odFind i.ix i.sub).map fun x => x.ty.size).getD 0)
  | 4 => 20
  | 6 => 16
  | 8 => 40
  | _ => 8

/-- One operation of a request of `o` with role `r`; `sigOk` is the verdict on a firmware image's signature and `room` what
the reply has left for data. -/
def State.execItem (s : State) (o : Origin) (r : Role) (sigOk : Bool) (room : Nat) (i : OpItem) : OpOut × State :=
  let v := i.val
  match i.op with
  | 1 => s.opRead o r i.ix i.sub i.ty
  | 2 => outOf (s.opWrite o r i.ix i.sub i.ty v)
  | 3 => outOf (s.opTimed o r i.ix i.sub i.ty v i.time)
  | 4 =>
    s.opBegin o r i.ix i.sub (field v 0 1) (field v 4 4) (field v 8 4) (v.length != 12)
  | 5 =>
    if v.length < 16 then (.done 0x0104 0 [], s)
    else outOf (s.opData o (field v 0 2) (field v 4 4) (field v 8 2) (field v 12 4) (v.drop 16))
  | 6 =>
    if v.length ≠ 12 then (.done 0x0104 0 [], s)
    else s.opDomRead o (field v 0 2) (field v 4 4) (field v 8 2) (field v 10 2) room
  | 7 => if v.length ≠ 4 then (.done 0x0104 0 [], s) else outOf (s.opEnd o (field v 0 2) (bit i.flags 0) sigOk)
  | 8 => s.opDescribe r i.ix i.sub
  | _ => (.done 0x0103 0 [], s)

/-- The object an item acts on: that of its transfer for DOMAIN_DATA, DOMAIN_READ and DOMAIN_END. -/
def State.itemTarget (s : State) (o : Origin) (i : OpItem) : Nat × Nat :=
  if 5 ≤ i.op ∧ i.op ≤ 7 then s.xferTarget o (field i.val 0 2) else (i.ix, i.sub)

/-- One operation, the boot ROM knowing only its own objects (R359). -/
def State.execServed (s : State) (o : Origin) (r : Role) (sigOk : Bool) (room : Nat) (i : OpItem) : OpOut × State :=
  let t := s.itemTarget o i
  if !s.alive && !s.bootServes o t.1 t.2 then (.done 0x0101 0 [], s) else s.execItem o r sigOk room i

/-! ### Requests -/

/-- Largest reply body (R344). -/
def State.bodyMax (s : State) (o : Origin) : Nat :=
  match o with
  | .session _ => s.reg Reg.msgMax - 16
  | .localPort => 4096

/-- A message of the unit (Table 12.2). -/
def ctrlMsg (ty sess seq : Nat) (body : Bytes) : Bytes :=
  beBytes 2 0x4E43 ++ beBytes 1 1 ++ beBytes 1 ty ++ beBytes 4 sess ++ beBytes 4 seq ++ beBytes 2 body.length ++ beBytes 2 0 ++
    body

/-- Send a control message to a controller. -/
def State.sendCtrl (s : State) (addr port : Nat) (m : Bytes) : State := s.sendUdp addr port m

/-- The body of the reply to a request. -/
def Job.body (j : Job) : Bytes := beBytes 2 j.count ++ beBytes 2 0 ++ j.out

/-- A request's last operation has completed: its reply goes out, and once more for each duplicate (R341, R352, R358). -/
def State.replyJob (s : State) (j : Job) : State :=
  match j.org with
  | .localPort => { s with lcl := { s.lcl with busy := false, ready := true, reply := some j.body } }
  | .session id =>
    let m := ctrlMsg 0x11 id j.seq j.body
    let s := (List.range (j.dups + 1)).foldl (fun (s : State) _ => s.sendCtrl j.addr j.port m) s
    { s with ctl := { s.ctl with sessions := s.ctl.sessions.map fun (x : Session) =>
        if x.id == id && x.nextSeq == (j.seq + 1) % two32 then { x with cached := some m } else x } }

/-- Add a result to a request's reply. -/
def Job.add (j : Job) (i : OpItem) (status ty : Nat) (v : Bytes) (rest : Bytes) : Job :=
  { j with left := rest, out := j.out ++ resultItem i.ix i.sub status ty v, count := j.count + 1, got := none }

/-- Execute a request's items in order, until they are done, the reply has no room for the next, or one waits for an item of a
spill queue (R341, R344, R381). -/
def State.runJob (fuel : Nat) (s : State) (j : Job) : State :=
  match fuel with
  | 0 => s.replyJob j
  | n + 1 =>
    match takeItem j.left with
    | none => s.replyJob j
    | some (i, rest) =>
      match j.got with
      | some g => s.runJob n (j.add i g.1 (if g.2.isEmpty then 0 else 0x0D) g.2 rest)
      | none =>
        let room := s.bodyMax j.org - 4 - j.out.length
        if room < i.need then s.replyJob j
        else
          match s.execServed j.org j.role j.sigOk (room / 4 * 4 - 12) i with
          | (.done st ty v, s) => s.runJob n (j.add i st ty v rest)
          | (.wait, s) => { s with ctl := { s.ctl with jobs := s.ctl.jobs ++ [{ j with ix := i.ix }] } }

/-- Run a request from its first item. -/
def State.startJob (s : State) (j : Job) : State := s.runJob (j.left.length + 1) j

/-- Requests whose POP has ended go on (R381); one may give another what it waits for. -/
def State.resumeJobs (s : State) : State :=
  let step := fun (s : State) (_ : Nat) =>
    match s.ctl.jobs.find? fun j => j.got.isSome with
    | none => s
    | some j =>
      let s := { s with ctl := { s.ctl with jobs := s.ctl.jobs.erase j } }
      s.startJob j
  (List.range (s.ctl.jobs.length * 1024)).foldl step s

/-! ### Handshakes (R350, R351) -/

/-- Does the unit serve network control (R366)? -/
def State.netServed (s : State) : Bool := s.alive && s.hasPos

/-- Is a source address under lockout? -/
def State.lockedOut (s : State) (addr : Nat) : Bool :=
  s.ctl.lockouts.any fun p => p.1 == addr && decide (s.clock.cclk < p.2)

/-- Handshakes still within their 2,000 ms. -/
def State.pendingHands (s : State) : List Handshake := s.ctl.hands.filter fun h => decide (s.clock.cclk < h.born + ms 2000)

/-- REFUSE. -/
def State.sendRefuse (s : State) (addr port hs abort : Nat) : State :=
  s.sendCtrl addr port (ctrlMsg 0x05 0 0 (beBytes 4 hs ++ beBytes 2 abort ++ beBytes 2 0))

/-- The key of a role, none when its slot is empty. -/
def State.keyOf (s : State) (r : Nat) : Option Bytes := s.ctl.keys.getD r none

/-- HELLO from `addr`, `port` for the role of code `role` (R350). HS_ID and DEVICE_NONCE are random. -/
def State.helloIn (s : State) (addr port role : Nat) : State :=
  if !s.netServed then s
  else if 3 < role then s.incReg Reg.msgMalformed
  else if s.lockedOut addr then s
  else if (s.keyOf role).isNone then s.sendRefuse addr port 0 0x0305
  else
    let live := s.pendingHands
    if 8 ≤ s.ctl.sessions.length ∨ 16 ≤ live.length then s.sendRefuse addr port 0 0x0303
    else
      let w := s.drawRandom 32
      let id := unused 32 w.1 (live.map Handshake.id)
      let d := w.2.drawRandom 128
      let h : Handshake := { id := id, role := Machine.roleOf role, addr := addr, port := port, nonce := beBytes 16 d.1,
                             born := s.clock.cclk, accept := none }
      let s := { d.2 with ctl := { d.2.ctl with hands := live ++ [h] } }
      s.sendCtrl addr port (ctrlMsg 0x02 0 0 (beBytes 4 id ++ beBytes 1 role ++ beBytes 3 0 ++ h.nonce ++ s.part.serial))

/-- A handshake ends. -/
def State.dropHand (s : State) (id : Nat) : State :=
  { s with ctl := { s.ctl with hands := s.ctl.hands.filter fun h => h.id != id } }

/-- A RESPONSE failed: AUTH_FAILS, EV42, and a lockout at the fourth within 10 s (R351). -/
def State.authFail (s : State) (addr role : Nat) : State :=
  let now := s.clock.cclk
  let fails := (s.ctl.fails.filter fun p => decide (now < p.2 + ms 10000)) ++ [(addr, now)]
  let many := decide (4 ≤ (fails.filter fun p => p.1 == addr).length)
  let locks := if many then (s.ctl.lockouts.filter fun p => p.1 != addr) ++ [(addr, now + ms 10000)] else s.ctl.lockouts
  let s := { s with ctl := { s.ctl with fails := fails, lockouts := locks } }
  (s.incReg Reg.authFails).raise 42 (beBytes 4 addr ++ beBytes 1 role)

/-- The lowest free entry of the session table. -/
def State.freeSlot (s : State) : Nat :=
  ((List.range 8).find? fun i => !s.ctl.sessions.any fun x => x.slot == i).getD 0

/-- A session opens for handshake `h`: its ID and first SEQ are random (R351). -/
def State.openSession (s : State) (h : Handshake) (key cNonce : Bytes) : State :=
  let a := s.drawRandom 32
  let id := unused 32 a.1 (s.ctl.sessions.map Session.id)
  let b := a.2.drawRandom 32
  let s := b.2
  let x : Session := { id := id, slot := s.freeSlot, role := h.role, addr := h.addr, port := h.port, nextSeq := b.1, opened := s.now,
                       last := s.clock.cclk, cached := none }
  let proof := hmac key (cNonce ++ h.nonce ++ s.part.serial ++ beBytes 4 id)
  let acc := ctrlMsg 0x04 0 0 (beBytes 4 h.id ++ beBytes 4 id ++ beBytes 4 b.1 ++ beBytes 1 h.role.rank ++ beBytes 1 0 ++
    beBytes 2 (s.reg Reg.msgMax) ++ beBytes 4 (s.reg Reg.sessionTimeout) ++ beBytes 4 0 ++ proof)
  let s := { s with ctl := { s.ctl with
      sessions := s.ctl.sessions ++ [x]
      hands := s.ctl.hands.map fun (y : Handshake) => if y.id == h.id then { y with accept := some acc } else y } }
  let s := s.sendCtrl h.addr h.port acc
  s.raise 41 (beBytes 4 id ++ beBytes 1 h.role.rank ++ beBytes 4 h.addr ++ beBytes 2 h.port)

/-- RESPONSE from `addr`, `port` (R351). A second RESPONSE of an accepted handshake counts as the repeated one, whatever its content (DESIGN
CHOICE, log 91). -/
def State.responseIn (s : State) (addr port hs : Nat) (cNonce mac : Bytes) : State :=
  if !s.netServed then s
  else
    match s.pendingHands.find? fun h => h.id == hs && h.addr == addr && h.port == port with
    | none => s.sendRefuse addr port hs 0x0301
    | some h =>
      match h.accept, s.keyOf h.role.rank with
      | some acc, _ => s.sendCtrl addr port acc
      | none, none => (s.dropHand hs).sendRefuse addr port hs 0x0305
      | none, some key =>
        if hmac key (h.nonce ++ cNonce ++ s.part.serial) ≠ mac then
          ((s.dropHand hs).sendRefuse addr port hs 0x0304).authFail addr h.role.rank
        else if 8 ≤ s.ctl.sessions.length then s.sendRefuse addr port hs 0x0303
        else s.openSession h key cNonce

/-! ### Sessions (R352 to R354) -/

/-- ERROR, with NEXT_SEQ for 0x0302. -/
def State.sendError (s : State) (addr port sess seq abort next : Nat) : State :=
  s.sendCtrl addr port (ctrlMsg 0x12 sess seq (beBytes 2 abort ++ beBytes 2 0 ++ beBytes 4 next))

/-- Note that session `id` starts to execute its message NEXT (R352). -/
def State.nextMsg (s : State) (id : Nat) : State :=
  { s with ctl := { s.ctl with sessions := s.ctl.sessions.map fun (x : Session) =>
      if x.id == id then { x with nextSeq := (x.nextSeq + 1) % two32, cached := none } else x } }

/-- A message out of sequence (R352). -/
def State.seqError (s : State) (x : Session) (seq : Nat) : State :=
  (s.incReg Reg.seqErrors).sendError x.addr x.port x.id seq 0x0302 x.nextSeq

/-- The open session a message of `addr`, `port` names. -/
def State.sessionAt (s : State) (addr port id : Nat) : Option Session :=
  (s.session id).filter fun x => x.addr == addr && x.port == port

/-- CLOSE (R352 to R354). -/
def State.closeIn (s : State) (addr port id seq : Nat) : State :=
  if !s.netServed then s
  else
    match s.sessionAt addr port id with
    | none => s.sendError addr port id seq 0x0301 0
    | some x =>
      if seq = x.nextSeq then (s.sendCtrl addr port (ctrlMsg 0x21 id seq [])).endSession id 0
      else s.seqError x seq

/-- REQUEST with a body of items that fit it (R352, R353). A message that breaks the sequence rule has not passed R353, so it does not keep
its session open (DEDUCED, log 91). -/
def State.requestIn (s : State) (addr port id seq : Nat) (body : Bytes) (sigOk : Bool) : State :=
  match s.sessionAt addr port id with
  | none => s.sendError addr port id seq 0x0301 0
  | some x =>
    let t := s.touchSession id
    if seq = x.nextSeq then
      (t.nextMsg id).startJob { org := .session id, addr := addr, port := port, seq := seq, left := body, out := [], count := 0,
                                sigOk := sigOk, role := x.role, ix := 0 }
    else if (seq + 1) % two32 = x.nextSeq then
      match x.cached with
      | some m => t.sendCtrl addr port m
      | none =>
        let mine := fun (j : Job) => j.org == Origin.session id && j.seq == seq
        if s.ctl.jobs.any mine then
          { t with ctl := { t.ctl with jobs := t.ctl.jobs.map fun (j : Job) => if mine j then { j with dups := j.dups + 1 } else j } }
        else s.seqError x seq
    else s.seqError x seq

/-- Is a control datagram well formed (R342)? -/
def ctrlOk (b : Bytes) : Bool :=
  let body := b.drop 16
  decide (16 ≤ b.length) && field b 0 2 == 0x4E43 && field b 2 1 == 1 && b.length == 16 + field b 12 2 &&
    (match field b 3 1 with
      | 0x01 => body.length == 4 && decide (field body 0 1 ≤ 3)
      | 0x03 => body.length == 52
      | 0x10 => itemsOk body.length body
      | 0x20 => body.isEmpty
      | _ => false)

/-- A control datagram `b` from `addr`, `port` (R342, R353). -/
def State.datagram (s : State) (addr port : Nat) (b : Bytes) (sigOk : Bool) : State :=
  if !s.netServed then s
  else if !ctrlOk b then s.incReg Reg.msgMalformed
  else
    let body := b.drop 16
    match field b 3 1 with
    | 0x01 => s.helloIn addr port (field body 0 1)
    | 0x03 => s.responseIn addr port (field body 0 4) (slice body 4 16) (slice body 20 32)
    | 0x10 => s.requestIn addr port (field b 4 4) (field b 8 4) body sigOk
    | _ => s.closeIn addr port (field b 4 4) (field b 8 4)

/-- CTRL_PARSE of one receive item: its UDP payload goes to the control cores. -/
def State.ctrlItem (sigOk : Bool) (x : Bytes) (s : State) : State :=
  let ip := itemIp x
  s.datagram (field ip 12 4) (field ip (ihl ip) 2) (udpPayload ip) sigOk

/-! ### The local port (R358, R359) -/

/-- Does the boot ROM serve the local port (R359)? -/
def State.bootPort (s : State) : Bool := !s.alive && (s.mode.boot == .download || s.mode.boot == .hold)

/-- STATUS of Table 12.11. -/
def State.lclStatus (s : State) : Nat :=
  let l := s.lcl
  let b := fun (x : Bool) (n : Nat) => if x then n else 0
  b l.ready 128 + b l.busy 64 + b l.crcErr 32 + b s.pins.keyEn 16 + b l.discard 8 + b s.bootPort 4 + b l.malformed 2

/-- A transaction starts with KEY_EN at this level. -/
def State.lclBegin (s : State) (keyEn : Bool) : State := { s with pins := { s.pins with keyEn := keyEn } }

/-- The bytes of a SEND behind its command byte, with LEN and CRC-32 right: the items; none otherwise. -/
def sendBody (b : Bytes) : Option Bytes :=
  let n := field b 0 2
  if n ≤ 4096 ∧ b.length = n + 6 ∧ crc32 (b.take (n + 2)) = field b (n + 2) 4 then some (slice b 2 n) else none

/-- SEND of `b`, the bytes behind the command byte: STATUS goes out as they come in. -/
def State.sendIn (s : State) (keyEn sigOk : Bool) (b : Bytes) : State :=
  if !s.alive && !s.bootPort then s
  else
    let s := s.lclBegin keyEn
    let s := s.send (.miso (beBytes 1 s.lclStatus ++ List.replicate b.length 0))
    if s.lcl.busy then { s with lcl := { s.lcl with discard := true } }
    else
      match sendBody b with
      | none => { s with lcl := { s.lcl with crcErr := true } }
      | some items =>
        if !itemsOk items.length items then
          ({ s with lcl := { s.lcl with malformed := true } }).incReg Reg.msgMalformed
        else
          let s := { s with lcl := { s.lcl with ready := false, busy := true, crcErr := false, discard := false,
                                                malformed := false, keyEn := keyEn, reply := none } }
          s.startJob { org := .localPort, addr := 0, port := 0, seq := 0, left := items, out := [], count := 0, sigOk := sigOk,
                       role := if keyEn then .installer else .operator, ix := 0 }

/-- A transaction that is no SEND: the level of KEY_EN counts for the local port's next access unless a request is under way. -/
def State.lclSample (s : State) (keyEn : Bool) : State :=
  let s := s.lclBegin keyEn
  if s.lcl.busy then s else { s with lcl := { s.lcl with keyEn := keyEn } }

/-- FETCH: STATUS, then the reply body with its length and CRC-32; READY clears. -/
def State.fetchIn (s : State) (keyEn : Bool) : State :=
  if !s.alive && !s.bootPort then s
  else
    let s := s.lclSample keyEn
    let body := s.lcl.reply.getD []
    let f := beBytes 2 body.length ++ body
    let s := s.send (.miso (beBytes 1 s.lclStatus ++ f ++ beBytes 4 (crc32 f)))
    { s with lcl := { s.lcl with ready := false } }

/-- A transaction with another command byte: STATUS alone. -/
def State.pollIn (s : State) (keyEn : Bool) (cmd : Nat) : State :=
  if (!s.alive && !s.bootPort) || cmd == 1 || cmd == 2 then s
  else
    let s := s.lclSample keyEn
    s.send (.miso (beBytes 1 s.lclStatus))

/-! ### Rows -/

/-- HELLO (R350). -/
def execHello (addr port role : Nat) (s : State) : Host.Outcome State Fault Refusal := s.done (s.helloIn addr port role)

/-- RESPONSE (R351). -/
def execResponse (addr port hsId : Nat) (cNonce mac : Bytes) (s : State) : Host.Outcome State Fault Refusal :=
  s.done (s.responseIn addr port hsId cNonce mac)

/-- CLOSE (R354). -/
def execClose (addr port sess seq : Nat) (s : State) : Host.Outcome State Fault Refusal := s.done (s.closeIn addr port sess seq)

/-- HANDSHAKE_EXPIRE (R350): 2,000 ms after the HELLO. -/
def execHandshakeExpire (hsId : Nat) (s : State) : Host.Outcome State Fault Refusal :=
  match s.ctl.hands.find? fun h => h.id == hsId with
  | none => s.done s
  | some h => s.done ((s.reachCclk (h.born + ms 2000)).dropHand hsId)

/-- LOCKOUT_END (R351): 10 s after the fourth failure. -/
def execLockoutEnd (addr : Nat) (s : State) : Host.Outcome State Fault Refusal :=
  match s.ctl.lockouts.find? fun p => p.1 == addr with
  | none => s.done s
  | some p =>
    let t := s.reachCclk p.2
    s.done { t with ctl := { t.ctl with lockouts := t.ctl.lockouts.filter fun q => q.1 != addr } }

/-- SESSION_TIMEOUT (R354): the session has been idle for SESSION_TIMEOUT, in elapsed CCLK. -/
def execSessionTimeout (sess : Nat) (s : State) : Host.Outcome State Fault Refusal :=
  match s.session sess with
  | none => s.done s
  | some x => s.done ((s.reachCclk (x.last + ms (s.reg Reg.sessionTimeout))).endSession sess 1)

/-- SEND (R358). -/
def execSend (keyEn sigOk : Bool) (bytes : Bytes) (s : State) : Host.Outcome State Fault Refusal :=
  s.done (s.sendIn keyEn sigOk bytes).resumeJobs

/-- FETCH (R358). -/
def execFetch (keyEn : Bool) (s : State) : Host.Outcome State Fault Refusal := s.done (s.fetchIn keyEn)

/-- STATUS_POLL (R358). -/
def execStatusPoll (keyEn : Bool) (cmd : Nat) (s : State) : Host.Outcome State Fault Refusal := s.done (s.pollIn keyEn cmd)

/-- CTRL_PARSE (R342). -/
def execCtrlParse (engine : Nat) (sigOk : Bool) (s : State) : Host.Outcome State Fault Refusal :=
  s.done (s.packetStep engine 19 1 (State.ctrlItem sigOk)).resumeJobs

/-- QUEUE_PUSH_UNBLOCKED (R372). -/
def execQueuePushUnblocked (engine : Nat) (s : State) : Host.Outcome State Fault Refusal :=
  s.done (s.pushUnblocked engine).resumeJobs

/-- QUEUE_MOVE (R387). -/
def execQueueMove (engine : Nat) (s : State) : Host.Outcome State Fault Refusal := s.done (s.runTask engine 8 workMove).resumeJobs

/-- SIGNAL (R387). -/
def execSignal (engine : Nat) (s : State) : Host.Outcome State Fault Refusal := s.done (s.runTask engine 14 workSignal).resumeJobs

/-- SACN_PARSE (R187). -/
def execSacnParse (engine : Nat) (s : State) : Host.Outcome State Fault Refusal := s.done (s.sacnParse engine).resumeJobs

/-- ROPE_CTRL (R332). -/
def execRopeCtrl (engine : Nat) (s : State) : Host.Outcome State Fault Refusal := s.done (s.ropeCtrl engine).resumeJobs

end Sys2Proof.Machine
end

