-- ==== Sys2Proof/Machine/Rows.lean ====
section
/-! DEFINITION. The commands that name a subindex: a read, a write, a timed write or a description of any subindex, and one
command for each subindex that has a row of its own. Each is the operation of `Access` or `Domain` on that subindex, from a
session or from the local port. A command whose operand names a unit that the part does not have leaves the state as it is. -/

namespace Sys2Proof.Machine

/-! ### Any subindex -/

/-- READ (R338). -/
def execRead (o : Origin) (ix sub ty : Nat) (s : State) : Host.Outcome State Fault Refusal :=
  s.done (s.serve o ix sub fun s r => s.opRead o r ix sub ty)

/-- WRITE (R340). -/
def execWrite (o : Origin) (ix sub ty : Nat) (val : Bytes) (s : State) : Host.Outcome State Fault Refusal :=
  s.done (s.serve o ix sub fun s r => outOf (s.opWrite o r ix sub ty val)).resumeJobs

/-- TIMED_WRITE (R61). -/
def execTimedWrite (o : Origin) (ix sub ty : Nat) (val : Bytes) (time : Nat) (s : State) : Host.Outcome State Fault Refusal :=
  s.done (s.serve o ix sub fun s r => outOf (s.opTimed o r ix sub ty val time))

/-- DESCRIBE (R345). -/
def execDescribe (o : Origin) (ix sub : Nat) (s : State) : Host.Outcome State Fault Refusal :=
  s.done (s.serve o ix sub fun s r => s.opDescribe r ix sub)

/-- Has the subindex this access code? -/
def hasAcc (ix sub : Nat) (a : Acc) : Bool := (odFind ix sub).any fun x => x.acc == a

/-- OD_WRITE (R14): a write to a subindex that is read and written and has no behaviour of its own. -/
def execOdWrite (o : Origin) (ix sub : Nat) (val : Bytes) (s : State) : Host.Outcome State Fault Refusal :=
  s.done (if hasAcc ix sub .rw then s.rowWrite o ix sub val else s)

/-- RC_COUNTER_READ (R12). -/
def execRcCounterRead (o : Origin) (ix sub : Nat) (s : State) : Host.Outcome State Fault Refusal :=
  s.done (if hasAcc ix sub .rc then s.rowRead o (Reg.key ix sub) else s)

/-! ### Writes of numbers -/

/-- REQ_SHOW (R47). -/
def execReqShow (o : Origin) (s : State) : Host.Outcome State Fault Refusal := s.done (s.rowNum o Reg.reqShow 1 1)

/-- REQ_STAGING (R47). -/
def execReqStaging (o : Origin) (s : State) : Host.Outcome State Fault Refusal := s.done (s.rowNum o Reg.reqStaging 1 1)

/-- REQ_DARK (R44). -/
def execReqDark (o : Origin) (s : State) : Host.Outcome State Fault Refusal := s.done (s.rowNum o Reg.reqDark 1 1)

/-- COMMIT (R58). -/
def execCommit (o : Origin) (s : State) : Host.Outcome State Fault Refusal := s.done (s.rowNum o Reg.commit 1 1)

/-- DISCARD (R58). -/
def execDiscard (o : Origin) (s : State) : Host.Outcome State Fault Refusal := s.done (s.rowNum o Reg.discard 1 1)

/-- TIMED_CANCEL (R64). -/
def execTimedCancel (o : Origin) (s : State) : Host.Outcome State Fault Refusal := s.done (s.rowNum o Reg.timedCancel 1 1)

/-- SWITCH (R85). -/
def execSwitch (o : Origin) (s : State) : Host.Outcome State Fault Refusal := s.done (s.rowNum o Reg.switch 1 1)

/-- CAL_ACCEPT (R259). -/
def execCalAccept (o : Origin) (s : State) : Host.Outcome State Fault Refusal := s.done (s.rowNum o Reg.calAccept 1 1)

/-- CAL_DISCARD (R250). -/
def execCalDiscard (o : Origin) (s : State) : Host.Outcome State Fault Refusal := s.done (s.rowNum o Reg.calDiscard 1 1)

/-- SNAPSHOT (R263). -/
def execSnapshot (o : Origin) (s : State) : Host.Outcome State Fault Refusal := s.done (s.rowNum o Reg.snapshot 1 1)

/-- ACCEPT_STEP (R278). -/
def execAcceptStep (o : Origin) (s : State) : Host.Outcome State Fault Refusal := s.done (s.rowNum o Reg.acceptStep 1 1)

/-- INJECT_ARM (R335). -/
def execInjectArm (o : Origin) (s : State) : Host.Outcome State Fault Refusal := s.done (s.rowNum o Reg.arm 1 1)

/-- CLEAR_POSITION (R333). -/
def execClearPosition (o : Origin) (s : State) : Host.Outcome State Fault Refusal := s.done (s.rowNum o Reg.clearPosition 1 1)

/-- REROPE (R328). -/
def execRerope (o : Origin) (s : State) : Host.Outcome State Fault Refusal := s.done (s.rowNum o Reg.rerope 1 1)

/-- FW_RESTART (R365). -/
def execFwRestart (o : Origin) (s : State) : Host.Outcome State Fault Refusal := s.done (s.rowNum o Reg.fwRestart 1 1)

/-- FW_FLOOR_RAISE (R365). -/
def execFwFloorRaise (o : Origin) (s : State) : Host.Outcome State Fault Refusal := s.done (s.rowNum o Reg.fwFloorRaise 1 1)

/-- FIRST_CLEAR (R440). -/
def execFirstClear (o : Origin) (s : State) : Host.Outcome State Fault Refusal := s.done (s.rowNum o Reg.firstClear 1 1)

/-- FAULT_ACK (R436). -/
def execFaultAck (o : Origin) (s : State) : Host.Outcome State Fault Refusal := s.done (s.rowNum o Reg.faultAck 1 1)

/-- DARK_RELEASE (R439). -/
def execDarkRelease (o : Origin) (s : State) : Host.Outcome State Fault Refusal := s.done (s.rowNum o Reg.darkRelease 1 1)

/-- INJECT_DISARM (R335). -/
def execInjectDisarm (o : Origin) (s : State) : Host.Outcome State Fault Refusal := s.done (s.rowNum o Reg.arm 1 0)

/-- CAL_RUN_SINK (R253). -/
def execCalRunSink (o : Origin) (s : State) : Host.Outcome State Fault Refusal := s.done (s.rowNum o Reg.calRun 1 1)

/-- CAL_RUN_NTC (R256). -/
def execCalRunNtc (o : Origin) (s : State) : Host.Outcome State Fault Refusal := s.done (s.rowNum o Reg.calRun 1 2)

/-- CAL_RUN_TSLAT (R257). -/
def execCalRunTslat (o : Origin) (s : State) : Host.Outcome State Fault Refusal := s.done (s.rowNum o Reg.calRun 1 4)

/-- SELECT_SLOT (R67). -/
def execSelectSlot (o : Origin) (slot : Nat) (s : State) : Host.Outcome State Fault Refusal :=
  s.done (s.rowNum o Reg.selectSlot 1 slot)

/-- LOAD (R84). -/
def execLoad (o : Origin) (slot : Nat) (s : State) : Host.Outcome State Fault Refusal := s.done (s.rowNum o Reg.load 1 slot)

/-- MARK (R108). -/
def execMark (o : Origin) (stream : Nat) (s : State) : Host.Outcome State Fault Refusal :=
  s.done (if stream < 8 then s.rowNum o (Reg.streamMark stream) 1 1 else s)

/-- REWIND (R108). -/
def execRewind (o : Origin) (stream : Nat) (s : State) : Host.Outcome State Fault Refusal :=
  s.done (if stream < 8 then s.rowNum o (Reg.streamRewind stream) 1 1 else s)

/-- LOOP_START (R111). -/
def execLoopStart (o : Origin) (loop : Nat) (s : State) : Host.Outcome State Fault Refusal :=
  s.done (if loop < 16 then s.rowNum o (Reg.loopStart loop) 1 1 else s)

/-- LOOP_STOP (R111). -/
def execLoopStop (o : Origin) (loop : Nat) (s : State) : Host.Outcome State Fault Refusal :=
  s.done (if loop < 16 then s.rowNum o (Reg.loopStop loop) 1 1 else s)

/-- LOOP_REWIND (R113). -/
def execLoopRewind (o : Origin) (loop : Nat) (s : State) : Host.Outcome State Fault Refusal :=
  s.done (if loop < 16 then s.rowNum o (Reg.loopRewind loop) 1 1 else s)

/-- FADE_STOP (R184). -/
def execFadeStop (o : Origin) (slot : Nat) (s : State) : Host.Outcome State Fault Refusal :=
  s.done (s.rowNum o Reg.fadeStop 2 slot)

/-- DISC_START (R201). -/
def execDiscStart (o : Origin) (port : Nat) (s : State) : Host.Outcome State Fault Refusal :=
  s.done (s.rowNum o Reg.discStart 1 port)

/-- SESS_KILL (R354). -/
def execSessKill (o : Origin) (sess : Nat) (s : State) : Host.Outcome State Fault Refusal :=
  s.done (s.rowNum o Reg.sessKill 4 sess)

/-- RELEASE (R409). -/
def execRelease (o : Origin) (cb : Nat) (s : State) : Host.Outcome State Fault Refusal := s.done (s.rowNum o Reg.release 1 cb)

/-- FORCE_RELEASE (R410). -/
def execForceRelease (o : Origin) (cb : Nat) (s : State) : Host.Outcome State Fault Refusal :=
  s.done (s.rowNum o Reg.forceRelease 1 cb)

/-- TASK_CANCEL (R397). -/
def execTaskCancel (o : Origin) (task : Nat) (s : State) : Host.Outcome State Fault Refusal :=
  s.done (s.rowNum o Reg.taskCancel 4 task)

/-- DESC_CANCEL (R397). -/
def execDescCancel (o : Origin) (desc : Nat) (s : State) : Host.Outcome State Fault Refusal :=
  s.done (s.rowNum o Reg.descCancel 4 desc)

/-- PENDING (R449). -/
def execPending (o : Origin) (mask : Nat) (s : State) : Host.Outcome State Fault Refusal :=
  s.done (s.rowNum o Reg.pending 8 mask)

/-- FAULT_INJECT (R441). -/
def execFaultInject (o : Origin) (cls : Nat) (s : State) : Host.Outcome State Fault Refusal :=
  s.done (s.rowNum o Reg.faultInject 1 cls)

/-- CLEAR (R246). -/
def execClear (o : Origin) (lamp : Nat) (s : State) : Host.Outcome State Fault Refusal := s.done (s.rowNum o Reg.clear 2 lamp)

/-! ### Writes of records -/

/-- GROUP_SET (R184). -/
def execGroupSet (o : Origin) (group level : Nat) (s : State) : Host.Outcome State Fault Refusal :=
  s.done (s.rowWrite o (Reg.groupSet / 256) (Reg.groupSet % 256) (beBytes 2 group ++ beBytes 2 level))

/-- GROUP_BIND (R184). -/
def execGroupBind (o : Origin) (val : Bytes) (s : State) : Host.Outcome State Fault Refusal :=
  s.done (s.rowWrite o (Reg.groupBind / 256) (Reg.groupBind % 256) val)

/-- FADE_START (R183). -/
def execFadeStart (o : Origin) (val : Bytes) (s : State) : Host.Outcome State Fault Refusal :=
  s.done (s.rowWrite o (Reg.fadeStart / 256) (Reg.fadeStart % 256) val)

/-- RDM_REQ (R203). -/
def execRdmReq (o : Origin) (val : Bytes) (s : State) : Host.Outcome State Fault Refusal :=
  s.done (s.rowWrite o (Reg.rdmReq / 256) (Reg.rdmReq % 256) val)

/-- APPEND (R113). -/
def execAppend (o : Origin) (loop : Nat) (entry : Bytes) (s : State) : Host.Outcome State Fault Refusal :=
  s.done (if loop < 16 then s.rowWrite o (Reg.loopAppend loop / 256) (Reg.loopAppend loop % 256) entry else s)

/-- KEY_WRITE (R357). -/
def execKeyWrite (o : Origin) (slot : Nat) (key : Bytes) (s : State) : Host.Outcome State Fault Refusal :=
  s.done (if slot < 4 then s.rowWrite o ((Reg.keyObserver + slot) / 256) ((Reg.keyObserver + slot) % 256) key else s)

/-- ACQUIRE (R409). -/
def execAcquire (o : Origin) (val : Bytes) (s : State) : Host.Outcome State Fault Refusal :=
  s.done (s.rowWrite o (Reg.acquire / 256) (Reg.acquire % 256) val)

/-- RENEW (R409). -/
def execRenew (o : Origin) (val : Bytes) (s : State) : Host.Outcome State Fault Refusal :=
  s.done (s.rowWrite o (Reg.renew / 256) (Reg.renew % 256) val)

/-- PRIO_SET (R403). -/
def execPrioSet (o : Origin) (val : Bytes) (s : State) : Host.Outcome State Fault Refusal :=
  s.done (s.rowWrite o (Reg.prioSet / 256) (Reg.prioSet % 256) val)

/-- PUSH (R381). -/
def execPush (o : Origin) (queue : Nat) (item : Bytes) (s : State) : Host.Outcome State Fault Refusal :=
  s.done (if queue < 32 then s.rowWrite o (Reg.spillPush queue / 256) (Reg.spillPush queue % 256) item else s).resumeJobs

/-! ### Reads that remove -/

/-- POP (R381). -/
def execPop (o : Origin) (queue : Nat) (s : State) : Host.Outcome State Fault Refusal :=
  s.done (if queue < 32 then s.rowRead o (Reg.spillPop queue) else s)

/-- CLAMP_READ (R486). -/
def execClampRead (o : Origin) (s : State) : Host.Outcome State Fault Refusal := s.done (s.rowRead o Reg.clampRead)

/-- REJECT_READ (R486). -/
def execRejectRead (o : Origin) (s : State) : Host.Outcome State Fault Refusal := s.done (s.rowRead o Reg.rejectRead)

/-- EVQ_READ (R486). -/
def execEvqRead (o : Origin) (s : State) : Host.Outcome State Fault Refusal := s.done (s.rowRead o Reg.evqRead)

/-- FAULT_READ (R426). -/
def execFaultRead (o : Origin) (s : State) : Host.Outcome State Fault Refusal := s.done (s.rowRead o Reg.faultRead)

/-- TRACE_READ (R486). -/
def execTraceRead (o : Origin) (s : State) : Host.Outcome State Fault Refusal := s.done (s.rowRead o Reg.traceRead)

/-- RDM_RESP (R203). -/
def execRdmResp (o : Origin) (s : State) : Host.Outcome State Fault Refusal := s.done (s.rowRead o Reg.rdmResp)

/-- DIAG_READ (R303). -/
def execDiagRead (o : Origin) (port : Nat) (s : State) : Host.Outcome State Fault Refusal :=
  s.done (if port < 3 then s.rowRead o (Reg.diagDiagRead port) else s)

/-- CAPTURE (R285). -/
def execCapture (o : Origin) (input : Nat) (s : State) : Host.Outcome State Fault Refusal :=
  s.done (if input < 4 then s.rowRead o (Reg.eciCapture input) else s)

/-! ### Whole DOMAIN subindices -/

/-- SLOT_A (R69). -/
def execSlotA (o : Origin) (slotB : Bool) (image : Bytes) (s : State) : Host.Outcome State Fault Refusal :=
  s.done (s.rowWhole o (if slotB then Reg.slotB else Reg.slotA) 0 image false)

/-- SURF_DATA (R110). -/
def execSurfData (o : Origin) (image : Bytes) (s : State) : Host.Outcome State Fault Refusal :=
  s.done (s.rowWhole o Reg.surfData 0 image false)

/-- COEF_DATA (R123). -/
def execCoefData (o : Origin) (data : Bytes) (s : State) : Host.Outcome State Fault Refusal :=
  s.done (s.rowWhole o Reg.coefData 0 data false)

/-- LUT_DATA (R124). -/
def execLutData (o : Origin) (data : Bytes) (s : State) : Host.Outcome State Fault Refusal :=
  s.done (s.rowWhole o Reg.lutData 0 data false)

/-- FW_IMAGE (R364). -/
def execFwImage (o : Origin) (fallback : Bool) (image : Bytes) (sigOk : Bool) (s : State) : Host.Outcome State Fault Refusal :=
  s.done (s.rowWhole o (if fallback then Reg.fwFallback else Reg.fwImage) 0 image sigOk)

/-- FLASH_RAW (R365). -/
def execFlashRaw (o : Origin) (start : Nat) (data : Bytes) (s : State) : Host.Outcome State Fault Refusal :=
  s.done (s.rowWhole o Reg.flashRaw start data false)

end Sys2Proof.Machine
end

