-- ==== Sys2Proof/Machine/Tick.lean ====
section
/-! DEFINITION. The tick boundary (R33, R41, R45 to R49, R59): time and index advance, changes apply in the order of R59, the mode
changes in the order of R48, the raster of the tick starts, and every block takes its step. Arming (R52) and the holdover limit
(R47) follow at the same boundary. -/

namespace Sys2Proof.Machine

/-! ### Measurements -/

/-- The reading of rail `n` of Table 16.7, 7 being VDDQ_DDR. -/
def Sensors.rail (m : Sensors) (n : Nat) : Nat := if n = 7 then m.vddq else m.rails.getD n 0

/-- The supplies that make up the rail of code `c`: rail 5 is a pair (R455). -/
def railMembers (c : Nat) : List Nat := if c = 5 then [5, 7] else [c]

/-- Warned rails that read inside their band, with the elapsed CCLK since when (R455). -/
def State.bandNote (s : State) (m : Sensors) : State :=
  let l := s.power.warned.foldl (fun (l : List (Nat × Nat)) n =>
    if (railMembers n).any fun k => beyondBand k (m.rail k) then assocDel l n
    else if (assocGet l n).isSome then l
    else assocSet l n s.clock.cclk) s.power.inBand
  { s with power := { s.power with inBand := l } }

/-- The rails and die temperatures as last measured (R455, R484, Table 17.4): RAIL_MV, VDDQ_MV, TJ_LOGIC, TJ_FBX and TJ_PEAK. -/
def State.measured (s : State) (m : Sensors) : State :=
  let fbx := s.domOn 8
  let hot := if fbx then max m.tjLogic m.tjFbx else m.tjLogic
  let s := s.setRegs [(Reg.railMv, beNat ((List.range 7).flatMap fun n => beBytes 2 (m.rail n))), (Reg.vddqMv, m.vddq % 65536),
    (Reg.tjLogic, ofSigned 2 m.tjLogic), (Reg.tjFbx, if fbx then ofSigned 2 m.tjFbx else 0x8000)]
  let s := s.extreme false (toSigned 2) Reg.tjPeak (ofSigned 2 hot)
  ({ s with power := { s.power with hourPeak := max s.power.hourPeak hot } }).bandNote m

/-! ### Time -/

/-- The next boundary is reached: TICK_INDEX, TICK_TIME and the instant of the boundary after it (R41, R276). -/
def State.advance (s : State) : State :=
  let s := s.reach s.tick.nextTime
  let idx := s.tick.nextIdx
  let t := s.tick
  let s := s.setRegs [(Reg.tickIndex, idx % two64), (Reg.tickTime, time80 t.nextTime)]
  { s with tick := { t with time := t.nextTime, nextIdx := idx + 1, nextTime := s.tickAt (idx + 1),
                            cclk := s.clock.cclk, realign := false, counted := false } }

/-- What is noted for one tick only starts again. -/
def State.tickClear (s : State) : State :=
  { s with ev := { s.ev with merged := [] }, sched := { s.sched with released := [] }, buf := { s.buf with sum := 0, seen := 0 } }

/-! ### Waits on spill queues (R381) -/

/-- One boundary less for every waiting POP. -/
def SpillWait.step : SpillWait → SpillWait
  | .pop o n => .pop o (n - 1)
  | .task r => .task r

/-- The party whose POP has waited its boundaries out. -/
def SpillWait.over : SpillWait → Option Origin
  | .pop o 0 => some o
  | .pop _ _ => none
  | .task _ => none

/-- POPs that have waited POP_WAIT boundaries end with 0x0701. -/
def State.popTick (s : State) : State :=
  let spills := s.q.spills.map fun (p : Nat × Spill) => (p.1, { p.2 with waits := p.2.waits.map SpillWait.step })
  let gone := spills.flatMap fun (p : Nat × Spill) => (p.2.waits.filterMap SpillWait.over).map fun o => (p.1, o)
  let left := spills.map fun (p : Nat × Spill) => (p.1, { p.2 with waits := p.2.waits.filter fun w => w.over.isNone })
  gone.foldl (fun (s : State) g => s.popResult g.2 (0x8C00 + g.1) 0x0701 []) { s with q := { s.q with spills := left } }

/-! ### Changes of mode at the boundary (Table 2.4, R48) -/

/-- ROPING ends in STAGING, or through it in DARK when a trigger was recorded. -/
def State.ropingStep (s : State) : State :=
  match s.mode.mode, s.mode.ropingEnd with
  | .roping, some c =>
    let dark := s.mode.darkRec
    let s := s.enterStaging c
    match dark with
    | some d => s.enterDark d
    | none => s
  | .roping, none => s
  | _, _ => { s with mode := { s.mode with ropingEnd := none } }

/-- The first REQ_STAGING of the boundary changes the mode where Table 2.4 allows it; every other one is refused. -/
def State.stagingStep (s : State) : State :=
  match s.mode.stageReqs with
  | [] => s
  | _ :: rest =>
    let ok := s.mode.mode.shows || (s.mode.mode == .dark && s.pins.darkN && !s.belay.darkOut && !s.mode.darkNew)
    if ok then
      (({ s with mode := { s.mode with stageReqs := rest } }).enterStaging 2).cmdState Reg.reqStaging 2 |>.refuseStaging
    else s.refuseStaging

/-- The changes of mode that fall due at this boundary, the first in the order of R48. A lock regained in HOLDOVER stands after
REQ_STAGING, which R48 names where it does not name the lock (DESIGN CHOICE, log 80). -/
def State.modeStep (s : State) : State :=
  let was := s.mode.mode
  let s := s.ropingStep
  let s := match s.mode.mode, s.mode.toHoldover with
    | .onShow, some c => (s.enterHoldover c).refuseStaging
    | _, _ =>
      if !s.mode.stageReqs.isEmpty then s.stagingStep
      else if s.mode.mode == Mode.holdover && s.mode.toShow then s.setMode .onShow 10
      else s
  let s := { s with mode := { s.mode with darkNew := false, toHoldover := none, toShow := s.mode.toShow && s.mode.mode == Mode.holdover } }
  let s := if s.mode.mode == .staging then s else s.refuseShow
  if s.mode.mode == was then s else s.noteChange

/-- SHOW_BLOCK but for NOT_ARMED. -/
def State.blocked (s : State) : Nat := s.showBlock &&& 0x7B

/-- One arming tick less; an arming that SHOW_BLOCK stops is abandoned, and refused when SHOW would begin without time (R48, R52). -/
def State.armStep (s : State) : State :=
  match s.mode.arming with
  | none => s
  | some n =>
    if s.mode.mode ≠ .staging then s.dropArming
    else if s.blocked ≠ 0 ∨ s.mode.armBroken then
      let s := if n ≤ 1 && bit s.blocked 1 then s.refuseShow else s
      s.dropArming
    else { s with mode := { s.mode with arming := some (n - 1) } }

/-! ### Bands -/

/-- Do a layer or a group name band `b`? -/
def State.bandNamed (s : State) (b : Nat) : Bool :=
  ((List.range 16).any fun k => s.reg (layerReg k 0x14) == 0x0100 + b) || s.buf.groups.any fun p => p.2.band == b

/-- The bands' values of the tick; a named one that moves is a change (R133, R164). -/
def State.bandStep (s : State) : State :=
  let t := s.bandTick
  if (List.range 32).any fun b => s.bandM b != t.bandM b && t.bandNamed b then t.noteChange else t

/-! ### The boundary -/

/-- A change of rate or a step waits for this boundary, so a realignment interval follows it (R84, R276). -/
def State.realignDue (s : State) : Bool :=
  let other := fun (t : Topo) => t.num != s.reg Reg.tickNum || t.den != s.reg Reg.tickDen
  s.tick.stepDue.isSome || s.topo.staged.any other || (s.topo.switch == .copying 0 && s.topo.cand.any other)

/-- A row of its own starts the raster at this boundary: an activation, or a switch's new tables. -/
def State.startLater (s : State) : Bool := s.topo.staged.isSome || (s.topo.switch == .copying 0 && s.topo.cand.isSome)

/-- Does TICK start a raster here: fixed blanking, or a porch extended to this boundary (R146, R159)? -/
def State.startsHere (s : State) : Bool :=
  !s.ras.on || s.ras.blank == 0 || (s.ras.extend && decide (s.lineAt s.vTotal ≤ s.tick.time))

/-- The raster of the tick starts, where one does; nothing composes yet. The flag says that one has started. -/
def State.rasterBegin (s : State) : Bool × State :=
  if !s.startsHere then (false, s)
  else if s.ras.on then
    let s := s.openFrame.2
    if s.startLater then (false, s) else (true, s.beginRaster)
  else if s.startLater then (false, s)
  else
    let r := ({ s with tick := { s.tick with hold := false } }).firstRaster
    (r.1, { r.2 with tick := { r.2.tick with settleNext := false } })

/-- The raster of the tick, what it takes, and whether it composes (R141): takes, bands and the merge snapshot follow the sets that
come into use here, and precede composition. Where a row of its own starts the raster, that row takes. -/
def State.rasterStep (s : State) : State :=
  let r := s.rasterBegin
  let s := if r.2.startLater then r.2 else r.2.takeStep r.1
  let st := s.bandStep.mergeSnapshot.staticStep
  if r.1 && st.1 then st.2.composeStart else st.2

/-- The ticks of a switch before its tables are in force hold the outputs (R88). -/
def State.holdSwitch (s : State) : State :=
  let copying := match s.topo.switch with
    | .copying _ => true
    | _ => false
  if s.topo.switchBegin || copying then { s with tick := { s.tick with hold := true } } else s

/-- What egress starts at a boundary of fixed blanking (R195, R199, R205, R207). -/
def State.egressStep (s : State) : State :=
  let s := s.sacnStart
  if s.realignDue then s else s.dmxTick.pxTick

/-- In variable blanking only DMX starts on ticks. -/
def State.egressFree (s : State) : State := if s.realignDue then s else s.dmxTick

/-- The boundary up to step 1 of R59; step 2 follows here, or as TIMED_WRITE_DUE. -/
def State.boundaryBegin (s : State) : State :=
  let s := (s.raise 0 []).tickClear.calStep.readStamps
  let fixed := s.startsHere
  let s := if fixed then s.endNotes else s
  let s := (List.range 16).foldl State.loopTick s.fadeStep
  s.applyLive.candCheck.runLive.storeDue

/-- The boundary from step 3 of R59 on; `commit` says that a timed commit is due, `vled` is the mean of VLED_SNS. -/
def State.boundaryEnd (s : State) (vled : Nat) (commit : Bool) : State :=
  let s := { s with tick := { s.tick with restVled := none } }
  let s := s.candCheck
  let s := if commit then s.applyCommit.timedCommit else s.applyCommit
  let s := (s.modeStep.armStep.initStep.switchStep).ropeBoundary
  let s := if s.topo.switchBegin then s.noteChange else s
  let fixed := s.startsHere
  let s := if fixed then s.strandLatch else s
  let s := s.rasterStep.holdSwitch
  let s := if s.ras.on && !s.ras.composes && s.reg Reg.staticState == 1 then s else s.tempTick
  let s := (s.draughtTick vled).probeTick
  let s := s.windowTick
  let s := if fixed then s.egressStep else s.egressFree
  let s := (List.range 4).foldl State.pulseTick s
  let s := { s with tick := { s.tick with sinceStep := s.tick.sinceStep + 1 } }
  s.popTick.resumeJobs.lateIn

/-- Timed writes are due at the boundary just taken. -/
def State.timedHere (s : State) : Bool := s.stage.timed.any fun t => decide (t.due ≤ s.tick.time)

/-- The timed writes of a boundary act, and its remaining work follows (R59, R62). -/
def State.timedRest (s : State) : State :=
  match s.tick.restVled with
  | none => s
  | some v =>
    let r := s.timedDue
    r.2.boundaryEnd v r.1

/-- The emission frame that ends with the tick is over (R228). -/
def State.frameOver (s : State) : State :=
  if s.fbx.on && decide (s.fbx.start + s.fbx.cfg.win ≤ s.tick.nextTime) then s.frameEnd else s

/-- TICK: the next boundary. In RESET the tick generator counts only (R45). -/
def State.tickStep (s : State) (m : Sensors) : State :=
  if s.mode.boot == .unpowered then s
  else
    let s := s.timedRest.frameOver
    let s := s.advance.measured m
    if !s.alive then s
    else if s.mode.fwRestart then (s.enterReset 13).bootAgain
    else
      let s := s.boundaryBegin
      if s.timedHere then { s with tick := { s.tick with restVled := some m.vled } } else s.boundaryEnd m.vled false

/-! ### What follows at the same boundary -/

/-- A change of R164 at the boundary just taken: the tick counts as one with a change, and a static tick is composed after all, with
temperature factors of its own (R166, R239). -/
def State.lateChange (s : State) : State :=
  if !s.atBoundary then s.noteChange
  else
    let s := s.setRas { s.ras with quiet := 0, change := false }
    if s.reg Reg.staticState ≠ 1 then s
    else
      let s := (s.setReg Reg.staticState 0).raise 8 []
      if s.ras.on && s.ras.noFlip && s.mayCompose then
        ((s.setRas { s.ras with noFlip := false }).setReg Reg.staticTicks (s.reg Reg.staticTicks - 1)).tempTick.composeStart
      else s

/-- LOOP_ADVANCE at a boundary, a change of its tick. -/
def State.loopStep (s : State) (j : Nat) : State :=
  let was := s.ras.change
  let t := s.loopAdvance j
  if t.ras.change && !was then (t.setRas { t.ras with change := was }).lateChange else t

/-- ARMING_START: the first of L arming ticks (R52), a flattening pass for every static layer (R142). -/
def State.armStart (s : State) : State :=
  if s.mode.mode == .staging && s.mode.arming.isNone && s.atBoundary && !s.tick.realign && s.blocked == 0 &&
      (!s.mode.showReqs.isEmpty || s.flag Reg.autoShow) then
    let s := ({ s with mode := { s.mode with arming := some s.lat } }).emberEmpty
    if s.ras.on && s.mayCompose then s.composeStart else s
  else s

/-- ARMING_DONE: L ticks after the first arming tick the unit enters SHOW, while SHOW_BLOCK reads 0 but for NOT_ARMED; a bit set
at this boundary abandons the arming, and a lost lock refuses SHOW (R48, R49, R52, Table 2.4). -/
def State.armDone (s : State) : State :=
  if s.mode.mode == .staging && s.mode.arming == some 0 && s.atBoundary then
    if s.blocked ≠ 0 ∨ s.mode.armBroken then (if bit s.blocked 1 then s.refuseShow else s).dropArming
    else
      let asked := !s.mode.showReqs.isEmpty
      let s := { s with mode := { s.mode with arming := none, armed := true, showReqs := [], toHoldover := none, toShow := false } }
      let s := (s.setMode .onShow (if asked then 2 else 9)).railOn.lateChange
      if asked then s.cmdState Reg.reqShow 2 else s
  else s

/-- HOLDOVER_LIMIT: EV17 at the boundary at which holdover has lasted HOLDOVER_LIMIT; TIME_REF is masked no longer (R47, R415). -/
def State.holdLimit (s : State) : State :=
  if s.mode.mode == .holdover && !s.mode.ev17 && s.atBoundary &&
      decide (((s.reg Reg.holdoverLimit * 1000000 : Nat) : Int) ≤ (s.tick.time : Int) - s.mode.holdAt) then
    let s := { s with mode := { s.mode with ev17 := true, refLimit := true } }
    (s.raise 17 (beBytes 4 ((s.viewNet Reg.holdoverMs).getD 0))).unmask 0x15 0 0
  else s

/-! ### Rows -/

/-- TICK (R33). -/
def execTick (m : Sensors) (s : State) : Host.Outcome State Fault Refusal := s.done (s.tickStep m)

/-- TIMED_WRITE_DUE (R62). -/
def execTimedWriteDue (s : State) : Host.Outcome State Fault Refusal := s.done s.timedRest

/-- HOLDOVER_LIMIT (R47). -/
def execHoldoverLimit (s : State) : Host.Outcome State Fault Refusal := s.done s.holdLimit

/-- LOOP_ADVANCE (R111). -/
def execLoopAdvance (loop : Nat) (s : State) : Host.Outcome State Fault Refusal := s.done (s.loopStep loop)

/-- ARMING_START (R52). -/
def execArmingStart (s : State) : Host.Outcome State Fault Refusal := s.done s.armStart

/-- ARMING_DONE (R52). -/
def execArmingDone (s : State) : Host.Outcome State Fault Refusal := s.done s.armDone

end Sys2Proof.Machine
end

