-- ==== Sys2Proof/Machine/Dispatch.lean ====
section
/-! DEFINITION. The dispatcher: one arm for each constructor of `Instr`, each a direct call of that command's meaning. -/

namespace Sys2Proof.Machine

def exec (i : Instr) (s : State) : Host.Outcome State Fault Refusal :=
  match i with
  | .powerUp => Sys2Proof.Machine.execPowerUp s
  | .resetNLow => Sys2Proof.Machine.execResetNLow s
  | .resetNRise bootSel => Sys2Proof.Machine.execResetNRise bootSel s
  | .firmwareVerify primaryOk fallbackOk => Sys2Proof.Machine.execFirmwareVerify primaryOk fallbackOk s
  | .bootSelfTest pass => Sys2Proof.Machine.execBootSelfTest pass s
  | .cairnRead corrupt => Sys2Proof.Machine.execCairnRead corrupt s
  | .supplyOutOfRange rail mv => Sys2Proof.Machine.execSupplyOutOfRange rail mv s
  | .supplyWarn rail mv => Sys2Proof.Machine.execSupplyWarn rail mv s
  | .fbxSupplyLow => Sys2Proof.Machine.execFbxSupplyLow s
  | .overTemp die temp => Sys2Proof.Machine.execOverTemp die temp s
  | .darkNLow => Sys2Proof.Machine.execDarkNLow s
  | .darkNHigh => Sys2Proof.Machine.execDarkNHigh s
  | .headEnChange level => Sys2Proof.Machine.execHeadEnChange level s
  | .edgeCaptured input rising => Sys2Proof.Machine.execEdgeCaptured input rising s
  | .clockFail clock => Sys2Proof.Machine.execClockFail clock s
  | .belayInternal unit => Sys2Proof.Machine.execBelayInternal unit s
  | .faultPin => Sys2Proof.Machine.execFaultPin s
  | .fireboxRef deviation => Sys2Proof.Machine.execFireboxRef deviation s
  | .coreWatchdog cpu => Sys2Proof.Machine.execCoreWatchdog cpu s
  | .domainSwitchOn d => Sys2Proof.Machine.execDomainSwitchOn d s
  | .domainPowerGood d => Sys2Proof.Machine.execDomainPowerGood d s
  | .domainSwitchTimeout d => Sys2Proof.Machine.execDomainSwitchTimeout d s
  | .domainSwitchOff d => Sys2Proof.Machine.execDomainSwitchOff d s
  | .dramRetry => Sys2Proof.Machine.execDramRetry s
  | .tick m => Sys2Proof.Machine.execTick m s
  | .timedWriteDue => Sys2Proof.Machine.execTimedWriteDue s
  | .holdoverLimit => Sys2Proof.Machine.execHoldoverLimit s
  | .staticEnter => Sys2Proof.Machine.execStaticEnter s
  | .fadeDone slot => Sys2Proof.Machine.execFadeDone slot s
  | .loopAdvance loop => Sys2Proof.Machine.execLoopAdvance loop s
  | .rasterLineStart late fault addr => Sys2Proof.Machine.execRasterLineStart late fault addr s
  | .sob kat => Sys2Proof.Machine.execSob kat s
  | .frameDone => Sys2Proof.Machine.execFrameDone s
  | .flueCopyStart => Sys2Proof.Machine.execFlueCopyStart s
  | .flueCopyDone ok => Sys2Proof.Machine.execFlueCopyDone ok s
  | .emissionFrameStart stuck sink => Sys2Proof.Machine.execEmissionFrameStart stuck sink s
  | .emissionSegmentStart => Sys2Proof.Machine.execEmissionSegmentStart s
  | .scanSlot samples probes => Sys2Proof.Machine.execScanSlot samples probes s
  | .emissionFrameEnd => Sys2Proof.Machine.execEmissionFrameEnd s
  | .lampUnverified => Sys2Proof.Machine.execLampUnverified s
  | .draughtRampEnd => Sys2Proof.Machine.execDraughtRampEnd s
  | .draughtOv mv => Sys2Proof.Machine.execDraughtOv mv s
  | .draughtUv mv => Sys2Proof.Machine.execDraughtUv mv s
  | .phaseCurrentLimit phase mv => Sys2Proof.Machine.execPhaseCurrentLimit phase mv s
  | .ntcSample input rt => Sys2Proof.Machine.execNtcSample input rt s
  | .strandFrameStart port => Sys2Proof.Machine.execStrandFrameStart port s
  | .rdmResponse port bytes => Sys2Proof.Machine.execRdmResponse port bytes s
  | .rdmTimeout port => Sys2Proof.Machine.execRdmTimeout port s
  | .sacnDataPacket => Sys2Proof.Machine.execSacnDataPacket s
  | .sacnDiscovery => Sys2Proof.Machine.execSacnDiscovery s
  | .portUp port => Sys2Proof.Machine.execPortUp port s
  | .portDown port => Sys2Proof.Machine.execPortDown port s
  | .rxFrame port frame align => Sys2Proof.Machine.execRxFrame port frame align s
  | .pause port quanta => Sys2Proof.Machine.execPause port quanta s
  | .pauseExpire port => Sys2Proof.Machine.execPauseExpire port s
  | .pauseWatchdog port => Sys2Proof.Machine.execPauseWatchdog port s
  | .pauseDisregardEnd port => Sys2Proof.Machine.execPauseDisregardEnd port s
  | .mdioPoll up speed => Sys2Proof.Machine.execMdioPoll up speed s
  | .eyeScan port width => Sys2Proof.Machine.execEyeScan port width s
  | .arpAnnounce => Sys2Proof.Machine.execArpAnnounce s
  | .igmpQuery port version => Sys2Proof.Machine.execIgmpQuery port version s
  | .igmpReportRepeat => Sys2Proof.Machine.execIgmpReportRepeat s
  | .igmpv2FallbackEnd => Sys2Proof.Machine.execIgmpv2FallbackEnd s
  | .sync port m => Sys2Proof.Machine.execSync port m s
  | .followUp port m => Sys2Proof.Machine.execFollowUp port m s
  | .delayReq port m => Sys2Proof.Machine.execDelayReq port m s
  | .delayResp port m => Sys2Proof.Machine.execDelayResp port m s
  | .announce port m d => Sys2Proof.Machine.execAnnounce port m d s
  | .pdelayReq port m => Sys2Proof.Machine.execPdelayReq port m s
  | .pdelayResp port m => Sys2Proof.Machine.execPdelayResp port m s
  | .pdelayRespFollowUp port m => Sys2Proof.Machine.execPdelayRespFollowUp port m s
  | .syncSend port => Sys2Proof.Machine.execSyncSend port s
  | .announceSend port => Sys2Proof.Machine.execAnnounceSend port s
  | .delayReqSend => Sys2Proof.Machine.execDelayReqSend s
  | .pdelayReqSend port => Sys2Proof.Machine.execPdelayReqSend port s
  | .syncTimeout => Sys2Proof.Machine.execSyncTimeout s
  | .announceTimeout => Sys2Proof.Machine.execAnnounceTimeout s
  | .initialSet => Sys2Proof.Machine.execInitialSet s
  | .stepApply => Sys2Proof.Machine.execStepApply s
  | .autoAccept => Sys2Proof.Machine.execAutoAccept s
  | .ptpWaitExpire => Sys2Proof.Machine.execPtpWaitExpire s
  | .ropeWaitExpire => Sys2Proof.Machine.execRopeWaitExpire s
  | .pulseEdge output => Sys2Proof.Machine.execPulseEdge output s
  | .heartbeatSend port => Sys2Proof.Machine.execHeartbeatSend port s
  | .heartbeat port mac hport addrState seg pos term => Sys2Proof.Machine.execHeartbeat port mac hport addrState seg pos term s
  | .heartbeatLoss port => Sys2Proof.Machine.execHeartbeatLoss port s
  | .provingDone port => Sys2Proof.Machine.execProvingDone port s
  | .breakNotice mac port cause lost => Sys2Proof.Machine.execBreakNotice mac port cause lost s
  | .breakNoticeRepeat port => Sys2Proof.Machine.execBreakNoticeRepeat port s
  | .healNotice mac port lost => Sys2Proof.Machine.execHealNotice mac port lost s
  | .headBeaconSend => Sys2Proof.Machine.execHeadBeaconSend s
  | .headBeacon mac pos seg term prefixV mode ring segLen prio => Sys2Proof.Machine.execHeadBeacon mac pos seg term prefixV mode ring segLen prio s
  | .beaconSilence => Sys2Proof.Machine.execBeaconSilence s
  | .headBidSend => Sys2Proof.Machine.execHeadBidSend s
  | .headBid mac prio keyPos term => Sys2Proof.Machine.execHeadBid mac prio keyPos term s
  | .biddingDone => Sys2Proof.Machine.execBiddingDone s
  | .headResign mac term => Sys2Proof.Machine.execHeadResign mac term s
  | .trailDownResign => Sys2Proof.Machine.execTrailDownResign s
  | .joinReqSend => Sys2Proof.Machine.execJoinReqSend s
  | .joinReq mac => Sys2Proof.Machine.execJoinReq mac s
  | .ropingRun => Sys2Proof.Machine.execRopingRun s
  | .ropeCall port hop callId seg recs => Sys2Proof.Machine.execRopeCall port hop callId seg recs s
  | .ropeCallEnd port callId seg recs => Sys2Proof.Machine.execRopeCallEnd port callId seg recs s
  | .callTimeout => Sys2Proof.Machine.execCallTimeout s
  | .ropeSet port callId seg segLen entries => Sys2Proof.Machine.execRopeSet port callId seg segLen entries s
  | .dupWindowForget src => Sys2Proof.Machine.execDupWindowForget src s
  | .injectDurationEnd => Sys2Proof.Machine.execInjectDurationEnd s
  | .sacnSourceTimeout src => Sys2Proof.Machine.execSacnSourceTimeout src s
  | .sacnSyncTimeout univ => Sys2Proof.Machine.execSacnSyncTimeout univ s
  | .hello addr port role => Sys2Proof.Machine.execHello addr port role s
  | .response addr port hsId cNonce mac => Sys2Proof.Machine.execResponse addr port hsId cNonce mac s
  | .close addr port sess seq => Sys2Proof.Machine.execClose addr port sess seq s
  | .handshakeExpire hsId => Sys2Proof.Machine.execHandshakeExpire hsId s
  | .lockoutEnd addr => Sys2Proof.Machine.execLockoutEnd addr s
  | .sessionTimeout sess => Sys2Proof.Machine.execSessionTimeout sess s
  | .read o ix sub ty => Sys2Proof.Machine.execRead o ix sub ty s
  | .write o ix sub ty val => Sys2Proof.Machine.execWrite o ix sub ty val s
  | .timedWrite o ix sub ty val time => Sys2Proof.Machine.execTimedWrite o ix sub ty val time s
  | .domainBegin o ix sub dir total start => Sys2Proof.Machine.execDomainBegin o ix sub dir total start s
  | .domainData o transfer block offset crc data => Sys2Proof.Machine.execDomainData o transfer block offset crc data s
  | .domainRead o transfer block offset count => Sys2Proof.Machine.execDomainRead o transfer block offset count s
  | .domainEnd o transfer abandon sigOk => Sys2Proof.Machine.execDomainEnd o transfer abandon sigOk s
  | .describe o ix sub => Sys2Proof.Machine.execDescribe o ix sub s
  | .domainTransferTimeout transfer => Sys2Proof.Machine.execDomainTransferTimeout transfer s
  | .send keyEn sigOk bytes => Sys2Proof.Machine.execSend keyEn sigOk bytes s
  | .fetch keyEn => Sys2Proof.Machine.execFetch keyEn s
  | .statusPoll keyEn cmd => Sys2Proof.Machine.execStatusPoll keyEn cmd s
  | .odWrite o ix sub val => Sys2Proof.Machine.execOdWrite o ix sub val s
  | .rcCounterRead o ix sub => Sys2Proof.Machine.execRcCounterRead o ix sub s
  | .reqShow o => Sys2Proof.Machine.execReqShow o s
  | .reqStaging o => Sys2Proof.Machine.execReqStaging o s
  | .reqDark o => Sys2Proof.Machine.execReqDark o s
  | .commit o => Sys2Proof.Machine.execCommit o s
  | .discard o => Sys2Proof.Machine.execDiscard o s
  | .timedCancel o => Sys2Proof.Machine.execTimedCancel o s
  | .selectSlot o slot => Sys2Proof.Machine.execSelectSlot o slot s
  | .load o slot => Sys2Proof.Machine.execLoad o slot s
  | .topoLoadDone => Sys2Proof.Machine.execTopoLoadDone s
  | .topoActivate => Sys2Proof.Machine.execTopoActivate s
  | .switch o => Sys2Proof.Machine.execSwitch o s
  | .switchBegin => Sys2Proof.Machine.execSwitchBegin s
  | .switchTablesInForce => Sys2Proof.Machine.execSwitchTablesInForce s
  | .armingStart => Sys2Proof.Machine.execArmingStart s
  | .armingDone => Sys2Proof.Machine.execArmingDone s
  | .slotA o slotB image => Sys2Proof.Machine.execSlotA o slotB image s
  | .mark o stream => Sys2Proof.Machine.execMark o stream s
  | .rewind o stream => Sys2Proof.Machine.execRewind o stream s
  | .loopStart o loop => Sys2Proof.Machine.execLoopStart o loop s
  | .loopStop o loop => Sys2Proof.Machine.execLoopStop o loop s
  | .append o loop entry => Sys2Proof.Machine.execAppend o loop entry s
  | .loopRewind o loop => Sys2Proof.Machine.execLoopRewind o loop s
  | .surfData o image => Sys2Proof.Machine.execSurfData o image s
  | .coefData o data => Sys2Proof.Machine.execCoefData o data s
  | .lutData o data => Sys2Proof.Machine.execLutData o data s
  | .groupSet o group level => Sys2Proof.Machine.execGroupSet o group level s
  | .groupBind o val => Sys2Proof.Machine.execGroupBind o val s
  | .fadeStart o val => Sys2Proof.Machine.execFadeStart o val s
  | .fadeStop o slot => Sys2Proof.Machine.execFadeStop o slot s
  | .rdmReq o val => Sys2Proof.Machine.execRdmReq o val s
  | .discStart o port => Sys2Proof.Machine.execDiscStart o port s
  | .calRunSink o => Sys2Proof.Machine.execCalRunSink o s
  | .calRunNtc o => Sys2Proof.Machine.execCalRunNtc o s
  | .calRunTslat o => Sys2Proof.Machine.execCalRunTslat o s
  | .calRunStart => Sys2Proof.Machine.execCalRunStart s
  | .calSequenceDone m => Sys2Proof.Machine.execCalSequenceDone m s
  | .calAccept o => Sys2Proof.Machine.execCalAccept o s
  | .calDiscard o => Sys2Proof.Machine.execCalDiscard o s
  | .snapshot o => Sys2Proof.Machine.execSnapshot o s
  | .acceptStep o => Sys2Proof.Machine.execAcceptStep o s
  | .injectArm o => Sys2Proof.Machine.execInjectArm o s
  | .injectDisarm o => Sys2Proof.Machine.execInjectDisarm o s
  | .clearPosition o => Sys2Proof.Machine.execClearPosition o s
  | .rerope o => Sys2Proof.Machine.execRerope o s
  | .keyWrite o slot key => Sys2Proof.Machine.execKeyWrite o slot key s
  | .sessKill o sess => Sys2Proof.Machine.execSessKill o sess s
  | .fwImage o fallback image sigOk => Sys2Proof.Machine.execFwImage o fallback image sigOk s
  | .fwRestart o => Sys2Proof.Machine.execFwRestart o s
  | .fwFloorRaise o => Sys2Proof.Machine.execFwFloorRaise o s
  | .flashRaw o start data => Sys2Proof.Machine.execFlashRaw o start data s
  | .acquire o val => Sys2Proof.Machine.execAcquire o val s
  | .release o cb => Sys2Proof.Machine.execRelease o cb s
  | .renew o val => Sys2Proof.Machine.execRenew o val s
  | .forceRelease o cb => Sys2Proof.Machine.execForceRelease o cb s
  | .leaseEnd cb => Sys2Proof.Machine.execLeaseEnd cb s
  | .prioSet o val => Sys2Proof.Machine.execPrioSet o val s
  | .taskCancel o task => Sys2Proof.Machine.execTaskCancel o task s
  | .descCancel o desc => Sys2Proof.Machine.execDescCancel o desc s
  | .push o queue item => Sys2Proof.Machine.execPush o queue item s
  | .pop o queue => Sys2Proof.Machine.execPop o queue s
  | .clampRead o => Sys2Proof.Machine.execClampRead o s
  | .rejectRead o => Sys2Proof.Machine.execRejectRead o s
  | .evqRead o => Sys2Proof.Machine.execEvqRead o s
  | .faultRead o => Sys2Proof.Machine.execFaultRead o s
  | .traceRead o => Sys2Proof.Machine.execTraceRead o s
  | .diagRead o port => Sys2Proof.Machine.execDiagRead o port s
  | .capture o input => Sys2Proof.Machine.execCapture o input s
  | .rdmResp o => Sys2Proof.Machine.execRdmResp o s
  | .pending o mask => Sys2Proof.Machine.execPending o mask s
  | .firstClear o => Sys2Proof.Machine.execFirstClear o s
  | .faultAck o => Sys2Proof.Machine.execFaultAck o s
  | .darkRelease o => Sys2Proof.Machine.execDarkRelease o s
  | .faultInject o cls => Sys2Proof.Machine.execFaultInject o cls s
  | .clear o lamp => Sys2Proof.Machine.execClear o lamp s
  | .planRelease entry => Sys2Proof.Machine.execPlanRelease entry s
  | .eventRelease desc => Sys2Proof.Machine.execEventRelease desc s
  | .prefetch engine => Sys2Proof.Machine.execPrefetch engine s
  | .dispatch engine => Sys2Proof.Machine.execDispatch engine s
  | .deadlineMiss task => Sys2Proof.Machine.execDeadlineMiss task s
  | .queueReadTimeout engine => Sys2Proof.Machine.execQueueReadTimeout engine s
  | .queuePushUnblocked engine => Sys2Proof.Machine.execQueuePushUnblocked engine s
  | .spillBurstWrite q => Sys2Proof.Machine.execSpillBurstWrite q s
  | .spillReadback q => Sys2Proof.Machine.execSpillReadback q s
  | .linkWalk bad queue cell => Sys2Proof.Machine.execLinkWalk bad queue cell s
  | .arbitration dram bank bm reqs => Sys2Proof.Machine.execArbitration dram bank bm reqs s
  | .nop engine => Sys2Proof.Machine.execNop engine s
  | .copy engine ecc => Sys2Proof.Machine.execCopy engine ecc s
  | .fill engine => Sys2Proof.Machine.execFill engine s
  | .crc32 engine ecc => Sys2Proof.Machine.execCrc32 engine ecc s
  | .unpack engine ecc => Sys2Proof.Machine.execUnpack engine ecc s
  | .sigReadback engine ecc => Sys2Proof.Machine.execSigReadback engine ecc s
  | .sacnMerge engine => Sys2Proof.Machine.execSacnMerge engine s
  | .audioBands engine => Sys2Proof.Machine.execAudioBands engine s
  | .queueMove engine => Sys2Proof.Machine.execQueueMove engine s
  | .gather engine ecc => Sys2Proof.Machine.execGather engine ecc s
  | .scrub engine ecc => Sys2Proof.Machine.execScrub engine ecc s
  | .selfTest engine pass => Sys2Proof.Machine.execSelfTest engine pass s
  | .lutLoad engine ecc => Sys2Proof.Machine.execLutLoad engine ecc s
  | .surfStore engine ecc => Sys2Proof.Machine.execSurfStore engine ecc s
  | .signal engine => Sys2Proof.Machine.execSignal engine s
  | .videoIngest engine => Sys2Proof.Machine.execVideoIngest engine s
  | .audioIngest engine => Sys2Proof.Machine.execAudioIngest engine s
  | .sacnParse engine => Sys2Proof.Machine.execSacnParse engine s
  | .pixelRx engine => Sys2Proof.Machine.execPixelRx engine s
  | .ctrlParse engine sigOk => Sys2Proof.Machine.execCtrlParse engine sigOk s
  | .ropeCtrl engine => Sys2Proof.Machine.execRopeCtrl engine s
  | .hdrBuild engine => Sys2Proof.Machine.execHdrBuild engine s
  | .csum engine ecc => Sys2Proof.Machine.execCsum engine ecc s
  | .host engine => Sys2Proof.Machine.execHost engine s
  | .faultReaction steps => Sys2Proof.Machine.execFaultReaction steps s
  | .cairnWriteDone => Sys2Proof.Machine.execCairnWriteDone s
  | .belayRestart => Sys2Proof.Machine.execBelayRestart s
  | .hearthScrub line ecc => Sys2Proof.Machine.execHearthScrub line ecc s
  | .scrubStalled dram => Sys2Proof.Machine.execScrubStalled dram s
  | .engineTestRelease => Sys2Proof.Machine.execEngineTestRelease s
  | .supplyBackInRange rail mv => Sys2Proof.Machine.execSupplyBackInRange rail mv s
  | .overTempClear die temp => Sys2Proof.Machine.execOverTempClear die temp s
  | .vledBelowMax mv => Sys2Proof.Machine.execVledBelowMax mv s
  | .lifeHour => Sys2Proof.Machine.execLifeHour s
  | .reorderHoldExpire port => Sys2Proof.Machine.execReorderHoldExpire port s
  | .dramScrubRelease => Sys2Proof.Machine.execDramScrubRelease s
  | .calRecordWriteDone => Sys2Proof.Machine.execCalRecordWriteDone s

end Sys2Proof.Machine
end

