-- ==== Sys2Proof/Safety.lean ====
section
/-! DEFINITION. What a safe run is, and the words the statements use: an event raised, the dictionary kept but for some
registers, the canonical form of the stores, who may use a subindex, and the commands that are the write of one subindex. -/

namespace Sys2Proof.Machine

/-- A step is safe when it answers a next state: no fault and no refusal. -/
def Safe (r : Host.Outcome State Fault Refusal) : Prop := ∃ t, r = .next t

/-- Between `s` and `t` no register but those in `ks` changed. -/
def RegsKept (ks : List Nat) (s t : State) : Prop := ∀ k, k ∉ ks → t.reg k = s.reg k

/-- The registers an event may change: its count, PENDING, the count of lost records, and with the cell its record takes POOL_MIN and
the count of EV34. -/
def evKeys (ev : Nat) : List Nat := [Reg.evCount ev, Reg.pending, Reg.evqLost, Reg.poolMin, Reg.evCount 34]

/-- Event `ev` was counted and is pending (R443). -/
def Counted (ev : Nat) (s t : State) : Prop :=
  t.reg (Reg.evCount ev) = min (s.reg (Reg.evCount ev) + 1) (two32 - 1) ∧ bit (t.reg Reg.pending) ev = true

/-- No EV34 can come of a record's cell: POOL_LOW_CELLS is 0, or EV34 stands since the pool fell to it (R379). -/
def State.poolQuiet (s : State) : Prop := s.reg Reg.poolLowCells = 0 ∨ s.q.lowArmed = false

/-- `l` are the fault slots of `s`: the same ones, unless a capture displaces a record of its very CCLK from the first-fault latch, which
changes that record's flags (R421). -/
def State.slotsLike (s : State) (l : List FaultSlot) : Prop :=
  (l.map fun x => (x.rcd.cls, x.stage)) = (s.belay.slots.map fun x => (x.rcd.cls, x.stage)) ∧
    (s.belay.latch = none ∨ s.belay.latchAt ≠ s.clock.cclk → l = s.belay.slots)

/-- The clock's fields lie in their ranges. -/
def ClockSt.ok (c : ClockSt) : Prop := c.ns < clockWrap ∧ c.frac < two32

/-- The stores of the block are in their canonical form. -/
def State.storesOk (s : State) : Prop :=
  storeWf regDefault s.regs = true ∧ storeWf flashDefault s.flash = true ∧ storeWf (hearthDefault s.mem.lut) s.mem.hearth = true ∧
    storeWf ramDefault s.mem.dram = true

/-- Origin `o` may use a subindex of role `r` whose block is in power domain `d`: the unit is out of RESET, the origin holds at
least that role, and the domain is ON (R15, R341). -/
def State.canUse (s : State) (o : Origin) (r : Role) (d : Nat) : Prop :=
  s.alive = true ∧ (∃ q, s.roleOf o = some q ∧ r.rank ≤ q.rank) ∧ s.domOn d = true

/-- `s` after an access of `o` to the subindex with key `k`: the result is sent, and the idle time of a session begins anew. -/
def State.answered (s : State) (o : Origin) (k status ty : Nat) (val : Bytes) : State :=
  { s with ctl := (s.touch o).ctl, sent := .result o status (k / 256) (k % 256) ty val :: s.sent }

/-- The change classes of `s` with a command of class L in its place: it waits for the next boundary, or for the one after it when the
write counts as after the boundary at hand (R55, R487). -/
def State.cmdWaits (s : State) (c : LCmd) : StageSt :=
  if s.pastBoundary then { s.stage with late := { s.stage.late with cmds := s.stage.late.cmds ++ [c] } }
  else { s.stage with cmds := s.stage.cmds ++ [c] }

/-- The change classes of `s` with a value of class L or F in its place (R55, R56). -/
def State.liveWaits (s : State) (k v : Nat) : StageSt :=
  if s.pastBoundary then { s.stage with late := { s.stage.late with live := assocSet s.stage.late.live k v } }
  else { s.stage with live := assocSet s.stage.live k v }

/-- The change classes of `s` with a value of class S in its place (R55, R57). -/
def State.stagedWaits (s : State) (k v : Nat) : StageSt :=
  if s.pastBoundary then { s.stage with late := { s.stage.late with staged := assocSet s.stage.late.staged k v } }
  else { s.stage with staged := assocSet s.stage.staged k v }

/-- The change classes of `s` after COMMIT: the staging set has joined the commit set of the boundary that comes (R58). -/
def State.committed (s : State) : StageSt :=
  if s.pastBoundary then { s.stage with staged := [], late := { s.stage.late with
    staged := [], commit := dedupe (s.stage.late.commit ++ s.stage.staged ++ s.stage.late.staged) } }
  else { s.stage with commit := dedupe (s.stage.commit ++ s.stage.staged), staged := [] }

/-- The cairn of `s` after a write of setting `k`: it holds those settings that the specification keeps there (R44). -/
def State.settingKept (s : State) (k v : Nat) : CairnSt :=
  if ((odFind (k / 256) (k % 256)).map Obj.cairn).getD false then { s.cairn with fields := assocSet s.cairn.fields k v } else s.cairn

/-- A frame of the unit of at most 128 bytes leaves port `p` at once: the port is not down, no PAUSE holds it, and the frame is not too
long for it (R294, R298, R301). -/
def State.portSends (s : State) (p : Nat) : Prop :=
  s.txDown p = false ∧ s.txPaused p = false ∧ 128 ≤ s.reg (Reg.portMaxFrame p)

/-- Engine `e` runs task `x` of type `ty`, and nothing else bears on its next step: it waits for no queue, no cancel is asked for,
it holds no carabiner, and no task waits in the engine's bivouac. -/
def State.runsTask (s : State) (e ty : Nat) (x : Task) : Prop :=
  e < s.sched.engines.length ∧ (s.engine e).run = some x ∧ (s.engine e).biv = [] ∧ dType x.row = ty ∧ x.stalled = false ∧
    x.blocked = none ∧ x.cancel = false ∧ (s.cb (dCb x.row)).owner ≠ some (.task x.id)

/-- From `s` to `t` engine `e` went on with `x` or, for `none`, ended its task; beside the engine only the scheduler's trace and
the memories changed. -/
def State.taskMoved (s t : State) (e : Nat) (x : Option Task) : Prop :=
  t.engine e = { s.engine e with run := x } ∧
    t = { s with sched := t.sched, regs := t.regs, ev := t.ev, q := t.q, report := t.report, mem := t.mem }

/-- From `s` to `t` the task of engine `e` faulted: it is counted, and class TASK_FAULT is captured. -/
def State.taskFaulted (s t : State) (e : Nat) : Prop :=
  t.engine e = { s.engine e with run := none } ∧ t.reg Reg.taskFaults = min (s.reg Reg.taskFaults + 1) (two32 - 1) ∧
    (t.belay.slots.any fun y => y.rcd.cls == 0x10) = true ∧ t.clock = s.clock ∧ t.flash = s.flash

/-- Packet engine `e` is free for an item of a queue: it runs no task, is in service, and its domain is ON. -/
def State.packetFree (s : State) (e : Nat) : Prop :=
  (s.engine e).run = none ∧ 12 ≤ e ∧ e < 16 ∧ (s.engine e).out = false ∧ s.domOn 2 = true

/-- The commands of class L that wait for their boundary under no condition but legal operands: the origin, the key and the role
of the subindex, and the value written. -/
def waitsAs : Instr → Option (Origin × Nat × Role × Bytes)
  | .reqShow o => some (o, Reg.reqShow, .operator, [1])
  | .reqStaging o => some (o, Reg.reqStaging, .installer, [1])
  | .calDiscard o => some (o, Reg.calDiscard, .installer, [1])
  | .acceptStep o => some (o, Reg.acceptStep, .installer, [1])
  | .mark o n => if n < 8 then some (o, Reg.streamMark n, .operator, [1]) else none
  | .loopStart o n => if n < 16 then some (o, Reg.loopStart n, .operator, [1]) else none
  | .loopStop o n => if n < 16 then some (o, Reg.loopStop n, .operator, [1]) else none
  | .discStart o n => if n < 8 then some (o, Reg.discStart, .installer, beBytes 1 n) else none
  | .clear o n => if n < 49152 ∨ n = 0xFFFF then some (o, Reg.clear, .operator, beBytes 2 n) else none
  | .groupSet o g l => if g < 1024 then some (o, Reg.groupSet, .operator, beBytes 2 g ++ beBytes 2 l) else none
  | .groupBind o v =>
    if v.length = 8 ∧ field v 0 2 < 1024 ∧ (field v 2 2 < 4096 ∨ field v 2 2 = 0xFFFF) ∧
        (field v 4 1 < 32 ∨ field v 4 1 = 0xFF) then some (o, Reg.groupBind, .operator, v) else none
  | .fadeStart o v =>
    if v.length = 8 ∧ field v 0 2 < 4096 ∧ 0 < field v 4 2 ∧ field v 6 1 < 5 then some (o, Reg.fadeStart, .operator, v) else none
  | .fadeStop o n => if n < 4096 then some (o, Reg.fadeStop, .operator, beBytes 2 n) else none
  | .rdmReq o v =>
    if v.length = 13 + field v 12 1 ∧ field v 12 1 < 232 ∧ field v 0 1 < 8 then some (o, Reg.rdmReq, .operator, v) else none
  | _ => none

/-- The writes that set a value at the next boundary: class L subindices that are no commands (R55). -/
def liveAs : Instr → Option (Origin × Nat × Role × Bytes)
  | .selectSlot o n => if n = 1 ∨ n = 2 then some (o, Reg.selectSlot, .installer, beBytes 1 n) else none
  | .append o n v =>
    if n < 16 ∧ v.length = 16 ∧ field v 0 2 < 1024 ∧ 0 < field v 2 2 ∧ field v 4 2 < 32768 then
      some (o, Reg.loopAppend n, .operator, v) else none
  | .keyWrite o n v =>
    if n < 3 ∧ v.length = 32 then some (o, Reg.keyObserver + n, .installer, v)
    else if n = 3 ∧ v.length = 32 then some (o, Reg.keyService, .service, v)
    else none
  | _ => none

end Sys2Proof.Machine
end

