-- ==== Sys2Proof/Certificates/Slice0/Obligations.lean ====
section
/-! DEFINITION. The statements about this block for the provers. -/

open Sys2Proof Sys2Proof.Machine

/-- The word of the queue: a step takes the command at the front and carries it out on the rest; with none it changes nothing
(the idle step is the model's choice, log 1). -/
def Obligations.StepTakesFrontCommand : Prop :=
  (∀ (c : Instr) (q : List Instr) (s : State), s.pending = c :: q → step s = exec c { s with pending := q }) ∧
    ∀ s : State, s.pending = [] → step s = .next s

/-- Every run goes on: after any number of steps from any state there is a next state, and what waits is what no step has yet
taken. No command of the table is refused and none faults. -/
def Obligations.EveryRunGoesOn : Prop :=
  ∀ (n : Nat) (s : State), ∃ t, Sys2Proof.core.run n s = .next t ∧ t.pending = s.pending.drop n

/-- The register map, the flash, the Hearth and the DRAM keep their canonical form through every step. -/
def Obligations.StoresStayCanonical : Prop := ∀ s t : State, s.storesOk → step s = .next t → t.storesOk

/-- The stores are canonical before power-on. -/
def Obligations.ResetStoresCanonical : Prop := State.reset.storesOk

/-- R262, R264, R279: through every step the clock stays in its range and elapsed time never goes back. No step changes the part, and none
takes back what was sent. -/
def Obligations.EveryStepKeeps : Prop :=
  (∀ s t : State, s.clock.ok → step s = .next t → t.clock.ok ∧ s.clock.cclk ≤ t.clock.cclk) ∧
  (∀ s t : State, step s = .next t → t.part = s.part ∧ s.sent <:+ t.sent)

/-- R262: the clock after `n` CCLK cycles is the loop of the rule run `n` times. R41: the boundary of tick n, and the least tick at or
after an instant. -/
def Obligations.ClockAndBoundaries : Prop :=
  (∀ (c : ClockSt) (n : Nat), c.ok → -858993 ≤ c.trim → c.trim ≤ 858993 →
     clockAdvance n c = Nat.repeat (fun c : ClockSt =>
       let a := (c.frac : Int) + ((two32 : Int) + c.trim)
       { c with frac := (a % (two32 : Int)).toNat, ns := (c.ns + (a / (two32 : Int)).toNat) % clockWrap, cclk := c.cclk + 1 }) n c) ∧
  (∀ (num den n t : Nat), 0 < num → 0 < den →
     boundary num den n = n * den * nsPerSec / num ∧ boundary num den n ≤ boundary num den (n + 1) ∧
     t ≤ boundary num den (leastBoundary num den t) ∧ ∀ m, t ≤ boundary num den m → leastBoundary num den t ≤ m)

/-- R434: the DARK latch is set by a clock failure and by a fault of the belay monitor itself, whatever the sequencer, the firmware and the
links do, and by no other command. -/
def Obligations.DarkLatchSetters : Prop :=
  (∀ (n : Nat) (s : State), s.alive = true → ∀ c ∈ [Instr.clockFail n, .belayInternal n],
    ∃ t, exec c s = .next t ∧ t.belay.latchDark = true ∧ t.belay.darkOut = true ∧ t.mode.mode = .dark) ∧
  ∀ (c : Instr) (s t : State), exec c s = .next t → t.belay.latchDark = true →
    s.belay.latchDark = true ∨ ∃ n, c = .clockFail n ∨ c = .belayInternal n

/-- R443: an event that is raised counts, is pending, and enters the event queue when its mask bit is 0 and its Q route 1, at the tail
unless records of the same instant with higher numbers stand there; none is raised in RESET. EV34 is raised once when the free cells have
fallen to POOL_LOW_CELLS, which a record may bring about. -/
def Obligations.EventsAreRecorded : Prop :=
  (∀ (ev : Nat) (p : Bytes) (s : State), s.alive = false → s.raise ev p = s) ∧
  (∀ (ev : Nat) (p : Bytes) (s : State), s.storesOk → s.alive = true → ev < 64 →
    RegsKept (evKeys ev) s (s.raise ev p) ∧
    (∀ b, b < 64 → b ≠ ev → b ≠ 34 → bit ((s.raise ev p).reg Reg.pending) b = bit (s.reg Reg.pending) b) ∧
    (ev ≠ 34 ∨ s.poolQuiet → Counted ev s (s.raise ev p) ∧
      ∀ q n, (s.raiseLoss ev q n p).reg (Reg.evCount ev) = min (s.reg (Reg.evCount ev) + n) (two32 - 1) ∧
        bit ((s.raiseLoss ev q n p).reg Reg.pending) ev = true) ∧
    (s.poolQuiet →
      (ev ≠ 34 → bit ((s.raise ev p).reg Reg.pending) 34 = bit (s.reg Reg.pending) 34) ∧
      (bit (s.reg Reg.mask) ev = true ∨ bit (s.reg Reg.routeQ) ev = false → (s.raise ev p).ev.queue = s.ev.queue) ∧
      (bit (s.reg Reg.mask) ev = false → bit (s.reg Reg.routeQ) ev = true → 0 < s.poolFree → s.ev.queue.length < 1024 →
        (∀ r ∈ s.ev.queue, r.time = s.now → r.ev ≤ ev) → (s.raise ev p).ev.queue = s.ev.queue ++
          [{ ev := ev, merged := false, time := s.now, tick := s.tickIdx, payload := p.take 12 }]))) ∧
  ∀ s : State, s.storesOk → s.alive = true → s.q.lowArmed = true → s.poolFree ≤ s.reg Reg.poolLowCells → 0 < s.reg Reg.poolLowCells →
    Counted 34 s s.poolCheck ∧ s.poolCheck.q.lowArmed = false

/-- R17: the value applied is the legal value nearest to the one written; of two equally near, one nearer zero. -/
def Obligations.ClampTakesNearest : Prop :=
  (∀ (lo hi v w : Int) (step : Nat), lo ≤ hi → 0 < step → (hi - lo) % (step : Int) = 0 →
    lo ≤ w → w ≤ hi → (w - lo) % (step : Int) = 0 →
    lo ≤ nearestLegal lo hi step v ∧ nearestLegal lo hi step v ≤ hi ∧ (nearestLegal lo hi step v - lo) % (step : Int) = 0 ∧
    (v - nearestLegal lo hi step v).natAbs ≤ (v - w).natAbs ∧
    ((v - nearestLegal lo hi step v).natAbs = (v - w).natAbs → (nearestLegal lo hi step v).natAbs ≤ w.natAbs)) ∧
  nearestLegal 0 5000 20 5013 = 5000 ∧ nearestLegal 0 5000 20 1010 = 1000 ∧ nearestLegal 0 5000 20 1020 = 1020

/-- R118: the sample comes back from its prediction and the code of its residual, with any Rice parameter, and 25 zeros are an error. -/
def Obligations.PackedCodeReadsBack : Prop :=
  (∀ (b k x p : Nat) (e : Int) (m : Nat) (code rest : List Bool), 0 < b → x < 2 ^ b → p < 2 ^ b →
    e = (if ((x : Int) - p) % (2 ^ b : Nat) < (2 ^ (b - 1) : Nat) then ((x : Int) - p) % (2 ^ b : Nat)
      else ((x : Int) - p) % (2 ^ b : Nat) - (2 ^ b : Nat)) →
    (m : Int) = (if 0 ≤ e then 2 * e else -2 * e - 1) →
    code = (if m / 2 ^ k < 24 then List.replicate (m / 2 ^ k) false ++ [true] ++ (List.range k).map fun i => m / 2 ^ (k - 1 - i) % 2 == 1
      else List.replicate 24 false ++ [true] ++ (List.range b).map fun i => m / 2 ^ (b - 1 - i) % 2 == 1) →
    riceCode b k (code ++ rest) = some (m, rest) ∧ unmap b p m = x) ∧
  ∀ (b k : Nat) (l : List Bool), riceCode b k (List.replicate 25 false ++ l) = none

/-- R225, R226: over 16 consecutive frames a constant value receives its extra unit in exactly d of them; full scale gives every unit and
zero none; the segments of a frame add up to the frame's steps. -/
def Obligations.DitherOverFrames : Prop :=
  (∀ u tick sink row v : Nat, v ≤ 65535 → ((List.range 16).map fun n => onTime u (tick + n) sink row v).sum =
    16 * (v * u / 65535) + v * u % 65535 * 16 / 65535) ∧
  (∀ u tick sink row : Nat, onTime u tick sink row 65535 = u ∧ onTime u tick sink row 0 = 0) ∧
  ∀ (k tick q : Nat) (low : Bool), 0 < k →
    ((List.range k).map fun j => (segSteps k tick j q low).1).sum = (if low then q / 16 else q) ∧
    ((List.range k).map fun j => (segSteps k tick j q low).2).sum = (if low then q % 16 else 0)

/-- R461, R465, R50: power-up, and RESET_N falling and rising. -/
def Obligations.PowerAndResetPins : Prop :=
  (∀ s : State, s.storesOk → s.mode.boot = .unpowered → ∃ t, exec .powerUp s = .next t ∧
    t.clock.cclk = s.clock.cclk + 2000000 ∧ t.reg Reg.lastCause = 0 ∧ RegsKept [Reg.lastCause] s t ∧
    t.mode.boot = (if s.pins.resetN then bootOf s.pins.bootSel else .held) ∧
    t.power.dom = (if s.pins.resetN then (s.power.dom.set 0 2).set 1 2 else s.power.dom.set 0 2) ∧
    t = { s with regs := t.regs, clock := t.clock, lcl := t.lcl,
                 mode := { s.mode with boot := t.mode.boot, bootSel := t.mode.bootSel, bootAt := t.mode.bootAt },
                 power := { s.power with dom := t.power.dom } }) ∧
  (∀ s : State, s.storesOk → s.mode.boot ≠ .unpowered → ∃ t, exec .resetNLow s = .next t ∧
    t.mode.mode = .reset ∧ t.mode.boot = .held ∧ t.reg Reg.lastCause = 1 ∧ t.pins = { s.pins with resetN := false, out := {} } ∧
    t.ctl = {} ∧ t.xfer = {} ∧ t.stage = {} ∧ t.ev = {} ∧ t.belay.latchDark = false ∧ t.belay.darkOut = true ∧
    t.clock = s.clock ∧ t.cairn = { s.cairn with calWrite := none } ∧ (s.xfer.open_ = [] → t.flash = s.flash) ∧ t.part = s.part ∧
    t.pending = s.pending) ∧
  ∀ (sel : Nat) (s : State), s.pins.resetN = false → s.mode.boot = .held → s.power.outOf = [] →
    ∃ t, exec (.resetNRise sel) s = .next t ∧ t.clock.cclk = max s.clock.cclk (s.power.railsAt + 2000000) ∧
      t = { s with clock := t.clock, pins := { s.pins with resetN := true, bootSel := sel % 4 }, lcl := {},
                   mode := { s.mode with boot := bootOf (sel % 4), bootSel := sel % 4, bootAt := t.clock.cclk },
                   power := { s.power with dom := s.power.dom.set 1 2 } }

/-- R51: the boot ROM's verdict, the self-test and the cairn. -/
def Obligations.BootSequence : Prop :=
  (∀ (p f : Bool) (s : State) (i : FwImg) (n : Nat), s.storesOk → s.mode.boot = .rom → s.bootLate 60 = false →
    s.bootImage p f = some (i, n) →
    ∃ t, exec (.firmwareVerify p f) s = .next t ∧ t.mode.boot = .verified ∧ t.fw.running = some i ∧
      t.reg Reg.fwVersion = i.version ∧ t.reg Reg.fwRunning = n ∧ RegsKept [Reg.fwVersion, Reg.fwRunning] s t ∧
      t = { s with regs := t.regs, mode := { s.mode with boot := .verified }, fw := { s.fw with running := some i } }) ∧
  (∀ (p f : Bool) (s : State), s.mode.boot = .rom → s.bootImage p f = none ∨ s.bootLate 60 = true →
    ∃ t, exec (.firmwareVerify p f) s = .next t ∧ t.mode.boot = .failed ∧ t.belay.bootFail = true ∧
      t.regs = s.regs ∧ t.mode.mode = s.mode.mode) ∧
  (∀ s : State, s.mode.boot = .verified → s.belay.latchDark = false → s.bootLate 120 = false → ∃ t, exec (.bootSelfTest true) s = .next t ∧
      t.mode.boot = .tested ∧ t.power.dom = s.power.dom.set 3 2 ∧ t.q.rx.length = 8 ∧ t.flash = s.flash ∧ t.cairn = s.cairn) ∧
  (∀ (pass : Bool) (s : State), s.mode.boot = .verified → pass = false ∨ s.belay.latchDark = true ∨ s.bootLate 120 = true →
    ∃ t, exec (.bootSelfTest pass) s = .next t ∧
      t.mode.boot = .failed ∧ t.belay.bootFail = true) ∧
  ∀ s : State, s.mode.boot = .tested → ∃ t, exec (.cairnRead false) s = .next t ∧
    t.mode.mode = .roping ∧ t.mode.boot = .running ∧ t.belay.darkOut = false ∧ t.flash = s.flash ∧
    t.mode.darkRec = (if s.pins.darkN then none else some 4) ∧
    (s.bootLate 130 = false → t.ctl.keys = s.cairn.keys ∧ t.belay.lastBoot = s.cairn.latch)

/-- R455, R460, R462, R484: supplies, die temperatures and the life counter. R452, R454, R476: domains switch on, report power-good, time
out and switch off. -/
def Obligations.SuppliesAndDomains : Prop :=
  ((∀ (n mv : Nat) (s : State), n < 8 → outOfRange n mv = true → s.mode.boot ≠ .unpowered → s.alive = true →
     ∃ t, exec (.supplyOutOfRange n mv) s = .next t ∧ n ∈ t.power.outOf ∧ bit t.belay.active 5 = true ∧
       t.part = s.part ∧ t.flash = s.flash) ∧
   (∀ (n mv : Nat) (s : State), n < 8 → outOfRange n mv = true → s.mode.boot ≠ .unpowered → s.alive = false →
     ∃ t, exec (.supplyOutOfRange n mv) s = .next t ∧ n ∈ t.power.outOf ∧ t.mode.boot = .held ∧ t.regs = s.regs) ∧
   (∀ (n mv : Nat) (s : State), outOfRange n mv = false → s.alive = true → s.power.outOf = [n] →
     ∃ t, exec (.supplyBackInRange n mv) s = .next t ∧ t.power.outOf = [] ∧
       t.belay.active = clearBit s.belay.active 5 ∧ t.regs = s.regs) ∧
   (∀ (n mv : Nat) (s : State), s.storesOk → n < 8 → beyondBand n mv = true → s.power.warned.contains (railCode n) = false →
     s.alive = true → ∃ t, exec (.supplyWarn n mv) s = .next t ∧ railCode n ∈ t.power.warned ∧ Counted 61 s t ∧ RegsKept (evKeys 61) s t) ∧
   (∀ s : State, s.storesOk → ∃ t, exec .fbxSupplyLow s = .next t ∧ t.power.fbxLow = true ∧ t.fbx.on = false ∧ t.fbx.den = false ∧
     t.reg Reg.draughtState = 0 ∧ RegsKept [Reg.draughtState] s t ∧ t.power = { s.power with fbxLow := true } ∧
     t.mode = s.mode ∧ t.belay = s.belay) ∧
   (∀ (die : Nat) (temp : Int) (s : State), s.alive = true → die < 2 → s.tjMax < temp →
     ∃ t, exec (.overTemp die temp) s = .next t ∧ bit t.power.overTemp die = true ∧ bit t.belay.active 6 = true) ∧
   (∀ (die : Nat) (temp : Int) (s : State), s.storesOk → die < 2 → temp < s.tjMax - 160 →
     ∃ t, exec (.overTempClear die temp) s = .next t ∧ t.reg (if die = 0 then Reg.tjLogic else Reg.tjFbx) = ofSigned 2 temp ∧
       RegsKept [Reg.tjLogic, Reg.tjFbx, Reg.tjPeak] s t ∧ t.power.overTemp = clearBit s.power.overTemp die ∧
       (t.power.overTemp = 0 → t.belay = { s.belay with active := clearBit s.belay.active 6, maskedCls := clearBit s.belay.maskedCls 6 }) ∧
       (t.power.overTemp ≠ 0 → t.belay = s.belay)) ∧
   ∀ (s : State) (h : Nat), s.storesOk → s.mode.boot ≠ .unpowered → ratedHours s.power.hourPeak = some h →
     ∃ t, exec .lifeHour s = .next t ∧ t.power.lifeAcc = s.power.lifeAcc + 1000000000000 / h ∧
       t.power.lifeAt = s.power.lifeAt + 3600000000000 ∧ t.power.hourPeak = -32768 ∧ s.power.lifeAt ≤ t.clock.cclk ∧
       t.reg Reg.lifeUsed = min (t.power.lifeAcc / 1000000) (two32 - 1) ∧ RegsKept [Reg.lifeUsed] s t) ∧
  ((∀ (d : Nat) (s : State), s.alive = true → s.mayStart d = true →
     (domainOrder.find? fun x => s.mayStart x && s.domState x != 5) = some d →
     ∃ t, exec (.domainSwitchOn d) s = .next t ∧ t.power.dom = s.power.dom.set d 1 ∧ t.mode = s.mode ∧ t.flash = s.flash) ∧
   (∀ (d : Nat) (s : State), s.domState d = 1 → s.clock.cclk ≤ s.power.since.getD d 0 + 5000000 →
     ∃ t, exec (.domainPowerGood d) s = .next t ∧ t.domState d = 2 ∧
     t.clock = s.clock ∧ t.mode = s.mode ∧ t.flash = s.flash) ∧
   (∀ (d : Nat) (s : State), s.storesOk → s.domState d = 1 → ∃ t, exec (.domainSwitchTimeout d) s = .next t ∧ t.domState d = 5 ∧
     t.reg Reg.switchFails = min (s.reg Reg.switchFails + 1) (two32 - 1) ∧
     s.power.since.getD d 0 + 5000000 ≤ t.clock.cclk ∧
     (d ≠ 7 → t.reg Reg.dramTrainFails = s.reg Reg.dramTrainFails) ∧
     (d = 7 → t.reg Reg.dramTrainFails = min (s.reg Reg.dramTrainFails + 1) (two32 - 1))) ∧
   (∀ (d : Nat) (s : State), s.alive = true → domainOrder.reverse.find? s.mayStop = some d →
     ∃ t, exec (.domainSwitchOff d) s = .next t ∧ t.domState d = 0 ∧ t.clock = s.clock ∧ t.mode = s.mode) ∧
   (∀ (d : Nat) (s : State), s.mayStop d = true ↔
     bit s.neededMask d = false ∧ (s.domState d = 1 ∨ s.domState d = 2) ∧ s.dependentsOff d = true) ∧
   ∀ s : State, s.alive = true → s.domState 7 = 5 → bit s.neededMask 7 = true → s.domOn 3 = true →
     ∃ t, exec .dramRetry s = .next t ∧ t.domState 7 = 1 ∧ s.power.since.getD 7 0 + 1000000000 ≤ t.clock.cclk ∧ t.mode = s.mode)

/-- R433 to R438: what the belay monitor watches. R424, R431: a reaction ends with its record, the record reaches the cairn, and a RESTART
follows. -/
def Obligations.FaultsAndReactions : Prop :=
  ((∀ s : State, s.mode.mode = .roping → exec .darkNLow s = .next
     { s with pins := { s.pins with darkN := false },
              mode := { s.mode with darkRec := some (s.mode.darkRec.getD 4) } }) ∧
   (∀ s : State, s.mode.mode = .staging ∨ s.mode.mode = .onShow ∨ s.mode.mode = .holdover →
     ∃ t, exec .darkNLow s = .next t ∧ t.pins = { s.pins with darkN := false, out := t.pins.out } ∧ t.mode.mode = .dark ∧
       t.fbx.on = false ∧ t.fbx.den = false ∧ t.mode.showReqs = [] ∧ t.flash = s.flash) ∧
   (∀ s : State, s.mode.mode = .dark ∨ s.mode.mode = .reset →
     exec .darkNLow s = .next { s with pins := { s.pins with darkN := false } }) ∧
   (∀ s : State, exec .darkNHigh s = .next { s with pins := { s.pins with darkN := true } }) ∧
   (∀ (n : Nat) (s : State), s.alive = true → (∃ t, exec (.clockFail n) s = .next t ∧ t.belay.latchDark = true ∧
       t.belay.darkOut = true ∧ t.mode.mode = .dark ∧ bit t.belay.active 4 = true ∧ s.slotsLike t.belay.slots) ∧
     ∃ t, exec (.belayInternal n) s = .next t ∧ t.belay.latchDark = true ∧ t.belay.darkOut = true ∧ t.mode.mode = .dark ∧
       bit t.belay.active 3 = true ∧ s.slotsLike t.belay.slots) ∧
   (∀ s : State, s.alive = true → s.faultN = true → (s.belay.slots.any fun x => x.rcd.cls == 0x1F) = false →
     ∃ t l x, exec .faultPin s = .next t ∧ t.belay.slots = l ++ [x] ∧ s.slotsLike l ∧ bit t.belay.active 0x1F = true ∧ x.rcd.cls = 0x1F ∧ x.rcd.time = s.now ∧
       x.stage = 0) ∧
   (∀ (dev : Int) (s : State), s.domOn 8 = true → (100 < dev ∨ dev < -100) → ∃ t, exec (.fireboxRef dev) s = .next t ∧
     bit t.belay.active 0x1E = true ∧ (t.belay.slots.any fun x => x.rcd.cls == 0x1E) = true) ∧
   (∀ (dev : Int) (s : State), s.domOn 8 = true → dev ≤ 100 → -100 ≤ dev → exec (.fireboxRef dev) s = .next
     { s with belay := { s.belay with active := clearBit s.belay.active 0x1E, maskedCls := clearBit s.belay.maskedCls 0x1E } }) ∧
   ∀ (cpu : Nat) (s : State), s.alive = true → s.domOn 1 = true → cpu < 4 →
     (s.belay.slots.any fun x => x.rcd.cls == 0x12) = false →
     ∃ t l x, exec (.coreWatchdog cpu) s = .next t ∧ t.belay.slots = l ++ [x] ∧ s.slotsLike l ∧ x.rcd.cls = 0x12 ∧
       x.rcd.source = cpu ∧ x.rcd.count = 1) ∧
  ((∀ (s : State) (x : FaultSlot), s.storesOk → s.alive = true → s.belay.slots = [x] → x.stage = 2 → x.rcd.reaction < 2 →
       bit x.rcd.flags 3 = false → s.poolFree ≠ 0 → s.belay.queue.length < 256 →
     ∃ t, exec (.faultReaction 1) s = .next t ∧ t.belay.slots = [] ∧
       t.belay.queue = s.belay.queue ++ [{ x.rcd with rseq := s.belay.rseq }] ∧
       t.belay.rseq = (s.belay.rseq + 1) % 65536 ∧ RegsKept (evKeys 34) s t ∧ t.mode = s.mode) ∧
   (∀ (s : State) (r : FaultRec), s.belay.cairnDue = some r → exec .cairnWriteDone s = .next
     { s with cairn := { s.cairn with latch := s.belay.latch, rcd := some r },
              belay := { s.belay with cairnDue := none, lastBoot := s.belay.latch } }) ∧
   ∀ (s : State) (n : Nat), s.storesOk → s.belay.restartDue = some n → ∃ t, exec .belayRestart s = .next t ∧
     t.mode.mode = .reset ∧ t.mode.boot = bootOf s.mode.bootSel ∧ t.reg Reg.lastCause = 12 ∧ t.belay.slots = [] ∧
     t.cairn = { s.cairn with calWrite := none } ∧ (s.xfer.open_ = [] → t.flash = s.flash) ∧ t.part = s.part)

/-- R14, R55, R487: a command of class L waits, in the order of arrival, for the boundary that carries it out; its result is 0 and nothing
else changes. R55, R57: a class L value that is no command waits, as the live value of its subindex, for the next boundary. -/
def Obligations.ClassLWaits : Prop :=
  (∀ (c : Instr) (o : Origin) (k : Nat) (r : Role) (v : Bytes), waitsAs c = some (o, k, r, v) →
     ∀ s : State, s.canUse o r (odDomain (k / 256)) → s.cmdsFull (k / 256) (k % 256) v = false →
       exec c s = .next (State.answered { s with stage := s.cmdWaits { org := o, ix := k / 256, sub := k % 256, val := v } } o k 0 0 [])) ∧
  (∀ (c : Instr) (o : Origin) (k : Nat) (r : Role) (v : Bytes), liveAs c = some (o, k, r, v) →
     ∀ s : State, s.canUse o r (odDomain (k / 256)) →
       exec c s = .next
         (State.answered { s with stage := s.liveWaits k (beNat v), cairn := s.settingKept k (beNat v) } o k 0 0 []))

/-- R85, R108, R113, R250, R251, R259, R487: SWITCH waits for its boundary with the switch reading WAITING, CAL_ACCEPT while results are
pending, CAL_RUN in STAGING while no run is under way, a stream's REWIND with a valid mark, a loop's unless its mark is lost; SWITCH
without a candidate and CAL_ACCEPT without results are refused with 0x0401, a REWIND without its mark with 0x0702, and the state reads
3. -/
def Obligations.ConditionalCommands : Prop :=
  (∀ (o : Origin) (s : State), s.canUse o .operator 1 → s.reg Reg.candState = 2 → s.topo.switch = .none →
    s.cmdsFull 0x8000 11 [1] = false →
    exec (.switch o) s = .next (State.answered { s with
      stage := s.cmdWaits { org := o, ix := 0x8000, sub := 11, val := [1] },
      topo := { s.topo with switch := .waiting } } o Reg.switch 0 0 [])) ∧
  (∀ (o : Origin) (s : State), s.canUse o .installer 1 → s.reg Reg.calState = 2 → s.cmdsFull 0x7800 4 [1] = false →
    exec (.calAccept o) s = .next (State.answered { s with
      stage := s.cmdWaits { org := o, ix := 0x7800, sub := 4, val := [1] } } o Reg.calAccept 0 0 [])) ∧
  (∀ (o : Origin) (c : Instr) (v : Byte), (c, v) ∈ [(Instr.calRunSink o, 1), (.calRunNtc o, 2), (.calRunTslat o, 4)] →
    ∀ s : State, s.canUse o .installer 1 → s.mode.mode = .staging → s.cal.run = none → s.cal.want = 0 →
      s.cmdsFull (Reg.calRun / 256) (Reg.calRun % 256) [v] = false → exec c s = .next (State.answered { s with
        stage := s.cmdWaits { org := o, ix := Reg.calRun / 256, sub := Reg.calRun % 256, val := [v] } } o Reg.calRun 0 0 [])) ∧
  (∀ (o : Origin) (n : Nat) (s : State), n < 8 → s.canUse o .operator (odDomain (0x4500 + n)) →
    s.cmdsFull (0x4500 + n) 10 [1] = false →
    ((s.comp.streams.getD n {}).mark = 1 → exec (.rewind o n) s = .next (State.answered { s with
      stage := s.cmdWaits { org := o, ix := 0x4500 + n, sub := 10, val := [1] } } o (Reg.streamRewind n) 0 0 [])) ∧
    ((s.comp.streams.getD n {}).mark ≠ 1 → s.storesOk → ∃ t, exec (.rewind o n) s = .next t ∧ t.stage = s.stage ∧
      t.sent.head? = some (.result o 0x0702 (0x4500 + n) 10 0 []) ∧ t.reg (Reg.streamRewind n) = 3 ∧ Counted 45 s t)) ∧
  (∀ (o : Origin) (n : Nat) (s : State), n < 16 → s.canUse o .operator (odDomain (0x4510 + n)) →
    s.cmdsFull (0x4510 + n) 6 [1] = false →
    ((s.comp.loops.getD n {}).mark ≠ 2 → exec (.loopRewind o n) s = .next (State.answered { s with
      stage := s.cmdWaits { org := o, ix := 0x4510 + n, sub := 6, val := [1] } } o (Reg.loopRewind n) 0 0 [])) ∧
    ((s.comp.loops.getD n {}).mark = 2 → s.storesOk → ∃ t, exec (.loopRewind o n) s = .next t ∧ t.stage = s.stage ∧
      t.sent.head? = some (.result o 0x0702 (0x4510 + n) 6 0 []) ∧ t.reg (Reg.loopRewind n) = 3 ∧ Counted 45 s t)) ∧
  (∀ (o : Origin) (s : State), s.storesOk → s.canUse o .operator 1 → s.reg Reg.candState ≠ 2 → s.reg Reg.candState ≠ 3 →
    ∃ t, exec (.switch o) s = .next t ∧ t.sent.head? = some (.result o 0x0401 0x8000 11 0 []) ∧ t.reg Reg.switch = 3 ∧
      t.topo = s.topo ∧ t.stage = s.stage ∧ Counted 45 s t) ∧
  ∀ (o : Origin) (s : State), s.storesOk → s.canUse o .installer 1 → s.reg Reg.calState ≠ 2 →
    ∃ t, exec (.calAccept o) s = .next t ∧ t.sent.head? = some (.result o 0x0401 0x7800 4 0 []) ∧ t.reg Reg.calAccept = 3 ∧
      t.cal = s.cal ∧ t.cairn = s.cairn ∧ t.stage = s.stage ∧ Counted 45 s t

/-- R11, R14, R56, R57, R340: WRITE and OD_WRITE of a value that passes its checks and needs no clamp: it joins the staging set in class S
and waits for the boundary in classes L and F. R61: a timed write due in the future waits in the table of 1,024; one whose time has
come is refused with 0x0501, one too many with 0x0401, each with a reject record. -/
def Obligations.WritesAndTimedWrites : Prop :=
  (∀ (o : Origin) (r : Role) (ix sub : Nat) (v : Bytes) (x : Obj) (s : State), s.alive = true → s.roleOf o = some r →
     odFind ix sub = some x → x.acc = .rw → (s.touch o).checkWrite o r ix sub x.ty.code v = (0, some x) →
     s.arrivalRefused ix sub v false = 0 → (s.touch o).clampWrite o x ix sub v = (false, v, s.touch o) →
     (x.chg = .s → exec (.odWrite o ix sub v) s = .next (State.answered { s with
         stage := s.stagedWaits (Reg.key ix sub) (beNat v) } o (Reg.key ix sub) 0 0 []) ∧
       (s.ctl.jobs = [] → exec (.write o ix sub x.ty.code v) s = exec (.odWrite o ix sub v) s)) ∧
     (x.chg = .l ∨ x.chg = .f → exec (.odWrite o ix sub v) s = .next (State.answered { s with
         stage := s.liveWaits (Reg.key ix sub) (beNat v), cairn := s.settingKept (Reg.key ix sub) (beNat v) } o (Reg.key ix sub) 0 0 []) ∧
       (s.ctl.jobs = [] → exec (.write o ix sub x.ty.code v) s = exec (.odWrite o ix sub v) s))) ∧
  (∀ (o : Origin) (r : Role) (ix sub : Nat) (v : Bytes) (time : Nat) (x : Obj) (s : State), s.storesOk → s.alive = true →
     s.roleOf o = some r → (s.touch o).checkWrite o r ix sub x.ty.code v = (0, some x) →
     s.arrivalRefused ix sub v true = 0 → Reg.key ix sub ≠ Reg.switch → time80Ok time = true →
     (s.touch o).clampWrite o x ix sub v = (false, v, s.touch o) →
     (s.now < ofTime80 time → s.stage.timed.length < 1024 →
       exec (.timedWrite o ix sub x.ty.code v time) s = .next (State.answered { s with stage := { s.stage with
         timed := s.stage.timed ++ [{ org := o, ix := ix, sub := sub, val := v, due := ofTime80 time }] } }
         o (Reg.key ix sub) 0 0 [])) ∧
     (ofTime80 time ≤ s.now → ∃ t, exec (.timedWrite o ix sub x.ty.code v time) s = .next t ∧ t.stage = s.stage ∧ Counted 45 s t ∧
       t.sent.head? = some (.result o 0x0501 ix sub 0 [])) ∧
     (s.now < ofTime80 time → 1024 ≤ s.stage.timed.length → ∃ t, exec (.timedWrite o ix sub x.ty.code v time) s = .next t ∧
       t.stage = s.stage ∧ Counted 45 s t ∧ t.sent.head? = some (.result o 0x0401 ix sub 0 [])))

/-- R16: the first check that fails gives the abort code, checks 1 to 4 in their order. -/
def Obligations.ChecksInOrder : Prop :=
  ∀ (s : State) (r need : Role) (ix sub : Nat) (own : Bool) (acc : Acc → Bool),
    (0xF000 ≤ ix ∧ r ≠ .service ∨ odHasObject ix = false → s.checkTarget r need ix sub own acc = (0x0101, none)) ∧
    ((ix < 0xF000 ∨ r = .service) → odHasObject ix = true → odFind ix sub = none →
      s.checkTarget r need ix sub own acc = (0x0102, none)) ∧
    ∀ x : Obj, (ix < 0xF000 ∨ r = .service) → odHasObject ix = true → odFind ix sub = some x →
      (r.rank < (if own then x.role else need).rank → s.checkTarget r need ix sub own acc = (0x0201, none)) ∧
      ((if own then x.role else need).rank ≤ r.rank → acc x.acc = false → s.checkTarget r need ix sub own acc = (0x0202, none)) ∧
      ((if own then x.role else need).rank ≤ r.rank → acc x.acc = true →
        s.checkTarget r need ix sub own acc = (if s.alive && !s.domOn (odDomain ix) then (0x0601, none) else (0, some x)))

/-- R12, R338, R345: a READ of a subindex that is read only or read and written changes nothing; a read of a counter that clears
on read returns the count and leaves it at 0, where an extreme also notes that the next measurement replaces it; DESCRIBE returns the
32 bytes of the description. -/
def Obligations.ReadsAndDescriptions : Prop :=
  ∀ (o : Origin) (r : Role) (ix sub : Nat) (x : Obj) (s : State), s.storesOk → s.alive = true → s.roleOf o = some r →
    (ix < 0xF000 ∨ r = .service) → odHasObject ix = true → odFind ix sub = some x → s.domOn (odDomain ix) = true →
    recordKey (Reg.key ix sub) = false → ¬(0x8C00 ≤ ix ∧ ix < 0x8C20 ∧ sub = 2) → x.ty ≠ .domain →
    (x.acc = .ro ∨ x.acc = .rw → exec (.read o ix sub 0) s = .next (s.answered o (Reg.key ix sub) 0 x.ty.code
      (x.ty.wire ((s.touch o).readValue o x (Reg.key ix sub))))) ∧
    (x.acc = .rc → Reg.key ix sub ∉ [Reg.qLost, Reg.qHigh, Reg.qBpCycles] →
      ¬(0x8C0000 ≤ Reg.key ix sub ∧ Reg.key ix sub < 0x8C2000) →
      ∃ t, exec (.rcCounterRead o ix sub) s = .next t ∧ exec (.read o ix sub 0) s = .next t ∧
        t.reg (Reg.key ix sub) = 0 ∧ RegsKept [Reg.key ix sub] s t ∧
        (extremeKey (Reg.key ix sub) = true → t.report.cleared.contains (Reg.key ix sub) = true) ∧
        (extremeKey (Reg.key ix sub) = false → t.report = s.report) ∧
        t = State.answered { s with regs := t.regs, report := { s.report with cleared := t.report.cleared } } o (Reg.key ix sub) 0
          x.ty.code (x.ty.wire ((s.touch o).readValue o x (Reg.key ix sub)))) ∧
    exec (.describe o ix sub) s = .next (s.answered o (Reg.key ix sub) 0 0x0D ((s.touch o).describe x (Reg.key ix sub)))

/-- R58, R64: COMMIT moves the staging set into the commit set, DISCARD empties it, TIMED_CANCEL drops every waiting timed
write; each state reads 2. -/
def Obligations.StagingCommands : Prop :=
  (∀ (o : Origin) (s : State), s.storesOk → s.canUse o .operator 1 → ∃ t, exec (.commit o) s = .next t ∧
    t.reg Reg.commit = 2 ∧ RegsKept [Reg.commit] s t ∧
    t = State.answered
      { s with regs := t.regs, stage := s.committed } o Reg.commit 0 0 []) ∧
  (∀ (o : Origin) (s : State), s.storesOk → s.canUse o .operator 1 → ∃ t, exec (.discard o) s = .next t ∧
    t.reg Reg.discard = 2 ∧ RegsKept [Reg.discard] s t ∧
    t = State.answered { s with regs := t.regs, stage := { s.stage with staged := [], late := { s.stage.late with staged := [] } } }
      o Reg.discard 0 0 []) ∧
  ∀ (o : Origin) (s : State), s.storesOk → s.canUse o .installer 1 → ∃ t, exec (.timedCancel o) s = .next t ∧
    t.reg Reg.timedCancel = 2 ∧ RegsKept [Reg.timedCancel] s t ∧
    t.topo.switch = (if (s.stage.timed.any fun w => Reg.key w.ix w.sub == Reg.switch) && s.topo.switch == .waiting then .none
      else s.topo.switch) ∧
    t = State.answered
      { s with regs := t.regs, stage := { s.stage with timed := [] }, topo := { s.topo with switch := t.topo.switch } }
      o Reg.timedCancel 0 0 []

/-- R44, R263, R328, R333, R365: REQ_DARK darkens a unit that shows or stages and is recorded in ROPING; SNAPSHOT reads clock, tick and
frame of one cycle; CLEAR_POSITION erases the stored position; REROPE asks the HEAD for a roping run; FW_RESTART waits for the next
boundary. -/
def Obligations.SystemCommands : Prop :=
  (∀ (o : Origin) (s : State), s.storesOk → s.canUse o .operator 1 →
    s.mode.mode = .staging ∨ s.mode.mode = .onShow ∨ s.mode.mode = .holdover →
    ∃ t, exec (.reqDark o) s = .next t ∧ t.mode.mode = .dark ∧ t.reg Reg.lastCause = 2 ∧ t.reg Reg.reqDark = 2 ∧
      t.fbx.on = false ∧ t.fbx.den = false ∧ t.mode.arming = none ∧ t.mode.showReqs = [] ∧ t.stage = s.stage ∧ t.topo = s.topo) ∧
  (∀ (o : Origin) (s : State), s.storesOk → s.canUse o .operator 1 → s.mode.mode = .roping →
    ∃ t, exec (.reqDark o) s = .next t ∧ t.reg Reg.reqDark = 2 ∧ RegsKept [Reg.reqDark] s t ∧
      t = State.answered { s with regs := t.regs, mode := { s.mode with darkRec := some (s.mode.darkRec.getD 2) } }
        o Reg.reqDark 0 0 []) ∧
  (∀ (o : Origin) (s : State), s.storesOk → s.canUse o .observer 0 → ∃ t, exec (.snapshot o) s = .next t ∧
    t.reg Reg.snapTime = time80 s.now ∧ t.reg Reg.snapTick = s.tickIdx ∧ t.reg Reg.snapTickTime = s.reg Reg.tickTime ∧
    t.reg Reg.snapFrame = s.frame ∧ t.reg Reg.snapshot = 2 ∧
    RegsKept [Reg.snapTime, Reg.snapTick, Reg.snapTickTime, Reg.snapFrame, Reg.snapshot] s t ∧
    t = State.answered { s with regs := t.regs } o Reg.snapshot 0 0 []) ∧
  (∀ (o : Origin) (s : State), s.storesOk → s.canUse o .installer 2 → s.mode.mode = .staging ∨ s.mode.mode = .roping →
    ∃ t, exec (.clearPosition o) s = .next t ∧ t.reg Reg.storedPos = 0xFFFF ∧ t.reg Reg.ropedAt = 0 ∧ t.reg Reg.clearPosition = 2 ∧
      RegsKept [Reg.storedPos, Reg.ropedAt, Reg.clearPosition] s t ∧
      t = State.answered { s with regs := t.regs, cairn := { s.cairn with position := none, ropedAt := 0 } }
        o Reg.clearPosition 0 0 []) ∧
  (∀ (o : Origin) (s : State), s.storesOk → s.canUse o .installer 2 → s.reg Reg.headRole = 3 →
    ∃ t, exec (.rerope o) s = .next t ∧ t.reg Reg.rerope = 2 ∧ RegsKept [Reg.rerope] s t ∧
      t = State.answered { s with regs := t.regs, rope := { s.rope with wantRun := true } } o Reg.rerope 0 0 []) ∧
  (∀ (o : Origin) (s : State), s.storesOk → s.canUse o .installer 2 → s.reg Reg.headRole ≠ 3 →
    ∃ t, exec (.rerope o) s = .next t ∧ t.reg Reg.rerope = 3 ∧ Counted 45 s t ∧ t.rope = s.rope ∧
      t.sent.head? = some (.result o 0x0107 0x3100 10 0 [])) ∧
  ∀ (o : Origin) (s : State), s.storesOk → s.canUse o .installer 1 → (s.xfer.open_.any fun x => x.ix == 0x1010) = false →
    ∃ t, exec (.fwRestart o) s = .next t ∧ t.reg Reg.fwRestart = 1 ∧ RegsKept [Reg.fwRestart] s t ∧
      t = State.answered { s with regs := t.regs, mode := { s.mode with fwRestart := true } } o Reg.fwRestart 0 0 []

/-- R84, R335, R365, R481: LOAD starts a load of its slot and drops the candidate; ARM and disarm of the injector raise EV62; FW_FLOOR_RAISE
fuses the running security version; PRIO_SET sets one priority. -/
def Obligations.ServiceCommands : Prop :=
  (∀ (o : Origin) (n : Nat) (s : State), s.storesOk → s.canUse o .installer 1 → n = 1 ∨ n = 2 → s.topo.switch = .none →
    s.topo.load = none → s.domOn 7 = true → ∃ t, exec (.load o n) s = .next t ∧ t.reg Reg.candTopoId = 0 ∧
      t.reg Reg.candState = (if s.mode.mode = .staging then 0 else 1) ∧ t.reg Reg.load = 1 ∧
      RegsKept [Reg.candTopoId, Reg.candState, Reg.load] s t ∧
      t = State.answered
        { s with regs := t.regs
                 topo := { s.topo with cand := none, load := some { slot := n, boot := false, other := none, since := s.clock.cclk } } }
        o Reg.load 0 0 []) ∧
  (∀ (id : Nat) (s : State), s.storesOk → s.canUse (.session id) .service 2 → ∃ t, exec (.injectArm (.session id)) s = .next t ∧
    t.inj.armed = true ∧ t.inj.by_ = id ∧ t.inj.till = s.clock.cclk + s.reg Reg.durationMs * 1000000 ∧
    (∀ n, n < 4 → bit t.inj.rules n = (s.reg (Reg.ruleAction n) != 0)) ∧ t.reg Reg.state = 1 ∧ t.reg Reg.arm = 2 ∧
    Counted 62 s t ∧ RegsKept ([Reg.state, Reg.arm] ++ evKeys 62) s t ∧
    t = State.answered { s with regs := t.regs, inj := t.inj, ev := t.ev, q := t.q, report := t.report } (.session id) Reg.arm 0 0 []) ∧
  (∀ (id : Nat) (s : State), s.storesOk → s.canUse (.session id) .service 2 → s.inj.armed = true →
    ∃ t, exec (.injectDisarm (.session id)) s = .next t ∧ t.inj = { s.inj with armed := false, rules := 0 } ∧ t.reg Reg.state = 0 ∧
      t.reg Reg.arm = 2 ∧ Counted 62 s t ∧ RegsKept ([Reg.state, Reg.arm] ++ evKeys 62) s t ∧
      t = State.answered { s with regs := t.regs, inj := t.inj, ev := t.ev, q := t.q, report := t.report } (.session id) Reg.arm 0 0 []) ∧
  (∀ (o : Origin) (i : FwImg) (s : State), s.storesOk → s.canUse o .service 1 → s.fw.running = some i → s.fw.raises < 64 →
    s.fw.floor < i.secVer → (∀ j : FwImg, s.fw.primary = some j ∨ s.fw.fallback = some j → j.valid = true → i.secVer ≤ j.secVer) →
    ∃ t, exec (.fwFloorRaise o) s = .next t ∧ t.reg Reg.fwFloor = i.secVer ∧ t.reg Reg.fwFloorRaise = 2 ∧
      RegsKept [Reg.fwFloor, Reg.fwFloorRaise] s t ∧
      t = State.answered { s with regs := t.regs, fw := { s.fw with floor := i.secVer, raises := s.fw.raises + 1 } }
        o Reg.fwFloorRaise 0 0 []) ∧
  ∀ (o : Origin) (v : Bytes) (s : State), s.storesOk → s.canUse o .operator 3 → v.length = 3 → field v 0 1 ≤ 1 → field v 1 1 ≤ 10 →
    field v 2 1 ≤ 15 → ∃ t, exec (.prioSet o v) s = .next t ∧
      t.reg (if field v 0 1 = 1 then Reg.dramPrio (field v 1 1) else Reg.hearthPrio (field v 1 1)) = field v 2 1 ∧
      t.reg Reg.prioSet = 2 ∧
      RegsKept [if field v 0 1 = 1 then Reg.dramPrio (field v 1 1) else Reg.hearthPrio (field v 1 1), Reg.prioSet] s t ∧
      t = State.answered { s with regs := t.regs } o Reg.prioSet 0 0 []

/-- R436, R439, R440, R441, R449: FIRST_CLEAR empties the first-fault latch, FAULT_ACK ends the hold of acknowledged records and events,
DARK_RELEASE lets go of the DARK outputs when nothing holds them, FAULT_INJECT captures its class as injected, and a 1 written to
PENDING clears that event's bit; FAULT_ACK and that write leave what was captured or raised in their own CCLK. -/
def Obligations.FaultCommands : Prop :=
  (∀ (o : Origin) (s : State), s.storesOk → s.canUse o .installer 0 → ∃ t, exec (.firstClear o) s = .next t ∧
    t.reg Reg.firstClear = 2 ∧ RegsKept [Reg.firstClear] s t ∧
    t = State.answered { s with regs := t.regs, belay := { s.belay with latch := none } } o Reg.firstClear 0 0 []) ∧
  (∀ (o : Origin) (s : State), s.storesOk → s.canUse o .operator 0 → ∃ t, exec (.faultAck o) s = .next t ∧
    t.reg Reg.faultAck = 2 ∧ RegsKept [Reg.faultAck] s t ∧
    t = State.answered
      { s with regs := t.regs
               belay := { s.belay with unackSig := s.belay.unackSig && s.belay.sigAt == some s.clock.cclk,
                                       unackDark := s.belay.unackDark && s.belay.darkAt == some s.clock.cclk }
               ev := { s.ev with fAcked := s.ev.fAcked ||| (s.routed Reg.routeF &&& (s.freshMask ^^^ (two64 - 1))) } }
      o Reg.faultAck 0 0 []) ∧
  (∀ (o : Origin) (s : State), s.storesOk → s.canUse o .installer 0 → s.belay.latchDark = false → s.belay.unackDark = false →
    (∀ x ∈ s.belay.slots, x.rcd.reaction < 2) → (∀ c, c < 32 → bit s.activeFaults c = true → bit s.belay.maskedCls c = true ∨
      s.policy c < 2) →
    ∃ t, exec (.darkRelease o) s = .next t ∧ t.reg Reg.darkRelease = 2 ∧ RegsKept [Reg.darkRelease] s t ∧
      t = State.answered { s with regs := t.regs, belay := { s.belay with darkOut := false } } o Reg.darkRelease 0 0 []) ∧
  (∀ (o : Origin) (s : State), s.storesOk → s.canUse o .installer 0 → s.belay.latchDark = true ∨ s.belay.unackDark = true →
    ∃ t, exec (.darkRelease o) s = .next t ∧ t.reg Reg.darkRelease = 3 ∧ t.belay = s.belay ∧ Counted 45 s t ∧
      t.sent.head? = some (.result o 0x0107 0x9000 4 0 [])) ∧
  (∀ (o : Origin) (c : Nat) (s : State), s.storesOk → s.canUse o .service 0 → 5 ≤ c → c ≤ 31 →
    (s.belay.slots.any fun x => x.rcd.cls == c) = false →
    ∃ t l x, exec (.faultInject o c) s = .next t ∧ t.belay.slots = l ++ [x] ∧ s.slotsLike l ∧ x.rcd.cls = c ∧ bit x.rcd.flags 4 = true ∧
      x.rcd.time = s.now ∧ x.rcd.count = 1 ∧ t.reg Reg.faultInject = 2) ∧
  ∀ (o : Origin) (m : Nat) (s : State), s.storesOk → s.canUse o .operator 0 → m < two64 → s.reg Reg.pending < two64 →
    ∃ t, exec (.pending o m) s = .next t ∧ (∀ n, bit (t.reg Reg.pending) n = (bit (s.reg Reg.pending) n && !(bit m n && !bit s.freshMask n))) ∧
      RegsKept [Reg.pending] s t ∧ t = State.answered { s with regs := t.regs } o Reg.pending 0 0 []

/-- R354, R407, R409, R410: SESS_KILL ends a session with all it held; ACQUIRE, RENEW, RELEASE and FORCE_RELEASE move a carabiner. -/
def Obligations.OwnershipCommands : Prop :=
  (∀ (o : Origin) (v : Nat) (s : State), s.storesOk → s.canUse o .installer 1 → v < two32 → (s.session v).isSome = true →
    ∃ t, exec (.sessKill o v) s = .next t ∧ t.session v = none ∧
      (∀ id, id ≠ v → (t.session id).isSome = (s.session id).isSome) ∧
      (∀ x ∈ t.xfer.open_, x.org ≠ .session v) ∧ (∀ j ∈ t.ctl.jobs, j.org ≠ .session v) ∧
      (∀ c, c < 64 → (t.cb c).owner ≠ some (.session v)) ∧ (s.inj.armed = true → s.inj.by_ = v → t.inj.armed = false) ∧
      t.reg Reg.sessKill = 2 ∧ Counted 43 s t ∧ t.sent.head? = some (.result o 0 (Reg.sessKill / 256) (Reg.sessKill % 256) 0 [])) ∧
  (∀ (o : Origin) (v : Bytes) (s : State), s.storesOk → s.canUse o .operator 1 → v.length = 4 → field v 0 1 < 60 →
    0 < field v 2 2 → (s.cb (field v 0 1)).owner = none → (s.cb (field v 0 1)).lease = none →
    (∀ k, field v 0 1 ≤ k → k < 64 → (s.cb k).owner ≠ some o.holder) →
    ∃ t, exec (.acquire o v) s = .next t ∧
      t.carabs.cbs = s.carabs.cbs.set (field v 0 1)
        { owner := some o.holder, broken := (s.cb (field v 0 1)).broken, lease := some (s.tickNow + field v 2 2) } ∧
      t.carabs.result.head? = some (o, if (s.cb (field v 0 1)).broken then 2 else 1) ∧ t.reg Reg.acquire = 2 ∧
      RegsKept [Reg.acquire] s t ∧ t = State.answered { s with regs := t.regs, carabs := t.carabs } o Reg.acquire 0 0 []) ∧
  (∀ (o : Origin) (v : Bytes) (s : State), s.storesOk → s.canUse o .operator 1 → v.length = 4 → field v 0 1 < 64 →
    0 < field v 2 2 → (s.cb (field v 0 1)).owner = some o.holder → (∀ n, (s.cb (field v 0 1)).lease = some n → s.tickNow < n) →
    ∃ t, exec (.renew o v) s = .next t ∧ t.reg Reg.renew = 2 ∧ RegsKept [Reg.renew] s t ∧
      t.carabs.cbs = s.carabs.cbs.set (field v 0 1) { s.cb (field v 0 1) with lease := some (s.tickNow + field v 2 2) } ∧
      t.carabs.result = s.carabs.result ∧
      t = State.answered { s with regs := t.regs, carabs := t.carabs } o Reg.renew 0 0 []) ∧
  (∀ (o : Origin) (c : Nat) (s : State), s.storesOk → s.canUse o .operator 1 → c < 60 →
    (s.cb c).owner = some o.holder → (∀ n, (s.cb c).lease = some n → s.tickNow < n) →
    ∃ t, exec (.release o c) s = .next t ∧ (t.cb c).owner ≠ some o.holder ∧ (t.cb c).broken = false ∧ t.reg Reg.release = 2 ∧
      (∀ k, k ≠ c → t.cb k = s.cb k) ∧ t.sent.head? = some (.result o 0 (Reg.release / 256) (Reg.release % 256) 0 []) ∧
      ((∀ e, e < 16 → ∀ x ∈ (s.engine e).biv, x.waiting = false) → RegsKept [Reg.release] s t ∧ t = State.answered { s with
        regs := t.regs, carabs := { s.carabs with cbs := s.carabs.cbs.set c {} } } o Reg.release 0 0 [])) ∧
  ∀ (o : Origin) (c : Nat) (s : State), s.storesOk → s.canUse o .service 1 → c < 64 →
    (s.cb c).owner.isSome = true →
    ∃ t, exec (.forceRelease o c) s = .next t ∧ (t.cb c).owner = none ∧ (t.cb c).broken = true ∧ t.reg Reg.forceRelease = 2 ∧
      (∀ k, k ≠ c → t.cb k = s.cb k) ∧ Counted 38 s t ∧
      t.reg Reg.breaks_8B00 = min (s.reg Reg.breaks_8B00 + 1) (two32 - 1) ∧
      t.sent.head? = some (.result o 0 (Reg.forceRelease / 256) (Reg.forceRelease % 256) 0 [])

/-- R396, R397: TASK_CANCEL and DESC_CANCEL end at once the tasks they name that have not started or are suspended, and a running one at
its next break point; what has not started is counted in CANCELS. -/
def Obligations.TaskCancels : Prop :=
  (∀ (o : Origin) (v : Nat) (s : State), s.storesOk → s.canUse o .operator 1 → v < two32 →
    s.sched.engines.length = 16 → (s.tasks.any fun x => x.id == v) = true →
    ∃ t, exec (.taskCancel o v) s = .next t ∧ t.reg Reg.taskCancel = 2 ∧
      t.sent.head? = some (.result o 0 (Reg.taskCancel / 256) (Reg.taskCancel % 256) 0 []) ∧
      (∀ x ∈ t.tasks, x.id = v → x.cancel = true) ∧
      (∀ x ∈ s.sched.ready.flatten, x.id ≠ v → x ∈ t.sched.ready.flatten)) ∧
  (∀ (o : Origin) (v : Nat) (s : State), s.storesOk → s.canUse o .operator 1 → v < two32 →
    (s.tasks.any fun x => x.id == v) = false → ∃ t, exec (.taskCancel o v) s = .next t ∧ t.reg Reg.taskCancel = 3 ∧
      t.sched = s.sched ∧ Counted 45 s t ∧ t.sent.head? = some (.result o 0x0107 (Reg.taskCancel / 256) (Reg.taskCancel % 256) 0 [])) ∧
  (∀ (o : Origin) (v : Nat) (s : State), s.storesOk → s.canUse o .installer 1 → v < two32 → v < s.descCount →
    s.sched.engines.length = 16 → ∃ t, exec (.descCancel o v) s = .next t ∧ t.reg Reg.descCancel = 2 ∧
      t.sent.head? = some (.result o 0 (Reg.descCancel / 256) (Reg.descCancel % 256) 0 []) ∧
      (∀ x ∈ t.tasks, x.desc = v → x.cancel = true) ∧
      (∀ x ∈ s.sched.ready.flatten, x.desc ≠ v → x ∈ t.sched.ready.flatten)) ∧
  ∀ (p : Task → Bool) (s : State), s.storesOk → s.reg Reg.cancels < two32 → (∀ x ∈ s.inFlight, p x = false) →
    (s.cancelWhere p).reg Reg.cancels = min (s.reg Reg.cancels + (s.sched.ready.flatten.filter p).length) (two32 - 1) ∧
    (s.cancelWhere p).sched.ready = s.sched.ready.map fun q => q.filter fun x => !p x

/-- R486: a read of a report window returns the oldest record and removes it; with none there it returns no bytes. Nothing else
changes but the pool's low-water mark and its event EV34. -/
def Obligations.RecordReads : Prop :=
  (∀ (o : Origin) (s : State), s.storesOk → s.canUse o .observer 1 → ∃ t, exec (.clampRead o) s = .next t ∧
    t.report.clamps = s.report.clamps.tail ∧ t.report.rejects = s.report.rejects ∧ RegsKept (evKeys 34) s t ∧
    t = State.answered { s with report := t.report, regs := t.regs, ev := t.ev, q := t.q } o Reg.clampRead 0 0x0D
      ((s.report.clamps.head?.map ClampRec.bytes).getD [])) ∧
  (∀ (o : Origin) (s : State), s.storesOk → s.canUse o .observer 1 → ∃ t, exec (.rejectRead o) s = .next t ∧
    t.report.rejects = s.report.rejects.tail ∧ t.report.clamps = s.report.clamps ∧ RegsKept (evKeys 34) s t ∧
    t = State.answered { s with report := t.report, regs := t.regs, ev := t.ev, q := t.q } o Reg.rejectRead 0 0x0D
      ((s.report.rejects.head?.map RejectRec.bytes).getD [])) ∧
  (∀ (o : Origin) (s : State), s.storesOk → s.canUse o .observer 0 → s.reg Reg.poolLowCells = 0 →
    ∃ t, exec (.evqRead o) s = .next t ∧ RegsKept [Reg.poolMin] s t ∧
    t = State.answered { s with ev := { s.ev with queue := s.ev.queue.tail }, regs := t.regs, report := t.report } o Reg.evqRead 0 0x0D
      ((s.ev.queue.head?.map EvRec.bytes).getD [])) ∧
  (∀ (o : Origin) (s : State), s.storesOk → s.canUse o .observer 0 → ∃ t, exec (.faultRead o) s = .next t ∧
    RegsKept (evKeys 34) s t ∧
    t = State.answered
      { s with belay := { s.belay with queue := s.belay.queue.tail }, regs := t.regs, ev := t.ev, q := t.q, report := t.report } o Reg.faultRead 0 0x0D
      ((s.belay.queue.head?.map FaultRec.bytes).getD [])) ∧
  (∀ (o : Origin) (s : State), s.storesOk → s.canUse o .observer 1 → ∃ t, exec (.traceRead o) s = .next t ∧
    RegsKept (evKeys 34) s t ∧
    t = State.answered
      { s with sched := { s.sched with trace := s.sched.trace.tail }, regs := t.regs, ev := t.ev, q := t.q, report := t.report } o Reg.traceRead 0 0x0D
      ((s.sched.trace.head?.map TraceRec.bytes).getD [])) ∧
  (∀ (o : Origin) (s : State), s.storesOk → s.canUse o .observer 6 → ∃ t, exec (.rdmResp o) s = .next t ∧
    RegsKept (evKeys 34) s t ∧
    t = State.answered
      { s with egress := { s.egress with resp := s.egress.resp.tail }, regs := t.regs, ev := t.ev, q := t.q, report := t.report } o Reg.rdmResp 0 0x0D
      ((s.egress.resp.head?.map RdmResp.bytes).getD [])) ∧
  (∀ (o : Origin) (p : Nat) (s : State), s.storesOk → s.canUse o .observer 2 → p < 3 → ∃ t, exec (.diagRead o p) s = .next t ∧
    RegsKept (evKeys 34) s t ∧
    t = State.answered
      { s with ports := s.ports.set p { s.port p with diag := (s.port p).diag.tail }, regs := t.regs, ev := t.ev, q := t.q, report := t.report }
      o (Reg.diagDiagRead p) 0 0x0D (((s.port p).diag.head?.map DiagRec.bytes).getD [])) ∧
  ∀ (o : Origin) (j : Nat) (s : State), s.storesOk → s.canUse o .observer 0 → j < 4 → ∃ t, exec (.capture o j) s = .next t ∧
    RegsKept (evKeys 34) s t ∧ (t.eci j).queue = (s.eci j).queue.tail ∧
    t = State.answered { s with tio := t.tio, regs := t.regs, ev := t.ev, q := t.q, report := t.report } o (Reg.eciCapture j) 0 0x0D
      (((s.eci j).queue.head?.map CapRec.bytes).getD [])

/-- R372, R373, R380, R381: PUSH puts an item at the tail of a spill queue that has room, a full HOLD queue refuses it, a full OVERWRITE
queue loses its oldest, and an item for a waiting POP goes straight to it; POP takes the oldest, and waits when the queue is empty and
POP_WAIT allows. -/
def Obligations.SpillWindows : Prop :=
  (∀ (o : Origin) (n : Nat) (x : Bytes) (q : Spill) (s : State), s.storesOk → s.canUse o .operator 3 → n < 32 → x.length = 64 →
    s.ctl.jobs = [] → assocGet s.q.spills n = some q → q.tail.length < 16 → q.waits = [] → q.depth < q.limit →
    ∃ t q', exec (.push o n x) s = .next t ∧ assocGet t.q.spills n = some q' ∧ q'.depth = q.depth + 1 ∧
      (q.ringN = 0 → q'.head ++ q'.tail = q.head ++ q.tail ++ [x]) ∧
      (∀ m, m ≠ n → assocGet t.q.spills m = assocGet s.q.spills m) ∧ t.reg (Reg.spillPush n) = 2 ∧
      RegsKept [Reg.spillPush n] s t ∧ t = State.answered { s with regs := t.regs, q := t.q } o (Reg.spillPush n) 0 0 []) ∧
  (∀ (o : Origin) (n : Nat) (x : Bytes) (q : Spill) (s : State), s.storesOk → s.canUse o .operator 3 → n < 32 → x.length = 64 →
    s.ctl.jobs = [] → assocGet s.q.spills n = some q → q.tail.length < 16 → q.waits = [] → q.limit ≤ q.depth → q.hold = true →
    ∃ t, exec (.push o n x) s = .next t ∧ assocGet t.q.spills n = some { q with bp := min (q.bp + 1) (two64 - 1), inBp := true } ∧
      t.reg (Reg.spillPush n) = 3 ∧ (q.inBp = false → Counted 33 s t) ∧
      t.sent.head? = some (.result o 0x0401 (0x8C00 + n) 1 0 [])) ∧
  (∀ (o : Origin) (n : Nat) (x : Bytes) (q : Spill) (s : State), s.storesOk → s.canUse o .operator 3 → n < 32 → x.length = 64 →
    s.ctl.jobs = [] → assocGet s.q.spills n = some q → q.tail.length < 16 → q.waits = [] → q.limit ≤ q.depth → q.hold = false →
    ∃ t, exec (.push o n x) s = .next t ∧ assocGet t.q.spills n = some (q.dropHead.append x) ∧ t.reg (Reg.spillPush n) = 2 ∧
      t.reg (Reg.evCount 32) = min (s.reg (Reg.evCount 32) + 1) (two32 - 1) ∧
      t.sent.head? = some (.result o 0 (0x8C00 + n) 1 0 [])) ∧
  (∀ (o p : Origin) (n w : Nat) (ws : List SpillWait) (x : Bytes) (q : Spill) (s : State), s.storesOk → s.canUse o .operator 3 →
    n < 32 → x.length = 64 → s.ctl.jobs = [] → assocGet s.q.spills n = some q → q.depth = 0 → q.waits = .pop p w :: ws →
    ∃ t, exec (.push o n x) s = .next t ∧ assocGet t.q.spills n = some { q with waits := ws, inBp := false } ∧
      t.sent = .result o 0 (0x8C00 + n) 1 0 [] :: .result p 0 (0x8C00 + n) 2 0x0D x :: s.sent ∧ t.reg (Reg.spillPush n) = 2 ∧
      RegsKept [Reg.spillPush n] s t) ∧
  (∀ (o : Origin) (n : Nat) (x : Bytes) (q : Spill) (s : State), s.storesOk → s.canUse o .observer 3 → n < 32 →
    assocGet s.q.spills n = some q → q.head = x :: q.head.tail → q.ringN = 0 →
    ∃ t q', exec (.pop o n) s = .next t ∧ assocGet t.q.spills n = some q' ∧ q'.head ++ q'.tail = q.head.tail ++ q.tail ∧
      t = State.answered { s with q := t.q } o (Reg.spillPop n) 0 0x0D x) ∧
  (∀ (o : Origin) (n : Nat) (q : Spill) (s : State), s.storesOk → s.canUse o .observer 3 → n < 32 →
    assocGet s.q.spills n = some q → q.depth = 0 → s.reg (Reg.spillPopWait n) = 0 →
    exec (.pop o n) s = .next (s.answered o (Reg.spillPop n) 0x0701 0 [])) ∧
  ∀ (o : Origin) (n : Nat) (q : Spill) (s : State), s.storesOk → s.canUse o .observer 3 → n < 32 →
    assocGet s.q.spills n = some q → q.depth = 0 → s.reg (Reg.spillPopWait n) ≠ 0 →
    ∃ t, exec (.pop o n) s = .next t ∧ t.sent = s.sent ∧
      assocGet t.q.spills n = some { q with waits := q.waits ++ [.pop o (s.reg (Reg.spillPopWait n))] } ∧
      t = { s with ctl := t.ctl, q := t.q }

/-- R346, R349: DOMAIN_BEGIN of a legal transfer opens it under a handle no open transfer has; a read takes its snapshot. R347: a part of
the block under way is kept until its block is whole; the block counts when its CRC is right, and is asked for again with 0x0105 when
it is not. -/
def Obligations.TransferBlocksMove : Prop :=
  ((∀ (o : Origin) (r : Role) (ix sub total start : Nat) (s : State), s.alive = true → s.roleOf o = some r →
     s.beginCode r ix sub 0 total start = 0 → Reg.key ix sub = Reg.surfData ∨ Reg.key ix sub = Reg.coefData ∨ Reg.key ix sub = Reg.lutData →
     ∃ t h, exec (.domainBegin o ix sub 0 total start) s = .next t ∧ 0 < h ∧ h < 65536 ∧ (∀ x ∈ s.xfer.open_, x.handle ≠ h) ∧
       t.xfer.open_ = s.xfer.open_ ++
         [{ handle := h, org := o, ix := ix, sub := sub, write := true, total := total, start := s.bankOf (Reg.key ix sub)
            data := [], part := [], crc := none, last := s.clock.cclk }] ∧
       t.sent = .result o 0 ix sub 0x0D (beBytes 2 h ++ beBytes 2 0 ++ beBytes 4 total ++ beBytes 4 (ceilDiv total 8192)) :: s.sent ∧
       t = { s with ctl := (s.touch o).ctl, xfer := t.xfer, freeCount := t.freeCount, oracle := t.oracle, sent := t.sent }) ∧
   (∀ (o : Origin) (r : Role) (ix sub total : Nat) (s : State), s.alive = true → s.roleOf o = some r →
     s.beginCode r ix sub 1 total 0 = 0 →
     ∃ t h, exec (.domainBegin o ix sub 1 total 0) s = .next t ∧ 0 < h ∧ h < 65536 ∧ (∀ x ∈ s.xfer.open_, x.handle ≠ h) ∧
       t.xfer.open_ = s.xfer.open_ ++
         [{ handle := h, org := o, ix := ix, sub := sub, write := false, total := (s.snapshotOf (Reg.key ix sub)).length
            start := s.bankOf (Reg.key ix sub), data := s.snapshotOf (Reg.key ix sub), part := [], crc := none
            last := s.clock.cclk }] ∧ t.regs = s.regs ∧ t.flash = s.flash ∧
       t = { s with ctl := (s.touch o).ctl, xfer := t.xfer, freeCount := t.freeCount, oracle := t.oracle, sent := t.sent }) ∧
   ∀ (o : Origin) (r : Role) (ix sub total start : Nat) (s : State), s.alive = true → s.roleOf o = some r →
     s.beginCode r ix sub 1 total start ≠ 0 →
     exec (.domainBegin o ix sub 1 total start) s =
       .next (s.answered o (Reg.key ix sub) (s.beginCode r ix sub 1 total start) 0 [])) ∧
  (∀ (o : Origin) (r : Role) (h crc : Nat) (x : Transfer) (data : Bytes) (s : State), s.alive = true → s.roleOf o = some r →
     s.xferOf o h = some x → x.write = true → s.domOn (odDomain x.ix) = true → x.data.length < x.total → x.data.length % 8192 = 0 → data ≠ [] →
     x.crc.getD crc = crc →
     (x.part.length + data.length < min 8192 (x.total - x.data.length) →
       ∃ t, exec (.domainData o h (x.data.length / 8192) x.part.length crc data) s = .next t ∧
         t.xferOf o h = some { x with part := x.part ++ data, crc := some crc, last := s.clock.cclk } ∧
         t = { s with ctl := (s.touch o).ctl, xfer := t.xfer, sent := .result o 0 x.ix x.sub 0 [] :: s.sent }) ∧
     (x.part.length + data.length = min 8192 (x.total - x.data.length) → crc32 (x.part ++ data) = crc →
       s.flashAt (Reg.key x.ix x.sub) x.start = none →
       ∃ t, exec (.domainData o h (x.data.length / 8192) x.part.length crc data) s = .next t ∧
         t.xferOf o h = some { x with data := x.data ++ (x.part ++ data), part := [], crc := none, last := s.clock.cclk } ∧
         t = { s with ctl := (s.touch o).ctl, xfer := t.xfer, sent := .result o 0 x.ix x.sub 0 [] :: s.sent }) ∧
     (x.part.length + data.length = min 8192 (x.total - x.data.length) → crc32 (x.part ++ data) ≠ crc →
       ∃ t, exec (.domainData o h (x.data.length / 8192) x.part.length crc data) s = .next t ∧
         t.xferOf o h = some { x with part := [], crc := none, last := s.clock.cclk } ∧
         t = { s with ctl := (s.touch o).ctl, xfer := t.xfer, sent := .result o 0x0105 x.ix x.sub 0 [] :: s.sent }) ∧
     (min 8192 (x.total - x.data.length) < x.part.length + data.length →
       ∃ t, exec (.domainData o h (x.data.length / 8192) x.part.length crc data) s = .next t ∧
         t.xferOf o h = some { x with last := s.clock.cclk } ∧
         t = { s with ctl := (s.touch o).ctl, xfer := t.xfer, sent := .result o 0x0104 x.ix x.sub 0 [] :: s.sent }))

/-- R348, R349: DOMAIN_READ returns the CRC of a block and its bytes; DOMAIN_END closes a read, abandons a write on request, and an idle
transfer ends by itself after 10 s; the transfer is then open no longer, and a flash target that is not whole is left erased. -/
def Obligations.TransfersEnd : Prop :=
  (∀ (o : Origin) (r : Role) (h block off count : Nat) (x : Transfer) (s : State), s.alive = true → s.roleOf o = some r →
    s.xferOf o h = some x → x.write = false → x.ix ≠ 0x1012 → s.domOn (odDomain x.ix) = true → block * 8192 < x.total → off ≤ 8192 →
    ∃ t, exec (.domainRead o h block off count) s = .next t ∧
      t.sent = .result o 0 x.ix x.sub 0x0D (beBytes 4 (crc32 (slice x.data (block * 8192) (min 8192 (x.total - block * 8192)))) ++
        ((slice x.data (block * 8192) (min 8192 (x.total - block * 8192))).drop off).take (min count 65535)) :: s.sent ∧
      t.xferOf o h = some { x with last := s.clock.cclk } ∧
      t = { s with ctl := (s.touch o).ctl, xfer := t.xfer, sent := t.sent }) ∧
  (∀ (o : Origin) (r : Role) (h : Nat) (x : Transfer) (ab sig : Bool) (s : State), s.alive = true → s.roleOf o = some r →
    s.xferOf o h = some x → s.domOn (odDomain x.ix) = true → x.write = false ∨ ab = true ∧ x.ix ≠ 0x1010 →
    ∃ t, exec (.domainEnd o h ab sig) s = .next t ∧ t.xferOf o h = none ∧
      t = { s with ctl := (s.touch o).ctl, xfer := { s.xfer with open_ := s.xfer.open_.filter fun y => y.handle != h },
                   flash := (s.eraseTransfer x).flash, sent := .result o 0 x.ix x.sub 0 [] :: s.sent }) ∧
  (∀ (x : Transfer) (n : Nat) (s : State), x.write = true → n = 1 ∨ n = 2 → x.ix = 0x8001 → x.sub = n →
    s.eraseTransfer x = s.flashErase (s.slotBase n) s.slotSize) ∧
  (∀ (x : Transfer) (s : State), x.write = false ∨ s.flashRegion x = none → s.eraseTransfer x = s) ∧
  (∀ (o : Origin) (r : Role) (h : Nat) (x : Transfer) (sig : Bool) (s : State), s.storesOk → s.alive = true → s.roleOf o = some r →
    s.xferOf o h = some x → s.domOn (odDomain x.ix) = true → x.write = true → x.data.length < x.total →
    ∃ t, exec (.domainEnd o h false sig) s = .next t ∧ t.xferOf o h = none ∧ Counted 45 s t ∧ t.flash = (s.eraseTransfer x).flash ∧
      t.comp = s.comp ∧ t.sent.head? = some (.result o 0x0104 x.ix x.sub 0 [])) ∧
  (∀ (o : Origin) (r : Role) (h : Nat) (sig ab : Bool) (s : State), s.alive = true → s.roleOf o = some r → s.xferOf o h = none →
    exec (.domainEnd o h ab sig) s = .next (s.answered o 0 0x0306 0 [])) ∧
  ∀ (h : Nat) (x : Transfer) (s : State), (s.xfer.open_.find? fun y => y.handle == h) = some x → x.ix ≠ 0x1010 →
    ∃ t, exec (.domainTransferTimeout h) s = .next t ∧ x.last + 10000000000 ≤ t.clock.cclk ∧
      t = { s with clock := t.clock, xfer := { s.xfer with open_ := s.xfer.open_.filter fun y => y.handle != h },
                   flash := (s.eraseTransfer x).flash }

/-- R69, R110, R123, R124, R364: a whole value written to a DOMAIN subindex by its own transfer: a slot knows the length of its image, a
firmware region its image, a surface waits for its boundary, and a bank holds its coefficients. No transfer stays open. -/
def Obligations.WholeValuesArrive : Prop :=
  (∀ (o : Origin) (b : Bool) (img : Bytes) (s : State), s.storesOk → s.canUse o .installer 1 → s.mode.mode = .staging →
    img ≠ [] → img.length ≤ s.slotSize → s.topo.switch = .none → s.topo.cand = none → s.xfer.open_ = [] → s.fw.slotLens.length = 2 →
    ∃ t, exec (.slotA o b img) s = .next t ∧ t.xfer.open_ = [] ∧ t.fw.slotLens[if b then 1 else 0]? = some (some img.length) ∧
      t.flashBytes (s.slotBase (if b then 2 else 1)) img.length = img ∧ t.regs = s.regs ∧ t.topo = s.topo ∧ t.mode = s.mode ∧
      t.sent = .result o 0 0x8001 (if b then 2 else 1) 0 [] :: s.sent) ∧
  (∀ (o : Origin) (img : Bytes) (s : State), s.storesOk → s.canUse o .installer 4 → img ≠ [] → s.slotHeld (field img 0 2) = false →
    s.xfer.open_ = [] → ∃ t, exec (.surfData o img) s = .next t ∧ t.xfer.open_ = [] ∧
      t.comp = { s.comp with surf := { s.comp.surf with due := s.comp.surf.due ++ [(o, img)] } } ∧ t.regs = s.regs ∧
      t.flash = s.flash ∧ t.mem = s.mem) ∧
  (∀ (o : Origin) (d : Bytes) (s : State), s.storesOk → s.canUse o .installer 4 → d.length = 448 → s.coefHeld (s.reg Reg.coefSel) = false →
    s.xfer.open_ = [] → ∃ t, exec (.coefData o d) s = .next t ∧ t.xfer.open_ = [] ∧
      assocGet t.comp.coefs (s.reg Reg.coefSel) = some (coefsOf d) ∧ t.comp.luts = s.comp.luts ∧
      (coefClamps d = [] → t.regs = s.regs) ∧ t.flash = s.flash ∧
      t.sent.head? = some (.result o (if coefClamps d = [] then 0 else 1) (Reg.coefData / 256) (Reg.coefData % 256) 0 [])) ∧
  (∀ (o : Origin) (d : Bytes) (s : State), s.storesOk → s.canUse o .installer 4 → d.length = lutSize (s.reg Reg.lutSel) →
    s.lutHeld (s.reg Reg.lutSel) = false → s.xfer.open_ = [] → ∃ t, exec (.lutData o d) s = .next t ∧ t.xfer.open_ = [] ∧
      assocGet t.comp.luts (s.reg Reg.lutSel) = some (lutOf (s.reg Reg.lutSel) d) ∧ t.comp.coefs = s.comp.coefs ∧ t.regs = s.regs ∧
      t.flash = s.flash) ∧
  (∀ (o : Origin) (fb : Bool) (img : Bytes) (s : State), s.storesOk → s.canUse o .installer 1 → 4096 ≤ img.length →
    img.length ≤ 16777216 → s.fwOk img true = true → s.xfer.open_ = [] →
    ∃ t, exec (.fwImage o fb img true) s = .next t ∧ t.xfer.open_ = [] ∧ t.reg Reg.fwState = 2 ∧
      (if fb then t.fw.fallback else t.fw.primary) = some { version := field img 8 4, secVer := field img 12 2, valid := true } ∧
      (if fb then t.fw.primary else t.fw.fallback) = (if fb then s.fw.primary else s.fw.fallback) ∧ t.fw.running = s.fw.running ∧
      t.flashBytes (if fb then 0x1000000 else 0) img.length = img) ∧
  ∀ (at_ : Nat) (d : Bytes) (s : State), s.storesOk → s.alive = false → s.mode.boot = .hold → s.lcl.keyEn = true → at_ % 8192 = 0 →
    8192 ≤ d.length → at_ + d.length ≤ s.part.flashMb * 1048576 → s.xfer.open_ = [] →
    ∃ t, exec (.flashRaw .localPort at_ d) s = .next t ∧ t.xfer.open_ = [] ∧ t.flashBytes at_ d.length = d ∧
      (∀ a, a < at_ ∨ at_ + ceilDiv d.length 8192 * 8192 ≤ a → storeGet flashDefault t.flash a = storeGet flashDefault s.flash a) ∧
      t.regs = s.regs ∧ t.mode = s.mode

/-- R350: HELLO opens a handshake with a fresh HS_ID and answers it; with the role's key empty, or 8 sessions or 16 handshakes open, it is
refused; from a locked-out address nothing happens; a handshake ends 2,000 ms after its HELLO. R351: a RESPONSE with the right MAC
opens a session in the handshake's role and raises EV41; a wrong MAC ends the handshake, counts AUTH_FAILS, raises EV42, and the fourth
from one address within 10 s locks that address out for 10 s. -/
def Obligations.SessionsOpen : Prop :=
  ((∀ (addr port role : Nat) (s : State), s.netServed = true → role ≤ 3 → s.lockedOut addr = false → (s.keyOf role).isSome = true →
     s.ctl.sessions.length < 8 → s.pendingHands.length < 16 →
     ∃ t h, exec (.hello addr port role) s = .next t ∧ t.ctl.hands = s.pendingHands ++ [h] ∧ h.role = roleOf role ∧ h.addr = addr ∧
       h.port = port ∧ h.born = s.clock.cclk ∧ h.accept = none ∧ h.nonce.length = 16 ∧ (∀ x ∈ s.pendingHands, x.id ≠ h.id) ∧
       t = State.sendUdp { s with ctl := { s.ctl with hands := t.ctl.hands }, freeCount := t.freeCount, oracle := t.oracle } addr port
         (ctrlMsg 0x02 0 0 (beBytes 4 h.id ++ beBytes 1 role ++ beBytes 3 0 ++ h.nonce ++ s.part.serial))) ∧
   (∀ (addr port role : Nat) (s : State), s.netServed = true → role ≤ 3 → s.lockedOut addr = true →
     exec (.hello addr port role) s = .next s) ∧
   (∀ (addr port role : Nat) (s : State), s.netServed = true → role ≤ 3 → s.lockedOut addr = false → s.keyOf role = none →
     exec (.hello addr port role) s = .next (s.sendRefuse addr port 0 0x0305)) ∧
   (∀ (addr port role : Nat) (s : State), s.netServed = true → role ≤ 3 → s.lockedOut addr = false → (s.keyOf role).isSome = true →
     8 ≤ s.ctl.sessions.length ∨ 16 ≤ s.pendingHands.length →
     exec (.hello addr port role) s = .next (s.sendRefuse addr port 0 0x0303)) ∧
   ∀ (id : Nat) (h : Handshake) (s : State), (s.ctl.hands.find? fun x => x.id == id) = some h →
     ∃ t, exec (.handshakeExpire id) s = .next t ∧ h.born + 2000000000 ≤ t.clock.cclk ∧
       t = { s with clock := t.clock, ctl := { s.ctl with hands := s.ctl.hands.filter fun x => x.id != id } }) ∧
  ((∀ (addr port hs : Nat) (n mac key : Bytes) (h : Handshake) (s : State), s.storesOk → s.netServed = true →
     (s.pendingHands.find? fun x => x.id == hs && x.addr == addr && x.port == port) = some h → h.accept = none →
     s.keyOf h.role.rank = some key → hmac key (h.nonce ++ n ++ s.part.serial) = mac → s.ctl.sessions.length < 8 →
     ∃ t x p, exec (.response addr port hs n mac) s = .next t ∧ t.ctl.sessions = s.ctl.sessions ++ [x] ∧ x.role = h.role ∧
       x.addr = h.addr ∧ x.port = h.port ∧ (∀ y ∈ s.ctl.sessions, y.id ≠ x.id) ∧ x.last = s.clock.cclk ∧ x.cached = none ∧
       t.ctl.keys = s.ctl.keys ∧ Counted 41 s t ∧
       t = (State.sendUdp { s with ctl := t.ctl, freeCount := t.freeCount, oracle := t.oracle } h.addr h.port
         (ctrlMsg 0x04 0 0 (beBytes 4 h.id ++ beBytes 4 x.id ++ beBytes 4 x.nextSeq ++ beBytes 1 h.role.rank ++ beBytes 1 0 ++
           beBytes 2 (s.reg Reg.msgMax) ++ beBytes 4 (s.reg Reg.sessionTimeout) ++ beBytes 4 0 ++
           hmac key (n ++ h.nonce ++ s.part.serial ++ beBytes 4 x.id)))).raise 41 p) ∧
   (∀ (addr port hs : Nat) (n mac key : Bytes) (h : Handshake) (s u : State), s.storesOk → s.netServed = true →
     (s.pendingHands.find? fun x => x.id == hs && x.addr == addr && x.port == port) = some h → h.accept = none →
     s.keyOf h.role.rank = some key → hmac key (h.nonce ++ n ++ s.part.serial) ≠ mac → u = (s.dropHand hs).sendRefuse addr port hs 0x0304 →
     ∃ t, exec (.response addr port hs n mac) s = .next t ∧ t.ctl.sessions = s.ctl.sessions ∧
       t.ctl.hands = s.ctl.hands.filter (fun x => x.id != hs) ∧
       t.reg Reg.authFails = min (s.reg Reg.authFails + 1) (two32 - 1) ∧ Counted 42 s t ∧
       RegsKept (Reg.authFails :: evKeys 42) u t ∧
       (3 ≤ (s.ctl.fails.filter fun p => decide (s.clock.cclk < p.2 + 10000000000) && p.1 == addr).length → t.lockedOut addr = true) ∧
       t = { u with regs := t.regs, ctl := t.ctl, ev := t.ev, q := t.q, report := t.report }) ∧
   ∀ (addr till : Nat) (s : State), (s.ctl.lockouts.find? fun p => p.1 == addr) = some (addr, till) →
     ∃ t, exec (.lockoutEnd addr) s = .next t ∧ t.lockedOut addr = false ∧ till ≤ t.clock.cclk ∧
       t = { s with clock := t.clock, ctl := { s.ctl with lockouts := s.ctl.lockouts.filter fun q => q.1 != addr } })

/-- R352, R354: CLOSE in sequence and the idle timeout end a session, its transfers and its waiting requests, and raise EV43; a CLOSE out
of sequence is answered with the sequence number expected and counted. -/
def Obligations.SessionsClose : Prop :=
  (∀ (addr port id seq : Nat) (x : Session) (s : State), s.storesOk → s.netServed = true → s.sessionAt addr port id = some x →
    seq = x.nextSeq → ∃ t, exec (.close addr port id seq) s = .next t ∧ t.session id = none ∧
      (∀ y, y ≠ id → t.session y = s.session y) ∧ (∀ y ∈ t.xfer.open_, y.org ≠ .session id) ∧ (∀ j ∈ t.ctl.jobs, j.org ≠ .session id) ∧
      Counted 43 s t ∧ t.mode = s.mode ∧ t.clock = s.clock ∧
      ((∀ y ∈ s.xfer.open_, y.org = .session id → s.flashRegion y = none) → t.flash = s.flash) ∧
      t.sent = (s.sendUdp addr port (ctrlMsg 0x21 id seq [])).sent) ∧
  (∀ (addr port id seq : Nat) (x : Session) (s : State), s.storesOk → s.netServed = true → s.sessionAt addr port id = some x →
    seq ≠ x.nextSeq → ∃ t, exec (.close addr port id seq) s = .next t ∧
      t.reg Reg.seqErrors = min (s.reg Reg.seqErrors + 1) (two32 - 1) ∧
      t = (s.incReg Reg.seqErrors).sendUdp x.addr x.port
        (ctrlMsg 0x12 x.id seq (beBytes 2 0x0302 ++ beBytes 2 0 ++ beBytes 4 x.nextSeq))) ∧
  ∀ (id : Nat) (x : Session) (s : State), s.storesOk → s.alive = true → s.session id = some x →
    ∃ t, exec (.sessionTimeout id) s = .next t ∧ t.session id = none ∧
      (∀ y, y ≠ id → t.session y = s.session y) ∧ (∀ y ∈ t.xfer.open_, y.org ≠ .session id) ∧ Counted 43 s t ∧
      x.last + s.reg Reg.sessionTimeout * 1000000 ≤ t.clock.cclk ∧ t.mode = s.mode ∧ t.sent = s.sent ∧
      ((∀ y ∈ s.xfer.open_, y.org = .session id → s.flashRegion y = none) → t.flash = s.flash)

/-- R358, R359: a SEND whose CRC-32 is wrong sets CRC_ERR; one that comes while a request is under way sets DISCARD; a request of one
operation leaves its result as the reply, and FETCH returns it and clears READY; any other command byte returns STATUS alone. -/
def Obligations.LocalPort : Prop :=
  (∀ (key sig : Bool) (b : Bytes) (s : State), s.alive = true → s.lcl.busy = false → s.ctl.jobs = [] → sendBody b = none →
    exec (.send key sig b) s = .next { s with
      pins := { s.pins with keyEn := key }, lcl := { s.lcl with crcErr := true }
      sent := .miso (beBytes 1 (State.lclStatus { s with pins := { s.pins with keyEn := key } }) ++ List.replicate b.length 0) :: s.sent }) ∧
  (∀ (key sig : Bool) (b : Bytes) (s : State), s.alive = true → s.lcl.busy = true → s.ctl.jobs = [] →
    exec (.send key sig b) s = .next { s with
      pins := { s.pins with keyEn := key }, lcl := { s.lcl with discard := true }
      sent := .miso (beBytes 1 (State.lclStatus { s with pins := { s.pins with keyEn := key } }) ++ List.replicate b.length 0) :: s.sent }) ∧
  (∀ (key sig : Bool) (b items v : Bytes) (i : OpItem) (st ty : Nat) (s u w : State), s.alive = true → s.lcl.busy = false →
    s.ctl.jobs = [] → sendBody b = some items → itemsOk items.length items = true → takeItem items = some (i, []) → i.need ≤ 4092 →
    w = { s with pins := { s.pins with keyEn := key }
                 lcl := { s.lcl with ready := false, busy := true, crcErr := false, discard := false, malformed := false
                                     keyEn := key, reply := none }
                 sent := .miso (beBytes 1 (State.lclStatus { s with pins := { s.pins with keyEn := key } }) ++
                   List.replicate b.length 0) :: s.sent } →
    w.execServed .localPort (if key then .installer else .operator) sig 4080 i = (.done st ty v, u) → u.ctl.jobs = [] →
    exec (.send key sig b) s = .next { u with
      pending := s.pending
      lcl := { u.lcl with busy := false, ready := true
                          reply := some (beBytes 2 1 ++ beBytes 2 0 ++ resultItem i.ix i.sub st ty v) } }) ∧
  (∀ (key : Bool) (body : Bytes) (s : State), s.alive = true → s.lcl.busy = false → s.lcl.reply = some body →
    ∃ t, exec (.fetch key) s = .next t ∧ t.lcl = { s.lcl with keyEn := key, ready := false } ∧
      t.sent = .miso (beBytes 1 (State.lclStatus { s with pins := { s.pins with keyEn := key } }) ++
        (beBytes 2 body.length ++ body) ++ beBytes 4 (crc32 (beBytes 2 body.length ++ body))) :: s.sent ∧
      t = { s with pins := { s.pins with keyEn := key }, lcl := t.lcl, sent := t.sent }) ∧
  ∀ (key : Bool) (c : Nat) (s : State), s.alive = true → s.lcl.busy = false → c ≠ 1 → c ≠ 2 →
    exec (.statusPoll key c) s = .next { s with
      pins := { s.pins with keyEn := key }, lcl := { s.lcl with keyEn := key }
      sent := .miso (beBytes 1 (State.lclStatus { s with pins := { s.pins with keyEn := key } })) :: s.sent }

/-- R33, R41, R45, R59, R62: TICK takes the clock to the next boundary and reads the sensors; in RESET nothing else happens, with an FW_RESTART
waiting the unit resets, otherwise the boundary's work follows in its order, the timed writes that are due coming before the rest: one
of class S joins the staging set, one of class L applies, and one of class F applies in STAGING and is rejected elsewhere. -/
def Obligations.TickAdvancesTime : Prop :=
  (∀ (m : Sensors) (s : State), s.mode.boot = .unpowered → exec (.tick m) s = .next s) ∧
  (∀ (m : Sensors) (s : State), s.storesOk → s.mode.boot ≠ .unpowered → s.tick.restVled = none → s.fbx.on = false →
    ∃ a : State, a = { s with regs := a.regs, tick := a.tick, clock := a.clock, power := a.power, report := a.report } ∧
      a.tick.time = s.tick.nextTime ∧ a.tick.nextIdx = s.tick.nextIdx + 1 ∧
      a.tick.nextTime = s.boundary (s.tick.nextIdx + 1 - s.reg Reg.tickBias) ∧
      a.reg Reg.tickIndex = s.tick.nextIdx % two64 ∧ a.reg Reg.tickTime = time80 s.tick.nextTime ∧
      a.reg Reg.vddqMv = m.vddq % 65536 ∧ a.reg Reg.tjLogic = ofSigned 2 m.tjLogic ∧
      a.clock = clockAdvance (cclkFor s.clock (s.tick.nextTime - s.clock.ns)) s.clock ∧
      RegsKept [Reg.tickIndex, Reg.tickTime, Reg.railMv, Reg.vddqMv, Reg.tjLogic, Reg.tjFbx, Reg.tjPeak] s a ∧
      (s.alive = false → exec (.tick m) s = .next a) ∧
      (s.alive = true → s.mode.fwRestart = true → ∃ t, exec (.tick m) s = .next t ∧ t.mode.mode = .reset ∧
        t.mode.boot = bootOf s.mode.bootSel ∧ t.reg Reg.lastCause = 13 ∧ t.cairn = { s.cairn with calWrite := none } ∧
        (s.xfer.open_ = [] → t.flash = s.flash) ∧ t.clock = a.clock) ∧
      (s.alive = true → s.mode.fwRestart = false → ∃ t, exec (.tick m) s = .next t ∧ t.pending = s.pending ∧
        t = { (if a.boundaryBegin.timedHere then
          { a.boundaryBegin with tick := { a.boundaryBegin.tick with restVled := some m.vled } }
          else a.boundaryBegin.boundaryEnd m.vled false) with pending := s.pending } ∧
        s.clock.cclk ≤ t.clock.cclk ∧ t.part = s.part)) ∧
  (∀ s : State, s.tick.restVled = none → exec .timedWriteDue s = .next s) ∧
  (∀ (v : Nat) (s : State), s.tick.restVled = some v → ∃ t, exec .timedWriteDue s = .next t ∧
    t = { s.timedDue.2.boundaryEnd v s.timedDue.1 with pending := s.pending } ∧ t.part = s.part ∧ s.clock.cclk ≤ t.clock.cclk) ∧
  (∀ s : State, s.timedDue.1 = (s.stage.timed.any fun w => decide (w.due ≤ s.tick.time) && Reg.key w.ix w.sub == Reg.commit)) ∧
  ∀ (l : List (Nat × Nat)) (w : TimedW) (x : Obj) (s : State), odFind w.ix w.sub = some x → x.acc = .rw →
    (x.chg = .s → State.timedOne (l, s) w =
      (l, { s with stage := { s.stage with staged := assocSet s.stage.staged (Reg.key w.ix w.sub) (beNat w.val) } })) ∧
    (x.chg = .l ∨ x.chg = .f ∧ s.mode.mode = .staging → State.timedOne (l, s) w = (l ++ [(Reg.key w.ix w.sub, beNat w.val)], s)) ∧
    (x.chg = .f → s.mode.mode ≠ .staging → State.timedOne (l, s) w = (l, s.rejected w.ix w.sub w.org.source 0x0203 1 w.due))

/-- R46, R47, R48: at a boundary the mode changes by the first trigger in order: ROPING ends, then HOLDOVER, then REQ_STAGING, then SHOW
again; without one it stays. LAST_CAUSE names the trigger. R52, R47: arming starts in STAGING when SHOW is asked for or AUTO_SHOW is
set and nothing else blocks it, and after L ticks the unit enters SHOW, unless SHOW_BLOCK has set in between; HOLDOVER_LIMIT raises
EV17 once. -/
def Obligations.ModeChanges : Prop :=
  (∀ s : State, s.storesOk → s.mode.showReqs = [] →
     (∀ c, s.mode.mode = .roping → s.mode.ropingEnd = some c → s.mode.darkRec = none → s.mode.stageReqs = [] →
       s.modeStep.mode.mode = .staging ∧ s.modeStep.reg Reg.lastCause = c) ∧
     (∀ c d, s.mode.mode = .roping → s.mode.ropingEnd = some c → s.mode.darkRec = some d → s.mode.stageReqs = [] →
       s.modeStep.mode.mode = .dark ∧ s.modeStep.reg Reg.lastCause = d ∧ Counted 59 s s.modeStep) ∧
     (∀ c, s.mode.mode = .onShow → s.mode.toHoldover = some c → s.mode.stageReqs = [] →
       s.modeStep.mode.mode = .holdover ∧ s.modeStep.reg Reg.lastCause = c ∧ s.modeStep.mode.holdAt = s.tick.time ∧
       Counted 16 s s.modeStep) ∧
     (∀ c, s.mode.mode = .holdover ∨ s.mode.mode = .onShow ∧ s.mode.toHoldover = none → s.mode.stageReqs = [c] →
       s.modeStep.mode.mode = .staging ∧ s.modeStep.reg Reg.lastCause = 2 ∧ s.modeStep.reg Reg.reqStaging = 2 ∧
       s.modeStep.fbx.on = false ∧ s.modeStep.fbx.den = false) ∧
     (s.mode.mode = .holdover → s.mode.toShow = true → s.mode.stageReqs = [] →
       s.modeStep.mode.mode = .onShow ∧ s.modeStep.reg Reg.lastCause = 10) ∧
     (s.mode.ropingEnd = none → (s.mode.mode = .onShow → s.mode.toHoldover = none) → (s.mode.mode = .holdover → s.mode.toShow = false) →
       s.mode.stageReqs = [] → s.modeStep.mode.mode = s.mode.mode ∧ s.modeStep.regs = s.regs)) ∧
  ((∀ s : State, s.mode.mode = .staging → s.mode.arming = none → s.atBoundary = true → s.tick.realign = false → s.blocked = 0 →
     s.mode.showReqs ≠ [] ∨ s.flag Reg.autoShow = true → ∃ t, exec .armingStart s = .next t ∧
       t = { s with mode := { s.mode with arming := some s.lat }, comp := t.comp, buf := t.buf, regs := t.regs }) ∧
   (∀ s : State, s.mode.arming.isSome = true → exec .armingStart s = .next s) ∧
   (∀ s : State, s.storesOk → s.mode.mode = .staging → s.mode.arming = some 0 → s.atBoundary = true → s.blocked = 0 →
     s.mode.armBroken = false →
     ∃ t, exec .armingDone s = .next t ∧ t.reg Reg.lastCause = (if s.mode.showReqs = [] then 9 else 2) ∧
       (s.mode.showReqs ≠ [] → t.reg Reg.reqShow = 2) ∧
       t = { s with mode := { s.mode with mode := .onShow, arming := none, armed := true, showReqs := [], toHoldover := none
                                          toShow := false }
                    comp := t.comp, buf := t.buf, regs := t.regs, fbx := t.fbx, ev := t.ev, q := t.q, report := t.report
                    pins := t.pins, sent := t.sent }) ∧
   (∀ s : State, s.mode.mode = .staging → s.mode.arming = some 0 → s.atBoundary = true → s.blocked ≠ 0 ∨ s.mode.armBroken = true →
     ∃ t, exec .armingDone s = .next t ∧ t.mode.mode = .staging ∧ t.mode.arming = none ∧ t.mode.armed = false) ∧
   ∀ s : State, s.storesOk → s.mode.mode = .holdover → s.mode.ev17 = false → s.atBoundary = true →
     ((s.reg Reg.holdoverLimit * 1000000 : Nat) : Int) ≤ (s.tick.time : Int) - s.mode.holdAt → bit s.belay.maskedCls 0x15 = false →
     ∃ t, exec .holdoverLimit s = .next t ∧ Counted 17 s t ∧ RegsKept (evKeys 17) s t ∧
       t = { s with mode := { s.mode with ev17 := true, refLimit := true }, regs := t.regs, ev := t.ev, q := t.q, report := t.report })

/-- R81, R84, R88: the end of a load gives its verdict and, when good, a topo for the next boundary in STAGING or a candidate elsewhere; the
activation and the tables of a switch put it into force. -/
def Obligations.TopoLoading : Prop :=
  (∀ (l : LoadSt) (f : LoadFail) (s : State), s.storesOk → s.alive = true → s.domOn 7 = true → s.topo.load = some l →
    l.boot = false ∨ s.clock.cclk ≤ l.since + 400000000 → (s.loadSlot l.slot).clamps = [] → (s.loadSlot l.slot).fail = some f →
    ∃ t, exec .topoLoadDone s = .next t ∧ t.reg Reg.loadResult = (if 0x0200 ≤ f.1 then 0x0802 else 0x0801) ∧
      t.reg Reg.loadDetail = f.1 ∧ t.reg Reg.loadWhere = f.2.1 * 2 ^ 48 + f.2.2 ∧ t.reg Reg.clampCount = 0 ∧
      (0x0200 ≤ f.1 → Counted 47 s t) ∧
      t.topo = { s.topo with load := l.other.map fun n => { slot := n, boot := l.boot, other := none, since := s.clock.cclk } } ∧ t.mode = s.mode) ∧
  (∀ (l : LoadSt) (s : State), s.storesOk → s.alive = true → s.domOn 7 = true → s.topo.load = some l →
    l.boot = false ∨ s.clock.cclk ≤ l.since + 400000000 → (s.loadSlot l.slot).clamps = [] → (s.loadSlot l.slot).fail = none → s.mode.mode = .staging →
    ∃ t, exec .topoLoadDone s = .next t ∧ t.reg Reg.loadResult = 0 ∧ t.reg Reg.candState = 0 ∧ Counted 46 s t ∧
      t.topo = { s.topo with load := none, staged := some (s.loadSlot l.slot).topo, loadedAt := s.clock.cclk } ∧ t.mode = s.mode) ∧
  (∀ (l : LoadSt) (s : State), s.storesOk → s.alive = true → s.domOn 7 = true → s.topo.load = some l →
    l.boot = false ∨ s.clock.cclk ≤ l.since + 400000000 → (s.loadSlot l.slot).clamps = [] → (s.loadSlot l.slot).fail = none → s.mode.mode ≠ .staging →
    ∃ t, exec .topoLoadDone s = .next t ∧ t.reg Reg.loadResult = 0 ∧ t.reg Reg.candTopoId = (s.loadSlot l.slot).topo.id ∧
      (t.reg Reg.candState = 2 ∨ t.reg Reg.candState = 3) ∧ (s.topo.active = none → t.reg Reg.candState = 3) ∧ Counted 46 s t ∧
      t.topo = { s.topo with load := none, cand := some (s.loadSlot l.slot).topo } ∧ t.mode = s.mode) ∧
  (∀ (x : Topo) (s : State), s.alive = true → s.atBoundary = true → s.topo.staged = some x → s.topo.loadedAt < s.tick.cclk →
    x.sec 0x10 = [] → ∃ t, exec .topoActivate s = .next t ∧
      t.topo = { s.topo with active := some x, cand := none, staged := none, initDue := [] } ∧ t.flash = s.flash ∧ t.clock = s.clock) ∧
  (∀ (x : Topo) (s : State), s.storesOk → s.topo.cand = some x → s.topo.switchBegin = true → s.atBoundary = true →
    ∃ t, exec .switchBegin s = .next t ∧ t.topo = { s.topo with switchBegin := false, switch := .copying x.switchW } ∧
      t.reg Reg.switchLast = t.tickIdx ∧ t.comp.raster.composes = false ∧
      (∀ y ∈ t.comp.layers, y.ember = false ∧ y.flatten = false) ∧ t.mode = s.mode ∧ t.clock = s.clock) ∧
  ∀ (x : Topo) (s : State), s.topo.cand = some x → s.topo.switch = .copying 0 → s.atBoundary = true → x.sec 0x10 = [] →
    ∃ t, exec .switchTablesInForce s = .next t ∧
      t.topo = { s.topo with switch := if s.mode.mode = .dark then .none else .arming x.lat
                             active := some x, cand := none, staged := none, initDue := [] } ∧
      t.flash = s.flash ∧ t.clock = s.clock

/-- R47, R84, R85, R108, R113, R184, R201, R203, R250, R259, R278: what the waiting commands do when their boundary carries them out. -/
def Obligations.BoundaryCommands : Prop :=
  ∀ (o : Origin) (v : Bytes) (e : Nat) (s : State),
    (s.mode.mode = .staging → s.cal.run = none → s.cal.want = 0 → s.runCmd { org := o, ix := 0x1100, sub := Reg.reqShow % 256, val := v, effect := e } =
      (0, 1, { s with mode := { s.mode with showReqs := s.mode.showReqs ++
        [{ org := o, ix := 0x1100, sub := Reg.reqShow % 256, val := v, effect := e }] } })) ∧
    (s.mode.mode ≠ .staging ∨ s.cal.run ≠ none ∨ s.cal.want ≠ 0 → s.runCmd { org := o, ix := 0x1100, sub := Reg.reqShow % 256, val := v, effect := e } = (0x0107, 3, s)) ∧
    (s.mode.mode = .onShow ∨ s.mode.mode = .holdover ∨ s.mode.mode = .dark →
      s.runCmd { org := o, ix := 0x1100, sub := Reg.reqStaging % 256, val := v, effect := e } =
        (0, 1, { s with mode := { s.mode with stageReqs := s.mode.stageReqs ++
          [{ org := o, ix := 0x1100, sub := Reg.reqStaging % 256, val := v, effect := e }] } })) ∧
    (s.topo.cand.isSome = true → s.reg Reg.candState = 2 →
      s.runCmd { org := o, ix := 0x8000, sub := 11, val := v, effect := e } =
        (0, 1, { s with topo := { s.topo with switchBegin := true } })) ∧
    (s.topo.cand = none → s.runCmd { org := o, ix := 0x8000, sub := 11, val := v, effect := e } =
      (0x0107, 3, { s with topo := { s.topo with switch := .none } })) ∧
    (s.servo = 4 → s.runCmd { org := o, ix := Reg.acceptStep / 256, sub := Reg.acceptStep % 256, val := v, effect := e } =
      (0, 2, { s with tick := { s.tick with stepDue := some (stepOf s.ptp.meas, false) } })) ∧
    (s.servo ≠ 4 → s.runCmd { org := o, ix := Reg.acceptStep / 256, sub := Reg.acceptStep % 256, val := v, effect := e } =
      (0x0107, 3, s)) ∧
    (s.runCmd { org := o, ix := 0x6500, sub := Reg.groupSet % 256, val := v, effect := e } =
      (0, 2, State.noteChange { s with buf := { s.buf with
        groups := assocSet s.buf.groups (field v 0 2) { s.group (field v 0 2) with level := field v 2 2 } } })) ∧
    ((∀ f ∈ s.buf.fades, f.slot = field v 0 2 → f.t ≠ f.dur ∨ f.ended = true) →
      s.runCmd { org := o, ix := Reg.fadeStop / 256, sub := Reg.fadeStop % 256, val := v, effect := e } =
      (0, 2, State.noteChange { s with buf := { s.buf with
        fades := s.buf.fades.filter fun f => f.slot != field v 0 2 } })) ∧
    (∀ n, n < 8 → (s.stream n).mark ≠ 1 →
      s.runCmd { org := o, ix := 0x4500 + n, sub := Reg.streamRewind 0 % 256, val := v, effect := e } = (0x0702, 3, s)) ∧
    (∀ n, n < 16 → (s.loop n).mark ≠ 1 →
      s.runCmd { org := o, ix := 0x4510 + n, sub := Reg.loopRewind 0 % 256, val := v, effect := e } = (0x0702, 3, s)) ∧
    (∀ n, n < 16 → (s.loop n).state = 2 → s.runCmd { org := o, ix := 0x4510 + n, sub := Reg.loopStop 0 % 256, val := v, effect := e } =
      (0, 2, (s.setLoop n { s.loop n with state := 3 }).noteChange)) ∧
    (s.cal.pend = none → s.runCmd { org := o, ix := 0x7800, sub := 4, val := v, effect := e } = (0x0401, 3, s)) ∧
    ((s.rdm (field v 0 1)).queue.length < 64 →
      s.runCmd { org := o, ix := Reg.rdmReq / 256, sub := Reg.rdmReq % 256, val := v, effect := e } = (0, 2, s.rdmReq v)) ∧
    (s.runCmd { org := o, ix := Reg.discStart / 256, sub := Reg.discStart % 256, val := v, effect := e } =
      (0, 2, s.discStart (beNat v)))

/-- R111, R164, R183: a loop whose entry has dwelt moves to the next entry or stops at the last; the static state begins after five quiet
ticks; a fade that has run its length ends with EV54. -/
def Obligations.ContentTicks : Prop :=
  (∀ (j : Nat) (e f : LoopEntry) (p : Nat) (s : State), (s.loop j).cur = some e → (s.loop j).state = 2 → e.dwell ≤ (s.loop j).tick →
    (s.loop j).pos = some p → (s.loop j).items[p + 1]? = some f →
    ∃ t, exec (.loopAdvance j) s = .next t ∧ (t.loop j).cur = some f ∧ (t.loop j).pos = some (p + 1) ∧ (t.loop j).tick = 0 ∧
      (t.loop j).state = 2 ∧ (t.loop j).items = (s.loop j).items ∧
      t = { s with comp := t.comp, regs := t.regs, buf := t.buf, ev := t.ev, q := t.q, fbx := t.fbx, report := t.report }) ∧
  (∀ (j : Nat) (e : LoopEntry) (p : Nat) (s : State), (s.loop j).cur = some e → (s.loop j).state = 2 → e.dwell ≤ (s.loop j).tick →
    (s.loop j).pos = some p → (s.loop j).items.length ≤ p + 1 → (s.loop j).mark ≠ 1 →
    exec (.loopAdvance j) s = .next (s.setLoop j { s.loop j with state := 3, tick := e.dwell - 1 })) ∧
  (∀ (j : Nat) (e : LoopEntry) (s : State), (s.loop j).cur = some e → (s.loop j).tick < e.dwell →
    exec (.loopAdvance j) s = .next s) ∧
  (∀ s : State, s.storesOk → s.domOn 5 = true → s.flag Reg.staticEn = true → s.mode.mode = .onShow ∨ s.mode.mode = .holdover →
    s.ras.blank = 0 → s.reg Reg.staticState = 0 → 5 ≤ s.ras.quiet → s.ras.change = false →
    ∃ t, exec .staticEnter s = .next t ∧ t.reg Reg.staticState = 1 ∧ Counted 7 s t ∧
      RegsKept ([Reg.staticState, Reg.staticTicks] ++ evKeys 7) s t ∧
      t = { s with regs := t.regs, ev := t.ev, q := t.q, comp := t.comp, report := t.report }) ∧
  (∀ s : State, s.ras.quiet < 5 ∨ s.ras.change = true → exec .staticEnter s = .next s) ∧
  ∀ (slot : Nat) (f : Fade) (s : State), s.storesOk → s.alive = true → f ∈ s.buf.fades → f.slot = slot → f.t = f.dur → f.ended = false →
    ∃ t, exec (.fadeDone slot) s = .next t ∧ Counted 54 s t ∧ RegsKept (evKeys 54) s t ∧
      t = { s with buf := { s.buf with fades := s.buf.fades.map fun (g : Fade) => if g.slot = slot then { g with ended := true } else g }
                   regs := t.regs, ev := t.ev, q := t.q, report := t.report }

/-- R146, R150, R153: a raster line takes the clock to its start, counts the line and raises EV2 for each match; the start of blanking
latches and raises EV1; a whole frame is done, raises EV3 and leaves its time, its margin and its signature. -/
def Obligations.RasterAdvances : Prop :=
  (∀ (late fault addr : Nat) (s : State), s.ras.on = false ∨ s.domOn 5 = false ∨ (s.ras.blank = 0 ∧ s.vTotal ≤ s.ras.line + 1) →
    exec (.rasterLineStart late fault addr) s = .next s) ∧
  (∀ (late fault addr : Nat) (s : State), s.storesOk → s.ras.on = true → s.domOn 5 = true → s.ras.blank = 0 →
    s.ras.line + 1 < s.vTotal → ∃ t, exec (.rasterLineStart late fault addr) s = .next t ∧ t.ras.line = s.ras.line + 1 ∧
      (∀ i, i < 8 → s.alive = true → bit (s.reg Reg.matchEn) i = true → s.reg (Reg.matchLine i) = s.ras.line + 1 → bit (t.reg Reg.pending) 2 = true) ∧
      (s.ras.composes = false → RegsKept (evKeys 2) s t ∧
        (∀ v h n, v = ((bit (s.reg Reg.rsyncCfg) 2 && decide (s.ras.line + 1 < s.timing 7)) == bit (s.reg Reg.rsyncCfg) 0) →
          h = bit (s.reg Reg.rsyncCfg) 1 →
          n = (if bit (s.reg Reg.rsyncCfg) 2 then pixelOffset (s.reg Reg.tickNum) (s.reg Reg.tickDen) s.ras.cur (s.timing 3) else 0) →
          t.ras = { s.ras with line := s.ras.line + 1
                               rsync := some (v, h, s.lineAt (s.ras.line + 1), s.lineAt (s.ras.line + 1) + n) } ∧
          t.sent = .rsync (s.ras.line + 1) v h (s.lineAt (s.ras.line + 1)) (s.lineAt (s.ras.line + 1) + n) :: s.sent) ∧
        t = { s with comp := { s.comp with raster := t.ras }
                     clock := clockAdvance (cclkFor s.clock (s.lineAt (s.ras.line + 1) - s.clock.ns)) s.clock
                     regs := t.regs, ev := t.ev, q := t.q, report := t.report, sent := t.sent })) ∧
  (∀ (kat : Bool) (s : State), s.ras.on = false ∨ s.ras.sobDone = true ∨ s.ras.line ≠ sobLine s.ras.cur →
    exec (.sob kat) s = .next s) ∧
  (∀ (kat : Bool) (s : State), s.storesOk → s.ras.on = true → s.ras.sobDone = false → s.ras.line = sobLine s.ras.cur →
    ∃ t, exec (.sob kat) s = .next t ∧ t.ras.sobDone = true ∧ t.ras.line = s.ras.line ∧ t.reg Reg.sobTime = time80 s.now ∧
      (s.alive = true → bit (t.reg Reg.pending) 1 = true) ∧ t.clock = s.clock ∧ t.flash = s.flash ∧ t.mem = s.mem) ∧
  (∀ s : State, s.ras.on = false ∨ s.ras.composes = false ∨ s.ras.done = true ∨ s.gathered = false →
    exec .frameDone s = .next s) ∧
  (∀ s : State, s.ras.on = true → s.ras.composes = true → s.ras.done = false → s.gathered = true →
    s.ras.blank = 0 → s.tick.nextTime < (s.reachCclk s.ras.mapFree).now + 2000 → exec .frameDone s = .next (s.reachCclk s.ras.mapFree)) ∧
  ∀ s : State, s.storesOk → s.alive = true → s.ras.on = true → s.ras.composes = true → s.ras.done = false → s.gathered = true →
    s.ras.blank ≠ 0 ∨ (s.reachCclk s.ras.mapFree).now + 2000 ≤ s.tick.nextTime →
    ∃ t, exec .frameDone s = .next t ∧ t.clock = clockAdvance (s.ras.mapFree - s.clock.cclk) s.clock ∧
      t.ras = { s.ras with done := true, doneAt := t.now } ∧
      t.reg Reg.doneOffset = min (t.now - s.ras.start) (two32 - 1) ∧
      (s.report.cleared.contains Reg.marginMin = true → t.reg Reg.marginMin = s.tick.nextTime - t.now) ∧
      (s.report.cleared.contains Reg.marginMin = false → t.reg Reg.marginMin = min (s.reg Reg.marginMin) (s.tick.nextTime - t.now)) ∧
      t.reg Reg.outSigW = s.buf.sigs.getD s.buf.compose 0 ∧ t.buf.sigOk = s.buf.sigOk.set s.buf.compose true ∧ Counted 3 s t ∧
      RegsKept ([Reg.outSigW, Reg.doneOffset, Reg.marginMin] ++ evKeys 3) s t ∧
      t = { s with comp := t.comp, clock := t.clock, regs := t.regs, buf := t.buf, ev := t.ev, q := t.q, report := t.report }

/-- R217, R219, R220, R222, R223, R242, R243: the drive values are copied to the flue, an emission frame swaps them in and runs through its segments and
slots, and its end closes the headroom and the lamps that nobody verified are told of. -/
def Obligations.EmissionFrames : Prop :=
  (∀ s : State, s.ras.blank ≠ 0 → s.fbx.copyDue = true → s.domOn 8 = true → s.reg Reg.driveMode ≠ 0 →
    exec .flueCopyStart s = .next { s with
      fbx := { s.fbx with
        swapFrom := s.ras.start + 2000
        inactive := s.lamps.filterMap fun l => if s.copyValue s.buf.shown false l = 0 then none
                                               else some (l, s.copyValue s.buf.shown false l)
        copy := 1, copyDue := false, copyEnd := s.clock.cclk + ceilDiv (2 * s.lamps.length) 64 } }) ∧
  (∀ s : State, s.ras.blank ≠ 0 → s.fbx.copyDue = false ∨ s.domOn 8 = false ∨ s.reg Reg.driveMode = 0 →
    exec .flueCopyStart s = .next { s with fbx := { s.fbx with copyDue := false } }) ∧
  (∀ s : State, s.ras.blank = 0 → s.egress.cut = true → s.copyWanted = false → exec .flueCopyStart s = .next
    { s with clock := clockAdvance (cclkFor s.clock (s.tick.nextTime - 2000 - s.clock.ns)) s.clock }) ∧
  (∀ s : State, s.ras.blank = 0 → s.egress.cut = true → s.copyWanted = true → s.fbx.copy ≠ 1 →
    ∃ t, exec .flueCopyStart s = .next t ∧ t.fbx.copy = 1 ∧ t.fbx.copyDue = false ∧
      t.fbx.inactive = (s.lamps.filterMap fun l => if s.copyValue s.nextShow true l = 0 then none
                                                   else some (l, s.copyValue s.nextShow true l)) ∧
      t.clock = clockAdvance (cclkFor s.clock (s.tick.nextTime - 2000 - s.clock.ns)) s.clock ∧
      t.fbx.copyEnd = t.clock.cclk + ceilDiv (2 * s.lamps.length) 64 ∧ t.fbx.active = s.fbx.active ∧
      t = { s with fbx := t.fbx, clock := t.clock }) ∧
  (∀ (ok : Bool) (s : State), s.fbx.copy ≠ 1 → exec (.flueCopyDone ok) s = .next s) ∧
  (∀ s : State, s.fbx.copy = 1 → exec (.flueCopyDone true) s = .next
    { s with fbx := { s.fbx with copy := 2 }, clock := clockAdvance (s.fbx.copyEnd - s.clock.cclk) s.clock }) ∧
  (∀ s : State, s.storesOk → s.fbx.copy = 1 → ∃ t, exec (.flueCopyDone false) s = .next t ∧ t.fbx.copy = 3 ∧
    t.reg Reg.flueErrors = min (s.reg Reg.flueErrors + 1) (two32 - 1) ∧
    (t.belay.slots.any fun x => x.rcd.cls == 0x0A) = true) ∧
  (∀ (stuck : Bool) (sink : Nat) (s : State), s.domOn 8 = false ∨ s.reg Reg.driveMode = 0 ∨ s.tick.realign = true →
    exec (.emissionFrameStart stuck sink) s = .next s) ∧
  (∀ (sink : Nat) (s : State), s.domOn 8 = true → s.reg Reg.driveMode ≠ 0 → s.tick.realign = false →
    s.emits = true ∨ s.mode.arming.isSome = true → s.fbx.on = false ∨ s.fbx.tick ≠ s.tickIdx → ∃ t, exec (.emissionFrameStart false sink) s = .next t ∧
      t.fbx.on = s.emits ∧ t.fbx.tick = s.tickIdx ∧ t.fbx.trims = s.cal.applied.trims ∧ t.fbx.start = s.tick.time + s.reg Reg.emitPhaseNs ∧ t.fbx.seg = 0 ∧ t.fbx.slot = 0 ∧
      t.fbx.cfg = { k := s.reg Reg.segments, rows := s.reg Reg.rows, win := s.reg Reg.emitWinNs, slot := s.reg Reg.slotNs
                    p := s.reg Reg.stepsP, lc := s.reg Reg.lcEn } ∧
      (s.fbx.copy = 2 → s.fbx.swapFrom ≤ t.now → t.fbx.active = s.fbx.inactive ∧ t.fbx.inactive = s.fbx.active ∧ t.fbx.copy = 0 ∧
        t.fbx.repeats = false) ∧
      (s.fbx.copy ≠ 2 ∨ t.now < s.fbx.swapFrom → t.fbx.active = s.fbx.active ∧ t.fbx.repeats = true) ∧
      (s.fbx.slotOn = none → t.sent = s.sent) ∧ bit t.belay.active 0x1D = false ∧
      t = { s with fbx := t.fbx, clock := t.clock, belay := t.belay, sent := t.sent }) ∧
  (∀ (sink : Nat) (s : State), s.domOn 8 = true → s.reg Reg.driveMode ≠ 0 → s.tick.realign = false →
    ∃ t, exec (.emissionFrameStart true sink) s = .next t ∧ bit t.belay.active 0x1D = true ∧
      (t.belay.slots.any fun x => x.rcd.cls == 0x1D) = true) ∧
  (∀ s : State, s.fbx.on = true → s.emits = true → s.fbx.seg < s.fbx.cfg.k →
    ∃ t, exec .emissionSegmentStart s = .next t ∧
      t.fbx = { s.fbx.closeSeg with seg := s.fbx.seg + 1, slot := 0, withheld := s.fbx.rampAt.isSome } ∧
      t = { s with fbx := t.fbx
                   clock := clockAdvance (cclkFor s.clock (s.fbx.start + s.fbx.seg * s.fbx.cfg.win / s.fbx.cfg.k - s.clock.ns)) s.clock }) ∧
  (∀ s : State, s.fbx.on = false ∨ s.emits = false ∨ s.fbx.cfg.k ≤ s.fbx.seg → exec .emissionSegmentStart s = .next s) ∧
  (∀ (a b : List SinkSample) (s : State), s.fbx.on = true → s.emits = true → s.fbx.seg ≠ 0 → s.fbx.slot < s.fbx.cfg.rows →
    ∃ t, exec (.scanSlot a b) s = .next t ∧ t.fbx.slot = s.fbx.slot + 1 ∧
      (s.fbx.withheld = true → t.fbx = { s.fbx with slot := s.fbx.slot + 1 } ∧ t.sent = s.sent) ∧
      (s.fbx.withheld = false → s.flag Reg.probeEn = false →
        ∀ n, n = s.fbx.start + (s.fbx.seg - 1) * s.fbx.cfg.win / s.fbx.cfg.k + s.fbx.slot * s.fbx.cfg.slot →
          t.fbx.slotOn = some (s.fbx.slot, n + s.fbx.cfg.slot) ∧
          t.sent = .slot { tick := s.fbx.tick, seg := s.fbx.seg - 1, row := s.fbx.slot, start := n
                           chargeAt := n + s.reg Reg.tDeadNs
                           charge := if s.reg Reg.driveMode = 1 then s.charged else []
                           rowPin := if s.reg Reg.driveMode = 1 then some (s.fbx.slot, s.rowOn) else none
                           rowAt := n + s.reg Reg.tDeadNs + s.reg Reg.tPreNs, pwmAt := n + s.reg Reg.tDeadNs + s.reg Reg.tPreNs
                           endAt := n + s.fbx.cfg.slot
                           on := (s.lit (s.fbx.seg - 1) s.fbx.slot).map fun p => p.2 } :: s.sent) ∧
      t = { s with fbx := t.fbx, clock := t.clock, freeCount := t.freeCount, oracle := t.oracle, sent := t.sent }) ∧
  (∀ s : State, s.storesOk → s.fbx.on = true → s.emits = true → ∃ t, exec .emissionFrameEnd s = .next t ∧
    t.fbx.on = false ∧ t.fbx.hrLast = s.fbx.closeSeg.hrNow ∧ t.reg Reg.hrMin = hrBytes s.fbx.closeSeg.hrNow ∧
    t.fbx.diagOff = (if s.flag Reg.diagEn then 0 else s.fbx.diagOff + 1) ∧
    t.reg Reg.sinkDissMw = ((s.fbx.diss / max 1 s.tMin :: s.fbx.dissLog).take 16).sum /
      ((s.fbx.diss / max 1 s.tMin :: s.fbx.dissLog).take 16).length / 1000000) ∧
  (∀ s : State, s.fbx.on = false ∨ s.emits = false → exec .emissionFrameEnd s = .next s) ∧
  (∀ s : State, (s.lamps.filter s.unverDue) = [] → exec .lampUnverified s = .next s) ∧
  ∀ s : State, s.storesOk → s.alive = true → (s.lamps.filter s.unverDue) ≠ [] → ∃ t, exec .lampUnverified s = .next t ∧
    (∀ l ∈ s.lamps.filter s.unverDue, assocGet t.fbx.status l = some 4) ∧ Counted 50 s t ∧ RegsKept (evKeys 50) s t ∧
    t = { s with fbx := { s.fbx with status := t.fbx.status }, regs := t.regs, ev := t.ev, q := t.q, report := t.report }

/-- R231, R232, R233, R236, R418: the draught's ramp ends, its faults and phase limits act, and an NTC sample becomes a temperature. -/
def Obligations.DraughtAndTemperatures : Prop :=
  (∀ s : State, s.fbx.rampAt = none → exec .draughtRampEnd s = .next s) ∧
  (∀ (c : Nat) (s : State), s.storesOk → s.fbx.rampAt = some c → ∃ t, exec .draughtRampEnd s = .next t ∧
    t.reg Reg.vledSetMv = (if s.cal.run.isSome then s.cal.vmax else s.reg Reg.vledInitMv) ∧
    RegsKept [Reg.vledSetMv] s t ∧
    t = { s with fbx := { s.fbx with rampAt := none }, regs := t.regs
                 clock := clockAdvance (c + 900000 - s.clock.cclk) s.clock }) ∧
  (∀ (mv : Nat) (s : State), s.draughtOn = false ∨ mv ≤ (if s.cal.run.isSome then s.cal.vmax else s.reg Reg.vledMaxMv) + 500 → exec (.draughtOv mv) s = .next s) ∧
  (∀ (mv : Nat) (s : State), s.storesOk → s.draughtOn = true →
    (if s.cal.run.isSome then s.cal.vmax else s.reg Reg.vledMaxMv) + 500 < mv →
    ∃ t, exec (.draughtOv mv) s = .next t ∧ t.fbx.on = false ∧ t.fbx.den = false ∧ t.fbx.rampAt = none ∧
      t.reg Reg.draughtState = 4 ∧ bit t.belay.active 0x17 = true ∧ (t.belay.slots.any fun x => x.rcd.cls == 0x17) = true ∧
      t.cal.run = none) ∧
  (∀ (mv init : Nat) (s : State), s.draughtOn = true → init = (if s.cal.run.isSome then s.cal.vmax else s.reg Reg.vledInitMv) →
    (s.reg Reg.draughtState = 2 ∨ s.reg Reg.draughtState = 3) ∧ mv + 300 < s.reg Reg.vledSetMv ∨
      s.reg Reg.draughtState = 1 ∧ (mv + 200 < init ∨ init + 200 < mv) →
    ∃ t, exec (.draughtUv mv) s = .next t ∧ (t.belay.slots.any fun x => x.rcd.cls == 0x18) = true) ∧
  (∀ (mv : Nat) (s : State), s.draughtOn = false ∨ (s.reg Reg.draughtState = 2 ∨ s.reg Reg.draughtState = 3) ∧
      s.reg Reg.vledSetMv ≤ mv + 300 → exec (.draughtUv mv) s = .next s) ∧
  (∀ (p mv c : Nat) (s : State), c = phaseCycle s.clock.cclk s.pins.out.khz s.pins.out.phases p →
    (s.draughtOn = true → s.fbx.den = true → p < s.pins.out.phases → s.reg Reg.ilimMv < mv → assocGet s.fbx.phaseCut p ≠ some c →
      exec (.phaseCurrentLimit p mv) s = .next
        { s with fbx := { s.fbx with phaseCut := assocSet s.fbx.phaseCut p c }, sent := .phaseEnd p :: s.sent }) ∧
    (s.draughtOn = false ∨ s.fbx.den = false ∨ s.pins.out.phases ≤ p ∨ mv ≤ s.reg Reg.ilimMv ∨ assocGet s.fbx.phaseCut p = some c →
      exec (.phaseCurrentLimit p mv) s = .next s)) ∧
  (∀ (mv : Nat) (s : State), bit s.belay.active 0x17 = true → mv ≤ s.reg Reg.vledMaxMv →
    exec (.vledBelowMax mv) s = .next { s with
      belay := { s.belay with active := clearBit s.belay.active 0x17, maskedCls := clearBit s.belay.maskedCls 0x17 } }) ∧
  (∀ (i rt : Nat) (s : State), s.domOn 8 = false ∨ 8 ≤ i ∨ bit (field (s.ntcEntry i) 6 1) 0 = false →
    exec (.ntcSample i rt) s = .next s) ∧
  ∀ (i rt avg : Nat) (v : Int) (s : State), s.storesOk → s.domOn 8 = true → i < 8 → bit (field (s.ntcEntry i) 6 1) 0 = true →
    ((rt * s.cal.applied.rBias / 10000000 :: s.fbx.ntc.getD i []).take 8).sum /
      ((rt * s.cal.applied.rBias / 10000000 :: s.fbx.ntc.getD i []).take 8).length = avg →
    ∃ t, exec (.ntcSample i rt) s = .next t ∧
      t.fbx.ntc = s.fbx.ntc.set i ((rt * s.cal.applied.rBias / 10000000 :: s.fbx.ntc.getD i []).take 8) ∧
      (avg < 100000 ∨ 1000000000 < avg → t.reg (Reg.ntcTemp i) = 0x8000 ∧ bit t.fbx.ntcBad i = true) ∧
      (100000 ≤ avg → avg ≤ 1000000000 → thetaOf (field (s.ntcEntry i) 0 4) (field (s.ntcEntry i) 4 2) avg = some v →
        t.reg (Reg.ntcTemp i) = ofSigned 2 (clampInt (-32767) 32767 (v + s.cal.applied.ntcOff.getD i 0)) ∧
          bit t.fbx.ntcBad i = false)

/-- R193, R194, R195, R197: a strand frame leaves its port once a tick with the channels of the buffer shown, or with zeros in darkness, as
the changes of the port's pins. R201, R203: a response, or none for 2,800 µs, ends a request: it answers RDM_RESP with EV63, or
discovery goes on. -/
def Obligations.StrandsAndRdm : Prop :=
  ((∀ (p : Nat) (s : State), 32 ≤ p ∨ (assocGet s.egress.strands p).isSome = true ∨ s.strandFrame p = none →
     exec (.strandFrameStart p) s = .next s) ∧
   (∀ (p : Nat) (s : State), s.heldOut true = none →
     (s.strandStateOf p = 0 ∨ s.strandStateOf p = 2 → s.strandFrame p = none) ∧
     (s.strandStateOf p = 1 → s.strandFrame p = some (s.strandEntry p, strandBits (s.strandEntry p) fun c => s.chan s.sendBuf c)) ∧
     (s.strandStateOf p = 3 → s.strandFrame p = some (s.strandEntry p, strandBits (s.strandEntry p) fun _ => 0))) ∧
   ∀ (p : Nat) (e : Bytes) (bits : List Bool) (s : State), s.storesOk → p < 32 → assocGet s.egress.strands p = none →
     s.strandFrame p = some (e, bits) → ∃ t, exec (.strandFrameStart p) s = .next t ∧
     t.reg (Reg.strandFrames p) = min (s.reg (Reg.strandFrames p) + 1) (two32 - 1) ∧ RegsKept [Reg.strandFrames p] s t ∧
     t.sent = (if s.ras.blank ≠ 0 ∧ field e 1 1 = 1 then [.latch p (field e 30 2)] else []) ++
       .strand p t.now bits (strandWave e bits) :: s.sent ∧
     t = { s with
       egress := { s.egress with strands := (p, e) :: s.egress.strands }, regs := t.regs, sent := t.sent
       clock := if s.ras.blank = 0 then clockAdvance (cclkFor s.clock (s.tick.nextTime - strandFrameNs e - s.clock.ns)) s.clock
         else s.clock }) ∧
  ((∀ (n : Nat) (b : Bytes) (s : State), (s.rdm n).busy = none → exec (.rdmResponse n b) s = .next s ∧ exec (.rdmTimeout n) s = .next s) ∧
   (∀ (n : Nat) (r : RdmReq) (b : Bytes) (s : State), s.storesOk → (s.rdm n).busy = some r → (s.rdm n).own = false →
     s.egress.resp.length < 256 → cellsOf (16 + b.length) ≤ s.poolFree → ∃ t, exec (.rdmResponse n b) s = .next t ∧
       t.egress.resp = s.egress.resp ++ [if rdmGood b then
           { port := n, uid := field b 9 6, status := field b 16 1, cc := field b 20 1, pid := field b 21 2
             data := (b.drop 24).take (field b 23 1) }
         else { port := n, uid := r.uid, status := 5, cc := r.cc, pid := r.pid, data := [] }] ∧
       t.rdm n = { s.rdm n with busy := none } ∧ (s.alive = true → s.egress.resp = [] → Counted 63 s t) ∧
       t = { s with egress := t.egress, clock := clockAdvance ((s.rdm n).sentAt - s.clock.cclk) s.clock
                    regs := t.regs, ev := t.ev, q := t.q, report := t.report }) ∧
   (∀ (n : Nat) (r : RdmReq) (s : State), s.storesOk → (s.rdm n).busy = some r → (s.rdm n).own = false →
     s.egress.resp.length < 256 → 1 ≤ s.poolFree → ∃ t, exec (.rdmTimeout n) s = .next t ∧
       t.egress.resp = s.egress.resp ++ [{ port := n, uid := r.uid, status := 4, cc := r.cc, pid := r.pid, data := [] }] ∧
       t.rdm n = { s.rdm n with busy := none } ∧
       t.clock = clockAdvance ((s.rdm n).sentAt + 2800000 - s.clock.cclk) s.clock ∧
       (s.alive = true → s.egress.resp = [] → Counted 63 s t) ∧
       t = { s with egress := t.egress, clock := t.clock, regs := t.regs, ev := t.ev, q := t.q, report := t.report }) ∧
   (∀ (n : Nat) (r : RdmReq) (b : Bytes) (s : State), (s.rdm n).busy = some r → (s.rdm n).own = true →
     (∃ t, exec (.rdmResponse n b) s = .next t ∧ (t.rdm n).busy = none ∧ t.egress.resp = s.egress.resp) ∧
     ∃ t, exec (.rdmTimeout n) s = .next t ∧ (t.rdm n).busy = none ∧ t.egress.resp = s.egress.resp))

/-- R187, R189, R191, R204, R205: data packets and discovery leave for the universes of the output, and a source or a synchronization address
that fell silent is forgotten. -/
def Obligations.SacnStreams : Prop :=
  (∀ s : State, s.egress.sacnOn = false ∨ s.egressRuns = false ∨ field s.egress.outSec 64 2 ≤ s.egress.sacnNext →
    exec .sacnDataPacket s = .next s) ∧
  (∀ s : State, s.storesOk → s.egress.sacnOn = true → s.egressRuns = true → s.egress.sacnNext < field s.egress.outSec 64 2 →
    s.tick.nextTime < (s.reachCclk s.egress.sacnFrom).now + field s.egress.outSec 72 4 →
    ∃ t, exec .sacnDataPacket s = .next t ∧ t.reg Reg.skipped = min (s.reg Reg.skipped + 1) (two32 - 1) ∧
      RegsKept [Reg.skipped] s t ∧
      t = { s with egress := { s.egress with sacnNext := s.egress.sacnNext + 1 }, regs := t.regs
                   clock := clockAdvance (s.egress.sacnFrom - s.clock.cclk) s.clock }) ∧
  (∀ (uni : Nat) (s : State), s.storesOk → s.egress.sacnOn = true → s.egressRuns = true →
    s.egress.sacnNext < field s.egress.outSec 64 2 → uni = field (slice s.egress.outSec (96 + 16 * s.egress.sacnNext) 16) 0 2 →
    (s.reachCclk s.egress.sacnFrom).now + field s.egress.outSec 72 4 ≤ s.tick.nextTime →
    ∃ t, exec .sacnDataPacket s = .next t ∧ t.reg Reg.packetsSent = min (s.reg Reg.packetsSent + 1) (two32 - 1) ∧
      t.clock = clockAdvance (s.egress.sacnFrom - s.clock.cclk) s.clock ∧ t.egress.sacnNext = s.egress.sacnNext + 1 ∧
      (assocGet t.egress.sacnSeq uni).getD 0 = ((assocGet s.egress.sacnSeq uni).getD 0 + 1) % 256 ∧
      t.clock.cclk + field s.egress.outSec 76 4 ≤ t.egress.sacnFrom ∧
      t = { s with egress := t.egress, clock := t.clock, ports := t.ports, regs := t.regs, sent := t.sent, rope := t.rope }) ∧
  (∀ s : State, s.egressRuns = false ∨ s.egress.sacnOn = false ∨ bit (field s.sacnOut 69 1) 1 = false →
    exec .sacnDiscovery s = .next s) ∧
  (∀ s : State, s.egressRuns = true → s.egress.sacnOn = true → bit (field s.sacnOut 69 1) 1 = true → ∃ t, exec .sacnDiscovery s = .next t ∧
    t.clock = clockAdvance (s.egress.discAt - s.clock.cclk) s.clock ∧
    t.egress = { s.egress with discAt := t.clock.cclk + ms 10000 } ∧
    t = { s with egress := t.egress, clock := t.clock, ports := t.ports, regs := t.regs, sent := t.sent, rope := t.rope }) ∧
  (∀ (cid : Nat) (s : State), (∀ p ∈ s.sacn.unis, ∀ y ∈ p.2.srcs, y.cid ≠ cid) → exec (.sacnSourceTimeout cid) s = .next s) ∧
  (∀ (cid i : Nat) (u : UniSt) (y : SacnSrc) (s : State), s.storesOk → s.sacn.unis = [(i, u)] → u.srcs = [y] → y.cid = cid →
    ∃ t, exec (.sacnSourceTimeout cid) s = .next t ∧ t.clock = clockAdvance (y.last + ms 2500 - s.clock.cclk) s.clock ∧
      t.uni i = { u with srcs := [], zero := field (s.uniEntry i) 3 1 == 1 } ∧ (s.alive = true → bit (t.reg Reg.pending) 30 = true)) ∧
  (∀ (a : Nat) (s : State), (∀ y ∈ s.sacn.syncs, y.2.1 ≠ a) → exec (.sacnSyncTimeout a) s = .next s) ∧
  ∀ (a : Nat) (y : Nat × Nat × Nat) (s : State), (s.sacn.syncs.find? fun z => z.2.1 == a) = some y →
    exec (.sacnSyncTimeout a) s = .next
      { s with
        clock := clockAdvance (y.2.2 + ms 2500 - s.clock.cclk) s.clock
        sacn := { s.sacn with syncs := s.sacn.syncs.filter fun z => z != y, free := (y.1, a) :: s.sacn.free } }

/-- R258, R288, R289, R321: a port comes up, goes down, follows its PHY and HEAD_EN. R293, R300: gratuitous ARP and IGMP keep the unit's
address and its groups known. -/
def Obligations.PortsAndAddresses : Prop :=
  ((∀ (p : Nat) (s : State), s.ropeOn = false ∨ 3 ≤ p ∨ s.portHeld p = true ∨ s.reg (Reg.portLinkState p) = 3 ∨ s.portUp p = true →
     exec (.portUp p) s = .next s) ∧
   (∀ (p : Nat) (s : State), s.storesOk → s.ropeOn = true → p < 2 → s.portHeld p = false → s.reg (Reg.portLinkState p) = 0 →
     ∃ t, exec (.portUp p) s = .next t ∧ t.reg (Reg.portLinkState p) = 1 ∧
       t.reg (Reg.portLinkChanges p) = min (s.reg (Reg.portLinkChanges p) + 1) (two32 - 1) ∧ Counted (21 + p) s t ∧
       (s.linkState p = 0 → t.linkState p = if (s.link p).wasUp then 2 else 1) ∧
       t = { s with regs := t.regs, ev := t.ev, q := t.q, report := t.report, rope := t.rope }) ∧
   (∀ s : State, s.storesOk → s.ropeOn = true → s.portHeld 2 = false → s.reg (Reg.portLinkState 2) = 0 →
     ∃ t, exec (.portUp 2) s = .next t ∧ t.reg (Reg.portLinkState 2) = if s.reg (Reg.portSpeed 2) = 3 ∧ s.host.phySpeed ≠ 1000 then 4 else 1) ∧
   (∀ (p : Nat) (s : State), s.ropeOn = false ∨ 3 ≤ p ∨ s.portUp p = false → exec (.portDown p) s = .next s) ∧
   (∀ (p : Nat) (s : State), s.storesOk → s.ropeOn = true → p < 3 → s.portUp p = true → ∃ t, exec (.portDown p) s = .next t ∧
     t.reg (Reg.portLinkState p) = if s.portHeld p then 2 else 0) ∧
   (∀ (up : Bool) (n : Nat) (s : State), s.ropeOn = false ∨ s.reg (Reg.portSpeed 2) ≠ 3 ∨ s.portHeld 2 = true →
     exec (.mdioPoll up n) s = .next s) ∧
   (∀ (n : Nat) (s : State), s.storesOk → s.ropeOn = true → s.reg (Reg.portSpeed 2) = 3 → s.portHeld 2 = false → ∃ t,
     exec (.mdioPoll false n) s = .next t ∧ t.host = { s.host with phySpeed := n } ∧ t.portUp 2 = false ∧
     (s.portUp 2 = true ∨ s.reg (Reg.portLinkState 2) = 4 → t.reg (Reg.portLinkState 2) = 0)) ∧
   (∀ (n : Nat) (s : State), s.storesOk → s.ropeOn = true → s.reg (Reg.portSpeed 2) = 3 → s.portHeld 2 = false → ∃ t,
     exec (.mdioPoll true n) s = .next t ∧ t.host = { s.host with phySpeed := n } ∧
     (n ≠ 1000 → t.reg (Reg.portLinkState 2) = 4) ∧ (n = 1000 → s.reg (Reg.portLinkState 2) = 4 → t.reg (Reg.portLinkState 2) = 0) ∧
     (n = 1000 → s.reg (Reg.portLinkState 2) ≠ 4 → t.regs = s.regs)) ∧
   (∀ (l : Bool) (s : State), s.ropeOn = false → exec (.headEnChange l) s = .next { s with pins := { s.pins with headEn := l } }) ∧
   (∀ s : State, s.storesOk → s.ropeOn = true → ∃ t, exec (.headEnChange false) s = .next t ∧ t.pins = { s.pins with headEn := false } ∧
     t.reg (Reg.portLinkState 2) = 2) ∧
   (∀ s : State, s.storesOk → s.ropeOn = true → s.flag (Reg.portEnable 2) = true → s.reg (Reg.portLinkState 2) = 2 →
     ∃ t, exec (.headEnChange true) s = .next t ∧ t.pins = { s.pins with headEn := true } ∧ t.reg (Reg.portLinkState 2) = 0) ∧
   ∀ (p w : Nat) (s : State), s.storesOk → s.ropeOn = true → p < 2 → ∃ t, exec (.eyeScan p w) s = .next t ∧
     t.reg (if p = 0 then Reg.eyeWA else Reg.eyeWB) = (if s.portUp p then min 64 w else 0) ∧
     RegsKept [if p = 0 then Reg.eyeWA else Reg.eyeWB] s t ∧ t = { s with regs := t.regs }) ∧
  ((∀ s : State, s.ropeOn = true → 0 < s.host.arpLeft → ∃ t, exec .arpAnnounce s = .next t ∧
     t.clock = clockAdvance (s.host.arpNext - s.clock.cclk) s.clock ∧
     t.host = { s.host with arpLeft := s.host.arpLeft - 1, arpNext := t.clock.cclk + ms 100 } ∧
     t = State.sendHost { s with clock := t.clock, host := t.host } 0xFFFFFFFFFFFF 0x0806
       (beBytes 2 1 ++ beBytes 2 0x0800 ++ beBytes 1 6 ++ beBytes 1 4 ++ beBytes 2 1 ++ beBytes 6 s.hostMac ++ beBytes 4 s.ipAddr ++
         beBytes 6 0 ++ beBytes 4 s.ipAddr) ∧
     t = { s with clock := t.clock, host := t.host, ports := t.ports, regs := t.regs, rope := t.rope, sent := t.sent }) ∧
   (∀ s : State, s.ropeOn = false ∨ s.host.arpLeft = 0 → exec .arpAnnounce s = .next s) ∧
   (∀ (p v : Nat) (s : State), s.ropeOn = false → exec (.igmpQuery p v) s = .next s) ∧
   (∀ (p v : Nat) (s : State), s.storesOk → s.ropeOn = true → ∃ t, exec (.igmpQuery p v) s = .next t ∧
     t.reg Reg.igmpVersion = (if v = 2 then 2 else s.reg Reg.igmpVersion) ∧
     t.host = { s.host with repeats := 0, v2Till := if v = 2 then some (s.clock.cclk + ms 260000) else s.host.v2Till } ∧
     (∀ g, s.host.groups = [g] → t.reg Reg.igmpReports = min (s.reg Reg.igmpReports + 1) (two32 - 1)) ∧
     (∃ a : State, a = { s with regs := a.regs, host := t.host } ∧ RegsKept [Reg.igmpVersion] s a ∧
       t = a.sendReport false (s.host.groups.map fun g => (g.1, g.2, false))) ∧
     t = { s with regs := t.regs, host := t.host, ports := t.ports, rope := t.rope, sent := t.sent }) ∧
   (∀ s : State, s.storesOk → s.ropeOn = true → 0 < s.host.repeats → ∃ t, exec .igmpReportRepeat s = .next t ∧
     t.clock = clockAdvance (s.host.repeatAt - s.clock.cclk) s.clock ∧
     t.host = { s.host with repeats := s.host.repeats - 1, repeatAt := t.clock.cclk + ms 1000 } ∧
     (∀ (g : Nat × List Nat), s.host.changes = [(g.1, g.2, false)] → t.reg Reg.igmpReports = min (s.reg Reg.igmpReports + 1) (two32 - 1)) ∧
     t = State.sendReport { s with clock := t.clock, host := t.host } true s.host.changes ∧
     t = { s with clock := t.clock, host := t.host, ports := t.ports, regs := t.regs, rope := t.rope, sent := t.sent }) ∧
   (∀ s : State, s.ropeOn = false ∨ s.host.repeats = 0 → exec .igmpReportRepeat s = .next s) ∧
   (∀ (c : Nat) (s : State), s.storesOk → s.host.v2Till = some c → ∃ t, exec .igmpv2FallbackEnd s = .next t ∧
     t.reg Reg.igmpVersion = 3 ∧ RegsKept [Reg.igmpVersion] s t ∧
     t = { s with host := { s.host with v2Till := none }, regs := t.regs, clock := clockAdvance (c - s.clock.cclk) s.clock }) ∧
   ∀ s : State, s.host.v2Till = none → exec .igmpv2FallbackEnd s = .next s)

/-- R295, R301, R334: frames are checked and counted as they arrive, injection rules drop and hold them, and PAUSE holds a port until its time,
its limit or a quanta of zero ends it. -/
def Obligations.FramesAndPause : Prop :=
  (∀ (p : Nat) (f : Bytes) (a : Bool) (s : State), s.ropeOn = false ∨ 3 ≤ p ∨ s.portUp p = false → exec (.rxFrame p f a) s = .next s) ∧
  (∀ (p : Nat) (f : Bytes) (a : Bool) (s : State), s.storesOk → s.ropeOn = true → p < 3 → s.portUp p = true → s.inj.armed = false →
    (s.port p).held = [] → s.rxFlags p f a = 0 → ∃ t, exec (.rxFrame p f a) s = .next t ∧
      t.reg (Reg.cntRxFrames p) = min (s.reg (Reg.cntRxFrames p) + 1) (two32 - 1) ∧
      (field f 12 2 = 0x8808 → field f 14 2 ≠ 1 →
        t.reg (Reg.cntCtrlUnsupported p) = min (s.reg (Reg.cntCtrlUnsupported p) + 1) (two32 - 1) ∧
        RegsKept [Reg.cntRxFrames p, Reg.cntRxOctets p, Reg.cntCtrlUnsupported p] s t ∧ t = { s with ports := t.ports, regs := t.regs })) ∧
  (∀ (p : Nat) (f : Bytes) (a : Bool) (k : Nat) (s : State), s.storesOk → s.ropeOn = true → p < 3 → s.portUp p = true →
    (s.port p).held = [] → (s.ruleFor p f).1 = some k → s.reg (Reg.ruleAction k) = 1 → ∃ t, exec (.rxFrame p f a) s = .next t ∧
      t.reg (Reg.ruleActed k) = min (s.reg (Reg.ruleActed k) + 1) (two32 - 1) ∧ RegsKept [Reg.ruleActed k] s t ∧ t.sent = s.sent) ∧
  (∀ (p : Nat) (f : Bytes) (a : Bool) (k : Nat) (s : State), s.storesOk → s.ropeOn = true → p < s.ports.length → p < 3 →
    s.portUp p = true → (s.port p).held = [] → (s.ruleFor p f).1 = some k → s.reg (Reg.ruleAction k) = 4 →
    ∃ t, exec (.rxFrame p f a) s = .next t ∧ (t.port p).held =
      [{ bytes := f, align := a, left := s.reg (Reg.ruleReorderDepth k), till := s.clock.cclk + 100000 }] ∧
      RegsKept [Reg.ruleActed k] s t ∧ t.sent = s.sent) ∧
  (∀ (p : Nat) (f : Bytes) (a : Bool) (h : HeldFrame) (s : State), s.storesOk → s.ropeOn = true → p < s.ports.length → p < 3 →
    s.portUp p = true → s.inj.armed = false → (s.port p).held = [h] → 1 < h.left → ∃ t, exec (.rxFrame p f a) s = .next t ∧
      (t.port p).held = [{ h with left := h.left - 1 }]) ∧
  (∀ (p : Nat) (s : State), (s.port p).held = [] → exec (.reorderHoldExpire p) s = .next s) ∧
  (∀ (p : Nat) (h : HeldFrame) (r : List HeldFrame) (s : State), s.storesOk → (s.port p).held = h :: r → p < s.ports.length →
    s.rxFlags p h.bytes h.align = 0 → ∃ t, exec (.reorderHoldExpire p) s = .next t ∧ (t.port p).held = r ∧
      t.clock = clockAdvance (h.till - s.clock.cclk) s.clock ∧
      t.reg (Reg.cntRxFrames p) = min (s.reg (Reg.cntRxFrames p) + 1) (two32 - 1)) ∧
  (∀ (p q : Nat) (s : State), s.ropeOn = false ∨ 3 ≤ p ∨ s.portUp p = false → exec (.pause p q) s = .next s) ∧
  (∀ (p q : Nat) (s : State), s.storesOk → s.ropeOn = true → p < 3 → s.portUp p = true → s.flag (Reg.portPauseRxEn p) = true →
    (s.port p).disregard = none → p < s.ports.length → 0 < q → ∃ t, exec (.pause p q) s = .next t ∧
      t.port p = { s.port p with pauseEnd := some (s.clock.cclk + q * 512 * 1000 / s.lineRate p)
                                 holdFrom := if (s.port p).pauseEnd.isSome then (s.port p).holdFrom else s.clock.cclk } ∧
      t.reg (Reg.portPauseState p) = 1 ∧ t.reg (Reg.cntPauseRx p) = min (s.reg (Reg.cntPauseRx p) + 1) (two32 - 1) ∧
      RegsKept [Reg.portPauseState p, Reg.cntPauseRx p] s t ∧ t = { s with ports := t.ports, regs := t.regs }) ∧
  (∀ (p : Nat) (s : State), s.storesOk → s.ropeOn = true → p < 3 → s.portUp p = true → s.flag (Reg.portPauseRxEn p) = true →
    (s.port p).disregard = none → (s.port p).pauseEnd.isSome = true → ∃ t, exec (.pause p 0) s = .next t ∧
      (t.port p).pauseEnd = none ∧ (t.port p).waiting = [] ∧ t.reg (Reg.portPauseState p) = 0 ∧
      t = { s with ports := t.ports, regs := t.regs, ev := t.ev, q := t.q, report := t.report, ptp := t.ptp, sent := t.sent }) ∧
  (∀ (p e : Nat) (s : State), s.storesOk → (s.port p).pauseEnd = some e → e ≤ (s.port p).holdFrom + s.reg (Reg.portPwLimit p) →
    exec (.pauseWatchdog p) s = .next s ∧ ∃ t, exec (.pauseExpire p) s = .next t ∧ (t.port p).pauseEnd = none ∧
      (t.port p).waiting = [] ∧ t.reg (Reg.portPauseState p) = 0 ∧
      t = { s with ports := t.ports, regs := t.regs, ev := t.ev, q := t.q, report := t.report, ptp := t.ptp, sent := t.sent
                   clock := clockAdvance (e - s.clock.cclk) s.clock }) ∧
  (∀ (p e : Nat) (s : State), s.storesOk → s.alive = true → (s.port p).pauseEnd = some e →
    (s.port p).holdFrom + s.reg (Reg.portPwLimit p) < e → exec (.pauseExpire p) s = .next s ∧
    ∃ t, exec (.pauseWatchdog p) s = .next t ∧ (t.port p).pauseEnd = none ∧
      (t.port p).disregard = some (t.clock.cclk + ms 100) ∧ t.reg (Reg.portPauseState p) = 2 ∧
      t.reg (Reg.cntPauseWatchdog p) = min (s.reg (Reg.cntPauseWatchdog p) + 1) (two32 - 1) ∧ Counted 27 s t ∧
      t.clock = clockAdvance ((s.port p).holdFrom + s.reg (Reg.portPwLimit p) - s.clock.cclk) s.clock) ∧
  (∀ (p c : Nat) (s : State), s.storesOk → (s.port p).disregard = some c → ∃ t, exec (.pauseDisregardEnd p) s = .next t ∧
    t.reg (Reg.portPauseState p) = 0 ∧ RegsKept [Reg.portPauseState p] s t ∧ t.port p = { s.port p with disregard := none } ∧
    t = { s with ports := t.ports, regs := t.regs, clock := clockAdvance (c - s.clock.cclk) s.clock }) ∧
  (∀ (p : Nat) (s : State), (s.port p).disregard = none → exec (.pauseDisregardEnd p) s = .next s) ∧
  ∀ (p : Nat) (s : State), (s.port p).pauseEnd = none → exec (.pauseExpire p) s = .next s ∧ exec (.pauseWatchdog p) s = .next s

/-- R265, R267, R269, R270, R272, R274: PTP messages heard: one the unit ignores is counted, a Sync with its stamp gives a measurement, requests are
answered, responses give delays, an Announce enters the masters heard. -/
def Obligations.PtpMessagesHeard : Prop :=
  (∀ (p : Nat) (m : PtpMsg) (d : AnnData) (s : State), s.hears p = false → ∀ c ∈ [Instr.sync p m, .followUp p m, .delayReq p m,
    .delayResp p m, .announce p m d, .pdelayReq p m, .pdelayResp p m, .pdelayRespFollowUp p m], exec c s = .next s) ∧
  (∀ (p : Nat) (m : PtpMsg) (d : AnnData) (s : State), s.storesOk → s.hears p = true → s.ptpOk m = false →
    ∀ c ∈ [Instr.sync p m, .followUp p m, .delayReq p m, .delayResp p m, .announce p m d, .pdelayReq p m, .pdelayResp p m,
      .pdelayRespFollowUp p m], ∃ t, exec c s = .next t ∧ t = { s with regs := t.regs } ∧
        t.reg Reg.ptpIgnored = min (s.reg Reg.ptpIgnored + 1) (two32 - 1) ∧ RegsKept [Reg.ptpIgnored] s t) ∧
  (∀ (p : Nat) (m : PtpMsg) (x : Master) (s : State), s.hears p = true → s.ptpOk m = true →
    s.listens p = false ∨ s.master = none ∨ s.master = some x ∧ x.clock ≠ m.srcClock ∨ s.ptp.lastSeq = some (m.srcClock, m.seq) →
    exec (.sync p m) s = .next s) ∧
  (∀ (p ns : Nat) (m : PtpMsg) (x : Master) (s : State), s.storesOk → s.hears p = true → s.ptpOk m = true → s.listens p = true →
    s.master = some x → x.clock = m.srcClock → s.ptp.lastSeq ≠ some (m.srcClock, m.seq) → (s.takeStamp p 1 0 m.seq).1 = some ns →
    (m.twoStep = true → exec (.sync p m) s = .next { (s.takeStamp p 1 0 m.seq).2 with
      ptp := { s.ptp with
        lastSync := some s.clock.cclk, logSync := m.logInt, lastSeq := some (m.srcClock, m.seq)
        syncWait := some { port := p, clock := m.srcClock, srcPort := m.srcPort, seq := m.seq, rx := some (ns * 1000), t1 := none
                           corr := m.corr } } }) ∧
    (m.twoStep = false → ∀ d, s.pathDelay p = some d → ∃ t, exec (.sync p m) s = .next t ∧
      t.reg Reg.offsetPs = ofSigned 8 ((ns * 1000 : Nat) - (m.stamp : Int) - corrPs m.corr - d) ∧
      t.reg Reg.parentPort = m.srcClock * 65536 + m.srcPort ∧ t.reg Reg.stepsRemoved = x.data.steps + 1 ∧
      (s.endToEnd p = false → t.reg Reg.meanPathPs = ofSigned 8 d))) ∧
  (∀ (p : Nat) (m : PtpMsg) (x : Master) (s : State), s.storesOk → s.hears p = true → s.ptpOk m = true → s.listens p = true →
    s.master = some x → x.clock = m.srcClock → s.ptp.lastSeq ≠ some (m.srcClock, m.seq) → (s.takeStamp p 1 0 m.seq).1 = none →
    (s.stampLost p 1 0 m.seq = true → ∃ t, exec (.sync p m) s = .next t ∧
      t.reg Reg.discards = min (s.reg Reg.discards + 1) (two32 - 1) ∧ t.ptp.winN = 0 ∧
      (s.ptp.nDiscard < 7 → t.ptp.nDiscard = s.ptp.nDiscard + 1) ∧ (s.ptp.nDiscard = 7 → s.servo = 2 → t.servo = 3)) ∧
    (s.stampLost p 1 0 m.seq = false → exec (.sync p m) s = .next { s with
      ptp := { s.ptp with
        lastSync := some s.clock.cclk, logSync := m.logInt, lastSeq := some (m.srcClock, m.seq)
        syncWait := some { port := p, clock := m.srcClock, srcPort := m.srcPort, seq := m.seq, rx := none
                           t1 := if m.twoStep then none else some m.stamp, corr := m.corr } } })) ∧
  (∀ (p : Nat) (m : PtpMsg) (w : SyncWait) (s : State), s.storesOk → s.hears p = true → s.ptpOk m = true →
    s.ptp.syncWait = some w → w.port = p → w.clock = m.srcClock → w.seq = m.seq → w.t1 = none →
    (∀ rx d, w.rx = some rx → s.pathDelay p = some d → ∃ t, exec (.followUp p m) s = .next t ∧ t.ptp.syncWait = none ∧
      t.reg Reg.offsetPs = ofSigned 8 ((rx : Int) - (m.stamp : Int) - corrPs (w.corr + m.corr) - d)) ∧
    (w.rx = none → exec (.followUp p m) s = .next { s with
      ptp := { s.ptp with syncWait := some { w with t1 := some m.stamp, corr := w.corr + m.corr } } })) ∧
  (∀ (p : Nat) (m : PtpMsg) (s : State), s.hears p = true → s.ptpOk m = true → s.ptp.syncWait = none →
    exec (.followUp p m) s = .next s) ∧
  (∀ (p : Nat) (m : PtpMsg) (s : State), s.storesOk → s.hears p = true → s.ptpOk m = true →
    (s.endToEnd p = false → ∃ t, exec (.delayReq p m) s = .next t ∧ t = { s with regs := t.regs } ∧
      t.reg Reg.ptpIgnored = min (s.reg Reg.ptpIgnored + 1) (two32 - 1) ∧ RegsKept [Reg.ptpIgnored] s t) ∧
    (s.endToEnd p = true → ∃ t, exec (.pdelayReq p m) s = .next t ∧ t = { s with regs := t.regs } ∧
      t.reg Reg.ptpIgnored = min (s.reg Reg.ptpIgnored + 1) (two32 - 1) ∧ RegsKept [Reg.ptpIgnored] s t) ∧
    (s.endToEnd p = true → s.isMasterOn p = false → exec (.delayReq p m) s = .next s) ∧
    (s.endToEnd p = true → s.isMasterOn p = true → s.portSends p → ∃ t y, exec (.delayReq p m) s = .next t ∧
      y = { s.ptpOut 9 p m.seq (toSigned 1 (s.reg Reg.logDelayReq)) with
        corr := m.corr, reqClock := m.srcClock, reqPort := m.srcPort, stamp := s.rxPs p, unicast := m.unicast } ∧
      t.sent = .ptp p y (s.ptpIp p (if m.unicast then m.addr else 0xE0000181) y none) :: s.sent ∧
      t = { s with regs := t.regs, sent := t.sent })) ∧
  (∀ (p t2 t3 : Nat) (t1 : Int) (m : PtpMsg) (s : State), s.storesOk → s.hears p = true → s.ptpOk m = true → m.reqClock = s.part.eui64 →
    m.reqPort = p + 1 → m.seq = s.ptp.delaySeq → s.ptp.delayT3 = some t3 → s.ptp.lastSyncPair = some (t1, t2) →
    ∃ t, exec (.delayResp p m) s = .next t ∧
      t.reg Reg.meanPathPs = ofSigned 8 ((((t2 : Int) - t1) + ((m.stamp : Int) - corrPs m.corr - t3)) / 2) ∧
      RegsKept [Reg.meanPathPs] s t ∧
      t = { s with ptp := { s.ptp with delayAt := some s.clock.cclk, delayT3 := none }, regs := t.regs }) ∧
  (∀ (p : Nat) (m : PtpMsg) (s : State), s.hears p = true → s.ptpOk m = true →
    m.reqClock ≠ s.part.eui64 ∨ m.reqPort ≠ p + 1 ∨ m.seq ≠ s.ptp.delaySeq → exec (.delayResp p m) s = .next s) ∧
  (∀ (p : Nat) (m : PtpMsg) (d : AnnData) (s : State), s.storesOk → s.hears p = true → s.ptpOk m = true → d.gm ≠ s.part.eui64 →
    m.srcClock ≠ s.part.eui64 → s.listens p = true → ∃ t, exec (.announce p m d) s = .next t ∧
      t.ptp.masters = { data := d, clock := m.srcClock, rxPort := p, logInt := m.logInt, scale := m.ptpScale, flags := m.flags
                        last := s.clock.cclk, addr := m.addr } :: s.ptp.masters.filter (fun y => y.clock != m.srcClock) ∧
      (s.ptp.masters = [] → s.flag Reg.gmAllowed = false ∨ s.ownData.better d = false →
        t.mode = { s.mode with ptpWaitAt := none } ∧ (s.servo ≠ 5 → t.reg Reg.gmIdentity = d.gm)) ∧
      (s.ptp.masters = [] → s.flag Reg.gmAllowed = true → s.ownData.better d = true → t.mode = s.mode ∧ t.regs = s.regs) ∧
      RegsKept (Reg.gmIdentity :: Reg.stepPending :: evKeys 15) s t ∧
      t = { s with ptp := t.ptp, mode := t.mode, tick := t.tick, regs := t.regs, ev := t.ev, q := t.q, report := t.report }) ∧
  (∀ (p : Nat) (m : PtpMsg) (d : AnnData) (s : State), s.hears p = true → s.ptpOk m = true →
    d.gm = s.part.eui64 ∨ m.srcClock = s.part.eui64 ∨ s.listens p = false → exec (.announce p m d) s = .next s) ∧
  (∀ (p : Nat) (m : PtpMsg) (s : State), s.hears p = true → s.ptpOk m = true → s.endToEnd p = false → s.portSends p →
    ∃ t y, exec (.pdelayReq p m) s = .next t ∧
      y = { s.ptpOut 3 p m.seq 0x7F with
        corr := m.corr + psToCorr (s.txPs p - s.rxPs p), reqClock := m.srcClock, reqPort := m.srcPort, stamp := 0 } ∧
      t.sent = .ptp p y (s.ptpIp p 0xE000006B y none) :: s.sent ∧ t.ptp = s.ptp ∧ t.mode = s.mode ∧ t.clock = s.clock) ∧
  (∀ (p : Nat) (m : PtpMsg) (s : State), s.storesOk → s.hears p = true → s.ptpOk m = true → p < s.ptp.pdelay.length →
    (s.ptp.pdelay.getD p {}).waiting = true → m.seq = (s.ptp.pdelay.getD p {}).seq → m.reqClock = s.part.eui64 →
    m.reqPort = p + 1 → ∃ t, exec (.pdelayResp p m) s = .next t ∧ (t.ptp.pdelay.getD p {}).waiting = false ∧
      (m.twoStep = true → (t.ptp.pdelay.getD p {}).two = some (s.rxPs p, m.stamp, m.corr) ∧ t.regs = s.regs) ∧
      (m.twoStep = false → t.reg (Reg.linkDelay p) = (clampInt 0 (two32 - 1 : Nat)
        (((s.rxPs p : Int) - (s.ptp.pdelay.getD p {}).t1 - corrPs m.corr) / 2)).toNat ∧ RegsKept [Reg.linkDelay p] s t) ∧
      t = { s with ptp := t.ptp, regs := t.regs }) ∧
  ∀ (p t4 t2 : Nat) (c : Int) (m : PtpMsg) (s : State), s.storesOk → s.hears p = true → s.ptpOk m = true → p < s.ptp.pdelay.length →
    (s.ptp.pdelay.getD p {}).two = some (t4, t2, c) → m.seq = (s.ptp.pdelay.getD p {}).seq →
    ∃ t, exec (.pdelayRespFollowUp p m) s = .next t ∧ (t.ptp.pdelay.getD p {}).two = none ∧
      t.reg (Reg.linkDelay p) = (clampInt 0 (two32 - 1 : Nat)
        (((t4 : Int) - (s.ptp.pdelay.getD p {}).t1 - ((m.stamp : Int) - t2) - corrPs c - corrPs m.corr) / 2)).toNat ∧
      RegsKept [Reg.linkDelay p] s t ∧ t = { s with ptp := t.ptp, regs := t.regs }

/-- R265, R267, R269, R270: what a port that is master, or that measures its link, sends. -/
def Obligations.PtpMessagesSent : Prop :=
  (∀ (p n : Nat) (s : State), s.hears p = true → s.isMasterOn p = true → n = (s.ptp.syncSeq.getD (ptpSlot p) 0 + 1) % 65536 →
    ∃ t, exec (.syncSend p) s = .next t ∧ t.clock = clockAdvance (s.ptp.syncNext.getD (ptpSlot p) 0 - s.clock.cclk) s.clock ∧
      t.ptp = { s.ptp with
        syncSeq := s.ptp.syncSeq.set (ptpSlot p) n
        syncNext := s.ptp.syncNext.set (ptpSlot p) (t.clock.cclk + logCclk (toSigned 1 (s.reg Reg.logSync))) } ∧
      (∀ q y, p = 2 ∧ q = 2 ∨ p < 2 ∧ s.ropePorts 1 false = [q] → s.portSends q →
        y = { s.ptpOut 0 q n (toSigned 1 (s.reg Reg.logSync)) with stamp := t.txPs q } →
        t.sent = .ptp q y (s.ptpIp q 0xE0000181 y none) :: s.sent) ∧
      t = { s with ptp := t.ptp, clock := t.clock, ports := t.ports, regs := t.regs, ev := t.ev, q := t.q, report := t.report
                   rope := t.rope, sent := t.sent }) ∧
  (∀ (p : Nat) (s : State), s.hears p = false ∨ s.isMasterOn p = false →
    exec (.syncSend p) s = .next s ∧ exec (.announceSend p) s = .next s) ∧
  (∀ (p n : Nat) (s : State), s.hears p = true → s.isMasterOn p = true → n = (s.ptp.annSeq.getD (ptpSlot p) 0 + 1) % 65536 →
    ∃ t, exec (.announceSend p) s = .next t ∧ t.clock = clockAdvance (s.ptp.annNext.getD (ptpSlot p) 0 - s.clock.cclk) s.clock ∧
      t.ptp = { s.ptp with
        annSeq := s.ptp.annSeq.set (ptpSlot p) n
        annNext := s.ptp.annNext.set (ptpSlot p) (t.clock.cclk + logCclk (toSigned 1 (s.reg Reg.logAnnounce))) } ∧
      (∀ q d, p = 2 ∧ q = 2 ∨ p < 2 ∧ s.ropePorts 1 false = [q] → s.txDown q = false → s.txPaused q = false →
        128 + d.path.length ≤ s.reg (Reg.portMaxFrame q) → (s.master = none → d = s.ownData) →
        (∀ x, s.master = some x → d = { x.data with steps := x.data.steps + 1 }) →
        ∃ m b, t.sent = .announce q m d b :: s.sent ∧ m.kind = 11 ∧ m.seq = n ∧ m.srcClock = s.part.eui64 ∧ m.srcPort = q + 1) ∧
      t = { s with ptp := t.ptp, clock := t.clock, ports := t.ports, regs := t.regs, rope := t.rope, sent := t.sent }) ∧
  (∀ (n : Nat) (x : Master) (s : State), s.hears 2 = true → s.endToEnd 2 = true → s.reg Reg.headRole = 3 → s.master = some x →
    x.rxPort = 2 → s.portSends 2 → n = (s.ptp.delaySeq + 1) % 65536 → ∃ t y, exec .delayReqSend s = .next t ∧
      t.clock = clockAdvance (s.ptp.delayNext - s.clock.cclk) s.clock ∧
      t.ptp = { s.ptp with
        delaySeq := n, delayT3 := some (t.txPs 2)
        delayNext := t.clock.cclk + logCclk (toSigned 1 (s.reg Reg.logDelayReq)) } ∧
      y = { s.ptpOut 1 2 n 0x7F with stamp := t.txPs 2, unicast := s.reg Reg.trailMode == 1 } ∧
      t.sent = .ptp 2 y (s.ptpIp 2 (if s.reg Reg.trailMode = 1 then x.addr else 0xE0000181) y none) :: s.sent ∧
      t = { s with ptp := t.ptp, clock := t.clock, ports := t.ports, regs := t.regs, ev := t.ev, q := t.q, report := t.report
                   sent := t.sent }) ∧
  (∀ s : State, s.hears 2 = false ∨ s.endToEnd 2 = false ∨ s.reg Reg.headRole ≠ 3 ∨ (s.master.any fun x => x.rxPort == 2) = false →
    exec .delayReqSend s = .next s) ∧
  (∀ (p n : Nat) (s : State), s.hears p = true → s.endToEnd p = false → s.portSends p → p < s.ptp.pdelay.length →
    n = ((s.ptp.pdelay.getD p {}).seq + 1) % 65536 → ∃ t y, exec (.pdelayReqSend p) s = .next t ∧
      t.clock = clockAdvance ((s.ptp.pdelay.getD p {}).next - s.clock.cclk) s.clock ∧
      t.ptp = { s.ptp with
        pdelay := s.ptp.pdelay.set p { seq := n, t1 := t.txPs p, waiting := true, two := none
                                       next := t.clock.cclk + logCclk (toSigned 1 (s.reg Reg.logPdelay)) } } ∧
      y = { s.ptpOut 2 p n (toSigned 1 (s.reg Reg.logPdelay)) with stamp := t.txPs p } ∧
      t.sent = .ptp p y (s.ptpIp p 0xE000006B y none) :: s.sent ∧
      t = { s with ptp := t.ptp, clock := t.clock, ports := t.ports, regs := t.regs, ev := t.ev, q := t.q, report := t.report
                   sent := t.sent }) ∧
  ∀ (p : Nat) (s : State), s.hears p = false ∨ s.endToEnd p = true → exec (.pdelayReqSend p) s = .next s

/-- R53, R272, R274, R275, R276, R278 and Table 9.6: the servo's states: what a measurement does in each, what degrades the reference, how the clock is set,
stepped and accepted. -/
def Obligations.ServoStates : Prop :=
  (∀ (z : Int) (s : State), s.storesOk → s.servo = 0 → z.natAbs ≤ s.reg Reg.stepThreshold * 1000 → s.ptp.meas.length < 3 →
    (s.measure z).servo = 0 ∧ (s.measure z).ptp.meas = z :: s.ptp.meas ∧ (s.measure z).reg Reg.offsetPs = ofSigned 8 z ∧
    (s.measure z).tick = s.tick) ∧
  (∀ (z : Int) (s : State), s.storesOk → s.servo = 0 → s.ptp.meas.length = 3 → spread (z :: s.ptp.meas) ≤ 1000000 →
    (s.measure z).servo = 0 ∧ (s.measure z).tick = { s.tick with stepDue := some (stepOf (z :: s.ptp.meas), true) }) ∧
  (∀ (z : Int) (s : State), s.storesOk → s.servo = 1 → z.natAbs ≤ s.reg Reg.lockNs * 1000 →
    z.natAbs ≤ s.reg Reg.stepThreshold * 1000 → s.ptp.nLock = 15 → (s.measure z).servo = 2 ∧
      (s.alive = true → bit ((s.measure z).reg Reg.pending) 12 = true) ∧ bit (s.measure z).belay.active 0x15 = false) ∧
  (∀ (z : Int) (s : State), s.storesOk → s.servo = 1 ∨ s.servo = 2 ∨ s.servo = 3 → s.reg Reg.stepThreshold * 1000 < z.natAbs →
    s.ptp.nAbove = 3 → (s.measure z).servo = 4 ∧ (s.alive = true → bit ((s.measure z).reg Reg.pending) 14 = true) ∧
      (s.measure z).reg Reg.stepPending = ofSigned 8 (stepOf (z :: s.ptp.meas))) ∧
  (∀ (z : Int) (s : State), s.storesOk → s.servo = 4 → z.natAbs ≤ s.reg Reg.stepThreshold * 1000 → s.ptp.nWithin = 3 →
    (s.measure z).servo = 1 ∧ (s.measure z).reg Reg.stepPending = 0) ∧
  (∀ s : State, s.ptp.lastSync = none → exec .syncTimeout s = .next s) ∧
  (∀ (c : Nat) (s : State), s.storesOk → s.alive = true → s.ptp.lastSync = some c → s.servo = 1 ∨ s.servo = 2 →
    ∃ t, exec .syncTimeout s = .next t ∧ t.servo = 3 ∧ bit t.belay.active 0x15 = true ∧ bit (t.reg Reg.pending) 13 = true ∧
      t.ptp.lastSync = none ∧ t.clock.cclk = s.clock.cclk + (c + 8 * logCclk s.ptp.logSync - s.clock.cclk)) ∧
  (∀ s : State, s.best = none → exec .announceTimeout s = .next s) ∧
  (∀ (x : Master) (s : State), s.storesOk → s.alive = true → s.ptp.masters = [x] → s.servo = 2 →
    s.flag Reg.gmAllowed = false ∨ s.ownData.better x.data = false →
    ∃ t, exec .announceTimeout s = .next t ∧ t.ptp.masters = [] ∧ t.servo = 3 ∧ t.mode.ptpWaitAt = some t.clock.cclk) ∧
  (∀ s : State, s.mode.ptpWaitAt = none → exec .ptpWaitExpire s = .next s) ∧
  (∀ (c : Nat) (s : State), s.storesOk → s.mode.ptpWaitAt = some c → s.mode.mode = .staging → s.ptp.masters = [] → s.servo = 0 →
    s.flag Reg.gmAllowed = true → ∃ t, exec .ptpWaitExpire s = .next t ∧ t.servo = 5 ∧ t.reg Reg.gmIdentity = s.part.eui64 ∧
      t.reg Reg.parentPort = 0 ∧ t.reg Reg.stepsRemoved = 0 ∧ t.reg Reg.meanPathPs = 0 ∧ t.mode = { s.mode with ptpWaitAt := none } ∧
      t.clock = clockAdvance (c + ms (s.reg Reg.ptpWait) - s.clock.cclk) s.clock) ∧
  (∀ (d : Int) (s : State), s.storesOk → s.tick.stepDue = some (d, true) → s.servo = 0 → s.atBoundary = true →
    ∃ t, exec .initialSet s = .next t ∧ t.servo = 1 ∧ t.reg Reg.clockState = 1 ∧ t.reg Reg.lastStep = ofSigned 8 (stepOf s.ptp.meas) ∧
      t.clock.ns = (((s.clock.ns : Int) + stepOf s.ptp.meas) % (clockWrap : Int)).toNat ∧ t.tick.stepDue = none ∧ t.tick.realign = true ∧
      t.reg Reg.steps = min (s.reg Reg.steps + 1) (two32 - 1) ∧ t.ptp.meas = []) ∧
  (∀ (d : Int) (s : State), s.storesOk → s.tick.stepDue = some (d, false) → s.servo = 4 → s.atBoundary = true → ∃ t, exec .stepApply s = .next t ∧
    t.servo = 1 ∧ t.reg Reg.lastStep = ofSigned 8 (stepOf s.ptp.meas) ∧ t.reg Reg.stepPending = 0 ∧
    t.clock.ns = (((s.clock.ns : Int) + stepOf s.ptp.meas) % (clockWrap : Int)).toNat ∧ t.tick.stepDue = none ∧
    t.reg Reg.steps = min (s.reg Reg.steps + 1) (two32 - 1)) ∧
  (∀ s : State, s.tick.stepDue = none → exec .initialSet s = .next s ∧ exec .stepApply s = .next s) ∧
  (∀ s : State, s.servo = 4 → s.mode.mode = .staging ∧ bit (s.reg Reg.autoAccept) 0 = true ∨
      s.mode.mode = .holdover ∧ bit (s.reg Reg.autoAccept) 1 = true → 8 ≤ s.ptp.winN →
    exec .autoAccept s = .next { s with
      tick := { s.tick with stepDue := some (stepOf s.ptp.meas, false) }
      clock := clockAdvance (s.ptp.winFrom + ms (s.reg Reg.acceptWindow) - s.clock.cclk) s.clock }) ∧
  ∀ s : State, s.servo ≠ 4 ∨ s.ptp.winN < 8 → exec .autoAccept s = .next s

/-- R281, R283, R284, R285: pulse outputs assert at their instants and deassert after their width; edges are captured with their time. -/
def Obligations.TimedInputsAndOutputs : Prop :=
  (∀ (k : Nat) (s : State), s.alive = false ∨ 4 ≤ k → exec (.pulseEdge k) s = .next s) ∧
  (∀ (k : Nat) (s : State), s.alive = true → k < 4 → (s.pulse k).on = true → exec (.pulseEdge k) s = .next { s with
    clock := clockAdvance ((s.pulse k).offAt - s.clock.cclk) s.clock
    tio := { s.tio with pulses := s.tio.pulses.set k { s.pulse k with on := false } } }) ∧
  (∀ (k : Nat) (s : State), s.storesOk → s.alive = true → k < 4 → k < s.tio.pulses.length → (s.pulse k).on = false →
    s.reg (Reg.pulseMode k) = 1 → s.flag Reg.clockState = true → (s.pulse k).fired = false → (s.pulse k).missed = false →
    ∃ t, exec (.pulseEdge k) s = .next t ∧ t.clock = clockAdvance (cclkFor s.clock (s.pulseFrom k - s.clock.ns)) s.clock ∧
      t.pulse k = { s.pulse k with on := true, fired := true, late := false, pol := s.flag (Reg.pulsePolarity k), offAt := t.clock.cclk + s.reg (Reg.pulseWidth k) } ∧
      t.reg (Reg.pulseFired k) = min (s.reg (Reg.pulseFired k) + 1) (two32 - 1) ∧
      t.reg (Reg.pulseState k) = (if (s.pulse k).late then 4 else 3) ∧ Counted 18 s t ∧
      RegsKept ([Reg.pulseFired k, Reg.pulseState k] ++ evKeys 18) s t ∧
      t = { s with clock := t.clock, tio := t.tio, regs := t.regs, ev := t.ev, q := t.q, report := t.report }) ∧
  (∀ (k n : Nat) (s : State), s.storesOk → s.alive = true → k < 4 → k < s.tio.pulses.length → (s.pulse k).on = false →
    s.reg (Reg.pulseMode k) = 2 → s.flag Reg.clockState = true → (s.pulse k).next = some n → ∃ t, exec (.pulseEdge k) s = .next t ∧
      t.clock = clockAdvance (cclkFor s.clock (n - s.clock.ns)) s.clock ∧
      t.pulse k = { s.pulse k with
        on := true, pol := s.flag (Reg.pulsePolarity k), next := some (n + s.reg (Reg.pulsePeriod k)), offAt := t.clock.cclk + s.reg (Reg.pulseWidth k) } ∧
      t.reg (Reg.pulseState k) = 2 ∧ RegsKept [Reg.pulseFired k, Reg.pulseState k] s t) ∧
  (∀ (k : Nat) (s : State), (s.pulse k).on = false → s.reg (Reg.pulseMode k) = 0 ∨
    s.flag Reg.clockState = false ∧ s.reg (Reg.pulseMode k) < 3 → exec (.pulseEdge k) s = .next s) ∧
  (∀ (k : Nat) (r : Bool) (s : State), 4 ≤ k → exec (.edgeCaptured k r) s = .next
    { s with pins := { s.pins with eci := s.pins.eci.set k r } }) ∧
  (∀ (k : Nat) (r : Bool) (s : State), k < 4 → s.alive = false ∨ edgeSelected (s.reg (Reg.eciEdgeSel k)) r = false →
    exec (.edgeCaptured k r) s = .next
      { s with pins := { s.pins with eci := s.pins.eci.set k r }
               tio := { s.tio with ecis := s.tio.ecis.set k { s.eci k with edge := some s.clock.cclk } } }) ∧
  (∀ (k c : Nat) (r : Bool) (s : State), s.storesOk → s.alive = true → k < 4 → edgeSelected (s.reg (Reg.eciEdgeSel k)) r = true →
    ((s.eci k).edge.all fun x => decide (x + 10 ≤ s.clock.cclk)) = true → (s.eci k).last = some c → s.clock.cclk < c + 100 →
    ∃ t, exec (.edgeCaptured k r) s = .next t ∧ t.reg (Reg.eciLost k) = min (s.reg (Reg.eciLost k) + 1) (two32 - 1) ∧
      RegsKept [Reg.eciLost k] s t ∧
      t = { s with pins := { s.pins with eci := s.pins.eci.set k r }, regs := t.regs
                   tio := { s.tio with ecis := s.tio.ecis.set k { s.eci k with edge := some s.clock.cclk } } }) ∧
  ∀ (k : Nat) (r : Bool) (s : State), s.storesOk → s.alive = true → k < 4 → k < s.tio.ecis.length →
    edgeSelected (s.reg (Reg.eciEdgeSel k)) r = true → ((s.eci k).edge.all fun x => decide (x + 10 ≤ s.clock.cclk)) = true →
    (s.eci k).last = none → (s.eci k).queue.length < 64 → 0 < s.poolFree → ∃ t, exec (.edgeCaptured k r) s = .next t ∧
      (t.eci k).queue = (s.eci k).queue ++
        [{ time := s.now, edge := if r then 1 else 2, flags := s.captureFlags, tick := s.tickIdx % two32 }] ∧
      (t.eci k).last = some s.clock.cclk ∧ Counted 19 s t ∧
      t = { s with pins := { s.pins with eci := s.pins.eci.set k r }, tio := t.tio, regs := t.regs, ev := t.ev, q := t.q, report := t.report }

/-- R313, R317, R318, R319, R335: heartbeats bring a rope link up and their absence breaks it, a link that proves itself heals, notices spread breaks
and heals; a source's duplicate window and the injection rules end with their time. -/
def Obligations.RopeLinks : Prop :=
  (∀ (p : Nat) (s : State), s.ropeOn = true → p < 2 → s.portUp p = true → s.txPaused p = false →
    ∃ t, exec (.heartbeatSend p) s = .next t ∧
    t.sent = .rope p (s.ropeTag p 2 0 0 0 0 0) (ropeMsg 0x01 (beBytes 6 s.mac ++ beBytes 1 p ++ beBytes 1 (s.reg Reg.addrState) ++
      beBytes 1 (s.reg Reg.segment) ++ beBytes 1 (s.reg Reg.position) ++ beBytes 4 (s.reg Reg.headTerm) ++ beBytes 2 0)) :: s.sent ∧
    t = { s with regs := t.regs, sent := t.sent }) ∧
  (∀ (p : Nat) (s : State), s.ropeOn = false ∨ 2 ≤ p ∨ s.portUp p = false → exec (.heartbeatSend p) s = .next s) ∧
  (∀ (p mac hp a seg pos term : Nat) (s : State), s.ropeOn = false ∨ 2 ≤ p ∨ s.portUp p = false →
    exec (.heartbeat p mac hp a seg pos term) s = .next s) ∧
  (∀ (p mac hp a seg pos term : Nat) (s : State), s.storesOk → s.ropeOn = true → p < 2 → p < s.rope.links.length → s.portUp p = true →
    (s.hasPos = true → 2 ≤ a → seg = s.reg Reg.segment) → ∃ t, exec (.heartbeat p mac hp a seg pos term) s = .next t ∧
      (t.link p).lastHb = s.clock.cclk ∧ (t.link p).neighbour = mac ∧ t.rope.termHeard = max s.rope.termHeard term ∧
      (s.linkState p = 1 → s.clock.cclk ≤ (s.link p).lastHb + 600000 → 2 ≤ (s.link p).count → t.linkState p = 3 ∧ (t.link p).wasUp = true) ∧
      (s.linkState p = 1 → s.clock.cclk ≤ (s.link p).lastHb + 600000 → (s.link p).count < 2 →
        t.linkState p = 1 ∧ (t.link p).count = (s.link p).count + 1) ∧
      (s.linkState p = 1 → (s.link p).lastHb + 600000 < s.clock.cclk → t.linkState p = 1 ∧ (t.link p).count = 1) ∧
      (s.linkState p = 4 → t.linkState p = 2 ∧ (t.link p).provingFrom = s.clock.cclk) ∧
      (s.linkState p = 0 ∨ s.linkState p = 2 ∨ s.linkState p = 3 → t.regs = s.regs)) ∧
  (∀ (p mac hp a seg pos term : Nat) (s : State), s.storesOk → s.ropeOn = true → p < 2 → s.portUp p = true → s.hasPos = true → 2 ≤ a →
    seg ≠ s.reg Reg.segment → ∃ t, exec (.heartbeat p mac hp a seg pos term) s = .next t ∧
      t.reg Reg.hbInvalid = min (s.reg Reg.hbInvalid + 1) (two32 - 1) ∧ RegsKept [Reg.hbInvalid] s t ∧
      t = { s with regs := t.regs, rope := { s.rope with links := s.rope.links.set p { s.link p with count := 0 } } }) ∧
  (∀ (p : Nat) (s : State), s.storesOk → s.ropeOn = true → p < 2 → s.linkState p = 3 → ∃ t, exec (.heartbeatLoss p) s = .next t ∧
    t.linkState p = 4 ∧ t.reg Reg.breaks_3101 = min (s.reg Reg.breaks_3101 + 1) (two32 - 1) ∧ bit (t.reg Reg.pending) 23 = true ∧
    t.rope.breaks = s.rope.breaks ++ [{ mac := s.mac, port := p, lost := (s.link p).neighbour }] ∧
    t.clock = clockAdvance ((s.link p).lastHb + 600000 - s.clock.cclk) s.clock) ∧
  (∀ (p : Nat) (s : State), p < s.rope.links.length → s.ropeOn = true → p < 2 → s.linkState p = 1 ∨ s.linkState p = 2 →
    ∃ t, exec (.heartbeatLoss p) s = .next t ∧
      t.link p = { s.link p with count := 0, provingFrom := t.clock.cclk } ∧ t = { s with rope := t.rope, clock := t.clock }) ∧
  (∀ (p : Nat) (s : State), s.ropeOn = false ∨ 2 ≤ p ∨ s.linkState p = 0 ∨ s.linkState p = 4 → exec (.heartbeatLoss p) s = .next s) ∧
  (∀ (p : Nat) (s : State), s.ropeOn = false ∨ 2 ≤ p ∨ s.linkState p ≠ 2 → exec (.provingDone p) s = .next s) ∧
  (∀ (p : Nat) (s : State), s.storesOk → s.ropeOn = true → p < 2 → s.linkState p = 2 →
    max s.clock.cclk ((s.link p).provingFrom + ms 100) ≤ (s.link p).lastHb + 600000 → ∃ t, exec (.provingDone p) s = .next t ∧
      t.linkState p = 3 ∧ t.reg Reg.heals = min (s.reg Reg.heals + 1) (two32 - 1) ∧ Counted 24 s t ∧
      t.rope.breaks = s.rope.breaks.filter (fun b => !(b.same { mac := s.mac, port := p, lost := (s.link p).neighbour })) ∧
      t.clock = clockAdvance ((s.link p).provingFrom + ms 100 - s.clock.cclk) s.clock ∧ t.mode = s.mode) ∧
  (∀ (mac p c lost : Nat) (s : State), s.ropeOn = false ∨ (s.rope.breaks.any fun x => x.same { mac := mac, port := p, lost := lost }) = true →
    exec (.breakNotice mac p c lost) s = .next s) ∧
  (∀ (mac p c lost : Nat) (s : State), s.storesOk → s.ropeOn = true →
    (s.rope.breaks.any fun x => x.same { mac := mac, port := p, lost := lost }) = false →
    ∃ t, exec (.breakNotice mac p c lost) s = .next t ∧ t.rope.breaks = s.rope.breaks ++ [{ mac := mac, port := p, lost := lost }] ∧
      bit (t.reg Reg.pending) 23 = true) ∧
  (∀ (mac p lost : Nat) (s : State), s.storesOk → s.ropeOn = true →
    (s.rope.breaks.any fun x => x.same { mac := mac, port := p, lost := lost }) = true →
    ∃ t, exec (.healNotice mac p lost) s = .next t ∧ Counted 24 s t ∧
      t.rope.breaks = s.rope.breaks.filter (fun x => !x.same { mac := mac, port := p, lost := lost } || x.mac == s.mac) ∧
      t = { s with belay := t.belay, rope := t.rope, regs := t.regs, ev := t.ev, q := t.q, report := t.report }) ∧
  (∀ (mac p lost : Nat) (s : State), (s.rope.breaks.any fun x => x.same { mac := mac, port := p, lost := lost }) = false →
    exec (.healNotice mac p lost) s = .next s) ∧
  (∀ (p : Nat) (s : State), s.ropeOn = true → p < 2 → s.linkState p ≠ 3 →
    (s.rope.breaks.any fun x => x.mac == s.mac && x.port == p) = true → s.reg Reg.ropeMode = 0 → s.portSends 0 →
    ∃ t tag, exec (.breakNoticeRepeat p) s = .next t ∧
      t.sent.head? = some (.rope 0 tag (ropeMsg 0x09 (s.breakBody p (s.link p).cause))) ∧
      t = { s with ports := t.ports, regs := t.regs, sent := t.sent, rope := t.rope }) ∧
  (∀ (p : Nat) (s : State), s.ropeOn = false ∨ 2 ≤ p ∨ s.linkState p = 3 ∨
    (s.rope.breaks.any fun x => x.mac == s.mac && x.port == p) = false → exec (.breakNoticeRepeat p) s = .next s) ∧
  (∀ (n : Nat) (w : DupWin) (s : State), assocGet s.rope.wins n = some w → exec (.dupWindowForget n) s = .next
    { s with rope := { s.rope with wins := assocDel s.rope.wins n }, clock := clockAdvance (w.last + ms 10 - s.clock.cclk) s.clock }) ∧
  (∀ (n : Nat) (s : State), assocGet s.rope.wins n = none → exec (.dupWindowForget n) s = .next s) ∧
  (∀ s : State, s.storesOk → s.alive = true → s.inj.armed = true → ∃ t, exec .injectDurationEnd s = .next t ∧
    t.inj = { s.inj with armed := false, rules := 0 } ∧ t.reg Reg.state = 0 ∧ Counted 62 s t ∧
    RegsKept (Reg.state :: evKeys 62) s t ∧
    t = { s with inj := t.inj, regs := t.regs, ev := t.ev, q := t.q, report := t.report, clock := clockAdvance (s.inj.till - s.clock.cclk) s.clock }) ∧
  ∀ s : State, s.inj.armed = false → exec .injectDurationEnd s = .next s

/-- R321, R322, R327, R328: beacons, bids and resignations choose the head of the rope. -/
def Obligations.HeadElection : Prop :=
  (∀ s : State, s.ropeOn = true → s.reg Reg.headRole = 3 → ∃ t, exec .headBeaconSend s = .next t ∧
    t.rope.modeDue = some s.ownRopeMode ∧ t.rope.beaconAt = some s.clock.cclk ∧
    t = { s with ports := t.ports, regs := t.regs, sent := t.sent, rope := t.rope }) ∧
  (∀ s : State, s.ropeOn = false ∨ s.reg Reg.headRole ≠ 3 → exec .headBeaconSend s = .next s) ∧
  (∀ (mac pos seg term pre mode ring len prio : Nat) (s : State), s.ropeOn = false ∨ mac = s.mac →
    exec (.headBeacon mac pos seg term pre mode ring len prio) s = .next s) ∧
  (∀ (mac pos seg term pre mode ring len prio : Nat) (s : State), s.storesOk → s.ropeOn = true → mac ≠ s.mac →
    s.reg Reg.headRole ≠ 3 → s.noBeacon = true → ∃ t, exec (.headBeacon mac pos seg term pre mode ring len prio) s = .next t ∧
      t.reg Reg.headPos = pos ∧ t.reg Reg.headTerm = term ∧ t.reg Reg.segment = seg ∧ t.reg Reg.prefixR = pre ∧
      t.reg Reg.ringState = ring ∧ t.reg Reg.segLen = (if s.hasPos then len else 256) ∧
      (s.reg Reg.headRole < 2 → t.reg Reg.headRole = s.reg Reg.headRole) ∧
      t.rope.headMac = mac ∧ t.rope.headPrio = prio ∧ t.rope.modeDue = some mode ∧ t.rope.beaconAt = some s.clock.cclk) ∧
  (∀ (mac pos seg term pre mode ring len prio : Nat) (s : State), s.ropeOn = true → mac ≠ s.mac → s.reg Reg.headRole = 3 →
    term < s.reg Reg.headTerm → ∃ t, exec (.headBeacon mac pos seg term pre mode ring len prio) s = .next t ∧
      t = { s with rope := { s.rope with others := t.rope.others, termHeard := max s.rope.termHeard term } }) ∧
  (∀ s : State, s.ropeOn = false ∨ s.reg Reg.headRole = 3 → exec .beaconSilence s = .next s) ∧
  (∀ s : State, s.storesOk → s.ropeOn = true → s.reg Reg.headRole ≠ 3 → ∃ t, exec .beaconSilence s = .next t ∧
    t.clock = clockAdvance (max (s.rope.beaconAt.getD 0) s.rope.quietFrom + ms 3 - s.clock.cclk) s.clock ∧
    t.reg Reg.ringState = s.ringOwn ∧ t.reg Reg.headRole = (if s.reg Reg.headRole = 1 then 2 else s.reg Reg.headRole) ∧
    (s.reg Reg.headRole = 1 → t.rope.bidFrom = some t.clock.cclk) ∧ RegsKept [Reg.ringState, Reg.headRole] s t) ∧
  (∀ s : State, s.ropeOn = true → s.reg Reg.headRole = 2 → s.reg Reg.ropeMode = 0 → s.portSends 0 →
    ∃ t tag, exec .headBidSend s = .next t ∧ t.sent.head? = some (.rope 0 tag (ropeMsg 0x03 (beBytes 6 s.mac ++
      beBytes 1 (s.reg Reg.headPrio) ++ beBytes 1 0 ++ beBytes 2 s.keyPos ++ beBytes 4 s.rope.termHeard))) ∧
      t = { s with ports := t.ports, regs := t.regs, sent := t.sent, rope := t.rope }) ∧
  (∀ s : State, s.ropeOn = false ∨ s.reg Reg.headRole ≠ 2 → exec .headBidSend s = .next s) ∧
  (∀ (mac prio key term : Nat) (s : State), s.storesOk → s.ropeOn = true → mac ≠ s.mac → ∃ t, exec (.headBid mac prio key term) s = .next t ∧
    t.rope.termHeard = max s.rope.termHeard term ∧
    t.reg Reg.headRole = (if s.reg Reg.headRole = 2 ∧ s.lowerKey prio key mac = true then 1 else s.reg Reg.headRole) ∧
    RegsKept [Reg.headRole] s t ∧ t = { s with rope := t.rope, regs := t.regs }) ∧
  (∀ (c : Nat) (s : State), s.storesOk → s.rope.bidFrom = some c → s.ropeOn = true → s.reg Reg.headRole = 2 →
    ∃ t, exec .biddingDone s = .next t ∧ t.reg Reg.headRole = 3 ∧ t.reg Reg.takeovers = min (s.reg Reg.takeovers + 1) (two32 - 1) ∧
      t.reg Reg.headTerm = (s.rope.termHeard + 1) % two32 ∧ t.reg Reg.headPos = s.reg Reg.position ∧ t.rope.headMac = s.mac ∧
      t.rope.wantRun = true ∧ t.reg Reg.segment = s.reg Reg.segmentCfg ∧
      t.clock = clockAdvance (c + ms 1 - s.clock.cclk) s.clock ∧ t.mode = s.mode) ∧
  (∀ s : State, s.rope.bidFrom = none ∨ s.ropeOn = false ∨ s.reg Reg.headRole ≠ 2 → exec .biddingDone s = .next s) ∧
  (∀ (mac term : Nat) (s : State), s.storesOk → s.ropeOn = true → mac ≠ s.mac → ∃ t, exec (.headResign mac term) s = .next t ∧
    t.rope.beaconAt = none ∧ t.rope.termHeard = max s.rope.termHeard term ∧
    t.reg Reg.headRole = (if s.reg Reg.headRole = 1 then 2 else s.reg Reg.headRole) ∧ t = { s with rope := t.rope, regs := t.regs }) ∧
  (∀ s : State, s.rope.trailDown = none ∨ s.ropeOn = false ∨ s.reg Reg.headRole ≠ 3 → exec .trailDownResign s = .next s) ∧
  (∀ (c : Nat) (s : State), s.storesOk → s.rope.trailDown = some c → s.ropeOn = true → s.reg Reg.headRole = 3 →
    (s.rope.others.any fun o => decide (max s.clock.cclk (c + ms 1) ≤ o.2 + ms 10000)) = true → ∃ t, exec .trailDownResign s = .next t ∧
      t.reg Reg.headRole = (if s.eligible then 1 else 0) ∧
      t.clock = clockAdvance 100000 (clockAdvance (c + ms 1 - s.clock.cclk) s.clock) ∧ t.mode = s.mode) ∧
  (∀ s : State, s.ropeOn = true → s.mode.mode = .roping → s.hasPos = false → s.reg Reg.ropeMode = 0 → s.portSends 0 →
    ∃ t tag, exec .joinReqSend s = .next t ∧ t.sent.head? = some (.rope 0 tag (ropeMsg 0x05 (beBytes 6 s.mac))) ∧
      t = { s with ports := t.ports, regs := t.regs, sent := t.sent, rope := t.rope }) ∧
  (∀ s : State, s.ropeOn = false ∨ s.mode.mode ≠ .roping ∨ s.hasPos = true → exec .joinReqSend s = .next s) ∧
  (∀ (mac : Nat) (s : State), s.ropeOn = true → s.reg Reg.headRole = 3 → exec (.joinReq mac) s = .next
    { s with rope := { s.rope with wantRun := true } }) ∧
  ∀ (mac : Nat) (s : State), s.ropeOn = false ∨ s.reg Reg.headRole ≠ 3 → exec (.joinReq mac) s = .next s

/-- R53, R328, R330: a roping run calls the rope from the head, and its set gives every unit its position; a unit nobody calls takes the one
it stored. -/
def Obligations.RopingRuns : Prop :=
  (∀ s : State, s.mode.mode ≠ .roping ∨ s.rope.gotCall = true ∨ s.mode.ropingEnd.isSome = true → exec .ropeWaitExpire s = .next s) ∧
  (∀ s : State, s.storesOk → s.mode.mode = .roping → s.rope.gotCall = false → s.mode.ropingEnd = none →
    ∃ t, exec .ropeWaitExpire s = .next t ∧
      t.reg Reg.segment = (if s.reg Reg.storedPos = 0xFFFF then 0 else s.reg Reg.storedPos / 256) ∧
      t.reg Reg.position = (if s.reg Reg.storedPos = 0xFFFF then 0 else s.reg Reg.storedPos % 256) ∧ t.reg Reg.addrState = 4 ∧
      RegsKept [Reg.segment, Reg.position, Reg.addrState] s t ∧
      t = { s with
        regs := t.regs, mode := { s.mode with ropingEnd := some 8 }, host := { s.host with arpLeft := 3, arpNext := t.clock.cclk }
        clock := clockAdvance (s.mode.ropingAt + ms (s.reg Reg.ropeWait) - s.clock.cclk) s.clock }) ∧
  (∀ s : State, s.ropeOn = false ∨ s.reg Reg.headRole ≠ 3 ∨ s.rope.wantRun = false ∨ s.rope.run.isSome = true →
    exec .ropingRun s = .next s) ∧
  (∀ s : State, s.ropeOn = true → s.reg Reg.headRole = 3 → s.rope.wantRun = true → s.rope.run = none → s.rope.runEnd = none →
    s.linkState 0 = 3 ∨ s.linkState 1 = 3 → ∃ t, exec .ropingRun s = .next t ∧
      t.rope.run = some { id := (s.rope.callId + 1) % 65536, began := s.clock.cclk, second := !(s.linkState 1 == 3), recsB := []
                          recsA := [] } ∧
      t.rope.callId = (s.rope.callId + 1) % 65536 ∧ t.rope.relayed = some ((s.rope.callId + 1) % 65536) ∧ t.rope.wantRun = false ∧ t.rope.gotCall = true ∧
      t = { s with ports := t.ports, regs := t.regs, sent := t.sent, rope := t.rope }) ∧
  (∀ s : State, s.ropeOn = true → s.reg Reg.headRole = 3 → s.rope.wantRun = true → s.rope.run = none → s.rope.runEnd = none →
    s.linkState 0 ≠ 3 → s.linkState 1 ≠ 3 → ∃ t, exec .ropingRun s = .next t ∧ t.rope.run = none ∧ t.rope.runEnd = some s.clock.cclk ∧
      t.rope.wantRun = false) ∧
  (∀ (p hop id seg : Nat) (l : List CallRec) (s : State), s.ropeOn = true → p < 2 → s.rope.run = none → hop < 255 →
    ∃ t, exec (.ropeCall p hop id seg l) s = .next t ∧ t.rope = { s.rope with gotCall := true, relayed := some id } ∧
      t = { s with ports := t.ports, regs := t.regs, sent := t.sent, rope := t.rope }) ∧
  (∀ (p hop id seg : Nat) (l : List CallRec) (s : State), s.storesOk → s.ropeOn = true → p < 2 → s.rope.run = none → 255 ≤ hop →
    ∃ t, exec (.ropeCall p hop id seg l) s = .next t ∧ Counted 26 s t ∧ RegsKept (evKeys 26) s t ∧
      t = { s with regs := t.regs, ev := t.ev, q := t.q, report := t.report }) ∧
  (∀ (r : RunSt) (h seg : Nat) (x : CallRec) (l : List CallRec) (s : State), s.ropeOn = true → s.rope.run = some r → x.mac = s.mac →
    r.second = false → s.clock.cclk ≤ r.began + ms 20 → ∃ t, exec (.ropeCall 0 h r.id seg (x :: l)) s = .next t ∧
      t.rope.run = none ∧ t.rope.runEnd = some s.clock.cclk) ∧
  (∀ (p id seg : Nat) (l : List CallRec) (s : State), s.ropeOn = true → p < 2 → s.rope.run = none →
    ∃ t, exec (.ropeCallEnd p id seg l) s = .next t ∧ t = { s with ports := t.ports, regs := t.regs, sent := t.sent }) ∧
  (∀ (r : RunSt) (seg : Nat) (l : List CallRec) (s : State), s.ropeOn = true → s.rope.run = some r → r.second = false →
    s.linkState 0 = 3 → ∃ t, exec (.ropeCallEnd 1 r.id seg l) s = .next t ∧
      t.rope = { s.rope with run := some { r with recsB := l.drop 1, second := true, began := s.clock.cclk } }) ∧
  (∀ (r : RunSt) (p id seg : Nat) (l : List CallRec) (s : State), s.rope.run = some r → r.id ≠ id →
    exec (.ropeCallEnd p id seg l) s = .next s) ∧
  (∀ s : State, s.rope.run = none → exec .callTimeout s = .next s) ∧
  (∀ (r : RunSt) (s : State), s.rope.run = some r → r.second = true → ∃ t, exec .callTimeout s = .next t ∧
    t = { s with rope := { s.rope with run := none, runEnd := some t.clock.cclk }
                 clock := clockAdvance (r.began + ms 20 - s.clock.cclk) s.clock }) ∧
  (∀ (r : RunSt) (s : State), s.rope.run = some r → r.second = false → s.linkState 0 = 3 → ∃ t, exec .callTimeout s = .next t ∧
    t.clock = clockAdvance (r.began + ms 20 - s.clock.cclk) s.clock ∧
    t.rope = { s.rope with run := some { r with second := true, began := t.clock.cclk } }) ∧
  (∀ (p id seg len : Nat) (l : List SetEntry) (s : State), s.ropeOn = false ∨ 2 ≤ p ∨ s.rope.relayed ≠ some id ∨ s.reg Reg.headRole = 3 →
    exec (.ropeSet p id seg len l) s = .next s) ∧
  (∀ (p id seg len : Nat) (l : List SetEntry) (s : State), s.storesOk → s.ropeOn = true → p < 2 → s.rope.relayed = some id →
    s.reg Reg.headRole ≠ 3 → (l.find? fun e => e.mac == s.mac) = none → ∃ t, exec (.ropeSet p id seg len l) s = .next t ∧
      t.reg Reg.segment = seg ∧ t.rope = { s.rope with units := unitsOf l } ∧
      t.cairn = { s.cairn with prefixV := s.reg Reg.prefixR } ∧
      t = { s with ports := t.ports, regs := t.regs, sent := t.sent, rope := t.rope, cairn := t.cairn, host := t.host }) ∧
  ∀ (p id seg len : Nat) (l : List SetEntry) (e : SetEntry) (s : State), s.storesOk → s.ropeOn = true → p < 2 →
    s.rope.relayed = some id → s.reg Reg.headRole ≠ 3 → (l.find? fun e => e.mac == s.mac) = some e → e.result = 1 →
    ∃ t, exec (.ropeSet p id seg len l) s = .next t ∧ t.reg Reg.segment = seg ∧ t.reg Reg.position = e.pos ∧ t.reg Reg.addrState = 3 ∧
      t.reg Reg.storedPos = seg * 256 + e.pos ∧ t.reg Reg.ropedAt = s.now / nsPerSec ∧ t.reg Reg.segLen = len ∧
      t.cairn = { s.cairn with prefixV := s.reg Reg.prefixR, position := some (seg, e.pos), ropedAt := s.now / nsPerSec } ∧
      (s.mode.mode = .roping → t.mode = { s.mode with ropingEnd := some (s.mode.ropingEnd.getD 7) } ∧ Counted 25 s t) ∧
      (s.mode.mode ≠ .roping → t.mode = s.mode)

/-- R372, R376, R389, R390, R392, R394, R398, R409: the plan and events release tasks into ready lists, engines fetch and start them, deadlines that pass are
counted, a stalled read ends at its time, and a lease that ends breaks its carabiner. -/
def Obligations.SchedulerMoves : Prop :=
  (∀ (c : Nat) (s : State), ((s.cb c).lease.all fun n => decide (s.tickNow < n)) = true ∨ 64 ≤ c → exec (.leaseEnd c) s = .next s) ∧
  (∀ (c n : Nat) (s : State), s.storesOk → s.alive = true → c < 64 → c < s.carabs.cbs.length → (s.cb c).lease = some n → n ≤ s.tickNow →
    ∃ t, exec (.leaseEnd c) s = .next t ∧ t.cb c = { broken := true } ∧ bit (t.reg Reg.pending) 38 = true ∧
      t.reg Reg.breaks_8B00 = min (s.reg Reg.breaks_8B00 + 1) (two32 - 1)) ∧
  (∀ (n : Nat) (s : State), s.planRuns = false ∨ s.planCount ≤ n ∨ s.sched.released.contains n = true →
    exec (.planRelease n) s = .next s) ∧
  (∀ (n : Nat) (s : State), s.storesOk → s.planRuns = true → n < s.planCount → s.sched.released.contains n = false →
    field (s.planEntry n) 8 1 = 0xFF → ∃ t, exec (.planRelease n) s = .next t ∧
      t.clock = clockAdvance (s.tick.cclk + field (s.planEntry n) 0 4 - s.clock.cclk) s.clock ∧
      t.sched.released = n :: s.sched.released ∧
      ((s.tasks.any fun x => x.entry == some n) = true → t.reg Reg.releaseSkips = min (s.reg Reg.releaseSkips + 1) (two32 - 1)) ∧
      ((s.tasks.any fun x => x.entry == some n) = false →
        (s.readyList (field (s.planEntry n) 12 1 / 32)).length < s.sched.limits.getD (field (s.planEntry n) 12 1 / 32) 256 →
        t.reg Reg.releases = min (s.reg Reg.releases + 1) (two32 - 1)) ∧
      (s.alive = true → (s.tasks.any fun x => x.entry == some n) = false →
        s.sched.limits.getD (field (s.planEntry n) 12 1 / 32) 256 ≤ (s.readyList (field (s.planEntry n) 12 1 / 32)).length →
        t.reg Reg.releaseDrops = min (s.reg Reg.releaseDrops + 1) (two32 - 1) ∧ Counted 35 s t)) ∧
  (∀ (n : Nat) (s : State), s.releasesRun = false ∨ s.descCount ≤ n ∨ dIn (s.descRow n) = 0xFFFF ∨ s.itemsIn (dIn (s.descRow n)) = 0 ∨
    s.inPlan n = true ∨ (s.tasks.any fun t => t.desc == n) = true ∨
    s.sched.limits.getD (s.reg Reg.eventList) 256 ≤ (s.readyList (s.reg Reg.eventList)).length → exec (.eventRelease n) s = .next s) ∧
  (∀ (n : Nat) (s : State), s.storesOk → s.releasesRun = true → n < s.descCount → dIn (s.descRow n) ≠ 0xFFFF →
    s.itemsIn (dIn (s.descRow n)) ≠ 0 → s.inPlan n = false → (s.tasks.any fun t => t.desc == n) = false →
    (s.readyList (s.reg Reg.eventList)).length < s.sched.limits.getD (s.reg Reg.eventList) 256 →
    ∃ t, exec (.eventRelease n) s = .next t ∧ t.reg Reg.releases = min (s.reg Reg.releases + 1) (two32 - 1) ∧
      t.sched.order = s.sched.order + 1 ∧
      t = { s with sched := t.sched, regs := t.regs, ev := t.ev, q := t.q, report := t.report }) ∧
  (∀ (e : Nat) (x : Task) (s : State), s.choice e = none ∨ s.canPrefetch e = false ∨
    s.choice e = some x ∧ ((List.range e).any fun k => s.canPrefetch k && s.choice k == some x) = true → exec (.prefetch e) s = .next s) ∧
  (∀ (e : Nat) (x y : Task) (s : State), s.storesOk → e < s.sched.engines.length → s.choice e = some x → s.canPrefetch e = true →
    ((List.range e).any fun k => s.canPrefetch k && s.choice k == some x) = false →
    y = (if x.desc < s.descCount then { x with row := s.descRow x.desc } else x) →
    ((x.desc < s.descCount → s.poisoned false (s.descAt x.desc) 64 = false) →
      descOk s.regions s.dramSize s.queueDeclared y.row = true → (s.engine e).run = none → ∃ t, exec (.prefetch e) s = .next t ∧
        t.engine e = { s.engine e with biv := bivInsert y (s.engine e).biv } ∧
        t = { s with sched := t.sched, regs := t.regs, ev := t.ev, q := t.q, report := t.report }) ∧
    (x.desc < s.descCount ∧ s.poisoned false (s.descAt x.desc) 64 = true ∨
      descOk s.regions s.dramSize s.queueDeclared y.row = false → ∃ t, exec (.prefetch e) s = .next t ∧
        t.reg Reg.taskFaults = min (s.reg Reg.taskFaults + 1) (two32 - 1) ∧
        (t.belay.slots.any fun z => z.rcd.cls == 0x10) = true)) ∧
  (∀ (e : Nat) (s : State), (s.engine e).out = true ∨ (s.engine e).biv = [] ∨
      ((s.engine e).run.any fun x => !x.stalled && x.blocked.isNone) = true → exec (.dispatch e) s = .next s) ∧
  (∀ (e : Nat) (x h : Task) (l : List Task) (s : State), s.storesOk → e < s.sched.engines.length → (s.engine e).out = false →
    (s.engine e).run = some x → x.stalled = true → x.blocked = none → (s.engine e).biv = h :: l → h.list < x.list →
    h.suspended = false → 64 ≤ dCb h.row → ∃ t, exec (.dispatch e) s = .next t ∧
      t.engine e = { s.engine e with run := some { h with waiting := false }, biv := bivInsert { x with suspended := true } l } ∧
      t.reg Reg.dispatches = min (s.reg Reg.dispatches + 1) (two32 - 1) ∧ t.carabs = s.carabs) ∧
  (∀ (e : Nat) (x : Task) (l : List Task) (s : State), s.storesOk → e < s.sched.engines.length → (s.engine e).out = false →
    (s.engine e).run = none → (s.engine e).biv = x :: l → x.suspended = false → x.stalled = false → x.blocked = none →
    (64 ≤ dCb x.row → ∃ t, exec (.dispatch e) s = .next t ∧
      t.engine e = { s.engine e with run := some { x with waiting := false }, biv := l } ∧
      t.reg Reg.dispatches = min (s.reg Reg.dispatches + 1) (two32 - 1) ∧ t.carabs = s.carabs) ∧
    (dCb x.row < 64 → s.cb (dCb x.row) = { broken := true } → ∃ t, exec (.dispatch e) s = .next t ∧
      t.engine e = { s.engine e with biv := l } ∧ (s.alive = true → bit (t.reg Reg.pending) 36 = true) ∧ t.carabs = s.carabs)) ∧
  (∀ (e : Nat) (x : Task) (l : List Task) (s : State), e < s.sched.engines.length → dCb x.row < s.carabs.cbs.length →
    (s.engine e).out = false → (s.engine e).run = none → (s.engine e).biv = x :: l → x.suspended = false → x.stalled = false →
    x.blocked = none → dCb x.row < 64 → s.cb (dCb x.row) = {} → ∃ t, exec (.dispatch e) s = .next t ∧ (t.engine e).run = some { x with waiting := false } ∧
      t.cb (dCb x.row) = { owner := some (.task x.id) }) ∧
  (∀ (e : Nat) (x : Task) (l : List Task) (o : CbOwner) (s : State), e < s.sched.engines.length → (s.engine e).out = false →
    (s.engine e).run = none → (s.engine e).biv = x :: l → x.suspended = false → x.waiting = false → dCb x.row < 64 →
    (s.cb (dCb x.row)).owner = some o → ∃ t, exec (.dispatch e) s = .next t ∧
      t.engine e = { s.engine e with biv := { x with waiting := true } :: l } ∧ t.carabs = s.carabs) ∧
  (∀ (n : Nat) (s : State), (s.tasks.find? fun t => t.id == n && !t.missed && t.due.isSome) = none →
    exec (.deadlineMiss n) s = .next s) ∧
  (∀ (n d : Nat) (x : Task) (s : State), s.storesOk → s.alive = true →
    (s.tasks.find? fun t => t.id == n && !t.missed && t.due.isSome) = some x → x.due = some d →
    ∃ t, exec (.deadlineMiss n) s = .next t ∧ t.reg Reg.deadlineMisses = min (s.reg Reg.deadlineMisses + 1) (two32 - 1) ∧
      t.reg Reg.lastMissId = n ∧ Counted 35 s t ∧
      t = { s with sched := t.sched, regs := t.regs, ev := t.ev, q := t.q, report := t.report, clock := clockAdvance (d - s.clock.cclk) s.clock }) ∧
  (∀ (e : Nat) (s : State), (s.engine e).run.filter s.readOver = none → (s.engine e).biv.find? s.readOver = none →
    exec (.queueReadTimeout e) s = .next s) ∧
  (∀ (e n : Nat) (x : Task) (s : State), e < s.sched.engines.length → (s.engine e).run = some x → (s.engine e).biv = [] →
    x.stalled = true → s.stallEnd (dIn x.row) x.id = some n → n ≤ s.tickIdx → 64 ≤ dCb x.row →
    ∃ t, exec (.queueReadTimeout e) s = .next t ∧ t.engine e = { s.engine e with run := none } ∧ t.carabs = s.carabs) ∧
  (∀ (e : Nat) (s : State), (s.engine e).run = none → s.ctl.jobs = [] → exec (.queuePushUnblocked e) s = .next s) ∧
  ∀ (e k : Nat) (x : Task) (b : Bytes) (s : State), e < s.sched.engines.length → (s.engine e).run = some x →
    x.blocked = some (b, k) → s.roomIn (dOut x.row) b.length = true → s.ctl.jobs = [] →
    ∃ t, exec (.queuePushUnblocked e) s = .next t ∧ (t.engine e).run = some { x with blocked := none, prog := x.prog + 1 } ∧
      t.mode = s.mode ∧ t.clock = s.clock ∧ t.flash = s.flash

/-- R378, R380, R401, R402, R432, R433: spill bursts move between registers and DRAM, link walks and scrubs check the memory, the arbiter
grants, and engine tests and DRAM scrubs are released. -/
def Obligations.MemoryServices : Prop :=
  (∀ (n : Nat) (s : State), assocGet s.q.spills n = none → exec (.spillBurstWrite n) s = .next s ∧ exec (.spillReadback n) s = .next s) ∧
  (∀ (n : Nat) (q : Spill) (s : State), assocGet s.q.spills n = some q → q.tail.length < 4 → exec (.spillBurstWrite n) s = .next s) ∧
  (∀ (n : Nat) (q : Spill) (s : State), assocGet s.q.spills n = some q → 4 ≤ q.tail.length → ∃ t, exec (.spillBurstWrite n) s = .next t ∧
    assocGet t.q.spills n = some { q with tail := q.tail.drop 4, ringN := q.ringN + 4 } ∧ t.mem.hearth = s.mem.hearth ∧
    t = { s with q := t.q, mem := t.mem }) ∧
  (∀ (n : Nat) (q : Spill) (s : State), assocGet s.q.spills n = some q → q.ringN = 0 ∨ 12 < q.head.length →
    exec (.spillReadback n) s = .next s) ∧
  (∀ (n : Nat) (q : Spill) (s : State), assocGet s.q.spills n = some q → 4 < q.ringN → q.head.length ≤ 12 →
    ∃ t, exec (.spillReadback n) s = .next t ∧ assocGet t.q.spills n = some { q with
      head := q.head ++ (List.range 4).map fun i => s.ramRead true (q.base + ((q.ringAt + i) % q.limit) * 64) 64
      ringAt := (q.ringAt + 4) % q.limit, ringN := q.ringN - 4 } ∧ t = { s with q := t.q }) ∧
  (∀ (b : Bool) (q c : Nat) (s : State), s.domOn 3 = false → exec (.linkWalk b q c) s = .next s) ∧
  (∀ (q c : Nat) (s : State), s.storesOk → s.domOn 3 = true → ∃ t, exec (.linkWalk false q c) s = .next t ∧
    t.reg Reg.walks = min (s.reg Reg.walks + 1) (two32 - 1) ∧ RegsKept [Reg.walks] s t ∧ t = { s with regs := t.regs }) ∧
  (∀ (q c : Nat) (s : State), s.storesOk → s.domOn 3 = true → ∃ t, exec (.linkWalk true q c) s = .next t ∧
    t.reg Reg.walks = min (s.reg Reg.walks + 1) (two32 - 1) ∧ t.reg Reg.walkFaults = min (s.reg Reg.walkFaults + 1) (two32 - 1) ∧
    (t.belay.slots.any fun x => x.rcd.cls == 0x13) = true) ∧
  (∀ (d m : Bool) (b : Nat) (l : List (Nat × Nat)) (s : State), s.domOn (if d then 7 else 3) = false ∨ (d = false ∧ 33 ≤ b) ∨
    (l.any fun r => decide (10 < r.1)) = true → exec (.arbitration d b m l) s = .next s) ∧
  (∀ (d m : Bool) (b p w a : Nat) (s : State), s.storesOk → s.domOn (if d then 7 else 3) = true → b < 32 → p ≤ 10 →
    w ≤ s.reg Reg.waitLimit → a = (if d then 32 else b) → a < s.arb.counts.length → ∃ t, exec (.arbitration d b m [(p, w)]) s = .next t ∧
      t.arb.last = some (a, if m && s.bmReady a then 11 else p) ∧
      t.arb.counts.getD a 0 = s.arb.counts.getD a 0 + (if m && s.bmReady a then 0 else 1) ∧
      (∀ k, k = (if d then Reg.waitMaxDram else Reg.waitMaxHearth) → RegsKept [k] s t ∧
        t.reg k = max (s.reg k) w) ∧
      t = { s with arb := t.arb, regs := t.regs }) ∧
  (∀ (n ecc : Nat) (s : State), s.flag Reg.scrubEn = false ∨ s.domOn 3 = false ∨ s.alive = false ∨ s.lineScrubbed n = false ∨
    s.bmReady (n % 32) = false → exec (.hearthScrub n ecc) s = .next s) ∧
  (∀ (n : Nat) (a : ArbSt) (s : State), s.storesOk → s.flag Reg.scrubEn = true → s.domOn 3 = true → s.alive = true →
    s.lineScrubbed n = true → s.bmReady (n % 32) = true →
    a = { s.arb with last := some (n % 32, 11), bmNext := s.arb.bmNext.set (n % 32) (s.clock.cclk + 8) } →
    (n ≠ s.lastLine → exec (.hearthScrub n 0) s = .next { s with arb := a }) ∧
    (n = s.lastLine → ∃ t, exec (.hearthScrub n 0) s = .next t ∧ t.arb = a ∧
      t.reg Reg.scrubPasses = min (s.reg Reg.scrubPasses + 1) (two32 - 1) ∧ RegsKept [Reg.scrubPasses] s t ∧
      t.sched = { s.sched with scrubFrom := s.clock.cclk, scrubPer := ms (s.reg Reg.scrubHearthMs) } ∧ bit t.belay.active 0x14 = false) ∧
    (n ≠ s.lastLine → s.poisoned false (n * 64) 64 = false →
      (∃ t, exec (.hearthScrub n 1) s = .next t ∧ t.arb = a ∧
        t.reg Reg.eccCorrected = min (s.reg Reg.eccCorrected + 1) (two32 - 1) ∧ Counted 56 s t ∧
        RegsKept (Reg.eccCorrected :: evKeys 56) s t ∧
        t = { s with arb := a, regs := t.regs, ev := t.ev, q := t.q, report := t.report }) ∧
      ∃ t, exec (.hearthScrub n 2) s = .next t ∧ t.arb = a ∧
        t.reg Reg.eccUncorrected = min (s.reg Reg.eccUncorrected + 1) (two32 - 1) ∧
        bit (t.reg Reg.pending) 57 = true ∧ (t.belay.slots.any fun x => x.rcd.cls == 0x07) = true)) ∧
  (∀ (d : Bool) (s : State), s.flag Reg.scrubEn = false ∨ s.alive = false ∨ s.domOn (if d then 7 else 3) = false →
    exec (.scrubStalled d) s = .next s) ∧
  (∀ (d : Bool) (s : State), s.flag Reg.scrubEn = true → s.alive = true → s.domOn (if d then 7 else 3) = true →
    ∃ t, exec (.scrubStalled d) s = .next t ∧ bit t.belay.active 0x14 = true ∧
      (t.belay.slots.any fun x => x.rcd.cls == 0x14) = true) ∧
  (∀ s : State, s.flag Reg.selftestEn = false ∨ s.topo.active = none ∨ s.alive = false → exec .engineTestRelease s = .next s) ∧
  (∀ s : State, s.flag Reg.selftestEn = true → s.topo.active.isSome = true → s.alive = true → ∃ t, exec .engineTestRelease s = .next t ∧
    t.clock = clockAdvance (s.sched.testAt - s.clock.cclk) s.clock ∧ t.sched.testAt = t.clock.cclk + ms (s.reg Reg.selftestMs) ∧
    ∀ e, e < 16 → (s.engine e).out = false → s.domOn (if e < 12 then 1 else 2) = true → (s.engine e).testDue.isSome = true →
      bit t.belay.active 0x11 = true) ∧
  (∀ s : State, s.flag Reg.scrubEn = false ∨ s.domOn 7 = false ∨ s.domOn 1 = false ∨ s.topo.active = none ∨
    (s.tasks.any fun t => some t.id == s.sched.dramLast) = true → exec .dramScrubRelease s = .next s) ∧
  ∀ s : State, s.storesOk → s.flag Reg.scrubEn = true → s.domOn 7 = true → s.domOn 1 = true → s.topo.active.isSome = true →
    s.sched.dramLast = none → (s.readyList 7).length < s.sched.limits.getD 7 256 → ∃ t, exec .dramScrubRelease s = .next t ∧
      t.reg Reg.releases = min (s.reg Reg.releases + 1) (two32 - 1) ∧
      t.sched.dramAt = (if s.dramSize ≤ s.sched.dramAt + min 16777216 (s.dramSize - s.sched.dramAt) then 0
        else s.sched.dramAt + min 16777216 (s.dramSize - s.sched.dramAt)) ∧
      t = { s with sched := t.sched, regs := t.regs, ev := t.ev, q := t.q, report := t.report }

/-- R387, R399, R429: what a running task of the memory types does at each of its steps: it copies, fills, checks and gathers memory and
sums packets; a read that is poisoned or uncorrectable faults it. -/
def Obligations.TaskSteps : Prop :=
  (∀ (e : Nat) (x : Task) (s : State), s.runsTask e 0 x → ∃ t, exec (.nop e) s = .next t ∧ s.taskMoved t e none ∧ t.mem = s.mem) ∧
  (∀ (e n : Nat) (x : Task) (s : State), s.runsTask e 1 x → n = min 4096 (dLen x.row - x.prog) → 0 < n →
    s.poisoned (addrOf (dSrc x.row)).1 ((addrOf (dSrc x.row)).2 + x.prog) n = false →
    (∃ t, exec (.copy e 0) s = .next t ∧
      s.taskMoved t e (if x.prog + n < dLen x.row then some { x with prog := x.prog + n } else none) ∧
      t.mem = (s.ramWrite (addrOf (dDst x.row)).1 ((addrOf (dDst x.row)).2 + x.prog) (s.ramRead (addrOf (dSrc x.row)).1 ((addrOf (dSrc x.row)).2 + x.prog) n)).mem) ∧
    (s.storesOk → s.inPool (addrOf (dSrc x.row)).1 ((addrOf (dSrc x.row)).2 + x.prog) = false → ∃ t, exec (.copy e 2) s = .next t ∧ s.taskFaulted t e ∧ t.mem = s.mem ∧
      t.reg Reg.eccUncorrected = min (s.reg Reg.eccUncorrected + 1) (two32 - 1))) ∧
  (∀ (e ecc n : Nat) (x : Task) (s : State), s.storesOk → s.runsTask e 1 x → n = min 4096 (dLen x.row - x.prog) → 0 < n →
    s.poisoned (addrOf (dSrc x.row)).1 ((addrOf (dSrc x.row)).2 + x.prog) n = true → ∃ t, exec (.copy e ecc) s = .next t ∧ s.taskFaulted t e ∧ t.mem = s.mem) ∧
  (∀ (e n : Nat) (x : Task) (s : State), s.runsTask e 2 x → n = min 4096 (dLen x.row - x.prog) → 0 < n →
    ∃ t, exec (.fill e) s = .next t ∧
      s.taskMoved t e (if x.prog + n < dLen x.row then some { x with prog := x.prog + n } else none) ∧
      t.mem = (s.ramWrite (addrOf (dDst x.row)).1 ((addrOf (dDst x.row)).2 + x.prog)
        ((List.range n).map fun i => (slice x.row 36 8).getD ((x.prog + i) % 8) 0)).mem) ∧
  (∀ (e v : Nat) (x : Task) (s : State), s.runsTask e 3 x → x.prog = 0 → 0 < dLen x.row → dLen x.row ≤ 4096 →
    s.poisoned (addrOf (dSrc x.row)).1 (addrOf (dSrc x.row)).2 (dLen x.row) = false →
    v = crc32 (s.ramRead (addrOf (dSrc x.row)).1 (addrOf (dSrc x.row)).2 (dLen x.row)) →
    (bit (dParam x.row 4 1) 0 = false ∨ v = dParam x.row 0 4 → ∃ t, exec (.crc32 e 0) s = .next t ∧ s.taskMoved t e none ∧
      t.mem = (s.ramWrite (addrOf (dDst x.row)).1 (addrOf (dDst x.row)).2 (beBytes 4 v)).mem) ∧
    (s.storesOk → bit (dParam x.row 4 1) 0 = true → v ≠ dParam x.row 0 4 → ∃ t, exec (.crc32 e 0) s = .next t ∧ s.taskFaulted t e)) ∧
  (∀ (e : Nat) (x : Task) (r : Bytes) (s : State), s.runsTask e 9 x → x.prog < dParam x.row 8 4 →
    r = s.ramRead (addrOf (dParam x.row 0 8)).1 ((addrOf (dParam x.row 0 8)).2 + 24 * x.prog) 24 →
    s.poisoned (addrOf (dParam x.row 0 8)).1 ((addrOf (dParam x.row 0 8)).2 + 24 * x.prog) 24 = false →
    (rangeOk s.regions s.dramSize (addrOf (field r 0 8)).1 (addrOf (field r 0 8)).2 (field r 16 4) = true →
      rangeOk s.regions s.dramSize (addrOf (field r 8 8)).1 (addrOf (field r 8 8)).2 (field r 16 4) = true →
      s.poisoned (addrOf (field r 0 8)).1 (addrOf (field r 0 8)).2 (field r 16 4) = false → ∃ t, exec (.gather e 0) s = .next t ∧
        s.taskMoved t e (if x.prog + 1 < dParam x.row 8 4 then some { x with prog := x.prog + 1 } else none) ∧
        t.mem = (s.ramWrite (addrOf (field r 8 8)).1 (addrOf (field r 8 8)).2
          (s.ramRead (addrOf (field r 0 8)).1 (addrOf (field r 0 8)).2 (field r 16 4))).mem) ∧
    (s.storesOk → rangeOk s.regions s.dramSize (addrOf (field r 8 8)).1 (addrOf (field r 8 8)).2 (field r 16 4) = false →
      ∃ t, exec (.gather e 0) s = .next t ∧ s.taskFaulted t e ∧ t.mem = s.mem)) ∧
  (∀ (e : Nat) (x : Task) (f : Bytes) (s : State), s.runsTask e 22 x →
    s.poisoned (addrOf (dSrc x.row)).1 (addrOf (dSrc x.row)).2 (dLen x.row) = false →
    f = s.ramRead (addrOf (dSrc x.row)).1 (addrOf (dSrc x.row)).2 (dLen x.row) → ∃ t, exec (.csum e 0) s = .next t ∧ s.taskMoved t e none ∧
      (s.ipAt f = none → t.mem = s.mem) ∧
      (∀ o, s.ipAt f = some o → t.mem = (s.ramWrite (addrOf (dSrc x.row)).1 (addrOf (dSrc x.row)).2
        (f.take o ++ insertSums (s.flag (Reg.portTxUdpCsum (if o = 22 then 0 else 2))) (f.drop o))).mem)) ∧
  ∀ (e ecc : Nat) (b : Bool) (s : State), (s.engine e).run = none → s.ctl.jobs = [] → ∀ c ∈ [Instr.nop e, .copy e ecc, .fill e, .crc32 e ecc,
    .unpack e ecc, .sigReadback e ecc, .sacnMerge e, .audioBands e, .queueMove e, .gather e ecc, .scrub e ecc, .selfTest e b,
    .lutLoad e ecc, .surfStore e ecc, .signal e, .csum e ecc, .hdrBuild e], exec c s = .next s

/-- R387, R433: what a running task of the other types does at each of its steps: a scrub, a test of the engine, an item of its own to its
queue, the next band, the next header. -/
def Obligations.TaskServices : Prop :=
  (∀ (e n : Nat) (x : Task) (s : State), s.runsTask e 10 x → x.desc ≠ ownScrub → n = min 4096 (dLen x.row - x.prog) → 0 < n →
    (x.prog + n < dLen x.row ∨ s.sched.dramLast ≠ some x.id → ∃ t, exec (.scrub e 0) s = .next t ∧ t.mem = s.mem ∧
      s.taskMoved t e (if x.prog + n < dLen x.row then some { x with prog := x.prog + n } else none)) ∧
    (s.storesOk → s.alive = true → s.inPool (addrOf (dSrc x.row)).1 ((addrOf (dSrc x.row)).2 + x.prog) = false → ∃ t, exec (.scrub e 1) s = .next t ∧
      t.reg Reg.eccCorrected = min (s.reg Reg.eccCorrected + 1) (two32 - 1) ∧ bit (t.reg Reg.pending) 56 = true)) ∧
  (∀ (e : Nat) (x : Task) (s : State), s.storesOk → s.runsTask e 11 x →
    (∃ t, exec (.selfTest e true) s = .next t ∧ t.engine e = { s.engine e with run := none, testDue := none } ∧ t.belay = s.belay) ∧
    ∃ t, exec (.selfTest e false) s = .next t ∧ t.engine e = { s.engine e with run := none, testDue := none } ∧
      bit t.belay.active 0x11 = true ∧ (t.belay.slots.any fun y => y.rcd.cls == 0x11) = true) ∧
  (∀ (e n : Nat) (x : Task) (s : State), s.runsTask e 14 x → s.ctl.jobs = [] → x.prog = 0 → n = min 24 (dLen x.row) → 0 < n →
    (dOut x.row = 0xFFFF → ∃ t, exec (.signal e) s = .next t ∧ t.mem = s.mem ∧ s.taskMoved t e none) ∧
    (∀ q, dOut x.row < 992 → s.queue? (dOut x.row) = some q → q.readers = [] → q.full = false → cellsOf n ≤ s.cellsFor q →
      ∃ t, exec (.signal e) s = .next t ∧ t.queue? (dOut x.row) = some (q.append (slice x.row 40 n)) ∧ s.taskMoved t e none ∧
        t.mem = s.mem)) ∧
  (∀ (e n : Nat) (x : Task) (s : State), s.runsTask e 21 x → n = (if dParam x.row 0 1 = 0 then s.outCount else s.pxTx) →
    ∃ t, exec (.hdrBuild e) s = .next t ∧ t.mem = s.mem ∧
      s.taskMoved t e (if x.prog + 1 < n then some { x with prog := x.prog + 1 } else none)) ∧
  ∀ (e b : Nat) (l : List Nat) (x : Task) (s : State), s.runsTask e 7 x →
    ((List.range 32).filter fun k => decide (x.prog ≤ k) && bit (dParam x.row 0 4) k) = b :: l → ∃ t, exec (.audioBands e) s = .next t ∧
      t.mem = s.mem ∧ s.taskMoved t e (some { x with prog := b + 1 })

/-- R124, R176, R188, R387: tasks that unpack, read back, load tables, store surfaces and move items. -/
def Obligations.TaskProducts : Prop :=
  (∀ (e : Nat) (x : Task) (s : State), s.runsTask e 4 x → x.prog < dParam x.row 6 2 → 0 < dLen x.row → 0 < dParam x.row 0 4 →
    s.poisoned (addrOf (dSrc x.row)).1 (addrOf (dSrc x.row)).2 (dLen x.row) = false → ∃ t, exec (.unpack e 0) s = .next t ∧
      t.engine e = { s.engine e with run := if x.prog + 1 < dParam x.row 6 2 then some { x with prog := x.prog + 1 } else none } ∧
      (∀ d w, d = s.ramRead (addrOf (dSrc x.row)).1 (addrOf (dSrc x.row)).2 (dLen x.row) → packedRow d (dParam x.row 4 2 + x.prog) = some w →
        t.mem = ((List.range (min 8 ((packHead d).2.2.2.2 - 8 * (dParam x.row 4 2 + x.prog)))).foldl (fun (u : State) y =>
          u.ramWrite (addrOf (dDst x.row)).1 ((addrOf (dDst x.row)).2 + (8 * x.prog + y) * dParam x.row 0 4)
            (packedLine (packHead d).1 (packHead d).2.2.1 (packHead d).2.2.2.1 w y)) s).mem) ∧
      t = { s with sched := t.sched, regs := t.regs, ev := t.ev, q := t.q, mem := t.mem, freeCount := t.freeCount, oracle := t.oracle }) ∧
  (∀ (e n : Nat) (x : Task) (s : State), s.storesOk → s.runsTask e 5 x → n = min 4096 (dParam x.row 4 4 - x.prog) → 0 < n →
    s.tick.hold = false → s.ras.noFlip = false → ∃ t, exec (.sigReadback e 0) s = .next t ∧ t.buf.seen = s.buf.seen + n ∧
      t.buf.sum = (s.buf.sum + ((List.range n).map fun i => s.sumEntry s.sendBuf (dParam x.row 0 4 + x.prog + i)).sum) % two32 ∧
      t.engine e = { s.engine e with run := if x.prog + n < dParam x.row 4 4 then some { x with prog := x.prog + n } else none } ∧
      (t.buf.seen = s.mapCount → t.reg Reg.outSigR = t.buf.sum) ∧
      (t.buf.seen = s.mapCount → s.buf.sigOk.getD s.sendBuf false = true → t.buf.sum ≠ s.buf.sigs.getD s.sendBuf 0 →
        t.reg Reg.outSigFail = min (s.reg Reg.outSigFail + 1) (two32 - 1) ∧ (t.belay.slots.any fun y => y.rcd.cls == 0x09) = true)) ∧
  (∀ (e : Nat) (x : Task) (s : State), s.runsTask e 12 x → 0 < dLen x.row →
    s.poisoned (addrOf (dSrc x.row)).1 (addrOf (dSrc x.row)).2 (dLen x.row) = false → ∃ t, exec (.lutLoad e 0) s = .next t ∧
      t.engine e = { s.engine e with run := none } ∧
      (dParam x.row 0 1 ≤ 0x21 → assocGet t.comp.luts (dParam x.row 0 1) =
        some (lutOf (dParam x.row 0 1) (s.ramRead (addrOf (dSrc x.row)).1 (addrOf (dSrc x.row)).2 (dLen x.row)))) ∧
      (∀ b, b < 16 → dParam x.row 0 1 = 0x40 + b → assocGet t.comp.coefs b =
        some (coefsOf (s.ramRead (addrOf (dSrc x.row)).1 (addrOf (dSrc x.row)).2 (dLen x.row)))) ∧
      t = { s with sched := t.sched, regs := t.regs, ev := t.ev, q := t.q, report := t.report, comp := t.comp }) ∧
  (∀ (e : Nat) (x : Task) (s : State), s.runsTask e 13 x → x.prog = 0 → 0 < dLen x.row → dLen x.row ≤ 4096 →
    s.poisoned (addrOf (dSrc x.row)).1 (addrOf (dSrc x.row)).2 (dLen x.row) = false → ∃ t, exec (.surfStore e 0) s = .next t ∧
      t.engine e = { s.engine e with run := none } ∧
      (∀ u, u = (s.storeSurface (beBytes 2 (dParam x.row 0 2) ++
          (s.ramRead (addrOf (dSrc x.row)).1 (addrOf (dSrc x.row)).2 (dLen x.row)).drop 2)).2.noteChange →
        t.comp = u.comp ∧ t.mem = u.mem) ∧
      t = { s with sched := t.sched, regs := t.regs, ev := t.ev, q := t.q, mem := t.mem, comp := t.comp }) ∧
  (∀ (e : Nat) (x : Task) (b : Bytes) (s : State), s.runsTask e 8 x → s.ctl.jobs = [] → x.hand = some b → dParam x.row 0 4 = 0 →
    (dOut x.row = 0xFFFF → exec (.queueMove e) s = .next (s.setEngine e { s.engine e with
      run := some { x with hand := none, prog := x.prog + 1 } })) ∧
    (∀ q, dOut x.row < 992 → s.queue? (dOut x.row) = some q → q.readers = [] → q.full = false → cellsOf b.length ≤ s.cellsFor q →
      ∃ t, exec (.queueMove e) s = .next t ∧ t.queue? (dOut x.row) = some (q.append b) ∧ t.mem = s.mem ∧
        t.engine e = { s.engine e with run := some { x with hand := none, prog := x.prog + 1 } })) ∧
  (∀ (e : Nat) (x : Task) (b : Bytes) (s u : State), s.runsTask e 8 x → u.ctl.jobs = [] → x.hand = none → dParam x.row 0 4 = 0 →
    s.popIn (dIn x.row) = some (b, u) → dOut x.row = 0xFFFF → (u.engine e).biv = [] → exec (.queueMove e) s = .next
      { u.setEngine e { u.engine e with run := some { x with prog := x.prog + 1 } } with pending := s.pending }) ∧
  (∀ (e : Nat) (x : Task) (s : State), s.runsTask e 8 x → s.ctl.jobs = [] → 0 < dParam x.row 0 4 → dParam x.row 0 4 ≤ x.prog →
    ∃ t, exec (.queueMove e) s = .next t ∧ s.taskMoved t e none ∧ t.mem = s.mem) ∧
  ∀ (e : Nat) (x : Task) (b : Bytes) (s : State), s.storesOk → s.runsTask e 6 x → x.hand = some b → field (udpPayload (itemIp b)) 18 4 = 4 →
    (s.uniIndex (field (udpPayload (itemIp b)) 113 2) = none → exec (.sacnMerge e) s = .next (s.setEngine e { s.engine e with
      run := some { x with hand := none, prog := x.prog + 1 } })) ∧
    (∀ i, s.uniIndex (field (udpPayload (itemIp b)) 113 2) = some i → ∃ t, exec (.sacnMerge e) s = .next t ∧
      t.reg Reg.accepted = min (s.reg Reg.accepted + 1) (two32 - 1) ∧ RegsKept [Reg.accepted] s t ∧
      ((t.uni i).srcs.any fun y => y.cid == field (udpPayload (itemIp b)) 22 16 && y.prio == field (udpPayload (itemIp b)) 108 1 &&
        y.seq == field (udpPayload (itemIp b)) 111 1) = true ∧
      t.engine e = { s.engine e with run := some { x with hand := none, prog := x.prog + 1 } })

/-- R103, R187, R209, R293, R332, R342, R387: a packet engine that is free takes the oldest item of its queue and works on it. -/
def Obligations.PacketItems : Prop :=
  (∀ (e : Nat) (b : Bool) (s : State), s.packetFree e → s.ctl.jobs = [] → ∀ p ∈ [(2, Instr.videoIngest e), (3, .audioIngest e),
    (4, .sacnParse e), (6, .pixelRx e), (1, .ctrlParse e b), (5, .ropeCtrl e), (7, .host e)], s.pop p.1 = none → exec p.2 s = .next s) ∧
  (∀ (e i : Nat) (x v : Bytes) (r : RxVideo) (s u : State), s.packetFree e → s.pop 2 = some (x, u) →
    videoStream u.streams (field x 0 1) (itemIp x) = some i → u.videoEntry i = some v → (u.stream i).rx = some r →
    field (udpPayload (itemIp x)) 1 1 % 128 = field v 26 1 → r.ts = field (udpPayload (itemIp x)) 4 4 → bit (field (udpPayload (itemIp x)) 1 1) 7 = false → i < u.comp.streams.length →
    ∃ t r', exec (.videoIngest e) s = .next t ∧ (t.stream i).rx = some r' ∧ r'.ts = r.ts ∧ r'.buf = r.buf ∧
      r'.next = (field (rtpPayload (udpPayload (itemIp x))) 0 2 * 65536 + field (udpPayload (itemIp x)) 2 2 + 1) % two32 ∧
      (r'.bad = false → r.bad = false ∧
        r.next = field (rtpPayload (udpPayload (itemIp x))) 0 2 * 65536 + field (udpPayload (itemIp x)) 2 2)) ∧
  (∀ (e : Nat) (x : Bytes) (s u : State), s.packetFree e → s.pop 2 = some (x, u) → videoStream u.streams (field x 0 1) (itemIp x) = none →
    exec (.videoIngest e) s = .next { u with pending := s.pending }) ∧
  (∀ (e i k : Nat) (x a : Bytes) (s u : State), s.packetFree e → s.pop 3 = some (x, u) → audioStream u.streams (field x 0 1) (itemIp x) = some i →
    u.audioEntry i = some a → field (udpPayload (itemIp x)) 1 1 % 128 = field a 3 1 →
    ∀ got, got = audioSamples (max 1 (field a 1 1)) ((rtpPayload (udpPayload (itemIp x))).length / (3 * max 1 (field a 1 1)))
      (rtpPayload (udpPayload (itemIp x))) → k < got.length → ∃ t, exec (.audioIngest e) s = .next t ∧
      (i, unwrap32 (field (udpPayload (itemIp x)) 4 4) (u.now * 3 / 62500) + k, got.getD k []) ∈ t.comp.audio.samples) ∧
  (∀ (e : Nat) (x : Bytes) (s u : State), s.packetFree e → s.ctl.jobs = [] → u.ctl.jobs = [] → s.pop 4 = some (x, u) → u.sacnRuns = false →
    exec (.sacnParse e) s = .next { u with pending := s.pending }) ∧
  (∀ (e : Nat) (x : Bytes) (s u : State), u.storesOk → s.packetFree e → u.ctl.jobs = [] → s.pop 4 = some (x, u) → u.sacnRuns = true →
    field (udpPayload (itemIp x)) 0 16 ≠ acnHead → ∃ t, exec (.sacnParse e) s = .next t ∧
      t.reg Reg.malformed = min (u.reg Reg.malformed + 1) (two32 - 1)) ∧
  (∀ (e : Nat) (x : Bytes) (s u : State), u.storesOk → s.packetFree e → s.pop 6 = some (x, u) → u.topo.active.isSome = true →
    u.pxWindow (field ((bodyOf (x.drop 16)).drop 22) 2 1) = none → ∃ t, exec (.pixelRx e) s = .next t ∧
      t.reg Reg.pxMalformed = min (u.reg Reg.pxMalformed + 1) (two32 - 1) ∧ RegsKept [Reg.pxMalformed] u t ∧
      t = { u with regs := t.regs, pending := s.pending }) ∧
  (∀ (e : Nat) (x w : Bytes) (s u : State), u.storesOk → s.packetFree e → s.pop 6 = some (x, u) → u.topo.active.isSome = true →
    u.pxWindow (field ((bodyOf (x.drop 16)).drop 22) 2 1) = some w →
    pxFits w ((bodyOf (x.drop 16)).drop 22) (x.drop 16).length (tagOf (x.drop 16)).src (tagOf (x.drop 16)).nopos = true →
    field ((bodyOf (x.drop 16)).drop 22) 4 8 ≤ u.tickIdx → field ((bodyOf (x.drop 16)).drop 22) 4 8 ≠ two64 - 1 →
    ∃ t, exec (.pixelRx e) s = .next t ∧ t.reg Reg.pxLate = min (u.reg Reg.pxLate + 1) (two32 - 1) ∧ RegsKept [Reg.pxLate] u t ∧
      t = { u with regs := t.regs, pending := s.pending }) ∧
  (∀ (e : Nat) (b : Bool) (x : Bytes) (s u : State), s.packetFree e → s.pop 1 = some (x, u) → ∃ t, exec (.ctrlParse e b) s = .next t ∧
    { t with pending := s.pending } = { (u.datagram (field (itemIp x) 12 4) (field (itemIp x) (ihl (itemIp x)) 2)
      (udpPayload (itemIp x)) b).resumeJobs with pending := s.pending }) ∧
  (∀ (e : Nat) (x : Bytes) (s u : State), u.storesOk → s.packetFree e → u.ctl.jobs = [] → s.pop 5 = some (x, u) →
    ∃ t, exec (.ropeCtrl e) s = .next t ∧ t = { u with regs := t.regs, pending := s.pending } ∧
      t.reg Reg.tagErrors = (if ropeCtrlOk ((bodyOf (x.drop 16)).drop 22) then u.reg Reg.tagErrors
        else min (u.reg Reg.tagErrors + 1) (two32 - 1)) ∧ RegsKept [Reg.tagErrors] u t) ∧
  (∀ (e : Nat) (x : Bytes) (s u : State), s.packetFree e → s.pop 7 = some (x, u) → field x 0 1 ≠ 2 →
    field (bodyOf (x.drop 16)) 20 2 ≠ 0x0806 → field (bodyOf (x.drop 16)) 20 2 ≠ 0x0800 →
    exec (.host e) s = .next { u with pending := s.pending }) ∧
  ∀ (e : Nat) (x ip m : Bytes) (s u : State), s.packetFree e → s.pop 7 = some (x, u) → field x 0 1 ≠ 2 →
    field (bodyOf (x.drop 16)) 20 2 = 0x0800 → ip = (bodyOf (x.drop 16)).drop 22 → m = (ip.take (field ip 2 2)).drop (ihl ip) →
    ipProto ip = 1 → field m 0 1 = 8 → m.length ≤ 1480 → field ip 16 4 = u.ipAddr → exec (.host e) s = .next
      { u.sendHost (field (bodyOf (x.drop 16)) 6 6) 0x0800 (ipPacket 1 0 64 u.ipAddr (field ip 12 4) []
        (withSum (beBytes 2 0 ++ m.drop 2))) with pending := s.pending }

/-- R250, R251, R252, R253, R257, R260: a calibration run starts at its boundary with the parts asked for, ends with results that wait or
with its abort, and its record reaches the page of the cairn that does not hold the record in force. -/
def Obligations.CalibrationRuns : Prop :=
  (∀ s : State, s.cal.want = 0 ∨ s.atBoundary = false → exec .calRunStart s = .next s) ∧
  (∀ s : State, s.cal.want = 2 → s.atBoundary = true → exec .calRunStart s = .next { s with
    cal := { s.cal with want := 0, run := some 2, startAt := s.clock.cclk, done := 0, lit := false, soak := s.flag Reg.ntcSoak,
                        vmax := s.reg Reg.vledMaxMv, row := s.reg Reg.calRow, out := none, ports := [],
                        full := (List.range 4).map fun c => s.reg (Reg.ifullUa c),
                        portAt := s.clock.cclk + 20000000 + (if s.flag Reg.ntcSoak then 64000000 else 0) } }) ∧
  (∀ s : State, s.storesOk → s.cal.want = 1 → s.atBoundary = true → s.scanSec ≠ [] → s.reg Reg.driveMode ≠ 0 →
    ∃ t, exec .calRunStart s = .next t ∧ t.cal.run = some 1 ∧ t.cal.want = 0 ∧ t.cal.startAt = s.clock.cclk ∧
      t.cal.vmax = s.reg Reg.vledMaxMv ∧ t.cal.row = s.reg Reg.calRow ∧ t.cal.applied = s.cal.applied ∧ t.fbx.on = s.fbx.on ∧
      (s.draughtOn = true → t.reg Reg.draughtState = 1 ∧ t.fbx.den = true ∧ t.fbx.rampAt = some s.clock.cclk)) ∧
  (∀ (p : Nat) (s : State), s.storesOk → s.cal.want = 4 → s.atBoundary = true → p < 3 → s.reg Reg.calPorts = 2 ^ p →
    ∃ t, exec .calRunStart s = .next t ∧ t.cal.run = some 4 ∧ t.cal.want = 0 ∧ t.cal.out = some p ∧ t.cal.ports = [] ∧
      t.reg (Reg.portLinkState p) = 3 ∧ t.cal.applied = s.cal.applied) ∧
  (∀ s : State, s.storesOk → s.cal.want = 4 → s.atBoundary = true → s.reg Reg.calPorts % 8 = 0 → ∃ t, exec .calRunStart s = .next t ∧
    t.reg Reg.calState = 3 ∧ t.reg Reg.abortCause = 6 ∧ t.reg Reg.calRun = 3 ∧ t.cal.run = none ∧ t.cal.want = 0 ∧
    (s.alive = true → Counted 55 s t)) ∧
  (∀ s : State, s.storesOk → bit s.cal.want 0 = true → s.atBoundary = true → s.reg Reg.driveMode = 0 ∨ s.scanSec = [] →
    ∃ t, exec .calRunStart s = .next t ∧ t.reg Reg.calState = 3 ∧ t.reg Reg.abortCause = 4 ∧ t.cal.run = none) ∧
  (∀ (m : CalMeas) (s : State), s.cal.run = none → exec (.calSequenceDone m) s = .next s) ∧
  (∀ (m : CalMeas) (v : Nat) (s : State), s.storesOk → s.cal.run = some v → bit v 0 = true → s.draughtOn = false → m.vled < 2500 →
    ∃ t, exec (.calSequenceDone m) s = .next t ∧ t.reg Reg.calState = 3 ∧ t.reg Reg.abortCause = 7 ∧ t.cal.run = none) ∧
  (∀ (m : CalMeas) (v : Nat) (s : State), s.storesOk → s.alive = true → s.cal.run = some v →
    bit v 0 = false ∨ s.draughtOn = true ∨ 2500 ≤ m.vled →
    ∃ t c, exec (.calSequenceDone m) s = .next t ∧ t.cal.run = none ∧ t.cal.pend = some (v, c) ∧ t.reg Reg.calState = 2 ∧
      t.reg Reg.calRun = 2 ∧ Counted 55 s t ∧ t.cal.applied = s.cal.applied ∧
      (bit v 0 = true → s.cal.done = 0 → t.fbx.den = false ∧ t.fbx.on = false)) ∧
  (∀ (m : CalMeas) (p : Nat) (s : State), s.storesOk → s.cal.run = some 4 → s.cal.done = 0 → s.cal.out = some p → p < 3 →
    s.cal.ports = [] → s.cal.startAt ≤ s.cal.portAt → s.reg (Reg.portLinkState p) = 3 → ∃ t, exec (.calSequenceDone m) s = .next t ∧
      t.reg (Reg.portLinkState p) = (if s.portHeld p then 2 else 0) ∧ t.cal.out = none) ∧
  (∀ s : State, s.cairn.calWrite = none → exec .calRecordWriteDone s = .next s) ∧
  ∀ (r : CalRec) (s : State), s.cairn.calWrite = some r → ∃ t i, exec .calRecordWriteDone s = .next t ∧ i < 2 ∧
    t = { s with cairn := { s.cairn with calWrite := none }, flash := t.flash } ∧
    t.flash = storeBlit flashDefault (storeErase s.flash (s.calPageAt i) 4096) (s.calPageAt i) r.bytes ∧
    (s.calRec 0 = none → i = 0) ∧ (∀ a, s.calRec 0 = some a → s.calRec 1 = none → i = 1) ∧
    ∀ a b, s.calRec 0 = some a → s.calRec 1 = some b → i = if a.gen < b.gen then 0 else 1
end

