-- ==== Sys2Proof/Laws/Store.lean ====
section
/-! SUPPORT. The laws of the sparse stores: what a read gives after a write, and that every operation keeps the canonical
form. -/

namespace Sys2Proof.Machine

variable {α : Type} [DecidableEq α] {d : Nat → α}

/-- A store canonical above `lo` is canonical above every lower bound. -/
theorem storeWfFrom_mono {lo lo' : Nat} (h : lo' ≤ lo) {m : List (Nat × α)} (w : storeWfFrom d lo m = true) :
    storeWfFrom d lo' m = true := by
  cases m with
  | nil => rfl
  | cons p r =>
    simp only [storeWfFrom, Bool.and_eq_true, decide_eq_true_eq] at *
    exact ⟨⟨by omega, w.1.2⟩, w.2⟩

/-- Below its lower bound a canonical store reads its default. -/
theorem storeGet_below {lo a : Nat} (h : a < lo) {m : List (Nat × α)} (w : storeWfFrom d lo m = true) :
    storeGet d m a = d a := by
  cases m with
  | nil => rfl
  | cons p r =>
    simp only [storeWfFrom, Bool.and_eq_true, decide_eq_true_eq] at w
    simp only [storeGet]
    rw [if_neg (by omega), if_pos (by omega)]

theorem storePut_wfFrom {lo a : Nat} (h : lo ≤ a) (v : α) {m : List (Nat × α)} (w : storeWfFrom d lo m = true) :
    storeWfFrom d lo (storePut d m a v) = true := by
  induction m generalizing lo with
  | nil => unfold storePut; split <;> simp_all [storeWfFrom]
  | cons p r ih =>
    simp only [storeWfFrom, Bool.and_eq_true, decide_eq_true_eq] at w
    unfold storePut
    split
    · split <;> simp_all [storeWfFrom]
    · split
      · split
        · exact storeWfFrom_mono (by omega) w.2
        · simp_all [storeWfFrom]
      · simp only [storeWfFrom, Bool.and_eq_true, decide_eq_true_eq]
        exact ⟨w.1, ih (by omega) w.2⟩

/-- A write keeps the canonical form. -/
theorem storePut_wf {m : List (Nat × α)} (w : storeWf d m = true) (a : Nat) (v : α) : storeWf d (storePut d m a v) = true :=
  storePut_wfFrom (Nat.zero_le a) v w

theorem storeGet_storePut_from {lo : Nat} {m : List (Nat × α)} (w : storeWfFrom d lo m = true) (a b : Nat) (v : α) :
    storeGet d (storePut d m a v) b = if b = a then v else storeGet d m b := by
  induction m generalizing lo with
  | nil =>
    unfold storePut
    by_cases hv : v = d a
    · rw [if_pos hv]; simp only [storeGet]
      by_cases hb : b = a
      · rw [if_pos hb, hb, hv]
      · rw [if_neg hb]
    · rw [if_neg hv]; simp only [storeGet]
      by_cases hb : b = a
      · rw [if_pos hb, if_pos hb.symm]
      · rw [if_neg hb, if_neg (Ne.symm hb)]; simp
  | cons p r ih =>
    obtain ⟨k, x⟩ := p
    simp only [storeWfFrom, Bool.and_eq_true, decide_eq_true_eq] at w
    have below : ∀ c, c < k + 1 → storeGet d r c = d c := fun c hc => storeGet_below hc w.2
    have step : storeGet d ((k, x) :: r) b = if k = b then x else storeGet d r b := by
      simp only [storeGet]
      by_cases hk : k = b
      · rw [if_pos hk, if_pos hk]
      · rw [if_neg hk, if_neg hk]
        by_cases hl : b < k
        · rw [if_pos hl, below b (by omega)]
        · rw [if_neg hl]
    unfold storePut
    by_cases h1 : a < k
    · rw [if_pos h1]
      by_cases hv : v = d a
      · rw [if_pos hv, step]
        by_cases hb : b = a
        · rw [if_pos hb, if_neg (by omega), below b (by omega), hb, hv]
        · rw [if_neg hb]
      · rw [if_neg hv]
        show (if a = b then v else if b < a then d b else storeGet d ((k, x) :: r) b) = _
        by_cases hb : b = a
        · rw [if_pos hb, if_pos hb.symm]
        · rw [if_neg hb, if_neg (Ne.symm hb)]
          by_cases hl : b < a
          · rw [if_pos hl, step, if_neg (by omega), below b (by omega)]
          · rw [if_neg hl]
    · rw [if_neg h1]
      by_cases h2 : a = k
      · subst h2
        rw [if_pos rfl, step]
        by_cases hv : v = d a
        · rw [if_pos hv]
          by_cases hb : b = a
          · rw [if_pos hb, below b (by omega), hb, hv]
          · rw [if_neg hb, if_neg (Ne.symm hb)]
        · rw [if_neg hv]
          show (if a = b then v else if b < a then d b else storeGet d r b) = _
          by_cases hb : b = a
          · rw [if_pos hb, if_pos hb.symm]
          · rw [if_neg hb, if_neg (Ne.symm hb), if_neg (Ne.symm hb)]
            by_cases hl : b < a
            · rw [if_pos hl, below b (by omega)]
            · rw [if_neg hl]
      · rw [if_neg h2, step]
        show (if k = b then x else if b < k then d b else storeGet d (storePut d r a v) b) = _
        rw [ih w.2]
        by_cases hk : k = b
        · rw [if_pos hk, if_neg (by omega), if_pos hk]
        · rw [if_neg hk]
          by_cases hl : b < k
          · rw [if_pos hl, if_neg (by omega), if_neg hk, below b (by omega)]
          · rw [if_neg hl, if_neg hk]

/-- A read of the address just written gives the value written. -/
theorem storeGet_storePut {m : List (Nat × α)} (w : storeWf d m = true) (a : Nat) (v : α) :
    storeGet d (storePut d m a v) a = v := by rw [storeGet_storePut_from w, if_pos rfl]

/-- A write leaves every other address as it was. -/
theorem storeGet_storePut_ne {m : List (Nat × α)} (w : storeWf d m = true) {a b : Nat} (h : b ≠ a) (v : α) :
    storeGet d (storePut d m a v) b = storeGet d m b := by rw [storeGet_storePut_from w, if_neg h]

theorem storeWfFrom_filter {lo : Nat} (f : Nat × α → Bool) {m : List (Nat × α)} (w : storeWfFrom d lo m = true) :
    storeWfFrom d lo (m.filter f) = true := by
  induction m generalizing lo with
  | nil => rfl
  | cons p r ih =>
    simp only [storeWfFrom, Bool.and_eq_true, decide_eq_true_eq] at w
    rw [List.filter_cons]
    split
    · simp only [storeWfFrom, Bool.and_eq_true, decide_eq_true_eq]; exact ⟨w.1, ih w.2⟩
    · exact storeWfFrom_mono (by omega) (ih w.2)

/-- Dropping entries keeps the canonical form. -/
theorem storeWf_filter (f : Nat × α → Bool) {m : List (Nat × α)} (w : storeWf d m = true) : storeWf d (m.filter f) = true :=
  storeWfFrom_filter f w

theorem storeWfFrom_filter_to {d' : Nat → α} {lo : Nat} (f : Nat × α → Bool) (hf : ∀ p, f p = true → p.2 ≠ d' p.1)
    {m : List (Nat × α)} (w : storeWfFrom d lo m = true) : storeWfFrom d' lo (m.filter f) = true := by
  induction m generalizing lo with
  | nil => rfl
  | cons p r ih =>
    simp only [storeWfFrom, Bool.and_eq_true, decide_eq_true_eq] at w
    rw [List.filter_cons]
    split
    · simp only [storeWfFrom, Bool.and_eq_true, decide_eq_true_eq]; exact ⟨⟨w.1.1, hf p ‹_›⟩, ih w.2⟩
    · exact storeWfFrom_mono (by omega) (ih w.2)

/-- Dropping every entry equal to a new default makes the store canonical over that default. -/
theorem storeWf_filter_to {d' : Nat → α} (f : Nat × α → Bool) (hf : ∀ p, f p = true → p.2 ≠ d' p.1) {m : List (Nat × α)}
    (w : storeWf d m = true) : storeWf d' (m.filter f) = true :=
  storeWfFrom_filter_to f hf w

/-- An erase keeps the canonical form. -/
theorem storeErase_wf {m : List (Nat × α)} (w : storeWf d m = true) (a n : Nat) : storeWf d (storeErase m a n) = true :=
  storeWf_filter _ w

/-- Two canonical stores one after the other are canonical together. -/
theorem storeWfFrom_append {lo hi : Nat} {m n : List (Nat × α)} (wm : storeWfFrom d lo m = true)
    (hm : ∀ p ∈ m, p.1 < hi) (hn : storeWfFrom d (max lo hi) n = true) : storeWfFrom d lo (m ++ n) = true := by
  induction m generalizing lo with
  | nil => exact storeWfFrom_mono (le_max_left _ _) hn
  | cons p r ih =>
    simp only [storeWfFrom, Bool.and_eq_true, decide_eq_true_eq, List.cons_append] at *
    have hp : p.1 < hi := hm p (by simp)
    refine ⟨wm.1, ih wm.2 (fun q hq => hm q (by simp [hq])) ?_⟩
    rw [show max (p.1 + 1) hi = hi by omega]
    exact storeWfFrom_mono (le_max_right _ _) hn

theorem storeWfFrom_of_ge {lo lo' : Nat} {m : List (Nat × α)} (w : storeWfFrom d lo m = true) (h : ∀ p ∈ m, lo' ≤ p.1) :
    storeWfFrom d lo' m = true := by
  cases m with
  | nil => rfl
  | cons p r => 
    simp only [storeWfFrom, Bool.and_eq_true, decide_eq_true_eq] at *
    exact ⟨⟨h p (by simp), w.1.2⟩, w.2⟩

theorem storeRange_wf (a : Nat) : ∀ (vs : List α) (i : Nat), storeWfFrom d (a + i)
    (((List.range' i vs.length).zip vs).filterMap
      (fun p => if p.2 = d (a + p.1) then none else some (a + p.1, p.2))) = true := by
  intro vs
  induction vs with
  | nil => intro i; rfl
  | cons v r ih =>
    intro i
    have h := ih (i + 1)
    simp only [List.length_cons, List.range'_succ, List.zip_cons_cons, List.filterMap_cons]
    split
    · rename_i hn; exact storeWfFrom_mono (by omega) h
    · rename_i hn
      split at hn
      · simp at hn
      · rename_i hv
        simp only [Option.some.injEq] at hn
        subst hn
        simp only [storeWfFrom, Bool.and_eq_true, decide_eq_true_eq]
        exact ⟨⟨le_refl _, hv⟩, by rw [show a + i + 1 = a + (i + 1) by omega]; exact h⟩

/-- A write of a run of values keeps the canonical form. -/
theorem storeBlit_wf {m : List (Nat × α)} (w : storeWf d m = true) (a : Nat) (vs : List α) :
    storeWf d (storeBlit d m a vs) = true := by
  unfold storeBlit storeWf
  rw [List.append_assoc]
  refine storeWfFrom_append (hi := a) (storeWfFrom_filter _ w) (by simp) ?_
  refine storeWfFrom_append (hi := a + vs.length) ?_ ?_ ?_
  · have h := storeRange_wf (d := d) a vs 0
    rw [← List.range_eq_range'] at h
    simpa using h
  · intro p hp
    simp only [List.mem_filterMap] at hp
    obtain ⟨q, hq, h⟩ := hp
    have := (List.of_mem_zip hq).1
    simp only [List.mem_range] at this
    split at h <;> simp_all
    obtain ⟨rfl, rfl⟩ := h
    simp; omega
  · refine storeWfFrom_of_ge (storeWfFrom_filter _ w) ?_
    intro p hp
    simp only [List.mem_filter, decide_eq_true_eq] at hp
    omega

end Sys2Proof.Machine
end

