-- ==== Sys2Proof/Laws/Good.lean ====
section
/-! SUPPORT. `Good s0 s`: what every operation of the block keeps between an earlier state `s0` and a later one `s`. The lemmas
of this file are the primitives; one lemma for each operation stands in the files `Keep*`. -/

namespace Sys2Proof.Machine

/-- What holds between an earlier state and a later one: the part is the same part, the stores stay canonical, the clock stays
in range, elapsed time never goes back, and nothing sent is taken back. -/
structure Good (s0 s : State) : Prop where
  part : s.part = s0.part
  stores : s0.storesOk → s.storesOk
  clock : s0.clock.ok → s.clock.ok
  cclk : s0.clock.cclk ≤ s.clock.cclk
  sent : s0.sent <:+ s.sent

theorem Good.refl (s : State) : Good s s := ⟨rfl, id, id, le_refl _, List.suffix_refl _⟩

theorem Good.trans {a b c : State} (h : Good a b) (k : Good b c) : Good a c :=
  ⟨k.part.trans h.part, fun x => k.stores (h.stores x), fun x => k.clock (h.clock x), h.cclk.trans k.cclk,
    h.sent.trans k.sent⟩

/-- A change of other fields keeps all. -/
theorem Good.upd {s0 t : State} (h : Good s0 t) {x1} {x2} {x4} {x5} {x6} {x7} {x8} {x9} {x10} {x11} {x12} {x13} {x14} {x15} {x17} {x18} {x19} {x20} {x21} {x22} {x23} {x24} {x25} {x26} {x28} {x29} {x30} {x31} {x32} {x33} {x36} {x37} {x38} :
    Good s0 (State.mk t.regs x1 x2 t.clock x4 x5 x6 x7 x8 x9 x10 x11 x12 x13 x14 x15 t.part x17 x18 x19 x20 x21 x22 x23 x24 x25 x26 t.mem x28 x29 x30 x31 x32 x33 t.flash t.sent x36 x37 x38) := ⟨h.part, h.stores, h.clock, h.cclk, h.sent⟩

theorem Good.mk_iff {s0 t : State} {x1} {x2} {x4} {x5} {x6} {x7} {x8} {x9} {x10} {x11} {x12} {x13} {x14} {x15} {x17} {x18} {x19} {x20} {x21} {x22} {x23} {x24} {x25} {x26} {x28} {x29} {x30} {x31} {x32} {x33} {x36} {x37} {x38} :
    Good s0 (State.mk t.regs x1 x2 t.clock x4 x5 x6 x7 x8 x9 x10 x11 x12 x13 x14 x15 t.part x17 x18 x19 x20 x21 x22 x23 x24 x25 x26 t.mem x28 x29 x30 x31 x32 x33 t.flash t.sent x36 x37 x38) ↔ Good s0 t :=
  ⟨fun h => ⟨h.part, h.stores, h.clock, h.cclk, h.sent⟩, fun h => ⟨h.part, h.stores, h.clock, h.cclk, h.sent⟩⟩

/-- What a pair holds, read off an equation. -/
theorem Good.ofPair {s0 t : State} {α : Type} {p : α × State} {a : α} (e : p = (a, t)) (h : Good s0 p.2) : Good s0 t := by
  subst e; exact h

theorem Good.foldl {s0 s : State} {α : Type} {f : State → α → State} (l : List α) (h : Good s0 s)
    (hf : ∀ t x, Good s0 t → Good s0 (f t x)) : Good s0 (l.foldl f s) := by
  induction l generalizing s with
  | nil => exact h
  | cons x r ih => exact ih (hf s x h)

theorem Good.foldlSnd {s0 : State} {α β : Type} {f : β × State → α → β × State} (l : List α) {p : β × State} (h : Good s0 p.2)
    (hf : ∀ t x, Good s0 t.2 → Good s0 (f t x).2) : Good s0 (l.foldl f p).2 := by
  induction l generalizing p with
  | nil => exact h
  | cons x r ih => exact ih (hf p x h)

theorem Good.ite {s0 a b : State} {c : Prop} [Decidable c] (ha : Good s0 a) (hb : Good s0 b) :
    Good s0 (if c then a else b) := by
  split
  · exact ha
  · exact hb

theorem Good.iteSnd {s0 : State} {α : Type} {a b : α × State} {c : Prop} [Decidable c] (ha : Good s0 a.2) (hb : Good s0 b.2) :
    Good s0 (if c then a else b).2 := by
  split
  · exact ha
  · exact hb

theorem Good.iteThird {s0 : State} {α β : Type} {a b : α × β × State} {c : Prop} [Decidable c] (ha : Good s0 a.2.2)
    (hb : Good s0 b.2.2) : Good s0 (if c then a else b).2.2 := by
  split
  · exact ha
  · exact hb

/-! ### The primitives -/

theorem State.setReg_good {s0 s : State} (h : Good s0 s) (k v : Nat) : Good s0 (s.setReg k v) :=
  ⟨h.part, fun x => ⟨storePut_wf (h.stores x).1 k v, (h.stores x).2⟩, h.clock, h.cclk, h.sent⟩

theorem State.send_good {s0 s : State} (h : Good s0 s) (o : Output) : Good s0 (s.send o) :=
  ⟨h.part, h.stores, h.clock, h.cclk, h.sent.trans (List.suffix_cons _ _)⟩

theorem clockAdvance_ok (n : Nat) (c : ClockSt) : (clockAdvance n c).ok := by
  constructor
  · exact Nat.mod_lt _ (by decide)
  · show (_ % _ : Int).toNat < two32
    have h0 := Int.emod_nonneg ((c.frac : Int) + n * ((two32 : Int) + c.trim)) (show (two32 : Int) ≠ 0 by decide)
    have h1 := Int.emod_lt_of_pos ((c.frac : Int) + n * ((two32 : Int) + c.trim)) (show (0 : Int) < two32 by decide)
    omega

theorem State.pass_good {s0 s : State} (h : Good s0 s) (n : Nat) : Good s0 (s.pass n) :=
  ⟨h.part, h.stores, fun _ => clockAdvance_ok n s.clock, h.cclk.trans (Nat.le_add_right _ _), h.sent⟩

theorem State.shiftClock_good {s0 s : State} (h : Good s0 s) (d : Int) : Good s0 (s.shiftClock d) := by
  refine ⟨h.part, h.stores, fun x => ⟨?_, (h.clock x).2⟩, h.cclk, h.sent⟩
  show (_ % _ : Int).toNat < clockWrap
  have h0 := Int.emod_nonneg ((s.clock.ns : Int) + d) (show (clockWrap : Int) ≠ 0 by decide)
  have h1 := Int.emod_lt_of_pos ((s.clock.ns : Int) + d) (show (0 : Int) < clockWrap by decide)
  omega

/-- A change of the trim keeps all. -/
theorem State.trimmed_good {s0 s : State} (h : Good s0 s) (z : Int) :
    Good s0 { s with clock := { s.clock with trim := z } } := ⟨h.part, h.stores, h.clock, h.cclk, h.sent⟩

theorem State.flashErase_good {s0 s : State} (h : Good s0 s) (a n : Nat) : Good s0 (s.flashErase a n) :=
  ⟨h.part, fun x => ⟨(h.stores x).1, storeErase_wf (h.stores x).2.1 a n, (h.stores x).2.2⟩, h.clock, h.cclk, h.sent⟩

theorem State.flashProgram_good {s0 s : State} (h : Good s0 s) (a : Nat) (bs : Bytes) : Good s0 (s.flashProgram a bs) :=
  ⟨h.part, fun x => ⟨(h.stores x).1, storeBlit_wf (h.stores x).2.1 a bs, (h.stores x).2.2⟩, h.clock, h.cclk, h.sent⟩

theorem State.ramWrite_good {s0 s : State} (h : Good s0 s) (dram : Bool) (a : Nat) (bs : Bytes) :
    Good s0 (s.ramWrite dram a bs) := by
  cases dram
  · exact ⟨h.part, fun x => ⟨(h.stores x).1, (h.stores x).2.1, storeBlit_wf (h.stores x).2.2.1 a bs, (h.stores x).2.2.2⟩,
      h.clock, h.cclk, h.sent⟩
  · exact ⟨h.part, fun x => ⟨(h.stores x).1, (h.stores x).2.1, (h.stores x).2.2.1, storeBlit_wf (h.stores x).2.2.2 a bs⟩,
      h.clock, h.cclk, h.sent⟩

/-- The output tables in force change what the Hearth reads where nothing is listed; the store stays canonical over that. -/
theorem State.lutTables_good {s0 s : State} (h : Good s0 s) (sec : Bytes) : Good s0 (s.lutTables sec) := by
  suffices g : Good s0 { s with mem := s.mem.withTables (if sec.isEmpty then some (s.regionAt 6) else none) (s.regionAt 6) } from
    State.ramWrite_good g _ _ _
  refine ⟨h.part, fun x => ?_, h.clock, h.cclk, h.sent⟩
  refine ⟨(h.stores x).1, (h.stores x).2.1, storeWf_filter_to _ (fun p hp => ?_) (h.stores x).2.2.1, (h.stores x).2.2.2⟩
  rw [Bool.and_eq_true, decide_eq_true_eq] at hp
  exact hp.2

/-- Poisoning a line keeps all. -/
theorem State.poisonAt_good {s0 s : State} (h : Good s0 s) (dram : Bool) (a : Nat) : Good s0 (s.poisonAt dram a) := by
  unfold State.poisonAt
  extract_lets u p
  clear_value p
  split
  · exact h
  · exact ⟨h.part, h.stores, h.clock, h.cclk, h.sent⟩

/-- Entering RESET clears registers and keeps the rest of what `Good` speaks of; Hearth and DRAM go empty. -/
theorem State.cleared_good {s0 s : State} (h : Good s0 s) (byPin ret : Bool) : Good s0 (s.cleared byPin ret) :=
  ⟨h.part, fun x => ⟨storeWf_filter _ (h.stores x).1, (h.stores x).2.1, rfl, rfl⟩, h.clock, h.cclk, h.sent⟩

end Sys2Proof.Machine
end

