-- ==== Sys2Proof/Laws/Keep1.lean ====
section
/-! SUPPORT. Every operation keeps `Good`, part 1 of 4: one lemma for each operation, in the order in which one calls
the other. -/

namespace Sys2Proof.Machine

theorem State.heardOther_good {s0 : State} (x1 : Sys2Proof.Machine.State) (x2 : Nat) (h1 : Good s0 x1) :
    Good s0 (State.heardOther x1 x2) := by
  unfold State.heardOther
  repeat' first
    | with_reducible assumption
    | (intro x)
    | with_reducible apply Good.ite
    | with_reducible apply Good.iteSnd
    | with_reducible apply Good.iteThird
    | simp only [Good.mk_iff]

theorem State.faultAck_good {s0 : State} (x1 : Sys2Proof.Machine.State) (h1 : Good s0 x1) :
    Good s0 (State.faultAck x1) := by
  unfold State.faultAck
  repeat' first
    | with_reducible assumption
    | (intro x)
    | with_reducible apply Good.ite
    | with_reducible apply Good.iteSnd
    | with_reducible apply Good.iteThird
    | simp only [Good.mk_iff]

theorem workHdr_good {s0 : State} (x1 : Sys2Proof.Machine.Task) (x2 : Sys2Proof.Machine.State) (h2 : Good s0 x2) :
    Good s0 (workHdr x1 x2).2 := by
  unfold workHdr
  repeat' first
    | with_reducible assumption
    | (intro x)
    | with_reducible apply Good.ite
    | with_reducible apply Good.iteSnd

theorem State.commitCmd_good {s0 : State} (x1 : Sys2Proof.Machine.State) (h1 : Good s0 x1) :
    Good s0 (State.commitCmd x1) := by
  unfold State.commitCmd
  repeat' first
    | with_reducible assumption
    | (intro x)
    | with_reducible apply Good.ite
    | with_reducible apply Good.iteSnd
    | with_reducible apply Good.iteThird
    | simp only [Good.mk_iff]

theorem State.dropXfer_good {s0 : State} (x1 : Sys2Proof.Machine.State) (x2 : Nat) (h1 : Good s0 x1) :
    Good s0 (State.dropXfer x1 x2) := by
  unfold State.dropXfer
  repeat' first
    | with_reducible assumption
    | (intro x)
    | with_reducible apply Good.ite
    | with_reducible apply Good.iteSnd
    | with_reducible apply Good.iteThird
    | simp only [Good.mk_iff]

theorem State.setCb_good {s0 : State} (x1 : Sys2Proof.Machine.State) (x2 : Nat) (x3 : Sys2Proof.Machine.Carab) (h1 : Good s0 x1) :
    Good s0 (State.setCb x1 x2 x3) := by
  unfold State.setCb
  repeat' first
    | with_reducible assumption
    | (intro x)
    | with_reducible apply Good.ite
    | with_reducible apply Good.iteSnd
    | with_reducible apply Good.iteThird
    | simp only [Good.mk_iff]

theorem State.stageWrite_good {s0 : State} (x1 : Sys2Proof.Machine.State) (x2 : Nat) (x3 : Nat) (h1 : Good s0 x1) :
    Good s0 (State.stageWrite x1 x2 x3) := by
  unfold State.stageWrite
  repeat' first
    | with_reducible assumption
    | (intro x)
    | with_reducible apply Good.ite
    | with_reducible apply Good.iteSnd
    | with_reducible apply Good.iteThird
    | simp only [Good.mk_iff]

theorem State.setXfer_good {s0 : State} (x1 : Sys2Proof.Machine.State) (x2 : Sys2Proof.Machine.Transfer) (h1 : Good s0 x1) :
    Good s0 (State.setXfer x1 x2) := by
  unfold State.setXfer
  repeat' first
    | with_reducible assumption
    | (intro x)
    | with_reducible apply Good.ite
    | with_reducible apply Good.iteSnd
    | with_reducible apply Good.iteThird
    | simp only [Good.mk_iff]

theorem State.scrubPass_good {s0 : State} (x1 : Sys2Proof.Machine.State) (x2 : Bool) (h1 : Good s0 x1) :
    Good s0 (State.scrubPass x1 x2) := by
  unfold State.scrubPass
  repeat' first
    | with_reducible assumption
    | (intro x)
    | with_reducible apply Good.ite
    | with_reducible apply Good.iteSnd
    | with_reducible apply Good.iteThird
    | simp only [Good.mk_iff]

theorem State.setActive_good {s0 : State} (x1 : Sys2Proof.Machine.State) (x2 : Nat) (h1 : Good s0 x1) :
    Good s0 (State.setActive x1 x2) := by
  unfold State.setActive
  repeat' first
    | with_reducible assumption
    | (intro x)
    | with_reducible apply Good.ite
    | with_reducible apply Good.iteSnd
    | with_reducible apply Good.iteThird
    | simp only [Good.mk_iff]

theorem State.timedCancel_good {s0 : State} (x1 : Sys2Proof.Machine.State) (h1 : Good s0 x1) :
    Good s0 (State.timedCancel x1) := by
  unfold State.timedCancel
  repeat' first
    | with_reducible assumption
    | (intro x)
    | with_reducible apply Good.ite
    | with_reducible apply Good.iteSnd
    | with_reducible apply Good.iteThird
    | simp only [Good.mk_iff]

theorem State.giveTask_good {s0 : State} (x1 : Sys2Proof.Machine.State) (x2 : Nat) (x3 : Sys2Proof.Bytes) (h1 : Good s0 x1) :
    Good s0 (State.giveTask x1 x2 x3) := by
  unfold State.giveTask
  repeat' first
    | with_reducible assumption
    | (intro x)
    | with_reducible apply Good.ite
    | with_reducible apply Good.iteSnd
    | with_reducible apply Good.iteThird
    | simp only [Good.mk_iff]

theorem State.touchSession_good {s0 : State} (x1 : Sys2Proof.Machine.State) (x2 : Nat) (h1 : Good s0 x1) :
    Good s0 (State.touchSession x1 x2) := by
  unfold State.touchSession
  repeat' first
    | with_reducible assumption
    | (intro x)
    | with_reducible apply Good.ite
    | with_reducible apply Good.iteSnd
    | with_reducible apply Good.iteThird
    | simp only [Good.mk_iff]

theorem State.setPulse_good {s0 : State} (x1 : Sys2Proof.Machine.State) (x2 : Nat) (x3 : Sys2Proof.Machine.PulseSt) (h1 : Good s0 x1) :
    Good s0 (State.setPulse x1 x2 x3) := by
  unfold State.setPulse
  repeat' first
    | with_reducible assumption
    | (intro x)
    | with_reducible apply Good.ite
    | with_reducible apply Good.iteSnd
    | with_reducible apply Good.iteThird
    | simp only [Good.mk_iff]

theorem State.setStream_good {s0 : State} (x1 : Sys2Proof.Machine.State) (x2 : Nat) (x3 : Sys2Proof.Machine.StreamSt) (h1 : Good s0 x1) :
    Good s0 (State.setStream x1 x2 x3) := by
  unfold State.setStream
  repeat' first
    | with_reducible assumption
    | (intro x)
    | with_reducible apply Good.ite
    | with_reducible apply Good.iteSnd
    | with_reducible apply Good.iteThird
    | simp only [Good.mk_iff]

theorem State.opDomRead_good {s0 : State} (x1 : Sys2Proof.Machine.State) (x2 : Sys2Proof.Machine.Origin) (x3 : Nat) (x4 : Nat) (x5 : Nat) (x6 : Nat) (x7 : Nat) (h1 : Good s0 x1) :
    Good s0 (State.opDomRead x1 x2 x3 x4 x5 x6 x7).2 := by
  unfold State.opDomRead
  repeat' first
    | with_reducible assumption
    | (intro x)
    | with_reducible apply State.setXfer_good
    | with_reducible apply Good.ite
    | with_reducible apply Good.iteSnd
    | with_reducible apply Good.iteThird
    | simp only [Good.mk_iff]
    | split

theorem State.setWin_good {s0 : State} (x1 : Sys2Proof.Machine.State) (x2 : Nat) (x3 : Sys2Proof.Machine.WinSt) (h1 : Good s0 x1) :
    Good s0 (State.setWin x1 x2 x3) := by
  unfold State.setWin
  repeat' first
    | with_reducible assumption
    | (intro x)
    | with_reducible apply Good.ite
    | with_reducible apply Good.iteSnd
    | with_reducible apply Good.iteThird
    | simp only [Good.mk_iff]

theorem State.bootAgain_good {s0 : State} (x1 : Sys2Proof.Machine.State) (h1 : Good s0 x1) :
    Good s0 (State.bootAgain x1) := by
  unfold State.bootAgain
  repeat' first
    | with_reducible assumption
    | (intro x)
    | with_reducible apply Good.ite
    | with_reducible apply Good.iteSnd
    | with_reducible apply Good.iteThird
    | simp only [Good.mk_iff]

theorem State.holdSwitch_good {s0 : State} (x1 : Sys2Proof.Machine.State) (h1 : Good s0 x1) :
    Good s0 (State.holdSwitch x1) := by
  unfold State.holdSwitch
  repeat' first
    | with_reducible assumption
    | (intro x)
    | with_reducible apply Good.ite
    | with_reducible apply Good.iteSnd
    | with_reducible apply Good.iteThird
    | simp only [Good.mk_iff]

theorem State.setLayer_good {s0 : State} (x1 : Sys2Proof.Machine.State) (x2 : Nat) (x3 : Sys2Proof.Machine.LayerSt) (h1 : Good s0 x1) :
    Good s0 (State.setLayer x1 x2 x3) := by
  unfold State.setLayer
  repeat' first
    | with_reducible assumption
    | (intro x)
    | with_reducible apply Good.ite
    | with_reducible apply Good.iteSnd
    | with_reducible apply Good.iteThird
    | simp only [Good.mk_iff]

theorem State.liveWrite_good {s0 : State} (x1 : Sys2Proof.Machine.State) (x2 : Nat) (x3 : Nat) (h1 : Good s0 x1) :
    Good s0 (State.liveWrite x1 x2 x3) := by
  unfold State.liveWrite
  repeat' first
    | with_reducible assumption
    | (intro x)
    | with_reducible apply Good.ite
    | with_reducible apply Good.iteSnd
    | with_reducible apply Good.iteThird
    | simp only [Good.mk_iff]

theorem State.bandNote_good {s0 : State} (x1 : Sys2Proof.Machine.State) (x2 : Sys2Proof.Machine.Sensors) (h1 : Good s0 x1) :
    Good s0 (State.bandNote x1 x2) := by
  unfold State.bandNote
  repeat' first
    | with_reducible assumption
    | (intro x)
    | with_reducible apply Good.foldl
    | with_reducible apply Good.foldlSnd
    | with_reducible apply Good.ite
    | with_reducible apply Good.iteSnd
    | with_reducible apply Good.iteThird
    | simp only [Good.mk_iff]

theorem State.setEngine_good {s0 : State} (x1 : Sys2Proof.Machine.State) (x2 : Nat) (x3 : Sys2Proof.Machine.Engine) (h1 : Good s0 x1) :
    Good s0 (State.setEngine x1 x2 x3) := by
  unfold State.setEngine
  repeat' first
    | with_reducible assumption
    | (intro x)
    | with_reducible apply Good.ite
    | with_reducible apply Good.iteSnd
    | with_reducible apply Good.iteThird
    | simp only [Good.mk_iff]

theorem State.lclBegin_good {s0 : State} (x1 : Sys2Proof.Machine.State) (x2 : Bool) (h1 : Good s0 x1) :
    Good s0 (State.lclBegin x1 x2) := by
  unfold State.lclBegin
  repeat' first
    | with_reducible assumption
    | (intro x)
    | with_reducible apply Good.ite
    | with_reducible apply Good.iteSnd
    | with_reducible apply Good.iteThird
    | simp only [Good.mk_iff]

theorem State.markPreempted_good {s0 : State} (x1 : Sys2Proof.Machine.State) (x2 : Sys2Proof.Machine.FaultSlot) (h1 : Good s0 x1) :
    Good s0 (State.markPreempted x1 x2) := by
  unfold State.markPreempted
  repeat' first
    | with_reducible assumption
    | (intro x)
    | with_reducible apply Good.ite
    | with_reducible apply Good.iteSnd
    | with_reducible apply Good.iteThird
    | simp only [Good.mk_iff]

theorem State.fireboxCleared_good {s0 : State} (x1 : Sys2Proof.Machine.State) (h1 : Good s0 x1) :
    Good s0 (State.fireboxCleared x1) := by
  unfold State.fireboxCleared
  repeat' first
    | with_reducible assumption
    | (intro x)
    | with_reducible apply Good.ite
    | with_reducible apply Good.iteSnd
    | with_reducible apply Good.iteThird
    | simp only [Good.mk_iff]

theorem State.setLoop_good {s0 : State} (x1 : Sys2Proof.Machine.State) (x2 : Nat) (x3 : Sys2Proof.Machine.LoopSt) (h1 : Good s0 x1) :
    Good s0 (State.setLoop x1 x2 x3) := by
  unfold State.setLoop
  repeat' first
    | with_reducible assumption
    | (intro x)
    | with_reducible apply Good.ite
    | with_reducible apply Good.iteSnd
    | with_reducible apply Good.iteThird
    | simp only [Good.mk_iff]

theorem State.emberDone_good {s0 : State} (x1 : Sys2Proof.Machine.State) (x2 : Nat) (h1 : Good s0 x1) :
    Good s0 (State.emberDone x1 x2) := by
  unfold State.emberDone
  repeat' first
    | with_reducible assumption
    | (intro x)
    | with_reducible apply State.setLayer_good
    | with_reducible apply Good.ite

theorem workBands_good {s0 : State} (x1 : Sys2Proof.Machine.Task) (x2 : Sys2Proof.Machine.State) (h2 : Good s0 x2) :
    Good s0 (workBands x1 x2).2 := by
  unfold workBands
  repeat' first
    | with_reducible assumption
    | (intro x)
    | with_reducible apply Good.ite
    | with_reducible apply Good.iteSnd
    | with_reducible apply Good.iteThird
    | simp only [Good.mk_iff]
    | split

theorem State.nextId_good {s0 : State} (x1 : Sys2Proof.Machine.State) (x2 : Nat) (h1 : Good s0 x1) :
    Good s0 (State.nextId x1 x2).2 := by
  unfold State.nextId
  repeat' first
    | with_reducible assumption
    | (intro x)
    | with_reducible apply Good.ite
    | with_reducible apply Good.iteSnd
    | with_reducible apply Good.iteThird
    | simp only [Good.mk_iff]

theorem State.setQueue_good {s0 : State} (x1 : Sys2Proof.Machine.State) (x2 : Nat) (x3 : Sys2Proof.Machine.Queue) (h1 : Good s0 x1) :
    Good s0 (State.setQueue x1 x2 x3) := by
  unfold State.setQueue
  repeat' first
    | with_reducible assumption
    | (intro x)
    | with_reducible apply Good.ite
    | with_reducible apply Good.iteSnd
    | with_reducible apply Good.iteThird
    | simp only [Good.mk_iff]

theorem State.acqResult_good {s0 : State} (x1 : Sys2Proof.Machine.State) (x2 : Sys2Proof.Machine.Origin) (x3 : Nat) (h1 : Good s0 x1) :
    Good s0 (State.acqResult x1 x2 x3) := by
  unfold State.acqResult
  repeat' first
    | with_reducible assumption
    | (intro x)
    | with_reducible apply Good.ite
    | with_reducible apply Good.iteSnd
    | with_reducible apply Good.iteThird
    | simp only [Good.mk_iff]

theorem State.tickClear_good {s0 : State} (x1 : Sys2Proof.Machine.State) (h1 : Good s0 x1) :
    Good s0 (State.tickClear x1) := by
  unfold State.tickClear
  repeat' first
    | with_reducible assumption
    | (intro x)
    | with_reducible apply Good.ite
    | with_reducible apply Good.iteSnd
    | with_reducible apply Good.iteThird
    | simp only [Good.mk_iff]

theorem State.streamRewind_good {s0 : State} (x1 : Sys2Proof.Machine.State) (x2 : Nat) (h1 : Good s0 x1) :
    Good s0 (State.streamRewind x1 x2).2 := by
  unfold State.streamRewind
  repeat' first
    | with_reducible assumption
    | (intro x)
    | with_reducible apply State.setStream_good
    | with_reducible apply Good.ite
    | with_reducible apply Good.iteSnd

theorem State.askBootLoad_good {s0 : State} (x1 : Sys2Proof.Machine.State) (h1 : Good s0 x1) :
    Good s0 (State.askBootLoad x1) := by
  unfold State.askBootLoad
  repeat' first
    | with_reducible assumption
    | (intro x)
    | with_reducible apply Good.ite
    | with_reducible apply Good.iteSnd
    | with_reducible apply Good.iteThird
    | simp only [Good.mk_iff]

theorem State.flueCopy_good {s0 : State} (x1 : Sys2Proof.Machine.State) (x2 : Nat) (x3 : Bool) (h1 : Good s0 x1) :
    Good s0 (State.flueCopy x1 x2 x3) := by
  unfold State.flueCopy
  repeat' first
    | with_reducible assumption
    | (intro x)
    | with_reducible apply Good.ite
    | with_reducible apply Good.iteSnd
    | with_reducible apply Good.iteThird
    | simp only [Good.mk_iff]

theorem State.joinReq_good {s0 : State} (x1 : Sys2Proof.Machine.State) (h1 : Good s0 x1) :
    Good s0 (State.joinReq x1) := by
  unfold State.joinReq
  repeat' first
    | with_reducible assumption
    | (intro x)
    | with_reducible apply Good.ite
    | with_reducible apply Good.iteSnd
    | with_reducible apply Good.iteThird
    | simp only [Good.mk_iff]

theorem State.clearActive_good {s0 : State} (x1 : Sys2Proof.Machine.State) (x2 : Nat) (h1 : Good s0 x1) :
    Good s0 (State.clearActive x1 x2) := by
  unfold State.clearActive
  repeat' first
    | with_reducible assumption
    | (intro x)
    | with_reducible apply Good.ite
    | with_reducible apply Good.iteSnd
    | with_reducible apply Good.iteThird
    | simp only [Good.mk_iff]

theorem State.bmGrant_good {s0 : State} (x1 : Sys2Proof.Machine.State) (x2 : Nat) (h1 : Good s0 x1) :
    Good s0 (State.bmGrant x1 x2) := by
  unfold State.bmGrant
  repeat' first
    | with_reducible assumption
    | (intro x)
    | with_reducible apply Good.ite
    | with_reducible apply Good.iteSnd
    | with_reducible apply Good.iteThird
    | simp only [Good.mk_iff]

theorem State.setRdm_good {s0 : State} (x1 : Sys2Proof.Machine.State) (x2 : Nat) (x3 : Sys2Proof.Machine.RdmSt) (h1 : Good s0 x1) :
    Good s0 (State.setRdm x1 x2 x3) := by
  unfold State.setRdm
  repeat' first
    | with_reducible assumption
    | (intro x)
    | with_reducible apply Good.ite
    | with_reducible apply Good.iteSnd
    | with_reducible apply Good.iteThird
    | simp only [Good.mk_iff]

theorem State.restartMeasuring_good {s0 : State} (x1 : Sys2Proof.Machine.State) (h1 : Good s0 x1) :
    Good s0 (State.restartMeasuring x1) := by
  unfold State.restartMeasuring
  repeat' first
    | with_reducible assumption
    | (intro x)
    | with_reducible apply Good.ite
    | with_reducible apply Good.iteSnd
    | with_reducible apply Good.iteThird
    | simp only [Good.mk_iff]

theorem cmdFail_good {s0 : State} (x1 : Nat) (x2 : Sys2Proof.Machine.State) (h2 : Good s0 x2) :
    Good s0 (cmdFail x1 x2).2.2 := by
  unfold cmdFail
  repeat' first
    | with_reducible assumption

theorem State.bootStart_good {s0 : State} (x1 : Sys2Proof.Machine.State) (x2 : Nat) (h1 : Good s0 x1) :
    Good s0 (State.bootStart x1 x2) := by
  unfold State.bootStart
  repeat' first
    | with_reducible assumption
    | (intro x)
    | with_reducible apply Good.ite
    | with_reducible apply Good.iteSnd
    | with_reducible apply Good.iteThird
    | simp only [Good.mk_iff]

theorem State.setUni_good {s0 : State} (x1 : Sys2Proof.Machine.State) (x2 : Nat) (x3 : Sys2Proof.Machine.UniSt) (h1 : Good s0 x1) :
    Good s0 (State.setUni x1 x2 x3) := by
  unfold State.setUni
  repeat' first
    | with_reducible assumption
    | (intro x)
    | with_reducible apply Good.ite
    | with_reducible apply Good.iteSnd
    | with_reducible apply Good.iteThird
    | simp only [Good.mk_iff]

theorem State.armBreak_good {s0 : State} (x1 : Sys2Proof.Machine.State) (h1 : Good s0 x1) :
    Good s0 (State.armBreak x1) := by
  unfold State.armBreak
  repeat' first
    | with_reducible assumption
    | (intro x)
    | with_reducible apply Good.ite
    | with_reducible apply Good.iteSnd
    | with_reducible apply Good.iteThird
    | simp only [Good.mk_iff]

theorem State.pulseStep_good {s0 : State} (x1 : Sys2Proof.Machine.State) (x2 : Nat) (x3 : Nat) (h1 : Good s0 x1) :
    Good s0 (State.pulseStep x1 x2 x3) := by
  unfold State.pulseStep
  repeat' first
    | with_reducible assumption
    | (intro x)
    | with_reducible apply State.setPulse_good
    | with_reducible apply Good.ite

theorem State.setPdelay_good {s0 : State} (x1 : Sys2Proof.Machine.State) (x2 : Nat) (x3 : Sys2Proof.Machine.PdelaySt) (h1 : Good s0 x1) :
    Good s0 (State.setPdelay x1 x2 x3) := by
  unfold State.setPdelay
  repeat' first
    | with_reducible assumption
    | (intro x)
    | with_reducible apply Good.ite
    | with_reducible apply Good.iteSnd
    | with_reducible apply Good.iteThird
    | simp only [Good.mk_iff]

theorem State.drew_good {s0 : State} (x1 : Sys2Proof.Machine.State) (h1 : Good s0 x1) :
    Good s0 (State.drew x1) := by
  unfold State.drew
  repeat' first
    | with_reducible assumption
    | (intro x)
    | with_reducible apply Good.ite
    | with_reducible apply Good.iteSnd
    | with_reducible apply Good.iteThird
    | simp only [Good.mk_iff]

theorem State.fillLatch_good {s0 : State} (x1 : Sys2Proof.Machine.State) (x2 : Sys2Proof.Machine.FaultRec) (h1 : Good s0 x1) :
    Good s0 (State.fillLatch x1 x2) := by
  unfold State.fillLatch
  repeat' first
    | with_reducible assumption
    | (intro x)
    | with_reducible apply Good.ite
    | with_reducible apply Good.iteSnd
    | with_reducible apply Good.iteThird
    | simp only [Good.mk_iff]

theorem State.nextMsg_good {s0 : State} (x1 : Sys2Proof.Machine.State) (x2 : Nat) (h1 : Good s0 x1) :
    Good s0 (State.nextMsg x1 x2) := by
  unfold State.nextMsg
  repeat' first
    | with_reducible assumption
    | (intro x)
    | with_reducible apply Good.ite
    | with_reducible apply Good.iteSnd
    | with_reducible apply Good.iteThird
    | simp only [Good.mk_iff]

theorem State.ingestAudio_good {s0 : State} (x1 : Sys2Proof.Bytes) (x2 : Sys2Proof.Machine.State) (h2 : Good s0 x2) :
    Good s0 (State.ingestAudio x1 x2) := by
  unfold State.ingestAudio
  repeat' first
    | with_reducible assumption
    | (intro x)
    | with_reducible apply Good.ite
    | with_reducible apply Good.iteSnd
    | with_reducible apply Good.iteThird
    | simp only [Good.mk_iff]
    | split

theorem State.announceAddr_good {s0 : State} (x1 : Sys2Proof.Machine.State) (h1 : Good s0 x1) :
    Good s0 (State.announceAddr x1) := by
  unfold State.announceAddr
  repeat' first
    | with_reducible assumption
    | (intro x)
    | with_reducible apply Good.ite
    | with_reducible apply Good.iteSnd
    | with_reducible apply Good.iteThird
    | simp only [Good.mk_iff]

theorem State.setLamp_good {s0 : State} (x1 : Sys2Proof.Machine.State) (x2 : Nat) (x3 : Nat) (h1 : Good s0 x1) :
    Good s0 (State.setLamp x1 x2 x3) := by
  unfold State.setLamp
  repeat' first
    | with_reducible assumption
    | (intro x)
    | with_reducible apply Good.ite
    | with_reducible apply Good.iteSnd
    | with_reducible apply Good.iteThird
    | simp only [Good.mk_iff]

theorem State.touch_good {s0 : State} (x1 : Sys2Proof.Machine.State) (x2 : Sys2Proof.Machine.Origin) (h1 : Good s0 x1) :
    Good s0 (State.touch x1 x2) := by
  unfold State.touch
  repeat' first
    | with_reducible assumption
    | (intro x)
    | with_reducible apply State.touchSession_good
    | with_reducible apply Good.ite
    | with_reducible apply Good.iteSnd
    | with_reducible apply Good.iteThird
    | simp only [Good.mk_iff]
    | split

theorem State.wantHoldover_good {s0 : State} (x1 : Sys2Proof.Machine.State) (x2 : Nat) (h1 : Good s0 x1) :
    Good s0 (State.wantHoldover x1 x2) := by
  unfold State.wantHoldover
  repeat' first
    | with_reducible assumption
    | (intro x)
    | with_reducible apply Good.ite
    | with_reducible apply Good.iteSnd
    | with_reducible apply Good.iteThird
    | simp only [Good.mk_iff]

theorem cmdOk_good {s0 : State} (x1 : Sys2Proof.Machine.State) (h1 : Good s0 x1) :
    Good s0 (cmdOk x1).2.2 := by
  unfold cmdOk
  repeat' first
    | with_reducible assumption

theorem State.pendLayer_good {s0 : State} (x1 : Sys2Proof.Machine.State) (x2 : Nat) (x3 : List (Nat × Nat)) (h1 : Good s0 x1) :
    Good s0 (State.pendLayer x1 x2 x3) := by
  unfold State.pendLayer
  repeat' first
    | with_reducible assumption
    | (intro x)
    | with_reducible apply State.setLayer_good

theorem State.rescan_good {s0 : State} (x1 : Sys2Proof.Machine.State) (x2 : Nat) (x3 : Nat) (h1 : Good s0 x1) :
    Good s0 (State.rescan x1 x2 x3) := by
  unfold State.rescan
  repeat' first
    | with_reducible assumption
    | (intro x)
    | with_reducible apply Good.ite
    | with_reducible apply Good.iteSnd
    | with_reducible apply Good.iteThird
    | simp only [Good.mk_iff]

theorem State.emberEmpty_good {s0 : State} (x1 : Sys2Proof.Machine.State) (h1 : Good s0 x1) :
    Good s0 (State.emberEmpty x1) := by
  unfold State.emberEmpty
  repeat' first
    | with_reducible assumption
    | (intro x)
    | with_reducible apply Good.ite
    | with_reducible apply Good.iteSnd
    | with_reducible apply Good.iteThird
    | simp only [Good.mk_iff]

theorem State.queueCmd_good {s0 : State} (x1 : Sys2Proof.Machine.State) (x2 : Sys2Proof.Machine.LCmd) (h1 : Good s0 x1) :
    Good s0 (State.queueCmd x1 x2) := by
  unfold State.queueCmd
  repeat' first
    | with_reducible assumption
    | (intro x)
    | with_reducible apply Good.ite
    | with_reducible apply Good.iteSnd
    | with_reducible apply Good.iteThird
    | simp only [Good.mk_iff]

theorem State.opDescribe_good {s0 : State} (x1 : Sys2Proof.Machine.State) (x2 : Sys2Proof.Machine.Role) (x3 : Nat) (x4 : Nat) (h1 : Good s0 x1) :
    Good s0 (State.opDescribe x1 x2 x3 x4).2 := by
  unfold State.opDescribe
  repeat' first
    | with_reducible assumption
    | (intro x)
    | with_reducible apply Good.ite
    | with_reducible apply Good.iteSnd
    | with_reducible apply Good.iteThird
    | simp only [Good.mk_iff]
    | split

theorem State.pulseTick_good {s0 : State} (x1 : Sys2Proof.Machine.State) (x2 : Nat) (h1 : Good s0 x1) :
    Good s0 (State.pulseTick x1 x2) := by
  unfold State.pulseTick
  repeat' first
    | with_reducible assumption
    | (intro x)
    | with_reducible apply State.setPulse_good
    | with_reducible apply Good.ite

theorem State.setSlot_good {s0 : State} (x1 : Sys2Proof.Machine.State) (x2 : Sys2Proof.Machine.FaultSlot) (h1 : Good s0 x1) :
    Good s0 (State.setSlot x1 x2) := by
  unfold State.setSlot
  repeat' first
    | with_reducible assumption
    | (intro x)
    | with_reducible apply Good.ite
    | with_reducible apply Good.iteSnd
    | with_reducible apply Good.iteThird
    | simp only [Good.mk_iff]

theorem State.pulsesStep_good {s0 : State} (x1 : Sys2Proof.Machine.State) (x2 : Nat) (h1 : Good s0 x1) :
    Good s0 (State.pulsesStep x1 x2) := by
  unfold State.pulsesStep
  repeat' first
    | with_reducible assumption
    | (intro x)
    | with_reducible apply State.pulseStep_good
    | with_reducible apply Good.foldl

theorem State.cairnWritten_good {s0 : State} (x1 : Sys2Proof.Machine.State) (h1 : Good s0 x1) :
    Good s0 (State.cairnWritten x1) := by
  unfold State.cairnWritten
  repeat' first
    | with_reducible assumption
    | (intro x)
    | with_reducible apply Good.ite
    | with_reducible apply Good.iteSnd
    | with_reducible apply Good.iteThird
    | simp only [Good.mk_iff]
    | split

theorem State.rotate_good {s0 : State} (x1 : Sys2Proof.Machine.State) (h1 : Good s0 x1) :
    Good s0 (State.rotate x1) := by
  unfold State.rotate
  repeat' first
    | with_reducible assumption
    | (intro x)
    | with_reducible apply Good.ite
    | with_reducible apply Good.iteSnd
    | with_reducible apply Good.iteThird
    | simp only [Good.mk_iff]

theorem State.judgeLamp_good {s0 : State} (x1 : Sys2Proof.Machine.State) (x2 : Nat) (x3 : Nat) (x4 : Bool) (x5 : Sys2Proof.Machine.Verdicts) (h1 : Good s0 x1) :
    Good s0 (State.judgeLamp x1 x2 x3 x4 x5).2 := by
  unfold State.judgeLamp
  repeat' first
    | with_reducible assumption
    | (intro x)
    | with_reducible apply State.setLamp_good
    | with_reducible apply Good.ite
    | with_reducible apply Good.iteSnd
    | with_reducible apply Good.iteThird
    | simp only [Good.mk_iff]
    | split

theorem State.streamMark_good {s0 : State} (x1 : Sys2Proof.Machine.State) (x2 : Nat) (h1 : Good s0 x1) :
    Good s0 (State.streamMark x1 x2) := by
  unfold State.streamMark
  repeat' first
    | with_reducible assumption
    | (intro x)
    | with_reducible apply State.setStream_good
    | with_reducible apply Good.ite
    | with_reducible apply Good.iteSnd
    | with_reducible apply Good.iteThird
    | simp only [Good.mk_iff]
    | split

theorem State.setRas_good {s0 : State} (x1 : Sys2Proof.Machine.State) (x2 : Sys2Proof.Machine.RasterSt) (h1 : Good s0 x1) :
    Good s0 (State.setRas x1 x2) := by
  unfold State.setRas
  repeat' first
    | with_reducible assumption
    | (intro x)
    | with_reducible apply Good.ite
    | with_reducible apply Good.iteSnd
    | with_reducible apply Good.iteThird
    | simp only [Good.mk_iff]

theorem State.firstClear_good {s0 : State} (x1 : Sys2Proof.Machine.State) (h1 : Good s0 x1) :
    Good s0 (State.firstClear x1) := by
  unfold State.firstClear
  repeat' first
    | with_reducible assumption
    | (intro x)
    | with_reducible apply Good.ite
    | with_reducible apply Good.iteSnd
    | with_reducible apply Good.iteThird
    | simp only [Good.mk_iff]

theorem State.cairnField_good {s0 : State} (x1 : Sys2Proof.Machine.State) (x2 : Nat) (x3 : Nat) (h1 : Good s0 x1) :
    Good s0 (State.cairnField x1 x2 x3) := by
  unfold State.cairnField
  repeat' first
    | with_reducible assumption
    | (intro x)
    | with_reducible apply Good.ite
    | with_reducible apply Good.iteSnd
    | with_reducible apply Good.iteThird
    | simp only [Good.mk_iff]

theorem State.lclSample_good {s0 : State} (x1 : Sys2Proof.Machine.State) (x2 : Bool) (h1 : Good s0 x1) :
    Good s0 (State.lclSample x1 x2) := by
  unfold State.lclSample
  repeat' first
    | with_reducible assumption
    | (intro x)
    | with_reducible apply State.lclBegin_good
    | with_reducible apply Good.ite
    | with_reducible apply Good.iteSnd
    | with_reducible apply Good.iteThird
    | simp only [Good.mk_iff]

theorem State.missStep_good {s0 : State} (x1 : Sys2Proof.Machine.State) (h1 : Good s0 x1) :
    Good s0 (State.missStep x1) := by
  unfold State.missStep
  repeat' first
    | with_reducible assumption
    | (intro x)
    | with_reducible apply State.setStream_good
    | with_reducible apply Good.foldl

theorem State.rdmReq_good {s0 : State} (x1 : Sys2Proof.Machine.State) (x2 : Sys2Proof.Bytes) (h1 : Good s0 x1) :
    Good s0 (State.rdmReq x1 x2) := by
  unfold State.rdmReq
  repeat' first
    | with_reducible assumption
    | (intro x)
    | with_reducible apply State.setRdm_good

theorem State.lateIn_good {s0 : State} (x1 : Sys2Proof.Machine.State) (h1 : Good s0 x1) :
    Good s0 (State.lateIn x1) := by
  unfold State.lateIn
  repeat' first
    | with_reducible assumption
    | (intro x)
    | with_reducible apply Good.ite
    | with_reducible apply Good.iteSnd
    | with_reducible apply Good.iteThird
    | simp only [Good.mk_iff]

theorem State.acceptStep_good {s0 : State} (x1 : Sys2Proof.Machine.State) (h1 : Good s0 x1) :
    Good s0 (State.acceptStep x1) := by
  unfold State.acceptStep
  repeat' first
    | with_reducible assumption
    | (intro x)
    | with_reducible apply Good.ite
    | with_reducible apply Good.iteSnd
    | with_reducible apply Good.iteThird
    | simp only [Good.mk_iff]

theorem State.darkRelease_good {s0 : State} (x1 : Sys2Proof.Machine.State) (h1 : Good s0 x1) :
    Good s0 (State.darkRelease x1).2 := by
  unfold State.darkRelease
  repeat' first
    | with_reducible assumption
    | (intro x)
    | with_reducible apply Good.ite
    | with_reducible apply Good.iteSnd
    | with_reducible apply Good.iteThird
    | simp only [Good.mk_iff]

theorem State.storeLines_good {s0 : State} (x1 : State) (x2 : Bytes) (x3 : Nat) (x4 : List (Nat × Nat × Nat)) (x5 : Bytes)
    (h1 : Good s0 x1) : Good s0 (State.storeLines x1 x2 x3 x4 x5) := by
  induction x4 generalizing x1 x5 with
  | nil => exact h1
  | cons h r ih => exact ih _ _ (State.ramWrite_good h1 _ _ _)

theorem State.setServo_good {s0 : State} (x1 : Sys2Proof.Machine.State) (x2 : Nat) (h1 : Good s0 x1) :
    Good s0 (State.setServo x1 x2) := by
  unfold State.setServo
  repeat' first
    | with_reducible assumption
    | (intro x)
    | with_reducible apply State.setReg_good
    | with_reducible apply State.armBreak_good
    | with_reducible apply State.clearActive_good
    | with_reducible apply Good.ite
    | with_reducible apply Good.iteSnd
    | with_reducible apply Good.iteThird
    | simp only [Good.mk_iff]

theorem State.clearOnes_good {s0 : State} (x1 : Sys2Proof.Machine.State) (x2 : Nat) (x3 : Nat) (h1 : Good s0 x1) :
    Good s0 (State.clearOnes x1 x2 x3) := by
  unfold State.clearOnes
  repeat' first
    | with_reducible assumption
    | (intro x)
    | with_reducible apply State.setReg_good

theorem State.installLevels_good {s0 : State} (x1 : Sys2Proof.Machine.State) (x2 : Sys2Proof.Machine.Topo) (h1 : Good s0 x1) :
    Good s0 (State.installLevels x1 x2) := by
  unfold State.installLevels
  repeat' first
    | with_reducible assumption
    | (intro x)
    | with_reducible apply Good.ite
    | with_reducible apply Good.iteSnd
    | with_reducible apply Good.iteThird
    | simp only [Good.mk_iff]

theorem State.takeSegment_good {s0 : State} (x1 : Sys2Proof.Machine.State) (x2 : Nat) (x3 : Nat) (h1 : Good s0 x1) :
    Good s0 (State.takeSegment x1 x2 x3) := by
  unfold State.takeSegment
  repeat' first
    | with_reducible assumption
    | (intro x)
    | with_reducible apply State.setReg_good
    | with_reducible apply State.announceAddr_good
    | with_reducible apply Good.ite
    | with_reducible apply Good.iteSnd
    | with_reducible apply Good.iteThird
    | simp only [Good.mk_iff]

theorem State.dropHand_good {s0 : State} (x1 : Sys2Proof.Machine.State) (x2 : Nat) (h1 : Good s0 x1) :
    Good s0 (State.dropHand x1 x2) := by
  unfold State.dropHand
  repeat' first
    | with_reducible assumption
    | (intro x)
    | with_reducible apply Good.ite
    | with_reducible apply Good.iteSnd
    | with_reducible apply Good.iteThird
    | simp only [Good.mk_iff]

theorem State.mastersLost_good {s0 : State} (x1 : Sys2Proof.Machine.State) (h1 : Good s0 x1) :
    Good s0 (State.mastersLost x1) := by
  unfold State.mastersLost
  repeat' first
    | with_reducible assumption
    | (intro x)
    | with_reducible apply State.setReg_good
    | with_reducible apply Good.ite
    | with_reducible apply Good.iteSnd
    | with_reducible apply Good.iteThird
    | simp only [Good.mk_iff]

theorem State.setLinkDelay_good {s0 : State} (x1 : Sys2Proof.Machine.State) (x2 : Nat) (x3 : Int) (h1 : Good s0 x1) :
    Good s0 (State.setLinkDelay x1 x2 x3) := by
  unfold State.setLinkDelay
  repeat' first
    | with_reducible assumption
    | (intro x)
    | with_reducible apply State.setReg_good

theorem workNop_good {s0 : State} (x1 : Sys2Proof.Machine.Task) (x2 : Sys2Proof.Machine.State) (h2 : Good s0 x2) :
    Good s0 (workNop x1 x2).2 := by
  unfold workNop
  repeat' first
    | with_reducible assumption

theorem cmdRun_good {s0 : State} (x1 : Sys2Proof.Machine.State) (h1 : Good s0 x1) :
    Good s0 (cmdRun x1).2.2 := by
  unfold cmdRun
  repeat' first
    | with_reducible assumption

theorem State.setTrim_good {s0 : State} (x1 : State) (x2 : Int) (h1 : Good s0 x1) :
    Good s0 (State.setTrim x1 x2) := by
  exact State.setReg_good (State.trimmed_good h1 _) _ _

theorem State.withFetchWord_good {s0 : State} (x1 : Sys2Proof.Machine.State) (x2 : Nat) (x3 : Nat) (h1 : Good s0 x1) :
    Good s0 (State.withFetchWord x1 x2 x3) := by
  unfold State.withFetchWord
  repeat' first
    | with_reducible assumption
    | (intro x)
    | with_reducible apply Good.ite
    | with_reducible apply Good.iteSnd
    | with_reducible apply Good.iteThird
    | simp only [Good.mk_iff]
    | split

theorem outOf_good {s0 : State} (x1 : Nat × Sys2Proof.Machine.State) (h1 : Good s0 x1.2) :
    Good s0 (outOf x1).2 := by
  unfold outOf
  repeat' first
    | with_reducible assumption

theorem State.emberLine_good {s0 : State} (x1 : Sys2Proof.Machine.State) (x2 : Nat) (x3 : Nat) (h1 : Good s0 x1) :
    Good s0 (State.emberLine x1 x2 x3) := by
  unfold State.emberLine
  repeat' first
    | with_reducible assumption
    | (intro x)
    | with_reducible apply State.ramWrite_good
    | with_reducible apply Good.ite

theorem State.driveFigures_good {s0 : State} (x1 : Sys2Proof.Machine.State) (h1 : Good s0 x1) :
    Good s0 (State.driveFigures x1) := by
  unfold State.driveFigures
  repeat' first
    | with_reducible assumption
    | (intro x)
    | with_reducible apply State.setReg_good

theorem State.reqStagingCmd_good {s0 : State} (x1 : Sys2Proof.Machine.State) (x2 : Sys2Proof.Machine.LCmd) (h1 : Good s0 x1) :
    Good s0 (State.reqStagingCmd x1 x2).2.2 := by
  unfold State.reqStagingCmd
  repeat' first
    | with_reducible assumption
    | (intro x)
    | with_reducible apply cmdRun_good
    | with_reducible apply cmdFail_good
    | with_reducible apply Good.ite
    | with_reducible apply Good.iteSnd
    | with_reducible apply Good.iteThird
    | simp only [Good.mk_iff]

theorem State.setRing_good {s0 : State} (x1 : Sys2Proof.Machine.State) (x2 : Nat) (h1 : Good s0 x1) :
    Good s0 (State.setRing x1 x2) := by
  unfold State.setRing
  repeat' first
    | with_reducible assumption
    | (intro x)
    | with_reducible apply State.setReg_good
    | with_reducible apply State.clearActive_good
    | with_reducible apply Good.ite
    | with_reducible apply Good.iteSnd
    | with_reducible apply Good.iteThird
    | simp only [Good.mk_iff]

theorem State.setEci_good {s0 : State} (x1 : Sys2Proof.Machine.State) (x2 : Nat) (x3 : Sys2Proof.Machine.EciSt) (h1 : Good s0 x1) :
    Good s0 (State.setEci x1 x2 x3) := by
  unfold State.setEci
  repeat' first
    | with_reducible assumption
    | (intro x)
    | with_reducible apply Good.ite
    | with_reducible apply Good.iteSnd
    | with_reducible apply Good.iteThird
    | simp only [Good.mk_iff]

theorem State.setSpill_good {s0 : State} (x1 : Sys2Proof.Machine.State) (x2 : Nat) (x3 : Sys2Proof.Machine.Spill) (h1 : Good s0 x1) :
    Good s0 (State.setSpill x1 x2 x3) := by
  unfold State.setSpill
  repeat' first
    | with_reducible assumption
    | (intro x)
    | with_reducible apply Good.ite
    | with_reducible apply Good.iteSnd
    | with_reducible apply Good.iteThird
    | simp only [Good.mk_iff]

theorem State.window_good {s0 : State} (x1 : Sys2Proof.Machine.State) (x2 : Int) (h1 : Good s0 x1) :
    Good s0 (State.window x1 x2) := by
  unfold State.window
  repeat' first
    | with_reducible assumption
    | (intro x)
    | with_reducible apply Good.ite
    | with_reducible apply Good.iteSnd
    | with_reducible apply Good.iteThird
    | simp only [Good.mk_iff]

theorem State.belowMax_good {s0 : State} (x1 : Sys2Proof.Machine.State) (x2 : Nat) (h1 : Good s0 x1) :
    Good s0 (State.belowMax x1 x2) := by
  unfold State.belowMax
  repeat' first
    | with_reducible assumption
    | (intro x)
    | with_reducible apply State.clearActive_good
    | with_reducible apply Good.ite

theorem State.drawWord_good {s0 : State} (x1 : Sys2Proof.Machine.State) (x2 : Nat) (h1 : Good s0 x1) :
    Good s0 (State.drawWord x1 x2).2 := by
  unfold State.drawWord
  repeat' first
    | with_reducible assumption
    | (intro x)
    | with_reducible apply State.drew_good
    | with_reducible apply Good.ite
    | with_reducible apply Good.iteSnd
    | with_reducible apply Good.iteThird
    | simp only [Good.mk_iff]
    | split

theorem State.noteReport_good {s0 : State} (x1 : Sys2Proof.Machine.State) (x2 : Nat) (x3 : Sys2Proof.Bytes) (h1 : Good s0 x1) :
    Good s0 (State.noteReport x1 x2 x3) := by
  unfold State.noteReport
  repeat' first
    | with_reducible assumption
    | (intro x)
    | with_reducible apply Good.foldl
    | with_reducible apply Good.foldlSnd
    | with_reducible apply Good.ite
    | with_reducible apply Good.iteSnd
    | with_reducible apply Good.iteThird
    | simp only [Good.mk_iff]

theorem State.lampEnd_good {s0 : State} (x1 : Nat) (x2 : Sys2Proof.Machine.Verdicts × Sys2Proof.Machine.State) (h2 : Good s0 x2.2) :
    Good s0 (State.lampEnd x1 x2).2 := by
  unfold State.lampEnd
  repeat' first
    | with_reducible assumption
    | (intro x)
    | with_reducible apply State.judgeLamp_good
    | with_reducible apply Good.ite
    | with_reducible apply Good.iteSnd
    | with_reducible apply Good.iteThird
    | simp only [Good.mk_iff]
    | split

theorem State.freezeLine_good {s0 : State} (x1 : Sys2Proof.Machine.State) (x2 : Nat) (h1 : Good s0 x1) :
    Good s0 (State.freezeLine x1 x2) := by
  unfold State.freezeLine
  repeat' first
    | with_reducible assumption
    | (intro x)
    | with_reducible apply State.setRas_good
    | with_reducible apply Good.foldl
    | with_reducible apply Good.foldlSnd
    | with_reducible apply Good.ite

theorem State.installFirebox_good {s0 : State} (x1 : Sys2Proof.Machine.State) (x2 : Bool) (h1 : Good s0 x1) :
    Good s0 (State.installFirebox x1 x2) := by
  unfold State.installFirebox
  repeat' first
    | with_reducible assumption
    | (intro x)
    | with_reducible apply State.fireboxCleared_good
    | with_reducible apply Good.ite
    | with_reducible apply Good.iteSnd
    | with_reducible apply Good.iteThird
    | simp only [Good.mk_iff]

theorem State.dropRun_good {s0 : State} (x1 : Sys2Proof.Machine.State) (h1 : Good s0 x1) :
    Good s0 (State.dropRun x1) := by
  unfold State.dropRun
  repeat' first
    | with_reducible assumption
    | (intro x)
    | with_reducible apply Good.ite
    | with_reducible apply Good.iteSnd
    | with_reducible apply Good.iteThird
    | simp only [Good.mk_iff]

theorem State.setLink_good {s0 : State} (x1 : Sys2Proof.Machine.State) (x2 : Nat) (x3 : Sys2Proof.Machine.LinkSt) (h1 : Good s0 x1) :
    Good s0 (State.setLink x1 x2 x3) := by
  unfold State.setLink
  repeat' first
    | with_reducible assumption
    | (intro x)
    | with_reducible apply Good.ite
    | with_reducible apply Good.iteSnd
    | with_reducible apply Good.iteThird
    | simp only [Good.mk_iff]

theorem State.setPort_good {s0 : State} (x1 : Sys2Proof.Machine.State) (x2 : Nat) (x3 : Sys2Proof.Machine.PortSt) (h1 : Good s0 x1) :
    Good s0 (State.setPort x1 x2 x3) := by
  unfold State.setPort
  repeat' first
    | with_reducible assumption
    | (intro x)
    | with_reducible apply Good.ite
    | with_reducible apply Good.iteSnd
    | with_reducible apply Good.iteThird
    | simp only [Good.mk_iff]

theorem State.tsqClear_good {s0 : State} (x1 : Sys2Proof.Machine.State) (x2 : Nat) (h1 : Good s0 x1) :
    Good s0 (State.tsqClear x1 x2) := by
  unfold State.tsqClear
  repeat' first
    | with_reducible assumption
    | (intro x)
    | with_reducible apply State.setPort_good

theorem State.levelGroups_good {s0 : State} (x1 : Sys2Proof.Machine.State) (h1 : Good s0 x1) :
    Good s0 (State.levelGroups x1) := by
  unfold State.levelGroups
  repeat' first
    | with_reducible assumption
    | (intro x)
    | with_reducible apply Good.ite
    | with_reducible apply Good.iteSnd
    | with_reducible apply Good.iteThird
    | simp only [Good.mk_iff]

theorem State.darkPinHigh_good {s0 : State} (x1 : Sys2Proof.Machine.State) (h1 : Good s0 x1) :
    Good s0 (State.darkPinHigh x1) := by
  unfold State.darkPinHigh
  repeat' first
    | with_reducible assumption
    | (intro x)
    | with_reducible apply Good.ite
    | with_reducible apply Good.iteSnd
    | with_reducible apply Good.iteThird
    | simp only [Good.mk_iff]

theorem State.seeDepth_good {s0 : State} (x1 : Sys2Proof.Machine.State) (x2 : Nat) (x3 : Nat) (h1 : Good s0 x1) :
    Good s0 (State.seeDepth x1 x2 x3) := by
  unfold State.seeDepth
  repeat' first
    | with_reducible assumption
    | (intro x)
    | with_reducible apply Good.ite
    | with_reducible apply Good.iteSnd
    | with_reducible apply Good.iteThird
    | simp only [Good.mk_iff]

theorem State.calLoad_good {s0 : State} (x1 : Sys2Proof.Machine.State) (x2 : Bool) (h1 : Good s0 x1) :
    Good s0 (State.calLoad x1 x2) := by
  unfold State.calLoad
  repeat' first
    | with_reducible assumption
    | (intro x)
    | with_reducible apply State.setReg_good
    | with_reducible apply Good.ite
    | with_reducible apply Good.iteSnd
    | with_reducible apply Good.iteThird
    | simp only [Good.mk_iff]
    | split

theorem State.installStreams_good {s0 : State} (x1 : Sys2Proof.Machine.State) (x2 : Sys2Proof.Machine.Topo) (x3 : Option Sys2Proof.Machine.Topo) (x4 : Bool) (h1 : Good s0 x1) :
    Good s0 (State.installStreams x1 x2 x3 x4) := by
  unfold State.installStreams
  repeat' first
    | with_reducible assumption
    | (intro x)
    | with_reducible apply Good.ite
    | with_reducible apply Good.iteSnd
    | with_reducible apply Good.iteThird
    | simp only [Good.mk_iff]

theorem State.dropArming_good {s0 : State} (x1 : Sys2Proof.Machine.State) (h1 : Good s0 x1) :
    Good s0 (State.dropArming x1) := by
  unfold State.dropArming
  repeat' first
    | with_reducible assumption
    | (intro x)
    | with_reducible apply Good.ite
    | with_reducible apply Good.iteSnd
    | with_reducible apply Good.iteThird
    | simp only [Good.mk_iff]

theorem State.eraseTarget_good {s0 : State} (x1 : Sys2Proof.Machine.State) (x2 : Nat) (x3 : Nat) (x4 : Nat) (h1 : Good s0 x1) :
    Good s0 (State.eraseTarget x1 x2 x3 x4) := by
  unfold State.eraseTarget
  repeat' first
    | with_reducible assumption
    | (intro x)
    | with_reducible apply State.flashErase_good
    | with_reducible apply State.rescan_good
    | with_reducible apply State.setReg_good
    | with_reducible apply Good.ite
    | with_reducible apply Good.iteSnd
    | with_reducible apply Good.iteThird
    | simp only [Good.mk_iff]
    | split

theorem State.unstall_good {s0 : State} (x1 : Sys2Proof.Machine.State) (x2 : Nat) (x3 : Nat) (h1 : Good s0 x1) :
    Good s0 (State.unstall x1 x2 x3) := by
  unfold State.unstall
  repeat' first
    | with_reducible assumption
    | (intro x)
    | with_reducible apply State.setSpill_good
    | with_reducible apply State.setQueue_good
    | with_reducible apply Good.ite
    | with_reducible apply Good.iteSnd
    | with_reducible apply Good.iteThird
    | simp only [Good.mk_iff]
    | split

theorem State.storeCompact_good {s0 : State} (x1 : Sys2Proof.Machine.State) (h1 : Good s0 x1) :
    Good s0 (State.storeCompact x1) := by
  unfold State.storeCompact
  repeat' first
    | with_reducible assumption
    | (intro x)
    | with_reducible apply State.ramWrite_good
    | with_reducible apply Good.foldl
    | with_reducible apply Good.foldlSnd
    | with_reducible apply Good.ite
    | with_reducible apply Good.iteSnd
    | with_reducible apply Good.iteThird
    | simp only [Good.mk_iff]

theorem State.stallOn_good {s0 : State} (x1 : Sys2Proof.Machine.State) (x2 : Nat) (x3 : Sys2Proof.Machine.Reader) (h1 : Good s0 x1) :
    Good s0 (State.stallOn x1 x2 x3) := by
  unfold State.stallOn
  repeat' first
    | with_reducible assumption
    | (intro x)
    | with_reducible apply State.setSpill_good
    | with_reducible apply State.setQueue_good
    | with_reducible apply Good.ite
    | with_reducible apply Good.iteSnd
    | with_reducible apply Good.iteThird
    | simp only [Good.mk_iff]
    | split

theorem State.endNotes_good {s0 : State} (x1 : Sys2Proof.Machine.State) (h1 : Good s0 x1) :
    Good s0 (State.endNotes x1) := by
  unfold State.endNotes
  repeat' first
    | with_reducible assumption
    | (intro x)
    | with_reducible apply State.setLayer_good
    | with_reducible apply State.missStep_good
    | with_reducible apply Good.foldl

theorem State.bootLoad_good {s0 : State} (x1 : Sys2Proof.Machine.State) (h1 : Good s0 x1) :
    Good s0 (State.bootLoad x1) := by
  unfold State.bootLoad
  repeat' first
    | with_reducible assumption
    | (intro x)
    | with_reducible apply State.setReg_good
    | with_reducible apply Good.ite
    | with_reducible apply Good.iteSnd
    | with_reducible apply Good.iteThird
    | simp only [Good.mk_iff]

theorem State.emptyQueue_good {s0 : State} (x1 : Sys2Proof.Machine.State) (x2 : Nat) (h1 : Good s0 x1) :
    Good s0 (State.emptyQueue x1 x2) := by
  unfold State.emptyQueue
  repeat' first
    | with_reducible assumption
    | (intro x)
    | with_reducible apply State.setQueue_good
    | with_reducible apply Good.ite
    | with_reducible apply Good.iteSnd
    | with_reducible apply Good.iteThird
    | simp only [Good.mk_iff]
    | split

theorem State.reach_good {s0 : State} (x1 : Sys2Proof.Machine.State) (x2 : Nat) (h1 : Good s0 x1) :
    Good s0 (State.reach x1 x2) := by
  unfold State.reach
  repeat' first
    | with_reducible assumption
    | (intro x)
    | with_reducible apply State.pass_good

theorem State.ringUpdate_good {s0 : State} (x1 : Sys2Proof.Machine.State) (h1 : Good s0 x1) :
    Good s0 (State.ringUpdate x1) := by
  unfold State.ringUpdate
  repeat' first
    | with_reducible assumption
    | (intro x)
    | with_reducible apply State.setRing_good
    | with_reducible apply Good.ite

theorem State.cmdState_good {s0 : State} (x1 : Sys2Proof.Machine.State) (x2 : Nat) (x3 : Nat) (h1 : Good s0 x1) :
    Good s0 (State.cmdState x1 x2 x3) := by
  unfold State.cmdState
  repeat' first
    | with_reducible assumption
    | (intro x)
    | with_reducible apply State.setReg_good

theorem State.drawInt_good {s0 : State} (x1 : Sys2Proof.Machine.State) (h1 : Good s0 x1) :
    Good s0 (State.drawInt x1).2 := by
  unfold State.drawInt
  repeat' first
    | with_reducible assumption
    | (intro x)
    | with_reducible apply State.drew_good
    | with_reducible apply Good.ite
    | with_reducible apply Good.iteSnd
    | with_reducible apply Good.iteThird
    | simp only [Good.mk_iff]
    | split

theorem State.pollIn_good {s0 : State} (x1 : Sys2Proof.Machine.State) (x2 : Bool) (x3 : Nat) (h1 : Good s0 x1) :
    Good s0 (State.pollIn x1 x2 x3) := by
  unfold State.pollIn
  repeat' first
    | with_reducible assumption
    | (intro x)
    | with_reducible apply State.lclSample_good
    | with_reducible apply State.send_good
    | with_reducible apply Good.ite

theorem State.fetchIn_good {s0 : State} (x1 : Sys2Proof.Machine.State) (x2 : Bool) (h1 : Good s0 x1) :
    Good s0 (State.fetchIn x1 x2) := by
  unfold State.fetchIn
  repeat' first
    | with_reducible assumption
    | (intro x)
    | with_reducible apply State.lclSample_good
    | with_reducible apply State.send_good
    | with_reducible apply Good.ite
    | with_reducible apply Good.iteSnd
    | with_reducible apply Good.iteThird
    | simp only [Good.mk_iff]

theorem State.bpSettle_good {s0 : State} (x1 : Sys2Proof.Machine.State) (x2 : Nat) (h1 : Good s0 x1) :
    Good s0 (State.bpSettle x1 x2) := by
  unfold State.bpSettle
  repeat' first
    | with_reducible assumption
    | (intro x)
    | with_reducible apply State.setSpill_good
    | with_reducible apply State.setQueue_good
    | with_reducible apply Good.ite
    | with_reducible apply Good.iteSnd
    | with_reducible apply Good.iteThird
    | simp only [Good.mk_iff]
    | split

theorem State.clearHigh_good {s0 : State} (x1 : Sys2Proof.Machine.State) (x2 : Nat) (h1 : Good s0 x1) :
    Good s0 (State.clearHigh x1 x2) := by
  unfold State.clearHigh
  repeat' first
    | with_reducible assumption
    | (intro x)
    | with_reducible apply State.setSpill_good
    | with_reducible apply State.setQueue_good
    | with_reducible apply State.setReg_good
    | with_reducible apply State.setStream_good
    | with_reducible apply Good.ite
    | with_reducible apply Good.iteSnd
    | with_reducible apply Good.iteThird
    | simp only [Good.mk_iff]
    | split

theorem State.switchCmd_good {s0 : State} (x1 : Sys2Proof.Machine.State) (h1 : Good s0 x1) :
    Good s0 (State.switchCmd x1).2.2 := by
  unfold State.switchCmd
  repeat' first
    | with_reducible assumption
    | (intro x)
    | with_reducible apply cmdRun_good
    | with_reducible apply cmdFail_good
    | with_reducible apply Good.ite
    | with_reducible apply Good.iteSnd
    | with_reducible apply Good.iteThird
    | simp only [Good.mk_iff]

theorem State.lampClear_good {s0 : State} (x1 : Sys2Proof.Machine.State) (x2 : Nat) (h1 : Good s0 x1) :
    Good s0 (State.lampClear x1 x2) := by
  unfold State.lampClear
  repeat' first
    | with_reducible assumption
    | (intro x)
    | with_reducible apply State.clearActive_good
    | with_reducible apply Good.ite
    | with_reducible apply Good.iteSnd
    | with_reducible apply Good.iteThird
    | simp only [Good.mk_iff]

theorem State.residence_good {s0 : State} (x1 : Sys2Proof.Machine.State) (x2 : Nat) (x3 : Nat) (x4 : Sys2Proof.Machine.RopeTag) (x5 : Sys2Proof.Bytes) (h1 : Good s0 x1) :
    Good s0 (State.residence x1 x2 x3 x4 x5).2 := by
  unfold State.residence
  repeat' first
    | with_reducible assumption
    | (intro x)
    | with_reducible apply State.drawWord_good
    | with_reducible apply Good.ite
    | with_reducible apply Good.iteSnd

theorem State.calAccept_good {s0 : State} (x1 : Sys2Proof.Machine.State) (h1 : Good s0 x1) :
    Good s0 (State.calAccept x1).2 := by
  unfold State.calAccept
  repeat' first
    | with_reducible assumption
    | (intro x)
    | with_reducible apply State.setReg_good
    | with_reducible apply Good.ite
    | with_reducible apply Good.iteSnd
    | with_reducible apply Good.iteThird
    | simp only [Good.mk_iff]
    | split

theorem State.setMode_good {s0 : State} (x1 : Sys2Proof.Machine.State) (x2 : Sys2Proof.Machine.Mode) (x3 : Nat) (h1 : Good s0 x1) :
    Good s0 (State.setMode x1 x2 x3) := by
  unfold State.setMode
  repeat' first
    | with_reducible assumption
    | (intro x)
    | with_reducible apply State.setReg_good
    | with_reducible apply Good.ite
    | with_reducible apply Good.iteSnd
    | with_reducible apply Good.iteThird
    | simp only [Good.mk_iff]

theorem State.loadCmd_good {s0 : State} (x1 : Sys2Proof.Machine.State) (x2 : Nat) (h1 : Good s0 x1) :
    Good s0 (State.loadCmd x1 x2).2.2 := by
  unfold State.loadCmd
  repeat' first
    | with_reducible assumption
    | (intro x)
    | with_reducible apply cmdFail_good
    | with_reducible apply cmdRun_good
    | with_reducible apply State.setReg_good
    | with_reducible apply Good.ite
    | with_reducible apply Good.iteSnd
    | with_reducible apply Good.iteThird
    | simp only [Good.mk_iff]

theorem State.colourTheta_good {s0 : State} (x1 : Sys2Proof.Machine.State) (x2 : Nat) (h1 : Good s0 x1) :
    Good s0 (State.colourTheta x1 x2) := by
  unfold State.colourTheta
  repeat' first
    | with_reducible assumption
    | (intro x)
    | with_reducible apply State.setReg_good
    | with_reducible apply Good.foldl
    | with_reducible apply Good.foldlSnd
    | with_reducible apply Good.ite
    | with_reducible apply Good.iteSnd
    | with_reducible apply Good.iteThird
    | simp only [Good.mk_iff]
    | split

theorem State.bootFails_good {s0 : State} (x1 : Sys2Proof.Machine.State) (x2 : Nat) (h1 : Good s0 x1) :
    Good s0 (State.bootFails x1 x2) := by
  unfold State.bootFails
  repeat' first
    | with_reducible assumption
    | (intro x)
    | with_reducible apply State.fillLatch_good
    | with_reducible apply Good.ite
    | with_reducible apply Good.iteSnd
    | with_reducible apply Good.iteThird
    | simp only [Good.mk_iff]

theorem State.storeRoom_good {s0 : State} (x1 : Sys2Proof.Machine.State) (x2 : Nat) (h1 : Good s0 x1) :
    Good s0 (State.storeRoom x1 x2) := by
  unfold State.storeRoom
  repeat' first
    | with_reducible assumption
    | (intro x)
    | with_reducible apply State.storeCompact_good
    | with_reducible apply Good.ite

theorem State.calRequest_good {s0 : State} (x1 : Sys2Proof.Machine.State) (x2 : Nat) (h1 : Good s0 x1) :
    Good s0 (State.calRequest x1 x2) := by
  unfold State.calRequest
  repeat' first
    | with_reducible assumption
    | (intro x)
    | with_reducible apply State.cmdState_good
    | with_reducible apply State.setReg_good
    | with_reducible apply Good.ite
    | with_reducible apply Good.iteSnd
    | with_reducible apply Good.iteThird
    | simp only [Good.mk_iff]

theorem State.reachCclk_good {s0 : State} (x1 : Sys2Proof.Machine.State) (x2 : Nat) (h1 : Good s0 x1) :
    Good s0 (State.reachCclk x1 x2) := by
  unfold State.reachCclk
  repeat' first
    | with_reducible assumption
    | (intro x)
    | with_reducible apply State.pass_good

theorem workFill_good {s0 : State} (x1 : Sys2Proof.Machine.Task) (x2 : Sys2Proof.Machine.State) (h2 : Good s0 x2) :
    Good s0 (workFill x1 x2).2 := by
  unfold workFill
  repeat' first
    | with_reducible assumption
    | (intro x)
    | with_reducible apply State.ramWrite_good
    | with_reducible apply Good.ite
    | with_reducible apply Good.iteSnd

theorem State.ntcValid_good {s0 : State} (x1 : Sys2Proof.Machine.State) (x2 : Nat) (x3 : Int) (h1 : Good s0 x1) :
    Good s0 (State.ntcValid x1 x2 x3) := by
  unfold State.ntcValid
  repeat' first
    | with_reducible assumption
    | (intro x)
    | with_reducible apply State.setReg_good
    | with_reducible apply State.clearActive_good
    | with_reducible apply Good.ite
    | with_reducible apply Good.iteSnd
    | with_reducible apply Good.iteThird
    | simp only [Good.mk_iff]

theorem State.underrun_good {s0 : State} (x1 : Sys2Proof.Machine.State) (x2 : Nat) (x3 : Nat) (h1 : Good s0 x1) :
    Good s0 (State.underrun x1 x2 x3) := by
  unfold State.underrun
  repeat' first
    | with_reducible assumption
    | (intro x)
    | with_reducible apply State.setLayer_good
    | with_reducible apply State.setRas_good
    | with_reducible apply Good.foldl
    | with_reducible apply Good.foldlSnd
    | with_reducible apply Good.ite

theorem State.setRole_good {s0 : State} (x1 : Sys2Proof.Machine.State) (x2 : Nat) (h1 : Good s0 x1) :
    Good s0 (State.setRole x1 x2) := by
  unfold State.setRole
  repeat' first
    | with_reducible assumption
    | (intro x)
    | with_reducible apply State.dropRun_good
    | with_reducible apply State.setReg_good
    | with_reducible apply Good.ite
    | with_reducible apply Good.iteSnd
    | with_reducible apply Good.iteThird
    | simp only [Good.mk_iff]

theorem State.setPhases_good {s0 : State} (x1 : Sys2Proof.Machine.State) (x2 : Nat) (x3 : Nat) (h1 : Good s0 x1) :
    Good s0 (State.setPhases x1 x2 x3) := by
  unfold State.setPhases
  repeat' first
    | with_reducible assumption
    | (intro x)
    | with_reducible apply State.send_good
    | with_reducible apply Good.ite
    | with_reducible apply Good.iteSnd
    | with_reducible apply Good.iteThird
    | simp only [Good.mk_iff]

theorem State.discStart_good {s0 : State} (x1 : Sys2Proof.Machine.State) (x2 : Nat) (h1 : Good s0 x1) :
    Good s0 (State.discStart x1 x2) := by
  unfold State.discStart
  repeat' first
    | with_reducible assumption
    | (intro x)
    | with_reducible apply State.setRdm_good

theorem State.lifeHour_good {s0 : State} (x1 : Sys2Proof.Machine.State) (h1 : Good s0 x1) :
    Good s0 (State.lifeHour x1) := by
  unfold State.lifeHour
  repeat' first
    | with_reducible assumption
    | (intro x)
    | with_reducible apply State.reachCclk_good
    | with_reducible apply State.drawWord_good
    | with_reducible apply State.setReg_good
    | with_reducible apply Good.ite
    | with_reducible apply Good.iteSnd
    | with_reducible apply Good.iteThird
    | simp only [Good.mk_iff]
    | split

theorem State.forgetWin_good {s0 : State} (x1 : Sys2Proof.Machine.State) (x2 : Nat) (h1 : Good s0 x1) :
    Good s0 (State.forgetWin x1 x2) := by
  unfold State.forgetWin
  repeat' first
    | with_reducible assumption
    | (intro x)
    | with_reducible apply State.reachCclk_good
    | with_reducible apply Good.ite
    | with_reducible apply Good.iteSnd
    | with_reducible apply Good.iteThird
    | simp only [Good.mk_iff]
    | split

theorem State.phaseLimit_good {s0 : State} (x1 : Sys2Proof.Machine.State) (x2 : Nat) (x3 : Nat) (h1 : Good s0 x1) :
    Good s0 (State.phaseLimit x1 x2 x3) := by
  unfold State.phaseLimit
  repeat' first
    | with_reducible assumption
    | (intro x)
    | with_reducible apply State.send_good
    | with_reducible apply Good.ite
    | with_reducible apply Good.iteSnd
    | with_reducible apply Good.iteThird
    | simp only [Good.mk_iff]

theorem State.beaconSilence_good {s0 : State} (x1 : Sys2Proof.Machine.State) (h1 : Good s0 x1) :
    Good s0 (State.beaconSilence x1) := by
  unfold State.beaconSilence
  repeat' first
    | with_reducible assumption
    | (intro x)
    | with_reducible apply State.reachCclk_good
    | with_reducible apply State.setRing_good
    | with_reducible apply State.setRole_good
    | with_reducible apply Good.ite
    | with_reducible apply Good.iteSnd
    | with_reducible apply Good.iteThird
    | simp only [Good.mk_iff]

theorem State.candCheck_good {s0 : State} (x1 : Sys2Proof.Machine.State) (h1 : Good s0 x1) :
    Good s0 (State.candCheck x1) := by
  unfold State.candCheck
  repeat' first
    | with_reducible assumption
    | (intro x)
    | with_reducible apply State.setReg_good
    | with_reducible apply Good.ite
    | with_reducible apply Good.iteSnd
    | with_reducible apply Good.iteThird
    | simp only [Good.mk_iff]
    | split

theorem State.eyeScan_good {s0 : State} (x1 : Sys2Proof.Machine.State) (x2 : Nat) (x3 : Nat) (h1 : Good s0 x1) :
    Good s0 (State.eyeScan x1 x2 x3) := by
  unfold State.eyeScan
  repeat' first
    | with_reducible assumption
    | (intro x)
    | with_reducible apply State.setReg_good
    | with_reducible apply Good.ite

theorem State.strandPinsOn_good {s0 : State} (x1 : Sys2Proof.Machine.State) (h1 : Good s0 x1) :
    Good s0 (State.strandPinsOn x1) := by
  unfold State.strandPinsOn
  repeat' first
    | with_reducible assumption
    | (intro x)
    | with_reducible apply State.send_good
    | with_reducible apply Good.foldl
    | with_reducible apply Good.foldlSnd
    | with_reducible apply Good.ite
    | with_reducible apply Good.iteSnd
    | with_reducible apply Good.iteThird
    | simp only [Good.mk_iff]

theorem State.putChan_good {s0 : State} (x1 : Sys2Proof.Machine.State) (x2 : Nat) (x3 : Nat) (x4 : Nat) (h1 : Good s0 x1) :
    Good s0 (State.putChan x1 x2 x3 x4) := by
  unfold State.putChan
  repeat' first
    | with_reducible assumption
    | (intro x)
    | with_reducible apply State.ramWrite_good

theorem State.drawRandom_good {s0 : State} (x1 : Sys2Proof.Machine.State) (x2 : Nat) (h1 : Good s0 x1) :
    Good s0 (State.drawRandom x1 x2).2 := by
  unfold State.drawRandom
  repeat' first
    | with_reducible assumption
    | (intro x)
    | with_reducible apply State.drew_good
    | with_reducible apply Good.ite
    | with_reducible apply Good.iteSnd
    | with_reducible apply Good.iteThird
    | simp only [Good.mk_iff]
    | split

theorem State.composeStart_good {s0 : State} (x1 : Sys2Proof.Machine.State) (h1 : Good s0 x1) :
    Good s0 (State.composeStart x1) := by
  unfold State.composeStart
  repeat' first
    | with_reducible assumption
    | (intro x)
    | with_reducible apply State.setRas_good
    | with_reducible apply State.levelGroups_good
    | with_reducible apply Good.ite
    | with_reducible apply Good.iteSnd
    | with_reducible apply Good.iteThird
    | simp only [Good.mk_iff]

theorem State.powerUp_good {s0 : State} (x1 : Sys2Proof.Machine.State) (h1 : Good s0 x1) :
    Good s0 (State.powerUp x1) := by
  unfold State.powerUp
  repeat' first
    | with_reducible assumption
    | (intro x)
    | with_reducible apply State.pass_good
    | with_reducible apply State.setReg_good
    | with_reducible apply State.bootStart_good
    | with_reducible apply Good.ite
    | with_reducible apply Good.iteSnd
    | with_reducible apply Good.iteThird
    | simp only [Good.mk_iff]

theorem State.noteChange_good {s0 : State} (x1 : Sys2Proof.Machine.State) (h1 : Good s0 x1) :
    Good s0 (State.noteChange x1) := by
  unfold State.noteChange
  repeat' first
    | with_reducible assumption
    | (intro x)
    | with_reducible apply State.setRas_good

theorem cmdOf_good {s0 : State} (x1 : Nat × Sys2Proof.Machine.State) (h1 : Good s0 x1.2) :
    Good s0 (cmdOf x1).2.2 := by
  unfold cmdOf
  repeat' first
    | with_reducible assumption
    | (intro x)
    | with_reducible apply cmdOk_good
    | with_reducible apply cmdFail_good
    | with_reducible apply Good.foldl
    | with_reducible apply Good.foldlSnd
    | with_reducible apply Good.ite
    | with_reducible apply Good.iteSnd
    | with_reducible apply Good.iteThird

theorem State.autoAccept_good {s0 : State} (x1 : Sys2Proof.Machine.State) (h1 : Good s0 x1) :
    Good s0 (State.autoAccept x1) := by
  unfold State.autoAccept
  repeat' first
    | with_reducible assumption
    | (intro x)
    | with_reducible apply State.acceptStep_good
    | with_reducible apply State.reachCclk_good
    | with_reducible apply Good.ite
    | with_reducible apply Good.iteSnd
    | with_reducible apply Good.iteThird
    | simp only [Good.mk_iff]
    | split

theorem State.addReg_good {s0 : State} (x1 : Sys2Proof.Machine.State) (x2 : Nat) (x3 : Nat) (h1 : Good s0 x1) :
    Good s0 (State.addReg x1 x2 x3) := by
  unfold State.addReg
  repeat' first
    | with_reducible assumption
    | (intro x)
    | with_reducible apply State.setReg_good

theorem State.answer_good {s0 : State} (x1 : Sys2Proof.Machine.Origin) (x2 : Nat) (x3 : Nat) (x4 : Sys2Proof.Machine.OpOut × Sys2Proof.Machine.State) (h4 : Good s0 x4.2) :
    Good s0 (State.answer x1 x2 x3 x4) := by
  unfold State.answer
  repeat' first
    | with_reducible assumption
    | (intro x)
    | with_reducible apply State.send_good
    | with_reducible apply Good.ite
    | with_reducible apply Good.iteSnd
    | with_reducible apply Good.iteThird
    | simp only [Good.mk_iff]
    | split

theorem State.takeTiming_good {s0 : State} (x1 : Sys2Proof.Machine.State) (h1 : Good s0 x1) :
    Good s0 (State.takeTiming x1) := by
  unfold State.takeTiming
  repeat' first
    | with_reducible assumption
    | (intro x)
    | with_reducible apply State.setRas_good
    | with_reducible apply State.setReg_good
    | with_reducible apply Good.ite
    | with_reducible apply Good.iteSnd
    | with_reducible apply Good.iteThird
    | simp only [Good.mk_iff]
    | split

theorem State.putCoefs_good {s0 : State} (x1 : Sys2Proof.Machine.State) (x2 : Nat) (x3 : Sys2Proof.Bytes) (h1 : Good s0 x1) :
    Good s0 (State.putCoefs x1 x2 x3) := by
  unfold State.putCoefs
  repeat' first
    | with_reducible assumption
    | (intro x)
    | with_reducible apply State.noteChange_good
    | with_reducible apply Good.ite
    | with_reducible apply Good.iteSnd
    | with_reducible apply Good.iteThird
    | simp only [Good.mk_iff]

theorem State.calReturn_good {s0 : State} (x1 : Sys2Proof.Machine.State) (x2 : Nat) (h1 : Good s0 x1) :
    Good s0 (State.calReturn x1 x2) := by
  unfold State.calReturn
  repeat' first
    | with_reducible assumption
    | (intro x)
    | with_reducible apply State.setReg_good
    | with_reducible apply Good.ite

theorem State.installRaster_good {s0 : State} (x1 : Sys2Proof.Machine.State) (x2 : Sys2Proof.Machine.Topo) (h1 : Good s0 x1) :
    Good s0 (State.installRaster x1 x2) := by
  unfold State.installRaster
  repeat' first
    | with_reducible assumption
    | (intro x)
    | with_reducible apply State.setReg_good
    | with_reducible apply State.setRas_good

theorem State.discipline_good {s0 : State} (x1 : Sys2Proof.Machine.State) (x2 : Int) (h1 : Good s0 x1) :
    Good s0 (State.discipline x1 x2) := by
  unfold State.discipline
  repeat' first
    | with_reducible assumption
    | (intro x)
    | with_reducible apply State.setTrim_good
    | with_reducible apply Good.ite
    | with_reducible apply Good.iteSnd
    | with_reducible apply Good.iteThird
    | simp only [Good.mk_iff]

theorem State.calLight_good {s0 : State} (x1 : Sys2Proof.Machine.State) (h1 : Good s0 x1) :
    Good s0 (State.calLight x1) := by
  unfold State.calLight
  repeat' first
    | with_reducible assumption
    | (intro x)
    | with_reducible apply State.send_good
    | with_reducible apply Good.ite
    | with_reducible apply Good.iteSnd
    | with_reducible apply Good.iteThird
    | simp only [Good.mk_iff]

theorem State.pauseDisregardEnd_good {s0 : State} (x1 : Sys2Proof.Machine.State) (x2 : Nat) (h1 : Good s0 x1) :
    Good s0 (State.pauseDisregardEnd x1 x2) := by
  unfold State.pauseDisregardEnd
  repeat' first
    | with_reducible assumption
    | (intro x)
    | with_reducible apply State.reachCclk_good
    | with_reducible apply State.setReg_good
    | with_reducible apply State.setPort_good
    | with_reducible apply Good.ite
    | with_reducible apply Good.iteSnd
    | with_reducible apply Good.iteThird
    | simp only [Good.mk_iff]
    | split

theorem State.programBlock_good {s0 : State} (x1 : Sys2Proof.Machine.State) (x2 : Sys2Proof.Machine.Transfer) (h1 : Good s0 x1) :
    Good s0 (State.programBlock x1 x2) := by
  unfold State.programBlock
  repeat' first
    | with_reducible assumption
    | (intro x)
    | with_reducible apply State.flashProgram_good
    | with_reducible apply State.rescan_good
    | with_reducible apply Good.ite
    | with_reducible apply Good.iteSnd
    | with_reducible apply Good.iteThird
    | simp only [Good.mk_iff]
    | split

theorem State.spillBurst_good {s0 : State} (x1 : Sys2Proof.Machine.State) (x2 : Nat) (h1 : Good s0 x1) :
    Good s0 (State.spillBurst x1 x2) := by
  unfold State.spillBurst
  repeat' first
    | with_reducible assumption
    | (intro x)
    | with_reducible apply State.ramWrite_good
    | with_reducible apply State.setSpill_good
    | with_reducible apply Good.foldl
    | with_reducible apply Good.foldlSnd
    | with_reducible apply Good.ite
    | with_reducible apply Good.iteSnd
    | with_reducible apply Good.iteThird
    | simp only [Good.mk_iff]
    | split

theorem State.installTables_good {s0 : State} (x1 : Sys2Proof.Machine.State) (x2 : Sys2Proof.Machine.Topo) (h1 : Good s0 x1) :
    Good s0 (State.installTables x1 x2) := by
  unfold State.installTables
  repeat' first
    | with_reducible assumption
    | (intro x)
    | with_reducible apply State.lutTables_good
    | with_reducible apply State.ramWrite_good

theorem State.extreme_good {s0 : State} (x1 : Sys2Proof.Machine.State) (x2 : Bool) (x3 : Nat → Int) (x4 : Nat) (x5 : Nat) (h1 : Good s0 x1) :
    Good s0 (State.extreme x1 x2 x3 x4 x5) := by
  unfold State.extreme
  repeat' first
    | with_reducible assumption
    | (intro x)
    | with_reducible apply State.setReg_good
    | with_reducible apply Good.ite
    | with_reducible apply Good.iteSnd
    | with_reducible apply Good.iteThird
    | simp only [Good.mk_iff]

theorem State.takeDevice_good {s0 : State} (x1 : Sys2Proof.Machine.State) (x2 : Nat) (h1 : Good s0 x1) :
    Good s0 (State.takeDevice x1 x2).2 := by
  unfold State.takeDevice
  repeat' first
    | with_reducible assumption
    | (intro x)
    | with_reducible apply State.setEci_good
    | with_reducible apply State.setPort_good
    | with_reducible apply Good.ite
    | with_reducible apply Good.iteSnd
    | with_reducible apply Good.iteThird
    | simp only [Good.mk_iff]
    | split

theorem State.fadeStep_good {s0 : State} (x1 : Sys2Proof.Machine.State) (h1 : Good s0 x1) :
    Good s0 (State.fadeStep x1) := by
  unfold State.fadeStep
  repeat' first
    | with_reducible assumption
    | (intro x)
    | with_reducible apply State.noteChange_good
    | with_reducible apply Good.foldl
    | with_reducible apply Good.foldlSnd
    | with_reducible apply Good.ite
    | with_reducible apply Good.iteSnd
    | with_reducible apply Good.iteThird
    | simp only [Good.mk_iff]

theorem State.popResult_good {s0 : State} (x1 : Sys2Proof.Machine.State) (x2 : Sys2Proof.Machine.Origin) (x3 : Nat) (x4 : Nat) (x5 : Sys2Proof.Bytes) (h1 : Good s0 x1) :
    Good s0 (State.popResult x1 x2 x3 x4 x5) := by
  unfold State.popResult
  repeat' first
    | with_reducible assumption
    | (intro x)
    | with_reducible apply State.send_good
    | with_reducible apply Good.ite
    | with_reducible apply Good.iteSnd
    | with_reducible apply Good.iteThird
    | simp only [Good.mk_iff]
    | split

theorem State.prioSet_good {s0 : State} (x1 : Sys2Proof.Machine.State) (x2 : Nat) (x3 : Nat) (x4 : Nat) (h1 : Good s0 x1) :
    Good s0 (State.prioSet x1 x2 x3 x4).2 := by
  unfold State.prioSet
  repeat' first
    | with_reducible assumption
    | (intro x)
    | with_reducible apply State.setReg_good
    | with_reducible apply Good.ite
    | with_reducible apply Good.iteSnd

theorem State.addReg64_good {s0 : State} (x1 : Sys2Proof.Machine.State) (x2 : Nat) (x3 : Nat) (h1 : Good s0 x1) :
    Good s0 (State.addReg64 x1 x2 x3) := by
  unfold State.addReg64
  repeat' first
    | with_reducible assumption
    | (intro x)
    | with_reducible apply State.setReg_good

theorem State.strandLatch_good {s0 : State} (x1 : Sys2Proof.Machine.State) (h1 : Good s0 x1) :
    Good s0 (State.strandLatch x1) := by
  unfold State.strandLatch
  repeat' first
    | with_reducible assumption
    | (intro x)
    | with_reducible apply State.send_good
    | with_reducible apply Good.foldl
    | with_reducible apply Good.foldlSnd
    | with_reducible apply Good.ite
    | with_reducible apply Good.iteSnd
    | with_reducible apply Good.iteThird
    | simp only [Good.mk_iff]
    | split

theorem State.latchBlank_good {s0 : State} (x1 : Sys2Proof.Machine.State) (h1 : Good s0 x1) :
    Good s0 (State.latchBlank x1) := by
  unfold State.latchBlank
  repeat' first
    | with_reducible assumption
    | (intro x)
    | with_reducible apply State.setRas_good
    | with_reducible apply Good.ite
    | with_reducible apply Good.iteSnd
    | with_reducible apply Good.iteThird
    | simp only [Good.mk_iff]

theorem State.igmpFallbackEnd_good {s0 : State} (x1 : Sys2Proof.Machine.State) (h1 : Good s0 x1) :
    Good s0 (State.igmpFallbackEnd x1) := by
  unfold State.igmpFallbackEnd
  repeat' first
    | with_reducible assumption
    | (intro x)
    | with_reducible apply State.reachCclk_good
    | with_reducible apply State.setReg_good
    | with_reducible apply Good.ite
    | with_reducible apply Good.iteSnd
    | with_reducible apply Good.iteThird
    | simp only [Good.mk_iff]
    | split

theorem State.resetRise_good {s0 : State} (x1 : Sys2Proof.Machine.State) (x2 : Nat) (h1 : Good s0 x1) :
    Good s0 (State.resetRise x1 x2) := by
  unfold State.resetRise
  repeat' first
    | with_reducible assumption
    | (intro x)
    | with_reducible apply State.bootStart_good
    | with_reducible apply State.reachCclk_good
    | with_reducible apply Good.ite
    | with_reducible apply Good.iteSnd
    | with_reducible apply Good.iteThird
    | simp only [Good.mk_iff]

end Sys2Proof.Machine
end

