-- ==== Sys2Proof/Laws/Keep2.lean ====
section
/-! SUPPORT. Every operation keeps `Good`, part 2 of 4: one lemma for each operation, in the order in which one calls
the other. -/

namespace Sys2Proof.Machine

theorem State.clearBp_good {s0 : State} (x1 : Sys2Proof.Machine.State) (x2 : Nat) (h1 : Good s0 x1) :
    Good s0 (State.clearBp x1 x2) := by
  unfold State.clearBp
  repeat' first
    | with_reducible assumption
    | (intro x)
    | with_reducible apply State.bpSettle_good
    | with_reducible apply State.setSpill_good
    | with_reducible apply State.setQueue_good
    | with_reducible apply Good.ite
    | with_reducible apply Good.iteSnd
    | with_reducible apply Good.iteThird
    | simp only [Good.mk_iff]
    | split

theorem State.mapWrite_good {s0 : State} (x1 : Sys2Proof.Machine.State) (x2 : Nat) (x3 : Nat) (h1 : Good s0 x1) :
    Good s0 (State.mapWrite x1 x2 x3) := by
  unfold State.mapWrite
  repeat' first
    | with_reducible assumption
    | (intro x)
    | with_reducible apply State.putChan_good
    | with_reducible apply Good.ite
    | with_reducible apply Good.iteSnd
    | with_reducible apply Good.iteThird
    | simp only [Good.mk_iff]

theorem State.setDe_good {s0 : State} (x1 : Sys2Proof.Machine.State) (x2 : Nat) (x3 : Bool) (h1 : Good s0 x1) :
    Good s0 (State.setDe x1 x2 x3) := by
  unfold State.setDe
  repeat' first
    | with_reducible assumption
    | (intro x)
    | with_reducible apply State.send_good
    | with_reducible apply Good.ite
    | with_reducible apply Good.iteSnd
    | with_reducible apply Good.iteThird
    | simp only [Good.mk_iff]

theorem State.fixReg_good {s0 : State} (x1 : Sys2Proof.Machine.State) (x2 : Nat) (x3 : Nat) (x4 : Nat) (h1 : Good s0 x1) :
    Good s0 (State.fixReg x1 x2 x3 x4) := by
  unfold State.fixReg
  repeat' first
    | with_reducible assumption
    | (intro x)
    | with_reducible apply State.setReg_good
    | with_reducible apply Good.ite

theorem State.eraseTransfer_good {s0 : State} (x1 : Sys2Proof.Machine.State) (x2 : Sys2Proof.Machine.Transfer) (h1 : Good s0 x1) :
    Good s0 (State.eraseTransfer x1 x2) := by
  unfold State.eraseTransfer
  repeat' first
    | with_reducible assumption
    | (intro x)
    | with_reducible apply State.flashErase_good
    | with_reducible apply Good.ite
    | with_reducible apply Good.iteSnd
    | with_reducible apply Good.iteThird
    | simp only [Good.mk_iff]
    | split

theorem State.setRegs_good {s0 : State} (x1 : Sys2Proof.Machine.State) (x2 : List (Nat × Nat)) (h1 : Good s0 x1) :
    Good s0 (State.setRegs x1 x2) := by
  unfold State.setRegs
  repeat' first
    | with_reducible assumption
    | (intro x)
    | with_reducible apply State.setReg_good
    | with_reducible apply Good.foldl

theorem State.maxReg_good {s0 : State} (x1 : Sys2Proof.Machine.State) (x2 : Nat) (x3 : Nat) (h1 : Good s0 x1) :
    Good s0 (State.maxReg x1 x2 x3) := by
  unfold State.maxReg
  repeat' first
    | with_reducible assumption
    | (intro x)
    | with_reducible apply State.setReg_good

theorem State.drawSample_good {s0 : State} (x1 : Sys2Proof.Machine.State) (x2 : Nat) (h1 : Good s0 x1) :
    Good s0 (State.drawSample x1 x2).2 := by
  unfold State.drawSample
  repeat' first
    | with_reducible assumption
    | (intro x)
    | with_reducible apply State.drawWord_good

theorem State.pushEv_good {s0 : State} (x1 : Sys2Proof.Machine.State) (x2 : Sys2Proof.Machine.EvRec) (h1 : Good s0 x1) :
    Good s0 (State.pushEv x1 x2) := by
  unfold State.pushEv
  repeat' first
    | with_reducible assumption
    | (intro x)
    | with_reducible apply State.addReg_good
    | with_reducible apply State.seeDepth_good
    | with_reducible apply Good.ite
    | with_reducible apply Good.iteSnd
    | with_reducible apply Good.iteThird
    | simp only [Good.mk_iff]

theorem State.onPtpWait_good {s0 : State} (x1 : Sys2Proof.Machine.State) (h1 : Good s0 x1) :
    Good s0 (State.onPtpWait x1) := by
  unfold State.onPtpWait
  repeat' first
    | with_reducible assumption
    | (intro x)
    | with_reducible apply State.reachCclk_good
    | with_reducible apply State.setRegs_good
    | with_reducible apply State.setServo_good
    | with_reducible apply Good.ite
    | with_reducible apply Good.iteSnd
    | with_reducible apply Good.iteThird
    | simp only [Good.mk_iff]
    | split

theorem State.calApplyDue_good {s0 : State} (x1 : Sys2Proof.Machine.State) (h1 : Good s0 x1) :
    Good s0 (State.calApplyDue x1) := by
  unfold State.calApplyDue
  repeat' first
    | with_reducible assumption
    | (intro x)
    | with_reducible apply State.setReg_good
    | with_reducible apply Good.ite
    | with_reducible apply Good.iteSnd
    | with_reducible apply Good.iteThird
    | simp only [Good.mk_iff]
    | split

theorem State.reqShowCmd_good {s0 : State} (x1 : Sys2Proof.Machine.State) (x2 : Sys2Proof.Machine.LCmd) (h1 : Good s0 x1) :
    Good s0 (State.reqShowCmd x1 x2).2.2 := by
  unfold State.reqShowCmd
  repeat' first
    | with_reducible assumption
    | (intro x)
    | with_reducible apply cmdRun_good
    | with_reducible apply cmdFail_good
    | with_reducible apply Good.ite
    | with_reducible apply Good.iteSnd
    | with_reducible apply Good.iteThird
    | simp only [Good.mk_iff]

theorem State.measured_good {s0 : State} (x1 : Sys2Proof.Machine.State) (x2 : Sys2Proof.Machine.Sensors) (h1 : Good s0 x1) :
    Good s0 (State.measured x1 x2) := by
  unfold State.measured
  repeat' first
    | with_reducible assumption
    | (intro x)
    | with_reducible apply State.setRegs_good
    | with_reducible apply State.extreme_good
    | with_reducible apply State.bandNote_good
    | with_reducible apply Good.ite
    | with_reducible apply Good.iteSnd
    | with_reducible apply Good.iteThird
    | simp only [Good.mk_iff]

theorem State.clearLost_good {s0 : State} (x1 : Sys2Proof.Machine.State) (x2 : Nat) (h1 : Good s0 x1) :
    Good s0 (State.clearLost x1 x2) := by
  unfold State.clearLost
  repeat' first
    | with_reducible assumption
    | (intro x)
    | with_reducible apply State.setSpill_good
    | with_reducible apply State.setQueue_good
    | with_reducible apply State.setReg_good
    | with_reducible apply State.setStream_good
    | with_reducible apply State.setLoop_good
    | with_reducible apply Good.ite
    | with_reducible apply Good.iteSnd
    | with_reducible apply Good.iteThird
    | simp only [Good.mk_iff]
    | split

theorem State.supplyBack_good {s0 : State} (x1 : Sys2Proof.Machine.State) (x2 : Nat) (x3 : Nat) (h1 : Good s0 x1) :
    Good s0 (State.supplyBack x1 x2 x3) := by
  unfold State.supplyBack
  repeat' first
    | with_reducible assumption
    | (intro x)
    | with_reducible apply State.clearActive_good
    | with_reducible apply State.bootStart_good
    | with_reducible apply State.pass_good
    | with_reducible apply Good.ite
    | with_reducible apply Good.iteSnd
    | with_reducible apply Good.iteThird
    | simp only [Good.mk_iff]

theorem State.rsyncLine_good {s0 : State} (x1 : Sys2Proof.Machine.State) (h1 : Good s0 x1) :
    Good s0 (State.rsyncLine x1) := by
  unfold State.rsyncLine
  repeat' first
    | with_reducible assumption
    | (intro x)
    | with_reducible apply State.send_good
    | with_reducible apply State.setRas_good

theorem State.setDen_good {s0 : State} (x1 : Sys2Proof.Machine.State) (x2 : Bool) (h1 : Good s0 x1) :
    Good s0 (State.setDen x1 x2) := by
  unfold State.setDen
  repeat' first
    | with_reducible assumption
    | (intro x)
    | with_reducible apply State.send_good
    | with_reducible apply State.setPhases_good
    | with_reducible apply Good.ite
    | with_reducible apply Good.iteSnd
    | with_reducible apply Good.iteThird
    | simp only [Good.mk_iff]

theorem State.rasterReport_good {s0 : State} (x1 : Sys2Proof.Machine.State) (h1 : Good s0 x1) :
    Good s0 (State.rasterReport x1) := by
  unfold State.rasterReport
  repeat' first
    | with_reducible assumption
    | (intro x)
    | with_reducible apply State.setReg_good
    | with_reducible apply State.setLayer_good
    | with_reducible apply Good.foldl

theorem State.floorRaise_good {s0 : State} (x1 : Sys2Proof.Machine.State) (h1 : Good s0 x1) :
    Good s0 (State.floorRaise x1).2.2 := by
  unfold State.floorRaise
  repeat' first
    | with_reducible assumption
    | (intro x)
    | with_reducible apply cmdFail_good
    | with_reducible apply cmdOk_good
    | with_reducible apply State.setReg_good
    | with_reducible apply Good.ite
    | with_reducible apply Good.iteSnd
    | with_reducible apply Good.iteThird
    | simp only [Good.mk_iff]
    | split

theorem State.loopStop_good {s0 : State} (x1 : Sys2Proof.Machine.State) (x2 : Nat) (h1 : Good s0 x1) :
    Good s0 (State.loopStop x1 x2) := by
  unfold State.loopStop
  repeat' first
    | with_reducible assumption
    | (intro x)
    | with_reducible apply State.noteChange_good
    | with_reducible apply State.setLoop_good
    | with_reducible apply Good.ite

theorem State.remerge_good {s0 : State} (x1 : Sys2Proof.Machine.State) (x2 : Nat) (h1 : Good s0 x1) :
    Good s0 (State.remerge x1 x2) := by
  unfold State.remerge
  repeat' first
    | with_reducible assumption
    | (intro x)
    | with_reducible apply State.noteChange_good
    | with_reducible apply State.ramWrite_good
    | with_reducible apply Good.ite

theorem State.rowPinsOn_good {s0 : State} (x1 : Sys2Proof.Machine.State) (h1 : Good s0 x1) :
    Good s0 (State.rowPinsOn x1) := by
  unfold State.rowPinsOn
  repeat' first
    | with_reducible assumption
    | (intro x)
    | with_reducible apply State.send_good
    | with_reducible apply Good.ite
    | with_reducible apply Good.iteSnd
    | with_reducible apply Good.iteThird
    | simp only [Good.mk_iff]

theorem State.advance_good {s0 : State} (x1 : Sys2Proof.Machine.State) (h1 : Good s0 x1) :
    Good s0 (State.advance x1) := by
  unfold State.advance
  repeat' first
    | with_reducible assumption
    | (intro x)
    | with_reducible apply State.reach_good
    | with_reducible apply State.setRegs_good
    | with_reducible apply Good.ite
    | with_reducible apply Good.iteSnd
    | with_reducible apply Good.iteThird
    | simp only [Good.mk_iff]

theorem State.storeSurface_good {s0 : State} (x1 : Sys2Proof.Machine.State) (x2 : Sys2Proof.Bytes) (h1 : Good s0 x1) :
    Good s0 (State.storeSurface x1 x2).2 := by
  unfold State.storeSurface
  repeat' first
    | with_reducible assumption
    | (intro x)
    | with_reducible apply State.storeRoom_good
    | with_reducible apply State.ramWrite_good
    | with_reducible apply Good.ite
    | with_reducible apply Good.iteSnd
    | with_reducible apply Good.iteThird
    | simp only [Good.mk_iff]

theorem State.mergeSnapshot_good {s0 : State} (x1 : Sys2Proof.Machine.State) (h1 : Good s0 x1) :
    Good s0 (State.mergeSnapshot x1) := by
  unfold State.mergeSnapshot
  repeat' first
    | with_reducible assumption
    | (intro x)
    | with_reducible apply State.ramWrite_good
    | with_reducible apply State.noteChange_good
    | with_reducible apply Good.foldl
    | with_reducible apply Good.foldlSnd
    | with_reducible apply Good.ite
    | with_reducible apply Good.iteSnd
    | with_reducible apply Good.iteThird
    | simp only [Good.mk_iff]

theorem State.ropeWait_good {s0 : State} (x1 : Sys2Proof.Machine.State) (h1 : Good s0 x1) :
    Good s0 (State.ropeWait x1) := by
  unfold State.ropeWait
  repeat' first
    | with_reducible assumption
    | (intro x)
    | with_reducible apply State.reachCclk_good
    | with_reducible apply State.setRegs_good
    | with_reducible apply State.announceAddr_good
    | with_reducible apply Good.ite
    | with_reducible apply Good.iteSnd
    | with_reducible apply Good.iteThird
    | simp only [Good.mk_iff]

theorem State.takeStamp_good {s0 : State} (x1 : Sys2Proof.Machine.State) (x2 : Nat) (x3 : Nat) (x4 : Nat) (x5 : Nat) (h1 : Good s0 x1) :
    Good s0 (State.takeStamp x1 x2 x3 x4 x5).2 := by
  unfold State.takeStamp
  repeat' first
    | with_reducible assumption
    | (intro x)
    | with_reducible apply State.setPort_good
    | with_reducible apply Good.ite
    | with_reducible apply Good.iteSnd
    | with_reducible apply Good.iteThird
    | simp only [Good.mk_iff]
    | split

theorem State.dieRead_good {s0 : State} (x1 : Sys2Proof.Machine.State) (x2 : Nat) (x3 : Int) (h1 : Good s0 x1) :
    Good s0 (State.dieRead x1 x2 x3) := by
  unfold State.dieRead
  repeat' first
    | with_reducible assumption
    | (intro x)
    | with_reducible apply State.extreme_good
    | with_reducible apply State.setReg_good
    | with_reducible apply Good.ite
    | with_reducible apply Good.iteSnd
    | with_reducible apply Good.iteThird
    | simp only [Good.mk_iff]

theorem State.readEmpty_good {s0 : State} (x1 : Sys2Proof.Machine.State) (x2 : Sys2Proof.Machine.Task) (h1 : Good s0 x1) :
    Good s0 (State.readEmpty x1 x2).2 := by
  unfold State.readEmpty
  repeat' first
    | with_reducible assumption
    | (intro x)
    | with_reducible apply State.stallOn_good
    | with_reducible apply Good.ite
    | with_reducible apply Good.iteSnd

theorem State.spillReadback_good {s0 : State} (x1 : Sys2Proof.Machine.State) (x2 : Nat) (h1 : Good s0 x1) :
    Good s0 (State.spillReadback x1 x2) := by
  unfold State.spillReadback
  repeat' first
    | with_reducible assumption
    | (intro x)
    | with_reducible apply State.setSpill_good
    | with_reducible apply Good.ite
    | with_reducible apply Good.iteSnd
    | with_reducible apply Good.iteThird
    | simp only [Good.mk_iff]
    | split

theorem State.setLinkState_good {s0 : State} (x1 : Sys2Proof.Machine.State) (x2 : Nat) (x3 : Nat) (h1 : Good s0 x1) :
    Good s0 (State.setLinkState x1 x2 x3) := by
  unfold State.setLinkState
  repeat' first
    | with_reducible assumption
    | (intro x)
    | with_reducible apply State.setReg_good

theorem State.slotCut_good {s0 : State} (x1 : Sys2Proof.Machine.State) (h1 : Good s0 x1) :
    Good s0 (State.slotCut x1) := by
  unfold State.slotCut
  repeat' first
    | with_reducible assumption
    | (intro x)
    | with_reducible apply State.send_good
    | with_reducible apply Good.ite
    | with_reducible apply Good.iteSnd
    | with_reducible apply Good.iteThird
    | simp only [Good.mk_iff]
    | split

theorem State.linkPortUp_good {s0 : State} (x1 : Sys2Proof.Machine.State) (x2 : Nat) (h1 : Good s0 x1) :
    Good s0 (State.linkPortUp x1 x2) := by
  unfold State.linkPortUp
  repeat' first
    | with_reducible assumption
    | (intro x)
    | with_reducible apply State.setLinkState_good
    | with_reducible apply State.setLink_good
    | with_reducible apply Good.ite

theorem State.freezeTrim_good {s0 : State} (x1 : Sys2Proof.Machine.State) (h1 : Good s0 x1) :
    Good s0 (State.freezeTrim x1) := by
  unfold State.freezeTrim
  repeat' first
    | with_reducible assumption
    | (intro x)
    | with_reducible apply State.setTrim_good
    | with_reducible apply Good.ite
    | with_reducible apply Good.iteSnd
    | with_reducible apply Good.iteThird
    | simp only [Good.mk_iff]
    | split

theorem State.dramTrained_good {s0 : State} (x1 : Sys2Proof.Machine.State) (h1 : Good s0 x1) :
    Good s0 (State.dramTrained x1) := by
  unfold State.dramTrained
  repeat' first
    | with_reducible assumption
    | (intro x)
    | with_reducible apply State.bootLoad_good
    | with_reducible apply State.setRegs_good

theorem State.readStamps_good {s0 : State} (x1 : Sys2Proof.Machine.State) (h1 : Good s0 x1) :
    Good s0 (State.readStamps x1) := by
  unfold State.readStamps
  repeat' first
    | with_reducible assumption
    | (intro x)
    | with_reducible apply State.setPort_good
    | with_reducible apply Good.foldl
    | with_reducible apply Good.foldlSnd
    | with_reducible apply Good.ite

theorem State.markEv_good {s0 : State} (x1 : Sys2Proof.Machine.State) (x2 : Nat) (x3 : Nat) (h1 : Good s0 x1) :
    Good s0 (State.markEv x1 x2 x3) := by
  unfold State.markEv
  repeat' first
    | with_reducible assumption
    | (intro x)
    | with_reducible apply State.addReg_good
    | with_reducible apply State.setReg_good
    | with_reducible apply Good.ite
    | with_reducible apply Good.iteSnd
    | with_reducible apply Good.iteThird
    | simp only [Good.mk_iff]

theorem State.putLut_good {s0 : State} (x1 : Sys2Proof.Machine.State) (x2 : Nat) (x3 : Sys2Proof.Bytes) (h1 : Good s0 x1) :
    Good s0 (State.putLut x1 x2 x3) := by
  unfold State.putLut
  repeat' first
    | with_reducible assumption
    | (intro x)
    | with_reducible apply State.noteChange_good
    | with_reducible apply Good.ite
    | with_reducible apply Good.iteSnd
    | with_reducible apply Good.iteThird
    | simp only [Good.mk_iff]

theorem State.calWritten_good {s0 : State} (x1 : Sys2Proof.Machine.State) (h1 : Good s0 x1) :
    Good s0 (State.calWritten x1) := by
  unfold State.calWritten
  repeat' first
    | with_reducible assumption
    | (intro x)
    | with_reducible apply State.flashProgram_good
    | with_reducible apply State.flashErase_good
    | with_reducible apply Good.ite
    | with_reducible apply Good.iteSnd
    | with_reducible apply Good.iteThird
    | simp only [Good.mk_iff]
    | split

theorem State.measured__good {s0 : State} (x1 : Sys2Proof.Machine.State) (x2 : List Int) (x3 : Nat) (h1 : Good s0 x1) :
    Good s0 (State.measured_ x1 x2 x3).2 := by
  unfold State.measured_
  repeat' first
    | with_reducible assumption
    | (intro x)
    | with_reducible apply State.drawInt_good
    | with_reducible apply Good.ite
    | with_reducible apply Good.iteSnd
    | with_reducible apply Good.iteThird
    | simp only [Good.mk_iff]
    | split

theorem State.switchStep_good {s0 : State} (x1 : Sys2Proof.Machine.State) (h1 : Good s0 x1) :
    Good s0 (State.switchStep x1) := by
  unfold State.switchStep
  repeat' first
    | with_reducible assumption
    | (intro x)
    | with_reducible apply State.cmdState_good
    | with_reducible apply Good.ite
    | with_reducible apply Good.iteSnd
    | with_reducible apply Good.iteThird
    | simp only [Good.mk_iff]
    | split

theorem State.setReady_good {s0 : State} (x1 : Sys2Proof.Machine.State) (x2 : Nat) (x3 : List Sys2Proof.Machine.Task) (h1 : Good s0 x1) :
    Good s0 (State.setReady x1 x2 x3) := by
  unfold State.setReady
  repeat' first
    | with_reducible assumption
    | (intro x)
    | with_reducible apply State.seeDepth_good
    | with_reducible apply Good.ite
    | with_reducible apply Good.iteSnd
    | with_reducible apply Good.iteThird
    | simp only [Good.mk_iff]

theorem State.slotDone_good {s0 : State} (x1 : Sys2Proof.Machine.State) (x2 : Nat) (x3 : Nat) (h1 : Good s0 x1) :
    Good s0 (State.slotDone x1 x2 x3) := by
  unfold State.slotDone
  repeat' first
    | with_reducible assumption
    | (intro x)
    | with_reducible apply State.setRegs_good
    | with_reducible apply Good.ite
    | with_reducible apply Good.iteSnd
    | with_reducible apply Good.iteThird
    | simp only [Good.mk_iff]

theorem State.putChans_good {s0 : State} (x1 : Sys2Proof.Machine.State) (x2 : Nat) (x3 : List (Nat × Nat)) (h1 : Good s0 x1) :
    Good s0 (State.putChans x1 x2 x3) := by
  unfold State.putChans
  repeat' first
    | with_reducible assumption
    | (intro x)
    | with_reducible apply State.putChan_good
    | with_reducible apply Good.foldl

theorem State.serve_good {s0 : State} (x1 : Sys2Proof.Machine.State) (x2 : Sys2Proof.Machine.Origin) (x3 : Nat) (x4 : Nat) (x5 : Sys2Proof.Machine.State → Sys2Proof.Machine.Role → Sys2Proof.Machine.OpOut × Sys2Proof.Machine.State) (h1 : Good s0 x1) (h5 : ∀ y1 y2, Good s0 y1 → Good s0 (x5 y1 y2).2) :
    Good s0 (State.serve x1 x2 x3 x4 x5) := by
  unfold State.serve
  repeat' first
    | with_reducible assumption
    | (intro x)
    | with_reducible apply State.answer_good
    | with_reducible apply State.touch_good
    | with_reducible apply h5
    | with_reducible apply Good.ite
    | with_reducible apply Good.iteSnd
    | with_reducible apply Good.iteThird
    | simp only [Good.mk_iff]
    | split

theorem State.installSurfaces_good {s0 : State} (x1 : Sys2Proof.Machine.State) (x2 : Sys2Proof.Machine.Topo) (h1 : Good s0 x1) :
    Good s0 (State.installSurfaces x1 x2) := by
  unfold State.installSurfaces
  repeat' first
    | with_reducible assumption
    | (intro x)
    | with_reducible apply State.storeSurface_good
    | with_reducible apply Good.foldl
    | with_reducible apply Good.foldlSnd
    | with_reducible apply Good.ite
    | with_reducible apply Good.iteSnd
    | with_reducible apply Good.iteThird
    | simp only [Good.mk_iff]

theorem State.clearRead_good {s0 : State} (x1 : Sys2Proof.Machine.State) (x2 : Nat) (h1 : Good s0 x1) :
    Good s0 (State.clearRead x1 x2) := by
  unfold State.clearRead
  repeat' first
    | with_reducible assumption
    | (intro x)
    | with_reducible apply State.clearLost_good
    | with_reducible apply State.clearHigh_good
    | with_reducible apply State.clearBp_good
    | with_reducible apply State.setReg_good
    | with_reducible apply Good.ite
    | with_reducible apply Good.iteSnd
    | with_reducible apply Good.iteThird
    | simp only [Good.mk_iff]

theorem State.installRegs_good {s0 : State} (x1 : Sys2Proof.Machine.State) (x2 : Sys2Proof.Machine.Topo) (h1 : Good s0 x1) :
    Good s0 (State.installRegs x1 x2) := by
  unfold State.installRegs
  repeat' first
    | with_reducible assumption
    | (intro x)
    | with_reducible apply State.setRegs_good

theorem State.startBid_good {s0 : State} (x1 : Sys2Proof.Machine.State) (h1 : Good s0 x1) :
    Good s0 (State.startBid x1) := by
  unfold State.startBid
  repeat' first
    | with_reducible assumption
    | (intro x)
    | with_reducible apply State.setRole_good
    | with_reducible apply Good.ite
    | with_reducible apply Good.iteSnd
    | with_reducible apply Good.iteThird
    | simp only [Good.mk_iff]

theorem State.abandon_good {s0 : State} (x1 : Sys2Proof.Machine.State) (x2 : Sys2Proof.Machine.Transfer) (h1 : Good s0 x1) :
    Good s0 (State.abandon x1 x2) := by
  unfold State.abandon
  repeat' first
    | with_reducible assumption
    | (intro x)
    | with_reducible apply State.eraseTransfer_good
    | with_reducible apply State.dropXfer_good
    | with_reducible apply State.setReg_good
    | with_reducible apply Good.ite

theorem State.dropWaiting_good {s0 : State} (x1 : Sys2Proof.Machine.State) (x2 : Nat) (h1 : Good s0 x1) :
    Good s0 (State.dropWaiting x1 x2) := by
  unfold State.dropWaiting
  repeat' first
    | with_reducible assumption
    | (intro x)
    | with_reducible apply State.addReg_good
    | with_reducible apply State.setPort_good

theorem State.segmentStart_good {s0 : State} (x1 : Sys2Proof.Machine.State) (h1 : Good s0 x1) :
    Good s0 (State.segmentStart x1) := by
  unfold State.segmentStart
  repeat' first
    | with_reducible assumption
    | (intro x)
    | with_reducible apply State.reach_good
    | with_reducible apply Good.ite
    | with_reducible apply Good.iteSnd
    | with_reducible apply Good.iteThird
    | simp only [Good.mk_iff]

theorem State.gather_good {s0 : State} (x1 : Sys2Proof.Machine.State) (x2 : Sys2Proof.Machine.MapEntry) (h1 : Good s0 x1) :
    Good s0 (State.gather x1 x2) := by
  unfold State.gather
  repeat' first
    | with_reducible assumption
    | (intro x)
    | with_reducible apply State.mapWrite_good
    | with_reducible apply Good.foldl

theorem State.sinksOff_good {s0 : State} (x1 : Sys2Proof.Machine.State) (h1 : Good s0 x1) :
    Good s0 (State.sinksOff x1) := by
  unfold State.sinksOff
  repeat' first
    | with_reducible assumption
    | (intro x)
    | with_reducible apply State.slotCut_good
    | with_reducible apply Good.ite
    | with_reducible apply Good.iteSnd
    | with_reducible apply Good.iteThird
    | simp only [Good.mk_iff]

theorem State.spillPop_good {s0 : State} (x1 : Sys2Proof.Machine.State) (x2 : Nat) (h1 : Good s0 x1) :
    ∀ z, State.spillPop x1 x2 = some z → Good s0 z.2 := by
  unfold State.spillPop
  repeat' first
    | with_reducible assumption
    | (intro z e; cases e)
    | with_reducible apply State.spillReadback_good
    | with_reducible apply State.setSpill_good
    | with_reducible apply Good.ite
    | with_reducible apply Good.iteSnd
    | with_reducible apply Good.iteThird
    | simp only [Good.mk_iff]
    | split

theorem State.calSink_good {s0 : State} (x1 : Sys2Proof.Machine.CalMeas) (x2 : Nat × Nat) (x3 : Sys2Proof.Machine.CalSet × Sys2Proof.Machine.State) (h3 : Good s0 x3.2) :
    Good s0 (State.calSink x1 x2 x3).2 := by
  unfold State.calSink
  repeat' first
    | with_reducible assumption
    | (intro x)
    | with_reducible apply State.drawWord_good
    | with_reducible apply State.drawInt_good
    | with_reducible apply Good.ite
    | with_reducible apply Good.iteSnd
    | with_reducible apply Good.iteThird
    | simp only [Good.mk_iff]
    | split

theorem State.popWindow_good {s0 : State} (x1 : Sys2Proof.Machine.State) (x2 : Sys2Proof.Machine.Origin) (x3 : Nat) (h1 : Good s0 x1) :
    Good s0 (State.popWindow x1 x2 x3).2 := by
  unfold State.popWindow
  repeat' first
    | with_reducible assumption
    | (intro x)
    | with_reducible apply State.spillPop_good
    | (refine State.spillPop_good _ _ ?_ _ (by with_reducible assumption))
    | with_reducible apply State.setSpill_good
    | with_reducible apply Good.ite
    | with_reducible apply Good.iteSnd
    | with_reducible apply Good.iteThird
    | simp only [Good.mk_iff]
    | split

theorem State.headBid_good {s0 : State} (x1 : Sys2Proof.Machine.State) (x2 : Nat) (x3 : Nat) (x4 : Nat) (x5 : Nat) (h1 : Good s0 x1) :
    Good s0 (State.headBid x1 x2 x3 x4 x5) := by
  unfold State.headBid
  repeat' first
    | with_reducible assumption
    | (intro x)
    | with_reducible apply State.heardOther_good
    | with_reducible apply State.setRole_good
    | with_reducible apply Good.ite
    | with_reducible apply Good.iteSnd
    | with_reducible apply Good.iteThird
    | simp only [Good.mk_iff]

theorem State.closeBlock_good {s0 : State} (x1 : Sys2Proof.Machine.State) (x2 : Sys2Proof.Machine.Transfer) (x3 : Nat) (h1 : Good s0 x1) :
    Good s0 (State.closeBlock x1 x2 x3).2 := by
  unfold State.closeBlock
  repeat' first
    | with_reducible assumption
    | (intro x)
    | with_reducible apply State.setXfer_good
    | with_reducible apply State.programBlock_good
    | with_reducible apply Good.ite
    | with_reducible apply Good.iteSnd

theorem State.railOn_good {s0 : State} (x1 : Sys2Proof.Machine.State) (h1 : Good s0 x1) :
    Good s0 (State.railOn x1) := by
  unfold State.railOn
  repeat' first
    | with_reducible assumption
    | (intro x)
    | with_reducible apply State.setReg_good
    | with_reducible apply State.setDen_good
    | with_reducible apply Good.ite
    | with_reducible apply Good.iteSnd
    | with_reducible apply Good.iteThird
    | simp only [Good.mk_iff]

theorem State.minReg_good {s0 : State} (x1 : Sys2Proof.Machine.State) (x2 : Nat) (x3 : Nat) (h1 : Good s0 x1) :
    Good s0 (State.minReg x1 x2 x3) := by
  unfold State.minReg
  repeat' first
    | with_reducible assumption
    | (intro x)
    | with_reducible apply State.extreme_good

theorem State.groupSet_good {s0 : State} (x1 : Sys2Proof.Machine.State) (x2 : Nat) (x3 : Nat) (h1 : Good s0 x1) :
    Good s0 (State.groupSet x1 x2 x3) := by
  unfold State.groupSet
  repeat' first
    | with_reducible assumption
    | (intro x)
    | with_reducible apply State.noteChange_good
    | with_reducible apply Good.ite
    | with_reducible apply Good.iteSnd
    | with_reducible apply Good.iteThird
    | simp only [Good.mk_iff]

theorem State.calNtcOne_good {s0 : State} (x1 : Sys2Proof.Machine.CalMeas) (x2 : List Int × Sys2Proof.Machine.State) (x3 : Nat) (h2 : Good s0 x2.2) :
    Good s0 (State.calNtcOne x1 x2 x3).2 := by
  unfold State.calNtcOne
  repeat' first
    | with_reducible assumption
    | (intro x)
    | with_reducible apply State.measured__good
    | with_reducible apply Good.ite
    | with_reducible apply Good.iteSnd

theorem State.sacnSync_good {s0 : State} (x1 : Sys2Proof.Machine.State) (x2 : Nat) (x3 : Nat) (h1 : Good s0 x1) :
    Good s0 (State.sacnSync x1 x2 x3) := by
  unfold State.sacnSync
  repeat' first
    | with_reducible assumption
    | (intro x)
    | with_reducible apply State.remerge_good
    | with_reducible apply State.setUni_good
    | with_reducible apply Good.foldl
    | with_reducible apply Good.foldlSnd
    | with_reducible apply Good.ite
    | with_reducible apply Good.iteSnd
    | with_reducible apply Good.iteThird
    | simp only [Good.mk_iff]

theorem State.cairnLoad_good {s0 : State} (x1 : Sys2Proof.Machine.State) (h1 : Good s0 x1) :
    Good s0 (State.cairnLoad x1) := by
  unfold State.cairnLoad
  repeat' first
    | with_reducible assumption
    | (intro x)
    | with_reducible apply State.setRegs_good
    | with_reducible apply State.setReg_good
    | with_reducible apply State.calLoad_good
    | with_reducible apply Good.ite
    | with_reducible apply Good.iteSnd
    | with_reducible apply Good.iteThird
    | simp only [Good.mk_iff]
    | split

theorem State.snapshotCmd_good {s0 : State} (x1 : Sys2Proof.Machine.State) (h1 : Good s0 x1) :
    Good s0 (State.snapshotCmd x1) := by
  unfold State.snapshotCmd
  repeat' first
    | with_reducible assumption
    | (intro x)
    | with_reducible apply State.setRegs_good

theorem State.groupBind_good {s0 : State} (x1 : Sys2Proof.Machine.State) (x2 : Sys2Proof.Bytes) (h1 : Good s0 x1) :
    Good s0 (State.groupBind x1 x2) := by
  unfold State.groupBind
  repeat' first
    | with_reducible assumption
    | (intro x)
    | with_reducible apply State.noteChange_good
    | with_reducible apply Good.ite
    | with_reducible apply Good.iteSnd
    | with_reducible apply Good.iteThird
    | simp only [Good.mk_iff]

theorem State.rampEnd_good {s0 : State} (x1 : Sys2Proof.Machine.State) (h1 : Good s0 x1) :
    Good s0 (State.rampEnd x1) := by
  unfold State.rampEnd
  repeat' first
    | with_reducible assumption
    | (intro x)
    | with_reducible apply State.reachCclk_good
    | with_reducible apply State.setReg_good
    | with_reducible apply Good.ite
    | with_reducible apply Good.iteSnd
    | with_reducible apply Good.iteThird
    | simp only [Good.mk_iff]
    | split

theorem State.gatherRun_good {s0 : State} (x1 : Nat) (x2 : Bool) (x3 : Nat) (x4 : State) (h4 : Good s0 x4) :
    Good s0 (State.gatherRun x1 x2 x3 x4) := by
  induction x3 generalizing x4 with
  | zero => exact h4
  | succ n ih =>
    unfold State.gatherRun
    refine Good.ite h4 (ih _ ?_)
    exact State.setRas_good _ _ (State.gather_good _ _ h4)

theorem State.sacnSyncTimeout_good {s0 : State} (x1 : Sys2Proof.Machine.State) (x2 : Nat) (h1 : Good s0 x1) :
    Good s0 (State.sacnSyncTimeout x1 x2) := by
  unfold State.sacnSyncTimeout
  repeat' first
    | with_reducible assumption
    | (intro x)
    | with_reducible apply State.reachCclk_good
    | with_reducible apply Good.ite
    | with_reducible apply Good.iteSnd
    | with_reducible apply Good.iteThird
    | simp only [Good.mk_iff]
    | split

theorem State.firmwareVerify_good {s0 : State} (x1 : Sys2Proof.Machine.State) (x2 : Bool) (x3 : Bool) (h1 : Good s0 x1) :
    Good s0 (State.firmwareVerify x1 x2 x3) := by
  unfold State.firmwareVerify
  repeat' first
    | with_reducible assumption
    | (intro x)
    | with_reducible apply State.setRegs_good
    | with_reducible apply State.bootFails_good
    | with_reducible apply Good.ite
    | with_reducible apply Good.iteSnd
    | with_reducible apply Good.iteThird
    | simp only [Good.mk_iff]
    | split

theorem State.incReg_good {s0 : State} (x1 : Sys2Proof.Machine.State) (x2 : Nat) (h1 : Good s0 x1) :
    Good s0 (State.incReg x1 x2) := by
  unfold State.incReg
  repeat' first
    | with_reducible assumption
    | (intro x)
    | with_reducible apply State.addReg_good

theorem State.endPops_good {s0 : State} (x1 : Sys2Proof.Machine.State) (h1 : Good s0 x1) :
    Good s0 (State.endPops x1) := by
  unfold State.endPops
  repeat' first
    | with_reducible assumption
    | (intro x)
    | with_reducible apply State.popResult_good
    | with_reducible apply Good.foldl

theorem State.roleUpdate_good {s0 : State} (x1 : Sys2Proof.Machine.State) (h1 : Good s0 x1) :
    Good s0 (State.roleUpdate x1) := by
  unfold State.roleUpdate
  repeat' first
    | with_reducible assumption
    | (intro x)
    | with_reducible apply State.setRole_good
    | with_reducible apply Good.ite
    | with_reducible apply Good.iteSnd
    | with_reducible apply Good.iteThird
    | simp only [Good.mk_iff]

theorem State.armStart_good {s0 : State} (x1 : Sys2Proof.Machine.State) (h1 : Good s0 x1) :
    Good s0 (State.armStart x1) := by
  unfold State.armStart
  repeat' first
    | with_reducible assumption
    | (intro x)
    | with_reducible apply State.emberEmpty_good
    | with_reducible apply State.composeStart_good
    | with_reducible apply Good.ite
    | with_reducible apply Good.iteSnd
    | with_reducible apply Good.iteThird
    | simp only [Good.mk_iff]

theorem State.loopTo_good {s0 : State} (x1 : Sys2Proof.Machine.State) (x2 : Nat) (x3 : Nat) (x4 : Nat) (h1 : Good s0 x1) :
    Good s0 (State.loopTo x1 x2 x3 x4) := by
  unfold State.loopTo
  repeat' first
    | with_reducible assumption
    | (intro x)
    | with_reducible apply State.noteChange_good
    | with_reducible apply State.setLoop_good
    | with_reducible apply State.incReg_good
    | with_reducible apply State.setLayer_good
    | with_reducible apply Good.foldl
    | with_reducible apply Good.foldlSnd
    | with_reducible apply Good.ite
    | with_reducible apply Good.iteSnd
    | with_reducible apply Good.iteThird
    | simp only [Good.mk_iff]
    | split

theorem State.loopTick_good {s0 : State} (x1 : Sys2Proof.Machine.State) (x2 : Nat) (h1 : Good s0 x1) :
    Good s0 (State.loopTick x1 x2) := by
  unfold State.loopTick
  repeat' first
    | with_reducible assumption
    | (intro x)
    | with_reducible apply State.setLoop_good
    | with_reducible apply State.noteChange_good
    | with_reducible apply Good.ite
    | with_reducible apply Good.iteSnd
    | with_reducible apply Good.iteThird
    | simp only [Good.mk_iff]
    | split

theorem State.dropRx_good {s0 : State} (x1 : Sys2Proof.Machine.State) (h1 : Good s0 x1) :
    Good s0 (State.dropRx x1) := by
  unfold State.dropRx
  repeat' first
    | with_reducible assumption
    | (intro x)
    | with_reducible apply State.incReg_good
    | with_reducible apply Good.foldl

theorem State.popTick_good {s0 : State} (x1 : Sys2Proof.Machine.State) (h1 : Good s0 x1) :
    Good s0 (State.popTick x1) := by
  unfold State.popTick
  repeat' first
    | with_reducible assumption
    | (intro x)
    | with_reducible apply State.popResult_good
    | with_reducible apply Good.foldl
    | with_reducible apply Good.foldlSnd
    | with_reducible apply Good.ite
    | with_reducible apply Good.iteSnd
    | with_reducible apply Good.iteThird
    | simp only [Good.mk_iff]

theorem State.calTslatOne_good {s0 : State} (x1 : Sys2Proof.Machine.CalMeas) (x2 : List Nat) (x3 : List Nat × Sys2Proof.Machine.State) (x4 : Nat) (h3 : Good s0 x3.2) :
    Good s0 (State.calTslatOne x1 x2 x3 x4).2 := by
  unfold State.calTslatOne
  repeat' first
    | with_reducible assumption
    | (intro x)
    | with_reducible apply State.measured__good
    | with_reducible apply Good.ite
    | with_reducible apply Good.iteSnd

theorem State.calNtc_good {s0 : State} (x1 : Sys2Proof.Machine.State) (x2 : Sys2Proof.Machine.CalMeas) (x3 : Sys2Proof.Machine.CalSet) (h1 : Good s0 x1) :
    Good s0 (State.calNtc x1 x2 x3).2 := by
  unfold State.calNtc
  repeat' first
    | with_reducible assumption
    | (intro x)
    | with_reducible apply State.calNtcOne_good
    | with_reducible apply Good.foldl
    | with_reducible apply Good.foldlSnd

theorem State.loopRewind_good {s0 : State} (x1 : Sys2Proof.Machine.State) (x2 : Nat) (h1 : Good s0 x1) :
    Good s0 (State.loopRewind x1 x2).2 := by
  unfold State.loopRewind
  repeat' first
    | with_reducible assumption
    | (intro x)
    | with_reducible apply State.loopTo_good
    | with_reducible apply Good.ite
    | with_reducible apply Good.iteSnd

theorem State.sacnTake_good {s0 : State} (x1 : Sys2Proof.Machine.State) (x2 : Nat) (x3 : Nat) (x4 : Sys2Proof.Bytes) (h1 : Good s0 x1) :
    Good s0 (State.sacnTake x1 x2 x3 x4) := by
  unfold State.sacnTake
  repeat' first
    | with_reducible assumption
    | (intro x)
    | with_reducible apply State.setUni_good
    | with_reducible apply State.remerge_good
    | with_reducible apply State.incReg_good
    | with_reducible apply Good.ite
    | with_reducible apply Good.iteSnd
    | with_reducible apply Good.iteThird
    | simp only [Good.mk_iff]

theorem State.packedCheck_good {s0 : State} (x1 : Sys2Proof.Machine.State) (x2 : Nat) (h1 : Good s0 x1) :
    Good s0 (State.packedCheck x1 x2) := by
  unfold State.packedCheck
  repeat' first
    | with_reducible assumption
    | (intro x)
    | with_reducible apply State.incReg_good
    | with_reducible apply State.setLayer_good
    | with_reducible apply Good.foldl
    | with_reducible apply Good.foldlSnd
    | with_reducible apply Good.ite
    | with_reducible apply Good.iteSnd
    | with_reducible apply Good.iteThird
    | simp only [Good.mk_iff]
    | split

theorem State.headBeacon_good {s0 : State} (x1 : Sys2Proof.Machine.State) (x2 : Nat) (x3 : Nat) (x4 : Nat) (x5 : Nat) (x6 : Nat) (x7 : Nat) (x8 : Nat) (x9 : Nat) (x10 : Nat) (h1 : Good s0 x1) :
    Good s0 (State.headBeacon x1 x2 x3 x4 x5 x6 x7 x8 x9 x10) := by
  unfold State.headBeacon
  repeat' first
    | with_reducible assumption
    | (intro x)
    | with_reducible apply State.heardOther_good
    | with_reducible apply State.roleUpdate_good
    | with_reducible apply State.setRole_good
    | with_reducible apply State.setRegs_good
    | with_reducible apply State.setRing_good
    | with_reducible apply State.takeSegment_good
    | with_reducible apply Good.ite
    | with_reducible apply Good.iteSnd
    | with_reducible apply Good.iteThird
    | simp only [Good.mk_iff]

theorem State.serveDom_good {s0 : State} (x1 : Sys2Proof.Machine.State) (x2 : Sys2Proof.Machine.Origin) (x3 : Nat) (x4 : Nat) (x5 : Sys2Proof.Machine.State → Sys2Proof.Machine.Role → Sys2Proof.Machine.OpOut × Sys2Proof.Machine.State) (h1 : Good s0 x1) (h5 : ∀ y1 y2, Good s0 y1 → Good s0 (x5 y1 y2).2) :
    Good s0 (State.serveDom x1 x2 x3 x4 x5) := by
  unfold State.serveDom
  repeat' first
    | with_reducible assumption
    | (intro x)
    | with_reducible apply State.answer_good
    | with_reducible apply State.serve_good
    | with_reducible apply h5
    | with_reducible apply Good.ite

theorem State.railOff_good {s0 : State} (x1 : Sys2Proof.Machine.State) (x2 : Nat) (h1 : Good s0 x1) :
    Good s0 (State.railOff x1 x2) := by
  unfold State.railOff
  repeat' first
    | with_reducible assumption
    | (intro x)
    | with_reducible apply State.setDen_good
    | with_reducible apply State.setReg_good
    | with_reducible apply Good.ite
    | with_reducible apply Good.iteSnd
    | with_reducible apply Good.iteThird
    | simp only [Good.mk_iff]

theorem State.hearthOn_good {s0 : State} (x1 : Sys2Proof.Machine.State) (h1 : Good s0 x1) :
    Good s0 (State.hearthOn x1) := by
  unfold State.hearthOn
  repeat' first
    | with_reducible assumption
    | (intro x)
    | with_reducible apply State.setRegs_good
    | with_reducible apply Good.ite
    | with_reducible apply Good.iteSnd
    | with_reducible apply Good.iteThird
    | simp only [Good.mk_iff]

theorem State.noteEv_good {s0 : State} (x1 : Sys2Proof.Machine.State) (x2 : Nat) (x3 : Sys2Proof.Bytes) (h1 : Good s0 x1) :
    Good s0 (State.noteEv x1 x2 x3) := by
  unfold State.noteEv
  repeat' first
    | with_reducible assumption
    | (intro x)
    | with_reducible apply State.markEv_good
    | with_reducible apply State.pushEv_good
    | with_reducible apply Good.ite

theorem State.clearPosition_good {s0 : State} (x1 : Sys2Proof.Machine.State) (h1 : Good s0 x1) :
    Good s0 (State.clearPosition x1) := by
  unfold State.clearPosition
  repeat' first
    | with_reducible assumption
    | (intro x)
    | with_reducible apply State.setRegs_good
    | with_reducible apply Good.ite
    | with_reducible apply Good.iteSnd
    | with_reducible apply Good.iteThird
    | simp only [Good.mk_iff]

theorem State.fwDone_good {s0 : State} (x1 : Sys2Proof.Machine.State) (x2 : Nat) (x3 : Sys2Proof.Bytes) (x4 : Bool) (h1 : Good s0 x1) :
    Good s0 (State.fwDone x1 x2 x3 x4).2 := by
  unfold State.fwDone
  repeat' first
    | with_reducible assumption
    | (intro x)
    | with_reducible apply State.setReg_good
    | with_reducible apply State.bootFails_good
    | with_reducible apply State.setRegs_good
    | with_reducible apply Good.ite
    | with_reducible apply Good.iteSnd
    | with_reducible apply Good.iteThird
    | simp only [Good.mk_iff]

theorem State.biddingDone_good {s0 : State} (x1 : Sys2Proof.Machine.State) (h1 : Good s0 x1) :
    Good s0 (State.biddingDone x1) := by
  unfold State.biddingDone
  repeat' first
    | with_reducible assumption
    | (intro x)
    | with_reducible apply State.setRole_good
    | with_reducible apply State.reachCclk_good
    | with_reducible apply State.setRegs_good
    | with_reducible apply State.incReg_good
    | with_reducible apply State.takeSegment_good
    | with_reducible apply State.setRing_good
    | with_reducible apply Good.ite
    | with_reducible apply Good.iteSnd
    | with_reducible apply Good.iteThird
    | simp only [Good.mk_iff]
    | split

theorem State.takeRecord_good {s0 : State} (x1 : Sys2Proof.Machine.State) (x2 : Nat) (h1 : Good s0 x1) :
    Good s0 (State.takeRecord x1 x2).2 := by
  unfold State.takeRecord
  repeat' first
    | with_reducible assumption
    | (intro x)
    | with_reducible apply State.takeDevice_good

theorem State.loopAdvance_good {s0 : State} (x1 : Sys2Proof.Machine.State) (x2 : Nat) (h1 : Good s0 x1) :
    Good s0 (State.loopAdvance x1 x2) := by
  unfold State.loopAdvance
  repeat' first
    | with_reducible assumption
    | (intro x)
    | with_reducible apply State.loopTo_good
    | with_reducible apply State.setLoop_good
    | with_reducible apply Good.ite
    | with_reducible apply Good.iteSnd
    | with_reducible apply Good.iteThird
    | simp only [Good.mk_iff]
    | split

theorem State.calDark_good {s0 : State} (x1 : Sys2Proof.Machine.State) (h1 : Good s0 x1) :
    Good s0 (State.calDark x1) := by
  unfold State.calDark
  repeat' first
    | with_reducible assumption
    | (intro x)
    | with_reducible apply State.railOff_good
    | with_reducible apply State.sinksOff_good
    | with_reducible apply Good.ite

theorem State.openEmission_good {s0 : State} (x1 : Sys2Proof.Machine.State) (x2 : Nat) (h1 : Good s0 x1) :
    Good s0 (State.openEmission x1 x2) := by
  unfold State.openEmission
  repeat' first
    | with_reducible assumption
    | (intro x)
    | with_reducible apply State.slotCut_good
    | with_reducible apply Good.ite
    | with_reducible apply Good.iteSnd
    | with_reducible apply Good.iteThird
    | simp only [Good.mk_iff]

theorem State.dupTest_good {s0 : State} (x1 : Sys2Proof.Machine.State) (x2 : Nat) (x3 : Nat) (h1 : Good s0 x1) :
    Good s0 (State.dupTest x1 x2 x3).2 := by
  unfold State.dupTest
  repeat' first
    | with_reducible assumption
    | (intro x)
    | with_reducible apply State.incReg_good
    | with_reducible apply Good.ite
    | with_reducible apply Good.iteSnd
    | with_reducible apply Good.iteThird
    | simp only [Good.mk_iff]
    | split

theorem State.slotSink_good {s0 : State} (x1 : Sys2Proof.Machine.State) (x2 : List Sys2Proof.Machine.SinkSample) (x3 : Nat) (x4 : Nat × Nat × Nat × Nat) (h1 : Good s0 x1) :
    Good s0 (State.slotSink x1 x2 x3 x4) := by
  unfold State.slotSink
  repeat' first
    | with_reducible assumption
    | (intro x)
    | with_reducible apply State.drawSample_good
    | with_reducible apply Good.ite
    | with_reducible apply Good.iteSnd
    | with_reducible apply Good.iteThird
    | simp only [Good.mk_iff]
    | split

theorem State.headResign_good {s0 : State} (x1 : Sys2Proof.Machine.State) (x2 : Nat) (x3 : Nat) (h1 : Good s0 x1) :
    Good s0 (State.headResign x1 x2 x3) := by
  unfold State.headResign
  repeat' first
    | with_reducible assumption
    | (intro x)
    | with_reducible apply State.startBid_good
    | with_reducible apply Good.ite
    | with_reducible apply Good.iteSnd
    | with_reducible apply Good.iteThird
    | simp only [Good.mk_iff]

theorem State.installQueues_good {s0 : State} (x1 : Sys2Proof.Machine.State) (x2 : Sys2Proof.Machine.Topo) (x3 : Bool) (h1 : Good s0 x1) :
    Good s0 (State.installQueues x1 x2 x3) := by
  unfold State.installQueues
  repeat' first
    | with_reducible assumption
    | (intro x)
    | with_reducible apply State.endPops_good
    | with_reducible apply State.dropRx_good
    | with_reducible apply State.setRegs_good
    | with_reducible apply State.setReg_good
    | with_reducible apply Good.ite
    | with_reducible apply Good.iteSnd
    | with_reducible apply Good.iteThird
    | simp only [Good.mk_iff]

theorem State.dmxSlot_good {s0 : State} (x1 : Sys2Proof.Machine.State) (x2 : Nat) (h1 : Good s0 x1) :
    Good s0 (State.dmxSlot x1 x2) := by
  unfold State.dmxSlot
  repeat' first
    | with_reducible assumption
    | (intro x)
    | with_reducible apply State.incReg_good
    | with_reducible apply State.setDe_good
    | with_reducible apply State.send_good
    | with_reducible apply State.setRdm_good
    | with_reducible apply Good.ite
    | with_reducible apply Good.iteSnd
    | with_reducible apply Good.iteThird
    | simp only [Good.mk_iff]
    | split

theorem State.sacnMerge_good {s0 : State} (x1 : Sys2Proof.Bytes) (x2 : Sys2Proof.Machine.State) (h2 : Good s0 x2) :
    Good s0 (State.sacnMerge x1 x2) := by
  unfold State.sacnMerge
  repeat' first
    | with_reducible assumption
    | (intro x)
    | with_reducible apply State.sacnSync_good
    | with_reducible apply State.sacnTake_good
    | with_reducible apply Good.ite
    | with_reducible apply Good.iteSnd
    | with_reducible apply Good.iteThird
    | simp only [Good.mk_iff]
    | split

theorem State.winJudge_good {s0 : State} (x1 : Sys2Proof.Machine.State) (x2 : Sys2Proof.Bytes) (h1 : Good s0 x1) :
    Good s0 (State.winJudge x1 x2).2 := by
  unfold State.winJudge
  repeat' first
    | with_reducible assumption
    | (intro x)
    | with_reducible apply State.setWin_good
    | with_reducible apply State.putChans_good
    | with_reducible apply Good.ite
    | with_reducible apply Good.iteSnd
    | with_reducible apply Good.iteThird
    | simp only [Good.mk_iff]
    | split

theorem State.installBanks_good {s0 : State} (x1 : Sys2Proof.Machine.State) (x2 : Sys2Proof.Machine.Topo) (h1 : Good s0 x1) :
    Good s0 (State.installBanks x1 x2) := by
  unfold State.installBanks
  repeat' first
    | with_reducible assumption
    | (intro x)
    | with_reducible apply State.putCoefs_good
    | with_reducible apply State.putLut_good
    | with_reducible apply Good.foldl
    | with_reducible apply Good.foldlSnd
    | with_reducible apply Good.ite
    | with_reducible apply Good.iteSnd
    | with_reducible apply Good.iteThird
    | simp only [Good.mk_iff]
    | split

theorem State.overTempClear_good {s0 : State} (x1 : Sys2Proof.Machine.State) (x2 : Nat) (x3 : Int) (h1 : Good s0 x1) :
    Good s0 (State.overTempClear x1 x2 x3) := by
  unfold State.overTempClear
  repeat' first
    | with_reducible assumption
    | (intro x)
    | with_reducible apply State.dieRead_good
    | with_reducible apply State.clearActive_good
    | with_reducible apply Good.ite
    | with_reducible apply Good.iteSnd
    | with_reducible apply Good.iteThird
    | simp only [Good.mk_iff]

theorem State.ruleFor_good {s0 : State} (x1 : Sys2Proof.Machine.State) (x2 : Nat) (x3 : Sys2Proof.Bytes) (h1 : Good s0 x1) :
    Good s0 (State.ruleFor x1 x2 x3).2 := by
  unfold State.ruleFor
  repeat' first
    | with_reducible assumption
    | (intro x)
    | with_reducible apply State.incReg_good
    | with_reducible apply Good.ite
    | with_reducible apply Good.iteSnd
    | with_reducible apply Good.iteThird
    | simp only [Good.mk_iff]
    | split

theorem State.txCount_good {s0 : State} (x1 : Sys2Proof.Machine.State) (x2 : Nat) (x3 : Nat) (h1 : Good s0 x1) :
    Good s0 (State.txCount x1 x2 x3) := by
  unfold State.txCount
  repeat' first
    | with_reducible assumption
    | (intro x)
    | with_reducible apply State.addReg64_good
    | with_reducible apply State.incReg_good

theorem State.pulseOn_good {s0 : State} (x1 : Sys2Proof.Machine.State) (x2 : Nat) (x3 : Sys2Proof.Machine.PulseSt) (h1 : Good s0 x1) :
    Good s0 (State.pulseOn x1 x2 x3) := by
  unfold State.pulseOn
  repeat' first
    | with_reducible assumption
    | (intro x)
    | with_reducible apply State.incReg_good
    | with_reducible apply State.setPulse_good

theorem State.enterReset_good {s0 : State} (x1 : Sys2Proof.Machine.State) (x2 : Nat) (h1 : Good s0 x1) :
    Good s0 (State.enterReset x1 x2) := by
  unfold State.enterReset
  repeat' first
    | with_reducible assumption
    | (intro x)
    | with_reducible apply State.eraseTransfer_good
    | with_reducible apply State.setDen_good
    | with_reducible apply State.sinksOff_good
    | with_reducible apply State.setRegs_good
    | with_reducible apply State.cleared_good
    | with_reducible apply State.setReg_good
    | with_reducible apply Good.foldl

theorem State.abandonOf_good {s0 : State} (x1 : Sys2Proof.Machine.State) (x2 : Sys2Proof.Machine.Origin) (h1 : Good s0 x1) :
    Good s0 (State.abandonOf x1 x2) := by
  unfold State.abandonOf
  repeat' first
    | with_reducible assumption
    | (intro x)
    | with_reducible apply State.abandon_good
    | with_reducible apply Good.foldl

theorem State.bandTick_good {s0 : State} (x1 : Sys2Proof.Machine.State) (h1 : Good s0 x1) :
    Good s0 (State.bandTick x1) := by
  unfold State.bandTick
  repeat' first
    | with_reducible assumption
    | (intro x)
    | with_reducible apply State.incReg_good
    | with_reducible apply Good.foldl
    | with_reducible apply Good.foldlSnd
    | with_reducible apply Good.ite
    | with_reducible apply Good.iteSnd
    | with_reducible apply Good.iteThird
    | simp only [Good.mk_iff]

theorem State.gatherKey_good {s0 : State} (x1 : Sys2Proof.Machine.State) (x2 : Nat) (x3 : Bool) (h1 : Good s0 x1) :
    Good s0 (State.gatherKey x1 x2 x3) := by
  unfold State.gatherKey
  repeat' first
    | with_reducible assumption
    | (intro x)
    | with_reducible apply State.gatherRun_good
    | with_reducible apply State.setRas_good
    | with_reducible apply State.maxReg_good

theorem State.selfTest_good {s0 : State} (x1 : Sys2Proof.Machine.State) (x2 : Bool) (h1 : Good s0 x1) :
    Good s0 (State.selfTest x1 x2) := by
  unfold State.selfTest
  repeat' first
    | with_reducible assumption
    | (intro x)
    | with_reducible apply State.hearthOn_good
    | with_reducible apply State.bootFails_good
    | with_reducible apply Good.ite
    | with_reducible apply Good.iteSnd
    | with_reducible apply Good.iteThird
    | simp only [Good.mk_iff]

theorem State.heartbeat_good {s0 : State} (x1 : Sys2Proof.Machine.State) (x2 : Nat) (x3 : Nat) (x4 : Nat) (x5 : Nat) (x6 : Nat) (h1 : Good s0 x1) :
    Good s0 (State.heartbeat x1 x2 x3 x4 x5 x6) := by
  unfold State.heartbeat
  repeat' first
    | with_reducible assumption
    | (intro x)
    | with_reducible apply State.setLink_good
    | with_reducible apply State.incReg_good
    | with_reducible apply State.ringUpdate_good
    | with_reducible apply State.setLinkState_good
    | with_reducible apply Good.ite
    | with_reducible apply Good.iteSnd
    | with_reducible apply Good.iteThird
    | simp only [Good.mk_iff]
    | split

theorem State.minPool_good {s0 : State} (x1 : Sys2Proof.Machine.State) (h1 : Good s0 x1) :
    Good s0 (State.minPool x1) := by
  unfold State.minPool
  repeat' first
    | with_reducible assumption
    | (intro x)
    | with_reducible apply State.minReg_good

theorem State.bandStep_good {s0 : State} (x1 : Sys2Proof.Machine.State) (h1 : Good s0 x1) :
    Good s0 (State.bandStep x1) := by
  unfold State.bandStep
  repeat' first
    | with_reducible assumption
    | (intro x)
    | with_reducible apply State.bandTick_good
    | with_reducible apply State.noteChange_good
    | with_reducible apply Good.ite

theorem State.realign_good {s0 : State} (x1 : Sys2Proof.Machine.State) (x2 : Nat) (x3 : Nat) (h1 : Good s0 x1) :
    Good s0 (State.realign x1 x2 x3) := by
  unfold State.realign
  repeat' first
    | with_reducible assumption
    | (intro x)
    | with_reducible apply State.sinksOff_good
    | with_reducible apply State.incReg_good
    | with_reducible apply State.setReg_good
    | with_reducible apply Good.ite
    | with_reducible apply Good.iteSnd
    | with_reducible apply Good.iteThird
    | simp only [Good.mk_iff]

theorem State.opData_good {s0 : State} (x1 : Sys2Proof.Machine.State) (x2 : Sys2Proof.Machine.Origin) (x3 : Nat) (x4 : Nat) (x5 : Nat) (x6 : Nat) (x7 : Sys2Proof.Bytes) (h1 : Good s0 x1) :
    Good s0 (State.opData x1 x2 x3 x4 x5 x6 x7).2 := by
  unfold State.opData
  repeat' first
    | with_reducible assumption
    | (intro x)
    | with_reducible apply State.setXfer_good
    | with_reducible apply State.closeBlock_good
    | with_reducible apply Good.ite
    | with_reducible apply Good.iteSnd
    | with_reducible apply Good.iteThird
    | simp only [Good.mk_iff]
    | split

theorem State.loopStart_good {s0 : State} (x1 : Sys2Proof.Machine.State) (x2 : Nat) (h1 : Good s0 x1) :
    Good s0 (State.loopStart x1 x2) := by
  unfold State.loopStart
  repeat' first
    | with_reducible assumption
    | (intro x)
    | with_reducible apply State.loopTo_good
    | with_reducible apply Good.ite

theorem State.stallCheck_good {s0 : State} (x1 : Sys2Proof.Machine.State) (x2 : Nat) (h1 : Good s0 x1) :
    Good s0 (State.stallCheck x1 x2) := by
  unfold State.stallCheck
  repeat' first
    | with_reducible assumption
    | (intro x)
    | with_reducible apply State.incReg_good
    | with_reducible apply State.setRas_good
    | with_reducible apply Good.ite

theorem State.layerTakes_good {s0 : State} (x1 : Sys2Proof.Machine.State) (x2 : Nat) (x3 : Sys2Proof.Machine.PFrame) (x4 : Bool) (x5 : Bool) (h1 : Good s0 x1) :
    Good s0 (State.layerTakes x1 x2 x3 x4 x5) := by
  unfold State.layerTakes
  repeat' first
    | with_reducible assumption
    | (intro x)
    | with_reducible apply State.setLayer_good
    | with_reducible apply State.incReg_good
    | with_reducible apply Good.ite

theorem State.ptpIgnored_good {s0 : State} (x1 : Sys2Proof.Machine.State) (h1 : Good s0 x1) :
    Good s0 (State.ptpIgnored x1) := by
  unfold State.ptpIgnored
  repeat' first
    | with_reducible assumption
    | (intro x)
    | with_reducible apply State.incReg_good

theorem State.onDelayResp_good {s0 : State} (x1 : Sys2Proof.Machine.State) (x2 : Nat) (x3 : Sys2Proof.Machine.PtpMsg) (h1 : Good s0 x1) :
    Good s0 (State.onDelayResp x1 x2 x3) := by
  unfold State.onDelayResp
  repeat' first
    | with_reducible assumption
    | (intro x)
    | with_reducible apply State.ptpIgnored_good
    | with_reducible apply State.setReg_good
    | with_reducible apply Good.ite
    | with_reducible apply Good.iteSnd
    | with_reducible apply Good.iteThird
    | simp only [Good.mk_iff]
    | split

theorem State.calTslat_good {s0 : State} (x1 : Sys2Proof.Machine.State) (x2 : Sys2Proof.Machine.CalMeas) (x3 : List Nat) (x4 : Sys2Proof.Machine.CalSet) (h1 : Good s0 x1) :
    Good s0 (State.calTslat x1 x2 x3 x4).2 := by
  unfold State.calTslat
  repeat' first
    | with_reducible assumption
    | (intro x)
    | with_reducible apply State.calTslatOne_good
    | with_reducible apply Good.foldl
    | with_reducible apply Good.foldlSnd

theorem State.stagingOutputs_good {s0 : State} (x1 : Sys2Proof.Machine.State) (h1 : Good s0 x1) :
    Good s0 (State.stagingOutputs x1) := by
  unfold State.stagingOutputs
  repeat' first
    | with_reducible assumption
    | (intro x)
    | with_reducible apply State.railOff_good
    | with_reducible apply State.sinksOff_good
    | with_reducible apply Good.ite
    | with_reducible apply Good.iteSnd
    | with_reducible apply Good.iteThird
    | simp only [Good.mk_iff]

theorem State.flattenNote_good {s0 : State} (x1 : Sys2Proof.Machine.State) (x2 : Nat) (h1 : Good s0 x1) :
    Good s0 (State.flattenNote x1 x2) := by
  unfold State.flattenNote
  repeat' first
    | with_reducible assumption
    | (intro x)
    | with_reducible apply State.incReg_good
    | with_reducible apply State.setLayer_good
    | with_reducible apply Good.ite

theorem State.fbxSupplyLow_good {s0 : State} (x1 : Sys2Proof.Machine.State) (h1 : Good s0 x1) :
    Good s0 (State.fbxSupplyLow x1) := by
  unfold State.fbxSupplyLow
  repeat' first
    | with_reducible assumption
    | (intro x)
    | with_reducible apply State.railOff_good
    | with_reducible apply State.sinksOff_good
    | with_reducible apply Good.ite
    | with_reducible apply Good.iteSnd
    | with_reducible apply Good.iteThird
    | simp only [Good.mk_iff]

theorem State.strandStart_good {s0 : State} (x1 : Sys2Proof.Machine.State) (x2 : Nat) (h1 : Good s0 x1) :
    Good s0 (State.strandStart x1 x2) := by
  unfold State.strandStart
  repeat' first
    | with_reducible assumption
    | (intro x)
    | with_reducible apply State.reach_good
    | with_reducible apply State.send_good
    | with_reducible apply State.incReg_good
    | with_reducible apply Good.ite
    | with_reducible apply Good.iteSnd
    | with_reducible apply Good.iteThird
    | simp only [Good.mk_iff]
    | split

theorem State.dmxTick_good {s0 : State} (x1 : Sys2Proof.Machine.State) (h1 : Good s0 x1) :
    Good s0 (State.dmxTick x1) := by
  unfold State.dmxTick
  repeat' first
    | with_reducible assumption
    | (intro x)
    | with_reducible apply State.dmxSlot_good
    | with_reducible apply Good.foldl
    | with_reducible apply Good.foldlSnd
    | with_reducible apply Good.ite

theorem State.enterStaging_good {s0 : State} (x1 : Sys2Proof.Machine.State) (x2 : Nat) (h1 : Good s0 x1) :
    Good s0 (State.enterStaging x1 x2) := by
  unfold State.enterStaging
  repeat' first
    | with_reducible assumption
    | (intro x)
    | with_reducible apply State.dropArming_good
    | with_reducible apply State.setMode_good
    | with_reducible apply State.askBootLoad_good
    | with_reducible apply State.stagingOutputs_good
    | with_reducible apply Good.ite
    | with_reducible apply Good.iteSnd
    | with_reducible apply Good.iteThird
    | simp only [Good.mk_iff]

theorem State.scanSlot_good {s0 : State} (x1 : Sys2Proof.Machine.State) (x2 : List Sys2Proof.Machine.SinkSample) (x3 : List Sys2Proof.Machine.SinkSample) (h1 : Good s0 x1) :
    Good s0 (State.scanSlot x1 x2 x3) := by
  unfold State.scanSlot
  repeat' first
    | with_reducible assumption
    | (intro x)
    | with_reducible apply State.reach_good
    | with_reducible apply State.send_good
    | with_reducible apply State.drawSample_good
    | with_reducible apply State.slotSink_good
    | with_reducible apply Good.foldl
    | with_reducible apply Good.foldlSnd
    | with_reducible apply Good.ite
    | with_reducible apply Good.iteSnd
    | with_reducible apply Good.iteThird
    | simp only [Good.mk_iff]
    | split

theorem State.applyStep_good {s0 : State} (x1 : Sys2Proof.Machine.State) (x2 : Int) (x3 : Bool) (h1 : Good s0 x1) :
    Good s0 (State.applyStep x1 x2 x3) := by
  unfold State.applyStep
  repeat' first
    | with_reducible assumption
    | (intro x)
    | with_reducible apply State.shiftClock_good
    | with_reducible apply State.setRegs_good
    | with_reducible apply State.realign_good
    | with_reducible apply State.incReg_good
    | with_reducible apply Good.ite
    | with_reducible apply Good.iteSnd
    | with_reducible apply Good.iteThird
    | simp only [Good.mk_iff]

theorem State.stepApply_good {s0 : State} (x1 : Sys2Proof.Machine.State) (h1 : Good s0 x1) :
    Good s0 (State.stepApply x1) := by
  unfold State.stepApply
  repeat' first
    | with_reducible assumption
    | (intro x)
    | with_reducible apply State.setServo_good
    | with_reducible apply State.restartMeasuring_good
    | with_reducible apply State.applyStep_good
    | with_reducible apply Good.ite
    | with_reducible apply Good.iteSnd
    | with_reducible apply Good.iteThird
    | simp only [Good.mk_iff]
    | split

theorem State.resetLow_good {s0 : State} (x1 : Sys2Proof.Machine.State) (h1 : Good s0 x1) :
    Good s0 (State.resetLow x1) := by
  unfold State.resetLow
  repeat' first
    | with_reducible assumption
    | (intro x)
    | with_reducible apply State.enterReset_good
    | with_reducible apply Good.ite
    | with_reducible apply Good.iteSnd
    | with_reducible apply Good.iteThird
    | simp only [Good.mk_iff]

theorem State.belayRestart_good {s0 : State} (x1 : Sys2Proof.Machine.State) (h1 : Good s0 x1) :
    Good s0 (State.belayRestart x1) := by
  unfold State.belayRestart
  repeat' first
    | with_reducible assumption
    | (intro x)
    | with_reducible apply State.reachCclk_good
    | with_reducible apply State.bootAgain_good
    | with_reducible apply State.enterReset_good
    | with_reducible apply Good.ite
    | with_reducible apply Good.iteSnd
    | with_reducible apply Good.iteThird
    | simp only [Good.mk_iff]
    | split

theorem State.onPdelayResp_good {s0 : State} (x1 : Sys2Proof.Machine.State) (x2 : Nat) (x3 : Sys2Proof.Machine.PtpMsg) (h1 : Good s0 x1) :
    Good s0 (State.onPdelayResp x1 x2 x3) := by
  unfold State.onPdelayResp
  repeat' first
    | with_reducible assumption
    | (intro x)
    | with_reducible apply State.ptpIgnored_good
    | with_reducible apply State.setPdelay_good
    | with_reducible apply State.setLinkDelay_good
    | with_reducible apply Good.ite

theorem State.egressFree_good {s0 : State} (x1 : Sys2Proof.Machine.State) (h1 : Good s0 x1) :
    Good s0 (State.egressFree x1) := by
  unfold State.egressFree
  repeat' first
    | with_reducible assumption
    | (intro x)
    | with_reducible apply State.dmxTick_good
    | with_reducible apply Good.ite

theorem State.poolEvent_good {s0 : State} (x1 : Sys2Proof.Machine.State) (h1 : Good s0 x1) :
    Good s0 (State.poolEvent x1) := by
  unfold State.poolEvent
  repeat' first
    | with_reducible assumption
    | (intro x)
    | with_reducible apply State.minPool_good
    | with_reducible apply State.noteEv_good
    | with_reducible apply Good.ite
    | with_reducible apply Good.iteSnd
    | with_reducible apply Good.iteThird
    | simp only [Good.mk_iff]

theorem State.initialSet_good {s0 : State} (x1 : Sys2Proof.Machine.State) (h1 : Good s0 x1) :
    Good s0 (State.initialSet x1) := by
  unfold State.initialSet
  repeat' first
    | with_reducible assumption
    | (intro x)
    | with_reducible apply State.setServo_good
    | with_reducible apply State.restartMeasuring_good
    | with_reducible apply State.setReg_good
    | with_reducible apply State.applyStep_good
    | with_reducible apply Good.ite
    | with_reducible apply Good.iteSnd
    | with_reducible apply Good.iteThird
    | simp only [Good.mk_iff]
    | split

theorem State.showFrame_good {s0 : State} (x1 : Sys2Proof.Machine.State) (x2 : Nat) (x3 : Sys2Proof.Machine.PFrame) (x4 : Bool) (x5 : Bool) (h1 : Good s0 x1) :
    Good s0 (State.showFrame x1 x2 x3 x4 x5) := by
  unfold State.showFrame
  repeat' first
    | with_reducible assumption
    | (intro x)
    | with_reducible apply State.layerTakes_good
    | with_reducible apply State.noteChange_good
    | with_reducible apply Good.foldl
    | with_reducible apply Good.foldlSnd
    | with_reducible apply Good.ite

theorem State.installRate_good {s0 : State} (x1 : Sys2Proof.Machine.State) (x2 : Bool) (h1 : Good s0 x1) :
    Good s0 (State.installRate x1 x2) := by
  unfold State.installRate
  repeat' first
    | with_reducible assumption
    | (intro x)
    | with_reducible apply State.setReg_good
    | with_reducible apply State.realign_good
    | with_reducible apply Good.ite

theorem State.onPdelayFollow_good {s0 : State} (x1 : Sys2Proof.Machine.State) (x2 : Nat) (x3 : Sys2Proof.Machine.PtpMsg) (h1 : Good s0 x1) :
    Good s0 (State.onPdelayFollow x1 x2 x3) := by
  unfold State.onPdelayFollow
  repeat' first
    | with_reducible assumption
    | (intro x)
    | with_reducible apply State.ptpIgnored_good
    | with_reducible apply State.setLinkDelay_good
    | with_reducible apply State.setPdelay_good
    | with_reducible apply Good.ite
    | with_reducible apply Good.iteSnd
    | with_reducible apply Good.iteThird
    | simp only [Good.mk_iff]
    | split

theorem State.poolCheck_good {s0 : State} (x1 : Sys2Proof.Machine.State) (h1 : Good s0 x1) :
    Good s0 (State.poolCheck x1) := by
  unfold State.poolCheck
  repeat' first
    | with_reducible assumption
    | (intro x)
    | with_reducible apply State.minPool_good
    | with_reducible apply State.poolEvent_good
    | with_reducible apply Good.ite
    | with_reducible apply Good.iteSnd
    | with_reducible apply Good.iteThird
    | simp only [Good.mk_iff]

theorem State.giveDue_good {s0 : State} (x1 : Sys2Proof.Machine.State) (x2 : Nat) (x3 : List Sys2Proof.Machine.PFrame) (x4 : Bool) (h1 : Good s0 x1) :
    Good s0 (State.giveDue x1 x2 x3 x4) := by
  unfold State.giveDue
  repeat' first
    | with_reducible assumption
    | (intro x)
    | with_reducible apply State.showFrame_good
    | with_reducible apply State.setStream_good
    | with_reducible apply State.incReg_good
    | with_reducible apply State.addReg_good
    | with_reducible apply Good.ite
    | with_reducible apply Good.iteSnd
    | with_reducible apply Good.iteThird
    | simp only [Good.mk_iff]
    | split

theorem State.pop_good {s0 : State} (x1 : Sys2Proof.Machine.State) (x2 : Nat) (h1 : Good s0 x1) :
    ∀ z, State.pop x1 x2 = some z → Good s0 z.2 := by
  unfold State.pop
  repeat' first
    | with_reducible assumption
    | (intro z e; cases e)
    | with_reducible apply State.poolCheck_good
    | with_reducible apply State.setQueue_good
    | with_reducible apply Good.ite
    | with_reducible apply Good.iteSnd
    | with_reducible apply Good.iteThird
    | simp only [Good.mk_iff]
    | split

theorem State.raise_good {s0 : State} (x1 : Sys2Proof.Machine.State) (x2 : Nat) (x3 : Sys2Proof.Bytes) (h1 : Good s0 x1) :
    Good s0 (State.raise x1 x2 x3) := by
  unfold State.raise
  repeat' first
    | with_reducible assumption
    | (intro x)
    | with_reducible apply State.poolCheck_good
    | with_reducible apply State.noteEv_good
    | with_reducible apply Good.ite

theorem State.lineMatch_good {s0 : State} (x1 : Sys2Proof.Machine.State) (h1 : Good s0 x1) :
    Good s0 (State.lineMatch x1) := by
  unfold State.lineMatch
  repeat' first
    | with_reducible assumption
    | (intro x)
    | with_reducible apply State.raise_good
    | with_reducible apply Good.foldl
    | with_reducible apply Good.foldlSnd
    | with_reducible apply Good.ite

theorem State.disarm_good {s0 : State} (x1 : Sys2Proof.Machine.State) (h1 : Good s0 x1) :
    Good s0 (State.disarm x1) := by
  unfold State.disarm
  repeat' first
    | with_reducible assumption
    | (intro x)
    | with_reducible apply State.raise_good
    | with_reducible apply State.setReg_good
    | with_reducible apply Good.ite
    | with_reducible apply Good.iteSnd
    | with_reducible apply Good.iteThird
    | simp only [Good.mk_iff]

theorem State.tempWarn_good {s0 : State} (x1 : Sys2Proof.Machine.State) (h1 : Good s0 x1) :
    Good s0 (State.tempWarn x1) := by
  unfold State.tempWarn
  repeat' first
    | with_reducible assumption
    | (intro x)
    | with_reducible apply State.raise_good
    | with_reducible apply Good.ite
    | with_reducible apply Good.iteSnd
    | with_reducible apply Good.iteThird
    | simp only [Good.mk_iff]
    | split

theorem State.rxPush_good {s0 : State} (x1 : Sys2Proof.Machine.State) (x2 : Nat) (x3 : Nat) (x4 : Sys2Proof.Bytes) (h1 : Good s0 x1) :
    Good s0 (State.rxPush x1 x2 x3 x4) := by
  unfold State.rxPush
  repeat' first
    | with_reducible assumption
    | (intro x)
    | with_reducible apply State.incReg_good
    | with_reducible apply State.giveTask_good
    | with_reducible apply State.setQueue_good
    | with_reducible apply State.poolCheck_good
    | with_reducible apply Good.ite
    | with_reducible apply Good.iteSnd
    | with_reducible apply Good.iteThird
    | simp only [Good.mk_iff]
    | split

theorem State.discEnd_good {s0 : State} (x1 : Sys2Proof.Machine.State) (x2 : Nat) (h1 : Good s0 x1) :
    Good s0 (State.discEnd x1 x2) := by
  unfold State.discEnd
  repeat' first
    | with_reducible assumption
    | (intro x)
    | with_reducible apply State.raise_good
    | with_reducible apply State.setRdm_good
    | with_reducible apply Good.ite

theorem State.authFail_good {s0 : State} (x1 : Sys2Proof.Machine.State) (x2 : Nat) (x3 : Nat) (h1 : Good s0 x1) :
    Good s0 (State.authFail x1 x2 x3) := by
  unfold State.authFail
  repeat' first
    | with_reducible assumption
    | (intro x)
    | with_reducible apply State.raise_good
    | with_reducible apply State.incReg_good
    | with_reducible apply Good.ite
    | with_reducible apply Good.iteSnd
    | with_reducible apply Good.iteThird
    | simp only [Good.mk_iff]

theorem State.takeNewest_good {s0 : State} (x1 : Sys2Proof.Machine.State) (h1 : Good s0 x1) :
    Good s0 (State.takeNewest x1) := by
  unfold State.takeNewest
  repeat' first
    | with_reducible assumption
    | (intro x)
    | with_reducible apply State.setStream_good
    | with_reducible apply State.giveDue_good
    | with_reducible apply Good.foldl
    | with_reducible apply Good.foldlSnd
    | with_reducible apply Good.ite

theorem State.uniLost_good {s0 : State} (x1 : Sys2Proof.Machine.State) (x2 : Nat) (h1 : Good s0 x1) :
    Good s0 (State.uniLost x1 x2) := by
  unfold State.uniLost
  repeat' first
    | with_reducible assumption
    | (intro x)
    | with_reducible apply State.setUni_good
    | with_reducible apply State.raise_good
    | with_reducible apply State.remerge_good
    | with_reducible apply Good.ite

theorem State.healNotice_good {s0 : State} (x1 : Sys2Proof.Machine.State) (x2 : Sys2Proof.Machine.BreakRec) (h1 : Good s0 x1) :
    Good s0 (State.healNotice x1 x2) := by
  unfold State.healNotice
  repeat' first
    | with_reducible assumption
    | (intro x)
    | with_reducible apply State.raise_good
    | with_reducible apply State.ringUpdate_good
    | with_reducible apply Good.ite
    | with_reducible apply Good.iteSnd
    | with_reducible apply Good.iteThird
    | simp only [Good.mk_iff]

theorem State.absentCheck_good {s0 : State} (x1 : Sys2Proof.Machine.State) (h1 : Good s0 x1) :
    Good s0 (State.absentCheck x1) := by
  unfold State.absentCheck
  repeat' first
    | with_reducible assumption
    | (intro x)
    | with_reducible apply State.setLayer_good
    | with_reducible apply State.raise_good
    | with_reducible apply Good.foldl
    | with_reducible apply Good.foldlSnd
    | with_reducible apply Good.ite

theorem State.newMaster_good {s0 : State} (x1 : Sys2Proof.Machine.State) (x2 : Sys2Proof.Machine.Master) (h1 : Good s0 x1) :
    Good s0 (State.newMaster x1 x2) := by
  unfold State.newMaster
  repeat' first
    | with_reducible assumption
    | (intro x)
    | with_reducible apply State.setReg_good
    | with_reducible apply State.raise_good
    | with_reducible apply State.restartMeasuring_good
    | with_reducible apply Good.ite
    | with_reducible apply Good.iteSnd
    | with_reducible apply Good.iteThird
    | simp only [Good.mk_iff]

theorem State.armRules_good {s0 : State} (x1 : Sys2Proof.Machine.State) (x2 : Nat) (h1 : Good s0 x1) :
    Good s0 (State.armRules x1 x2) := by
  unfold State.armRules
  repeat' first
    | with_reducible assumption
    | (intro x)
    | with_reducible apply State.raise_good
    | with_reducible apply State.setReg_good
    | with_reducible apply Good.foldl
    | with_reducible apply Good.foldlSnd
    | with_reducible apply Good.ite
    | with_reducible apply Good.iteSnd
    | with_reducible apply Good.iteThird
    | simp only [Good.mk_iff]

theorem State.setPortState_good {s0 : State} (x1 : Sys2Proof.Machine.State) (x2 : Nat) (x3 : Nat) (h1 : Good s0 x1) :
    Good s0 (State.setPortState x1 x2 x3) := by
  unfold State.setPortState
  repeat' first
    | with_reducible assumption
    | (intro x)
    | with_reducible apply State.setReg_good
    | with_reducible apply State.incReg_good
    | with_reducible apply State.raise_good
    | with_reducible apply Good.ite

theorem State.probeTick_good {s0 : State} (x1 : Sys2Proof.Machine.State) (h1 : Good s0 x1) :
    Good s0 (State.probeTick x1) := by
  unfold State.probeTick
  repeat' first
    | with_reducible assumption
    | (intro x)
    | with_reducible apply State.raise_good
    | with_reducible apply Good.foldl
    | with_reducible apply Good.foldlSnd
    | with_reducible apply Good.ite
    | with_reducible apply Good.iteSnd
    | with_reducible apply Good.iteThird
    | simp only [Good.mk_iff]

theorem State.fetchValue_good {s0 : State} (x1 : Sys2Proof.Machine.State) (x2 : Sys2Proof.Machine.Origin) (x3 : Sys2Proof.Machine.Obj) (x4 : Nat) (x5 : Nat) (h1 : Good s0 x1) :
    Good s0 (State.fetchValue x1 x2 x3 x4 x5).2 := by
  unfold State.fetchValue
  repeat' first
    | with_reducible assumption
    | (intro x)
    | with_reducible apply State.takeRecord_good
    | with_reducible apply State.poolCheck_good
    | with_reducible apply State.popWindow_good
    | with_reducible apply State.clearRead_good
    | with_reducible apply Good.ite
    | with_reducible apply Good.iteSnd
    | with_reducible apply Good.iteThird
    | simp only [Good.mk_iff]
    | split

theorem State.injectEnd_good {s0 : State} (x1 : Sys2Proof.Machine.State) (h1 : Good s0 x1) :
    Good s0 (State.injectEnd x1) := by
  unfold State.injectEnd
  repeat' first
    | with_reducible assumption
    | (intro x)
    | with_reducible apply State.disarm_good
    | with_reducible apply State.reachCclk_good
    | with_reducible apply Good.ite

theorem State.stepPast_good {s0 : State} (x1 : Sys2Proof.Machine.State) (x2 : Nat) (x3 : Nat) (x4 : Bool) (h1 : Good s0 x1) :
    Good s0 (State.stepPast x1 x2 x3 x4) := by
  unfold State.stepPast
  repeat' first
    | with_reducible assumption
    | (intro x)
    | with_reducible apply State.setStream_good
    | with_reducible apply State.raise_good
    | with_reducible apply State.addReg_good
    | with_reducible apply Good.ite
    | with_reducible apply Good.iteSnd
    | with_reducible apply Good.iteThird
    | simp only [Good.mk_iff]
    | split

theorem State.setDom_good {s0 : State} (x1 : Sys2Proof.Machine.State) (x2 : Nat) (x3 : Nat) (h1 : Good s0 x1) :
    Good s0 (State.setDom x1 x2 x3) := by
  unfold State.setDom
  repeat' first
    | with_reducible assumption
    | (intro x)
    | with_reducible apply State.raise_good
    | with_reducible apply Good.ite
    | with_reducible apply Good.iteSnd
    | with_reducible apply Good.iteThird
    | simp only [Good.mk_iff]

theorem State.colourTick_good {s0 : State} (x1 : Sys2Proof.Machine.State) (x2 : Nat) (h1 : Good s0 x1) :
    Good s0 (State.colourTick x1 x2) := by
  unfold State.colourTick
  repeat' first
    | with_reducible assumption
    | (intro x)
    | with_reducible apply State.setReg_good
    | with_reducible apply State.incReg_good
    | with_reducible apply State.raise_good
    | with_reducible apply Good.ite
    | with_reducible apply Good.iteSnd
    | with_reducible apply Good.iteThird
    | simp only [Good.mk_iff]

theorem State.supplyWarn_good {s0 : State} (x1 : Sys2Proof.Machine.State) (x2 : Nat) (x3 : Nat) (h1 : Good s0 x1) :
    Good s0 (State.supplyWarn x1 x2 x3) := by
  unfold State.supplyWarn
  repeat' first
    | with_reducible assumption
    | (intro x)
    | with_reducible apply State.raise_good
    | with_reducible apply Good.ite
    | with_reducible apply Good.iteSnd
    | with_reducible apply Good.iteThird
    | simp only [Good.mk_iff]

theorem State.popAny_good {s0 : State} (x1 : Sys2Proof.Machine.State) (x2 : Nat) (h1 : Good s0 x1) :
    ∀ z, State.popAny x1 x2 = some z → Good s0 z.2 := by
  unfold State.popAny
  repeat' first
    | with_reducible assumption
    | (intro z e; cases e)
    | with_reducible apply State.spillPop_good
    | (refine State.spillPop_good _ _ ?_ _ (by with_reducible assumption))
    | with_reducible apply State.pop_good
    | (refine State.pop_good _ _ ?_ _ (by with_reducible assumption))
    | with_reducible apply Good.ite
    | with_reducible apply Good.iteSnd
    | with_reducible apply Good.iteThird
    | simp only [Good.mk_iff]
    | split

theorem State.draughtTick_good {s0 : State} (x1 : Sys2Proof.Machine.State) (x2 : Nat) (h1 : Good s0 x1) :
    Good s0 (State.draughtTick x1 x2) := by
  unfold State.draughtTick
  repeat' first
    | with_reducible assumption
    | (intro x)
    | with_reducible apply State.setReg_good
    | with_reducible apply State.incReg_good
    | with_reducible apply State.raise_good
    | with_reducible apply Good.ite
    | with_reducible apply Good.iteSnd
    | with_reducible apply Good.iteThird
    | simp only [Good.mk_iff]
    | split

theorem State.takeEntry_good {s0 : State} (x1 : Sys2Proof.Machine.State) (x2 : Sys2Proof.Machine.SetEntry) (h1 : Good s0 x1) :
    Good s0 (State.takeEntry x1 x2).2 := by
  unfold State.takeEntry
  repeat' first
    | with_reducible assumption
    | (intro x)
    | with_reducible apply State.announceAddr_good
    | with_reducible apply State.raise_good
    | with_reducible apply State.setRegs_good
    | with_reducible apply Good.ite
    | with_reducible apply Good.iteSnd
    | with_reducible apply Good.iteThird
    | simp only [Good.mk_iff]
    | split

theorem State.lampsUnverified_good {s0 : State} (x1 : Sys2Proof.Machine.State) (h1 : Good s0 x1) :
    Good s0 (State.lampsUnverified x1) := by
  unfold State.lampsUnverified
  repeat' first
    | with_reducible assumption
    | (intro x)
    | with_reducible apply State.raise_good
    | with_reducible apply Good.foldl
    | with_reducible apply Good.foldlSnd
    | with_reducible apply Good.ite
    | with_reducible apply Good.iteSnd
    | with_reducible apply Good.iteThird
    | simp only [Good.mk_iff]

theorem State.waitCheck_good {s0 : State} (x1 : Sys2Proof.Machine.State) (x2 : Nat) (x3 : List (Nat × Nat)) (h1 : Good s0 x1) :
    Good s0 (State.waitCheck x1 x2 x3) := by
  unfold State.waitCheck
  repeat' first
    | with_reducible assumption
    | (intro x)
    | with_reducible apply State.maxReg_good
    | with_reducible apply State.raise_good
    | with_reducible apply State.incReg_good
    | with_reducible apply Good.foldl
    | with_reducible apply Good.foldlSnd
    | with_reducible apply Good.ite
    | with_reducible apply Good.iteSnd
    | with_reducible apply Good.iteThird
    | simp only [Good.mk_iff]

theorem State.windowCut_good {s0 : State} (x1 : Sys2Proof.Machine.State) (h1 : Good s0 x1) :
    Good s0 (State.windowCut x1) := by
  unfold State.windowCut
  repeat' first
    | with_reducible assumption
    | (intro x)
    | with_reducible apply State.winJudge_good
    | with_reducible apply State.raise_good
    | with_reducible apply State.addReg_good
    | with_reducible apply Good.foldl
    | with_reducible apply Good.foldlSnd
    | with_reducible apply Good.ite
    | with_reducible apply Good.iteSnd
    | with_reducible apply Good.iteThird
    | simp only [Good.mk_iff]

theorem State.enterJump_good {s0 : State} (x1 : Sys2Proof.Machine.State) (h1 : Good s0 x1) :
    Good s0 (State.enterJump x1) := by
  unfold State.enterJump
  repeat' first
    | with_reducible assumption
    | (intro x)
    | with_reducible apply State.setReg_good
    | with_reducible apply State.setServo_good
    | with_reducible apply State.freezeTrim_good
    | with_reducible apply State.wantHoldover_good
    | with_reducible apply State.raise_good
    | with_reducible apply Good.ite
    | with_reducible apply Good.iteSnd
    | with_reducible apply Good.iteThird
    | simp only [Good.mk_iff]

theorem State.opRead_good {s0 : State} (x1 : Sys2Proof.Machine.State) (x2 : Sys2Proof.Machine.Origin) (x3 : Sys2Proof.Machine.Role) (x4 : Nat) (x5 : Nat) (x6 : Nat) (h1 : Good s0 x1) :
    Good s0 (State.opRead x1 x2 x3 x4 x5 x6).2 := by
  unfold State.opRead
  repeat' first
    | with_reducible assumption
    | (intro x)
    | with_reducible apply State.fetchValue_good
    | with_reducible apply Good.ite
    | with_reducible apply Good.iteSnd
    | with_reducible apply Good.iteThird
    | simp only [Good.mk_iff]
    | split

theorem State.calAbort_good {s0 : State} (x1 : Sys2Proof.Machine.State) (x2 : Nat) (h1 : Good s0 x1) :
    Good s0 (State.calAbort x1 x2) := by
  unfold State.calAbort
  repeat' first
    | with_reducible assumption
    | (intro x)
    | with_reducible apply State.calDark_good
    | with_reducible apply State.calReturn_good
    | with_reducible apply State.setReg_good
    | with_reducible apply State.raise_good
    | with_reducible apply Good.ite
    | with_reducible apply Good.iteSnd
    | with_reducible apply Good.iteThird
    | simp only [Good.mk_iff]
    | split

theorem State.flip_good {s0 : State} (x1 : Sys2Proof.Machine.State) (h1 : Good s0 x1) :
    Good s0 (State.flip x1) := by
  unfold State.flip
  repeat' first
    | with_reducible assumption
    | (intro x)
    | with_reducible apply State.setReg_good
    | with_reducible apply State.rotate_good
    | with_reducible apply State.raise_good
    | with_reducible apply Good.ite
    | with_reducible apply Good.iteSnd
    | with_reducible apply Good.iteThird
    | simp only [Good.mk_iff]

theorem State.takeSets_good {s0 : State} (x1 : Sys2Proof.Machine.State) (h1 : Good s0 x1) :
    Good s0 (State.takeSets x1) := by
  unfold State.takeSets
  repeat' first
    | with_reducible assumption
    | (intro x)
    | with_reducible apply State.setLayer_good
    | with_reducible apply State.raise_good
    | with_reducible apply State.setReg_good
    | with_reducible apply Good.foldl
    | with_reducible apply Good.foldlSnd
    | with_reducible apply Good.ite
    | with_reducible apply Good.iteSnd
    | with_reducible apply Good.iteThird
    | simp only [Good.mk_iff]
    | split

theorem State.pulseEdge_good {s0 : State} (x1 : Sys2Proof.Machine.State) (x2 : Nat) (h1 : Good s0 x1) :
    Good s0 (State.pulseEdge x1 x2) := by
  unfold State.pulseEdge
  repeat' first
    | with_reducible assumption
    | (intro x)
    | with_reducible apply State.setPulse_good
    | with_reducible apply State.reachCclk_good
    | with_reducible apply State.reach_good
    | with_reducible apply State.setReg_good
    | with_reducible apply State.pulseOn_good
    | with_reducible apply State.raise_good
    | with_reducible apply Good.ite
    | with_reducible apply Good.iteSnd
    | with_reducible apply Good.iteThird
    | simp only [Good.mk_iff]
    | split

theorem State.taskFaultEvent_good {s0 : State} (x1 : Sys2Proof.Machine.State) (x2 : Nat) (h1 : Good s0 x1) :
    Good s0 (State.taskFaultEvent x1 x2) := by
  unfold State.taskFaultEvent
  repeat' first
    | with_reducible assumption
    | (intro x)
    | with_reducible apply State.drawWord_good
    | with_reducible apply State.raise_good

theorem State.staticEnter_good {s0 : State} (x1 : Sys2Proof.Machine.State) (h1 : Good s0 x1) :
    Good s0 (State.staticEnter x1) := by
  unfold State.staticEnter
  repeat' first
    | with_reducible assumption
    | (intro x)
    | with_reducible apply State.raise_good
    | with_reducible apply State.setReg_good
    | with_reducible apply State.incReg_good
    | with_reducible apply State.setRas_good
    | with_reducible apply Good.ite

theorem State.fadeDone_good {s0 : State} (x1 : Sys2Proof.Machine.State) (x2 : Nat) (h1 : Good s0 x1) :
    Good s0 (State.fadeDone x1 x2) := by
  unfold State.fadeDone
  repeat' first
    | with_reducible assumption
    | (intro x)
    | with_reducible apply State.raise_good
    | with_reducible apply Good.ite
    | with_reducible apply Good.iteSnd
    | with_reducible apply Good.iteThird
    | simp only [Good.mk_iff]

end Sys2Proof.Machine
end

