-- ==== Sys2Proof/Laws/Keep3.lean ====
section
/-! SUPPORT. Every operation keeps `Good`, part 3 of 4: one lemma for each operation, in the order in which one calls
the other. -/

namespace Sys2Proof.Machine

theorem State.enterHoldover_good {s0 : State} (x1 : Sys2Proof.Machine.State) (x2 : Nat) (h1 : Good s0 x1) :
    Good s0 (State.enterHoldover x1 x2) := by
  unfold State.enterHoldover
  repeat' first
    | with_reducible assumption
    | (intro x)
    | with_reducible apply State.raise_good
    | with_reducible apply State.setMode_good
    | with_reducible apply Good.ite
    | with_reducible apply Good.iteSnd
    | with_reducible apply Good.iteThird
    | simp only [Good.mk_iff]

theorem State.staticStep_good {s0 : State} (x1 : Sys2Proof.Machine.State) (h1 : Good s0 x1) :
    Good s0 (State.staticStep x1).2 := by
  unfold State.staticStep
  repeat' first
    | with_reducible assumption
    | (intro x)
    | with_reducible apply State.setRas_good
    | with_reducible apply State.raise_good
    | with_reducible apply State.setReg_good
    | with_reducible apply State.incReg_good
    | with_reducible apply Good.ite
    | with_reducible apply Good.iteSnd

theorem State.tempTick_good {s0 : State} (x1 : Sys2Proof.Machine.State) (h1 : Good s0 x1) :
    Good s0 (State.tempTick x1) := by
  unfold State.tempTick
  repeat' first
    | with_reducible assumption
    | (intro x)
    | with_reducible apply State.colourTick_good
    | with_reducible apply State.setReg_good
    | with_reducible apply Good.foldl
    | with_reducible apply Good.foldlSnd
    | with_reducible apply Good.ite
    | with_reducible apply Good.iteSnd
    | with_reducible apply Good.iteThird
    | simp only [Good.mk_iff]

theorem State.domainOff_good {s0 : State} (x1 : Sys2Proof.Machine.State) (x2 : Nat) (h1 : Good s0 x1) :
    Good s0 (State.domainOff x1 x2) := by
  unfold State.domainOff
  repeat' first
    | with_reducible assumption
    | (intro x)
    | with_reducible apply State.setDom_good
    | with_reducible apply State.send_good
    | with_reducible apply State.sinksOff_good
    | with_reducible apply State.railOff_good
    | with_reducible apply Good.ite
    | with_reducible apply Good.iteSnd
    | with_reducible apply Good.iteThird
    | simp only [Good.mk_iff]

theorem State.fadeStop_good {s0 : State} (x1 : Sys2Proof.Machine.State) (x2 : Nat) (h1 : Good s0 x1) :
    Good s0 (State.fadeStop x1 x2) := by
  unfold State.fadeStop
  repeat' first
    | with_reducible assumption
    | (intro x)
    | with_reducible apply State.fadeDone_good
    | with_reducible apply State.noteChange_good
    | with_reducible apply Good.ite
    | with_reducible apply Good.iteSnd
    | with_reducible apply Good.iteThird
    | simp only [Good.mk_iff]

theorem State.arbitrate_good {s0 : State} (x1 : Sys2Proof.Machine.State) (x2 : Bool) (x3 : Nat) (x4 : Bool) (x5 : List (Nat × Nat)) (h1 : Good s0 x1) :
    Good s0 (State.arbitrate x1 x2 x3 x4 x5) := by
  unfold State.arbitrate
  repeat' first
    | with_reducible assumption
    | (intro x)
    | with_reducible apply State.waitCheck_good
    | with_reducible apply State.bmGrant_good
    | with_reducible apply Good.ite
    | with_reducible apply Good.iteSnd
    | with_reducible apply Good.iteThird
    | simp only [Good.mk_iff]
    | split

theorem State.calDiscard_good {s0 : State} (x1 : Sys2Proof.Machine.State) (h1 : Good s0 x1) :
    Good s0 (State.calDiscard x1) := by
  unfold State.calDiscard
  repeat' first
    | with_reducible assumption
    | (intro x)
    | with_reducible apply State.calAbort_good
    | with_reducible apply State.setReg_good
    | with_reducible apply Good.ite
    | with_reducible apply Good.iteSnd
    | with_reducible apply Good.iteThird
    | simp only [Good.mk_iff]

theorem State.lateChange_good {s0 : State} (x1 : Sys2Proof.Machine.State) (h1 : Good s0 x1) :
    Good s0 (State.lateChange x1) := by
  unfold State.lateChange
  repeat' first
    | with_reducible assumption
    | (intro x)
    | with_reducible apply State.noteChange_good
    | with_reducible apply State.setRas_good
    | with_reducible apply State.raise_good
    | with_reducible apply State.setReg_good
    | with_reducible apply State.composeStart_good
    | with_reducible apply State.tempTick_good
    | with_reducible apply Good.ite

theorem State.rowRead_good {s0 : State} (x1 : Sys2Proof.Machine.State) (x2 : Sys2Proof.Machine.Origin) (x3 : Nat) (h1 : Good s0 x1) :
    Good s0 (State.rowRead x1 x2 x3) := by
  unfold State.rowRead
  repeat' first
    | with_reducible assumption
    | (intro x)
    | with_reducible apply State.serve_good
    | with_reducible apply State.opRead_good

theorem State.breakCb_good {s0 : State} (x1 : Sys2Proof.Machine.State) (x2 : Nat) (h1 : Good s0 x1) :
    Good s0 (State.breakCb x1 x2) := by
  unfold State.breakCb
  repeat' first
    | with_reducible assumption
    | (intro x)
    | with_reducible apply State.incReg_good
    | with_reducible apply State.setCb_good
    | with_reducible apply State.drawWord_good
    | with_reducible apply State.raise_good

theorem State.dropSource_good {s0 : State} (x1 : Sys2Proof.Machine.State) (x2 : Nat) (x3 : Nat) (h1 : Good s0 x1) :
    Good s0 (State.dropSource x1 x2 x3) := by
  unfold State.dropSource
  repeat' first
    | with_reducible assumption
    | (intro x)
    | with_reducible apply State.uniLost_good
    | with_reducible apply State.setUni_good
    | with_reducible apply Good.ite

theorem State.frameDone_good {s0 : State} (x1 : Sys2Proof.Machine.State) (h1 : Good s0 x1) :
    Good s0 (State.frameDone x1) := by
  unfold State.frameDone
  repeat' first
    | with_reducible assumption
    | (intro x)
    | with_reducible apply State.reachCclk_good
    | with_reducible apply State.setRas_good
    | with_reducible apply State.setReg_good
    | with_reducible apply State.minReg_good
    | with_reducible apply State.raise_good
    | with_reducible apply Good.ite
    | with_reducible apply Good.iteSnd
    | with_reducible apply Good.iteThird
    | simp only [Good.mk_iff]

theorem State.raiseLoss_good {s0 : State} (x1 : Sys2Proof.Machine.State) (x2 : Nat) (x3 : Nat) (x4 : Nat) (x5 : Sys2Proof.Bytes) (h1 : Good s0 x1) :
    Good s0 (State.raiseLoss x1 x2 x3 x4 x5) := by
  unfold State.raiseLoss
  repeat' first
    | with_reducible assumption
    | (intro x)
    | with_reducible apply State.markEv_good
    | with_reducible apply State.poolCheck_good
    | with_reducible apply State.pushEv_good
    | with_reducible apply Good.ite
    | with_reducible apply Good.iteSnd
    | with_reducible apply Good.iteThird
    | simp only [Good.mk_iff]

theorem State.spillPush_good {s0 : State} (x1 : Sys2Proof.Machine.State) (x2 : Nat) (x3 : Sys2Proof.Bytes) (h1 : Good s0 x1) :
    Good s0 (State.spillPush x1 x2 x3).2 := by
  unfold State.spillPush
  repeat' first
    | with_reducible assumption
    | (intro x)
    | with_reducible apply State.spillBurst_good
    | with_reducible apply State.popResult_good
    | with_reducible apply State.setSpill_good
    | with_reducible apply State.giveTask_good
    | with_reducible apply State.raise_good
    | with_reducible apply State.raiseLoss_good
    | with_reducible apply Good.ite
    | with_reducible apply Good.iteSnd
    | with_reducible apply Good.iteThird
    | simp only [Good.mk_iff]
    | split

theorem State.pxAccept_good {s0 : State} (x1 : Sys2Proof.Machine.State) (x2 : Sys2Proof.Bytes) (x3 : Sys2Proof.Bytes) (x4 : Bool) (h1 : Good s0 x1) :
    Good s0 (State.pxAccept x1 x2 x3 x4) := by
  unfold State.pxAccept
  repeat' first
    | with_reducible assumption
    | (intro x)
    | with_reducible apply State.windowCut_good
    | with_reducible apply State.setWin_good
    | with_reducible apply State.putChans_good
    | with_reducible apply State.incReg_good
    | with_reducible apply Good.ite

theorem State.markEvent_good {s0 : State} (x1 : Sys2Proof.Machine.State) (x2 : Nat) (x3 : Sys2Proof.Machine.Queue) (x4 : Sys2Proof.Machine.Queue) (h1 : Good s0 x1) :
    Good s0 (State.markEvent x1 x2 x3 x4) := by
  unfold State.markEvent
  repeat' first
    | with_reducible assumption
    | (intro x)
    | with_reducible apply State.raise_good
    | with_reducible apply Good.ite

theorem State.sacnTimeout_good {s0 : State} (x1 : Sys2Proof.Machine.State) (x2 : Nat) (h1 : Good s0 x1) :
    Good s0 (State.sacnTimeout x1 x2) := by
  unfold State.sacnTimeout
  repeat' first
    | with_reducible assumption
    | (intro x)
    | with_reducible apply State.dropSource_good
    | with_reducible apply State.reachCclk_good
    | with_reducible apply Good.foldl
    | with_reducible apply Good.foldlSnd
    | with_reducible apply Good.ite
    | with_reducible apply Good.iteSnd
    | with_reducible apply Good.iteThird
    | simp only [Good.mk_iff]
    | split

theorem State.rdmPush_good {s0 : State} (x1 : Sys2Proof.Machine.State) (x2 : Sys2Proof.Machine.RdmResp) (h1 : Good s0 x1) :
    Good s0 (State.rdmPush x1 x2) := by
  unfold State.rdmPush
  repeat' first
    | with_reducible assumption
    | (intro x)
    | with_reducible apply State.poolCheck_good
    | with_reducible apply State.seeDepth_good
    | with_reducible apply State.raiseLoss_good
    | with_reducible apply State.raise_good
    | with_reducible apply Good.ite
    | with_reducible apply Good.iteSnd
    | with_reducible apply Good.iteThird
    | simp only [Good.mk_iff]

theorem State.onAnnounce_good {s0 : State} (x1 : Sys2Proof.Machine.State) (x2 : Nat) (x3 : Sys2Proof.Machine.PtpMsg) (x4 : Sys2Proof.Machine.AnnData) (h1 : Good s0 x1) :
    Good s0 (State.onAnnounce x1 x2 x3 x4) := by
  unfold State.onAnnounce
  repeat' first
    | with_reducible assumption
    | (intro x)
    | with_reducible apply State.ptpIgnored_good
    | with_reducible apply State.newMaster_good
    | with_reducible apply Good.ite
    | with_reducible apply Good.iteSnd
    | with_reducible apply Good.iteThird
    | simp only [Good.mk_iff]
    | split

theorem State.loadPassed_good {s0 : State} (x1 : Sys2Proof.Machine.State) (x2 : Sys2Proof.Machine.LoadSt) (x3 : Sys2Proof.Machine.Topo) (h1 : Good s0 x1) :
    Good s0 (State.loadPassed x1 x2 x3) := by
  unfold State.loadPassed
  repeat' first
    | with_reducible assumption
    | (intro x)
    | with_reducible apply State.setRegs_good
    | with_reducible apply State.raise_good
    | with_reducible apply State.cmdState_good
    | with_reducible apply State.setReg_good
    | with_reducible apply Good.ite
    | with_reducible apply Good.iteSnd
    | with_reducible apply Good.iteThird
    | simp only [Good.mk_iff]

theorem State.rdmResponse_good {s0 : State} (x1 : Sys2Proof.Machine.State) (x2 : Nat) (x3 : Sys2Proof.Bytes) (h1 : Good s0 x1) :
    Good s0 (State.rdmResponse x1 x2 x3) := by
  unfold State.rdmResponse
  repeat' first
    | with_reducible assumption
    | (intro x)
    | with_reducible apply State.reachCclk_good
    | with_reducible apply State.discEnd_good
    | with_reducible apply State.setRdm_good
    | with_reducible apply State.rdmPush_good
    | with_reducible apply Good.ite
    | with_reducible apply Good.iteSnd
    | with_reducible apply Good.iteThird
    | simp only [Good.mk_iff]
    | split

theorem State.noteMissing_good {s0 : State} (x1 : Sys2Proof.Machine.State) (x2 : Nat) (x3 : Nat) (x4 : Sys2Proof.Bytes) (x5 : List Sys2Proof.Machine.PFrame) (h1 : Good s0 x1) :
    Good s0 (State.noteMissing x1 x2 x3 x4 x5) := by
  unfold State.noteMissing
  repeat' first
    | with_reducible assumption
    | (intro x)
    | with_reducible apply State.setStream_good
    | with_reducible apply State.raise_good
    | with_reducible apply State.addReg_good
    | with_reducible apply Good.foldl
    | with_reducible apply Good.foldlSnd
    | with_reducible apply Good.ite

theorem State.loadFailed_good {s0 : State} (x1 : Sys2Proof.Machine.State) (x2 : Sys2Proof.Machine.LoadSt) (x3 : Sys2Proof.Machine.LoadFail) (h1 : Good s0 x1) :
    Good s0 (State.loadFailed x1 x2 x3) := by
  unfold State.loadFailed
  repeat' first
    | with_reducible assumption
    | (intro x)
    | with_reducible apply State.setRegs_good
    | with_reducible apply State.raise_good
    | with_reducible apply State.cmdState_good
    | with_reducible apply State.setReg_good
    | with_reducible apply Good.ite
    | with_reducible apply Good.iteSnd
    | with_reducible apply Good.iteThird
    | simp only [Good.mk_iff]
    | split

theorem State.takeLive_good {s0 : State} (x1 : Sys2Proof.Machine.State) (x2 : Nat) (x3 : Nat) (x4 : Sys2Proof.Bytes) (x5 : Bool) (h1 : Good s0 x1) :
    Good s0 (State.takeLive x1 x2 x3 x4 x5) := by
  unfold State.takeLive
  repeat' first
    | with_reducible assumption
    | (intro x)
    | with_reducible apply State.giveDue_good
    | with_reducible apply State.noteMissing_good
    | with_reducible apply Good.ite

theorem State.pushFault_good {s0 : State} (x1 : Sys2Proof.Machine.State) (x2 : Sys2Proof.Machine.FaultRec) (h1 : Good s0 x1) :
    Good s0 (State.pushFault x1 x2) := by
  unfold State.pushFault
  repeat' first
    | with_reducible assumption
    | (intro x)
    | with_reducible apply State.poolCheck_good
    | with_reducible apply State.seeDepth_good
    | with_reducible apply State.raiseLoss_good
    | with_reducible apply State.incReg_good
    | with_reducible apply Good.ite
    | with_reducible apply Good.iteSnd
    | with_reducible apply Good.iteThird
    | simp only [Good.mk_iff]

theorem State.trace_good {s0 : State} (x1 : Sys2Proof.Machine.State) (x2 : Nat) (x3 : Nat) (x4 : Nat) (x5 : Nat) (x6 : Sys2Proof.Machine.Task) (h1 : Good s0 x1) :
    Good s0 (State.trace x1 x2 x3 x4 x5 x6) := by
  unfold State.trace
  repeat' first
    | with_reducible assumption
    | (intro x)
    | with_reducible apply State.poolCheck_good
    | with_reducible apply State.addReg_good
    | with_reducible apply State.seeDepth_good
    | with_reducible apply State.raiseLoss_good
    | with_reducible apply Good.ite
    | with_reducible apply Good.iteSnd
    | with_reducible apply Good.iteThird
    | simp only [Good.mk_iff]

theorem State.switchTimeout_good {s0 : State} (x1 : Sys2Proof.Machine.State) (x2 : Nat) (h1 : Good s0 x1) :
    Good s0 (State.switchTimeout x1 x2) := by
  unfold State.switchTimeout
  repeat' first
    | with_reducible assumption
    | (intro x)
    | with_reducible apply State.reachCclk_good
    | with_reducible apply State.incReg_good
    | with_reducible apply State.setDom_good
    | with_reducible apply Good.ite

theorem State.cancelIdle_good {s0 : State} (x1 : Sys2Proof.Machine.State) (x2 : Nat) (x3 : Nat) (x4 : Sys2Proof.Machine.Task) (h1 : Good s0 x1) :
    Good s0 (State.cancelIdle x1 x2 x3 x4) := by
  unfold State.cancelIdle
  repeat' first
    | with_reducible assumption
    | (intro x)
    | with_reducible apply State.trace_good
    | with_reducible apply State.incReg_good

theorem State.popIn_good {s0 : State} (x1 : State) (x2 : Nat) (h1 : Good s0 x1) :
    ∀ z, State.popIn x1 x2 = some z → Good s0 z.2 := by
  unfold State.popIn
  intro z
  split
  · exact State.popAny_good _ _ h1 z
  · split
    · intro e; cases e
    · intro e; cases e; exact State.poolCheck_good _ (State.takeDevice_good _ _ h1)

theorem State.armCmd_good {s0 : State} (x1 : Sys2Proof.Machine.State) (x2 : Sys2Proof.Machine.Origin) (x3 : Nat) (h1 : Good s0 x1) :
    Good s0 (State.armCmd x1 x2 x3) := by
  unfold State.armCmd
  repeat' first
    | with_reducible assumption
    | (intro x)
    | with_reducible apply State.disarm_good
    | with_reducible apply State.armRules_good
    | with_reducible apply Good.ite
    | with_reducible apply Good.iteSnd
    | with_reducible apply Good.iteThird
    | simp only [Good.mk_iff]
    | split

theorem State.measure_good {s0 : State} (x1 : Sys2Proof.Machine.State) (x2 : Int) (h1 : Good s0 x1) :
    Good s0 (State.measure x1 x2) := by
  unfold State.measure
  repeat' first
    | with_reducible assumption
    | (intro x)
    | with_reducible apply State.setReg_good
    | with_reducible apply State.incReg_good
    | with_reducible apply State.enterJump_good
    | with_reducible apply State.discipline_good
    | with_reducible apply State.raise_good
    | with_reducible apply State.setServo_good
    | with_reducible apply State.wantHoldover_good
    | with_reducible apply State.window_good
    | with_reducible apply Good.ite
    | with_reducible apply Good.iteSnd
    | with_reducible apply Good.iteThird
    | simp only [Good.mk_iff]

theorem State.stamp_good {s0 : State} (x1 : Sys2Proof.Machine.State) (x2 : Nat) (x3 : Sys2Proof.Machine.Stamp) (h1 : Good s0 x1) :
    Good s0 (State.stamp x1 x2 x3) := by
  unfold State.stamp
  repeat' first
    | with_reducible assumption
    | (intro x)
    | with_reducible apply State.setPort_good
    | with_reducible apply State.poolCheck_good
    | with_reducible apply State.addReg_good
    | with_reducible apply State.maxReg_good
    | with_reducible apply State.raiseLoss_good
    | with_reducible apply Good.ite

theorem State.exchange_good {s0 : State} (x1 : Sys2Proof.Machine.State) (x2 : Nat) (x3 : Nat) (x4 : Nat) (x5 : Nat) (x6 : Nat) (x7 : Int) (h1 : Good s0 x1) :
    Good s0 (State.exchange x1 x2 x3 x4 x5 x6 x7) := by
  unfold State.exchange
  repeat' first
    | with_reducible assumption
    | (intro x)
    | with_reducible apply State.setReg_good
    | with_reducible apply State.measure_good
    | with_reducible apply Good.ite
    | with_reducible apply Good.iteSnd
    | with_reducible apply Good.iteThird
    | simp only [Good.mk_iff]
    | split

theorem State.pxItem_good {s0 : State} (x1 : Sys2Proof.Bytes) (x2 : Sys2Proof.Machine.State) (h2 : Good s0 x2) :
    Good s0 (State.pxItem x1 x2) := by
  unfold State.pxItem
  repeat' first
    | with_reducible assumption
    | (intro x)
    | with_reducible apply State.incReg_good
    | with_reducible apply State.pxAccept_good
    | with_reducible apply Good.ite
    | with_reducible apply Good.iteSnd
    | with_reducible apply Good.iteThird
    | simp only [Good.mk_iff]
    | split

theorem State.startDomain_good {s0 : State} (x1 : Sys2Proof.Machine.State) (x2 : Nat) (h1 : Good s0 x1) :
    Good s0 (State.startDomain x1 x2) := by
  unfold State.startDomain
  repeat' first
    | with_reducible assumption
    | (intro x)
    | with_reducible apply State.setDom_good
    | with_reducible apply Good.ite
    | with_reducible apply Good.iteSnd
    | with_reducible apply Good.iteThird
    | simp only [Good.mk_iff]

theorem State.loopStep_good {s0 : State} (x1 : Sys2Proof.Machine.State) (x2 : Nat) (h1 : Good s0 x1) :
    Good s0 (State.loopStep x1 x2) := by
  unfold State.loopStep
  repeat' first
    | with_reducible assumption
    | (intro x)
    | with_reducible apply State.loopAdvance_good
    | with_reducible apply State.lateChange_good
    | with_reducible apply State.setRas_good
    | with_reducible apply Good.ite

theorem State.portRise_good {s0 : State} (x1 : Sys2Proof.Machine.State) (x2 : Nat) (h1 : Good s0 x1) :
    Good s0 (State.portRise x1 x2) := by
  unfold State.portRise
  repeat' first
    | with_reducible assumption
    | (intro x)
    | with_reducible apply State.setPortState_good
    | with_reducible apply State.linkPortUp_good
    | with_reducible apply State.roleUpdate_good
    | with_reducible apply Good.ite

theorem State.loopAppend_good {s0 : State} (x1 : Sys2Proof.Machine.State) (x2 : Nat) (x3 : Sys2Proof.Bytes) (h1 : Good s0 x1) :
    Good s0 (State.loopAppend x1 x2 x3) := by
  unfold State.loopAppend
  repeat' first
    | with_reducible assumption
    | (intro x)
    | with_reducible apply State.raiseLoss_good
    | with_reducible apply State.setLoop_good
    | with_reducible apply State.poolCheck_good
    | with_reducible apply State.seeDepth_good
    | with_reducible apply State.raise_good
    | with_reducible apply Good.ite

theorem State.returnTask_good {s0 : State} (x1 : Sys2Proof.Machine.State) (x2 : Nat) (x3 : Nat) (x4 : Sys2Proof.Machine.Task) (h1 : Good s0 x1) :
    Good s0 (State.returnTask x1 x2 x3 x4) := by
  unfold State.returnTask
  repeat' first
    | with_reducible assumption
    | (intro x)
    | with_reducible apply State.trace_good
    | with_reducible apply State.setReady_good

theorem State.windowTick_good {s0 : State} (x1 : Sys2Proof.Machine.State) (h1 : Good s0 x1) :
    Good s0 (State.windowTick x1) := by
  unfold State.windowTick
  repeat' first
    | with_reducible assumption
    | (intro x)
    | with_reducible apply State.windowCut_good
    | with_reducible apply State.setReg_good
    | with_reducible apply Good.ite
    | with_reducible apply Good.iteSnd
    | with_reducible apply Good.iteThird
    | simp only [Good.mk_iff]

theorem State.installLoops_good {s0 : State} (x1 : Sys2Proof.Machine.State) (x2 : Sys2Proof.Machine.Topo) (h1 : Good s0 x1) :
    Good s0 (State.installLoops x1 x2) := by
  unfold State.installLoops
  repeat' first
    | with_reducible assumption
    | (intro x)
    | with_reducible apply State.setLoop_good
    | with_reducible apply State.loopAppend_good
    | with_reducible apply State.loopStart_good
    | with_reducible apply Good.foldl
    | with_reducible apply Good.foldlSnd
    | with_reducible apply Good.ite
    | with_reducible apply Good.iteSnd
    | with_reducible apply Good.iteThird
    | simp only [Good.mk_iff]

theorem State.beginRaster_good {s0 : State} (x1 : Sys2Proof.Machine.State) (h1 : Good s0 x1) :
    Good s0 (State.beginRaster x1) := by
  unfold State.beginRaster
  repeat' first
    | with_reducible assumption
    | (intro x)
    | with_reducible apply State.emberDone_good
    | with_reducible apply State.setLayer_good
    | with_reducible apply State.takeSets_good
    | with_reducible apply State.takeTiming_good
    | with_reducible apply State.setRas_good
    | with_reducible apply State.lineMatch_good
    | with_reducible apply State.rsyncLine_good
    | with_reducible apply Good.foldl

theorem State.takeBuffer_good {s0 : State} (x1 : Sys2Proof.Machine.State) (x2 : Nat) (h1 : Good s0 x1) :
    ∀ z, State.takeBuffer x1 x2 = some z → Good s0 z.2 := by
  unfold State.takeBuffer
  repeat' first
    | with_reducible assumption
    | (intro z e; cases e)
    | with_reducible apply State.setStream_good
    | with_reducible apply State.raise_good
    | with_reducible apply State.raiseLoss_good
    | with_reducible apply Good.ite
    | with_reducible apply Good.iteSnd
    | with_reducible apply Good.iteThird
    | simp only [Good.mk_iff]
    | split

theorem State.darkOutputs_good {s0 : State} (x1 : Sys2Proof.Machine.State) (h1 : Good s0 x1) :
    Good s0 (State.darkOutputs x1) := by
  unfold State.darkOutputs
  repeat' first
    | with_reducible assumption
    | (intro x)
    | with_reducible apply State.calAbort_good
    | with_reducible apply State.railOff_good
    | with_reducible apply State.sinksOff_good
    | with_reducible apply Good.ite
    | with_reducible apply Good.iteSnd
    | with_reducible apply Good.iteThird
    | simp only [Good.mk_iff]

theorem State.rdmTimeout_good {s0 : State} (x1 : Sys2Proof.Machine.State) (x2 : Nat) (h1 : Good s0 x1) :
    Good s0 (State.rdmTimeout x1 x2) := by
  unfold State.rdmTimeout
  repeat' first
    | with_reducible assumption
    | (intro x)
    | with_reducible apply State.reachCclk_good
    | with_reducible apply State.discEnd_good
    | with_reducible apply State.setRdm_good
    | with_reducible apply State.rdmPush_good
    | with_reducible apply Good.ite
    | with_reducible apply Good.iteSnd
    | with_reducible apply Good.iteThird
    | simp only [Good.mk_iff]
    | split

theorem State.flueStart_good {s0 : State} (x1 : Sys2Proof.Machine.State) (h1 : Good s0 x1) :
    Good s0 (State.flueStart x1) := by
  unfold State.flueStart
  repeat' first
    | with_reducible assumption
    | (intro x)
    | with_reducible apply State.windowCut_good
    | with_reducible apply State.reach_good
    | with_reducible apply State.flueCopy_good
    | with_reducible apply Good.ite
    | with_reducible apply Good.iteSnd
    | with_reducible apply Good.iteThird
    | simp only [Good.mk_iff]

theorem State.stampRx_good {s0 : State} (x1 : Sys2Proof.Machine.State) (x2 : Nat) (x3 : Sys2Proof.Bytes) (h1 : Good s0 x1) :
    Good s0 (State.stampRx x1 x2 x3) := by
  unfold State.stampRx
  repeat' first
    | with_reducible assumption
    | (intro x)
    | with_reducible apply State.stamp_good
    | with_reducible apply Good.ite
    | with_reducible apply Good.iteSnd
    | with_reducible apply Good.iteThird
    | simp only [Good.mk_iff]
    | split

theorem State.edgeIn_good {s0 : State} (x1 : Sys2Proof.Machine.State) (x2 : Nat) (x3 : Bool) (h1 : Good s0 x1) :
    Good s0 (State.edgeIn x1 x2 x3) := by
  unfold State.edgeIn
  repeat' first
    | with_reducible assumption
    | (intro x)
    | with_reducible apply State.setEci_good
    | with_reducible apply State.incReg_good
    | with_reducible apply State.seeDepth_good
    | with_reducible apply State.poolCheck_good
    | with_reducible apply State.addReg_good
    | with_reducible apply State.raiseLoss_good
    | with_reducible apply State.raise_good
    | with_reducible apply Good.ite
    | with_reducible apply Good.iteSnd
    | with_reducible apply Good.iteThird
    | simp only [Good.mk_iff]

theorem State.playoutRoom_good {s0 : State} (x1 : Sys2Proof.Machine.State) (x2 : Nat) (h1 : Good s0 x1) :
    Good s0 (State.playoutRoom x1 x2).2 := by
  unfold State.playoutRoom
  repeat' first
    | with_reducible assumption
    | (intro x)
    | with_reducible apply State.setStream_good
    | with_reducible apply State.raise_good
    | with_reducible apply State.raiseLoss_good
    | with_reducible apply Good.ite
    | with_reducible apply Good.iteSnd

theorem State.syncTry_good {s0 : State} (x1 : Sys2Proof.Machine.State) (x2 : Sys2Proof.Machine.SyncWait) (h1 : Good s0 x1) :
    Good s0 (State.syncTry x1 x2) := by
  unfold State.syncTry
  repeat' first
    | with_reducible assumption
    | (intro x)
    | with_reducible apply State.exchange_good
    | with_reducible apply Good.ite
    | with_reducible apply Good.iteSnd
    | with_reducible apply Good.iteThird
    | simp only [Good.mk_iff]
    | split

theorem State.rejected_good {s0 : State} (x1 : Sys2Proof.Machine.State) (x2 : Nat) (x3 : Nat) (x4 : Nat × Nat) (x5 : Nat) (x6 : Nat) (x7 : Nat) (h1 : Good s0 x1) :
    Good s0 (State.rejected x1 x2 x3 x4 x5 x6 x7) := by
  unfold State.rejected
  repeat' first
    | with_reducible assumption
    | (intro x)
    | with_reducible apply State.addReg_good
    | with_reducible apply State.seeDepth_good
    | with_reducible apply State.raiseLoss_good
    | with_reducible apply State.raise_good
    | with_reducible apply Good.ite
    | with_reducible apply Good.iteSnd
    | with_reducible apply Good.iteThird
    | simp only [Good.mk_iff]

theorem State.driveGate_good {s0 : State} (x1 : Sys2Proof.Machine.State) (x2 : List (Nat × Nat)) (h1 : Good s0 x1) :
    Good s0 (State.driveGate x1 x2).2 := by
  unfold State.driveGate
  repeat' first
    | with_reducible assumption
    | (intro x)
    | with_reducible apply State.rejected_good
    | with_reducible apply State.incReg_good
    | with_reducible apply Good.foldl
    | with_reducible apply Good.foldlSnd
    | with_reducible apply Good.ite
    | with_reducible apply Good.iteSnd

theorem State.refuseAt_good {s0 : State} (x1 : Sys2Proof.Machine.State) (x2 : Sys2Proof.Machine.LCmd) (x3 : Nat) (h1 : Good s0 x1) :
    Good s0 (State.refuseAt x1 x2 x3) := by
  unfold State.refuseAt
  repeat' first
    | with_reducible assumption
    | (intro x)
    | with_reducible apply State.rejected_good
    | with_reducible apply State.cmdState_good

theorem State.stampOut_good {s0 : State} (x1 : Sys2Proof.Machine.State) (x2 : Nat) (x3 : Sys2Proof.Machine.Output) (h1 : Good s0 x1) :
    Good s0 (State.stampOut x1 x2 x3) := by
  unfold State.stampOut
  repeat' first
    | with_reducible assumption
    | (intro x)
    | with_reducible apply State.stamp_good
    | with_reducible apply Good.ite
    | with_reducible apply Good.iteSnd
    | with_reducible apply Good.iteThird
    | simp only [Good.mk_iff]
    | split

theorem State.push_good {s0 : State} (x1 : Sys2Proof.Machine.State) (x2 : Nat) (x3 : Sys2Proof.Bytes) (h1 : Good s0 x1) :
    Good s0 (State.push x1 x2 x3).2 := by
  unfold State.push
  repeat' first
    | with_reducible assumption
    | (intro x)
    | with_reducible apply State.giveTask_good
    | with_reducible apply State.setQueue_good
    | with_reducible apply State.raise_good
    | with_reducible apply State.poolCheck_good
    | with_reducible apply State.markEvent_good
    | with_reducible apply State.raiseLoss_good
    | with_reducible apply Good.ite
    | with_reducible apply Good.iteSnd
    | with_reducible apply Good.iteThird
    | simp only [Good.mk_iff]
    | split

theorem State.refuseStaging_good {s0 : State} (x1 : Sys2Proof.Machine.State) (h1 : Good s0 x1) :
    Good s0 (State.refuseStaging x1) := by
  unfold State.refuseStaging
  repeat' first
    | with_reducible assumption
    | (intro x)
    | with_reducible apply State.refuseAt_good
    | with_reducible apply Good.foldl
    | with_reducible apply Good.foldlSnd
    | with_reducible apply Good.ite
    | with_reducible apply Good.iteSnd
    | with_reducible apply Good.iteThird
    | simp only [Good.mk_iff]

theorem State.deadlineMiss_good {s0 : State} (x1 : Sys2Proof.Machine.State) (x2 : Nat) (h1 : Good s0 x1) :
    Good s0 (State.deadlineMiss x1 x2) := by
  unfold State.deadlineMiss
  repeat' first
    | with_reducible assumption
    | (intro x)
    | with_reducible apply State.reachCclk_good
    | with_reducible apply State.trace_good
    | with_reducible apply State.setReg_good
    | with_reducible apply State.incReg_good
    | with_reducible apply State.raise_good
    | with_reducible apply Good.ite
    | with_reducible apply Good.iteSnd
    | with_reducible apply Good.iteThird
    | simp only [Good.mk_iff]
    | split

theorem State.clamped_good {s0 : State} (x1 : Sys2Proof.Machine.State) (x2 : Nat) (x3 : Nat) (x4 : Nat × Nat) (x5 : Nat) (x6 : Nat) (x7 : Nat) (h1 : Good s0 x1) :
    Good s0 (State.clamped x1 x2 x3 x4 x5 x6 x7) := by
  unfold State.clamped
  repeat' first
    | with_reducible assumption
    | (intro x)
    | with_reducible apply State.addReg_good
    | with_reducible apply State.seeDepth_good
    | with_reducible apply State.raiseLoss_good
    | with_reducible apply State.raise_good
    | with_reducible apply Good.ite
    | with_reducible apply Good.iteSnd
    | with_reducible apply Good.iteThird
    | simp only [Good.mk_iff]

theorem State.takeStream_good {s0 : State} (x1 : Sys2Proof.Machine.State) (x2 : Nat) (x3 : Bool) (x4 : Bool) (h1 : Good s0 x1) :
    Good s0 (State.takeStream x1 x2 x3 x4) := by
  unfold State.takeStream
  repeat' first
    | with_reducible assumption
    | (intro x)
    | with_reducible apply State.stepPast_good
    | with_reducible apply State.setStream_good
    | with_reducible apply State.takeLive_good
    | with_reducible apply State.showFrame_good
    | with_reducible apply Good.ite
    | with_reducible apply Good.iteSnd
    | with_reducible apply Good.iteThird
    | simp only [Good.mk_iff]
    | split

theorem State.diagPush_good {s0 : State} (x1 : Sys2Proof.Machine.State) (x2 : Nat) (x3 : Nat) (x4 : Sys2Proof.Bytes) (h1 : Good s0 x1) :
    Good s0 (State.diagPush x1 x2 x3 x4) := by
  unfold State.diagPush
  repeat' first
    | with_reducible assumption
    | (intro x)
    | with_reducible apply State.poolCheck_good
    | with_reducible apply State.addReg_good
    | with_reducible apply State.seeDepth_good
    | with_reducible apply State.setPort_good
    | with_reducible apply State.raiseLoss_good
    | with_reducible apply Good.ite

theorem State.fadeStart_good {s0 : State} (x1 : Sys2Proof.Machine.State) (x2 : Sys2Proof.Bytes) (h1 : Good s0 x1) :
    Good s0 (State.fadeStart x1 x2) := by
  unfold State.fadeStart
  repeat' first
    | with_reducible assumption
    | (intro x)
    | with_reducible apply State.fadeDone_good
    | with_reducible apply State.noteChange_good
    | with_reducible apply Good.ite
    | with_reducible apply Good.iteSnd
    | with_reducible apply Good.iteThird
    | simp only [Good.mk_iff]

theorem State.stagingStep_good {s0 : State} (x1 : Sys2Proof.Machine.State) (h1 : Good s0 x1) :
    Good s0 (State.stagingStep x1) := by
  unfold State.stagingStep
  repeat' first
    | with_reducible assumption
    | (intro x)
    | with_reducible apply State.refuseStaging_good
    | with_reducible apply State.cmdState_good
    | with_reducible apply State.enterStaging_good
    | with_reducible apply Good.ite
    | with_reducible apply Good.iteSnd
    | with_reducible apply Good.iteThird
    | simp only [Good.mk_iff]
    | split

theorem State.dramRetry_good {s0 : State} (x1 : Sys2Proof.Machine.State) (h1 : Good s0 x1) :
    Good s0 (State.dramRetry x1) := by
  unfold State.dramRetry
  repeat' first
    | with_reducible assumption
    | (intro x)
    | with_reducible apply State.startDomain_good
    | with_reducible apply State.reachCclk_good
    | with_reducible apply Good.ite

theorem State.draughtResolve_good {s0 : State} (x1 : Sys2Proof.Machine.State) (h1 : Good s0 x1) :
    Good s0 (State.draughtResolve x1) := by
  unfold State.draughtResolve
  repeat' first
    | with_reducible assumption
    | (intro x)
    | with_reducible apply State.clamped_good
    | with_reducible apply State.setReg_good
    | with_reducible apply Good.ite

theorem State.refuseShow_good {s0 : State} (x1 : Sys2Proof.Machine.State) (h1 : Good s0 x1) :
    Good s0 (State.refuseShow x1) := by
  unfold State.refuseShow
  repeat' first
    | with_reducible assumption
    | (intro x)
    | with_reducible apply State.refuseAt_good
    | with_reducible apply Good.foldl
    | with_reducible apply Good.foldlSnd
    | with_reducible apply Good.ite
    | with_reducible apply Good.iteSnd
    | with_reducible apply Good.iteThird
    | simp only [Good.mk_iff]

theorem State.nextItem_good {s0 : State} (x1 : Sys2Proof.Machine.State) (x2 : Sys2Proof.Machine.Task) (h1 : Good s0 x1) :
    ∀ z, State.nextItem x1 x2 = some z → Good s0 z.2 := by
  unfold State.nextItem
  repeat' first
    | with_reducible assumption
    | (intro z e; cases e)
    | with_reducible apply State.popIn_good
    | (refine State.popIn_good _ _ ?_ _ (by with_reducible assumption))
    | with_reducible apply Good.ite
    | with_reducible apply Good.iteSnd
    | with_reducible apply Good.iteThird
    | simp only [Good.mk_iff]
    | split

theorem State.makeSlot_good {s0 : State} (x1 : Sys2Proof.Machine.State) (x2 : Sys2Proof.Machine.Task) (h1 : Good s0 x1) :
    Good s0 (State.makeSlot x1 x2) := by
  unfold State.makeSlot
  repeat' first
    | with_reducible assumption
    | (intro x)
    | with_reducible apply State.returnTask_good
    | with_reducible apply State.setEngine_good
    | with_reducible apply Good.ite
    | with_reducible apply Good.iteSnd
    | with_reducible apply Good.iteThird
    | simp only [Good.mk_iff]
    | split

theorem State.domainOn_good {s0 : State} (x1 : Sys2Proof.Machine.State) (x2 : Nat) (h1 : Good s0 x1) :
    Good s0 (State.domainOn x1 x2) := by
  unfold State.domainOn
  repeat' first
    | with_reducible assumption
    | (intro x)
    | with_reducible apply State.startDomain_good
    | with_reducible apply State.reachCclk_good
    | with_reducible apply Good.foldl
    | with_reducible apply Good.foldlSnd
    | with_reducible apply Good.ite

theorem State.powerGood_good {s0 : State} (x1 : Sys2Proof.Machine.State) (x2 : Nat) (h1 : Good s0 x1) :
    Good s0 (State.powerGood x1 x2) := by
  unfold State.powerGood
  repeat' first
    | with_reducible assumption
    | (intro x)
    | with_reducible apply State.switchTimeout_good
    | with_reducible apply State.setDom_good
    | with_reducible apply State.dramTrained_good
    | with_reducible apply State.fireboxCleared_good
    | with_reducible apply Good.ite

theorem State.txNow_good {s0 : State} (x1 : Sys2Proof.Machine.State) (x2 : Nat) (x3 : Nat) (x4 : Sys2Proof.Machine.Output) (h1 : Good s0 x1) :
    Good s0 (State.txNow x1 x2 x3 x4) := by
  unfold State.txNow
  repeat' first
    | with_reducible assumption
    | (intro x)
    | with_reducible apply State.send_good
    | with_reducible apply State.stampOut_good
    | with_reducible apply State.txCount_good

theorem State.txLink_good {s0 : State} (x1 : Sys2Proof.Machine.State) (x2 : Nat) (x3 : Nat) (x4 : Sys2Proof.Machine.Output) (h1 : Good s0 x1) :
    Good s0 (State.txLink x1 x2 x3 x4) := by
  unfold State.txLink
  repeat' first
    | with_reducible assumption
    | (intro x)
    | with_reducible apply State.setPort_good
    | with_reducible apply State.txNow_good
    | with_reducible apply Good.ite

theorem State.startHead_good {s0 : State} (x1 : Sys2Proof.Machine.State) (x2 : Nat) (h1 : Good s0 x1) :
    Good s0 (State.startHead x1 x2) := by
  unfold State.startHead
  repeat' first
    | with_reducible assumption
    | (intro x)
    | with_reducible apply State.trace_good
    | with_reducible apply State.setEngine_good
    | with_reducible apply State.incReg_good
    | with_reducible apply State.taskFaultEvent_good
    | with_reducible apply State.setCb_good
    | with_reducible apply Good.ite
    | with_reducible apply Good.iteSnd
    | with_reducible apply Good.iteThird
    | simp only [Good.mk_iff]
    | split

theorem State.takeStreams_good {s0 : State} (x1 : Sys2Proof.Machine.State) (x2 : Bool) (h1 : Good s0 x1) :
    Good s0 (State.takeStreams x1 x2) := by
  unfold State.takeStreams
  repeat' first
    | with_reducible assumption
    | (intro x)
    | with_reducible apply State.takeStream_good
    | with_reducible apply Good.foldl

theorem State.resumeHead_good {s0 : State} (x1 : Sys2Proof.Machine.State) (x2 : Nat) (h1 : Good s0 x1) :
    Good s0 (State.resumeHead x1 x2) := by
  unfold State.resumeHead
  repeat' first
    | with_reducible assumption
    | (intro x)
    | with_reducible apply State.startHead_good
    | with_reducible apply Good.ite
    | with_reducible apply Good.iteSnd
    | with_reducible apply Good.iteThird
    | simp only [Good.mk_iff]
    | split

theorem State.onFollowUp_good {s0 : State} (x1 : Sys2Proof.Machine.State) (x2 : Nat) (x3 : Sys2Proof.Machine.PtpMsg) (h1 : Good s0 x1) :
    Good s0 (State.onFollowUp x1 x2 x3) := by
  unfold State.onFollowUp
  repeat' first
    | with_reducible assumption
    | (intro x)
    | with_reducible apply State.ptpIgnored_good
    | with_reducible apply State.syncTry_good
    | with_reducible apply Good.ite
    | with_reducible apply Good.iteSnd
    | with_reducible apply Good.iteThird
    | simp only [Good.mk_iff]
    | split

theorem State.cancelPrefetched_good {s0 : State} (x1 : Sys2Proof.Machine.State) (x2 : Sys2Proof.Machine.Task → Bool) (x3 : Nat) (h1 : Good s0 x1) :
    Good s0 (State.cancelPrefetched x1 x2 x3) := by
  unfold State.cancelPrefetched
  repeat' first
    | with_reducible assumption
    | (intro x)
    | with_reducible apply State.setEngine_good
    | with_reducible apply State.cancelIdle_good
    | with_reducible apply Good.foldl

theorem State.fixField_good {s0 : State} (x1 : Sys2Proof.Machine.State) (x2 : Nat) (x3 : Nat) (x4 : Nat) (x5 : List (Nat × Nat)) (h1 : Good s0 x1) :
    Good s0 (State.fixField x1 x2 x3 x4 x5).2 := by
  unfold State.fixField
  repeat' first
    | with_reducible assumption
    | (intro x)
    | with_reducible apply State.clamped_good
    | with_reducible apply State.fixReg_good
    | with_reducible apply Good.ite
    | with_reducible apply Good.iteSnd

theorem State.txAny_good {s0 : State} (x1 : Sys2Proof.Machine.State) (x2 : Nat) (x3 : Nat) (x4 : Sys2Proof.Machine.Output) (h1 : Good s0 x1) :
    Good s0 (State.txAny x1 x2 x3 x4) := by
  unfold State.txAny
  repeat' first
    | with_reducible assumption
    | (intro x)
    | with_reducible apply State.incReg_good
    | with_reducible apply State.setPort_good
    | with_reducible apply State.txNow_good
    | with_reducible apply Good.ite

theorem State.pushAny_good {s0 : State} (x1 : Sys2Proof.Machine.State) (x2 : Nat) (x3 : Sys2Proof.Bytes) (h1 : Good s0 x1) :
    Good s0 (State.pushAny x1 x2 x3).2 := by
  unfold State.pushAny
  repeat' first
    | with_reducible assumption
    | (intro x)
    | with_reducible apply State.spillPush_good
    | with_reducible apply State.push_good
    | with_reducible apply Good.ite
    | with_reducible apply Good.iteSnd
    | with_reducible apply Good.iteThird
    | simp only [Good.mk_iff]
    | split
    | dsimp only
    | (refine Good.ofPair (by with_reducible assumption) ?_)

theorem State.dmxFit_good {s0 : State} (x1 : Sys2Proof.Machine.State) (x2 : Nat) (h1 : Good s0 x1) :
    Good s0 (State.dmxFit x1 x2) := by
  unfold State.dmxFit
  repeat' first
    | with_reducible assumption
    | (intro x)
    | with_reducible apply State.clamped_good
    | with_reducible apply State.setReg_good
    | with_reducible apply Good.ite

theorem State.clampWrite_good {s0 : State} (x1 : Sys2Proof.Machine.State) (x2 : Sys2Proof.Machine.Origin) (x3 : Sys2Proof.Machine.Obj) (x4 : Nat) (x5 : Nat) (x6 : Sys2Proof.Bytes) (h1 : Good s0 x1) :
    Good s0 (State.clampWrite x1 x2 x3 x4 x5 x6).2.2 := by
  unfold State.clampWrite
  repeat' first
    | with_reducible assumption
    | (intro x)
    | with_reducible apply State.clamped_good
    | with_reducible apply Good.foldl

theorem State.pulseClamp_good {s0 : State} (x1 : Sys2Proof.Machine.State) (x2 : Nat) (x3 : Nat) (h1 : Good s0 x1) :
    Good s0 (State.pulseClamp x1 x2 x3) := by
  unfold State.pulseClamp
  repeat' first
    | with_reducible assumption
    | (intro x)
    | with_reducible apply State.setReg_good
    | with_reducible apply State.clamped_good
    | with_reducible apply Good.ite

theorem State.armStep_good {s0 : State} (x1 : Sys2Proof.Machine.State) (h1 : Good s0 x1) :
    Good s0 (State.armStep x1) := by
  unfold State.armStep
  repeat' first
    | with_reducible assumption
    | (intro x)
    | with_reducible apply State.dropArming_good
    | with_reducible apply State.refuseShow_good
    | with_reducible apply Good.ite
    | with_reducible apply Good.iteSnd
    | with_reducible apply Good.iteThird
    | simp only [Good.mk_iff]
    | split

theorem State.cairnRead_good {s0 : State} (x1 : Sys2Proof.Machine.State) (x2 : Bool) (h1 : Good s0 x1) :
    Good s0 (State.cairnRead x1 x2) := by
  unfold State.cairnRead
  repeat' first
    | with_reducible assumption
    | (intro x)
    | with_reducible apply State.cairnLoad_good
    | with_reducible apply State.startDomain_good
    | with_reducible apply State.setDe_good
    | with_reducible apply State.scrubPass_good
    | with_reducible apply Good.foldl
    | with_reducible apply Good.foldlSnd
    | with_reducible apply Good.ite
    | with_reducible apply Good.iteSnd
    | with_reducible apply Good.iteThird
    | simp only [Good.mk_iff]

theorem State.refuse_good {s0 : State} (x1 : Sys2Proof.Machine.State) (x2 : Sys2Proof.Machine.Origin) (x3 : Nat) (x4 : Nat) (x5 : Nat) (x6 : Nat) (h1 : Good s0 x1) :
    Good s0 (State.refuse x1 x2 x3 x4 x5 x6).2 := by
  unfold State.refuse
  repeat' first
    | with_reducible assumption
    | (intro x)
    | with_reducible apply State.rejected_good
    | with_reducible apply Good.ite

theorem State.storeDue_good {s0 : State} (x1 : Sys2Proof.Machine.State) (h1 : Good s0 x1) :
    Good s0 (State.storeDue x1) := by
  unfold State.storeDue
  repeat' first
    | with_reducible assumption
    | (intro x)
    | with_reducible apply State.storeSurface_good
    | with_reducible apply State.noteChange_good
    | with_reducible apply State.rejected_good
    | with_reducible apply Good.foldl
    | with_reducible apply Good.foldlSnd
    | with_reducible apply Good.ite
    | with_reducible apply Good.iteSnd
    | with_reducible apply Good.iteThird
    | simp only [Good.mk_iff]

theorem State.txResume_good {s0 : State} (x1 : Sys2Proof.Machine.State) (x2 : Nat) (h1 : Good s0 x1) :
    Good s0 (State.txResume x1 x2) := by
  unfold State.txResume
  repeat' first
    | with_reducible assumption
    | (intro x)
    | with_reducible apply State.txNow_good
    | with_reducible apply State.setPort_good
    | with_reducible apply Good.foldl

theorem State.resolveBlanks_good {s0 : State} (x1 : Sys2Proof.Machine.State) (x2 : List (Nat × Nat)) (h1 : Good s0 x1) :
    Good s0 (State.resolveBlanks x1 x2).2 := by
  unfold State.resolveBlanks
  repeat' first
    | with_reducible assumption
    | (intro x)
    | with_reducible apply State.clamped_good
    | with_reducible apply State.fixReg_good
    | with_reducible apply Good.ite
    | with_reducible apply Good.iteSnd

theorem State.armDone_good {s0 : State} (x1 : Sys2Proof.Machine.State) (h1 : Good s0 x1) :
    Good s0 (State.armDone x1) := by
  unfold State.armDone
  repeat' first
    | with_reducible assumption
    | (intro x)
    | with_reducible apply State.dropArming_good
    | with_reducible apply State.refuseShow_good
    | with_reducible apply State.lateChange_good
    | with_reducible apply State.railOn_good
    | with_reducible apply State.setMode_good
    | with_reducible apply State.cmdState_good
    | with_reducible apply Good.ite
    | with_reducible apply Good.iteSnd
    | with_reducible apply Good.iteThird
    | simp only [Good.mk_iff]

theorem State.pauseWatchdog_good {s0 : State} (x1 : Sys2Proof.Machine.State) (x2 : Nat) (h1 : Good s0 x1) :
    Good s0 (State.pauseWatchdog x1 x2) := by
  unfold State.pauseWatchdog
  repeat' first
    | with_reducible assumption
    | (intro x)
    | with_reducible apply State.txResume_good
    | with_reducible apply State.reachCclk_good
    | with_reducible apply State.setPort_good
    | with_reducible apply State.raise_good
    | with_reducible apply State.incReg_good
    | with_reducible apply State.setReg_good
    | with_reducible apply Good.ite
    | with_reducible apply Good.iteSnd
    | with_reducible apply Good.iteThird
    | simp only [Good.mk_iff]
    | split

theorem State.endFrame_good {s0 : State} (x1 : Sys2Proof.Machine.State) (x2 : Nat) (x3 : Sys2Proof.Machine.RxVideo) (h1 : Good s0 x1) :
    Good s0 (State.endFrame x1 x2 x3) := by
  unfold State.endFrame
  repeat' first
    | with_reducible assumption
    | (intro x)
    | with_reducible apply State.setStream_good
    | with_reducible apply State.incReg_good
    | with_reducible apply State.extreme_good
    | with_reducible apply State.raise_good
    | with_reducible apply State.playoutRoom_good
    | with_reducible apply State.poolCheck_good
    | with_reducible apply Good.ite
    | with_reducible apply Good.iteSnd
    | with_reducible apply Good.iteThird
    | simp only [Good.mk_iff]
    | split

theorem State.fixScaler_good {s0 : State} (x1 : Sys2Proof.Machine.State) (x2 : Nat) (x3 : List (Nat × Nat)) (h1 : Good s0 x1) :
    Good s0 (State.fixScaler x1 x2 x3).2 := by
  unfold State.fixScaler
  repeat' first
    | with_reducible assumption
    | (intro x)
    | with_reducible apply State.fixField_good
    | with_reducible apply State.fixReg_good
    | with_reducible apply Good.ite
    | with_reducible apply Good.iteSnd

theorem State.pulseApply_good {s0 : State} (x1 : Sys2Proof.Machine.State) (x2 : Nat) (h1 : Good s0 x1) :
    Good s0 (State.pulseApply x1 x2) := by
  unfold State.pulseApply
  repeat' first
    | with_reducible assumption
    | (intro x)
    | with_reducible apply State.pulseClamp_good
    | with_reducible apply State.setReg_good
    | with_reducible apply State.setPulse_good
    | with_reducible apply State.rejected_good
    | with_reducible apply Good.ite

theorem State.syncStamped_good {s0 : State} (x1 : Sys2Proof.Machine.State) (x2 : Nat) (x3 : Nat) (h1 : Good s0 x1) :
    Good s0 (State.syncStamped x1 x2 x3) := by
  unfold State.syncStamped
  repeat' first
    | with_reducible assumption
    | (intro x)
    | with_reducible apply State.takeStamp_good
    | with_reducible apply State.syncTry_good
    | with_reducible apply Good.ite
    | with_reducible apply Good.iteSnd
    | with_reducible apply Good.iteThird
    | simp only [Good.mk_iff]
    | split

theorem State.refuseCmd_good {s0 : State} (x1 : Sys2Proof.Machine.State) (x2 : Sys2Proof.Machine.Origin) (x3 : Sys2Proof.Machine.Obj) (x4 : Nat) (x5 : Nat) (x6 : Nat) (x7 : Nat) (h1 : Good s0 x1) :
    Good s0 (State.refuseCmd x1 x2 x3 x4 x5 x6 x7).2 := by
  unfold State.refuseCmd
  repeat' first
    | with_reducible assumption
    | (intro x)
    | with_reducible apply State.refuse_good
    | with_reducible apply State.cmdState_good
    | with_reducible apply Good.ite

theorem State.runMedia_good {s0 : State} (x1 : Sys2Proof.Machine.State) (x2 : Sys2Proof.Machine.LCmd) (h1 : Good s0 x1) :
    Good s0 (State.runMedia x1 x2).2.2 := by
  unfold State.runMedia
  repeat' first
    | with_reducible assumption
    | (intro x)
    | with_reducible apply cmdOk_good
    | with_reducible apply State.streamMark_good
    | with_reducible apply cmdOf_good
    | with_reducible apply State.streamRewind_good
    | with_reducible apply State.loopStart_good
    | with_reducible apply State.loopStop_good
    | with_reducible apply State.loopRewind_good
    | with_reducible apply State.groupSet_good
    | with_reducible apply State.groupBind_good
    | with_reducible apply State.fadeStart_good
    | with_reducible apply State.fadeStop_good
    | with_reducible apply State.rdmReq_good
    | with_reducible apply cmdFail_good
    | with_reducible apply State.discStart_good
    | with_reducible apply State.lampClear_good
    | with_reducible apply cmdRun_good
    | with_reducible apply State.calRequest_good
    | with_reducible apply State.calAccept_good
    | with_reducible apply State.calDiscard_good
    | with_reducible apply Good.ite
    | with_reducible apply Good.iteSnd
    | with_reducible apply Good.iteThird

theorem State.sacnBad_good {s0 : State} (x1 : Sys2Proof.Machine.State) (x2 : Sys2Proof.Bytes) (x3 : Nat) (h1 : Good s0 x1) :
    Good s0 (State.sacnBad x1 x2 x3) := by
  unfold State.sacnBad
  repeat' first
    | with_reducible assumption
    | (intro x)
    | with_reducible apply State.incReg_good
    | with_reducible apply State.diagPush_good
    | with_reducible apply Good.ite

theorem State.tx_good {s0 : State} (x1 : Sys2Proof.Machine.State) (x2 : Nat) (x3 : Nat) (x4 : Sys2Proof.Machine.Output) (h1 : Good s0 x1) :
    Good s0 (State.tx x1 x2 x3 x4) := by
  unfold State.tx
  repeat' first
    | with_reducible assumption
    | (intro x)
    | with_reducible apply State.txAny_good
    | with_reducible apply Good.ite

theorem State.enterDark_good {s0 : State} (x1 : Sys2Proof.Machine.State) (x2 : Nat) (h1 : Good s0 x1) :
    Good s0 (State.enterDark x1 x2) := by
  unfold State.enterDark
  repeat' first
    | with_reducible assumption
    | (intro x)
    | with_reducible apply State.dropArming_good
    | with_reducible apply State.refuseShow_good
    | with_reducible apply State.raise_good
    | with_reducible apply State.setMode_good
    | with_reducible apply State.darkOutputs_good
    | with_reducible apply Good.ite
    | with_reducible apply Good.iteSnd
    | with_reducible apply Good.iteThird
    | simp only [Good.mk_iff]

theorem State.pushUnblocked_good {s0 : State} (x1 : Sys2Proof.Machine.State) (x2 : Nat) (h1 : Good s0 x1) :
    Good s0 (State.pushUnblocked x1 x2) := by
  unfold State.pushUnblocked
  repeat' first
    | with_reducible assumption
    | (intro x)
    | with_reducible apply State.bpSettle_good
    | with_reducible apply State.pushAny_good
    | with_reducible apply State.setEngine_good
    | with_reducible apply Good.ite
    | with_reducible apply Good.iteSnd
    | with_reducible apply Good.iteThird
    | simp only [Good.mk_iff]
    | split

theorem State.writeCoefs_good {s0 : State} (x1 : Sys2Proof.Machine.State) (x2 : Nat × Nat) (x3 : Nat) (x4 : Sys2Proof.Bytes) (h1 : Good s0 x1) :
    Good s0 (State.writeCoefs x1 x2 x3 x4) := by
  unfold State.writeCoefs
  repeat' first
    | with_reducible assumption
    | (intro x)
    | with_reducible apply State.putCoefs_good
    | with_reducible apply State.clamped_good
    | with_reducible apply Good.foldl

theorem State.opTimed_good {s0 : State} (x1 : Sys2Proof.Machine.State) (x2 : Sys2Proof.Machine.Origin) (x3 : Sys2Proof.Machine.Role) (x4 : Nat) (x5 : Nat) (x6 : Nat) (x7 : Sys2Proof.Bytes) (x8 : Nat) (h1 : Good s0 x1) :
    Good s0 (State.opTimed x1 x2 x3 x4 x5 x6 x7 x8).2 := by
  unfold State.opTimed
  repeat' first
    | with_reducible assumption
    | (intro x)
    | with_reducible apply State.refuse_good
    | with_reducible apply State.refuseCmd_good
    | with_reducible apply State.clampWrite_good
    | with_reducible apply Good.ite
    | with_reducible apply Good.iteSnd
    | with_reducible apply Good.iteThird
    | simp only [Good.mk_iff]
    | split

theorem packetWork_good {s0 : State} (x1 : Sys2Proof.Bytes → Sys2Proof.Machine.State → Sys2Proof.Machine.State) (x2 : Sys2Proof.Machine.Task) (x3 : Sys2Proof.Machine.State) (h3 : Good s0 x3) (h1 : ∀ y1 y2, Good s0 y2 → Good s0 (x1 y1 y2)) :
    Good s0 (packetWork x1 x2 x3).2 := by
  unfold packetWork
  repeat' first
    | with_reducible assumption
    | (intro x)
    | with_reducible apply State.nextItem_good
    | (refine State.nextItem_good _ _ ?_ _ (by with_reducible assumption))
    | with_reducible apply State.readEmpty_good
    | with_reducible apply h1
    | with_reducible apply Good.ite
    | with_reducible apply Good.iteSnd
    | with_reducible apply Good.iteThird
    | simp only [Good.mk_iff]
    | split

theorem State.loadClamps_good {s0 : State} (x1 : Sys2Proof.Machine.State) (x2 : List Sys2Proof.Machine.LoadClamp) (h1 : Good s0 x1) :
    Good s0 (State.loadClamps x1 x2) := by
  unfold State.loadClamps
  repeat' first
    | with_reducible assumption
    | (intro x)
    | with_reducible apply State.clamped_good
    | with_reducible apply State.setReg_good
    | with_reducible apply Good.foldl

theorem State.taskPush_good {s0 : State} (x1 : Sys2Proof.Machine.State) (x2 : Sys2Proof.Machine.Task) (x3 : Sys2Proof.Bytes) (h1 : Good s0 x1) :
    Good s0 (State.taskPush x1 x2 x3).2 := by
  unfold State.taskPush
  repeat' first
    | with_reducible assumption
    | (intro x)
    | with_reducible apply State.pushAny_good
    | with_reducible apply Good.ite
    | with_reducible apply Good.iteSnd

theorem State.pauseExpire_good {s0 : State} (x1 : Sys2Proof.Machine.State) (x2 : Nat) (h1 : Good s0 x1) :
    Good s0 (State.pauseExpire x1 x2) := by
  unfold State.pauseExpire
  repeat' first
    | with_reducible assumption
    | (intro x)
    | with_reducible apply State.setReg_good
    | with_reducible apply State.txResume_good
    | with_reducible apply State.reachCclk_good
    | with_reducible apply Good.ite
    | with_reducible apply Good.iteSnd
    | with_reducible apply Good.iteThird
    | simp only [Good.mk_iff]
    | split

theorem State.latchTiming_good {s0 : State} (x1 : Sys2Proof.Machine.State) (h1 : Good s0 x1) :
    Good s0 (State.latchTiming x1) := by
  unfold State.latchTiming
  repeat' first
    | with_reducible assumption
    | (intro x)
    | with_reducible apply State.setRas_good
    | with_reducible apply State.resolveBlanks_good
    | with_reducible apply State.noteChange_good
    | with_reducible apply State.fixReg_good
    | with_reducible apply State.rejected_good
    | with_reducible apply State.incReg_good
    | with_reducible apply Good.foldl
    | with_reducible apply Good.foldlSnd
    | with_reducible apply Good.ite
    | with_reducible apply Good.iteSnd
    | with_reducible apply Good.iteThird
    | simp only [Good.mk_iff]
    | split

theorem State.badFrame_good {s0 : State} (x1 : Sys2Proof.Machine.State) (x2 : Nat) (x3 : Nat) (x4 : Sys2Proof.Bytes) (h1 : Good s0 x1) :
    Good s0 (State.badFrame x1 x2 x3 x4) := by
  unfold State.badFrame
  repeat' first
    | with_reducible assumption
    | (intro x)
    | with_reducible apply State.incReg_good
    | with_reducible apply State.diagPush_good
    | with_reducible apply State.raise_good
    | with_reducible apply Good.ite

theorem State.sendNear_good {s0 : State} (x1 : Sys2Proof.Machine.State) (x2 : Nat) (x3 : Nat) (x4 : Nat) (x5 : Sys2Proof.Bytes) (h1 : Good s0 x1) :
    Good s0 (State.sendNear x1 x2 x3 x4 x5) := by
  unfold State.sendNear
  repeat' first
    | with_reducible assumption
    | (intro x)
    | with_reducible apply State.tx_good
    | with_reducible apply Good.ite

theorem State.sendRopeWith_good {s0 : State} (x1 : Sys2Proof.Machine.State) (x2 : Nat) (x3 : Nat) (x4 : Nat) (x5 : Nat) (x6 : Nat) (x7 : Bool) (x8 : Nat → Sys2Proof.Machine.RopeTag → Sys2Proof.Machine.Output) (h1 : Good s0 x1) :
    Good s0 (State.sendRopeWith x1 x2 x3 x4 x5 x6 x7 x8) := by
  unfold State.sendRopeWith
  repeat' first
    | with_reducible assumption
    | (intro x)
    | with_reducible apply State.tx_good
    | with_reducible apply State.incReg_good
    | with_reducible apply Good.foldl
    | with_reducible apply Good.foldlSnd
    | with_reducible apply Good.ite
    | with_reducible apply Good.iteSnd
    | with_reducible apply Good.iteThird
    | simp only [Good.mk_iff]
    | split

theorem State.release_good {s0 : State} (x1 : Sys2Proof.Machine.State) (x2 : Nat) (x3 : Sys2Proof.Bytes) (x4 : Option Nat) (x5 : Option Nat) (x6 : Nat) (x7 : Nat) (h1 : Good s0 x1) :
    Good s0 (State.release x1 x2 x3 x4 x5 x6 x7).2.2 := by
  unfold State.release
  repeat' first
    | with_reducible assumption
    | (intro x)
    | with_reducible apply State.nextId_good
    | with_reducible apply State.incReg_good
    | with_reducible apply State.setReady_good
    | with_reducible apply State.makeSlot_good
    | with_reducible apply State.trace_good
    | with_reducible apply Good.ite
    | with_reducible apply Good.iteSnd
    | with_reducible apply Good.iteThird

theorem State.fixCrop_good {s0 : State} (x1 : Sys2Proof.Machine.State) (x2 : Nat) (x3 : List (Nat × Nat)) (h1 : Good s0 x1) :
    Good s0 (State.fixCrop x1 x2 x3).2 := by
  unfold State.fixCrop
  repeat' first
    | with_reducible assumption
    | (intro x)
    | with_reducible apply State.fixField_good
    | with_reducible apply Good.ite
    | with_reducible apply Good.iteSnd
    | with_reducible apply Good.iteThird
    | simp only [Good.mk_iff]
    | split

theorem State.preempt_good {s0 : State} (x1 : Sys2Proof.Machine.State) (x2 : Nat) (h1 : Good s0 x1) :
    Good s0 (State.preempt x1 x2) := by
  unfold State.preempt
  repeat' first
    | with_reducible assumption
    | (intro x)
    | with_reducible apply State.bpSettle_good
    | with_reducible apply State.trace_good
    | with_reducible apply State.setEngine_good
    | with_reducible apply State.resumeHead_good
    | with_reducible apply State.startHead_good
    | with_reducible apply Good.ite
    | with_reducible apply Good.iteSnd
    | with_reducible apply Good.iteThird
    | simp only [Good.mk_iff]
    | split

theorem State.beginFrame_good {s0 : State} (x1 : Sys2Proof.Machine.State) (x2 : Nat) (x3 : Nat) (x4 : Nat) (h1 : Good s0 x1) :
    Good s0 (State.beginFrame x1 x2 x3 x4) := by
  unfold State.beginFrame
  repeat' first
    | with_reducible assumption
    | (intro x)
    | with_reducible apply State.endFrame_good
    | with_reducible apply State.takeBuffer_good
    | (refine State.takeBuffer_good _ _ ?_ _ (by with_reducible assumption))
    | with_reducible apply State.setStream_good
    | with_reducible apply Good.ite
    | with_reducible apply Good.iteSnd
    | with_reducible apply Good.iteThird
    | simp only [Good.mk_iff]
    | split

theorem State.setDarkLatch_good {s0 : State} (x1 : Sys2Proof.Machine.State) (x2 : Nat) (h1 : Good s0 x1) :
    Good s0 (State.setDarkLatch x1 x2) := by
  unfold State.setDarkLatch
  repeat' first
    | with_reducible assumption
    | (intro x)
    | with_reducible apply State.fillLatch_good
    | with_reducible apply State.raise_good
    | with_reducible apply State.setReg_good
    | with_reducible apply State.enterDark_good
    | with_reducible apply Good.ite
    | with_reducible apply Good.iteSnd
    | with_reducible apply Good.iteThird
    | simp only [Good.mk_iff]
    | split

theorem State.ptpHeard_good {s0 : State} (x1 : Sys2Proof.Machine.State) (x2 : Nat) (x3 : Sys2Proof.Bytes) (h1 : Good s0 x1) :
    Good s0 (State.ptpHeard x1 x2 x3) := by
  unfold State.ptpHeard
  repeat' first
    | with_reducible assumption
    | (intro x)
    | with_reducible apply State.stampRx_good
    | with_reducible apply State.syncStamped_good
    | with_reducible apply State.ptpIgnored_good
    | with_reducible apply Good.ite

theorem State.opBegin_good {s0 : State} (x1 : Sys2Proof.Machine.State) (x2 : Sys2Proof.Machine.Origin) (x3 : Sys2Proof.Machine.Role) (x4 : Nat) (x5 : Nat) (x6 : Nat) (x7 : Nat) (x8 : Nat) (x9 : Bool) (h1 : Good s0 x1) :
    Good s0 (State.opBegin x1 x2 x3 x4 x5 x6 x7 x8 x9).2 := by
  unfold State.opBegin
  repeat' first
    | with_reducible assumption
    | (intro x)
    | with_reducible apply outOf_good
    | with_reducible apply State.refuse_good
    | with_reducible apply State.drawWord_good
    | with_reducible apply State.eraseTarget_good
    | with_reducible apply Good.ite
    | with_reducible apply Good.iteSnd
    | with_reducible apply Good.iteThird
    | simp only [Good.mk_iff]

theorem State.pauseRx_good {s0 : State} (x1 : Sys2Proof.Machine.State) (x2 : Nat) (x3 : Nat) (h1 : Good s0 x1) :
    Good s0 (State.pauseRx x1 x2 x3) := by
  unfold State.pauseRx
  repeat' first
    | with_reducible assumption
    | (intro x)
    | with_reducible apply State.incReg_good
    | with_reducible apply State.setReg_good
    | with_reducible apply State.txResume_good
    | with_reducible apply State.setPort_good
    | with_reducible apply Good.ite

theorem State.serveCb_good {s0 : State} (x1 : Sys2Proof.Machine.State) (x2 : Nat) (h1 : Good s0 x1) :
    Good s0 (State.serveCb x1 x2) := by
  unfold State.serveCb
  repeat' first
    | with_reducible assumption
    | (intro x)
    | with_reducible apply State.startHead_good
    | with_reducible apply Good.foldl
    | with_reducible apply Good.foldlSnd
    | with_reducible apply Good.ite
    | with_reducible apply Good.iteSnd
    | with_reducible apply Good.iteThird
    | simp only [Good.mk_iff]
    | split

theorem State.sacnCheck_good {s0 : State} (x1 : Sys2Proof.Machine.State) (x2 : Sys2Proof.Bytes) (h1 : Good s0 x1) :
    Good s0 (State.sacnCheck x1 x2).2 := by
  unfold State.sacnCheck
  repeat' first
    | with_reducible assumption
    | (intro x)
    | with_reducible apply State.sacnBad_good
    | with_reducible apply State.incReg_good
    | with_reducible apply State.dropSource_good
    | with_reducible apply Good.ite
    | with_reducible apply Good.iteSnd
    | with_reducible apply Good.iteThird
    | simp only [Good.mk_iff]
    | split

theorem State.triggerDark_good {s0 : State} (x1 : Sys2Proof.Machine.State) (x2 : Nat) (h1 : Good s0 x1) :
    Good s0 (State.triggerDark x1 x2) := by
  unfold State.triggerDark
  repeat' first
    | with_reducible assumption
    | (intro x)
    | with_reducible apply State.enterDark_good
    | with_reducible apply Good.ite
    | with_reducible apply Good.iteSnd
    | with_reducible apply Good.iteThird
    | simp only [Good.mk_iff]
    | split

theorem State.takeStep_good {s0 : State} (x1 : Sys2Proof.Machine.State) (x2 : Bool) (h1 : Good s0 x1) :
    Good s0 (State.takeStep x1 x2) := by
  unfold State.takeStep
  repeat' first
    | with_reducible assumption
    | (intro x)
    | with_reducible apply State.absentCheck_good
    | with_reducible apply State.takeStreams_good
    | with_reducible apply State.takeNewest_good
    | with_reducible apply Good.ite

theorem State.ropeSet_good {s0 : State} (x1 : Sys2Proof.Machine.State) (x2 : Nat) (x3 : Nat) (x4 : Nat) (x5 : Nat) (x6 : List Sys2Proof.Machine.SetEntry) (h1 : Good s0 x1) :
    Good s0 (State.ropeSet x1 x2 x3 x4 x5 x6).2 := by
  unfold State.ropeSet
  repeat' first
    | with_reducible assumption
    | (intro x)
    | with_reducible apply State.sendNear_good
    | with_reducible apply State.takeSegment_good
    | with_reducible apply State.takeEntry_good
    | with_reducible apply State.setReg_good
    | with_reducible apply Good.ite
    | with_reducible apply Good.iteSnd
    | with_reducible apply Good.iteThird
    | simp only [Good.mk_iff]
    | split

theorem State.dramScrubRelease_good {s0 : State} (x1 : Sys2Proof.Machine.State) (h1 : Good s0 x1) :
    Good s0 (State.dramScrubRelease x1) := by
  unfold State.dramScrubRelease
  repeat' first
    | with_reducible assumption
    | (intro x)
    | with_reducible apply State.release_good
    | with_reducible apply Good.ite
    | with_reducible apply Good.iteSnd
    | with_reducible apply Good.iteThird
    | simp only [Good.mk_iff]

theorem State.heartbeatSend_good {s0 : State} (x1 : Sys2Proof.Machine.State) (x2 : Nat) (h1 : Good s0 x1) :
    Good s0 (State.heartbeatSend x1 x2) := by
  unfold State.heartbeatSend
  repeat' first
    | with_reducible assumption
    | (intro x)
    | with_reducible apply State.txLink_good
    | with_reducible apply Good.ite

theorem State.darkPinLow_good {s0 : State} (x1 : Sys2Proof.Machine.State) (h1 : Good s0 x1) :
    Good s0 (State.darkPinLow x1) := by
  unfold State.darkPinLow
  repeat' first
    | with_reducible assumption
    | (intro x)
    | with_reducible apply State.triggerDark_good
    | with_reducible apply Good.ite
    | with_reducible apply Good.iteSnd
    | with_reducible apply Good.iteThird
    | simp only [Good.mk_iff]

theorem State.xferDone_good {s0 : State} (x1 : Sys2Proof.Machine.State) (x2 : Sys2Proof.Machine.Transfer) (x3 : Bool) (h1 : Good s0 x1) :
    Good s0 (State.xferDone x1 x2 x3).2 := by
  unfold State.xferDone
  repeat' first
    | with_reducible assumption
    | (intro x)
    | with_reducible apply State.slotDone_good
    | with_reducible apply State.fwDone_good
    | with_reducible apply State.writeCoefs_good
    | with_reducible apply State.putLut_good
    | with_reducible apply Good.ite
    | with_reducible apply Good.iteSnd
    | with_reducible apply Good.iteThird
    | simp only [Good.mk_iff]
    | split

theorem State.forward_good {s0 : State} (x1 : Sys2Proof.Machine.State) (x2 : Nat) (x3 : Sys2Proof.Machine.RopeTag) (x4 : Sys2Proof.Bytes) (x5 : Bool) (h1 : Good s0 x1) :
    Good s0 (State.forward x1 x2 x3 x4 x5) := by
  unfold State.forward
  repeat' first
    | with_reducible assumption
    | (intro x)
    | with_reducible apply State.incReg_good
    | with_reducible apply State.txAny_good
    | with_reducible apply State.residence_good
    | with_reducible apply State.tx_good
    | with_reducible apply Good.ite

theorem State.bridgeIn_good {s0 : State} (x1 : Sys2Proof.Machine.State) (x2 : Nat) (x3 : Nat) (x4 : Nat) (x5 : Sys2Proof.Bytes) (x6 : Sys2Proof.Bytes) (h1 : Good s0 x1) :
    Good s0 (State.bridgeIn x1 x2 x3 x4 x5 x6) := by
  unfold State.bridgeIn
  repeat' first
    | with_reducible assumption
    | (intro x)
    | with_reducible apply State.incReg_good
    | with_reducible apply State.sendRopeWith_good

theorem State.sendPtp_good {s0 : State} (x1 : Sys2Proof.Machine.State) (x2 : Nat) (x3 : Nat) (x4 : Sys2Proof.Machine.PtpMsg) (x5 : Option Sys2Proof.Machine.AnnData) (h1 : Good s0 x1) :
    Good s0 (State.sendPtp x1 x2 x3 x4 x5) := by
  unfold State.sendPtp
  repeat' first
    | with_reducible assumption
    | (intro x)
    | with_reducible apply State.tx_good

theorem State.ropingStep_good {s0 : State} (x1 : Sys2Proof.Machine.State) (h1 : Good s0 x1) :
    Good s0 (State.ropingStep x1) := by
  unfold State.ropingStep
  repeat' first
    | with_reducible assumption
    | (intro x)
    | with_reducible apply State.enterStaging_good
    | with_reducible apply State.enterDark_good
    | with_reducible apply Good.ite
    | with_reducible apply Good.iteSnd
    | with_reducible apply Good.iteThird
    | simp only [Good.mk_iff]
    | split

theorem State.modeStep_good {s0 : State} (x1 : Sys2Proof.Machine.State) (h1 : Good s0 x1) :
    Good s0 (State.modeStep x1) := by
  unfold State.modeStep
  repeat' first
    | with_reducible assumption
    | (intro x)
    | with_reducible apply State.ropingStep_good
    | with_reducible apply State.refuseStaging_good
    | with_reducible apply State.enterHoldover_good
    | with_reducible apply State.stagingStep_good
    | with_reducible apply State.setMode_good
    | with_reducible apply State.refuseShow_good
    | with_reducible apply State.noteChange_good
    | with_reducible apply Good.ite
    | with_reducible apply Good.iteSnd
    | with_reducible apply Good.iteThird
    | simp only [Good.mk_iff]
    | split

theorem State.deliverIp_good {s0 : State} (x1 : Sys2Proof.Machine.State) (x2 : Nat) (x3 : Nat) (x4 : Sys2Proof.Bytes) (x5 : Sys2Proof.Bytes) (h1 : Good s0 x1) :
    Good s0 (State.deliverIp x1 x2 x3 x4 x5) := by
  unfold State.deliverIp
  repeat' first
    | with_reducible assumption
    | (intro x)
    | with_reducible apply State.badFrame_good
    | with_reducible apply State.ptpHeard_good
    | with_reducible apply State.rxPush_good
    | with_reducible apply State.incReg_good
    | with_reducible apply Good.ite
    | with_reducible apply Good.iteSnd
    | with_reducible apply Good.iteThird
    | simp only [Good.mk_iff]
    | split

theorem State.sendRope_good {s0 : State} (x1 : Sys2Proof.Machine.State) (x2 : Nat) (x3 : Nat) (x4 : Nat) (x5 : Nat) (x6 : Sys2Proof.Bytes) (x7 : Bool) (h1 : Good s0 x1) :
    Good s0 (State.sendRope x1 x2 x3 x4 x5 x6 x7) := by
  unfold State.sendRope
  repeat' first
    | with_reducible assumption
    | (intro x)
    | with_reducible apply State.sendRopeWith_good

theorem State.eventRelease_good {s0 : State} (x1 : Sys2Proof.Machine.State) (x2 : Nat) (h1 : Good s0 x1) :
    Good s0 (State.eventRelease x1 x2) := by
  unfold State.eventRelease
  repeat' first
    | with_reducible assumption
    | (intro x)
    | with_reducible apply State.release_good
    | with_reducible apply Good.ite

theorem State.freeCb_good {s0 : State} (x1 : Sys2Proof.Machine.State) (x2 : Nat) (x3 : Bool) (h1 : Good s0 x1) :
    Good s0 (State.freeCb x1 x2 x3) := by
  unfold State.freeCb
  repeat' first
    | with_reducible assumption
    | (intro x)
    | with_reducible apply State.serveCb_good
    | with_reducible apply State.setCb_good

theorem workParse_good {s0 : State} (x1 : Sys2Proof.Machine.Task) (x2 : Sys2Proof.Machine.State) (h2 : Good s0 x2) :
    Good s0 (workParse x1 x2).2 := by
  unfold workParse
  repeat' first
    | with_reducible assumption
    | (intro x)
    | with_reducible apply State.nextItem_good
    | (refine State.nextItem_good _ _ ?_ _ (by with_reducible assumption))
    | with_reducible apply State.readEmpty_good
    | with_reducible apply State.sacnCheck_good
    | with_reducible apply State.taskPush_good
    | with_reducible apply Good.ite
    | with_reducible apply Good.iteSnd
    | with_reducible apply Good.iteThird
    | simp only [Good.mk_iff]
    | split

theorem State.planRelease_good {s0 : State} (x1 : Sys2Proof.Machine.State) (x2 : Nat) (h1 : Good s0 x1) :
    Good s0 (State.planRelease x1 x2) := by
  unfold State.planRelease
  repeat' first
    | with_reducible assumption
    | (intro x)
    | with_reducible apply State.reachCclk_good
    | with_reducible apply State.trace_good
    | with_reducible apply State.incReg_good
    | with_reducible apply State.release_good
    | with_reducible apply State.raise_good
    | with_reducible apply Good.ite
    | with_reducible apply Good.iteSnd
    | with_reducible apply Good.iteThird
    | simp only [Good.mk_iff]

theorem workMove_good {s0 : State} (x1 : Sys2Proof.Machine.Task) (x2 : Sys2Proof.Machine.State) (h2 : Good s0 x2) :
    Good s0 (workMove x1 x2).2 := by
  unfold workMove
  repeat' first
    | with_reducible assumption
    | (intro x)
    | with_reducible apply State.nextItem_good
    | (refine State.nextItem_good _ _ ?_ _ (by with_reducible assumption))
    | with_reducible apply State.readEmpty_good
    | with_reducible apply State.taskPush_good
    | with_reducible apply Good.ite
    | with_reducible apply Good.iteSnd
    | with_reducible apply Good.iteThird
    | simp only [Good.mk_iff]
    | split

theorem State.faultWires_good {s0 : State} (x1 : Sys2Proof.Machine.State) (x2 : Nat) (h1 : Good s0 x1) :
    Good s0 (State.faultWires x1 x2) := by
  unfold State.faultWires
  repeat' first
    | with_reducible assumption
    | (intro x)
    | with_reducible apply State.triggerDark_good
    | with_reducible apply Good.ite
    | with_reducible apply Good.iteSnd
    | with_reducible apply Good.iteThird
    | simp only [Good.mk_iff]

theorem State.opEnd_good {s0 : State} (x1 : Sys2Proof.Machine.State) (x2 : Sys2Proof.Machine.Origin) (x3 : Nat) (x4 : Bool) (x5 : Bool) (h1 : Good s0 x1) :
    Good s0 (State.opEnd x1 x2 x3 x4 x5).2 := by
  unfold State.opEnd
  repeat' first
    | with_reducible assumption
    | (intro x)
    | with_reducible apply State.dropXfer_good
    | with_reducible apply State.abandon_good
    | with_reducible apply State.xferDone_good
    | with_reducible apply State.rejected_good
    | with_reducible apply Good.ite
    | with_reducible apply Good.iteSnd
    | with_reducible apply Good.iteThird
    | simp only [Good.mk_iff]
    | split

theorem workSignal_good {s0 : State} (x1 : Sys2Proof.Machine.Task) (x2 : Sys2Proof.Machine.State) (h2 : Good s0 x2) :
    Good s0 (workSignal x1 x2).2 := by
  unfold workSignal
  repeat' first
    | with_reducible assumption
    | (intro x)
    | with_reducible apply State.taskPush_good
    | with_reducible apply Good.ite
    | with_reducible apply Good.iteSnd

theorem State.deliverType_good {s0 : State} (x1 : Sys2Proof.Machine.State) (x2 : Nat) (x3 : Nat) (x4 : Nat) (x5 : Sys2Proof.Bytes) (x6 : Sys2Proof.Bytes) (h1 : Good s0 x1) :
    Good s0 (State.deliverType x1 x2 x3 x4 x5 x6) := by
  unfold State.deliverType
  repeat' first
    | with_reducible assumption
    | (intro x)
    | with_reducible apply State.incReg_good
    | with_reducible apply State.deliverIp_good
    | with_reducible apply State.rxPush_good
    | with_reducible apply Good.ite

theorem State.sendPtpRope_good {s0 : State} (x1 : Sys2Proof.Machine.State) (x2 : Nat → Sys2Proof.Machine.PtpMsg) (x3 : Option Sys2Proof.Machine.AnnData) (h1 : Good s0 x1) :
    Good s0 (State.sendPtpRope x1 x2 x3) := by
  unfold State.sendPtpRope
  repeat' first
    | with_reducible assumption
    | (intro x)
    | with_reducible apply State.sendRopeWith_good

theorem State.delayReqSend_good {s0 : State} (x1 : Sys2Proof.Machine.State) (h1 : Good s0 x1) :
    Good s0 (State.delayReqSend x1) := by
  unfold State.delayReqSend
  repeat' first
    | with_reducible assumption
    | (intro x)
    | with_reducible apply State.reachCclk_good
    | with_reducible apply State.sendPtp_good
    | with_reducible apply Good.ite
    | with_reducible apply Good.iteSnd
    | with_reducible apply Good.iteThird
    | simp only [Good.mk_iff]
    | split

theorem State.loadDone_good {s0 : State} (x1 : Sys2Proof.Machine.State) (h1 : Good s0 x1) :
    Good s0 (State.loadDone x1) := by
  unfold State.loadDone
  repeat' first
    | with_reducible assumption
    | (intro x)
    | with_reducible apply State.loadClamps_good
    | with_reducible apply State.loadFailed_good
    | with_reducible apply State.loadPassed_good
    | with_reducible apply Good.ite
    | with_reducible apply Good.iteSnd
    | with_reducible apply Good.iteThird
    | simp only [Good.mk_iff]
    | split

theorem State.onDelayReq_good {s0 : State} (x1 : Sys2Proof.Machine.State) (x2 : Nat) (x3 : Sys2Proof.Machine.PtpMsg) (h1 : Good s0 x1) :
    Good s0 (State.onDelayReq x1 x2 x3) := by
  unfold State.onDelayReq
  repeat' first
    | with_reducible assumption
    | (intro x)
    | with_reducible apply State.ptpIgnored_good
    | with_reducible apply State.sendPtp_good
    | with_reducible apply Good.ite

theorem State.sendOut_good {s0 : State} (x1 : Sys2Proof.Machine.State) (x2 : Nat × Nat) (x3 : Nat) (x4 : Nat) (x5 : Nat → Sys2Proof.Machine.RopeTag → Sys2Proof.Machine.Output) (x6 : Sys2Proof.Machine.Output) (h1 : Good s0 x1) :
    Good s0 (State.sendOut x1 x2 x3 x4 x5 x6) := by
  unfold State.sendOut
  repeat' first
    | with_reducible assumption
    | (intro x)
    | with_reducible apply State.sendRopeWith_good
    | with_reducible apply State.tx_good
    | with_reducible apply Good.ite

theorem State.bridgeOut_good {s0 : State} (x1 : Sys2Proof.Machine.State) (x2 : Sys2Proof.Machine.RopeTag) (x3 : Sys2Proof.Bytes) (h1 : Good s0 x1) :
    Good s0 (State.bridgeOut x1 x2 x3) := by
  unfold State.bridgeOut
  repeat' first
    | with_reducible assumption
    | (intro x)
    | with_reducible apply State.noteReport_good
    | with_reducible apply State.incReg_good
    | with_reducible apply State.tx_good
    | with_reducible apply Good.ite

theorem State.sendHost_good {s0 : State} (x1 : Sys2Proof.Machine.State) (x2 : Nat) (x3 : Nat) (x4 : Sys2Proof.Bytes) (h1 : Good s0 x1) :
    Good s0 (State.sendHost x1 x2 x3 x4) := by
  unfold State.sendHost
  repeat' first
    | with_reducible assumption
    | (intro x)
    | with_reducible apply State.sendOut_good

theorem State.wholeWrite_good {s0 : State} (x1 : Sys2Proof.Machine.State) (x2 : Sys2Proof.Machine.Origin) (x3 : Sys2Proof.Machine.Role) (x4 : Nat) (x5 : Nat) (x6 : Sys2Proof.Bytes) (x7 : Bool) (h1 : Good s0 x1) :
    Good s0 (State.wholeWrite x1 x2 x3 x4 x5 x6 x7).2 := by
  unfold State.wholeWrite
  repeat' first
    | with_reducible assumption
    | (intro x)
    | with_reducible apply State.opBegin_good
    | with_reducible apply State.opData_good
    | with_reducible apply outOf_good
    | with_reducible apply State.opEnd_good
    | with_reducible apply Good.foldl
    | with_reducible apply Good.foldlSnd
    | with_reducible apply Good.ite
    | with_reducible apply Good.iteSnd
    | with_reducible apply Good.iteThird
    | simp only [Good.mk_iff]
    | split
    | dsimp only
    | (refine Good.ofPair (by with_reducible assumption) ?_)

theorem State.resolveSet_good {s0 : State} (x1 : Sys2Proof.Machine.State) (x2 : Nat) (x3 : List (Nat × Nat)) (h1 : Good s0 x1) :
    Good s0 (State.resolveSet x1 x2 x3).2 := by
  unfold State.resolveSet
  repeat' first
    | with_reducible assumption
    | (intro x)
    | with_reducible apply State.fixCrop_good
    | with_reducible apply State.fixScaler_good
    | with_reducible apply State.fixField_good
    | with_reducible apply Good.ite
    | with_reducible apply Good.iteSnd

theorem State.sendUdp_good {s0 : State} (x1 : Sys2Proof.Machine.State) (x2 : Nat) (x3 : Nat) (x4 : Sys2Proof.Bytes) (h1 : Good s0 x1) :
    Good s0 (State.sendUdp x1 x2 x3 x4) := by
  unfold State.sendUdp
  repeat' first
    | with_reducible assumption
    | (intro x)
    | with_reducible apply State.sendOut_good

theorem workRopeCtrl_good {s0 : State} (x1 : Sys2Proof.Machine.Task) (x2 : Sys2Proof.Machine.State) (h2 : Good s0 x2) :
    Good s0 (workRopeCtrl x1 x2).2 := by
  unfold workRopeCtrl
  repeat' first
    | with_reducible assumption
    | (intro x)
    | with_reducible apply State.nextItem_good
    | (refine State.nextItem_good _ _ ?_ _ (by with_reducible assumption))
    | with_reducible apply State.readEmpty_good
    | with_reducible apply State.taskPush_good
    | with_reducible apply State.incReg_good
    | with_reducible apply Good.ite
    | with_reducible apply Good.iteSnd
    | with_reducible apply Good.iteThird
    | simp only [Good.mk_iff]
    | split

theorem State.finishRun_good {s0 : State} (x1 : Sys2Proof.Machine.State) (x2 : Sys2Proof.Machine.RunSt) (x3 : Bool) (h1 : Good s0 x1) :
    Good s0 (State.finishRun x1 x2 x3).2 := by
  unfold State.finishRun
  repeat' first
    | with_reducible assumption
    | (intro x)
    | with_reducible apply State.sendNear_good
    | with_reducible apply State.takeEntry_good
    | with_reducible apply State.setReg_good
    | with_reducible apply Good.ite
    | with_reducible apply Good.iteSnd
    | with_reducible apply Good.iteThird
    | simp only [Good.mk_iff]
    | split

theorem State.sacnSend_good {s0 : State} (x1 : Sys2Proof.Machine.State) (x2 : Sys2Proof.Bytes) (x3 : Nat) (x4 : Sys2Proof.Bytes) (h1 : Good s0 x1) :
    Good s0 (State.sacnSend x1 x2 x3 x4) := by
  unfold State.sacnSend
  repeat' first
    | with_reducible assumption
    | (intro x)
    | with_reducible apply State.tx_good
    | with_reducible apply State.sendRopeWith_good
    | with_reducible apply Good.ite

theorem State.beaconSend_good {s0 : State} (x1 : Sys2Proof.Machine.State) (h1 : Good s0 x1) :
    Good s0 (State.beaconSend x1) := by
  unfold State.beaconSend
  repeat' first
    | with_reducible assumption
    | (intro x)
    | with_reducible apply State.sendRope_good
    | with_reducible apply Good.ite
    | with_reducible apply Good.iteSnd
    | with_reducible apply Good.iteThird
    | simp only [Good.mk_iff]

theorem State.breakWait_good {s0 : State} (x1 : Sys2Proof.Machine.State) (x2 : Nat) (h1 : Good s0 x1) :
    Good s0 (State.breakWait x1 x2) := by
  unfold State.breakWait
  repeat' first
    | with_reducible assumption
    | (intro x)
    | with_reducible apply State.preempt_good
    | with_reducible apply Good.ite
    | with_reducible apply Good.iteSnd
    | with_reducible apply Good.iteThird
    | simp only [Good.mk_iff]
    | split

theorem State.ingestVideo_good {s0 : State} (x1 : Sys2Proof.Bytes) (x2 : Sys2Proof.Machine.State) (h2 : Good s0 x2) :
    Good s0 (State.ingestVideo x1 x2) := by
  unfold State.ingestVideo
  repeat' first
    | with_reducible assumption
    | (intro x)
    | with_reducible apply State.takeStamp_good
    | with_reducible apply State.beginFrame_good
    | with_reducible apply State.setStream_good
    | with_reducible apply State.storeLines_good
    | with_reducible apply State.endFrame_good
    | with_reducible apply Good.ite
    | with_reducible apply Good.iteSnd
    | with_reducible apply Good.iteThird
    | simp only [Good.mk_iff]
    | split

theorem State.onPdelayReq_good {s0 : State} (x1 : Sys2Proof.Machine.State) (x2 : Nat) (x3 : Sys2Proof.Machine.PtpMsg) (h1 : Good s0 x1) :
    Good s0 (State.onPdelayReq x1 x2 x3) := by
  unfold State.onPdelayReq
  repeat' first
    | with_reducible assumption
    | (intro x)
    | with_reducible apply State.ptpIgnored_good
    | with_reducible apply State.sendPtp_good
    | with_reducible apply Good.ite

theorem State.arpAnnounce_good {s0 : State} (x1 : Sys2Proof.Machine.State) (h1 : Good s0 x1) :
    Good s0 (State.arpAnnounce x1) := by
  unfold State.arpAnnounce
  repeat' first
    | with_reducible assumption
    | (intro x)
    | with_reducible apply State.reachCclk_good
    | with_reducible apply State.sendHost_good
    | with_reducible apply Good.ite
    | with_reducible apply Good.iteSnd
    | with_reducible apply Good.iteThird
    | simp only [Good.mk_iff]

theorem State.deliverRope_good {s0 : State} (x1 : Sys2Proof.Machine.State) (x2 : Nat) (x3 : Sys2Proof.Machine.RopeTag) (x4 : Sys2Proof.Bytes) (h1 : Good s0 x1) :
    Good s0 (State.deliverRope x1 x2 x3 x4) := by
  unfold State.deliverRope
  repeat' first
    | with_reducible assumption
    | (intro x)
    | with_reducible apply State.rxPush_good
    | with_reducible apply State.deliverType_good
    | with_reducible apply State.incReg_good
    | with_reducible apply Good.ite
    | with_reducible apply Good.iteSnd
    | with_reducible apply Good.iteThird
    | simp only [Good.mk_iff]
    | split

theorem State.sendIgmp_good {s0 : State} (x1 : Sys2Proof.Machine.State) (x2 : Nat) (x3 : Sys2Proof.Bytes) (h1 : Good s0 x1) :
    Good s0 (State.sendIgmp x1 x2 x3) := by
  unfold State.sendIgmp
  repeat' first
    | with_reducible assumption
    | (intro x)
    | with_reducible apply State.noteReport_good
    | with_reducible apply State.sendHost_good
    | with_reducible apply Good.ite

theorem State.secondCall_good {s0 : State} (x1 : Sys2Proof.Machine.State) (x2 : Sys2Proof.Machine.RunSt) (h1 : Good s0 x1) :
    Good s0 (State.secondCall x1 x2).2 := by
  unfold State.secondCall
  repeat' first
    | with_reducible assumption
    | (intro x)
    | with_reducible apply State.sendNear_good
    | with_reducible apply State.finishRun_good
    | with_reducible apply Good.ite
    | with_reducible apply Good.iteSnd
    | with_reducible apply Good.iteThird
    | simp only [Good.mk_iff]

theorem State.forceCb_good {s0 : State} (x1 : Sys2Proof.Machine.State) (x2 : Nat) (h1 : Good s0 x1) :
    Good s0 (State.forceCb x1 x2) := by
  unfold State.forceCb
  repeat' first
    | with_reducible assumption
    | (intro x)
    | with_reducible apply State.serveCb_good
    | with_reducible apply State.breakCb_good

theorem State.endRun_good {s0 : State} (x1 : Sys2Proof.Machine.State) (x2 : Nat) (x3 : Sys2Proof.Machine.Task) (x4 : Nat) (x5 : Nat) (h1 : Good s0 x1) :
    Good s0 (State.endRun x1 x2 x3 x4 x5) := by
  unfold State.endRun
  repeat' first
    | with_reducible assumption
    | (intro x)
    | with_reducible apply State.trace_good
    | with_reducible apply State.setEngine_good
    | with_reducible apply State.freeCb_good
    | with_reducible apply State.resumeHead_good
    | with_reducible apply Good.ite

theorem State.ropeBad_good {s0 : State} (x1 : Sys2Proof.Machine.State) (x2 : Nat) (x3 : Sys2Proof.Bytes) (h1 : Good s0 x1) :
    Good s0 (State.ropeBad x1 x2 x3) := by
  unfold State.ropeBad
  repeat' first
    | with_reducible assumption
    | (intro x)
    | with_reducible apply State.forward_good
    | with_reducible apply Good.ite

theorem State.dispatch_good {s0 : State} (x1 : Sys2Proof.Machine.State) (x2 : Nat) (h1 : Good s0 x1) :
    Good s0 (State.dispatch x1 x2) := by
  unfold State.dispatch
  repeat' first
    | with_reducible assumption
    | (intro x)
    | with_reducible apply State.breakWait_good
    | with_reducible apply State.startHead_good
    | with_reducible apply Good.ite

theorem State.trailFrame_good {s0 : State} (x1 : Sys2Proof.Machine.State) (x2 : Sys2Proof.Bytes) (h1 : Good s0 x1) :
    Good s0 (State.trailFrame x1 x2) := by
  unfold State.trailFrame
  repeat' first
    | with_reducible assumption
    | (intro x)
    | with_reducible apply State.incReg_good
    | with_reducible apply State.bridgeIn_good
    | with_reducible apply State.deliverType_good
    | with_reducible apply Good.ite
    | with_reducible apply Good.iteSnd
    | with_reducible apply Good.iteThird
    | simp only [Good.mk_iff]
    | split

theorem State.sendMaster_good {s0 : State} (x1 : Sys2Proof.Machine.State) (x2 : Nat) (x3 : Nat → Sys2Proof.Machine.PtpMsg) (x4 : Option Sys2Proof.Machine.AnnData) (h1 : Good s0 x1) :
    Good s0 (State.sendMaster x1 x2 x3 x4) := by
  unfold State.sendMaster
  repeat' first
    | with_reducible assumption
    | (intro x)
    | with_reducible apply State.sendPtpRope_good
    | with_reducible apply State.sendPtp_good
    | with_reducible apply Good.ite

theorem State.sendSeg_good {s0 : State} (x1 : Sys2Proof.Machine.State) (x2 : Nat) (x3 : Sys2Proof.Bytes) (h1 : Good s0 x1) :
    Good s0 (State.sendSeg x1 x2 x3) := by
  unfold State.sendSeg
  repeat' first
    | with_reducible assumption
    | (intro x)
    | with_reducible apply State.sendRope_good

theorem State.icmpIn_good {s0 : State} (x1 : Sys2Proof.Machine.State) (x2 : Nat) (x3 : Sys2Proof.Bytes) (h1 : Good s0 x1) :
    Good s0 (State.icmpIn x1 x2 x3) := by
  unfold State.icmpIn
  repeat' first
    | with_reducible assumption
    | (intro x)
    | with_reducible apply State.sendHost_good
    | with_reducible apply Good.ite

theorem State.pdelaySend_good {s0 : State} (x1 : Sys2Proof.Machine.State) (x2 : Nat) (h1 : Good s0 x1) :
    Good s0 (State.pdelaySend x1 x2) := by
  unfold State.pdelaySend
  repeat' first
    | with_reducible assumption
    | (intro x)
    | with_reducible apply State.reachCclk_good
    | with_reducible apply State.sendPtp_good
    | with_reducible apply State.setPdelay_good
    | with_reducible apply Good.ite

theorem State.announceSend_good {s0 : State} (x1 : Sys2Proof.Machine.State) (x2 : Nat) (h1 : Good s0 x1) :
    Good s0 (State.announceSend x1 x2) := by
  unfold State.announceSend
  repeat' first
    | with_reducible assumption
    | (intro x)
    | with_reducible apply State.reachCclk_good
    | with_reducible apply State.sendMaster_good
    | with_reducible apply Good.ite
    | with_reducible apply Good.iteSnd
    | with_reducible apply Good.iteThird
    | simp only [Good.mk_iff]

theorem State.captureWith_good {s0 : State} (x1 : Sys2Proof.Machine.State) (x2 : Nat) (x3 : Nat) (x4 : Nat) (x5 : Bool) (x6 : Bool) (h1 : Good s0 x1) :
    Good s0 (State.captureWith x1 x2 x3 x4 x5 x6) := by
  unfold State.captureWith
  repeat' first
    | with_reducible assumption
    | (intro x)
    | with_reducible apply State.fillLatch_good
    | with_reducible apply State.faultWires_good
    | with_reducible apply Good.ite
    | with_reducible apply Good.iteSnd
    | with_reducible apply Good.iteThird
    | simp only [Good.mk_iff]

theorem State.provingDone_good {s0 : State} (x1 : Sys2Proof.Machine.State) (x2 : Nat) (h1 : Good s0 x1) :
    Good s0 (State.provingDone x1 x2) := by
  unfold State.provingDone
  repeat' first
    | with_reducible assumption
    | (intro x)
    | with_reducible apply State.reachCclk_good
    | with_reducible apply State.incReg_good
    | with_reducible apply State.raise_good
    | with_reducible apply State.sendSeg_good
    | with_reducible apply State.setLinkState_good
    | with_reducible apply State.ringUpdate_good
    | with_reducible apply State.setLink_good
    | with_reducible apply Good.ite
    | with_reducible apply Good.iteSnd
    | with_reducible apply Good.iteThird
    | simp only [Good.mk_iff]

theorem State.arpIn_good {s0 : State} (x1 : Sys2Proof.Machine.State) (x2 : Sys2Proof.Bytes) (h1 : Good s0 x1) :
    Good s0 (State.arpIn x1 x2) := by
  unfold State.arpIn
  repeat' first
    | with_reducible assumption
    | (intro x)
    | with_reducible apply State.raise_good
    | with_reducible apply State.incReg_good
    | with_reducible apply State.sendHost_good
    | with_reducible apply Good.ite

theorem State.pxSend_good {s0 : State} (x1 : Sys2Proof.Machine.State) (x2 : Sys2Proof.Bytes) (x3 : Nat) (h1 : Good s0 x1) :
    Good s0 (State.pxSend x1 x2 x3) := by
  unfold State.pxSend
  repeat' first
    | with_reducible assumption
    | (intro x)
    | with_reducible apply State.incReg_good
    | with_reducible apply State.sendRope_good
    | with_reducible apply Good.foldl

theorem State.endReaction_good {s0 : State} (x1 : Sys2Proof.Machine.State) (x2 : Sys2Proof.Machine.FaultSlot) (h1 : Good s0 x1) :
    Good s0 (State.endReaction x1 x2) := by
  unfold State.endReaction
  repeat' first
    | with_reducible assumption
    | (intro x)
    | with_reducible apply State.pushFault_good
    | with_reducible apply State.captureWith_good
    | with_reducible apply Good.ite
    | with_reducible apply Good.iteSnd
    | with_reducible apply Good.iteThird
    | simp only [Good.mk_iff]

theorem State.rowWhole_good {s0 : State} (x1 : Sys2Proof.Machine.State) (x2 : Sys2Proof.Machine.Origin) (x3 : Nat) (x4 : Nat) (x5 : Sys2Proof.Bytes) (x6 : Bool) (h1 : Good s0 x1) :
    Good s0 (State.rowWhole x1 x2 x3 x4 x5 x6) := by
  unfold State.rowWhole
  repeat' first
    | with_reducible assumption
    | (intro x)
    | with_reducible apply State.serveDom_good
    | with_reducible apply State.wholeWrite_good

theorem State.hostItem_good {s0 : State} (x1 : Sys2Proof.Bytes) (x2 : Sys2Proof.Machine.State) (h2 : Good s0 x2) :
    Good s0 (State.hostItem x1 x2) := by
  unfold State.hostItem
  repeat' first
    | with_reducible assumption
    | (intro x)
    | with_reducible apply State.arpIn_good
    | with_reducible apply State.icmpIn_good
    | with_reducible apply Good.ite

end Sys2Proof.Machine
end

