-- ==== Sys2Proof/Laws/Keep4.lean ====
section
/-! SUPPORT. Every operation keeps `Good`, part 4 of 4: one lemma for each operation, in the order in which one calls
the other. -/

namespace Sys2Proof.Machine

theorem State.readTimeout_good {s0 : State} (x1 : Sys2Proof.Machine.State) (x2 : Nat) (h1 : Good s0 x1) :
    Good s0 (State.readTimeout x1 x2) := by
  unfold State.readTimeout
  repeat' first
    | with_reducible assumption
    | (intro x)
    | with_reducible apply State.endRun_good
    | with_reducible apply State.unstall_good
    | with_reducible apply State.trace_good
    | with_reducible apply State.setEngine_good
    | with_reducible apply Good.ite
    | with_reducible apply Good.iteSnd
    | with_reducible apply Good.iteThird
    | simp only [Good.mk_iff]
    | split

theorem State.latchSet_good {s0 : State} (x1 : Sys2Proof.Machine.State) (x2 : Nat) (x3 : List (Nat × Nat)) (x4 : Bool) (h1 : Good s0 x1) :
    Good s0 (State.latchSet x1 x2 x3 x4) := by
  unfold State.latchSet
  repeat' first
    | with_reducible assumption
    | (intro x)
    | with_reducible apply State.resolveSet_good
    | with_reducible apply State.setLayer_good

theorem State.sendCtrl_good {s0 : State} (x1 : Sys2Proof.Machine.State) (x2 : Nat) (x3 : Nat) (x4 : Sys2Proof.Bytes) (h1 : Good s0 x1) :
    Good s0 (State.sendCtrl x1 x2 x3 x4) := by
  unfold State.sendCtrl
  repeat' first
    | with_reducible assumption
    | (intro x)
    | with_reducible apply State.sendUdp_good

theorem State.sacnDiscovery_good {s0 : State} (x1 : Sys2Proof.Machine.State) (h1 : Good s0 x1) :
    Good s0 (State.sacnDiscovery x1) := by
  unfold State.sacnDiscovery
  repeat' first
    | with_reducible assumption
    | (intro x)
    | with_reducible apply State.reachCclk_good
    | with_reducible apply State.sacnSend_good
    | with_reducible apply Good.foldl
    | with_reducible apply Good.foldlSnd
    | with_reducible apply Good.ite
    | with_reducible apply Good.iteSnd
    | with_reducible apply Good.iteThird
    | simp only [Good.mk_iff]

theorem State.forceAll_good {s0 : State} (x1 : Sys2Proof.Machine.State) (x2 : Sys2Proof.Machine.CbOwner) (h1 : Good s0 x1) :
    Good s0 (State.forceAll x1 x2) := by
  unfold State.forceAll
  repeat' first
    | with_reducible assumption
    | (intro x)
    | with_reducible apply State.forceCb_good
    | with_reducible apply Good.foldl
    | with_reducible apply Good.foldlSnd
    | with_reducible apply Good.ite

theorem State.trailResign_good {s0 : State} (x1 : Sys2Proof.Machine.State) (h1 : Good s0 x1) :
    Good s0 (State.trailResign x1) := by
  unfold State.trailResign
  repeat' first
    | with_reducible assumption
    | (intro x)
    | with_reducible apply State.reachCclk_good
    | with_reducible apply State.sendSeg_good
    | with_reducible apply State.pass_good
    | with_reducible apply State.roleUpdate_good
    | with_reducible apply State.setRole_good
    | with_reducible apply Good.ite
    | with_reducible apply Good.iteSnd
    | with_reducible apply Good.iteThird
    | simp only [Good.mk_iff]
    | split

theorem State.dropScalers_good {s0 : State} (x1 : Sys2Proof.Machine.State) (h1 : Good s0 x1) :
    Good s0 (State.dropScalers x1) := by
  unfold State.dropScalers
  repeat' first
    | with_reducible assumption
    | (intro x)
    | with_reducible apply State.latchSet_good
    | with_reducible apply Good.foldl
    | with_reducible apply Good.foldlSnd
    | with_reducible apply Good.ite

theorem State.abortTask_good {s0 : State} (x1 : Sys2Proof.Machine.State) (x2 : Nat) (x3 : Nat) (x4 : Sys2Proof.Machine.Task) (h1 : Good s0 x1) :
    Good s0 (State.abortTask x1 x2 x3 x4) := by
  unfold State.abortTask
  repeat' first
    | with_reducible assumption
    | (intro x)
    | with_reducible apply State.trace_good
    | with_reducible apply State.incReg_good
    | with_reducible apply State.unstall_good
    | with_reducible apply State.forceCb_good
    | with_reducible apply Good.ite

theorem State.openSession_good {s0 : State} (x1 : Sys2Proof.Machine.State) (x2 : Sys2Proof.Machine.Handshake) (x3 : Sys2Proof.Bytes) (x4 : Sys2Proof.Bytes) (h1 : Good s0 x1) :
    Good s0 (State.openSession x1 x2 x3 x4) := by
  unfold State.openSession
  repeat' first
    | with_reducible assumption
    | (intro x)
    | with_reducible apply State.drawRandom_good
    | with_reducible apply State.sendCtrl_good
    | with_reducible apply State.raise_good
    | with_reducible apply Good.ite
    | with_reducible apply Good.iteSnd
    | with_reducible apply Good.iteThird
    | simp only [Good.mk_iff]

theorem State.ropingRun_good {s0 : State} (x1 : Sys2Proof.Machine.State) (h1 : Good s0 x1) :
    Good s0 (State.ropingRun x1).2 := by
  unfold State.ropingRun
  repeat' first
    | with_reducible assumption
    | (intro x)
    | with_reducible apply State.reachCclk_good
    | with_reducible apply State.sendNear_good
    | with_reducible apply State.finishRun_good
    | with_reducible apply Good.ite
    | with_reducible apply Good.iteSnd
    | with_reducible apply Good.iteThird
    | simp only [Good.mk_iff]
    | split

theorem State.sacnStart_good {s0 : State} (x1 : Sys2Proof.Machine.State) (h1 : Good s0 x1) :
    Good s0 (State.sacnStart x1) := by
  unfold State.sacnStart
  repeat' first
    | with_reducible assumption
    | (intro x)
    | with_reducible apply State.addReg_good
    | with_reducible apply State.incReg_good
    | with_reducible apply State.sacnSend_good
    | with_reducible apply Good.ite
    | with_reducible apply Good.iteSnd
    | with_reducible apply Good.iteThird
    | simp only [Good.mk_iff]

theorem State.leaseEnd_good {s0 : State} (x1 : Sys2Proof.Machine.State) (x2 : Nat) (h1 : Good s0 x1) :
    Good s0 (State.leaseEnd x1 x2) := by
  unfold State.leaseEnd
  repeat' first
    | with_reducible assumption
    | (intro x)
    | with_reducible apply State.forceCb_good
    | with_reducible apply Good.ite
    | with_reducible apply Good.iteSnd
    | with_reducible apply Good.iteThird
    | simp only [Good.mk_iff]
    | split

theorem State.endSession_good {s0 : State} (x1 : Sys2Proof.Machine.State) (x2 : Nat) (x3 : Nat) (h1 : Good s0 x1) :
    Good s0 (State.endSession x1 x2 x3) := by
  unfold State.endSession
  repeat' first
    | with_reducible assumption
    | (intro x)
    | with_reducible apply State.abandonOf_good
    | with_reducible apply State.disarm_good
    | with_reducible apply State.forceAll_good
    | with_reducible apply State.raise_good
    | with_reducible apply Good.ite
    | with_reducible apply Good.iteSnd
    | with_reducible apply Good.iteThird
    | simp only [Good.mk_iff]
    | split

theorem State.ropeFrame_good {s0 : State} (x1 : Sys2Proof.Machine.State) (x2 : Nat) (x3 : Sys2Proof.Bytes) (h1 : Good s0 x1) :
    Good s0 (State.ropeFrame x1 x2 x3) := by
  unfold State.ropeFrame
  repeat' first
    | with_reducible assumption
    | (intro x)
    | with_reducible apply State.incReg_good
    | with_reducible apply State.dupTest_good
    | with_reducible apply State.deliverRope_good
    | with_reducible apply State.bridgeOut_good
    | with_reducible apply State.forward_good
    | with_reducible apply Good.ite

theorem State.sendRefuse_good {s0 : State} (x1 : Sys2Proof.Machine.State) (x2 : Nat) (x3 : Nat) (x4 : Nat) (x5 : Nat) (h1 : Good s0 x1) :
    Good s0 (State.sendRefuse x1 x2 x3 x4 x5) := by
  unfold State.sendRefuse
  repeat' first
    | with_reducible assumption
    | (intro x)
    | with_reducible apply State.sendCtrl_good

theorem State.forceRelease_good {s0 : State} (x1 : Sys2Proof.Machine.State) (x2 : Nat) (h1 : Good s0 x1) :
    Good s0 (State.forceRelease x1 x2).2 := by
  unfold State.forceRelease
  repeat' first
    | with_reducible assumption
    | (intro x)
    | with_reducible apply State.forceCb_good
    | with_reducible apply Good.ite
    | with_reducible apply Good.iteSnd

theorem State.faultInject_good {s0 : State} (x1 : Sys2Proof.Machine.State) (x2 : Nat) (h1 : Good s0 x1) :
    Good s0 (State.faultInject x1 x2) := by
  unfold State.faultInject
  repeat' first
    | with_reducible assumption
    | (intro x)
    | with_reducible apply State.raise_good
    | with_reducible apply State.captureWith_good

theorem State.bidSend_good {s0 : State} (x1 : Sys2Proof.Machine.State) (h1 : Good s0 x1) :
    Good s0 (State.bidSend x1) := by
  unfold State.bidSend
  repeat' first
    | with_reducible assumption
    | (intro x)
    | with_reducible apply State.sendSeg_good
    | with_reducible apply Good.ite

theorem State.sendReport_good {s0 : State} (x1 : Sys2Proof.Machine.State) (x2 : Bool) (x3 : List (Nat × List Nat × Bool)) (h1 : Good s0 x1) :
    Good s0 (State.sendReport x1 x2 x3) := by
  unfold State.sendReport
  repeat' first
    | with_reducible assumption
    | (intro x)
    | with_reducible apply State.sendIgmp_good
    | with_reducible apply State.incReg_good
    | with_reducible apply Good.foldl
    | with_reducible apply Good.foldlSnd
    | with_reducible apply Good.ite

theorem State.sacnPacket_good {s0 : State} (x1 : Sys2Proof.Machine.State) (h1 : Good s0 x1) :
    Good s0 (State.sacnPacket x1) := by
  unfold State.sacnPacket
  repeat' first
    | with_reducible assumption
    | (intro x)
    | with_reducible apply State.reachCclk_good
    | with_reducible apply State.incReg_good
    | with_reducible apply State.sacnSend_good
    | with_reducible apply Good.ite
    | with_reducible apply Good.iteSnd
    | with_reducible apply Good.iteThird
    | simp only [Good.mk_iff]

theorem State.runSystem_good {s0 : State} (x1 : Sys2Proof.Machine.State) (x2 : Sys2Proof.Machine.LCmd) (h1 : Good s0 x1) :
    Good s0 (State.runSystem x1 x2).2.2 := by
  unfold State.runSystem
  repeat' first
    | with_reducible assumption
    | (intro x)
    | with_reducible apply State.reqShowCmd_good
    | with_reducible apply State.reqStagingCmd_good
    | with_reducible apply cmdOk_good
    | with_reducible apply State.triggerDark_good
    | with_reducible apply State.commitCmd_good
    | with_reducible apply State.timedCancel_good
    | with_reducible apply State.loadCmd_good
    | with_reducible apply State.switchCmd_good
    | with_reducible apply State.snapshotCmd_good
    | with_reducible apply State.acceptStep_good
    | with_reducible apply cmdFail_good
    | with_reducible apply State.clearPosition_good
    | with_reducible apply State.armCmd_good
    | with_reducible apply State.endSession_good
    | with_reducible apply cmdRun_good
    | with_reducible apply State.floorRaise_good
    | with_reducible apply Good.ite
    | with_reducible apply Good.iteSnd
    | with_reducible apply Good.iteThird
    | simp only [Good.mk_iff]

theorem State.breakRepeat_good {s0 : State} (x1 : Sys2Proof.Machine.State) (x2 : Nat) (h1 : Good s0 x1) :
    Good s0 (State.breakRepeat x1 x2) := by
  unfold State.breakRepeat
  repeat' first
    | with_reducible assumption
    | (intro x)
    | with_reducible apply State.sendSeg_good
    | with_reducible apply Good.ite

theorem State.ropeCall_good {s0 : State} (x1 : Sys2Proof.Machine.State) (x2 : Nat) (x3 : Nat) (x4 : Nat) (x5 : Nat) (x6 : List Sys2Proof.Machine.CallRec) (h1 : Good s0 x1) :
    Good s0 (State.ropeCall x1 x2 x3 x4 x5 x6).2 := by
  unfold State.ropeCall
  repeat' first
    | with_reducible assumption
    | (intro x)
    | with_reducible apply State.finishRun_good
    | with_reducible apply State.raise_good
    | with_reducible apply State.sendNear_good
    | with_reducible apply Good.ite
    | with_reducible apply Good.iteSnd
    | with_reducible apply Good.iteThird
    | simp only [Good.mk_iff]
    | split

theorem State.callTimeout_good {s0 : State} (x1 : Sys2Proof.Machine.State) (h1 : Good s0 x1) :
    Good s0 (State.callTimeout x1).2 := by
  unfold State.callTimeout
  repeat' first
    | with_reducible assumption
    | (intro x)
    | with_reducible apply State.reachCclk_good
    | with_reducible apply State.secondCall_good
    | with_reducible apply Good.ite
    | with_reducible apply Good.iteSnd
    | with_reducible apply Good.iteThird
    | simp only [Good.mk_iff]
    | split

theorem State.replyJob_good {s0 : State} (x1 : Sys2Proof.Machine.State) (x2 : Sys2Proof.Machine.Job) (h1 : Good s0 x1) :
    Good s0 (State.replyJob x1 x2) := by
  unfold State.replyJob
  repeat' first
    | with_reducible assumption
    | (intro x)
    | with_reducible apply State.sendCtrl_good
    | with_reducible apply Good.foldl
    | with_reducible apply Good.foldlSnd
    | with_reducible apply Good.ite
    | with_reducible apply Good.iteSnd
    | with_reducible apply Good.iteThird
    | simp only [Good.mk_iff]
    | split

theorem State.pxTick_good {s0 : State} (x1 : Sys2Proof.Machine.State) (h1 : Good s0 x1) :
    Good s0 (State.pxTick x1) := by
  unfold State.pxTick
  repeat' first
    | with_reducible assumption
    | (intro x)
    | with_reducible apply State.pxSend_good
    | with_reducible apply Good.foldl
    | with_reducible apply Good.foldlSnd
    | with_reducible apply Good.ite

theorem State.igmpQuery_good {s0 : State} (x1 : Sys2Proof.Machine.State) (x2 : Nat) (h1 : Good s0 x1) :
    Good s0 (State.igmpQuery x1 x2) := by
  unfold State.igmpQuery
  repeat' first
    | with_reducible assumption
    | (intro x)
    | with_reducible apply State.setReg_good
    | with_reducible apply State.sendReport_good
    | with_reducible apply Good.ite
    | with_reducible apply Good.iteSnd
    | with_reducible apply Good.iteThird
    | simp only [Good.mk_iff]

theorem State.cancelEngine_good {s0 : State} (x1 : Sys2Proof.Machine.State) (x2 : Sys2Proof.Machine.Task → Bool) (x3 : Nat) (h1 : Good s0 x1) :
    Good s0 (State.cancelEngine x1 x2 x3) := by
  unfold State.cancelEngine
  repeat' first
    | with_reducible assumption
    | (intro x)
    | with_reducible apply State.setEngine_good
    | with_reducible apply State.abortTask_good
    | with_reducible apply State.bpSettle_good
    | with_reducible apply State.resumeHead_good
    | with_reducible apply Good.foldl
    | with_reducible apply Good.foldlSnd
    | with_reducible apply Good.ite
    | with_reducible apply Good.iteSnd
    | with_reducible apply Good.iteThird
    | simp only [Good.mk_iff]
    | split

theorem State.joinSend_good {s0 : State} (x1 : Sys2Proof.Machine.State) (h1 : Good s0 x1) :
    Good s0 (State.joinSend x1) := by
  unfold State.joinSend
  repeat' first
    | with_reducible assumption
    | (intro x)
    | with_reducible apply State.sendSeg_good
    | with_reducible apply Good.ite

theorem State.responseIn_good {s0 : State} (x1 : Sys2Proof.Machine.State) (x2 : Nat) (x3 : Nat) (x4 : Nat) (x5 : Sys2Proof.Bytes) (x6 : Sys2Proof.Bytes) (h1 : Good s0 x1) :
    Good s0 (State.responseIn x1 x2 x3 x4 x5 x6) := by
  unfold State.responseIn
  repeat' first
    | with_reducible assumption
    | (intro x)
    | with_reducible apply State.sendRefuse_good
    | with_reducible apply State.sendCtrl_good
    | with_reducible apply State.dropHand_good
    | with_reducible apply State.authFail_good
    | with_reducible apply State.openSession_good
    | with_reducible apply Good.ite
    | with_reducible apply Good.iteSnd
    | with_reducible apply Good.iteThird
    | simp only [Good.mk_iff]
    | split

theorem State.check_good {s0 : State} (x1 : Sys2Proof.Machine.State) (x2 : Nat) (x3 : Sys2Proof.Bytes) (x4 : Bool) (h1 : Good s0 x1) :
    Good s0 (State.check x1 x2 x3 x4) := by
  unfold State.check
  repeat' first
    | with_reducible assumption
    | (intro x)
    | with_reducible apply State.badFrame_good
    | with_reducible apply State.ropeBad_good
    | with_reducible apply State.addReg64_good
    | with_reducible apply State.incReg_good
    | with_reducible apply State.pauseRx_good
    | with_reducible apply State.ropeFrame_good
    | with_reducible apply State.trailFrame_good
    | with_reducible apply Good.ite

theorem State.ropeCallEnd_good {s0 : State} (x1 : Sys2Proof.Machine.State) (x2 : Nat) (x3 : Nat) (x4 : Nat) (x5 : List Sys2Proof.Machine.CallRec) (h1 : Good s0 x1) :
    Good s0 (State.ropeCallEnd x1 x2 x3 x4 x5).2 := by
  unfold State.ropeCallEnd
  repeat' first
    | with_reducible assumption
    | (intro x)
    | with_reducible apply State.secondCall_good
    | with_reducible apply State.finishRun_good
    | with_reducible apply State.sendNear_good
    | with_reducible apply Good.ite
    | with_reducible apply Good.iteSnd
    | with_reducible apply Good.iteThird
    | simp only [Good.mk_iff]
    | split

theorem State.syncSend_good {s0 : State} (x1 : Sys2Proof.Machine.State) (x2 : Nat) (h1 : Good s0 x1) :
    Good s0 (State.syncSend x1 x2) := by
  unfold State.syncSend
  repeat' first
    | with_reducible assumption
    | (intro x)
    | with_reducible apply State.reachCclk_good
    | with_reducible apply State.sendMaster_good
    | with_reducible apply Good.ite
    | with_reducible apply Good.iteSnd
    | with_reducible apply Good.iteThird
    | simp only [Good.mk_iff]

theorem State.capture_good {s0 : State} (x1 : Sys2Proof.Machine.State) (x2 : Nat) (x3 : Nat) (x4 : Nat) (h1 : Good s0 x1) :
    Good s0 (State.capture x1 x2 x3 x4) := by
  unfold State.capture
  repeat' first
    | with_reducible assumption
    | (intro x)
    | with_reducible apply State.captureWith_good

theorem State.ruleAct_good {s0 : State} (x1 : Sys2Proof.Machine.State) (x2 : Nat) (x3 : Nat) (x4 : Sys2Proof.Bytes) (x5 : Bool) (h1 : Good s0 x1) :
    Good s0 (State.ruleAct x1 x2 x3 x4 x5) := by
  unfold State.ruleAct
  repeat' first
    | with_reducible assumption
    | (intro x)
    | with_reducible apply State.check_good
    | with_reducible apply State.setPort_good
    | with_reducible apply Good.ite
    | with_reducible apply Good.iteSnd
    | with_reducible apply Good.iteThird
    | simp only [Good.mk_iff]
    | split

theorem State.sigCompare_good {s0 : State} (x1 : Sys2Proof.Machine.State) (x2 : Nat) (h1 : Good s0 x1) :
    Good s0 (State.sigCompare x1 x2) := by
  unfold State.sigCompare
  repeat' first
    | with_reducible assumption
    | (intro x)
    | with_reducible apply State.setReg_good
    | with_reducible apply State.capture_good
    | with_reducible apply State.incReg_good
    | with_reducible apply Good.ite

theorem State.rasterEgress_good {s0 : State} (x1 : Sys2Proof.Machine.State) (h1 : Good s0 x1) :
    Good s0 (State.rasterEgress x1) := by
  unfold State.rasterEgress
  repeat' first
    | with_reducible assumption
    | (intro x)
    | with_reducible apply State.pxTick_good
    | with_reducible apply State.sacnStart_good
    | with_reducible apply State.strandLatch_good
    | with_reducible apply Good.ite
    | with_reducible apply Good.iteSnd
    | with_reducible apply Good.iteThird
    | simp only [Good.mk_iff]

theorem State.lampReport_good {s0 : State} (x1 : Sys2Proof.Machine.State) (x2 : Sys2Proof.Machine.Verdicts) (h1 : Good s0 x1) :
    Good s0 (State.lampReport x1 x2) := by
  unfold State.lampReport
  repeat' first
    | with_reducible assumption
    | (intro x)
    | with_reducible apply State.raise_good
    | with_reducible apply State.captureWith_good
    | with_reducible apply State.setActive_good
    | with_reducible apply Good.foldl
    | with_reducible apply Good.foldlSnd
    | with_reducible apply Good.ite

theorem State.freezeClose_good {s0 : State} (x1 : Sys2Proof.Machine.State) (h1 : Good s0 x1) :
    Good s0 (State.freezeClose x1) := by
  unfold State.freezeClose
  repeat' first
    | with_reducible assumption
    | (intro x)
    | with_reducible apply State.setReg_good
    | with_reducible apply State.setRas_good
    | with_reducible apply State.raise_good
    | with_reducible apply State.capture_good
    | with_reducible apply State.incReg_good
    | with_reducible apply Good.ite

theorem State.flueDone_good {s0 : State} (x1 : Sys2Proof.Machine.State) (x2 : Bool) (h1 : Good s0 x1) :
    Good s0 (State.flueDone x1 x2) := by
  unfold State.flueDone
  repeat' first
    | with_reducible assumption
    | (intro x)
    | with_reducible apply State.reachCclk_good
    | with_reducible apply State.capture_good
    | with_reducible apply State.incReg_good
    | with_reducible apply Good.ite
    | with_reducible apply Good.iteSnd
    | with_reducible apply Good.iteThird
    | simp only [Good.mk_iff]

theorem State.renewCb_good {s0 : State} (x1 : Sys2Proof.Machine.State) (x2 : Sys2Proof.Machine.Origin) (x3 : Nat) (x4 : Nat) (h1 : Good s0 x1) :
    Good s0 (State.renewCb x1 x2 x3 x4).2 := by
  unfold State.renewCb
  repeat' first
    | with_reducible assumption
    | (intro x)
    | with_reducible apply State.leaseEnd_good
    | with_reducible apply State.setCb_good
    | with_reducible apply Good.ite
    | with_reducible apply Good.iteSnd

theorem State.closeRole_good {s0 : State} (x1 : Sys2Proof.Machine.State) (x2 : Sys2Proof.Machine.Role) (x3 : Nat) (h1 : Good s0 x1) :
    Good s0 (State.closeRole x1 x2 x3) := by
  unfold State.closeRole
  repeat' first
    | with_reducible assumption
    | (intro x)
    | with_reducible apply State.endSession_good
    | with_reducible apply Good.foldl

theorem State.unmask_good {s0 : State} (x1 : Sys2Proof.Machine.State) (x2 : Nat) (x3 : Nat) (x4 : Nat) (h1 : Good s0 x1) :
    Good s0 (State.unmask x1 x2 x3 x4) := by
  unfold State.unmask
  repeat' first
    | with_reducible assumption
    | (intro x)
    | with_reducible apply State.captureWith_good
    | with_reducible apply Good.ite
    | with_reducible apply Good.iteSnd
    | with_reducible apply Good.iteThird
    | simp only [Good.mk_iff]

theorem State.igmpRepeat_good {s0 : State} (x1 : Sys2Proof.Machine.State) (h1 : Good s0 x1) :
    Good s0 (State.igmpRepeat x1) := by
  unfold State.igmpRepeat
  repeat' first
    | with_reducible assumption
    | (intro x)
    | with_reducible apply State.reachCclk_good
    | with_reducible apply State.sendReport_good
    | with_reducible apply Good.ite
    | with_reducible apply Good.iteSnd
    | with_reducible apply Good.iteThird
    | simp only [Good.mk_iff]

theorem State.holdLimit_good {s0 : State} (x1 : Sys2Proof.Machine.State) (h1 : Good s0 x1) :
    Good s0 (State.holdLimit x1) := by
  unfold State.holdLimit
  repeat' first
    | with_reducible assumption
    | (intro x)
    | with_reducible apply State.unmask_good
    | with_reducible apply State.raise_good
    | with_reducible apply Good.ite
    | with_reducible apply Good.iteSnd
    | with_reducible apply Good.iteThird
    | simp only [Good.mk_iff]

theorem State.ropeBoundary_good {s0 : State} (x1 : Sys2Proof.Machine.State) (h1 : Good s0 x1) :
    Good s0 (State.ropeBoundary x1) := by
  unfold State.ropeBoundary
  repeat' first
    | with_reducible assumption
    | (intro x)
    | with_reducible apply State.setReg_good
    | with_reducible apply State.unmask_good
    | with_reducible apply Good.ite
    | with_reducible apply Good.iteSnd
    | with_reducible apply Good.iteThird
    | simp only [Good.mk_iff]
    | split

theorem State.sendError_good {s0 : State} (x1 : Sys2Proof.Machine.State) (x2 : Nat) (x3 : Nat) (x4 : Nat) (x5 : Nat) (x6 : Nat) (x7 : Nat) (h1 : Good s0 x1) :
    Good s0 (State.sendError x1 x2 x3 x4 x5 x6 x7) := by
  unfold State.sendError
  repeat' first
    | with_reducible assumption
    | (intro x)
    | with_reducible apply State.sendCtrl_good

theorem State.seqError_good {s0 : State} (x1 : Sys2Proof.Machine.State) (x2 : Sys2Proof.Machine.Session) (x3 : Nat) (h1 : Good s0 x1) :
    Good s0 (State.seqError x1 x2 x3) := by
  unfold State.seqError
  repeat' first
    | with_reducible assumption
    | (intro x)
    | with_reducible apply State.sendError_good
    | with_reducible apply State.incReg_good

theorem State.underAgain_good {s0 : State} (x1 : Sys2Proof.Machine.State) (x2 : Nat) (h1 : Good s0 x1) :
    Good s0 (State.underAgain x1 x2) := by
  unfold State.underAgain
  repeat' first
    | with_reducible assumption
    | (intro x)
    | with_reducible apply State.capture_good
    | with_reducible apply Good.ite
    | with_reducible apply Good.iteSnd
    | with_reducible apply Good.iteThird
    | simp only [Good.mk_iff]

theorem State.joinGroups_good {s0 : State} (x1 : Sys2Proof.Machine.State) (x2 : List (Nat × List Nat)) (h1 : Good s0 x1) :
    Good s0 (State.joinGroups x1 x2) := by
  unfold State.joinGroups
  repeat' first
    | with_reducible assumption
    | (intro x)
    | with_reducible apply State.setReg_good
    | with_reducible apply State.sendReport_good
    | with_reducible apply Good.ite
    | with_reducible apply Good.iteSnd
    | with_reducible apply Good.iteThird
    | simp only [Good.mk_iff]

theorem State.latchLayers_good {s0 : State} (x1 : Sys2Proof.Machine.State) (h1 : Good s0 x1) :
    Good s0 (State.latchLayers x1) := by
  unfold State.latchLayers
  repeat' first
    | with_reducible assumption
    | (intro x)
    | with_reducible apply State.noteChange_good
    | with_reducible apply State.latchSet_good
    | with_reducible apply State.setLayer_good
    | with_reducible apply State.dropScalers_good
    | with_reducible apply Good.foldl
    | with_reducible apply Good.foldlSnd
    | with_reducible apply Good.ite
    | with_reducible apply Good.iteSnd
    | with_reducible apply Good.iteThird
    | simp only [Good.mk_iff]
    | split

theorem State.fireboxRef_good {s0 : State} (x1 : Sys2Proof.Machine.State) (x2 : Int) (h1 : Good s0 x1) :
    Good s0 (State.fireboxRef x1 x2) := by
  unfold State.fireboxRef
  repeat' first
    | with_reducible assumption
    | (intro x)
    | with_reducible apply State.capture_good
    | with_reducible apply State.setActive_good
    | with_reducible apply State.clearActive_good
    | with_reducible apply Good.ite

theorem State.egressStep_good {s0 : State} (x1 : Sys2Proof.Machine.State) (h1 : Good s0 x1) :
    Good s0 (State.egressStep x1) := by
  unfold State.egressStep
  repeat' first
    | with_reducible assumption
    | (intro x)
    | with_reducible apply State.sacnStart_good
    | with_reducible apply State.pxTick_good
    | with_reducible apply State.dmxTick_good
    | with_reducible apply Good.ite

theorem State.installLayer_good {s0 : State} (x1 : Sys2Proof.Machine.State) (x2 : Sys2Proof.Bytes) (x3 : Nat) (h1 : Good s0 x1) :
    Good s0 (State.installLayer x1 x2 x3) := by
  unfold State.installLayer
  repeat' first
    | with_reducible assumption
    | (intro x)
    | with_reducible apply State.latchSet_good
    | with_reducible apply State.setLayer_good

theorem State.helloIn_good {s0 : State} (x1 : Sys2Proof.Machine.State) (x2 : Nat) (x3 : Nat) (x4 : Nat) (h1 : Good s0 x1) :
    Good s0 (State.helloIn x1 x2 x3 x4) := by
  unfold State.helloIn
  repeat' first
    | with_reducible assumption
    | (intro x)
    | with_reducible apply State.incReg_good
    | with_reducible apply State.sendRefuse_good
    | with_reducible apply State.drawRandom_good
    | with_reducible apply State.sendCtrl_good
    | with_reducible apply Good.ite
    | with_reducible apply Good.iteSnd
    | with_reducible apply Good.iteThird
    | simp only [Good.mk_iff]

theorem State.faultTask_good {s0 : State} (x1 : Sys2Proof.Machine.State) (x2 : Nat) (x3 : Nat) (x4 : Sys2Proof.Machine.Task) (h1 : Good s0 x1) :
    Good s0 (State.faultTask x1 x2 x3 x4) := by
  unfold State.faultTask
  repeat' first
    | with_reducible assumption
    | (intro x)
    | with_reducible apply State.trace_good
    | with_reducible apply State.taskFaultEvent_good
    | with_reducible apply State.unstall_good
    | with_reducible apply State.capture_good
    | with_reducible apply State.incReg_good
    | with_reducible apply State.forceCb_good
    | with_reducible apply Good.ite

theorem State.acquire_good {s0 : State} (x1 : Sys2Proof.Machine.State) (x2 : Sys2Proof.Machine.Origin) (x3 : Nat) (x4 : Nat) (h1 : Good s0 x1) :
    Good s0 (State.acquire x1 x2 x3 x4).2 := by
  unfold State.acquire
  repeat' first
    | with_reducible assumption
    | (intro x)
    | with_reducible apply State.leaseEnd_good
    | with_reducible apply State.acqResult_good
    | with_reducible apply State.raise_good
    | with_reducible apply State.incReg_good
    | with_reducible apply State.setCb_good
    | with_reducible apply Good.ite
    | with_reducible apply Good.iteSnd

theorem State.closeAll_good {s0 : State} (x1 : Sys2Proof.Machine.State) (x2 : Nat) (h1 : Good s0 x1) :
    Good s0 (State.closeAll x1 x2) := by
  unfold State.closeAll
  repeat' first
    | with_reducible assumption
    | (intro x)
    | with_reducible apply State.endSession_good
    | with_reducible apply Good.foldl

theorem State.reorderExpire_good {s0 : State} (x1 : Sys2Proof.Machine.State) (x2 : Nat) (h1 : Good s0 x1) :
    Good s0 (State.reorderExpire x1 x2) := by
  unfold State.reorderExpire
  repeat' first
    | with_reducible assumption
    | (intro x)
    | with_reducible apply State.reachCclk_good
    | with_reducible apply State.check_good
    | with_reducible apply State.setPort_good
    | with_reducible apply Good.ite
    | with_reducible apply Good.iteSnd
    | with_reducible apply Good.iteThird
    | simp only [Good.mk_iff]
    | split

theorem State.cancelWhere_good {s0 : State} (x1 : Sys2Proof.Machine.State) (x2 : Sys2Proof.Machine.Task → Bool) (h1 : Good s0 x1) :
    Good s0 (State.cancelWhere x1 x2) := by
  unfold State.cancelWhere
  repeat' first
    | with_reducible assumption
    | (intro x)
    | with_reducible apply State.cancelIdle_good
    | with_reducible apply State.cancelPrefetched_good
    | with_reducible apply State.cancelEngine_good
    | with_reducible apply Good.foldl
    | with_reducible apply Good.foldlSnd
    | with_reducible apply Good.ite
    | with_reducible apply Good.iteSnd
    | with_reducible apply Good.iteThird
    | simp only [Good.mk_iff]

theorem State.scrubStalled_good {s0 : State} (x1 : Sys2Proof.Machine.State) (x2 : Bool) (h1 : Good s0 x1) :
    Good s0 (State.scrubStalled x1 x2) := by
  unfold State.scrubStalled
  repeat' first
    | with_reducible assumption
    | (intro x)
    | with_reducible apply State.reachCclk_good
    | with_reducible apply State.capture_good
    | with_reducible apply State.setActive_good
    | with_reducible apply Good.ite

theorem State.seeBreak_good {s0 : State} (x1 : Sys2Proof.Machine.State) (x2 : Sys2Proof.Machine.BreakRec) (h1 : Good s0 x1) :
    Good s0 (State.seeBreak x1 x2) := by
  unfold State.seeBreak
  repeat' first
    | with_reducible assumption
    | (intro x)
    | with_reducible apply State.raise_good
    | with_reducible apply State.setActive_good
    | with_reducible apply State.capture_good
    | with_reducible apply State.dropRun_good
    | with_reducible apply Good.ite
    | with_reducible apply Good.iteSnd
    | with_reducible apply Good.iteThird
    | simp only [Good.mk_iff]

theorem State.releaseCb_good {s0 : State} (x1 : Sys2Proof.Machine.State) (x2 : Sys2Proof.Machine.Origin) (x3 : Nat) (h1 : Good s0 x1) :
    Good s0 (State.releaseCb x1 x2 x3).2 := by
  unfold State.releaseCb
  repeat' first
    | with_reducible assumption
    | (intro x)
    | with_reducible apply State.leaseEnd_good
    | with_reducible apply State.freeCb_good
    | with_reducible apply Good.ite
    | with_reducible apply Good.iteSnd

theorem State.linkWalk_good {s0 : State} (x1 : Sys2Proof.Machine.State) (x2 : Bool) (x3 : Nat) (x4 : Nat) (h1 : Good s0 x1) :
    Good s0 (State.linkWalk x1 x2 x3 x4) := by
  unfold State.linkWalk
  repeat' first
    | with_reducible assumption
    | (intro x)
    | with_reducible apply State.incReg_good
    | with_reducible apply State.capture_good
    | with_reducible apply Good.ite

theorem workTest_good {s0 : State} (x1 : Nat) (x2 : Bool) (x3 : Sys2Proof.Machine.Task) (x4 : Sys2Proof.Machine.State) (h4 : Good s0 x4) :
    Good s0 (workTest x1 x2 x3 x4).2 := by
  unfold workTest
  repeat' first
    | with_reducible assumption
    | (intro x)
    | with_reducible apply State.setEngine_good
    | with_reducible apply State.capture_good
    | with_reducible apply State.setActive_good
    | with_reducible apply Good.ite
    | with_reducible apply Good.iteSnd

theorem State.taskCancel_good {s0 : State} (x1 : Sys2Proof.Machine.State) (x2 : Nat) (h1 : Good s0 x1) :
    Good s0 (State.taskCancel x1 x2).2 := by
  unfold State.taskCancel
  repeat' first
    | with_reducible assumption
    | (intro x)
    | with_reducible apply State.cancelWhere_good
    | with_reducible apply Good.ite
    | with_reducible apply Good.iteSnd

theorem State.draughtOv_good {s0 : State} (x1 : Sys2Proof.Machine.State) (x2 : Nat) (h1 : Good s0 x1) :
    Good s0 (State.draughtOv x1 x2) := by
  unfold State.draughtOv
  repeat' first
    | with_reducible assumption
    | (intro x)
    | with_reducible apply State.capture_good
    | with_reducible apply State.setActive_good
    | with_reducible apply State.calAbort_good
    | with_reducible apply State.railOff_good
    | with_reducible apply State.sinksOff_good
    | with_reducible apply Good.ite

theorem State.coreWatchdog_good {s0 : State} (x1 : Sys2Proof.Machine.State) (x2 : Nat) (h1 : Good s0 x1) :
    Good s0 (State.coreWatchdog x1 x2) := by
  unfold State.coreWatchdog
  repeat' first
    | with_reducible assumption
    | (intro x)
    | with_reducible apply State.capture_good
    | with_reducible apply Good.ite

theorem State.testRelease_good {s0 : State} (x1 : Sys2Proof.Machine.State) (x2 : Nat) (h1 : Good s0 x1) :
    Good s0 (State.testRelease x1 x2) := by
  unfold State.testRelease
  repeat' first
    | with_reducible assumption
    | (intro x)
    | with_reducible apply State.capture_good
    | with_reducible apply State.setActive_good
    | with_reducible apply State.setEngine_good
    | with_reducible apply State.release_good
    | with_reducible apply Good.ite

theorem State.dissEnd_good {s0 : State} (x1 : Sys2Proof.Machine.State) (h1 : Good s0 x1) :
    Good s0 (State.dissEnd x1) := by
  unfold State.dissEnd
  repeat' first
    | with_reducible assumption
    | (intro x)
    | with_reducible apply State.setReg_good
    | with_reducible apply State.capture_good
    | with_reducible apply State.setActive_good
    | with_reducible apply State.clearActive_good
    | with_reducible apply Good.ite
    | with_reducible apply Good.iteSnd
    | with_reducible apply Good.iteThird
    | simp only [Good.mk_iff]

theorem State.afterRoping_good {s0 : State} (x1 : Bool × Sys2Proof.Machine.State) (h1 : Good s0 x1.2) :
    Good s0 (State.afterRoping x1) := by
  unfold State.afterRoping
  repeat' first
    | with_reducible assumption
    | (intro x)
    | with_reducible apply State.closeAll_good
    | with_reducible apply Good.ite

theorem State.closeIn_good {s0 : State} (x1 : Sys2Proof.Machine.State) (x2 : Nat) (x3 : Nat) (x4 : Nat) (x5 : Nat) (h1 : Good s0 x1) :
    Good s0 (State.closeIn x1 x2 x3 x4 x5) := by
  unfold State.closeIn
  repeat' first
    | with_reducible assumption
    | (intro x)
    | with_reducible apply State.sendError_good
    | with_reducible apply State.endSession_good
    | with_reducible apply State.sendCtrl_good
    | with_reducible apply State.seqError_good
    | with_reducible apply Good.ite
    | with_reducible apply Good.iteSnd
    | with_reducible apply Good.iteThird
    | simp only [Good.mk_iff]
    | split

theorem State.breakNotice_good {s0 : State} (x1 : Sys2Proof.Machine.State) (x2 : Sys2Proof.Machine.BreakRec) (h1 : Good s0 x1) :
    Good s0 (State.breakNotice x1 x2) := by
  unfold State.breakNotice
  repeat' first
    | with_reducible assumption
    | (intro x)
    | with_reducible apply State.ringUpdate_good
    | with_reducible apply State.seeBreak_good
    | with_reducible apply Good.ite

theorem State.draughtUv_good {s0 : State} (x1 : Sys2Proof.Machine.State) (x2 : Nat) (h1 : Good s0 x1) :
    Good s0 (State.draughtUv x1 x2) := by
  unfold State.draughtUv
  repeat' first
    | with_reducible assumption
    | (intro x)
    | with_reducible apply State.capture_good
    | with_reducible apply Good.ite

theorem State.frameStart_good {s0 : State} (x1 : Sys2Proof.Machine.State) (x2 : Bool) (x3 : Nat) (h1 : Good s0 x1) :
    Good s0 (State.frameStart x1 x2 x3) := by
  unfold State.frameStart
  repeat' first
    | with_reducible assumption
    | (intro x)
    | with_reducible apply State.reach_good
    | with_reducible apply State.openEmission_good
    | with_reducible apply State.capture_good
    | with_reducible apply State.setActive_good
    | with_reducible apply State.clearActive_good
    | with_reducible apply Good.ite

theorem State.underReport_good {s0 : State} (x1 : Sys2Proof.Machine.State) (h1 : Good s0 x1) :
    Good s0 (State.underReport x1) := by
  unfold State.underReport
  repeat' first
    | with_reducible assumption
    | (intro x)
    | with_reducible apply State.setReg_good
    | with_reducible apply State.raise_good
    | with_reducible apply State.incReg_good
    | with_reducible apply State.setLayer_good
    | with_reducible apply State.capture_good
    | with_reducible apply State.underAgain_good
    | with_reducible apply Good.foldl
    | with_reducible apply Good.foldlSnd
    | with_reducible apply Good.ite

theorem State.prefetch_good {s0 : State} (x1 : Sys2Proof.Machine.State) (x2 : Nat) (h1 : Good s0 x1) :
    Good s0 (State.prefetch x1 x2) := by
  unfold State.prefetch
  repeat' first
    | with_reducible assumption
    | (intro x)
    | with_reducible apply State.setReady_good
    | with_reducible apply State.faultTask_good
    | with_reducible apply State.breakWait_good
    | with_reducible apply State.trace_good
    | with_reducible apply State.setEngine_good
    | with_reducible apply Good.ite
    | with_reducible apply Good.iteSnd
    | with_reducible apply Good.iteThird
    | simp only [Good.mk_iff]
    | split

theorem State.installLayers_good {s0 : State} (x1 : Sys2Proof.Machine.State) (x2 : Sys2Proof.Machine.Topo) (h1 : Good s0 x1) :
    Good s0 (State.installLayers x1 x2) := by
  unfold State.installLayers
  repeat' first
    | with_reducible assumption
    | (intro x)
    | with_reducible apply State.takeSets_good
    | with_reducible apply State.dropScalers_good
    | with_reducible apply State.installLayer_good
    | with_reducible apply Good.foldl
    | with_reducible apply Good.foldlSnd
    | with_reducible apply Good.ite
    | with_reducible apply Good.iteSnd
    | with_reducible apply Good.iteThird
    | simp only [Good.mk_iff]
    | split

theorem State.supplyOut_good {s0 : State} (x1 : Sys2Proof.Machine.State) (x2 : Nat) (x3 : Nat) (h1 : Good s0 x1) :
    Good s0 (State.supplyOut x1 x2 x3) := by
  unfold State.supplyOut
  repeat' first
    | with_reducible assumption
    | (intro x)
    | with_reducible apply State.capture_good
    | with_reducible apply State.setActive_good
    | with_reducible apply Good.ite
    | with_reducible apply Good.iteSnd
    | with_reducible apply Good.iteThird
    | simp only [Good.mk_iff]

theorem State.frameEnd_good {s0 : State} (x1 : Sys2Proof.Machine.State) (h1 : Good s0 x1) :
    Good s0 (State.frameEnd x1) := by
  unfold State.frameEnd
  repeat' first
    | with_reducible assumption
    | (intro x)
    | with_reducible apply State.reach_good
    | with_reducible apply State.dissEnd_good
    | with_reducible apply State.setReg_good
    | with_reducible apply State.lampEnd_good
    | with_reducible apply State.lampReport_good
    | with_reducible apply Good.foldl
    | with_reducible apply Good.foldlSnd
    | with_reducible apply Good.ite
    | with_reducible apply Good.iteSnd
    | with_reducible apply Good.iteThird
    | simp only [Good.mk_iff]

theorem State.overTemp_good {s0 : State} (x1 : Sys2Proof.Machine.State) (x2 : Nat) (x3 : Int) (h1 : Good s0 x1) :
    Good s0 (State.overTemp x1 x2 x3) := by
  unfold State.overTemp
  repeat' first
    | with_reducible assumption
    | (intro x)
    | with_reducible apply State.dieRead_good
    | with_reducible apply State.capture_good
    | with_reducible apply State.setActive_good
    | with_reducible apply Good.ite
    | with_reducible apply Good.iteSnd
    | with_reducible apply Good.iteThird
    | simp only [Good.mk_iff]

theorem State.frameOver_good {s0 : State} (x1 : Sys2Proof.Machine.State) (h1 : Good s0 x1) :
    Good s0 (State.frameOver x1) := by
  unfold State.frameOver
  repeat' first
    | with_reducible assumption
    | (intro x)
    | with_reducible apply State.frameEnd_good
    | with_reducible apply Good.ite

theorem State.degrade_good {s0 : State} (x1 : Sys2Proof.Machine.State) (x2 : Nat) (h1 : Good s0 x1) :
    Good s0 (State.degrade x1 x2) := by
  unfold State.degrade
  repeat' first
    | with_reducible assumption
    | (intro x)
    | with_reducible apply State.freezeTrim_good
    | with_reducible apply State.raise_good
    | with_reducible apply State.wantHoldover_good
    | with_reducible apply State.capture_good
    | with_reducible apply State.setActive_good
    | with_reducible apply State.setServo_good
    | with_reducible apply Good.ite
    | with_reducible apply Good.iteSnd
    | with_reducible apply Good.iteThird
    | simp only [Good.mk_iff]

theorem State.runTask_good {s0 : State} (x1 : Sys2Proof.Machine.State) (x2 : Nat) (x3 : Nat) (x4 : Sys2Proof.Machine.Task → Sys2Proof.Machine.State → Sys2Proof.Machine.After × Sys2Proof.Machine.State) (h1 : Good s0 x1) (h4 : ∀ y1 y2, Good s0 y2 → Good s0 (x4 y1 y2).2) :
    Good s0 (State.runTask x1 x2 x3 x4) := by
  unfold State.runTask
  repeat' first
    | with_reducible assumption
    | (intro x)
    | with_reducible apply State.unstall_good
    | with_reducible apply State.setEngine_good
    | with_reducible apply State.resumeHead_good
    | with_reducible apply State.abortTask_good
    | with_reducible apply State.preempt_good
    | with_reducible apply State.endRun_good
    | with_reducible apply State.faultTask_good
    | with_reducible apply h4
    | with_reducible apply Good.ite
    | with_reducible apply Good.iteSnd
    | with_reducible apply Good.iteThird
    | simp only [Good.mk_iff]
    | split

theorem State.descCancel_good {s0 : State} (x1 : Sys2Proof.Machine.State) (x2 : Nat) (h1 : Good s0 x1) :
    Good s0 (State.descCancel x1 x2).2 := by
  unfold State.descCancel
  repeat' first
    | with_reducible assumption
    | (intro x)
    | with_reducible apply State.cancelWhere_good
    | with_reducible apply Good.ite
    | with_reducible apply Good.iteSnd

theorem State.testRound_good {s0 : State} (x1 : Sys2Proof.Machine.State) (h1 : Good s0 x1) :
    Good s0 (State.testRound x1) := by
  unfold State.testRound
  repeat' first
    | with_reducible assumption
    | (intro x)
    | with_reducible apply State.reachCclk_good
    | with_reducible apply State.testRelease_good
    | with_reducible apply Good.foldl
    | with_reducible apply Good.foldlSnd
    | with_reducible apply Good.ite
    | with_reducible apply Good.iteSnd
    | with_reducible apply Good.iteThird
    | simp only [Good.mk_iff]

theorem State.ntcInvalid_good {s0 : State} (x1 : Sys2Proof.Machine.State) (x2 : Nat) (h1 : Good s0 x1) :
    Good s0 (State.ntcInvalid x1 x2) := by
  unfold State.ntcInvalid
  repeat' first
    | with_reducible assumption
    | (intro x)
    | with_reducible apply State.setReg_good
    | with_reducible apply State.capture_good
    | with_reducible apply State.setActive_good
    | with_reducible apply Good.ite
    | with_reducible apply Good.iteSnd
    | with_reducible apply Good.iteThird
    | simp only [Good.mk_iff]

theorem State.eccBad_good {s0 : State} (x1 : Sys2Proof.Machine.State) (x2 : Bool) (x3 : Nat) (h1 : Good s0 x1) :
    Good s0 (State.eccBad x1 x2 x3) := by
  unfold State.eccBad
  repeat' first
    | with_reducible assumption
    | (intro x)
    | with_reducible apply State.capture_good
    | with_reducible apply State.raise_good
    | with_reducible apply State.incReg_good

theorem State.openFrame_good {s0 : State} (x1 : Sys2Proof.Machine.State) (h1 : Good s0 x1) :
    Good s0 (State.openFrame x1).2 := by
  unfold State.openFrame
  repeat' first
    | with_reducible assumption
    | (intro x)
    | with_reducible apply State.setReg_good
    | with_reducible apply State.incReg_good
    | with_reducible apply State.capture_good
    | with_reducible apply State.noteChange_good
    | with_reducible apply State.raise_good
    | with_reducible apply State.flip_good
    | with_reducible apply Good.ite
    | with_reducible apply Good.iteSnd
    | with_reducible apply Good.iteThird
    | simp only [Good.mk_iff]

theorem State.runCore_good {s0 : State} (x1 : Sys2Proof.Machine.State) (x2 : Sys2Proof.Machine.LCmd) (h1 : Good s0 x1) :
    Good s0 (State.runCore x1 x2).2.2 := by
  unfold State.runCore
  repeat' first
    | with_reducible assumption
    | (intro x)
    | with_reducible apply cmdOf_good
    | with_reducible apply State.taskCancel_good
    | with_reducible apply State.descCancel_good
    | with_reducible apply State.prioSet_good
    | with_reducible apply State.acquire_good
    | with_reducible apply State.releaseCb_good
    | with_reducible apply State.renewCb_good
    | with_reducible apply State.forceRelease_good
    | with_reducible apply State.spillPush_good
    | with_reducible apply cmdOk_good
    | with_reducible apply cmdFail_good
    | with_reducible apply State.firstClear_good
    | with_reducible apply State.faultAck_good
    | with_reducible apply State.darkRelease_good
    | with_reducible apply State.faultInject_good
    | with_reducible apply Good.ite
    | with_reducible apply Good.iteSnd
    | with_reducible apply Good.iteThird

theorem State.rxFrame_good {s0 : State} (x1 : Sys2Proof.Machine.State) (x2 : Nat) (x3 : Sys2Proof.Bytes) (x4 : Bool) (h1 : Good s0 x1) :
    Good s0 (State.rxFrame x1 x2 x3 x4) := by
  unfold State.rxFrame
  repeat' first
    | with_reducible assumption
    | (intro x)
    | with_reducible apply State.ruleFor_good
    | with_reducible apply State.setPort_good
    | with_reducible apply State.check_good
    | with_reducible apply State.ruleAct_good
    | with_reducible apply Good.foldl
    | with_reducible apply Good.foldlSnd
    | with_reducible apply Good.ite
    | with_reducible apply Good.iteSnd
    | with_reducible apply Good.iteThird
    | simp only [Good.mk_iff]
    | split

theorem State.engineOut_good {s0 : State} (x1 : Sys2Proof.Machine.State) (x2 : Nat) (h1 : Good s0 x1) :
    Good s0 (State.engineOut x1 x2) := by
  unfold State.engineOut
  repeat' first
    | with_reducible assumption
    | (intro x)
    | with_reducible apply State.bpSettle_good
    | with_reducible apply State.setEngine_good
    | with_reducible apply State.faultTask_good
    | with_reducible apply State.returnTask_good
    | with_reducible apply Good.foldl
    | with_reducible apply Good.foldlSnd
    | with_reducible apply Good.ite
    | with_reducible apply Good.iteSnd
    | with_reducible apply Good.iteThird
    | simp only [Good.mk_iff]
    | split

theorem State.onSyncTimeout_good {s0 : State} (x1 : Sys2Proof.Machine.State) (h1 : Good s0 x1) :
    Good s0 (State.onSyncTimeout x1) := by
  unfold State.onSyncTimeout
  repeat' first
    | with_reducible assumption
    | (intro x)
    | with_reducible apply State.degrade_good
    | with_reducible apply State.reachCclk_good
    | with_reducible apply Good.ite
    | with_reducible apply Good.iteSnd
    | with_reducible apply Good.iteThird
    | simp only [Good.mk_iff]
    | split

theorem State.switchStart_good {s0 : State} (x1 : Sys2Proof.Machine.State) (h1 : Good s0 x1) :
    Good s0 (State.switchStart x1) := by
  unfold State.switchStart
  repeat' first
    | with_reducible assumption
    | (intro x)
    | with_reducible apply State.cancelWhere_good
    | with_reducible apply State.emberEmpty_good
    | with_reducible apply State.setReg_good
    | with_reducible apply State.setRas_good
    | with_reducible apply Good.ite
    | with_reducible apply Good.iteSnd
    | with_reducible apply Good.iteThird
    | simp only [Good.mk_iff]
    | split

theorem State.sob_good {s0 : State} (x1 : Sys2Proof.Machine.State) (x2 : Bool) (h1 : Good s0 x1) :
    Good s0 (State.sob x1 x2) := by
  unfold State.sob
  repeat' first
    | with_reducible assumption
    | (intro x)
    | with_reducible apply State.setRas_good
    | with_reducible apply State.flattenNote_good
    | with_reducible apply State.latchBlank_good
    | with_reducible apply State.latchTiming_good
    | with_reducible apply State.latchLayers_good
    | with_reducible apply State.freezeClose_good
    | with_reducible apply State.raise_good
    | with_reducible apply State.setReg_good
    | with_reducible apply State.absentCheck_good
    | with_reducible apply State.rasterReport_good
    | with_reducible apply State.underReport_good
    | with_reducible apply State.gatherKey_good
    | with_reducible apply State.capture_good
    | with_reducible apply Good.foldl
    | with_reducible apply Good.foldlSnd
    | with_reducible apply Good.ite

theorem State.applyKey_good {s0 : State} (x1 : Sys2Proof.Machine.State) (x2 : Nat) (x3 : Nat) (h1 : Good s0 x1) :
    Good s0 (State.applyKey x1 x2 x3) := by
  unfold State.applyKey
  repeat' first
    | with_reducible assumption
    | (intro x)
    | with_reducible apply State.closeRole_good
    | with_reducible apply Good.ite
    | with_reducible apply Good.iteSnd
    | with_reducible apply Good.iteThird
    | simp only [Good.mk_iff]

theorem State.applyOne_good {s0 : State} (x1 : Sys2Proof.Machine.State) (x2 : Nat) (x3 : Nat) (h1 : Good s0 x1) :
    Good s0 (State.applyOne x1 x2 x3) := by
  unfold State.applyOne
  repeat' first
    | with_reducible assumption
    | (intro x)
    | with_reducible apply State.cairnField_good
    | with_reducible apply State.applyKey_good
    | with_reducible apply State.loopAppend_good
    | with_reducible apply State.setReg_good
    | with_reducible apply State.pendLayer_good
    | with_reducible apply State.setRas_good
    | with_reducible apply Good.ite
    | with_reducible apply Good.iteSnd
    | with_reducible apply Good.iteThird
    | simp only [Good.mk_iff]
    | split

theorem State.restart_good {s0 : State} (x1 : Sys2Proof.Machine.State) (x2 : Bool) (h1 : Good s0 x1) :
    Good s0 (State.restart x1 x2) := by
  unfold State.restart
  repeat' first
    | with_reducible assumption
    | (intro x)
    | with_reducible apply State.openFrame_good
    | with_reducible apply State.raise_good
    | with_reducible apply State.incReg_good
    | with_reducible apply State.beginRaster_good
    | with_reducible apply State.endNotes_good
    | with_reducible apply State.takeStep_good
    | with_reducible apply State.composeStart_good
    | with_reducible apply Good.ite

theorem State.hearthScrub_good {s0 : State} (x1 : Sys2Proof.Machine.State) (x2 : Nat) (x3 : Nat) (h1 : Good s0 x1) :
    Good s0 (State.hearthScrub x1 x2 x3) := by
  unfold State.hearthScrub
  repeat' first
    | with_reducible assumption
    | (intro x)
    | with_reducible apply State.bmGrant_good
    | with_reducible apply State.eccBad_good
    | with_reducible apply State.raise_good
    | with_reducible apply State.incReg_good
    | with_reducible apply State.clearActive_good
    | with_reducible apply State.scrubPass_good
    | with_reducible apply Good.ite

theorem State.breakLink_good {s0 : State} (x1 : Sys2Proof.Machine.State) (x2 : Nat) (x3 : Nat) (x4 : Nat) (h1 : Good s0 x1) :
    Good s0 (State.breakLink x1 x2 x3 x4) := by
  unfold State.breakLink
  repeat' first
    | with_reducible assumption
    | (intro x)
    | with_reducible apply State.seeBreak_good
    | with_reducible apply State.setLink_good
    | with_reducible apply State.setLinkState_good
    | with_reducible apply State.incReg_good
    | with_reducible apply State.ringUpdate_good
    | with_reducible apply State.sendSeg_good

theorem State.linkPortDown_good {s0 : State} (x1 : Sys2Proof.Machine.State) (x2 : Nat) (h1 : Good s0 x1) :
    Good s0 (State.linkPortDown x1 x2) := by
  unfold State.linkPortDown
  repeat' first
    | with_reducible assumption
    | (intro x)
    | with_reducible apply State.breakLink_good
    | with_reducible apply State.ringUpdate_good
    | with_reducible apply State.setLinkState_good
    | with_reducible apply Good.ite

theorem workReadback_good {s0 : State} (x1 : Nat) (x2 : Nat) (x3 : Sys2Proof.Machine.Task) (x4 : Sys2Proof.Machine.State) (h4 : Good s0 x4) :
    Good s0 (workReadback x1 x2 x3 x4).2 := by
  unfold workReadback
  repeat' first
    | with_reducible assumption
    | (intro x)
    | with_reducible apply State.eccBad_good
    | with_reducible apply State.incReg_good
    | with_reducible apply State.sigCompare_good
    | with_reducible apply Good.ite
    | with_reducible apply Good.iteSnd
    | with_reducible apply Good.iteThird
    | simp only [Good.mk_iff]

theorem State.firstRaster_good {s0 : State} (x1 : Sys2Proof.Machine.State) (h1 : Good s0 x1) :
    Good s0 (State.firstRaster x1).2 := by
  unfold State.firstRaster
  repeat' first
    | with_reducible assumption
    | (intro x)
    | with_reducible apply State.beginRaster_good
    | with_reducible apply State.openFrame_good
    | with_reducible apply Good.ite
    | with_reducible apply Good.iteSnd

theorem State.recover_good {s0 : State} (x1 : Sys2Proof.Machine.State) (x2 : Sys2Proof.Machine.FaultRec) (h1 : Good s0 x1) :
    Good s0 (State.recover x1 x2) := by
  unfold State.recover
  repeat' first
    | with_reducible assumption
    | (intro x)
    | with_reducible apply State.poisonAt_good
    | with_reducible apply State.engineOut_good
    | with_reducible apply State.forceAll_good
    | with_reducible apply State.emptyQueue_good
    | with_reducible apply Good.ite
    | with_reducible apply Good.iteSnd
    | with_reducible apply Good.iteThird
    | simp only [Good.mk_iff]
    | split

theorem workScrub_good {s0 : State} (x1 : Nat) (x2 : Sys2Proof.Machine.Task) (x3 : Sys2Proof.Machine.State) (h3 : Good s0 x3) :
    Good s0 (workScrub x1 x2 x3).2 := by
  unfold workScrub
  repeat' first
    | with_reducible assumption
    | (intro x)
    | with_reducible apply State.eccBad_good
    | with_reducible apply State.raise_good
    | with_reducible apply State.incReg_good
    | with_reducible apply State.clearActive_good
    | with_reducible apply State.scrubPass_good
    | with_reducible apply Good.ite
    | with_reducible apply Good.iteSnd

theorem State.packetStep_good {s0 : State} (x1 : Sys2Proof.Machine.State) (x2 : Nat) (x3 : Nat) (x4 : Nat) (x5 : Sys2Proof.Bytes → Sys2Proof.Machine.State → Sys2Proof.Machine.State) (h1 : Good s0 x1) (h5 : ∀ y1 y2, Good s0 y2 → Good s0 (x5 y1 y2)) :
    Good s0 (State.packetStep x1 x2 x3 x4 x5) := by
  unfold State.packetStep
  repeat' first
    | with_reducible assumption
    | (intro x)
    | with_reducible apply State.runTask_good
    | with_reducible apply packetWork_good
    | with_reducible apply State.pop_good
    | (refine State.pop_good _ _ ?_ _ (by with_reducible assumption))
    | with_reducible apply h5
    | with_reducible apply Good.ite
    | with_reducible apply Good.iteSnd
    | with_reducible apply Good.iteThird
    | simp only [Good.mk_iff]
    | split

theorem State.discardExchange_good {s0 : State} (x1 : Sys2Proof.Machine.State) (h1 : Good s0 x1) :
    Good s0 (State.discardExchange x1) := by
  unfold State.discardExchange
  repeat' first
    | with_reducible assumption
    | (intro x)
    | with_reducible apply State.incReg_good
    | with_reducible apply State.degrade_good
    | with_reducible apply Good.ite
    | with_reducible apply Good.iteSnd
    | with_reducible apply Good.iteThird
    | simp only [Good.mk_iff]

theorem State.ntcSample_good {s0 : State} (x1 : Sys2Proof.Machine.State) (x2 : Nat) (x3 : Nat) (h1 : Good s0 x1) :
    Good s0 (State.ntcSample x1 x2 x3) := by
  unfold State.ntcSample
  repeat' first
    | with_reducible assumption
    | (intro x)
    | with_reducible apply State.ntcInvalid_good
    | with_reducible apply State.ntcValid_good
    | with_reducible apply State.drawInt_good
    | with_reducible apply State.tempWarn_good
    | with_reducible apply State.colourTheta_good
    | with_reducible apply Good.foldl
    | with_reducible apply Good.foldlSnd
    | with_reducible apply Good.ite
    | with_reducible apply Good.iteSnd
    | with_reducible apply Good.iteThird
    | simp only [Good.mk_iff]
    | split

theorem State.taskRead_good {s0 : State} (x1 : Sys2Proof.Machine.State) (x2 : Bool × Nat) (x3 : Nat) (x4 : Nat) (h1 : Good s0 x1) :
    Good s0 (State.taskRead x1 x2 x3 x4).2 := by
  unfold State.taskRead
  repeat' first
    | with_reducible assumption
    | (intro x)
    | with_reducible apply State.eccBad_good
    | with_reducible apply State.incReg_good
    | with_reducible apply Good.ite
    | with_reducible apply Good.iteSnd

theorem State.onSync_good {s0 : State} (x1 : Sys2Proof.Machine.State) (x2 : Nat) (x3 : Sys2Proof.Machine.PtpMsg) (h1 : Good s0 x1) :
    Good s0 (State.onSync x1 x2 x3) := by
  unfold State.onSync
  repeat' first
    | with_reducible assumption
    | (intro x)
    | with_reducible apply State.ptpIgnored_good
    | with_reducible apply State.takeStamp_good
    | with_reducible apply State.discardExchange_good
    | with_reducible apply State.syncTry_good
    | with_reducible apply Good.ite
    | with_reducible apply Good.iteSnd
    | with_reducible apply Good.iteThird
    | simp only [Good.mk_iff]
    | split

theorem State.onAnnounceTimeout_good {s0 : State} (x1 : Sys2Proof.Machine.State) (h1 : Good s0 x1) :
    Good s0 (State.onAnnounceTimeout x1) := by
  unfold State.onAnnounceTimeout
  repeat' first
    | with_reducible assumption
    | (intro x)
    | with_reducible apply State.reachCclk_good
    | with_reducible apply State.newMaster_good
    | with_reducible apply State.mastersLost_good
    | with_reducible apply State.degrade_good
    | with_reducible apply Good.ite
    | with_reducible apply Good.iteSnd
    | with_reducible apply Good.iteThird
    | simp only [Good.mk_iff]
    | split

theorem State.runCmd_good {s0 : State} (x1 : Sys2Proof.Machine.State) (x2 : Sys2Proof.Machine.LCmd) (h1 : Good s0 x1) :
    Good s0 (State.runCmd x1 x2).2.2 := by
  unfold State.runCmd
  repeat' first
    | with_reducible assumption
    | (intro x)
    | with_reducible apply State.runSystem_good
    | with_reducible apply State.runMedia_good
    | with_reducible apply State.runCore_good
    | with_reducible apply Good.ite
    | with_reducible apply Good.iteSnd
    | with_reducible apply Good.iteThird

theorem State.composeLine_good {s0 : State} (x1 : Sys2Proof.Machine.State) (x2 : Nat) (x3 : Nat) (x4 : Nat) (x5 : Nat) (h1 : Good s0 x1) :
    Good s0 (State.composeLine x1 x2 x3 x4 x5) := by
  unfold State.composeLine
  repeat' first
    | with_reducible assumption
    | (intro x)
    | with_reducible apply State.underrun_good
    | with_reducible apply State.emberLine_good
    | with_reducible apply State.packedCheck_good
    | with_reducible apply State.freezeLine_good
    | with_reducible apply State.stallCheck_good
    | with_reducible apply State.gatherKey_good
    | with_reducible apply State.capture_good
    | with_reducible apply State.eccBad_good
    | with_reducible apply Good.foldl
    | with_reducible apply Good.foldlSnd
    | with_reducible apply Good.ite
    | with_reducible apply Good.iteSnd
    | with_reducible apply Good.iteThird
    | simp only [Good.mk_iff]
    | split

theorem State.lineStart_good {s0 : State} (x1 : Sys2Proof.Machine.State) (x2 : Nat) (x3 : Nat) (x4 : Nat) (h1 : Good s0 x1) :
    Good s0 (State.lineStart x1 x2 x3 x4) := by
  unfold State.lineStart
  repeat' first
    | with_reducible assumption
    | (intro x)
    | with_reducible apply State.reach_good
    | with_reducible apply State.restart_good
    | with_reducible apply State.lineMatch_good
    | with_reducible apply State.rsyncLine_good
    | with_reducible apply State.setRas_good
    | with_reducible apply State.composeLine_good
    | with_reducible apply Good.ite

theorem workSurfStore_good {s0 : State} (x1 : Nat) (x2 : Sys2Proof.Machine.Task) (x3 : Sys2Proof.Machine.State) (h3 : Good s0 x3) :
    Good s0 (workSurfStore x1 x2 x3).2 := by
  unfold workSurfStore
  repeat' first
    | with_reducible assumption
    | (intro x)
    | with_reducible apply State.taskRead_good
    | with_reducible apply State.noteChange_good
    | with_reducible apply State.storeSurface_good
    | with_reducible apply Good.ite
    | with_reducible apply Good.iteSnd

theorem workGather_good {s0 : State} (x1 : Nat) (x2 : Sys2Proof.Machine.Task) (x3 : Sys2Proof.Machine.State) (h3 : Good s0 x3) :
    Good s0 (workGather x1 x2 x3).2 := by
  unfold workGather
  repeat' first
    | with_reducible assumption
    | (intro x)
    | with_reducible apply State.taskRead_good
    | with_reducible apply State.ramWrite_good
    | with_reducible apply Good.ite
    | with_reducible apply Good.iteSnd

theorem State.startRaster_good {s0 : State} (x1 : Sys2Proof.Machine.State) (x2 : Bool) (h1 : Good s0 x1) :
    Good s0 (State.startRaster x1 x2) := by
  unfold State.startRaster
  repeat' first
    | with_reducible assumption
    | (intro x)
    | with_reducible apply State.firstRaster_good
    | with_reducible apply State.takeStep_good
    | with_reducible apply State.composeStart_good
    | with_reducible apply Good.ite

theorem State.ropeCtrl_good {s0 : State} (x1 : Sys2Proof.Machine.State) (x2 : Nat) (h1 : Good s0 x1) :
    Good s0 (State.ropeCtrl x1 x2) := by
  unfold State.ropeCtrl
  repeat' first
    | with_reducible assumption
    | (intro x)
    | with_reducible apply State.runTask_good
    | with_reducible apply workRopeCtrl_good
    | with_reducible apply State.packetStep_good
    | with_reducible apply State.incReg_good
    | with_reducible apply Good.ite
    | with_reducible apply Good.iteSnd
    | with_reducible apply Good.iteThird
    | simp only [Good.mk_iff]
    | split

theorem State.portFall_good {s0 : State} (x1 : Sys2Proof.Machine.State) (x2 : Nat) (x3 : Nat) (h1 : Good s0 x1) :
    Good s0 (State.portFall x1 x2 x3) := by
  unfold State.portFall
  repeat' first
    | with_reducible assumption
    | (intro x)
    | with_reducible apply State.setPortState_good
    | with_reducible apply State.dropWaiting_good
    | with_reducible apply State.ringUpdate_good
    | with_reducible apply State.setLinkState_good
    | with_reducible apply State.linkPortDown_good
    | with_reducible apply State.roleUpdate_good
    | with_reducible apply Good.ite

theorem State.cmdNow_good {s0 : State} (x1 : Sys2Proof.Machine.State) (x2 : Sys2Proof.Machine.LCmd) (h1 : Good s0 x1) :
    Good s0 (State.cmdNow x1 x2).2 := by
  unfold State.cmdNow
  repeat' first
    | with_reducible assumption
    | (intro x)
    | with_reducible apply State.runCmd_good
    | with_reducible apply State.cmdState_good

theorem State.portRetrain_good {s0 : State} (x1 : Sys2Proof.Machine.State) (x2 : Nat) (h1 : Good s0 x1) :
    Good s0 (State.portRetrain x1 x2) := by
  unfold State.portRetrain
  repeat' first
    | with_reducible assumption
    | (intro x)
    | with_reducible apply State.portFall_good
    | with_reducible apply Good.ite

theorem State.rasterBegin_good {s0 : State} (x1 : Sys2Proof.Machine.State) (h1 : Good s0 x1) :
    Good s0 (State.rasterBegin x1).2 := by
  unfold State.rasterBegin
  repeat' first
    | with_reducible assumption
    | (intro x)
    | with_reducible apply State.openFrame_good
    | with_reducible apply State.beginRaster_good
    | with_reducible apply State.firstRaster_good
    | with_reducible apply Good.ite
    | with_reducible apply Good.iteSnd
    | with_reducible apply Good.iteThird
    | simp only [Good.mk_iff]

theorem workCrc_good {s0 : State} (x1 : Nat) (x2 : Sys2Proof.Machine.Task) (x3 : Sys2Proof.Machine.State) (h3 : Good s0 x3) :
    Good s0 (workCrc x1 x2 x3).2 := by
  unfold workCrc
  repeat' first
    | with_reducible assumption
    | (intro x)
    | with_reducible apply State.taskRead_good
    | with_reducible apply State.ramWrite_good
    | with_reducible apply Good.foldl
    | with_reducible apply Good.foldlSnd
    | with_reducible apply Good.ite
    | with_reducible apply Good.iteSnd

theorem State.heartbeatLoss_good {s0 : State} (x1 : Sys2Proof.Machine.State) (x2 : Nat) (h1 : Good s0 x1) :
    Good s0 (State.heartbeatLoss x1 x2) := by
  unfold State.heartbeatLoss
  repeat' first
    | with_reducible assumption
    | (intro x)
    | with_reducible apply State.breakLink_good
    | with_reducible apply State.reachCclk_good
    | with_reducible apply State.setLink_good
    | with_reducible apply Good.ite
    | with_reducible apply Good.iteSnd
    | with_reducible apply Good.iteThird
    | simp only [Good.mk_iff]
    | split

theorem State.reactionStep_good {s0 : State} (x1 : Sys2Proof.Machine.State) (h1 : Good s0 x1) :
    Good s0 (State.reactionStep x1) := by
  unfold State.reactionStep
  repeat' first
    | with_reducible assumption
    | (intro x)
    | with_reducible apply State.markPreempted_good
    | with_reducible apply State.setSlot_good
    | with_reducible apply State.recover_good
    | with_reducible apply State.endReaction_good
    | with_reducible apply Good.ite
    | with_reducible apply Good.iteSnd
    | with_reducible apply Good.iteThird
    | simp only [Good.mk_iff]
    | split

theorem workUnpack_good {s0 : State} (x1 : Nat) (x2 : Sys2Proof.Machine.Task) (x3 : Sys2Proof.Machine.State) (h3 : Good s0 x3) :
    Good s0 (workUnpack x1 x2 x3).2 := by
  unfold workUnpack
  repeat' first
    | with_reducible assumption
    | (intro x)
    | with_reducible apply State.taskRead_good
    | with_reducible apply State.ramWrite_good
    | with_reducible apply State.drawWord_good
    | with_reducible apply Good.foldl
    | with_reducible apply Good.foldlSnd
    | with_reducible apply Good.ite
    | with_reducible apply Good.iteSnd
    | with_reducible apply Good.iteThird
    | simp only [Good.mk_iff]
    | split

theorem State.rasterLine_good {s0 : State} (x1 : Sys2Proof.Machine.State) (x2 : Nat) (x3 : Nat) (x4 : Nat) (h1 : Good s0 x1) :
    Good s0 (State.rasterLine x1 x2 x3 x4) := by
  unfold State.rasterLine
  repeat' first
    | with_reducible assumption
    | (intro x)
    | with_reducible apply State.lineStart_good
    | with_reducible apply State.rasterEgress_good
    | with_reducible apply Good.ite

theorem State.sacnParse_good {s0 : State} (x1 : Sys2Proof.Machine.State) (x2 : Nat) (h1 : Good s0 x1) :
    Good s0 (State.sacnParse x1 x2) := by
  unfold State.sacnParse
  repeat' first
    | with_reducible assumption
    | (intro x)
    | with_reducible apply State.runTask_good
    | with_reducible apply workParse_good
    | with_reducible apply State.packetStep_good
    | with_reducible apply State.sacnCheck_good
    | with_reducible apply State.sacnMerge_good
    | with_reducible apply Good.ite
    | with_reducible apply Good.iteSnd
    | with_reducible apply Good.iteThird
    | simp only [Good.mk_iff]
    | split

theorem workLutLoad_good {s0 : State} (x1 : Nat) (x2 : Sys2Proof.Machine.Task) (x3 : Sys2Proof.Machine.State) (h3 : Good s0 x3) :
    Good s0 (workLutLoad x1 x2 x3).2 := by
  unfold workLutLoad
  repeat' first
    | with_reducible assumption
    | (intro x)
    | with_reducible apply State.taskRead_good
    | with_reducible apply State.writeCoefs_good
    | with_reducible apply State.putLut_good
    | with_reducible apply Good.ite
    | with_reducible apply Good.iteSnd

theorem State.cmdAt_good {s0 : State} (x1 : Sys2Proof.Machine.State) (x2 : Sys2Proof.Machine.LCmd) (h1 : Good s0 x1) :
    Good s0 (State.cmdAt x1 x2) := by
  unfold State.cmdAt
  repeat' first
    | with_reducible assumption
    | (intro x)
    | with_reducible apply State.runCmd_good
    | with_reducible apply State.cmdState_good
    | with_reducible apply State.refuseAt_good
    | with_reducible apply Good.ite

theorem State.calPort_good {s0 : State} (x1 : Sys2Proof.Machine.State) (x2 : Nat) (h1 : Good s0 x1) :
    Good s0 (State.calPort x1 x2) := by
  unfold State.calPort
  repeat' first
    | with_reducible assumption
    | (intro x)
    | with_reducible apply State.portFall_good
    | with_reducible apply State.stamp_good
    | with_reducible apply Good.foldl

theorem State.reactionSteps_good {s0 : State} (x1 : Nat) (x2 : State) (h2 : Good s0 x2) :
    Good s0 (State.reactionSteps x1 x2) := by
  induction x1 generalizing x2 with
  | zero => exact h2
  | succ n ih => exact ih _ (State.reactionStep_good _ h2)

theorem State.portDrop_good {s0 : State} (x1 : Sys2Proof.Machine.State) (x2 : Nat) (h1 : Good s0 x1) :
    Good s0 (State.portDrop x1 x2) := by
  unfold State.portDrop
  repeat' first
    | with_reducible assumption
    | (intro x)
    | with_reducible apply State.portFall_good
    | with_reducible apply Good.ite

theorem workCsum_good {s0 : State} (x1 : Nat) (x2 : Sys2Proof.Machine.Task) (x3 : Sys2Proof.Machine.State) (h3 : Good s0 x3) :
    Good s0 (workCsum x1 x2 x3).2 := by
  unfold workCsum
  repeat' first
    | with_reducible assumption
    | (intro x)
    | with_reducible apply State.taskRead_good
    | with_reducible apply State.ramWrite_good
    | with_reducible apply Good.ite
    | with_reducible apply Good.iteSnd
    | with_reducible apply Good.iteThird
    | simp only [Good.mk_iff]
    | split

theorem State.portHold_good {s0 : State} (x1 : Sys2Proof.Machine.State) (x2 : Nat) (h1 : Good s0 x1) :
    Good s0 (State.portHold x1 x2) := by
  unfold State.portHold
  repeat' first
    | with_reducible assumption
    | (intro x)
    | with_reducible apply State.portFall_good
    | with_reducible apply State.roleUpdate_good
    | with_reducible apply State.setReg_good
    | with_reducible apply Good.ite

theorem workCopy_good {s0 : State} (x1 : Nat) (x2 : Sys2Proof.Machine.Task) (x3 : Sys2Proof.Machine.State) (h3 : Good s0 x3) :
    Good s0 (workCopy x1 x2 x3).2 := by
  unfold workCopy
  repeat' first
    | with_reducible assumption
    | (intro x)
    | with_reducible apply State.taskRead_good
    | with_reducible apply State.ramWrite_good
    | with_reducible apply Good.ite
    | with_reducible apply Good.iteSnd

theorem State.mdioPoll_good {s0 : State} (x1 : Sys2Proof.Machine.State) (x2 : Bool) (x3 : Nat) (h1 : Good s0 x1) :
    Good s0 (State.mdioPoll x1 x2 x3) := by
  unfold State.mdioPoll
  repeat' first
    | with_reducible assumption
    | (intro x)
    | with_reducible apply State.portFall_good
    | with_reducible apply State.setPortState_good
    | with_reducible apply Good.ite
    | with_reducible apply Good.iteSnd
    | with_reducible apply Good.iteThird
    | simp only [Good.mk_iff]

theorem State.runLive_good {s0 : State} (x1 : Sys2Proof.Machine.State) (h1 : Good s0 x1) :
    Good s0 (State.runLive x1) := by
  unfold State.runLive
  repeat' first
    | with_reducible assumption
    | (intro x)
    | with_reducible apply State.cmdAt_good
    | with_reducible apply Good.foldl
    | with_reducible apply Good.foldlSnd
    | with_reducible apply Good.ite
    | with_reducible apply Good.iteSnd
    | with_reducible apply Good.iteThird
    | simp only [Good.mk_iff]

theorem State.rasterStep_good {s0 : State} (x1 : Sys2Proof.Machine.State) (h1 : Good s0 x1) :
    Good s0 (State.rasterStep x1) := by
  unfold State.rasterStep
  repeat' first
    | with_reducible assumption
    | (intro x)
    | with_reducible apply State.rasterBegin_good
    | with_reducible apply State.takeStep_good
    | with_reducible apply State.staticStep_good
    | with_reducible apply State.mergeSnapshot_good
    | with_reducible apply State.bandStep_good
    | with_reducible apply State.composeStart_good
    | with_reducible apply Good.ite

theorem State.calPortStep_good {s0 : State} (x1 : Sys2Proof.Machine.State) (h1 : Good s0 x1) :
    Good s0 (State.calPortStep x1) := by
  unfold State.calPortStep
  repeat' first
    | with_reducible assumption
    | (intro x)
    | with_reducible apply State.calReturn_good
    | with_reducible apply State.calPort_good
    | with_reducible apply Good.ite
    | with_reducible apply Good.iteSnd
    | with_reducible apply Good.iteThird
    | simp only [Good.mk_iff]
    | split

theorem State.calStep_good {s0 : State} (x1 : Sys2Proof.Machine.State) (h1 : Good s0 x1) :
    Good s0 (State.calStep x1) := by
  unfold State.calStep
  repeat' first
    | with_reducible assumption
    | (intro x)
    | with_reducible apply State.calLight_good
    | with_reducible apply State.calDark_good
    | with_reducible apply State.calPortStep_good
    | with_reducible apply Good.foldl
    | with_reducible apply Good.foldlSnd
    | with_reducible apply Good.ite
    | with_reducible apply Good.iteSnd
    | with_reducible apply Good.iteThird
    | simp only [Good.mk_iff]
    | split

theorem State.headEnChange_good {s0 : State} (x1 : Sys2Proof.Machine.State) (x2 : Bool) (h1 : Good s0 x1) :
    Good s0 (State.headEnChange x1 x2) := by
  unfold State.headEnChange
  repeat' first
    | with_reducible assumption
    | (intro x)
    | with_reducible apply State.roleUpdate_good
    | with_reducible apply State.portHold_good
    | with_reducible apply Good.ite
    | with_reducible apply Good.iteSnd
    | with_reducible apply Good.iteThird
    | simp only [Good.mk_iff]

theorem State.calFinish_good {s0 : State} (x1 : Sys2Proof.Machine.State) (x2 : Nat) (h1 : Good s0 x1) :
    Good s0 (State.calFinish x1 x2) := by
  unfold State.calFinish
  repeat' first
    | with_reducible assumption
    | (intro x)
    | with_reducible apply State.calStep_good
    | with_reducible apply State.reachCclk_good
    | with_reducible apply Good.foldl
    | with_reducible apply Good.foldlSnd
    | with_reducible apply Good.ite

theorem State.calStart_good {s0 : State} (x1 : Sys2Proof.Machine.State) (h1 : Good s0 x1) :
    Good s0 (State.calStart x1) := by
  unfold State.calStart
  repeat' first
    | with_reducible assumption
    | (intro x)
    | with_reducible apply State.calAbort_good
    | with_reducible apply State.setReg_good
    | with_reducible apply State.setDen_good
    | with_reducible apply State.calStep_good
    | with_reducible apply Good.ite
    | with_reducible apply Good.iteSnd
    | with_reducible apply Good.iteThird
    | simp only [Good.mk_iff]

theorem State.portApplied_good {s0 : State} (x1 : Sys2Proof.Machine.State) (x2 : List (Nat × Nat)) (x3 : Nat) (h1 : Good s0 x1) :
    Good s0 (State.portApplied x1 x2 x3) := by
  unfold State.portApplied
  repeat' first
    | with_reducible assumption
    | (intro x)
    | with_reducible apply State.tsqClear_good
    | with_reducible apply State.portRetrain_good
    | with_reducible apply State.portHold_good
    | with_reducible apply Good.ite

theorem State.calDone_good {s0 : State} (x1 : Sys2Proof.Machine.State) (x2 : Sys2Proof.Machine.CalMeas) (h1 : Good s0 x1) :
    Good s0 (State.calDone x1 x2) := by
  unfold State.calDone
  repeat' first
    | with_reducible assumption
    | (intro x)
    | with_reducible apply State.calAbort_good
    | with_reducible apply State.reachCclk_good
    | with_reducible apply State.calFinish_good
    | with_reducible apply State.calSink_good
    | with_reducible apply State.calNtc_good
    | with_reducible apply State.calTslat_good
    | with_reducible apply State.raise_good
    | with_reducible apply State.cmdState_good
    | with_reducible apply State.setReg_good
    | with_reducible apply Good.foldl
    | with_reducible apply Good.foldlSnd
    | with_reducible apply Good.ite
    | with_reducible apply Good.iteSnd
    | with_reducible apply Good.iteThird
    | simp only [Good.mk_iff]
    | split

theorem State.afterSet_good {s0 : State} (x1 : Sys2Proof.Machine.State) (x2 : List (Nat × Nat)) (h1 : Good s0 x1) :
    Good s0 (State.afterSet x1 x2) := by
  unfold State.afterSet
  repeat' first
    | with_reducible assumption
    | (intro x)
    | with_reducible apply State.noteChange_good
    | with_reducible apply State.portApplied_good
    | with_reducible apply State.pulseApply_good
    | with_reducible apply State.draughtResolve_good
    | with_reducible apply State.driveFigures_good
    | with_reducible apply State.dmxFit_good
    | with_reducible apply State.closeAll_good
    | with_reducible apply Good.foldl
    | with_reducible apply Good.foldlSnd
    | with_reducible apply Good.ite

theorem State.applySet_good {s0 : State} (x1 : Sys2Proof.Machine.State) (x2 : List (Nat × Nat)) (h1 : Good s0 x1) :
    Good s0 (State.applySet x1 x2) := by
  unfold State.applySet
  repeat' first
    | with_reducible assumption
    | (intro x)
    | with_reducible apply State.driveGate_good
    | with_reducible apply State.afterSet_good
    | with_reducible apply State.applyOne_good
    | with_reducible apply State.scrubPass_good
    | with_reducible apply Good.foldl
    | with_reducible apply Good.foldlSnd
    | with_reducible apply Good.ite

theorem State.applyCommit_good {s0 : State} (x1 : Sys2Proof.Machine.State) (h1 : Good s0 x1) :
    Good s0 (State.applyCommit x1) := by
  unfold State.applyCommit
  repeat' first
    | with_reducible assumption
    | (intro x)
    | with_reducible apply State.applySet_good
    | with_reducible apply State.setReg_good
    | with_reducible apply Good.ite
    | with_reducible apply Good.iteSnd
    | with_reducible apply Good.iteThird
    | simp only [Good.mk_iff]

theorem State.timedCommit_good {s0 : State} (x1 : Sys2Proof.Machine.State) (h1 : Good s0 x1) :
    Good s0 (State.timedCommit x1) := by
  unfold State.timedCommit
  repeat' first
    | with_reducible assumption
    | (intro x)
    | with_reducible apply State.applySet_good
    | with_reducible apply State.setReg_good
    | with_reducible apply Good.ite
    | with_reducible apply Good.iteSnd
    | with_reducible apply Good.iteThird
    | simp only [Good.mk_iff]

theorem State.flushSet_good {s0 : State} (x1 : List (Nat × Nat) × Sys2Proof.Machine.State) (h1 : Good s0 x1.2) :
    Good s0 (State.flushSet x1) := by
  unfold State.flushSet
  repeat' first
    | with_reducible assumption
    | (intro x)
    | with_reducible apply State.applySet_good
    | with_reducible apply Good.ite

theorem State.putWrite_good {s0 : State} (x1 : Sys2Proof.Machine.State) (x2 : Sys2Proof.Machine.Origin) (x3 : Sys2Proof.Machine.Obj) (x4 : Nat) (x5 : Nat) (x6 : Sys2Proof.Bytes) (h1 : Good s0 x1) :
    Good s0 (State.putWrite x1 x2 x3 x4 x5 x6).2 := by
  unfold State.putWrite
  repeat' first
    | with_reducible assumption
    | (intro x)
    | with_reducible apply State.queueCmd_good
    | with_reducible apply State.cmdNow_good
    | with_reducible apply State.refuse_good
    | with_reducible apply State.clearOnes_good
    | with_reducible apply State.stageWrite_good
    | with_reducible apply State.liveWrite_good
    | with_reducible apply State.cairnField_good
    | with_reducible apply State.applySet_good
    | with_reducible apply Good.ite
    | with_reducible apply Good.iteSnd
    | with_reducible apply Good.iteThird
    | simp only [Good.mk_iff]
    | split

theorem State.timedOne_good {s0 : State} (x1 : List (Nat × Nat) × Sys2Proof.Machine.State) (x2 : Sys2Proof.Machine.TimedW) (h1 : Good s0 x1.2) :
    Good s0 (State.timedOne x1 x2).2 := by
  unfold State.timedOne
  repeat' first
    | with_reducible assumption
    | (intro x)
    | with_reducible apply State.cmdAt_good
    | with_reducible apply State.flushSet_good
    | with_reducible apply State.clearOnes_good
    | with_reducible apply State.rejected_good
    | with_reducible apply Good.ite
    | with_reducible apply Good.iteSnd
    | with_reducible apply Good.iteThird
    | simp only [Good.mk_iff]
    | split

theorem State.applyLive_good {s0 : State} (x1 : Sys2Proof.Machine.State) (h1 : Good s0 x1) :
    Good s0 (State.applyLive x1) := by
  unfold State.applyLive
  repeat' first
    | with_reducible assumption
    | (intro x)
    | with_reducible apply State.applySet_good
    | with_reducible apply Good.ite
    | with_reducible apply Good.iteSnd
    | with_reducible apply Good.iteThird
    | simp only [Good.mk_iff]

theorem State.boundaryBegin_good {s0 : State} (x1 : Sys2Proof.Machine.State) (h1 : Good s0 x1) :
    Good s0 (State.boundaryBegin x1) := by
  unfold State.boundaryBegin
  repeat' first
    | with_reducible assumption
    | (intro x)
    | with_reducible apply State.readStamps_good
    | with_reducible apply State.calStep_good
    | with_reducible apply State.tickClear_good
    | with_reducible apply State.raise_good
    | with_reducible apply State.endNotes_good
    | with_reducible apply State.loopTick_good
    | with_reducible apply State.fadeStep_good
    | with_reducible apply State.storeDue_good
    | with_reducible apply State.runLive_good
    | with_reducible apply State.candCheck_good
    | with_reducible apply State.applyLive_good
    | with_reducible apply Good.foldl
    | with_reducible apply Good.foldlSnd
    | with_reducible apply Good.ite

theorem State.timedDue_good {s0 : State} (x1 : Sys2Proof.Machine.State) (h1 : Good s0 x1) :
    Good s0 (State.timedDue x1).2 := by
  unfold State.timedDue
  repeat' first
    | with_reducible assumption
    | (intro x)
    | with_reducible apply State.flushSet_good
    | with_reducible apply State.timedOne_good
    | with_reducible apply State.cmdState_good
    | with_reducible apply Good.foldl
    | with_reducible apply Good.foldlSnd
    | with_reducible apply Good.ite
    | with_reducible apply Good.iteSnd
    | with_reducible apply Good.iteThird
    | simp only [Good.mk_iff]

theorem State.initOne_good {s0 : State} (x1 : List (Nat × Nat) × Sys2Proof.Machine.State) (x2 : Nat × Sys2Proof.Bytes) (h1 : Good s0 x1.2) :
    Good s0 (State.initOne x1 x2).2 := by
  unfold State.initOne
  repeat' first
    | with_reducible assumption
    | (intro x)
    | with_reducible apply State.cmdAt_good
    | with_reducible apply State.flushSet_good
    | with_reducible apply Good.ite
    | with_reducible apply Good.iteSnd

theorem State.opWrite_good {s0 : State} (x1 : Sys2Proof.Machine.State) (x2 : Sys2Proof.Machine.Origin) (x3 : Sys2Proof.Machine.Role) (x4 : Nat) (x5 : Nat) (x6 : Nat) (x7 : Sys2Proof.Bytes) (h1 : Good s0 x1) :
    Good s0 (State.opWrite x1 x2 x3 x4 x5 x6 x7).2 := by
  unfold State.opWrite
  repeat' first
    | with_reducible assumption
    | (intro x)
    | with_reducible apply State.refuse_good
    | with_reducible apply State.refuseCmd_good
    | with_reducible apply State.clampWrite_good
    | with_reducible apply State.putWrite_good
    | with_reducible apply Good.ite
    | with_reducible apply Good.iteSnd
    | with_reducible apply Good.iteThird
    | simp only [Good.mk_iff]
    | split

theorem State.applyInit_good {s0 : State} (x1 : Sys2Proof.Machine.State) (x2 : List (Nat × Sys2Proof.Bytes)) (h1 : Good s0 x1) :
    Good s0 (State.applyInit x1 x2) := by
  unfold State.applyInit
  repeat' first
    | with_reducible assumption
    | (intro x)
    | with_reducible apply State.flushSet_good
    | with_reducible apply State.initOne_good
    | with_reducible apply Good.foldl
    | with_reducible apply Good.foldlSnd

theorem State.rowWrite_good {s0 : State} (x1 : Sys2Proof.Machine.State) (x2 : Sys2Proof.Machine.Origin) (x3 : Nat) (x4 : Nat) (x5 : Sys2Proof.Bytes) (h1 : Good s0 x1) :
    Good s0 (State.rowWrite x1 x2 x3 x4 x5) := by
  unfold State.rowWrite
  repeat' first
    | with_reducible assumption
    | (intro x)
    | with_reducible apply State.serve_good
    | with_reducible apply outOf_good
    | with_reducible apply State.opWrite_good

theorem State.installInit_good {s0 : State} (x1 : Sys2Proof.Machine.State) (x2 : Sys2Proof.Machine.Topo) (h1 : Good s0 x1) :
    Good s0 (State.installInit x1 x2) := by
  unfold State.installInit
  repeat' first
    | with_reducible assumption
    | (intro x)
    | with_reducible apply State.applyInit_good
    | with_reducible apply Good.ite
    | with_reducible apply Good.iteSnd
    | with_reducible apply Good.iteThird
    | simp only [Good.mk_iff]

theorem State.rowNum_good {s0 : State} (x1 : Sys2Proof.Machine.State) (x2 : Sys2Proof.Machine.Origin) (x3 : Nat) (x4 : Nat) (x5 : Nat) (h1 : Good s0 x1) :
    Good s0 (State.rowNum x1 x2 x3 x4 x5) := by
  unfold State.rowNum
  repeat' first
    | with_reducible assumption
    | (intro x)
    | with_reducible apply State.rowWrite_good

theorem State.initStep_good {s0 : State} (x1 : Sys2Proof.Machine.State) (h1 : Good s0 x1) :
    Good s0 (State.initStep x1) := by
  unfold State.initStep
  repeat' first
    | with_reducible assumption
    | (intro x)
    | with_reducible apply State.applyInit_good
    | with_reducible apply Good.ite
    | with_reducible apply Good.iteSnd
    | with_reducible apply Good.iteThird
    | simp only [Good.mk_iff]

theorem State.execItem_good {s0 : State} (x1 : Sys2Proof.Machine.State) (x2 : Sys2Proof.Machine.Origin) (x3 : Sys2Proof.Machine.Role) (x4 : Bool) (x5 : Nat) (x6 : Sys2Proof.Machine.OpItem) (h1 : Good s0 x1) :
    Good s0 (State.execItem x1 x2 x3 x4 x5 x6).2 := by
  unfold State.execItem
  repeat' first
    | with_reducible assumption
    | (intro x)
    | with_reducible apply State.opRead_good
    | with_reducible apply outOf_good
    | with_reducible apply State.opWrite_good
    | with_reducible apply State.opTimed_good
    | with_reducible apply State.opBegin_good
    | with_reducible apply State.opData_good
    | with_reducible apply State.opDomRead_good
    | with_reducible apply State.opEnd_good
    | with_reducible apply State.opDescribe_good
    | with_reducible apply Good.ite
    | with_reducible apply Good.iteSnd
    | with_reducible apply Good.iteThird
    | simp only [Good.mk_iff]
    | split

theorem State.execServed_good {s0 : State} (x1 : Sys2Proof.Machine.State) (x2 : Sys2Proof.Machine.Origin) (x3 : Sys2Proof.Machine.Role) (x4 : Bool) (x5 : Nat) (x6 : Sys2Proof.Machine.OpItem) (h1 : Good s0 x1) :
    Good s0 (State.execServed x1 x2 x3 x4 x5 x6).2 := by
  unfold State.execServed
  repeat' first
    | with_reducible assumption
    | (intro x)
    | with_reducible apply State.execItem_good
    | with_reducible apply Good.ite
    | with_reducible apply Good.iteSnd

theorem State.runJob_good {s0 : State} (x1 : Nat) (x2 : State) (x3 : Job) (h2 : Good s0 x2) :
    Good s0 (State.runJob x1 x2 x3) := by
  induction x1 generalizing x2 x3 with
  | zero => exact State.replyJob_good _ _ h2
  | succ n ih =>
    unfold State.runJob
    split
    · exact State.replyJob_good _ _ h2
    · split
      · exact ih _ _ h2
      · refine Good.ite (State.replyJob_good _ _ h2) ?_
        split
        · rename_i e
          exact ih _ _ (Good.ofPair e (State.execServed_good _ _ _ _ _ _ h2))
        · rename_i e
          exact Good.mk_iff.mpr (Good.ofPair e (State.execServed_good _ _ _ _ _ _ h2))

theorem State.startJob_good {s0 : State} (x1 : Sys2Proof.Machine.State) (x2 : Sys2Proof.Machine.Job) (h1 : Good s0 x1) :
    Good s0 (State.startJob x1 x2) := by
  unfold State.startJob
  repeat' first
    | with_reducible assumption
    | (intro x)
    | with_reducible apply State.runJob_good

theorem State.install_good {s0 : State} (x1 : Sys2Proof.Machine.State) (x2 : Sys2Proof.Machine.Topo) (x3 : Bool) (h1 : Good s0 x1) :
    Good s0 (State.install x1 x2 x3) := by
  unfold State.install
  repeat' first
    | with_reducible assumption
    | (intro x)
    | with_reducible apply State.cancelWhere_good
    | with_reducible apply State.calAbort_good
    | with_reducible apply State.installTables_good
    | with_reducible apply State.installRegs_good
    | with_reducible apply State.installSurfaces_good
    | with_reducible apply State.installStreams_good
    | with_reducible apply State.installLoops_good
    | with_reducible apply State.installBanks_good
    | with_reducible apply State.installLevels_good
    | with_reducible apply State.installLayers_good
    | with_reducible apply State.installRaster_good
    | with_reducible apply State.installFirebox_good
    | with_reducible apply State.installQueues_good
    | with_reducible apply State.draughtResolve_good
    | with_reducible apply State.driveFigures_good
    | with_reducible apply State.rowPinsOn_good
    | with_reducible apply State.strandPinsOn_good
    | with_reducible apply State.dmxFit_good
    | with_reducible apply State.calApplyDue_good
    | with_reducible apply State.joinGroups_good
    | with_reducible apply State.scrubPass_good
    | with_reducible apply State.installRate_good
    | with_reducible apply State.installInit_good
    | with_reducible apply State.noteChange_good
    | with_reducible apply Good.foldl
    | with_reducible apply Good.foldlSnd
    | with_reducible apply Good.ite
    | with_reducible apply Good.iteSnd
    | with_reducible apply Good.iteThird
    | simp only [Good.mk_iff]

theorem State.switchTables_good {s0 : State} (x1 : Sys2Proof.Machine.State) (h1 : Good s0 x1) :
    Good s0 (State.switchTables x1) := by
  unfold State.switchTables
  repeat' first
    | with_reducible assumption
    | (intro x)
    | with_reducible apply State.startRaster_good
    | with_reducible apply State.install_good
    | with_reducible apply State.cmdState_good
    | with_reducible apply Good.ite
    | with_reducible apply Good.iteSnd
    | with_reducible apply Good.iteThird
    | simp only [Good.mk_iff]
    | split

theorem State.sendIn_good {s0 : State} (x1 : Sys2Proof.Machine.State) (x2 : Bool) (x3 : Bool) (x4 : Sys2Proof.Bytes) (h1 : Good s0 x1) :
    Good s0 (State.sendIn x1 x2 x3 x4) := by
  unfold State.sendIn
  repeat' first
    | with_reducible assumption
    | (intro x)
    | with_reducible apply State.lclBegin_good
    | with_reducible apply State.send_good
    | with_reducible apply State.incReg_good
    | with_reducible apply State.startJob_good
    | with_reducible apply Good.ite
    | with_reducible apply Good.iteSnd
    | with_reducible apply Good.iteThird
    | simp only [Good.mk_iff]
    | split

theorem State.requestIn_good {s0 : State} (x1 : Sys2Proof.Machine.State) (x2 : Nat) (x3 : Nat) (x4 : Nat) (x5 : Nat) (x6 : Sys2Proof.Bytes) (x7 : Bool) (h1 : Good s0 x1) :
    Good s0 (State.requestIn x1 x2 x3 x4 x5 x6 x7) := by
  unfold State.requestIn
  repeat' first
    | with_reducible assumption
    | (intro x)
    | with_reducible apply State.sendError_good
    | with_reducible apply State.touchSession_good
    | with_reducible apply State.startJob_good
    | with_reducible apply State.nextMsg_good
    | with_reducible apply State.sendCtrl_good
    | with_reducible apply State.seqError_good
    | with_reducible apply Good.ite
    | with_reducible apply Good.iteSnd
    | with_reducible apply Good.iteThird
    | simp only [Good.mk_iff]
    | split

theorem State.topoActivate_good {s0 : State} (x1 : Sys2Proof.Machine.State) (h1 : Good s0 x1) :
    Good s0 (State.topoActivate x1) := by
  unfold State.topoActivate
  repeat' first
    | with_reducible assumption
    | (intro x)
    | with_reducible apply State.install_good
    | with_reducible apply State.armBreak_good
    | with_reducible apply State.startRaster_good
    | with_reducible apply Good.ite
    | with_reducible apply Good.iteSnd
    | with_reducible apply Good.iteThird
    | simp only [Good.mk_iff]
    | split

theorem State.resumeJobs_good {s0 : State} (x1 : Sys2Proof.Machine.State) (h1 : Good s0 x1) :
    Good s0 (State.resumeJobs x1) := by
  unfold State.resumeJobs
  repeat' first
    | with_reducible assumption
    | (intro x)
    | with_reducible apply State.startJob_good
    | with_reducible apply Good.foldl
    | with_reducible apply Good.foldlSnd
    | with_reducible apply Good.ite
    | with_reducible apply Good.iteSnd
    | with_reducible apply Good.iteThird
    | simp only [Good.mk_iff]
    | split

theorem State.datagram_good {s0 : State} (x1 : Sys2Proof.Machine.State) (x2 : Nat) (x3 : Nat) (x4 : Sys2Proof.Bytes) (x5 : Bool) (h1 : Good s0 x1) :
    Good s0 (State.datagram x1 x2 x3 x4 x5) := by
  unfold State.datagram
  repeat' first
    | with_reducible assumption
    | (intro x)
    | with_reducible apply State.incReg_good
    | with_reducible apply State.helloIn_good
    | with_reducible apply State.responseIn_good
    | with_reducible apply State.requestIn_good
    | with_reducible apply State.closeIn_good
    | with_reducible apply Good.ite
    | with_reducible apply Good.iteSnd
    | with_reducible apply Good.iteThird
    | simp only [Good.mk_iff]
    | split

theorem State.boundaryEnd_good {s0 : State} (x1 : Sys2Proof.Machine.State) (x2 : Nat) (x3 : Bool) (h1 : Good s0 x1) :
    Good s0 (State.boundaryEnd x1 x2 x3) := by
  unfold State.boundaryEnd
  repeat' first
    | with_reducible assumption
    | (intro x)
    | with_reducible apply State.candCheck_good
    | with_reducible apply State.timedCommit_good
    | with_reducible apply State.applyCommit_good
    | with_reducible apply State.ropeBoundary_good
    | with_reducible apply State.switchStep_good
    | with_reducible apply State.initStep_good
    | with_reducible apply State.armStep_good
    | with_reducible apply State.modeStep_good
    | with_reducible apply State.noteChange_good
    | with_reducible apply State.strandLatch_good
    | with_reducible apply State.holdSwitch_good
    | with_reducible apply State.rasterStep_good
    | with_reducible apply State.tempTick_good
    | with_reducible apply State.probeTick_good
    | with_reducible apply State.draughtTick_good
    | with_reducible apply State.windowTick_good
    | with_reducible apply State.egressStep_good
    | with_reducible apply State.egressFree_good
    | with_reducible apply State.pulseTick_good
    | with_reducible apply State.lateIn_good
    | with_reducible apply State.resumeJobs_good
    | with_reducible apply State.popTick_good
    | with_reducible apply Good.foldl
    | with_reducible apply Good.foldlSnd
    | with_reducible apply Good.ite
    | with_reducible apply Good.iteSnd
    | with_reducible apply Good.iteThird
    | simp only [Good.mk_iff]

theorem State.timedRest_good {s0 : State} (x1 : Sys2Proof.Machine.State) (h1 : Good s0 x1) :
    Good s0 (State.timedRest x1) := by
  unfold State.timedRest
  repeat' first
    | with_reducible assumption
    | (intro x)
    | with_reducible apply State.timedDue_good
    | with_reducible apply State.boundaryEnd_good
    | with_reducible apply Good.ite
    | with_reducible apply Good.iteSnd
    | with_reducible apply Good.iteThird
    | simp only [Good.mk_iff]
    | split

theorem State.ctrlItem_good {s0 : State} (x1 : Bool) (x2 : Sys2Proof.Bytes) (x3 : Sys2Proof.Machine.State) (h3 : Good s0 x3) :
    Good s0 (State.ctrlItem x1 x2 x3) := by
  unfold State.ctrlItem
  repeat' first
    | with_reducible assumption
    | (intro x)
    | with_reducible apply State.datagram_good

theorem State.tickStep_good {s0 : State} (x1 : Sys2Proof.Machine.State) (x2 : Sys2Proof.Machine.Sensors) (h1 : Good s0 x1) :
    Good s0 (State.tickStep x1 x2) := by
  unfold State.tickStep
  repeat' first
    | with_reducible assumption
    | (intro x)
    | with_reducible apply State.frameOver_good
    | with_reducible apply State.timedRest_good
    | with_reducible apply State.measured_good
    | with_reducible apply State.advance_good
    | with_reducible apply State.bootAgain_good
    | with_reducible apply State.enterReset_good
    | with_reducible apply State.boundaryBegin_good
    | with_reducible apply State.boundaryEnd_good
    | with_reducible apply Good.ite
    | with_reducible apply Good.iteSnd
    | with_reducible apply Good.iteThird
    | simp only [Good.mk_iff]

end Sys2Proof.Machine
end

