-- ==== Sys2Proof/Laws/State.lean ====
section
/-! SUPPORT. What each shared update does to each field of the state, and what a register reads after each: the lemmas that
keep later proofs from unfolding a record update. -/

namespace Sys2Proof.Machine

variable (s : State)

/-! ### `setReg` -/

@[simp] theorem State.setReg_regs (k v : Nat) : (s.setReg k v).regs = storePut regDefault s.regs k v := rfl
@[simp] theorem State.setReg_pins (k v : Nat) : (s.setReg k v).pins = s.pins := rfl
@[simp] theorem State.setReg_mode (k v : Nat) : (s.setReg k v).mode = s.mode := rfl
@[simp] theorem State.setReg_clock (k v : Nat) : (s.setReg k v).clock = s.clock := rfl
@[simp] theorem State.setReg_tick (k v : Nat) : (s.setReg k v).tick = s.tick := rfl
@[simp] theorem State.setReg_power (k v : Nat) : (s.setReg k v).power = s.power := rfl
@[simp] theorem State.setReg_ev (k v : Nat) : (s.setReg k v).ev = s.ev := rfl
@[simp] theorem State.setReg_belay (k v : Nat) : (s.setReg k v).belay = s.belay := rfl
@[simp] theorem State.setReg_stage (k v : Nat) : (s.setReg k v).stage = s.stage := rfl
@[simp] theorem State.setReg_ctl (k v : Nat) : (s.setReg k v).ctl = s.ctl := rfl
@[simp] theorem State.setReg_xfer (k v : Nat) : (s.setReg k v).xfer = s.xfer := rfl
@[simp] theorem State.setReg_lcl (k v : Nat) : (s.setReg k v).lcl = s.lcl := rfl
@[simp] theorem State.setReg_report (k v : Nat) : (s.setReg k v).report = s.report := rfl
@[simp] theorem State.setReg_topo (k v : Nat) : (s.setReg k v).topo = s.topo := rfl
@[simp] theorem State.setReg_fw (k v : Nat) : (s.setReg k v).fw = s.fw := rfl
@[simp] theorem State.setReg_cairn (k v : Nat) : (s.setReg k v).cairn = s.cairn := rfl
@[simp] theorem State.setReg_part (k v : Nat) : (s.setReg k v).part = s.part := rfl
@[simp] theorem State.setReg_ports (k v : Nat) : (s.setReg k v).ports = s.ports := rfl
@[simp] theorem State.setReg_q (k v : Nat) : (s.setReg k v).q = s.q := rfl
@[simp] theorem State.setReg_rope (k v : Nat) : (s.setReg k v).rope = s.rope := rfl
@[simp] theorem State.setReg_inj (k v : Nat) : (s.setReg k v).inj = s.inj := rfl
@[simp] theorem State.setReg_host (k v : Nat) : (s.setReg k v).host = s.host := rfl
@[simp] theorem State.setReg_ptp (k v : Nat) : (s.setReg k v).ptp = s.ptp := rfl
@[simp] theorem State.setReg_tio (k v : Nat) : (s.setReg k v).tio = s.tio := rfl
@[simp] theorem State.setReg_sched (k v : Nat) : (s.setReg k v).sched = s.sched := rfl
@[simp] theorem State.setReg_carabs (k v : Nat) : (s.setReg k v).carabs = s.carabs := rfl
@[simp] theorem State.setReg_arb (k v : Nat) : (s.setReg k v).arb = s.arb := rfl
@[simp] theorem State.setReg_mem (k v : Nat) : (s.setReg k v).mem = s.mem := rfl
@[simp] theorem State.setReg_comp (k v : Nat) : (s.setReg k v).comp = s.comp := rfl
@[simp] theorem State.setReg_buf (k v : Nat) : (s.setReg k v).buf = s.buf := rfl
@[simp] theorem State.setReg_sacn (k v : Nat) : (s.setReg k v).sacn = s.sacn := rfl
@[simp] theorem State.setReg_egress (k v : Nat) : (s.setReg k v).egress = s.egress := rfl
@[simp] theorem State.setReg_fbx (k v : Nat) : (s.setReg k v).fbx = s.fbx := rfl
@[simp] theorem State.setReg_cal (k v : Nat) : (s.setReg k v).cal = s.cal := rfl
@[simp] theorem State.setReg_flash (k v : Nat) : (s.setReg k v).flash = s.flash := rfl
@[simp] theorem State.setReg_sent (k v : Nat) : (s.setReg k v).sent = s.sent := rfl
@[simp] theorem State.setReg_freeCount (k v : Nat) : (s.setReg k v).freeCount = s.freeCount := rfl
@[simp] theorem State.setReg_oracle (k v : Nat) : (s.setReg k v).oracle = s.oracle := rfl
@[simp] theorem State.setReg_pending (k v : Nat) : (s.setReg k v).pending = s.pending := rfl

/-! ### `addReg` -/

@[simp] theorem State.addReg_pins (k n : Nat) : (s.addReg k n).pins = s.pins := rfl
@[simp] theorem State.addReg_mode (k n : Nat) : (s.addReg k n).mode = s.mode := rfl
@[simp] theorem State.addReg_clock (k n : Nat) : (s.addReg k n).clock = s.clock := rfl
@[simp] theorem State.addReg_tick (k n : Nat) : (s.addReg k n).tick = s.tick := rfl
@[simp] theorem State.addReg_power (k n : Nat) : (s.addReg k n).power = s.power := rfl
@[simp] theorem State.addReg_ev (k n : Nat) : (s.addReg k n).ev = s.ev := rfl
@[simp] theorem State.addReg_belay (k n : Nat) : (s.addReg k n).belay = s.belay := rfl
@[simp] theorem State.addReg_stage (k n : Nat) : (s.addReg k n).stage = s.stage := rfl
@[simp] theorem State.addReg_ctl (k n : Nat) : (s.addReg k n).ctl = s.ctl := rfl
@[simp] theorem State.addReg_xfer (k n : Nat) : (s.addReg k n).xfer = s.xfer := rfl
@[simp] theorem State.addReg_lcl (k n : Nat) : (s.addReg k n).lcl = s.lcl := rfl
@[simp] theorem State.addReg_report (k n : Nat) : (s.addReg k n).report = s.report := rfl
@[simp] theorem State.addReg_topo (k n : Nat) : (s.addReg k n).topo = s.topo := rfl
@[simp] theorem State.addReg_fw (k n : Nat) : (s.addReg k n).fw = s.fw := rfl
@[simp] theorem State.addReg_cairn (k n : Nat) : (s.addReg k n).cairn = s.cairn := rfl
@[simp] theorem State.addReg_part (k n : Nat) : (s.addReg k n).part = s.part := rfl
@[simp] theorem State.addReg_ports (k n : Nat) : (s.addReg k n).ports = s.ports := rfl
@[simp] theorem State.addReg_q (k n : Nat) : (s.addReg k n).q = s.q := rfl
@[simp] theorem State.addReg_rope (k n : Nat) : (s.addReg k n).rope = s.rope := rfl
@[simp] theorem State.addReg_inj (k n : Nat) : (s.addReg k n).inj = s.inj := rfl
@[simp] theorem State.addReg_host (k n : Nat) : (s.addReg k n).host = s.host := rfl
@[simp] theorem State.addReg_ptp (k n : Nat) : (s.addReg k n).ptp = s.ptp := rfl
@[simp] theorem State.addReg_tio (k n : Nat) : (s.addReg k n).tio = s.tio := rfl
@[simp] theorem State.addReg_sched (k n : Nat) : (s.addReg k n).sched = s.sched := rfl
@[simp] theorem State.addReg_carabs (k n : Nat) : (s.addReg k n).carabs = s.carabs := rfl
@[simp] theorem State.addReg_arb (k n : Nat) : (s.addReg k n).arb = s.arb := rfl
@[simp] theorem State.addReg_mem (k n : Nat) : (s.addReg k n).mem = s.mem := rfl
@[simp] theorem State.addReg_comp (k n : Nat) : (s.addReg k n).comp = s.comp := rfl
@[simp] theorem State.addReg_buf (k n : Nat) : (s.addReg k n).buf = s.buf := rfl
@[simp] theorem State.addReg_sacn (k n : Nat) : (s.addReg k n).sacn = s.sacn := rfl
@[simp] theorem State.addReg_egress (k n : Nat) : (s.addReg k n).egress = s.egress := rfl
@[simp] theorem State.addReg_fbx (k n : Nat) : (s.addReg k n).fbx = s.fbx := rfl
@[simp] theorem State.addReg_cal (k n : Nat) : (s.addReg k n).cal = s.cal := rfl
@[simp] theorem State.addReg_flash (k n : Nat) : (s.addReg k n).flash = s.flash := rfl
@[simp] theorem State.addReg_sent (k n : Nat) : (s.addReg k n).sent = s.sent := rfl
@[simp] theorem State.addReg_freeCount (k n : Nat) : (s.addReg k n).freeCount = s.freeCount := rfl
@[simp] theorem State.addReg_oracle (k n : Nat) : (s.addReg k n).oracle = s.oracle := rfl
@[simp] theorem State.addReg_pending (k n : Nat) : (s.addReg k n).pending = s.pending := rfl

/-! ### `incReg` -/

@[simp] theorem State.incReg_pins (k : Nat) : (s.incReg k).pins = s.pins := rfl
@[simp] theorem State.incReg_mode (k : Nat) : (s.incReg k).mode = s.mode := rfl
@[simp] theorem State.incReg_clock (k : Nat) : (s.incReg k).clock = s.clock := rfl
@[simp] theorem State.incReg_tick (k : Nat) : (s.incReg k).tick = s.tick := rfl
@[simp] theorem State.incReg_power (k : Nat) : (s.incReg k).power = s.power := rfl
@[simp] theorem State.incReg_ev (k : Nat) : (s.incReg k).ev = s.ev := rfl
@[simp] theorem State.incReg_belay (k : Nat) : (s.incReg k).belay = s.belay := rfl
@[simp] theorem State.incReg_stage (k : Nat) : (s.incReg k).stage = s.stage := rfl
@[simp] theorem State.incReg_ctl (k : Nat) : (s.incReg k).ctl = s.ctl := rfl
@[simp] theorem State.incReg_xfer (k : Nat) : (s.incReg k).xfer = s.xfer := rfl
@[simp] theorem State.incReg_lcl (k : Nat) : (s.incReg k).lcl = s.lcl := rfl
@[simp] theorem State.incReg_report (k : Nat) : (s.incReg k).report = s.report := rfl
@[simp] theorem State.incReg_topo (k : Nat) : (s.incReg k).topo = s.topo := rfl
@[simp] theorem State.incReg_fw (k : Nat) : (s.incReg k).fw = s.fw := rfl
@[simp] theorem State.incReg_cairn (k : Nat) : (s.incReg k).cairn = s.cairn := rfl
@[simp] theorem State.incReg_part (k : Nat) : (s.incReg k).part = s.part := rfl
@[simp] theorem State.incReg_ports (k : Nat) : (s.incReg k).ports = s.ports := rfl
@[simp] theorem State.incReg_q (k : Nat) : (s.incReg k).q = s.q := rfl
@[simp] theorem State.incReg_rope (k : Nat) : (s.incReg k).rope = s.rope := rfl
@[simp] theorem State.incReg_inj (k : Nat) : (s.incReg k).inj = s.inj := rfl
@[simp] theorem State.incReg_host (k : Nat) : (s.incReg k).host = s.host := rfl
@[simp] theorem State.incReg_ptp (k : Nat) : (s.incReg k).ptp = s.ptp := rfl
@[simp] theorem State.incReg_tio (k : Nat) : (s.incReg k).tio = s.tio := rfl
@[simp] theorem State.incReg_sched (k : Nat) : (s.incReg k).sched = s.sched := rfl
@[simp] theorem State.incReg_carabs (k : Nat) : (s.incReg k).carabs = s.carabs := rfl
@[simp] theorem State.incReg_arb (k : Nat) : (s.incReg k).arb = s.arb := rfl
@[simp] theorem State.incReg_mem (k : Nat) : (s.incReg k).mem = s.mem := rfl
@[simp] theorem State.incReg_comp (k : Nat) : (s.incReg k).comp = s.comp := rfl
@[simp] theorem State.incReg_buf (k : Nat) : (s.incReg k).buf = s.buf := rfl
@[simp] theorem State.incReg_sacn (k : Nat) : (s.incReg k).sacn = s.sacn := rfl
@[simp] theorem State.incReg_egress (k : Nat) : (s.incReg k).egress = s.egress := rfl
@[simp] theorem State.incReg_fbx (k : Nat) : (s.incReg k).fbx = s.fbx := rfl
@[simp] theorem State.incReg_cal (k : Nat) : (s.incReg k).cal = s.cal := rfl
@[simp] theorem State.incReg_flash (k : Nat) : (s.incReg k).flash = s.flash := rfl
@[simp] theorem State.incReg_sent (k : Nat) : (s.incReg k).sent = s.sent := rfl
@[simp] theorem State.incReg_freeCount (k : Nat) : (s.incReg k).freeCount = s.freeCount := rfl
@[simp] theorem State.incReg_oracle (k : Nat) : (s.incReg k).oracle = s.oracle := rfl
@[simp] theorem State.incReg_pending (k : Nat) : (s.incReg k).pending = s.pending := rfl

/-! ### `addReg64` -/

@[simp] theorem State.addReg64_pins (k n : Nat) : (s.addReg64 k n).pins = s.pins := rfl
@[simp] theorem State.addReg64_mode (k n : Nat) : (s.addReg64 k n).mode = s.mode := rfl
@[simp] theorem State.addReg64_clock (k n : Nat) : (s.addReg64 k n).clock = s.clock := rfl
@[simp] theorem State.addReg64_tick (k n : Nat) : (s.addReg64 k n).tick = s.tick := rfl
@[simp] theorem State.addReg64_power (k n : Nat) : (s.addReg64 k n).power = s.power := rfl
@[simp] theorem State.addReg64_ev (k n : Nat) : (s.addReg64 k n).ev = s.ev := rfl
@[simp] theorem State.addReg64_belay (k n : Nat) : (s.addReg64 k n).belay = s.belay := rfl
@[simp] theorem State.addReg64_stage (k n : Nat) : (s.addReg64 k n).stage = s.stage := rfl
@[simp] theorem State.addReg64_ctl (k n : Nat) : (s.addReg64 k n).ctl = s.ctl := rfl
@[simp] theorem State.addReg64_xfer (k n : Nat) : (s.addReg64 k n).xfer = s.xfer := rfl
@[simp] theorem State.addReg64_lcl (k n : Nat) : (s.addReg64 k n).lcl = s.lcl := rfl
@[simp] theorem State.addReg64_report (k n : Nat) : (s.addReg64 k n).report = s.report := rfl
@[simp] theorem State.addReg64_topo (k n : Nat) : (s.addReg64 k n).topo = s.topo := rfl
@[simp] theorem State.addReg64_fw (k n : Nat) : (s.addReg64 k n).fw = s.fw := rfl
@[simp] theorem State.addReg64_cairn (k n : Nat) : (s.addReg64 k n).cairn = s.cairn := rfl
@[simp] theorem State.addReg64_part (k n : Nat) : (s.addReg64 k n).part = s.part := rfl
@[simp] theorem State.addReg64_ports (k n : Nat) : (s.addReg64 k n).ports = s.ports := rfl
@[simp] theorem State.addReg64_q (k n : Nat) : (s.addReg64 k n).q = s.q := rfl
@[simp] theorem State.addReg64_rope (k n : Nat) : (s.addReg64 k n).rope = s.rope := rfl
@[simp] theorem State.addReg64_inj (k n : Nat) : (s.addReg64 k n).inj = s.inj := rfl
@[simp] theorem State.addReg64_host (k n : Nat) : (s.addReg64 k n).host = s.host := rfl
@[simp] theorem State.addReg64_ptp (k n : Nat) : (s.addReg64 k n).ptp = s.ptp := rfl
@[simp] theorem State.addReg64_tio (k n : Nat) : (s.addReg64 k n).tio = s.tio := rfl
@[simp] theorem State.addReg64_sched (k n : Nat) : (s.addReg64 k n).sched = s.sched := rfl
@[simp] theorem State.addReg64_carabs (k n : Nat) : (s.addReg64 k n).carabs = s.carabs := rfl
@[simp] theorem State.addReg64_arb (k n : Nat) : (s.addReg64 k n).arb = s.arb := rfl
@[simp] theorem State.addReg64_mem (k n : Nat) : (s.addReg64 k n).mem = s.mem := rfl
@[simp] theorem State.addReg64_comp (k n : Nat) : (s.addReg64 k n).comp = s.comp := rfl
@[simp] theorem State.addReg64_buf (k n : Nat) : (s.addReg64 k n).buf = s.buf := rfl
@[simp] theorem State.addReg64_sacn (k n : Nat) : (s.addReg64 k n).sacn = s.sacn := rfl
@[simp] theorem State.addReg64_egress (k n : Nat) : (s.addReg64 k n).egress = s.egress := rfl
@[simp] theorem State.addReg64_fbx (k n : Nat) : (s.addReg64 k n).fbx = s.fbx := rfl
@[simp] theorem State.addReg64_cal (k n : Nat) : (s.addReg64 k n).cal = s.cal := rfl
@[simp] theorem State.addReg64_flash (k n : Nat) : (s.addReg64 k n).flash = s.flash := rfl
@[simp] theorem State.addReg64_sent (k n : Nat) : (s.addReg64 k n).sent = s.sent := rfl
@[simp] theorem State.addReg64_freeCount (k n : Nat) : (s.addReg64 k n).freeCount = s.freeCount := rfl
@[simp] theorem State.addReg64_oracle (k n : Nat) : (s.addReg64 k n).oracle = s.oracle := rfl
@[simp] theorem State.addReg64_pending (k n : Nat) : (s.addReg64 k n).pending = s.pending := rfl

/-! ### `maxReg` -/

@[simp] theorem State.maxReg_pins (k v : Nat) : (s.maxReg k v).pins = s.pins := rfl
@[simp] theorem State.maxReg_mode (k v : Nat) : (s.maxReg k v).mode = s.mode := rfl
@[simp] theorem State.maxReg_clock (k v : Nat) : (s.maxReg k v).clock = s.clock := rfl
@[simp] theorem State.maxReg_tick (k v : Nat) : (s.maxReg k v).tick = s.tick := rfl
@[simp] theorem State.maxReg_power (k v : Nat) : (s.maxReg k v).power = s.power := rfl
@[simp] theorem State.maxReg_ev (k v : Nat) : (s.maxReg k v).ev = s.ev := rfl
@[simp] theorem State.maxReg_belay (k v : Nat) : (s.maxReg k v).belay = s.belay := rfl
@[simp] theorem State.maxReg_stage (k v : Nat) : (s.maxReg k v).stage = s.stage := rfl
@[simp] theorem State.maxReg_ctl (k v : Nat) : (s.maxReg k v).ctl = s.ctl := rfl
@[simp] theorem State.maxReg_xfer (k v : Nat) : (s.maxReg k v).xfer = s.xfer := rfl
@[simp] theorem State.maxReg_lcl (k v : Nat) : (s.maxReg k v).lcl = s.lcl := rfl
@[simp] theorem State.maxReg_report (k v : Nat) : (s.maxReg k v).report = s.report := rfl
@[simp] theorem State.maxReg_topo (k v : Nat) : (s.maxReg k v).topo = s.topo := rfl
@[simp] theorem State.maxReg_fw (k v : Nat) : (s.maxReg k v).fw = s.fw := rfl
@[simp] theorem State.maxReg_cairn (k v : Nat) : (s.maxReg k v).cairn = s.cairn := rfl
@[simp] theorem State.maxReg_part (k v : Nat) : (s.maxReg k v).part = s.part := rfl
@[simp] theorem State.maxReg_ports (k v : Nat) : (s.maxReg k v).ports = s.ports := rfl
@[simp] theorem State.maxReg_q (k v : Nat) : (s.maxReg k v).q = s.q := rfl
@[simp] theorem State.maxReg_rope (k v : Nat) : (s.maxReg k v).rope = s.rope := rfl
@[simp] theorem State.maxReg_inj (k v : Nat) : (s.maxReg k v).inj = s.inj := rfl
@[simp] theorem State.maxReg_host (k v : Nat) : (s.maxReg k v).host = s.host := rfl
@[simp] theorem State.maxReg_ptp (k v : Nat) : (s.maxReg k v).ptp = s.ptp := rfl
@[simp] theorem State.maxReg_tio (k v : Nat) : (s.maxReg k v).tio = s.tio := rfl
@[simp] theorem State.maxReg_sched (k v : Nat) : (s.maxReg k v).sched = s.sched := rfl
@[simp] theorem State.maxReg_carabs (k v : Nat) : (s.maxReg k v).carabs = s.carabs := rfl
@[simp] theorem State.maxReg_arb (k v : Nat) : (s.maxReg k v).arb = s.arb := rfl
@[simp] theorem State.maxReg_mem (k v : Nat) : (s.maxReg k v).mem = s.mem := rfl
@[simp] theorem State.maxReg_comp (k v : Nat) : (s.maxReg k v).comp = s.comp := rfl
@[simp] theorem State.maxReg_buf (k v : Nat) : (s.maxReg k v).buf = s.buf := rfl
@[simp] theorem State.maxReg_sacn (k v : Nat) : (s.maxReg k v).sacn = s.sacn := rfl
@[simp] theorem State.maxReg_egress (k v : Nat) : (s.maxReg k v).egress = s.egress := rfl
@[simp] theorem State.maxReg_fbx (k v : Nat) : (s.maxReg k v).fbx = s.fbx := rfl
@[simp] theorem State.maxReg_cal (k v : Nat) : (s.maxReg k v).cal = s.cal := rfl
@[simp] theorem State.maxReg_flash (k v : Nat) : (s.maxReg k v).flash = s.flash := rfl
@[simp] theorem State.maxReg_sent (k v : Nat) : (s.maxReg k v).sent = s.sent := rfl
@[simp] theorem State.maxReg_freeCount (k v : Nat) : (s.maxReg k v).freeCount = s.freeCount := rfl
@[simp] theorem State.maxReg_oracle (k v : Nat) : (s.maxReg k v).oracle = s.oracle := rfl
@[simp] theorem State.maxReg_pending (k v : Nat) : (s.maxReg k v).pending = s.pending := rfl

/-! ### `cmdState` -/

@[simp] theorem State.cmdState_pins (k v : Nat) : (s.cmdState k v).pins = s.pins := rfl
@[simp] theorem State.cmdState_mode (k v : Nat) : (s.cmdState k v).mode = s.mode := rfl
@[simp] theorem State.cmdState_clock (k v : Nat) : (s.cmdState k v).clock = s.clock := rfl
@[simp] theorem State.cmdState_tick (k v : Nat) : (s.cmdState k v).tick = s.tick := rfl
@[simp] theorem State.cmdState_power (k v : Nat) : (s.cmdState k v).power = s.power := rfl
@[simp] theorem State.cmdState_ev (k v : Nat) : (s.cmdState k v).ev = s.ev := rfl
@[simp] theorem State.cmdState_belay (k v : Nat) : (s.cmdState k v).belay = s.belay := rfl
@[simp] theorem State.cmdState_stage (k v : Nat) : (s.cmdState k v).stage = s.stage := rfl
@[simp] theorem State.cmdState_ctl (k v : Nat) : (s.cmdState k v).ctl = s.ctl := rfl
@[simp] theorem State.cmdState_xfer (k v : Nat) : (s.cmdState k v).xfer = s.xfer := rfl
@[simp] theorem State.cmdState_lcl (k v : Nat) : (s.cmdState k v).lcl = s.lcl := rfl
@[simp] theorem State.cmdState_report (k v : Nat) : (s.cmdState k v).report = s.report := rfl
@[simp] theorem State.cmdState_topo (k v : Nat) : (s.cmdState k v).topo = s.topo := rfl
@[simp] theorem State.cmdState_fw (k v : Nat) : (s.cmdState k v).fw = s.fw := rfl
@[simp] theorem State.cmdState_cairn (k v : Nat) : (s.cmdState k v).cairn = s.cairn := rfl
@[simp] theorem State.cmdState_part (k v : Nat) : (s.cmdState k v).part = s.part := rfl
@[simp] theorem State.cmdState_ports (k v : Nat) : (s.cmdState k v).ports = s.ports := rfl
@[simp] theorem State.cmdState_q (k v : Nat) : (s.cmdState k v).q = s.q := rfl
@[simp] theorem State.cmdState_rope (k v : Nat) : (s.cmdState k v).rope = s.rope := rfl
@[simp] theorem State.cmdState_inj (k v : Nat) : (s.cmdState k v).inj = s.inj := rfl
@[simp] theorem State.cmdState_host (k v : Nat) : (s.cmdState k v).host = s.host := rfl
@[simp] theorem State.cmdState_ptp (k v : Nat) : (s.cmdState k v).ptp = s.ptp := rfl
@[simp] theorem State.cmdState_tio (k v : Nat) : (s.cmdState k v).tio = s.tio := rfl
@[simp] theorem State.cmdState_sched (k v : Nat) : (s.cmdState k v).sched = s.sched := rfl
@[simp] theorem State.cmdState_carabs (k v : Nat) : (s.cmdState k v).carabs = s.carabs := rfl
@[simp] theorem State.cmdState_arb (k v : Nat) : (s.cmdState k v).arb = s.arb := rfl
@[simp] theorem State.cmdState_mem (k v : Nat) : (s.cmdState k v).mem = s.mem := rfl
@[simp] theorem State.cmdState_comp (k v : Nat) : (s.cmdState k v).comp = s.comp := rfl
@[simp] theorem State.cmdState_buf (k v : Nat) : (s.cmdState k v).buf = s.buf := rfl
@[simp] theorem State.cmdState_sacn (k v : Nat) : (s.cmdState k v).sacn = s.sacn := rfl
@[simp] theorem State.cmdState_egress (k v : Nat) : (s.cmdState k v).egress = s.egress := rfl
@[simp] theorem State.cmdState_fbx (k v : Nat) : (s.cmdState k v).fbx = s.fbx := rfl
@[simp] theorem State.cmdState_cal (k v : Nat) : (s.cmdState k v).cal = s.cal := rfl
@[simp] theorem State.cmdState_flash (k v : Nat) : (s.cmdState k v).flash = s.flash := rfl
@[simp] theorem State.cmdState_sent (k v : Nat) : (s.cmdState k v).sent = s.sent := rfl
@[simp] theorem State.cmdState_freeCount (k v : Nat) : (s.cmdState k v).freeCount = s.freeCount := rfl
@[simp] theorem State.cmdState_oracle (k v : Nat) : (s.cmdState k v).oracle = s.oracle := rfl
@[simp] theorem State.cmdState_pending (k v : Nat) : (s.cmdState k v).pending = s.pending := rfl

/-! ### `clearOnes` -/

@[simp] theorem State.clearOnes_pins (k v : Nat) : (s.clearOnes k v).pins = s.pins := rfl
@[simp] theorem State.clearOnes_mode (k v : Nat) : (s.clearOnes k v).mode = s.mode := rfl
@[simp] theorem State.clearOnes_clock (k v : Nat) : (s.clearOnes k v).clock = s.clock := rfl
@[simp] theorem State.clearOnes_tick (k v : Nat) : (s.clearOnes k v).tick = s.tick := rfl
@[simp] theorem State.clearOnes_power (k v : Nat) : (s.clearOnes k v).power = s.power := rfl
@[simp] theorem State.clearOnes_ev (k v : Nat) : (s.clearOnes k v).ev = s.ev := rfl
@[simp] theorem State.clearOnes_belay (k v : Nat) : (s.clearOnes k v).belay = s.belay := rfl
@[simp] theorem State.clearOnes_stage (k v : Nat) : (s.clearOnes k v).stage = s.stage := rfl
@[simp] theorem State.clearOnes_ctl (k v : Nat) : (s.clearOnes k v).ctl = s.ctl := rfl
@[simp] theorem State.clearOnes_xfer (k v : Nat) : (s.clearOnes k v).xfer = s.xfer := rfl
@[simp] theorem State.clearOnes_lcl (k v : Nat) : (s.clearOnes k v).lcl = s.lcl := rfl
@[simp] theorem State.clearOnes_report (k v : Nat) : (s.clearOnes k v).report = s.report := rfl
@[simp] theorem State.clearOnes_topo (k v : Nat) : (s.clearOnes k v).topo = s.topo := rfl
@[simp] theorem State.clearOnes_fw (k v : Nat) : (s.clearOnes k v).fw = s.fw := rfl
@[simp] theorem State.clearOnes_cairn (k v : Nat) : (s.clearOnes k v).cairn = s.cairn := rfl
@[simp] theorem State.clearOnes_part (k v : Nat) : (s.clearOnes k v).part = s.part := rfl
@[simp] theorem State.clearOnes_ports (k v : Nat) : (s.clearOnes k v).ports = s.ports := rfl
@[simp] theorem State.clearOnes_q (k v : Nat) : (s.clearOnes k v).q = s.q := rfl
@[simp] theorem State.clearOnes_rope (k v : Nat) : (s.clearOnes k v).rope = s.rope := rfl
@[simp] theorem State.clearOnes_inj (k v : Nat) : (s.clearOnes k v).inj = s.inj := rfl
@[simp] theorem State.clearOnes_host (k v : Nat) : (s.clearOnes k v).host = s.host := rfl
@[simp] theorem State.clearOnes_ptp (k v : Nat) : (s.clearOnes k v).ptp = s.ptp := rfl
@[simp] theorem State.clearOnes_tio (k v : Nat) : (s.clearOnes k v).tio = s.tio := rfl
@[simp] theorem State.clearOnes_sched (k v : Nat) : (s.clearOnes k v).sched = s.sched := rfl
@[simp] theorem State.clearOnes_carabs (k v : Nat) : (s.clearOnes k v).carabs = s.carabs := rfl
@[simp] theorem State.clearOnes_arb (k v : Nat) : (s.clearOnes k v).arb = s.arb := rfl
@[simp] theorem State.clearOnes_mem (k v : Nat) : (s.clearOnes k v).mem = s.mem := rfl
@[simp] theorem State.clearOnes_comp (k v : Nat) : (s.clearOnes k v).comp = s.comp := rfl
@[simp] theorem State.clearOnes_buf (k v : Nat) : (s.clearOnes k v).buf = s.buf := rfl
@[simp] theorem State.clearOnes_sacn (k v : Nat) : (s.clearOnes k v).sacn = s.sacn := rfl
@[simp] theorem State.clearOnes_egress (k v : Nat) : (s.clearOnes k v).egress = s.egress := rfl
@[simp] theorem State.clearOnes_fbx (k v : Nat) : (s.clearOnes k v).fbx = s.fbx := rfl
@[simp] theorem State.clearOnes_cal (k v : Nat) : (s.clearOnes k v).cal = s.cal := rfl
@[simp] theorem State.clearOnes_flash (k v : Nat) : (s.clearOnes k v).flash = s.flash := rfl
@[simp] theorem State.clearOnes_sent (k v : Nat) : (s.clearOnes k v).sent = s.sent := rfl
@[simp] theorem State.clearOnes_freeCount (k v : Nat) : (s.clearOnes k v).freeCount = s.freeCount := rfl
@[simp] theorem State.clearOnes_oracle (k v : Nat) : (s.clearOnes k v).oracle = s.oracle := rfl
@[simp] theorem State.clearOnes_pending (k v : Nat) : (s.clearOnes k v).pending = s.pending := rfl

/-! ### `send` -/

@[simp] theorem State.send_regs (o : Output) : (s.send o).regs = s.regs := rfl
@[simp] theorem State.send_pins (o : Output) : (s.send o).pins = s.pins := rfl
@[simp] theorem State.send_mode (o : Output) : (s.send o).mode = s.mode := rfl
@[simp] theorem State.send_clock (o : Output) : (s.send o).clock = s.clock := rfl
@[simp] theorem State.send_tick (o : Output) : (s.send o).tick = s.tick := rfl
@[simp] theorem State.send_power (o : Output) : (s.send o).power = s.power := rfl
@[simp] theorem State.send_ev (o : Output) : (s.send o).ev = s.ev := rfl
@[simp] theorem State.send_belay (o : Output) : (s.send o).belay = s.belay := rfl
@[simp] theorem State.send_stage (o : Output) : (s.send o).stage = s.stage := rfl
@[simp] theorem State.send_ctl (o : Output) : (s.send o).ctl = s.ctl := rfl
@[simp] theorem State.send_xfer (o : Output) : (s.send o).xfer = s.xfer := rfl
@[simp] theorem State.send_lcl (o : Output) : (s.send o).lcl = s.lcl := rfl
@[simp] theorem State.send_report (o : Output) : (s.send o).report = s.report := rfl
@[simp] theorem State.send_topo (o : Output) : (s.send o).topo = s.topo := rfl
@[simp] theorem State.send_fw (o : Output) : (s.send o).fw = s.fw := rfl
@[simp] theorem State.send_cairn (o : Output) : (s.send o).cairn = s.cairn := rfl
@[simp] theorem State.send_part (o : Output) : (s.send o).part = s.part := rfl
@[simp] theorem State.send_ports (o : Output) : (s.send o).ports = s.ports := rfl
@[simp] theorem State.send_q (o : Output) : (s.send o).q = s.q := rfl
@[simp] theorem State.send_rope (o : Output) : (s.send o).rope = s.rope := rfl
@[simp] theorem State.send_inj (o : Output) : (s.send o).inj = s.inj := rfl
@[simp] theorem State.send_host (o : Output) : (s.send o).host = s.host := rfl
@[simp] theorem State.send_ptp (o : Output) : (s.send o).ptp = s.ptp := rfl
@[simp] theorem State.send_tio (o : Output) : (s.send o).tio = s.tio := rfl
@[simp] theorem State.send_sched (o : Output) : (s.send o).sched = s.sched := rfl
@[simp] theorem State.send_carabs (o : Output) : (s.send o).carabs = s.carabs := rfl
@[simp] theorem State.send_arb (o : Output) : (s.send o).arb = s.arb := rfl
@[simp] theorem State.send_mem (o : Output) : (s.send o).mem = s.mem := rfl
@[simp] theorem State.send_comp (o : Output) : (s.send o).comp = s.comp := rfl
@[simp] theorem State.send_buf (o : Output) : (s.send o).buf = s.buf := rfl
@[simp] theorem State.send_sacn (o : Output) : (s.send o).sacn = s.sacn := rfl
@[simp] theorem State.send_egress (o : Output) : (s.send o).egress = s.egress := rfl
@[simp] theorem State.send_fbx (o : Output) : (s.send o).fbx = s.fbx := rfl
@[simp] theorem State.send_cal (o : Output) : (s.send o).cal = s.cal := rfl
@[simp] theorem State.send_flash (o : Output) : (s.send o).flash = s.flash := rfl
@[simp] theorem State.send_sent (o : Output) : (s.send o).sent = o :: s.sent := rfl
@[simp] theorem State.send_freeCount (o : Output) : (s.send o).freeCount = s.freeCount := rfl
@[simp] theorem State.send_oracle (o : Output) : (s.send o).oracle = s.oracle := rfl
@[simp] theorem State.send_pending (o : Output) : (s.send o).pending = s.pending := rfl

/-! ### `drew` -/

@[simp] theorem State.drew_regs : (s.drew).regs = s.regs := rfl
@[simp] theorem State.drew_pins : (s.drew).pins = s.pins := rfl
@[simp] theorem State.drew_mode : (s.drew).mode = s.mode := rfl
@[simp] theorem State.drew_clock : (s.drew).clock = s.clock := rfl
@[simp] theorem State.drew_tick : (s.drew).tick = s.tick := rfl
@[simp] theorem State.drew_power : (s.drew).power = s.power := rfl
@[simp] theorem State.drew_ev : (s.drew).ev = s.ev := rfl
@[simp] theorem State.drew_belay : (s.drew).belay = s.belay := rfl
@[simp] theorem State.drew_stage : (s.drew).stage = s.stage := rfl
@[simp] theorem State.drew_ctl : (s.drew).ctl = s.ctl := rfl
@[simp] theorem State.drew_xfer : (s.drew).xfer = s.xfer := rfl
@[simp] theorem State.drew_lcl : (s.drew).lcl = s.lcl := rfl
@[simp] theorem State.drew_report : (s.drew).report = s.report := rfl
@[simp] theorem State.drew_topo : (s.drew).topo = s.topo := rfl
@[simp] theorem State.drew_fw : (s.drew).fw = s.fw := rfl
@[simp] theorem State.drew_cairn : (s.drew).cairn = s.cairn := rfl
@[simp] theorem State.drew_part : (s.drew).part = s.part := rfl
@[simp] theorem State.drew_ports : (s.drew).ports = s.ports := rfl
@[simp] theorem State.drew_q : (s.drew).q = s.q := rfl
@[simp] theorem State.drew_rope : (s.drew).rope = s.rope := rfl
@[simp] theorem State.drew_inj : (s.drew).inj = s.inj := rfl
@[simp] theorem State.drew_host : (s.drew).host = s.host := rfl
@[simp] theorem State.drew_ptp : (s.drew).ptp = s.ptp := rfl
@[simp] theorem State.drew_tio : (s.drew).tio = s.tio := rfl
@[simp] theorem State.drew_sched : (s.drew).sched = s.sched := rfl
@[simp] theorem State.drew_carabs : (s.drew).carabs = s.carabs := rfl
@[simp] theorem State.drew_arb : (s.drew).arb = s.arb := rfl
@[simp] theorem State.drew_mem : (s.drew).mem = s.mem := rfl
@[simp] theorem State.drew_comp : (s.drew).comp = s.comp := rfl
@[simp] theorem State.drew_buf : (s.drew).buf = s.buf := rfl
@[simp] theorem State.drew_sacn : (s.drew).sacn = s.sacn := rfl
@[simp] theorem State.drew_egress : (s.drew).egress = s.egress := rfl
@[simp] theorem State.drew_fbx : (s.drew).fbx = s.fbx := rfl
@[simp] theorem State.drew_cal : (s.drew).cal = s.cal := rfl
@[simp] theorem State.drew_flash : (s.drew).flash = s.flash := rfl
@[simp] theorem State.drew_sent : (s.drew).sent = s.sent := rfl
@[simp] theorem State.drew_freeCount : (s.drew).freeCount = s.freeCount + 1 := rfl
@[simp] theorem State.drew_oracle : (s.drew).oracle = s.oracle := rfl
@[simp] theorem State.drew_pending : (s.drew).pending = s.pending := rfl

/-! ### `pass` -/

@[simp] theorem State.pass_regs (n : Nat) : (s.pass n).regs = s.regs := rfl
@[simp] theorem State.pass_pins (n : Nat) : (s.pass n).pins = s.pins := rfl
@[simp] theorem State.pass_mode (n : Nat) : (s.pass n).mode = s.mode := rfl
@[simp] theorem State.pass_clock (n : Nat) : (s.pass n).clock = clockAdvance n s.clock := rfl
@[simp] theorem State.pass_tick (n : Nat) : (s.pass n).tick = s.tick := rfl
@[simp] theorem State.pass_power (n : Nat) : (s.pass n).power = s.power := rfl
@[simp] theorem State.pass_ev (n : Nat) : (s.pass n).ev = s.ev := rfl
@[simp] theorem State.pass_belay (n : Nat) : (s.pass n).belay = s.belay := rfl
@[simp] theorem State.pass_stage (n : Nat) : (s.pass n).stage = s.stage := rfl
@[simp] theorem State.pass_ctl (n : Nat) : (s.pass n).ctl = s.ctl := rfl
@[simp] theorem State.pass_xfer (n : Nat) : (s.pass n).xfer = s.xfer := rfl
@[simp] theorem State.pass_lcl (n : Nat) : (s.pass n).lcl = s.lcl := rfl
@[simp] theorem State.pass_report (n : Nat) : (s.pass n).report = s.report := rfl
@[simp] theorem State.pass_topo (n : Nat) : (s.pass n).topo = s.topo := rfl
@[simp] theorem State.pass_fw (n : Nat) : (s.pass n).fw = s.fw := rfl
@[simp] theorem State.pass_cairn (n : Nat) : (s.pass n).cairn = s.cairn := rfl
@[simp] theorem State.pass_part (n : Nat) : (s.pass n).part = s.part := rfl
@[simp] theorem State.pass_ports (n : Nat) : (s.pass n).ports = s.ports := rfl
@[simp] theorem State.pass_q (n : Nat) : (s.pass n).q = s.q := rfl
@[simp] theorem State.pass_rope (n : Nat) : (s.pass n).rope = s.rope := rfl
@[simp] theorem State.pass_inj (n : Nat) : (s.pass n).inj = s.inj := rfl
@[simp] theorem State.pass_host (n : Nat) : (s.pass n).host = s.host := rfl
@[simp] theorem State.pass_ptp (n : Nat) : (s.pass n).ptp = s.ptp := rfl
@[simp] theorem State.pass_tio (n : Nat) : (s.pass n).tio = s.tio := rfl
@[simp] theorem State.pass_sched (n : Nat) : (s.pass n).sched = s.sched := rfl
@[simp] theorem State.pass_carabs (n : Nat) : (s.pass n).carabs = s.carabs := rfl
@[simp] theorem State.pass_arb (n : Nat) : (s.pass n).arb = s.arb := rfl
@[simp] theorem State.pass_mem (n : Nat) : (s.pass n).mem = s.mem := rfl
@[simp] theorem State.pass_comp (n : Nat) : (s.pass n).comp = s.comp := rfl
@[simp] theorem State.pass_buf (n : Nat) : (s.pass n).buf = s.buf := rfl
@[simp] theorem State.pass_sacn (n : Nat) : (s.pass n).sacn = s.sacn := rfl
@[simp] theorem State.pass_egress (n : Nat) : (s.pass n).egress = s.egress := rfl
@[simp] theorem State.pass_fbx (n : Nat) : (s.pass n).fbx = s.fbx := rfl
@[simp] theorem State.pass_cal (n : Nat) : (s.pass n).cal = s.cal := rfl
@[simp] theorem State.pass_flash (n : Nat) : (s.pass n).flash = s.flash := rfl
@[simp] theorem State.pass_sent (n : Nat) : (s.pass n).sent = s.sent := rfl
@[simp] theorem State.pass_freeCount (n : Nat) : (s.pass n).freeCount = s.freeCount := rfl
@[simp] theorem State.pass_oracle (n : Nat) : (s.pass n).oracle = s.oracle := rfl
@[simp] theorem State.pass_pending (n : Nat) : (s.pass n).pending = s.pending := rfl

/-! ### `reach` -/

@[simp] theorem State.reach_regs (n : Nat) : (s.reach n).regs = s.regs := rfl
@[simp] theorem State.reach_pins (n : Nat) : (s.reach n).pins = s.pins := rfl
@[simp] theorem State.reach_mode (n : Nat) : (s.reach n).mode = s.mode := rfl
@[simp] theorem State.reach_tick (n : Nat) : (s.reach n).tick = s.tick := rfl
@[simp] theorem State.reach_power (n : Nat) : (s.reach n).power = s.power := rfl
@[simp] theorem State.reach_ev (n : Nat) : (s.reach n).ev = s.ev := rfl
@[simp] theorem State.reach_belay (n : Nat) : (s.reach n).belay = s.belay := rfl
@[simp] theorem State.reach_stage (n : Nat) : (s.reach n).stage = s.stage := rfl
@[simp] theorem State.reach_ctl (n : Nat) : (s.reach n).ctl = s.ctl := rfl
@[simp] theorem State.reach_xfer (n : Nat) : (s.reach n).xfer = s.xfer := rfl
@[simp] theorem State.reach_lcl (n : Nat) : (s.reach n).lcl = s.lcl := rfl
@[simp] theorem State.reach_report (n : Nat) : (s.reach n).report = s.report := rfl
@[simp] theorem State.reach_topo (n : Nat) : (s.reach n).topo = s.topo := rfl
@[simp] theorem State.reach_fw (n : Nat) : (s.reach n).fw = s.fw := rfl
@[simp] theorem State.reach_cairn (n : Nat) : (s.reach n).cairn = s.cairn := rfl
@[simp] theorem State.reach_part (n : Nat) : (s.reach n).part = s.part := rfl
@[simp] theorem State.reach_ports (n : Nat) : (s.reach n).ports = s.ports := rfl
@[simp] theorem State.reach_q (n : Nat) : (s.reach n).q = s.q := rfl
@[simp] theorem State.reach_rope (n : Nat) : (s.reach n).rope = s.rope := rfl
@[simp] theorem State.reach_inj (n : Nat) : (s.reach n).inj = s.inj := rfl
@[simp] theorem State.reach_host (n : Nat) : (s.reach n).host = s.host := rfl
@[simp] theorem State.reach_ptp (n : Nat) : (s.reach n).ptp = s.ptp := rfl
@[simp] theorem State.reach_tio (n : Nat) : (s.reach n).tio = s.tio := rfl
@[simp] theorem State.reach_sched (n : Nat) : (s.reach n).sched = s.sched := rfl
@[simp] theorem State.reach_carabs (n : Nat) : (s.reach n).carabs = s.carabs := rfl
@[simp] theorem State.reach_arb (n : Nat) : (s.reach n).arb = s.arb := rfl
@[simp] theorem State.reach_mem (n : Nat) : (s.reach n).mem = s.mem := rfl
@[simp] theorem State.reach_comp (n : Nat) : (s.reach n).comp = s.comp := rfl
@[simp] theorem State.reach_buf (n : Nat) : (s.reach n).buf = s.buf := rfl
@[simp] theorem State.reach_sacn (n : Nat) : (s.reach n).sacn = s.sacn := rfl
@[simp] theorem State.reach_egress (n : Nat) : (s.reach n).egress = s.egress := rfl
@[simp] theorem State.reach_fbx (n : Nat) : (s.reach n).fbx = s.fbx := rfl
@[simp] theorem State.reach_cal (n : Nat) : (s.reach n).cal = s.cal := rfl
@[simp] theorem State.reach_flash (n : Nat) : (s.reach n).flash = s.flash := rfl
@[simp] theorem State.reach_sent (n : Nat) : (s.reach n).sent = s.sent := rfl
@[simp] theorem State.reach_freeCount (n : Nat) : (s.reach n).freeCount = s.freeCount := rfl
@[simp] theorem State.reach_oracle (n : Nat) : (s.reach n).oracle = s.oracle := rfl
@[simp] theorem State.reach_pending (n : Nat) : (s.reach n).pending = s.pending := rfl

/-! ### `reachCclk` -/

@[simp] theorem State.reachCclk_regs (n : Nat) : (s.reachCclk n).regs = s.regs := rfl
@[simp] theorem State.reachCclk_pins (n : Nat) : (s.reachCclk n).pins = s.pins := rfl
@[simp] theorem State.reachCclk_mode (n : Nat) : (s.reachCclk n).mode = s.mode := rfl
@[simp] theorem State.reachCclk_tick (n : Nat) : (s.reachCclk n).tick = s.tick := rfl
@[simp] theorem State.reachCclk_power (n : Nat) : (s.reachCclk n).power = s.power := rfl
@[simp] theorem State.reachCclk_ev (n : Nat) : (s.reachCclk n).ev = s.ev := rfl
@[simp] theorem State.reachCclk_belay (n : Nat) : (s.reachCclk n).belay = s.belay := rfl
@[simp] theorem State.reachCclk_stage (n : Nat) : (s.reachCclk n).stage = s.stage := rfl
@[simp] theorem State.reachCclk_ctl (n : Nat) : (s.reachCclk n).ctl = s.ctl := rfl
@[simp] theorem State.reachCclk_xfer (n : Nat) : (s.reachCclk n).xfer = s.xfer := rfl
@[simp] theorem State.reachCclk_lcl (n : Nat) : (s.reachCclk n).lcl = s.lcl := rfl
@[simp] theorem State.reachCclk_report (n : Nat) : (s.reachCclk n).report = s.report := rfl
@[simp] theorem State.reachCclk_topo (n : Nat) : (s.reachCclk n).topo = s.topo := rfl
@[simp] theorem State.reachCclk_fw (n : Nat) : (s.reachCclk n).fw = s.fw := rfl
@[simp] theorem State.reachCclk_cairn (n : Nat) : (s.reachCclk n).cairn = s.cairn := rfl
@[simp] theorem State.reachCclk_part (n : Nat) : (s.reachCclk n).part = s.part := rfl
@[simp] theorem State.reachCclk_ports (n : Nat) : (s.reachCclk n).ports = s.ports := rfl
@[simp] theorem State.reachCclk_q (n : Nat) : (s.reachCclk n).q = s.q := rfl
@[simp] theorem State.reachCclk_rope (n : Nat) : (s.reachCclk n).rope = s.rope := rfl
@[simp] theorem State.reachCclk_inj (n : Nat) : (s.reachCclk n).inj = s.inj := rfl
@[simp] theorem State.reachCclk_host (n : Nat) : (s.reachCclk n).host = s.host := rfl
@[simp] theorem State.reachCclk_ptp (n : Nat) : (s.reachCclk n).ptp = s.ptp := rfl
@[simp] theorem State.reachCclk_tio (n : Nat) : (s.reachCclk n).tio = s.tio := rfl
@[simp] theorem State.reachCclk_sched (n : Nat) : (s.reachCclk n).sched = s.sched := rfl
@[simp] theorem State.reachCclk_carabs (n : Nat) : (s.reachCclk n).carabs = s.carabs := rfl
@[simp] theorem State.reachCclk_arb (n : Nat) : (s.reachCclk n).arb = s.arb := rfl
@[simp] theorem State.reachCclk_mem (n : Nat) : (s.reachCclk n).mem = s.mem := rfl
@[simp] theorem State.reachCclk_comp (n : Nat) : (s.reachCclk n).comp = s.comp := rfl
@[simp] theorem State.reachCclk_buf (n : Nat) : (s.reachCclk n).buf = s.buf := rfl
@[simp] theorem State.reachCclk_sacn (n : Nat) : (s.reachCclk n).sacn = s.sacn := rfl
@[simp] theorem State.reachCclk_egress (n : Nat) : (s.reachCclk n).egress = s.egress := rfl
@[simp] theorem State.reachCclk_fbx (n : Nat) : (s.reachCclk n).fbx = s.fbx := rfl
@[simp] theorem State.reachCclk_cal (n : Nat) : (s.reachCclk n).cal = s.cal := rfl
@[simp] theorem State.reachCclk_flash (n : Nat) : (s.reachCclk n).flash = s.flash := rfl
@[simp] theorem State.reachCclk_sent (n : Nat) : (s.reachCclk n).sent = s.sent := rfl
@[simp] theorem State.reachCclk_freeCount (n : Nat) : (s.reachCclk n).freeCount = s.freeCount := rfl
@[simp] theorem State.reachCclk_oracle (n : Nat) : (s.reachCclk n).oracle = s.oracle := rfl
@[simp] theorem State.reachCclk_pending (n : Nat) : (s.reachCclk n).pending = s.pending := rfl

/-! ### `shiftClock` -/

@[simp] theorem State.shiftClock_regs (d : Int) : (s.shiftClock d).regs = s.regs := rfl
@[simp] theorem State.shiftClock_pins (d : Int) : (s.shiftClock d).pins = s.pins := rfl
@[simp] theorem State.shiftClock_mode (d : Int) : (s.shiftClock d).mode = s.mode := rfl
@[simp] theorem State.shiftClock_tick (d : Int) : (s.shiftClock d).tick = s.tick := rfl
@[simp] theorem State.shiftClock_power (d : Int) : (s.shiftClock d).power = s.power := rfl
@[simp] theorem State.shiftClock_ev (d : Int) : (s.shiftClock d).ev = s.ev := rfl
@[simp] theorem State.shiftClock_belay (d : Int) : (s.shiftClock d).belay = s.belay := rfl
@[simp] theorem State.shiftClock_stage (d : Int) : (s.shiftClock d).stage = s.stage := rfl
@[simp] theorem State.shiftClock_ctl (d : Int) : (s.shiftClock d).ctl = s.ctl := rfl
@[simp] theorem State.shiftClock_xfer (d : Int) : (s.shiftClock d).xfer = s.xfer := rfl
@[simp] theorem State.shiftClock_lcl (d : Int) : (s.shiftClock d).lcl = s.lcl := rfl
@[simp] theorem State.shiftClock_report (d : Int) : (s.shiftClock d).report = s.report := rfl
@[simp] theorem State.shiftClock_topo (d : Int) : (s.shiftClock d).topo = s.topo := rfl
@[simp] theorem State.shiftClock_fw (d : Int) : (s.shiftClock d).fw = s.fw := rfl
@[simp] theorem State.shiftClock_cairn (d : Int) : (s.shiftClock d).cairn = s.cairn := rfl
@[simp] theorem State.shiftClock_part (d : Int) : (s.shiftClock d).part = s.part := rfl
@[simp] theorem State.shiftClock_ports (d : Int) : (s.shiftClock d).ports = s.ports := rfl
@[simp] theorem State.shiftClock_q (d : Int) : (s.shiftClock d).q = s.q := rfl
@[simp] theorem State.shiftClock_rope (d : Int) : (s.shiftClock d).rope = s.rope := rfl
@[simp] theorem State.shiftClock_inj (d : Int) : (s.shiftClock d).inj = s.inj := rfl
@[simp] theorem State.shiftClock_host (d : Int) : (s.shiftClock d).host = s.host := rfl
@[simp] theorem State.shiftClock_ptp (d : Int) : (s.shiftClock d).ptp = s.ptp := rfl
@[simp] theorem State.shiftClock_tio (d : Int) : (s.shiftClock d).tio = s.tio := rfl
@[simp] theorem State.shiftClock_sched (d : Int) : (s.shiftClock d).sched = s.sched := rfl
@[simp] theorem State.shiftClock_carabs (d : Int) : (s.shiftClock d).carabs = s.carabs := rfl
@[simp] theorem State.shiftClock_arb (d : Int) : (s.shiftClock d).arb = s.arb := rfl
@[simp] theorem State.shiftClock_mem (d : Int) : (s.shiftClock d).mem = s.mem := rfl
@[simp] theorem State.shiftClock_comp (d : Int) : (s.shiftClock d).comp = s.comp := rfl
@[simp] theorem State.shiftClock_buf (d : Int) : (s.shiftClock d).buf = s.buf := rfl
@[simp] theorem State.shiftClock_sacn (d : Int) : (s.shiftClock d).sacn = s.sacn := rfl
@[simp] theorem State.shiftClock_egress (d : Int) : (s.shiftClock d).egress = s.egress := rfl
@[simp] theorem State.shiftClock_fbx (d : Int) : (s.shiftClock d).fbx = s.fbx := rfl
@[simp] theorem State.shiftClock_cal (d : Int) : (s.shiftClock d).cal = s.cal := rfl
@[simp] theorem State.shiftClock_flash (d : Int) : (s.shiftClock d).flash = s.flash := rfl
@[simp] theorem State.shiftClock_sent (d : Int) : (s.shiftClock d).sent = s.sent := rfl
@[simp] theorem State.shiftClock_freeCount (d : Int) : (s.shiftClock d).freeCount = s.freeCount := rfl
@[simp] theorem State.shiftClock_oracle (d : Int) : (s.shiftClock d).oracle = s.oracle := rfl
@[simp] theorem State.shiftClock_pending (d : Int) : (s.shiftClock d).pending = s.pending := rfl

/-! ### `setPort` -/

@[simp] theorem State.setPort_regs (p : Nat) (x : PortSt) : (s.setPort p x).regs = s.regs := rfl
@[simp] theorem State.setPort_pins (p : Nat) (x : PortSt) : (s.setPort p x).pins = s.pins := rfl
@[simp] theorem State.setPort_mode (p : Nat) (x : PortSt) : (s.setPort p x).mode = s.mode := rfl
@[simp] theorem State.setPort_clock (p : Nat) (x : PortSt) : (s.setPort p x).clock = s.clock := rfl
@[simp] theorem State.setPort_tick (p : Nat) (x : PortSt) : (s.setPort p x).tick = s.tick := rfl
@[simp] theorem State.setPort_power (p : Nat) (x : PortSt) : (s.setPort p x).power = s.power := rfl
@[simp] theorem State.setPort_ev (p : Nat) (x : PortSt) : (s.setPort p x).ev = s.ev := rfl
@[simp] theorem State.setPort_belay (p : Nat) (x : PortSt) : (s.setPort p x).belay = s.belay := rfl
@[simp] theorem State.setPort_stage (p : Nat) (x : PortSt) : (s.setPort p x).stage = s.stage := rfl
@[simp] theorem State.setPort_ctl (p : Nat) (x : PortSt) : (s.setPort p x).ctl = s.ctl := rfl
@[simp] theorem State.setPort_xfer (p : Nat) (x : PortSt) : (s.setPort p x).xfer = s.xfer := rfl
@[simp] theorem State.setPort_lcl (p : Nat) (x : PortSt) : (s.setPort p x).lcl = s.lcl := rfl
@[simp] theorem State.setPort_report (p : Nat) (x : PortSt) : (s.setPort p x).report = s.report := rfl
@[simp] theorem State.setPort_topo (p : Nat) (x : PortSt) : (s.setPort p x).topo = s.topo := rfl
@[simp] theorem State.setPort_fw (p : Nat) (x : PortSt) : (s.setPort p x).fw = s.fw := rfl
@[simp] theorem State.setPort_cairn (p : Nat) (x : PortSt) : (s.setPort p x).cairn = s.cairn := rfl
@[simp] theorem State.setPort_part (p : Nat) (x : PortSt) : (s.setPort p x).part = s.part := rfl
@[simp] theorem State.setPort_ports (p : Nat) (x : PortSt) : (s.setPort p x).ports = s.ports.set p x := rfl
@[simp] theorem State.setPort_q (p : Nat) (x : PortSt) : (s.setPort p x).q = s.q := rfl
@[simp] theorem State.setPort_rope (p : Nat) (x : PortSt) : (s.setPort p x).rope = s.rope := rfl
@[simp] theorem State.setPort_inj (p : Nat) (x : PortSt) : (s.setPort p x).inj = s.inj := rfl
@[simp] theorem State.setPort_host (p : Nat) (x : PortSt) : (s.setPort p x).host = s.host := rfl
@[simp] theorem State.setPort_ptp (p : Nat) (x : PortSt) : (s.setPort p x).ptp = s.ptp := rfl
@[simp] theorem State.setPort_tio (p : Nat) (x : PortSt) : (s.setPort p x).tio = s.tio := rfl
@[simp] theorem State.setPort_sched (p : Nat) (x : PortSt) : (s.setPort p x).sched = s.sched := rfl
@[simp] theorem State.setPort_carabs (p : Nat) (x : PortSt) : (s.setPort p x).carabs = s.carabs := rfl
@[simp] theorem State.setPort_arb (p : Nat) (x : PortSt) : (s.setPort p x).arb = s.arb := rfl
@[simp] theorem State.setPort_mem (p : Nat) (x : PortSt) : (s.setPort p x).mem = s.mem := rfl
@[simp] theorem State.setPort_comp (p : Nat) (x : PortSt) : (s.setPort p x).comp = s.comp := rfl
@[simp] theorem State.setPort_buf (p : Nat) (x : PortSt) : (s.setPort p x).buf = s.buf := rfl
@[simp] theorem State.setPort_sacn (p : Nat) (x : PortSt) : (s.setPort p x).sacn = s.sacn := rfl
@[simp] theorem State.setPort_egress (p : Nat) (x : PortSt) : (s.setPort p x).egress = s.egress := rfl
@[simp] theorem State.setPort_fbx (p : Nat) (x : PortSt) : (s.setPort p x).fbx = s.fbx := rfl
@[simp] theorem State.setPort_cal (p : Nat) (x : PortSt) : (s.setPort p x).cal = s.cal := rfl
@[simp] theorem State.setPort_flash (p : Nat) (x : PortSt) : (s.setPort p x).flash = s.flash := rfl
@[simp] theorem State.setPort_sent (p : Nat) (x : PortSt) : (s.setPort p x).sent = s.sent := rfl
@[simp] theorem State.setPort_freeCount (p : Nat) (x : PortSt) : (s.setPort p x).freeCount = s.freeCount := rfl
@[simp] theorem State.setPort_oracle (p : Nat) (x : PortSt) : (s.setPort p x).oracle = s.oracle := rfl
@[simp] theorem State.setPort_pending (p : Nat) (x : PortSt) : (s.setPort p x).pending = s.pending := rfl

/-! ### `setEci` -/

@[simp] theorem State.setEci_regs (p : Nat) (x : EciSt) : (s.setEci p x).regs = s.regs := rfl
@[simp] theorem State.setEci_pins (p : Nat) (x : EciSt) : (s.setEci p x).pins = s.pins := rfl
@[simp] theorem State.setEci_mode (p : Nat) (x : EciSt) : (s.setEci p x).mode = s.mode := rfl
@[simp] theorem State.setEci_clock (p : Nat) (x : EciSt) : (s.setEci p x).clock = s.clock := rfl
@[simp] theorem State.setEci_tick (p : Nat) (x : EciSt) : (s.setEci p x).tick = s.tick := rfl
@[simp] theorem State.setEci_power (p : Nat) (x : EciSt) : (s.setEci p x).power = s.power := rfl
@[simp] theorem State.setEci_ev (p : Nat) (x : EciSt) : (s.setEci p x).ev = s.ev := rfl
@[simp] theorem State.setEci_belay (p : Nat) (x : EciSt) : (s.setEci p x).belay = s.belay := rfl
@[simp] theorem State.setEci_stage (p : Nat) (x : EciSt) : (s.setEci p x).stage = s.stage := rfl
@[simp] theorem State.setEci_ctl (p : Nat) (x : EciSt) : (s.setEci p x).ctl = s.ctl := rfl
@[simp] theorem State.setEci_xfer (p : Nat) (x : EciSt) : (s.setEci p x).xfer = s.xfer := rfl
@[simp] theorem State.setEci_lcl (p : Nat) (x : EciSt) : (s.setEci p x).lcl = s.lcl := rfl
@[simp] theorem State.setEci_report (p : Nat) (x : EciSt) : (s.setEci p x).report = s.report := rfl
@[simp] theorem State.setEci_topo (p : Nat) (x : EciSt) : (s.setEci p x).topo = s.topo := rfl
@[simp] theorem State.setEci_fw (p : Nat) (x : EciSt) : (s.setEci p x).fw = s.fw := rfl
@[simp] theorem State.setEci_cairn (p : Nat) (x : EciSt) : (s.setEci p x).cairn = s.cairn := rfl
@[simp] theorem State.setEci_part (p : Nat) (x : EciSt) : (s.setEci p x).part = s.part := rfl
@[simp] theorem State.setEci_ports (p : Nat) (x : EciSt) : (s.setEci p x).ports = s.ports := rfl
@[simp] theorem State.setEci_q (p : Nat) (x : EciSt) : (s.setEci p x).q = s.q := rfl
@[simp] theorem State.setEci_rope (p : Nat) (x : EciSt) : (s.setEci p x).rope = s.rope := rfl
@[simp] theorem State.setEci_inj (p : Nat) (x : EciSt) : (s.setEci p x).inj = s.inj := rfl
@[simp] theorem State.setEci_host (p : Nat) (x : EciSt) : (s.setEci p x).host = s.host := rfl
@[simp] theorem State.setEci_ptp (p : Nat) (x : EciSt) : (s.setEci p x).ptp = s.ptp := rfl
@[simp] theorem State.setEci_sched (p : Nat) (x : EciSt) : (s.setEci p x).sched = s.sched := rfl
@[simp] theorem State.setEci_carabs (p : Nat) (x : EciSt) : (s.setEci p x).carabs = s.carabs := rfl
@[simp] theorem State.setEci_arb (p : Nat) (x : EciSt) : (s.setEci p x).arb = s.arb := rfl
@[simp] theorem State.setEci_mem (p : Nat) (x : EciSt) : (s.setEci p x).mem = s.mem := rfl
@[simp] theorem State.setEci_comp (p : Nat) (x : EciSt) : (s.setEci p x).comp = s.comp := rfl
@[simp] theorem State.setEci_buf (p : Nat) (x : EciSt) : (s.setEci p x).buf = s.buf := rfl
@[simp] theorem State.setEci_sacn (p : Nat) (x : EciSt) : (s.setEci p x).sacn = s.sacn := rfl
@[simp] theorem State.setEci_egress (p : Nat) (x : EciSt) : (s.setEci p x).egress = s.egress := rfl
@[simp] theorem State.setEci_fbx (p : Nat) (x : EciSt) : (s.setEci p x).fbx = s.fbx := rfl
@[simp] theorem State.setEci_cal (p : Nat) (x : EciSt) : (s.setEci p x).cal = s.cal := rfl
@[simp] theorem State.setEci_flash (p : Nat) (x : EciSt) : (s.setEci p x).flash = s.flash := rfl
@[simp] theorem State.setEci_sent (p : Nat) (x : EciSt) : (s.setEci p x).sent = s.sent := rfl
@[simp] theorem State.setEci_freeCount (p : Nat) (x : EciSt) : (s.setEci p x).freeCount = s.freeCount := rfl
@[simp] theorem State.setEci_oracle (p : Nat) (x : EciSt) : (s.setEci p x).oracle = s.oracle := rfl
@[simp] theorem State.setEci_pending (p : Nat) (x : EciSt) : (s.setEci p x).pending = s.pending := rfl

/-! ### `setStream` -/

@[simp] theorem State.setStream_regs (p : Nat) (x : StreamSt) : (s.setStream p x).regs = s.regs := rfl
@[simp] theorem State.setStream_pins (p : Nat) (x : StreamSt) : (s.setStream p x).pins = s.pins := rfl
@[simp] theorem State.setStream_mode (p : Nat) (x : StreamSt) : (s.setStream p x).mode = s.mode := rfl
@[simp] theorem State.setStream_clock (p : Nat) (x : StreamSt) : (s.setStream p x).clock = s.clock := rfl
@[simp] theorem State.setStream_tick (p : Nat) (x : StreamSt) : (s.setStream p x).tick = s.tick := rfl
@[simp] theorem State.setStream_power (p : Nat) (x : StreamSt) : (s.setStream p x).power = s.power := rfl
@[simp] theorem State.setStream_ev (p : Nat) (x : StreamSt) : (s.setStream p x).ev = s.ev := rfl
@[simp] theorem State.setStream_belay (p : Nat) (x : StreamSt) : (s.setStream p x).belay = s.belay := rfl
@[simp] theorem State.setStream_stage (p : Nat) (x : StreamSt) : (s.setStream p x).stage = s.stage := rfl
@[simp] theorem State.setStream_ctl (p : Nat) (x : StreamSt) : (s.setStream p x).ctl = s.ctl := rfl
@[simp] theorem State.setStream_xfer (p : Nat) (x : StreamSt) : (s.setStream p x).xfer = s.xfer := rfl
@[simp] theorem State.setStream_lcl (p : Nat) (x : StreamSt) : (s.setStream p x).lcl = s.lcl := rfl
@[simp] theorem State.setStream_report (p : Nat) (x : StreamSt) : (s.setStream p x).report = s.report := rfl
@[simp] theorem State.setStream_topo (p : Nat) (x : StreamSt) : (s.setStream p x).topo = s.topo := rfl
@[simp] theorem State.setStream_fw (p : Nat) (x : StreamSt) : (s.setStream p x).fw = s.fw := rfl
@[simp] theorem State.setStream_cairn (p : Nat) (x : StreamSt) : (s.setStream p x).cairn = s.cairn := rfl
@[simp] theorem State.setStream_part (p : Nat) (x : StreamSt) : (s.setStream p x).part = s.part := rfl
@[simp] theorem State.setStream_ports (p : Nat) (x : StreamSt) : (s.setStream p x).ports = s.ports := rfl
@[simp] theorem State.setStream_q (p : Nat) (x : StreamSt) : (s.setStream p x).q = s.q := rfl
@[simp] theorem State.setStream_rope (p : Nat) (x : StreamSt) : (s.setStream p x).rope = s.rope := rfl
@[simp] theorem State.setStream_inj (p : Nat) (x : StreamSt) : (s.setStream p x).inj = s.inj := rfl
@[simp] theorem State.setStream_host (p : Nat) (x : StreamSt) : (s.setStream p x).host = s.host := rfl
@[simp] theorem State.setStream_ptp (p : Nat) (x : StreamSt) : (s.setStream p x).ptp = s.ptp := rfl
@[simp] theorem State.setStream_tio (p : Nat) (x : StreamSt) : (s.setStream p x).tio = s.tio := rfl
@[simp] theorem State.setStream_sched (p : Nat) (x : StreamSt) : (s.setStream p x).sched = s.sched := rfl
@[simp] theorem State.setStream_carabs (p : Nat) (x : StreamSt) : (s.setStream p x).carabs = s.carabs := rfl
@[simp] theorem State.setStream_arb (p : Nat) (x : StreamSt) : (s.setStream p x).arb = s.arb := rfl
@[simp] theorem State.setStream_mem (p : Nat) (x : StreamSt) : (s.setStream p x).mem = s.mem := rfl
@[simp] theorem State.setStream_buf (p : Nat) (x : StreamSt) : (s.setStream p x).buf = s.buf := rfl
@[simp] theorem State.setStream_sacn (p : Nat) (x : StreamSt) : (s.setStream p x).sacn = s.sacn := rfl
@[simp] theorem State.setStream_egress (p : Nat) (x : StreamSt) : (s.setStream p x).egress = s.egress := rfl
@[simp] theorem State.setStream_fbx (p : Nat) (x : StreamSt) : (s.setStream p x).fbx = s.fbx := rfl
@[simp] theorem State.setStream_cal (p : Nat) (x : StreamSt) : (s.setStream p x).cal = s.cal := rfl
@[simp] theorem State.setStream_flash (p : Nat) (x : StreamSt) : (s.setStream p x).flash = s.flash := rfl
@[simp] theorem State.setStream_sent (p : Nat) (x : StreamSt) : (s.setStream p x).sent = s.sent := rfl
@[simp] theorem State.setStream_freeCount (p : Nat) (x : StreamSt) : (s.setStream p x).freeCount = s.freeCount := rfl
@[simp] theorem State.setStream_oracle (p : Nat) (x : StreamSt) : (s.setStream p x).oracle = s.oracle := rfl
@[simp] theorem State.setStream_pending (p : Nat) (x : StreamSt) : (s.setStream p x).pending = s.pending := rfl

/-! ### `setLoop` -/

@[simp] theorem State.setLoop_regs (p : Nat) (x : LoopSt) : (s.setLoop p x).regs = s.regs := rfl
@[simp] theorem State.setLoop_pins (p : Nat) (x : LoopSt) : (s.setLoop p x).pins = s.pins := rfl
@[simp] theorem State.setLoop_mode (p : Nat) (x : LoopSt) : (s.setLoop p x).mode = s.mode := rfl
@[simp] theorem State.setLoop_clock (p : Nat) (x : LoopSt) : (s.setLoop p x).clock = s.clock := rfl
@[simp] theorem State.setLoop_tick (p : Nat) (x : LoopSt) : (s.setLoop p x).tick = s.tick := rfl
@[simp] theorem State.setLoop_power (p : Nat) (x : LoopSt) : (s.setLoop p x).power = s.power := rfl
@[simp] theorem State.setLoop_ev (p : Nat) (x : LoopSt) : (s.setLoop p x).ev = s.ev := rfl
@[simp] theorem State.setLoop_belay (p : Nat) (x : LoopSt) : (s.setLoop p x).belay = s.belay := rfl
@[simp] theorem State.setLoop_stage (p : Nat) (x : LoopSt) : (s.setLoop p x).stage = s.stage := rfl
@[simp] theorem State.setLoop_ctl (p : Nat) (x : LoopSt) : (s.setLoop p x).ctl = s.ctl := rfl
@[simp] theorem State.setLoop_xfer (p : Nat) (x : LoopSt) : (s.setLoop p x).xfer = s.xfer := rfl
@[simp] theorem State.setLoop_lcl (p : Nat) (x : LoopSt) : (s.setLoop p x).lcl = s.lcl := rfl
@[simp] theorem State.setLoop_report (p : Nat) (x : LoopSt) : (s.setLoop p x).report = s.report := rfl
@[simp] theorem State.setLoop_topo (p : Nat) (x : LoopSt) : (s.setLoop p x).topo = s.topo := rfl
@[simp] theorem State.setLoop_fw (p : Nat) (x : LoopSt) : (s.setLoop p x).fw = s.fw := rfl
@[simp] theorem State.setLoop_cairn (p : Nat) (x : LoopSt) : (s.setLoop p x).cairn = s.cairn := rfl
@[simp] theorem State.setLoop_part (p : Nat) (x : LoopSt) : (s.setLoop p x).part = s.part := rfl
@[simp] theorem State.setLoop_ports (p : Nat) (x : LoopSt) : (s.setLoop p x).ports = s.ports := rfl
@[simp] theorem State.setLoop_q (p : Nat) (x : LoopSt) : (s.setLoop p x).q = s.q := rfl
@[simp] theorem State.setLoop_rope (p : Nat) (x : LoopSt) : (s.setLoop p x).rope = s.rope := rfl
@[simp] theorem State.setLoop_inj (p : Nat) (x : LoopSt) : (s.setLoop p x).inj = s.inj := rfl
@[simp] theorem State.setLoop_host (p : Nat) (x : LoopSt) : (s.setLoop p x).host = s.host := rfl
@[simp] theorem State.setLoop_ptp (p : Nat) (x : LoopSt) : (s.setLoop p x).ptp = s.ptp := rfl
@[simp] theorem State.setLoop_tio (p : Nat) (x : LoopSt) : (s.setLoop p x).tio = s.tio := rfl
@[simp] theorem State.setLoop_sched (p : Nat) (x : LoopSt) : (s.setLoop p x).sched = s.sched := rfl
@[simp] theorem State.setLoop_carabs (p : Nat) (x : LoopSt) : (s.setLoop p x).carabs = s.carabs := rfl
@[simp] theorem State.setLoop_arb (p : Nat) (x : LoopSt) : (s.setLoop p x).arb = s.arb := rfl
@[simp] theorem State.setLoop_mem (p : Nat) (x : LoopSt) : (s.setLoop p x).mem = s.mem := rfl
@[simp] theorem State.setLoop_buf (p : Nat) (x : LoopSt) : (s.setLoop p x).buf = s.buf := rfl
@[simp] theorem State.setLoop_sacn (p : Nat) (x : LoopSt) : (s.setLoop p x).sacn = s.sacn := rfl
@[simp] theorem State.setLoop_egress (p : Nat) (x : LoopSt) : (s.setLoop p x).egress = s.egress := rfl
@[simp] theorem State.setLoop_fbx (p : Nat) (x : LoopSt) : (s.setLoop p x).fbx = s.fbx := rfl
@[simp] theorem State.setLoop_cal (p : Nat) (x : LoopSt) : (s.setLoop p x).cal = s.cal := rfl
@[simp] theorem State.setLoop_flash (p : Nat) (x : LoopSt) : (s.setLoop p x).flash = s.flash := rfl
@[simp] theorem State.setLoop_sent (p : Nat) (x : LoopSt) : (s.setLoop p x).sent = s.sent := rfl
@[simp] theorem State.setLoop_freeCount (p : Nat) (x : LoopSt) : (s.setLoop p x).freeCount = s.freeCount := rfl
@[simp] theorem State.setLoop_oracle (p : Nat) (x : LoopSt) : (s.setLoop p x).oracle = s.oracle := rfl
@[simp] theorem State.setLoop_pending (p : Nat) (x : LoopSt) : (s.setLoop p x).pending = s.pending := rfl

/-! ### `setRas` -/

@[simp] theorem State.setRas_regs (x : RasterSt) : (s.setRas x).regs = s.regs := rfl
@[simp] theorem State.setRas_pins (x : RasterSt) : (s.setRas x).pins = s.pins := rfl
@[simp] theorem State.setRas_mode (x : RasterSt) : (s.setRas x).mode = s.mode := rfl
@[simp] theorem State.setRas_clock (x : RasterSt) : (s.setRas x).clock = s.clock := rfl
@[simp] theorem State.setRas_tick (x : RasterSt) : (s.setRas x).tick = s.tick := rfl
@[simp] theorem State.setRas_power (x : RasterSt) : (s.setRas x).power = s.power := rfl
@[simp] theorem State.setRas_ev (x : RasterSt) : (s.setRas x).ev = s.ev := rfl
@[simp] theorem State.setRas_belay (x : RasterSt) : (s.setRas x).belay = s.belay := rfl
@[simp] theorem State.setRas_stage (x : RasterSt) : (s.setRas x).stage = s.stage := rfl
@[simp] theorem State.setRas_ctl (x : RasterSt) : (s.setRas x).ctl = s.ctl := rfl
@[simp] theorem State.setRas_xfer (x : RasterSt) : (s.setRas x).xfer = s.xfer := rfl
@[simp] theorem State.setRas_lcl (x : RasterSt) : (s.setRas x).lcl = s.lcl := rfl
@[simp] theorem State.setRas_report (x : RasterSt) : (s.setRas x).report = s.report := rfl
@[simp] theorem State.setRas_topo (x : RasterSt) : (s.setRas x).topo = s.topo := rfl
@[simp] theorem State.setRas_fw (x : RasterSt) : (s.setRas x).fw = s.fw := rfl
@[simp] theorem State.setRas_cairn (x : RasterSt) : (s.setRas x).cairn = s.cairn := rfl
@[simp] theorem State.setRas_part (x : RasterSt) : (s.setRas x).part = s.part := rfl
@[simp] theorem State.setRas_ports (x : RasterSt) : (s.setRas x).ports = s.ports := rfl
@[simp] theorem State.setRas_q (x : RasterSt) : (s.setRas x).q = s.q := rfl
@[simp] theorem State.setRas_rope (x : RasterSt) : (s.setRas x).rope = s.rope := rfl
@[simp] theorem State.setRas_inj (x : RasterSt) : (s.setRas x).inj = s.inj := rfl
@[simp] theorem State.setRas_host (x : RasterSt) : (s.setRas x).host = s.host := rfl
@[simp] theorem State.setRas_ptp (x : RasterSt) : (s.setRas x).ptp = s.ptp := rfl
@[simp] theorem State.setRas_tio (x : RasterSt) : (s.setRas x).tio = s.tio := rfl
@[simp] theorem State.setRas_sched (x : RasterSt) : (s.setRas x).sched = s.sched := rfl
@[simp] theorem State.setRas_carabs (x : RasterSt) : (s.setRas x).carabs = s.carabs := rfl
@[simp] theorem State.setRas_arb (x : RasterSt) : (s.setRas x).arb = s.arb := rfl
@[simp] theorem State.setRas_mem (x : RasterSt) : (s.setRas x).mem = s.mem := rfl
@[simp] theorem State.setRas_buf (x : RasterSt) : (s.setRas x).buf = s.buf := rfl
@[simp] theorem State.setRas_sacn (x : RasterSt) : (s.setRas x).sacn = s.sacn := rfl
@[simp] theorem State.setRas_egress (x : RasterSt) : (s.setRas x).egress = s.egress := rfl
@[simp] theorem State.setRas_fbx (x : RasterSt) : (s.setRas x).fbx = s.fbx := rfl
@[simp] theorem State.setRas_cal (x : RasterSt) : (s.setRas x).cal = s.cal := rfl
@[simp] theorem State.setRas_flash (x : RasterSt) : (s.setRas x).flash = s.flash := rfl
@[simp] theorem State.setRas_sent (x : RasterSt) : (s.setRas x).sent = s.sent := rfl
@[simp] theorem State.setRas_freeCount (x : RasterSt) : (s.setRas x).freeCount = s.freeCount := rfl
@[simp] theorem State.setRas_oracle (x : RasterSt) : (s.setRas x).oracle = s.oracle := rfl
@[simp] theorem State.setRas_pending (x : RasterSt) : (s.setRas x).pending = s.pending := rfl

/-! ### `setSpill` -/

@[simp] theorem State.setSpill_regs (p : Nat) (x : Spill) : (s.setSpill p x).regs = s.regs := rfl
@[simp] theorem State.setSpill_pins (p : Nat) (x : Spill) : (s.setSpill p x).pins = s.pins := rfl
@[simp] theorem State.setSpill_mode (p : Nat) (x : Spill) : (s.setSpill p x).mode = s.mode := rfl
@[simp] theorem State.setSpill_clock (p : Nat) (x : Spill) : (s.setSpill p x).clock = s.clock := rfl
@[simp] theorem State.setSpill_tick (p : Nat) (x : Spill) : (s.setSpill p x).tick = s.tick := rfl
@[simp] theorem State.setSpill_power (p : Nat) (x : Spill) : (s.setSpill p x).power = s.power := rfl
@[simp] theorem State.setSpill_ev (p : Nat) (x : Spill) : (s.setSpill p x).ev = s.ev := rfl
@[simp] theorem State.setSpill_belay (p : Nat) (x : Spill) : (s.setSpill p x).belay = s.belay := rfl
@[simp] theorem State.setSpill_stage (p : Nat) (x : Spill) : (s.setSpill p x).stage = s.stage := rfl
@[simp] theorem State.setSpill_ctl (p : Nat) (x : Spill) : (s.setSpill p x).ctl = s.ctl := rfl
@[simp] theorem State.setSpill_xfer (p : Nat) (x : Spill) : (s.setSpill p x).xfer = s.xfer := rfl
@[simp] theorem State.setSpill_lcl (p : Nat) (x : Spill) : (s.setSpill p x).lcl = s.lcl := rfl
@[simp] theorem State.setSpill_report (p : Nat) (x : Spill) : (s.setSpill p x).report = s.report := rfl
@[simp] theorem State.setSpill_topo (p : Nat) (x : Spill) : (s.setSpill p x).topo = s.topo := rfl
@[simp] theorem State.setSpill_fw (p : Nat) (x : Spill) : (s.setSpill p x).fw = s.fw := rfl
@[simp] theorem State.setSpill_cairn (p : Nat) (x : Spill) : (s.setSpill p x).cairn = s.cairn := rfl
@[simp] theorem State.setSpill_part (p : Nat) (x : Spill) : (s.setSpill p x).part = s.part := rfl
@[simp] theorem State.setSpill_ports (p : Nat) (x : Spill) : (s.setSpill p x).ports = s.ports := rfl
@[simp] theorem State.setSpill_rope (p : Nat) (x : Spill) : (s.setSpill p x).rope = s.rope := rfl
@[simp] theorem State.setSpill_inj (p : Nat) (x : Spill) : (s.setSpill p x).inj = s.inj := rfl
@[simp] theorem State.setSpill_host (p : Nat) (x : Spill) : (s.setSpill p x).host = s.host := rfl
@[simp] theorem State.setSpill_ptp (p : Nat) (x : Spill) : (s.setSpill p x).ptp = s.ptp := rfl
@[simp] theorem State.setSpill_tio (p : Nat) (x : Spill) : (s.setSpill p x).tio = s.tio := rfl
@[simp] theorem State.setSpill_sched (p : Nat) (x : Spill) : (s.setSpill p x).sched = s.sched := rfl
@[simp] theorem State.setSpill_carabs (p : Nat) (x : Spill) : (s.setSpill p x).carabs = s.carabs := rfl
@[simp] theorem State.setSpill_arb (p : Nat) (x : Spill) : (s.setSpill p x).arb = s.arb := rfl
@[simp] theorem State.setSpill_mem (p : Nat) (x : Spill) : (s.setSpill p x).mem = s.mem := rfl
@[simp] theorem State.setSpill_comp (p : Nat) (x : Spill) : (s.setSpill p x).comp = s.comp := rfl
@[simp] theorem State.setSpill_buf (p : Nat) (x : Spill) : (s.setSpill p x).buf = s.buf := rfl
@[simp] theorem State.setSpill_sacn (p : Nat) (x : Spill) : (s.setSpill p x).sacn = s.sacn := rfl
@[simp] theorem State.setSpill_egress (p : Nat) (x : Spill) : (s.setSpill p x).egress = s.egress := rfl
@[simp] theorem State.setSpill_fbx (p : Nat) (x : Spill) : (s.setSpill p x).fbx = s.fbx := rfl
@[simp] theorem State.setSpill_cal (p : Nat) (x : Spill) : (s.setSpill p x).cal = s.cal := rfl
@[simp] theorem State.setSpill_flash (p : Nat) (x : Spill) : (s.setSpill p x).flash = s.flash := rfl
@[simp] theorem State.setSpill_sent (p : Nat) (x : Spill) : (s.setSpill p x).sent = s.sent := rfl
@[simp] theorem State.setSpill_freeCount (p : Nat) (x : Spill) : (s.setSpill p x).freeCount = s.freeCount := rfl
@[simp] theorem State.setSpill_oracle (p : Nat) (x : Spill) : (s.setSpill p x).oracle = s.oracle := rfl
@[simp] theorem State.setSpill_pending (p : Nat) (x : Spill) : (s.setSpill p x).pending = s.pending := rfl

/-! ### `seeDepth` -/

@[simp] theorem State.seeDepth_regs (n d : Nat) : (s.seeDepth n d).regs = s.regs := rfl
@[simp] theorem State.seeDepth_pins (n d : Nat) : (s.seeDepth n d).pins = s.pins := rfl
@[simp] theorem State.seeDepth_mode (n d : Nat) : (s.seeDepth n d).mode = s.mode := rfl
@[simp] theorem State.seeDepth_clock (n d : Nat) : (s.seeDepth n d).clock = s.clock := rfl
@[simp] theorem State.seeDepth_tick (n d : Nat) : (s.seeDepth n d).tick = s.tick := rfl
@[simp] theorem State.seeDepth_power (n d : Nat) : (s.seeDepth n d).power = s.power := rfl
@[simp] theorem State.seeDepth_ev (n d : Nat) : (s.seeDepth n d).ev = s.ev := rfl
@[simp] theorem State.seeDepth_belay (n d : Nat) : (s.seeDepth n d).belay = s.belay := rfl
@[simp] theorem State.seeDepth_stage (n d : Nat) : (s.seeDepth n d).stage = s.stage := rfl
@[simp] theorem State.seeDepth_ctl (n d : Nat) : (s.seeDepth n d).ctl = s.ctl := rfl
@[simp] theorem State.seeDepth_xfer (n d : Nat) : (s.seeDepth n d).xfer = s.xfer := rfl
@[simp] theorem State.seeDepth_lcl (n d : Nat) : (s.seeDepth n d).lcl = s.lcl := rfl
@[simp] theorem State.seeDepth_report (n d : Nat) : (s.seeDepth n d).report = s.report := rfl
@[simp] theorem State.seeDepth_topo (n d : Nat) : (s.seeDepth n d).topo = s.topo := rfl
@[simp] theorem State.seeDepth_fw (n d : Nat) : (s.seeDepth n d).fw = s.fw := rfl
@[simp] theorem State.seeDepth_cairn (n d : Nat) : (s.seeDepth n d).cairn = s.cairn := rfl
@[simp] theorem State.seeDepth_part (n d : Nat) : (s.seeDepth n d).part = s.part := rfl
@[simp] theorem State.seeDepth_ports (n d : Nat) : (s.seeDepth n d).ports = s.ports := rfl
@[simp] theorem State.seeDepth_rope (n d : Nat) : (s.seeDepth n d).rope = s.rope := rfl
@[simp] theorem State.seeDepth_inj (n d : Nat) : (s.seeDepth n d).inj = s.inj := rfl
@[simp] theorem State.seeDepth_host (n d : Nat) : (s.seeDepth n d).host = s.host := rfl
@[simp] theorem State.seeDepth_ptp (n d : Nat) : (s.seeDepth n d).ptp = s.ptp := rfl
@[simp] theorem State.seeDepth_tio (n d : Nat) : (s.seeDepth n d).tio = s.tio := rfl
@[simp] theorem State.seeDepth_sched (n d : Nat) : (s.seeDepth n d).sched = s.sched := rfl
@[simp] theorem State.seeDepth_carabs (n d : Nat) : (s.seeDepth n d).carabs = s.carabs := rfl
@[simp] theorem State.seeDepth_arb (n d : Nat) : (s.seeDepth n d).arb = s.arb := rfl
@[simp] theorem State.seeDepth_mem (n d : Nat) : (s.seeDepth n d).mem = s.mem := rfl
@[simp] theorem State.seeDepth_comp (n d : Nat) : (s.seeDepth n d).comp = s.comp := rfl
@[simp] theorem State.seeDepth_buf (n d : Nat) : (s.seeDepth n d).buf = s.buf := rfl
@[simp] theorem State.seeDepth_sacn (n d : Nat) : (s.seeDepth n d).sacn = s.sacn := rfl
@[simp] theorem State.seeDepth_egress (n d : Nat) : (s.seeDepth n d).egress = s.egress := rfl
@[simp] theorem State.seeDepth_fbx (n d : Nat) : (s.seeDepth n d).fbx = s.fbx := rfl
@[simp] theorem State.seeDepth_cal (n d : Nat) : (s.seeDepth n d).cal = s.cal := rfl
@[simp] theorem State.seeDepth_flash (n d : Nat) : (s.seeDepth n d).flash = s.flash := rfl
@[simp] theorem State.seeDepth_sent (n d : Nat) : (s.seeDepth n d).sent = s.sent := rfl
@[simp] theorem State.seeDepth_freeCount (n d : Nat) : (s.seeDepth n d).freeCount = s.freeCount := rfl
@[simp] theorem State.seeDepth_oracle (n d : Nat) : (s.seeDepth n d).oracle = s.oracle := rfl
@[simp] theorem State.seeDepth_pending (n d : Nat) : (s.seeDepth n d).pending = s.pending := rfl

/-! ### `setMode` -/

@[simp] theorem State.setMode_pins (m : Mode) (c : Nat) : (s.setMode m c).pins = s.pins := rfl
@[simp] theorem State.setMode_mode (m : Mode) (c : Nat) : (s.setMode m c).mode = { s.mode with mode := m } := rfl
@[simp] theorem State.setMode_clock (m : Mode) (c : Nat) : (s.setMode m c).clock = s.clock := rfl
@[simp] theorem State.setMode_tick (m : Mode) (c : Nat) : (s.setMode m c).tick = s.tick := rfl
@[simp] theorem State.setMode_power (m : Mode) (c : Nat) : (s.setMode m c).power = s.power := rfl
@[simp] theorem State.setMode_ev (m : Mode) (c : Nat) : (s.setMode m c).ev = s.ev := rfl
@[simp] theorem State.setMode_belay (m : Mode) (c : Nat) : (s.setMode m c).belay = s.belay := rfl
@[simp] theorem State.setMode_stage (m : Mode) (c : Nat) : (s.setMode m c).stage = s.stage := rfl
@[simp] theorem State.setMode_ctl (m : Mode) (c : Nat) : (s.setMode m c).ctl = s.ctl := rfl
@[simp] theorem State.setMode_xfer (m : Mode) (c : Nat) : (s.setMode m c).xfer = s.xfer := rfl
@[simp] theorem State.setMode_lcl (m : Mode) (c : Nat) : (s.setMode m c).lcl = s.lcl := rfl
@[simp] theorem State.setMode_report (m : Mode) (c : Nat) : (s.setMode m c).report = s.report := rfl
@[simp] theorem State.setMode_topo (m : Mode) (c : Nat) : (s.setMode m c).topo = s.topo := rfl
@[simp] theorem State.setMode_fw (m : Mode) (c : Nat) : (s.setMode m c).fw = s.fw := rfl
@[simp] theorem State.setMode_cairn (m : Mode) (c : Nat) : (s.setMode m c).cairn = s.cairn := rfl
@[simp] theorem State.setMode_part (m : Mode) (c : Nat) : (s.setMode m c).part = s.part := rfl
@[simp] theorem State.setMode_ports (m : Mode) (c : Nat) : (s.setMode m c).ports = s.ports := rfl
@[simp] theorem State.setMode_q (m : Mode) (c : Nat) : (s.setMode m c).q = s.q := rfl
@[simp] theorem State.setMode_rope (m : Mode) (c : Nat) : (s.setMode m c).rope = s.rope := rfl
@[simp] theorem State.setMode_inj (m : Mode) (c : Nat) : (s.setMode m c).inj = s.inj := rfl
@[simp] theorem State.setMode_host (m : Mode) (c : Nat) : (s.setMode m c).host = s.host := rfl
@[simp] theorem State.setMode_ptp (m : Mode) (c : Nat) : (s.setMode m c).ptp = s.ptp := rfl
@[simp] theorem State.setMode_tio (m : Mode) (c : Nat) : (s.setMode m c).tio = s.tio := rfl
@[simp] theorem State.setMode_sched (m : Mode) (c : Nat) : (s.setMode m c).sched = s.sched := rfl
@[simp] theorem State.setMode_carabs (m : Mode) (c : Nat) : (s.setMode m c).carabs = s.carabs := rfl
@[simp] theorem State.setMode_arb (m : Mode) (c : Nat) : (s.setMode m c).arb = s.arb := rfl
@[simp] theorem State.setMode_mem (m : Mode) (c : Nat) : (s.setMode m c).mem = s.mem := rfl
@[simp] theorem State.setMode_comp (m : Mode) (c : Nat) : (s.setMode m c).comp = s.comp := rfl
@[simp] theorem State.setMode_buf (m : Mode) (c : Nat) : (s.setMode m c).buf = s.buf := rfl
@[simp] theorem State.setMode_sacn (m : Mode) (c : Nat) : (s.setMode m c).sacn = s.sacn := rfl
@[simp] theorem State.setMode_egress (m : Mode) (c : Nat) : (s.setMode m c).egress = s.egress := rfl
@[simp] theorem State.setMode_fbx (m : Mode) (c : Nat) : (s.setMode m c).fbx = s.fbx := rfl
@[simp] theorem State.setMode_cal (m : Mode) (c : Nat) : (s.setMode m c).cal = s.cal := rfl
@[simp] theorem State.setMode_flash (m : Mode) (c : Nat) : (s.setMode m c).flash = s.flash := rfl
@[simp] theorem State.setMode_sent (m : Mode) (c : Nat) : (s.setMode m c).sent = s.sent := rfl
@[simp] theorem State.setMode_freeCount (m : Mode) (c : Nat) : (s.setMode m c).freeCount = s.freeCount := rfl
@[simp] theorem State.setMode_oracle (m : Mode) (c : Nat) : (s.setMode m c).oracle = s.oracle := rfl
@[simp] theorem State.setMode_pending (m : Mode) (c : Nat) : (s.setMode m c).pending = s.pending := rfl

/-! ### `dropArming` -/

@[simp] theorem State.dropArming_regs : (s.dropArming).regs = s.regs := rfl
@[simp] theorem State.dropArming_pins : (s.dropArming).pins = s.pins := rfl
@[simp] theorem State.dropArming_mode : (s.dropArming).mode = { s.mode with arming := none, armed := false, armBroken := false } := rfl
@[simp] theorem State.dropArming_clock : (s.dropArming).clock = s.clock := rfl
@[simp] theorem State.dropArming_tick : (s.dropArming).tick = s.tick := rfl
@[simp] theorem State.dropArming_power : (s.dropArming).power = s.power := rfl
@[simp] theorem State.dropArming_ev : (s.dropArming).ev = s.ev := rfl
@[simp] theorem State.dropArming_belay : (s.dropArming).belay = s.belay := rfl
@[simp] theorem State.dropArming_stage : (s.dropArming).stage = s.stage := rfl
@[simp] theorem State.dropArming_ctl : (s.dropArming).ctl = s.ctl := rfl
@[simp] theorem State.dropArming_xfer : (s.dropArming).xfer = s.xfer := rfl
@[simp] theorem State.dropArming_lcl : (s.dropArming).lcl = s.lcl := rfl
@[simp] theorem State.dropArming_report : (s.dropArming).report = s.report := rfl
@[simp] theorem State.dropArming_topo : (s.dropArming).topo = s.topo := rfl
@[simp] theorem State.dropArming_fw : (s.dropArming).fw = s.fw := rfl
@[simp] theorem State.dropArming_cairn : (s.dropArming).cairn = s.cairn := rfl
@[simp] theorem State.dropArming_part : (s.dropArming).part = s.part := rfl
@[simp] theorem State.dropArming_ports : (s.dropArming).ports = s.ports := rfl
@[simp] theorem State.dropArming_q : (s.dropArming).q = s.q := rfl
@[simp] theorem State.dropArming_rope : (s.dropArming).rope = s.rope := rfl
@[simp] theorem State.dropArming_inj : (s.dropArming).inj = s.inj := rfl
@[simp] theorem State.dropArming_host : (s.dropArming).host = s.host := rfl
@[simp] theorem State.dropArming_ptp : (s.dropArming).ptp = s.ptp := rfl
@[simp] theorem State.dropArming_tio : (s.dropArming).tio = s.tio := rfl
@[simp] theorem State.dropArming_sched : (s.dropArming).sched = s.sched := rfl
@[simp] theorem State.dropArming_carabs : (s.dropArming).carabs = s.carabs := rfl
@[simp] theorem State.dropArming_arb : (s.dropArming).arb = s.arb := rfl
@[simp] theorem State.dropArming_mem : (s.dropArming).mem = s.mem := rfl
@[simp] theorem State.dropArming_comp : (s.dropArming).comp = s.comp := rfl
@[simp] theorem State.dropArming_buf : (s.dropArming).buf = s.buf := rfl
@[simp] theorem State.dropArming_sacn : (s.dropArming).sacn = s.sacn := rfl
@[simp] theorem State.dropArming_egress : (s.dropArming).egress = s.egress := rfl
@[simp] theorem State.dropArming_fbx : (s.dropArming).fbx = s.fbx := rfl
@[simp] theorem State.dropArming_cal : (s.dropArming).cal = s.cal := rfl
@[simp] theorem State.dropArming_flash : (s.dropArming).flash = s.flash := rfl
@[simp] theorem State.dropArming_sent : (s.dropArming).sent = s.sent := rfl
@[simp] theorem State.dropArming_freeCount : (s.dropArming).freeCount = s.freeCount := rfl
@[simp] theorem State.dropArming_oracle : (s.dropArming).oracle = s.oracle := rfl
@[simp] theorem State.dropArming_pending : (s.dropArming).pending = s.pending := rfl

/-! ### `setActive` -/

@[simp] theorem State.setActive_regs (c : Nat) : (s.setActive c).regs = s.regs := rfl
@[simp] theorem State.setActive_pins (c : Nat) : (s.setActive c).pins = s.pins := rfl
@[simp] theorem State.setActive_mode (c : Nat) : (s.setActive c).mode = s.mode := rfl
@[simp] theorem State.setActive_clock (c : Nat) : (s.setActive c).clock = s.clock := rfl
@[simp] theorem State.setActive_tick (c : Nat) : (s.setActive c).tick = s.tick := rfl
@[simp] theorem State.setActive_power (c : Nat) : (s.setActive c).power = s.power := rfl
@[simp] theorem State.setActive_ev (c : Nat) : (s.setActive c).ev = s.ev := rfl
@[simp] theorem State.setActive_stage (c : Nat) : (s.setActive c).stage = s.stage := rfl
@[simp] theorem State.setActive_ctl (c : Nat) : (s.setActive c).ctl = s.ctl := rfl
@[simp] theorem State.setActive_xfer (c : Nat) : (s.setActive c).xfer = s.xfer := rfl
@[simp] theorem State.setActive_lcl (c : Nat) : (s.setActive c).lcl = s.lcl := rfl
@[simp] theorem State.setActive_report (c : Nat) : (s.setActive c).report = s.report := rfl
@[simp] theorem State.setActive_topo (c : Nat) : (s.setActive c).topo = s.topo := rfl
@[simp] theorem State.setActive_fw (c : Nat) : (s.setActive c).fw = s.fw := rfl
@[simp] theorem State.setActive_cairn (c : Nat) : (s.setActive c).cairn = s.cairn := rfl
@[simp] theorem State.setActive_part (c : Nat) : (s.setActive c).part = s.part := rfl
@[simp] theorem State.setActive_ports (c : Nat) : (s.setActive c).ports = s.ports := rfl
@[simp] theorem State.setActive_q (c : Nat) : (s.setActive c).q = s.q := rfl
@[simp] theorem State.setActive_rope (c : Nat) : (s.setActive c).rope = s.rope := rfl
@[simp] theorem State.setActive_inj (c : Nat) : (s.setActive c).inj = s.inj := rfl
@[simp] theorem State.setActive_host (c : Nat) : (s.setActive c).host = s.host := rfl
@[simp] theorem State.setActive_ptp (c : Nat) : (s.setActive c).ptp = s.ptp := rfl
@[simp] theorem State.setActive_tio (c : Nat) : (s.setActive c).tio = s.tio := rfl
@[simp] theorem State.setActive_sched (c : Nat) : (s.setActive c).sched = s.sched := rfl
@[simp] theorem State.setActive_carabs (c : Nat) : (s.setActive c).carabs = s.carabs := rfl
@[simp] theorem State.setActive_arb (c : Nat) : (s.setActive c).arb = s.arb := rfl
@[simp] theorem State.setActive_mem (c : Nat) : (s.setActive c).mem = s.mem := rfl
@[simp] theorem State.setActive_comp (c : Nat) : (s.setActive c).comp = s.comp := rfl
@[simp] theorem State.setActive_buf (c : Nat) : (s.setActive c).buf = s.buf := rfl
@[simp] theorem State.setActive_sacn (c : Nat) : (s.setActive c).sacn = s.sacn := rfl
@[simp] theorem State.setActive_egress (c : Nat) : (s.setActive c).egress = s.egress := rfl
@[simp] theorem State.setActive_fbx (c : Nat) : (s.setActive c).fbx = s.fbx := rfl
@[simp] theorem State.setActive_cal (c : Nat) : (s.setActive c).cal = s.cal := rfl
@[simp] theorem State.setActive_flash (c : Nat) : (s.setActive c).flash = s.flash := rfl
@[simp] theorem State.setActive_sent (c : Nat) : (s.setActive c).sent = s.sent := rfl
@[simp] theorem State.setActive_freeCount (c : Nat) : (s.setActive c).freeCount = s.freeCount := rfl
@[simp] theorem State.setActive_oracle (c : Nat) : (s.setActive c).oracle = s.oracle := rfl
@[simp] theorem State.setActive_pending (c : Nat) : (s.setActive c).pending = s.pending := rfl

/-! ### `clearActive` -/

@[simp] theorem State.clearActive_regs (c : Nat) : (s.clearActive c).regs = s.regs := rfl
@[simp] theorem State.clearActive_pins (c : Nat) : (s.clearActive c).pins = s.pins := rfl
@[simp] theorem State.clearActive_mode (c : Nat) : (s.clearActive c).mode = s.mode := rfl
@[simp] theorem State.clearActive_clock (c : Nat) : (s.clearActive c).clock = s.clock := rfl
@[simp] theorem State.clearActive_tick (c : Nat) : (s.clearActive c).tick = s.tick := rfl
@[simp] theorem State.clearActive_power (c : Nat) : (s.clearActive c).power = s.power := rfl
@[simp] theorem State.clearActive_ev (c : Nat) : (s.clearActive c).ev = s.ev := rfl
@[simp] theorem State.clearActive_stage (c : Nat) : (s.clearActive c).stage = s.stage := rfl
@[simp] theorem State.clearActive_ctl (c : Nat) : (s.clearActive c).ctl = s.ctl := rfl
@[simp] theorem State.clearActive_xfer (c : Nat) : (s.clearActive c).xfer = s.xfer := rfl
@[simp] theorem State.clearActive_lcl (c : Nat) : (s.clearActive c).lcl = s.lcl := rfl
@[simp] theorem State.clearActive_report (c : Nat) : (s.clearActive c).report = s.report := rfl
@[simp] theorem State.clearActive_topo (c : Nat) : (s.clearActive c).topo = s.topo := rfl
@[simp] theorem State.clearActive_fw (c : Nat) : (s.clearActive c).fw = s.fw := rfl
@[simp] theorem State.clearActive_cairn (c : Nat) : (s.clearActive c).cairn = s.cairn := rfl
@[simp] theorem State.clearActive_part (c : Nat) : (s.clearActive c).part = s.part := rfl
@[simp] theorem State.clearActive_ports (c : Nat) : (s.clearActive c).ports = s.ports := rfl
@[simp] theorem State.clearActive_q (c : Nat) : (s.clearActive c).q = s.q := rfl
@[simp] theorem State.clearActive_rope (c : Nat) : (s.clearActive c).rope = s.rope := rfl
@[simp] theorem State.clearActive_inj (c : Nat) : (s.clearActive c).inj = s.inj := rfl
@[simp] theorem State.clearActive_host (c : Nat) : (s.clearActive c).host = s.host := rfl
@[simp] theorem State.clearActive_ptp (c : Nat) : (s.clearActive c).ptp = s.ptp := rfl
@[simp] theorem State.clearActive_tio (c : Nat) : (s.clearActive c).tio = s.tio := rfl
@[simp] theorem State.clearActive_sched (c : Nat) : (s.clearActive c).sched = s.sched := rfl
@[simp] theorem State.clearActive_carabs (c : Nat) : (s.clearActive c).carabs = s.carabs := rfl
@[simp] theorem State.clearActive_arb (c : Nat) : (s.clearActive c).arb = s.arb := rfl
@[simp] theorem State.clearActive_mem (c : Nat) : (s.clearActive c).mem = s.mem := rfl
@[simp] theorem State.clearActive_comp (c : Nat) : (s.clearActive c).comp = s.comp := rfl
@[simp] theorem State.clearActive_buf (c : Nat) : (s.clearActive c).buf = s.buf := rfl
@[simp] theorem State.clearActive_sacn (c : Nat) : (s.clearActive c).sacn = s.sacn := rfl
@[simp] theorem State.clearActive_egress (c : Nat) : (s.clearActive c).egress = s.egress := rfl
@[simp] theorem State.clearActive_fbx (c : Nat) : (s.clearActive c).fbx = s.fbx := rfl
@[simp] theorem State.clearActive_cal (c : Nat) : (s.clearActive c).cal = s.cal := rfl
@[simp] theorem State.clearActive_flash (c : Nat) : (s.clearActive c).flash = s.flash := rfl
@[simp] theorem State.clearActive_sent (c : Nat) : (s.clearActive c).sent = s.sent := rfl
@[simp] theorem State.clearActive_freeCount (c : Nat) : (s.clearActive c).freeCount = s.freeCount := rfl
@[simp] theorem State.clearActive_oracle (c : Nat) : (s.clearActive c).oracle = s.oracle := rfl
@[simp] theorem State.clearActive_pending (c : Nat) : (s.clearActive c).pending = s.pending := rfl

/-! ### `markEv` -/

@[simp] theorem State.markEv_pins (e n : Nat) : (s.markEv e n).pins = s.pins := rfl
@[simp] theorem State.markEv_mode (e n : Nat) : (s.markEv e n).mode = s.mode := rfl
@[simp] theorem State.markEv_clock (e n : Nat) : (s.markEv e n).clock = s.clock := rfl
@[simp] theorem State.markEv_tick (e n : Nat) : (s.markEv e n).tick = s.tick := rfl
@[simp] theorem State.markEv_power (e n : Nat) : (s.markEv e n).power = s.power := rfl
@[simp] theorem State.markEv_belay (e n : Nat) : (s.markEv e n).belay = s.belay := rfl
@[simp] theorem State.markEv_stage (e n : Nat) : (s.markEv e n).stage = s.stage := rfl
@[simp] theorem State.markEv_ctl (e n : Nat) : (s.markEv e n).ctl = s.ctl := rfl
@[simp] theorem State.markEv_xfer (e n : Nat) : (s.markEv e n).xfer = s.xfer := rfl
@[simp] theorem State.markEv_lcl (e n : Nat) : (s.markEv e n).lcl = s.lcl := rfl
@[simp] theorem State.markEv_report (e n : Nat) : (s.markEv e n).report = s.report := rfl
@[simp] theorem State.markEv_topo (e n : Nat) : (s.markEv e n).topo = s.topo := rfl
@[simp] theorem State.markEv_fw (e n : Nat) : (s.markEv e n).fw = s.fw := rfl
@[simp] theorem State.markEv_cairn (e n : Nat) : (s.markEv e n).cairn = s.cairn := rfl
@[simp] theorem State.markEv_part (e n : Nat) : (s.markEv e n).part = s.part := rfl
@[simp] theorem State.markEv_ports (e n : Nat) : (s.markEv e n).ports = s.ports := rfl
@[simp] theorem State.markEv_q (e n : Nat) : (s.markEv e n).q = s.q := rfl
@[simp] theorem State.markEv_rope (e n : Nat) : (s.markEv e n).rope = s.rope := rfl
@[simp] theorem State.markEv_inj (e n : Nat) : (s.markEv e n).inj = s.inj := rfl
@[simp] theorem State.markEv_host (e n : Nat) : (s.markEv e n).host = s.host := rfl
@[simp] theorem State.markEv_ptp (e n : Nat) : (s.markEv e n).ptp = s.ptp := rfl
@[simp] theorem State.markEv_tio (e n : Nat) : (s.markEv e n).tio = s.tio := rfl
@[simp] theorem State.markEv_sched (e n : Nat) : (s.markEv e n).sched = s.sched := rfl
@[simp] theorem State.markEv_carabs (e n : Nat) : (s.markEv e n).carabs = s.carabs := rfl
@[simp] theorem State.markEv_arb (e n : Nat) : (s.markEv e n).arb = s.arb := rfl
@[simp] theorem State.markEv_mem (e n : Nat) : (s.markEv e n).mem = s.mem := rfl
@[simp] theorem State.markEv_comp (e n : Nat) : (s.markEv e n).comp = s.comp := rfl
@[simp] theorem State.markEv_buf (e n : Nat) : (s.markEv e n).buf = s.buf := rfl
@[simp] theorem State.markEv_sacn (e n : Nat) : (s.markEv e n).sacn = s.sacn := rfl
@[simp] theorem State.markEv_egress (e n : Nat) : (s.markEv e n).egress = s.egress := rfl
@[simp] theorem State.markEv_fbx (e n : Nat) : (s.markEv e n).fbx = s.fbx := rfl
@[simp] theorem State.markEv_cal (e n : Nat) : (s.markEv e n).cal = s.cal := rfl
@[simp] theorem State.markEv_flash (e n : Nat) : (s.markEv e n).flash = s.flash := rfl
@[simp] theorem State.markEv_sent (e n : Nat) : (s.markEv e n).sent = s.sent := rfl
@[simp] theorem State.markEv_freeCount (e n : Nat) : (s.markEv e n).freeCount = s.freeCount := rfl
@[simp] theorem State.markEv_oracle (e n : Nat) : (s.markEv e n).oracle = s.oracle := rfl
@[simp] theorem State.markEv_pending (e n : Nat) : (s.markEv e n).pending = s.pending := rfl

/-! ### `touchSession` -/

@[simp] theorem State.touchSession_regs (n : Nat) : (s.touchSession n).regs = s.regs := rfl
@[simp] theorem State.touchSession_pins (n : Nat) : (s.touchSession n).pins = s.pins := rfl
@[simp] theorem State.touchSession_mode (n : Nat) : (s.touchSession n).mode = s.mode := rfl
@[simp] theorem State.touchSession_clock (n : Nat) : (s.touchSession n).clock = s.clock := rfl
@[simp] theorem State.touchSession_tick (n : Nat) : (s.touchSession n).tick = s.tick := rfl
@[simp] theorem State.touchSession_power (n : Nat) : (s.touchSession n).power = s.power := rfl
@[simp] theorem State.touchSession_ev (n : Nat) : (s.touchSession n).ev = s.ev := rfl
@[simp] theorem State.touchSession_belay (n : Nat) : (s.touchSession n).belay = s.belay := rfl
@[simp] theorem State.touchSession_stage (n : Nat) : (s.touchSession n).stage = s.stage := rfl
@[simp] theorem State.touchSession_xfer (n : Nat) : (s.touchSession n).xfer = s.xfer := rfl
@[simp] theorem State.touchSession_lcl (n : Nat) : (s.touchSession n).lcl = s.lcl := rfl
@[simp] theorem State.touchSession_report (n : Nat) : (s.touchSession n).report = s.report := rfl
@[simp] theorem State.touchSession_topo (n : Nat) : (s.touchSession n).topo = s.topo := rfl
@[simp] theorem State.touchSession_fw (n : Nat) : (s.touchSession n).fw = s.fw := rfl
@[simp] theorem State.touchSession_cairn (n : Nat) : (s.touchSession n).cairn = s.cairn := rfl
@[simp] theorem State.touchSession_part (n : Nat) : (s.touchSession n).part = s.part := rfl
@[simp] theorem State.touchSession_ports (n : Nat) : (s.touchSession n).ports = s.ports := rfl
@[simp] theorem State.touchSession_q (n : Nat) : (s.touchSession n).q = s.q := rfl
@[simp] theorem State.touchSession_rope (n : Nat) : (s.touchSession n).rope = s.rope := rfl
@[simp] theorem State.touchSession_inj (n : Nat) : (s.touchSession n).inj = s.inj := rfl
@[simp] theorem State.touchSession_host (n : Nat) : (s.touchSession n).host = s.host := rfl
@[simp] theorem State.touchSession_ptp (n : Nat) : (s.touchSession n).ptp = s.ptp := rfl
@[simp] theorem State.touchSession_tio (n : Nat) : (s.touchSession n).tio = s.tio := rfl
@[simp] theorem State.touchSession_sched (n : Nat) : (s.touchSession n).sched = s.sched := rfl
@[simp] theorem State.touchSession_carabs (n : Nat) : (s.touchSession n).carabs = s.carabs := rfl
@[simp] theorem State.touchSession_arb (n : Nat) : (s.touchSession n).arb = s.arb := rfl
@[simp] theorem State.touchSession_mem (n : Nat) : (s.touchSession n).mem = s.mem := rfl
@[simp] theorem State.touchSession_comp (n : Nat) : (s.touchSession n).comp = s.comp := rfl
@[simp] theorem State.touchSession_buf (n : Nat) : (s.touchSession n).buf = s.buf := rfl
@[simp] theorem State.touchSession_sacn (n : Nat) : (s.touchSession n).sacn = s.sacn := rfl
@[simp] theorem State.touchSession_egress (n : Nat) : (s.touchSession n).egress = s.egress := rfl
@[simp] theorem State.touchSession_fbx (n : Nat) : (s.touchSession n).fbx = s.fbx := rfl
@[simp] theorem State.touchSession_cal (n : Nat) : (s.touchSession n).cal = s.cal := rfl
@[simp] theorem State.touchSession_flash (n : Nat) : (s.touchSession n).flash = s.flash := rfl
@[simp] theorem State.touchSession_sent (n : Nat) : (s.touchSession n).sent = s.sent := rfl
@[simp] theorem State.touchSession_freeCount (n : Nat) : (s.touchSession n).freeCount = s.freeCount := rfl
@[simp] theorem State.touchSession_oracle (n : Nat) : (s.touchSession n).oracle = s.oracle := rfl
@[simp] theorem State.touchSession_pending (n : Nat) : (s.touchSession n).pending = s.pending := rfl

/-! ### `dropXfer` -/

@[simp] theorem State.dropXfer_regs (n : Nat) : (s.dropXfer n).regs = s.regs := rfl
@[simp] theorem State.dropXfer_pins (n : Nat) : (s.dropXfer n).pins = s.pins := rfl
@[simp] theorem State.dropXfer_mode (n : Nat) : (s.dropXfer n).mode = s.mode := rfl
@[simp] theorem State.dropXfer_clock (n : Nat) : (s.dropXfer n).clock = s.clock := rfl
@[simp] theorem State.dropXfer_tick (n : Nat) : (s.dropXfer n).tick = s.tick := rfl
@[simp] theorem State.dropXfer_power (n : Nat) : (s.dropXfer n).power = s.power := rfl
@[simp] theorem State.dropXfer_ev (n : Nat) : (s.dropXfer n).ev = s.ev := rfl
@[simp] theorem State.dropXfer_belay (n : Nat) : (s.dropXfer n).belay = s.belay := rfl
@[simp] theorem State.dropXfer_stage (n : Nat) : (s.dropXfer n).stage = s.stage := rfl
@[simp] theorem State.dropXfer_ctl (n : Nat) : (s.dropXfer n).ctl = s.ctl := rfl
@[simp] theorem State.dropXfer_lcl (n : Nat) : (s.dropXfer n).lcl = s.lcl := rfl
@[simp] theorem State.dropXfer_report (n : Nat) : (s.dropXfer n).report = s.report := rfl
@[simp] theorem State.dropXfer_topo (n : Nat) : (s.dropXfer n).topo = s.topo := rfl
@[simp] theorem State.dropXfer_fw (n : Nat) : (s.dropXfer n).fw = s.fw := rfl
@[simp] theorem State.dropXfer_cairn (n : Nat) : (s.dropXfer n).cairn = s.cairn := rfl
@[simp] theorem State.dropXfer_part (n : Nat) : (s.dropXfer n).part = s.part := rfl
@[simp] theorem State.dropXfer_ports (n : Nat) : (s.dropXfer n).ports = s.ports := rfl
@[simp] theorem State.dropXfer_q (n : Nat) : (s.dropXfer n).q = s.q := rfl
@[simp] theorem State.dropXfer_rope (n : Nat) : (s.dropXfer n).rope = s.rope := rfl
@[simp] theorem State.dropXfer_inj (n : Nat) : (s.dropXfer n).inj = s.inj := rfl
@[simp] theorem State.dropXfer_host (n : Nat) : (s.dropXfer n).host = s.host := rfl
@[simp] theorem State.dropXfer_ptp (n : Nat) : (s.dropXfer n).ptp = s.ptp := rfl
@[simp] theorem State.dropXfer_tio (n : Nat) : (s.dropXfer n).tio = s.tio := rfl
@[simp] theorem State.dropXfer_sched (n : Nat) : (s.dropXfer n).sched = s.sched := rfl
@[simp] theorem State.dropXfer_carabs (n : Nat) : (s.dropXfer n).carabs = s.carabs := rfl
@[simp] theorem State.dropXfer_arb (n : Nat) : (s.dropXfer n).arb = s.arb := rfl
@[simp] theorem State.dropXfer_mem (n : Nat) : (s.dropXfer n).mem = s.mem := rfl
@[simp] theorem State.dropXfer_comp (n : Nat) : (s.dropXfer n).comp = s.comp := rfl
@[simp] theorem State.dropXfer_buf (n : Nat) : (s.dropXfer n).buf = s.buf := rfl
@[simp] theorem State.dropXfer_sacn (n : Nat) : (s.dropXfer n).sacn = s.sacn := rfl
@[simp] theorem State.dropXfer_egress (n : Nat) : (s.dropXfer n).egress = s.egress := rfl
@[simp] theorem State.dropXfer_fbx (n : Nat) : (s.dropXfer n).fbx = s.fbx := rfl
@[simp] theorem State.dropXfer_cal (n : Nat) : (s.dropXfer n).cal = s.cal := rfl
@[simp] theorem State.dropXfer_flash (n : Nat) : (s.dropXfer n).flash = s.flash := rfl
@[simp] theorem State.dropXfer_sent (n : Nat) : (s.dropXfer n).sent = s.sent := rfl
@[simp] theorem State.dropXfer_freeCount (n : Nat) : (s.dropXfer n).freeCount = s.freeCount := rfl
@[simp] theorem State.dropXfer_oracle (n : Nat) : (s.dropXfer n).oracle = s.oracle := rfl
@[simp] theorem State.dropXfer_pending (n : Nat) : (s.dropXfer n).pending = s.pending := rfl

/-! ### What a register reads -/

variable {s} {t u : State}

theorem storesOk_setReg (h : s.storesOk) (k v : Nat) : (s.setReg k v).storesOk := ⟨storePut_wf h.1 k v, h.2⟩

/-- The register written reads the value written. -/
@[simp] theorem reg_setReg (h : s.storesOk) (k v : Nat) : (s.setReg k v).reg k = v := storeGet_storePut h.1 k v

/-- Every other register reads as before. -/
theorem reg_setReg_ne (h : s.storesOk) {k j : Nat} (v : Nat) (hj : j ≠ k) : (s.setReg k v).reg j = s.reg j :=
  storeGet_storePut_ne h.1 hj v

theorem reg_addReg (h : s.storesOk) (k n : Nat) : (s.addReg k n).reg k = min (s.reg k + n) (two32 - 1) := reg_setReg h k _

theorem reg_incReg (h : s.storesOk) (k : Nat) : (s.incReg k).reg k = min (s.reg k + 1) (two32 - 1) := reg_addReg h k 1

theorem reg_congr (h : t.regs = s.regs) (k : Nat) : t.reg k = s.reg k := by rw [State.reg, State.reg, h]

/-! ### Registers kept -/

theorem RegsKept.refl (ks : List Nat) (s : State) : RegsKept ks s s := fun _ _ => rfl

theorem RegsKept.of_regs {ks : List Nat} (h : t.regs = s.regs) : RegsKept ks s t := fun k _ => reg_congr h k

theorem RegsKept.trans {ks : List Nat} (h : RegsKept ks s t) (g : RegsKept ks t u) : RegsKept ks s u :=
  fun k hk => (g k hk).trans (h k hk)

theorem RegsKept.mono {ks js : List Nat} (h : RegsKept ks s t) (hs : ks ⊆ js) : RegsKept js s t :=
  fun k hk => h k fun x => hk (hs x)

theorem RegsKept.setReg {ks : List Nat} (h : RegsKept ks s t) (ok : t.storesOk) {k : Nat} (hk : k ∈ ks) (v : Nat) :
    RegsKept ks s (t.setReg k v) :=
  fun j hj => (reg_setReg_ne ok v fun e => hj (by rw [e]; exact hk)).trans (h j hj)

/-- What a register outside the list reads. -/
theorem RegsKept.reg {ks : List Nat} (h : RegsKept ks s t) {k : Nat} (hk : k ∉ ks) : t.reg k = s.reg k := h k hk

/-! ### The sinks -/

theorem State.slotCut_eq (s : State) : s.slotCut = { s with fbx := s.slotCut.fbx, sent := s.slotCut.sent } := by
  unfold State.slotCut
  split
  · rfl
  · dsimp only
    split <;> rfl

theorem State.sinksOff_eq (s : State) : s.sinksOff = { s with fbx := s.sinksOff.fbx, sent := s.sinksOff.sent } := by
  have h := State.slotCut_eq s
  unfold State.sinksOff
  generalize s.slotCut = t at h ⊢
  rw [h]

@[simp] theorem State.sinksOff_regs (s : State) : s.sinksOff.regs = s.regs := by rw [State.sinksOff_eq]

@[simp] theorem State.sinksOff_pins (s : State) : s.sinksOff.pins = s.pins := by rw [State.sinksOff_eq]

@[simp] theorem State.sinksOff_mode (s : State) : s.sinksOff.mode = s.mode := by rw [State.sinksOff_eq]

@[simp] theorem State.sinksOff_clock (s : State) : s.sinksOff.clock = s.clock := by rw [State.sinksOff_eq]

@[simp] theorem State.sinksOff_tick (s : State) : s.sinksOff.tick = s.tick := by rw [State.sinksOff_eq]

@[simp] theorem State.sinksOff_power (s : State) : s.sinksOff.power = s.power := by rw [State.sinksOff_eq]

@[simp] theorem State.sinksOff_ev (s : State) : s.sinksOff.ev = s.ev := by rw [State.sinksOff_eq]

@[simp] theorem State.sinksOff_belay (s : State) : s.sinksOff.belay = s.belay := by rw [State.sinksOff_eq]

@[simp] theorem State.sinksOff_stage (s : State) : s.sinksOff.stage = s.stage := by rw [State.sinksOff_eq]

@[simp] theorem State.sinksOff_ctl (s : State) : s.sinksOff.ctl = s.ctl := by rw [State.sinksOff_eq]

@[simp] theorem State.sinksOff_xfer (s : State) : s.sinksOff.xfer = s.xfer := by rw [State.sinksOff_eq]

@[simp] theorem State.sinksOff_lcl (s : State) : s.sinksOff.lcl = s.lcl := by rw [State.sinksOff_eq]

@[simp] theorem State.sinksOff_report (s : State) : s.sinksOff.report = s.report := by rw [State.sinksOff_eq]

@[simp] theorem State.sinksOff_topo (s : State) : s.sinksOff.topo = s.topo := by rw [State.sinksOff_eq]

@[simp] theorem State.sinksOff_fw (s : State) : s.sinksOff.fw = s.fw := by rw [State.sinksOff_eq]

@[simp] theorem State.sinksOff_cairn (s : State) : s.sinksOff.cairn = s.cairn := by rw [State.sinksOff_eq]

@[simp] theorem State.sinksOff_part (s : State) : s.sinksOff.part = s.part := by rw [State.sinksOff_eq]

@[simp] theorem State.sinksOff_ports (s : State) : s.sinksOff.ports = s.ports := by rw [State.sinksOff_eq]

@[simp] theorem State.sinksOff_q (s : State) : s.sinksOff.q = s.q := by rw [State.sinksOff_eq]

@[simp] theorem State.sinksOff_rope (s : State) : s.sinksOff.rope = s.rope := by rw [State.sinksOff_eq]

@[simp] theorem State.sinksOff_inj (s : State) : s.sinksOff.inj = s.inj := by rw [State.sinksOff_eq]

@[simp] theorem State.sinksOff_host (s : State) : s.sinksOff.host = s.host := by rw [State.sinksOff_eq]

@[simp] theorem State.sinksOff_ptp (s : State) : s.sinksOff.ptp = s.ptp := by rw [State.sinksOff_eq]

@[simp] theorem State.sinksOff_tio (s : State) : s.sinksOff.tio = s.tio := by rw [State.sinksOff_eq]

@[simp] theorem State.sinksOff_sched (s : State) : s.sinksOff.sched = s.sched := by rw [State.sinksOff_eq]

@[simp] theorem State.sinksOff_carabs (s : State) : s.sinksOff.carabs = s.carabs := by rw [State.sinksOff_eq]

@[simp] theorem State.sinksOff_arb (s : State) : s.sinksOff.arb = s.arb := by rw [State.sinksOff_eq]

@[simp] theorem State.sinksOff_mem (s : State) : s.sinksOff.mem = s.mem := by rw [State.sinksOff_eq]

@[simp] theorem State.sinksOff_comp (s : State) : s.sinksOff.comp = s.comp := by rw [State.sinksOff_eq]

@[simp] theorem State.sinksOff_buf (s : State) : s.sinksOff.buf = s.buf := by rw [State.sinksOff_eq]

@[simp] theorem State.sinksOff_sacn (s : State) : s.sinksOff.sacn = s.sacn := by rw [State.sinksOff_eq]

@[simp] theorem State.sinksOff_egress (s : State) : s.sinksOff.egress = s.egress := by rw [State.sinksOff_eq]

@[simp] theorem State.sinksOff_cal (s : State) : s.sinksOff.cal = s.cal := by rw [State.sinksOff_eq]

@[simp] theorem State.sinksOff_flash (s : State) : s.sinksOff.flash = s.flash := by rw [State.sinksOff_eq]

@[simp] theorem State.sinksOff_freeCount (s : State) : s.sinksOff.freeCount = s.freeCount := by rw [State.sinksOff_eq]

@[simp] theorem State.sinksOff_oracle (s : State) : s.sinksOff.oracle = s.oracle := by rw [State.sinksOff_eq]

@[simp] theorem State.sinksOff_pending (s : State) : s.sinksOff.pending = s.pending := by rw [State.sinksOff_eq]

/-! ### Raising an event -/

theorem State.minReg_eq (s : State) (k v : Nat) :
    s.minReg k v = { s with regs := (s.minReg k v).regs, report := (s.minReg k v).report } := by
  unfold State.minReg State.extreme
  split_ifs <;> rfl

theorem storesOk_minReg (h : s.storesOk) (k v : Nat) : (s.minReg k v).storesOk := by
  unfold State.minReg State.extreme
  split_ifs
  all_goals first | exact h | exact storesOk_setReg h _ _

theorem minReg_kept (h : s.storesOk) (k v : Nat) : RegsKept [k] s (s.minReg k v) := by
  have set : RegsKept [k] s (s.setReg k v) := (RegsKept.refl [k] s).setReg h (by simp) v
  unfold State.minReg State.extreme
  split_ifs
  all_goals first | exact RegsKept.refl _ _ | exact set

theorem storesOk_pushEv (h : s.storesOk) (r : EvRec) : (s.pushEv r).storesOk :=
  ⟨storePut_wf h.1 _ _, h.2⟩

theorem storesOk_markEv (h : s.storesOk) (e n : Nat) : (s.markEv e n).storesOk :=
  storesOk_setReg (storesOk_setReg h _ _) _ _

theorem markEv_kept (h : s.storesOk) (e n : Nat) :
    RegsKept [Reg.evCount e, Reg.pending, Reg.evqLost] s (s.markEv e n) := by
  have a := (RegsKept.refl [Reg.evCount e, Reg.pending, Reg.evqLost] s).setReg h (k := Reg.evCount e) (by simp) (min (s.reg (Reg.evCount e) + n) (two32 - 1))
  exact a.setReg (storesOk_setReg h _ _) (by simp) _

theorem pushEv_kept (h : s.storesOk) (r : EvRec) : RegsKept [Reg.evqLost] s (s.pushEv r) :=
  fun _ hk => storeGet_storePut_ne h.1 (by simpa using hk) _

theorem State.noteEv_eq (s : State) (e : Nat) (p : Bytes) :
    s.noteEv e p = { s with regs := (s.noteEv e p).regs, ev := (s.noteEv e p).ev, q := (s.noteEv e p).q } := by
  unfold State.noteEv
  extract_lets t
  split <;> rfl

theorem storesOk_noteEv (h : s.storesOk) (e : Nat) (p : Bytes) : (s.noteEv e p).storesOk := by
  unfold State.noteEv
  extract_lets t
  split
  · exact storesOk_pushEv (storesOk_markEv h _ _) _
  · exact storesOk_markEv h _ _

theorem noteEv_kept (h : s.storesOk) (e : Nat) (p : Bytes) :
    RegsKept [Reg.evCount e, Reg.pending, Reg.evqLost] s (s.noteEv e p) := by
  unfold State.noteEv
  extract_lets t
  split
  · exact (markEv_kept h e 1).trans ((pushEv_kept (storesOk_markEv h e 1) _).mono (by simp))
  · exact markEv_kept h e 1

theorem State.poolEvent_eq (s : State) : s.poolEvent =
    { s with regs := s.poolEvent.regs, ev := s.poolEvent.ev, q := s.poolEvent.q, report := s.poolEvent.report } := by
  have h := State.noteEv_eq ({ s with q := { s.q with lowArmed := false } }) 34 (beBytes 4 s.poolFree)
  unfold State.poolEvent State.minPool
  generalize State.noteEv _ 34 _ = u at h ⊢
  have m := State.minReg_eq u Reg.poolMin u.poolFree
  generalize u.minReg _ _ = v at m ⊢
  rw [m, h]

theorem storesOk_minPool (h : s.storesOk) : s.minPool.storesOk := storesOk_minReg h _ _

theorem storesOk_poolEvent (h : s.storesOk) : s.poolEvent.storesOk :=
  storesOk_minPool (storesOk_noteEv (s := { s with q := { s.q with lowArmed := false } }) h _ _)

theorem poolEvent_kept (h : s.storesOk) : RegsKept (evKeys 34) s s.poolEvent := by
  have hn := noteEv_kept (s := { s with q := { s.q with lowArmed := false } }) h 34 (beBytes 4 s.poolFree)
  have hm := minReg_kept (storesOk_noteEv (s := { s with q := { s.q with lowArmed := false } }) h 34 (beBytes 4 s.poolFree))
    Reg.poolMin (({ s with q := { s.q with lowArmed := false } } : State).noteEv 34 (beBytes 4 s.poolFree)).poolFree
  exact (RegsKept.of_regs rfl).trans ((hn.mono (by simp [evKeys])).trans (hm.mono (by simp [evKeys])))

theorem State.poolCheck_eq (s : State) :
    s.poolCheck = { s with regs := s.poolCheck.regs, ev := s.poolCheck.ev, q := s.poolCheck.q, report := s.poolCheck.report } := by
  have m := State.minReg_eq s Reg.poolMin s.poolFree
  have e := State.poolEvent_eq s.minPool
  unfold State.poolCheck
  dsimp only
  split
  · unfold State.minPool; rw [m]
  · split
    · generalize s.minPool.poolEvent = u at e ⊢
      rw [e]; unfold State.minPool; rw [m]
    · split
      · unfold State.minPool; rw [m]
      · unfold State.minPool; rw [m]

theorem storesOk_poolCheck (h : s.storesOk) : s.poolCheck.storesOk := by
  unfold State.poolCheck
  dsimp only
  split_ifs
  · exact storesOk_minPool h
  · exact storesOk_poolEvent (storesOk_minPool h)
  · exact storesOk_minPool h
  · exact storesOk_minPool h

/-- Looking at the pool changes no register but POOL_MIN and, when EV34 is raised, what an event changes. -/
theorem poolCheck_kept (h : s.storesOk) : RegsKept (evKeys 34) s s.poolCheck := by
  have m : RegsKept (evKeys 34) s s.minPool := (minReg_kept h _ _).mono (by simp [evKeys])
  unfold State.poolCheck
  dsimp only
  split_ifs
  · exact m
  · exact m.trans (poolEvent_kept (storesOk_minPool h))
  · exact m
  · exact m

theorem State.raise_eq (s : State) (e : Nat) (p : Bytes) :
    s.raise e p = { s with regs := (s.raise e p).regs, ev := (s.raise e p).ev, q := (s.raise e p).q,
                           report := (s.raise e p).report } := by
  unfold State.raise
  split
  · have hp := State.poolCheck_eq (s.noteEv e p)
    have hn := State.noteEv_eq s e p
    generalize (s.noteEv e p).poolCheck = u at hp ⊢
    rw [hp, hn]
  · rfl

theorem storesOk_raise (h : s.storesOk) (e : Nat) (p : Bytes) : (s.raise e p).storesOk := by
  unfold State.raise
  split
  · exact storesOk_poolCheck (storesOk_noteEv h _ _)
  · exact h

/-- An event changes no register but its own count, PENDING, EVQ_LOST, and what its record's cell does to the pool's figures. -/
theorem raise_kept (h : s.storesOk) (e : Nat) (p : Bytes) : RegsKept (evKeys e) s (s.raise e p) := by
  unfold State.raise
  split
  · exact ((noteEv_kept h e p).mono (by simp [evKeys])).trans ((poolCheck_kept (storesOk_noteEv h e p)).mono (by
      intro k; simp only [evKeys, List.mem_cons]; tauto))
  · exact RegsKept.refl _ _

@[simp] theorem State.raise_pins (s : State) (e : Nat) (p : Bytes) : (s.raise e p).pins = s.pins := by rw [State.raise_eq]

@[simp] theorem State.raise_mode (s : State) (e : Nat) (p : Bytes) : (s.raise e p).mode = s.mode := by rw [State.raise_eq]

@[simp] theorem State.raise_clock (s : State) (e : Nat) (p : Bytes) : (s.raise e p).clock = s.clock := by rw [State.raise_eq]

@[simp] theorem State.raise_tick (s : State) (e : Nat) (p : Bytes) : (s.raise e p).tick = s.tick := by rw [State.raise_eq]

@[simp] theorem State.raise_power (s : State) (e : Nat) (p : Bytes) : (s.raise e p).power = s.power := by rw [State.raise_eq]

@[simp] theorem State.raise_belay (s : State) (e : Nat) (p : Bytes) : (s.raise e p).belay = s.belay := by rw [State.raise_eq]

@[simp] theorem State.raise_stage (s : State) (e : Nat) (p : Bytes) : (s.raise e p).stage = s.stage := by rw [State.raise_eq]

@[simp] theorem State.raise_ctl (s : State) (e : Nat) (p : Bytes) : (s.raise e p).ctl = s.ctl := by rw [State.raise_eq]

@[simp] theorem State.raise_xfer (s : State) (e : Nat) (p : Bytes) : (s.raise e p).xfer = s.xfer := by rw [State.raise_eq]

@[simp] theorem State.raise_lcl (s : State) (e : Nat) (p : Bytes) : (s.raise e p).lcl = s.lcl := by rw [State.raise_eq]

@[simp] theorem State.raise_topo (s : State) (e : Nat) (p : Bytes) : (s.raise e p).topo = s.topo := by rw [State.raise_eq]

@[simp] theorem State.raise_fw (s : State) (e : Nat) (p : Bytes) : (s.raise e p).fw = s.fw := by rw [State.raise_eq]

@[simp] theorem State.raise_cairn (s : State) (e : Nat) (p : Bytes) : (s.raise e p).cairn = s.cairn := by rw [State.raise_eq]

@[simp] theorem State.raise_part (s : State) (e : Nat) (p : Bytes) : (s.raise e p).part = s.part := by rw [State.raise_eq]

@[simp] theorem State.raise_ports (s : State) (e : Nat) (p : Bytes) : (s.raise e p).ports = s.ports := by rw [State.raise_eq]

@[simp] theorem State.raise_rope (s : State) (e : Nat) (p : Bytes) : (s.raise e p).rope = s.rope := by rw [State.raise_eq]

@[simp] theorem State.raise_inj (s : State) (e : Nat) (p : Bytes) : (s.raise e p).inj = s.inj := by rw [State.raise_eq]

@[simp] theorem State.raise_host (s : State) (e : Nat) (p : Bytes) : (s.raise e p).host = s.host := by rw [State.raise_eq]

@[simp] theorem State.raise_ptp (s : State) (e : Nat) (p : Bytes) : (s.raise e p).ptp = s.ptp := by rw [State.raise_eq]

@[simp] theorem State.raise_tio (s : State) (e : Nat) (p : Bytes) : (s.raise e p).tio = s.tio := by rw [State.raise_eq]

@[simp] theorem State.raise_sched (s : State) (e : Nat) (p : Bytes) : (s.raise e p).sched = s.sched := by rw [State.raise_eq]

@[simp] theorem State.raise_carabs (s : State) (e : Nat) (p : Bytes) : (s.raise e p).carabs = s.carabs := by rw [State.raise_eq]

@[simp] theorem State.raise_arb (s : State) (e : Nat) (p : Bytes) : (s.raise e p).arb = s.arb := by rw [State.raise_eq]

@[simp] theorem State.raise_mem (s : State) (e : Nat) (p : Bytes) : (s.raise e p).mem = s.mem := by rw [State.raise_eq]

@[simp] theorem State.raise_comp (s : State) (e : Nat) (p : Bytes) : (s.raise e p).comp = s.comp := by rw [State.raise_eq]

@[simp] theorem State.raise_buf (s : State) (e : Nat) (p : Bytes) : (s.raise e p).buf = s.buf := by rw [State.raise_eq]

@[simp] theorem State.raise_sacn (s : State) (e : Nat) (p : Bytes) : (s.raise e p).sacn = s.sacn := by rw [State.raise_eq]

@[simp] theorem State.raise_egress (s : State) (e : Nat) (p : Bytes) : (s.raise e p).egress = s.egress := by rw [State.raise_eq]

@[simp] theorem State.raise_fbx (s : State) (e : Nat) (p : Bytes) : (s.raise e p).fbx = s.fbx := by rw [State.raise_eq]

@[simp] theorem State.raise_cal (s : State) (e : Nat) (p : Bytes) : (s.raise e p).cal = s.cal := by rw [State.raise_eq]

@[simp] theorem State.raise_flash (s : State) (e : Nat) (p : Bytes) : (s.raise e p).flash = s.flash := by rw [State.raise_eq]

@[simp] theorem State.raise_sent (s : State) (e : Nat) (p : Bytes) : (s.raise e p).sent = s.sent := by rw [State.raise_eq]

@[simp] theorem State.raise_freeCount (s : State) (e : Nat) (p : Bytes) : (s.raise e p).freeCount = s.freeCount := by rw [State.raise_eq]

@[simp] theorem State.raise_oracle (s : State) (e : Nat) (p : Bytes) : (s.raise e p).oracle = s.oracle := by rw [State.raise_eq]

@[simp] theorem State.raise_pending (s : State) (e : Nat) (p : Bytes) : (s.raise e p).pending = s.pending := by rw [State.raise_eq]

/-! ### The outcome of a command -/

@[simp] theorem State.done_eq (s t : State) : s.done t = .next { t with pending := s.pending } := rfl

end Sys2Proof.Machine
end

