-- ==== Sys2Proof/WellFormed.lean ====
section
/-! DEFINITION. Well-formed commands: every operand names something the part has, or fits the field that carries it. An
ill-formed command is one the outside world cannot send; its meaning is total all the same. -/

namespace Sys2Proof

open Sys2Proof.Machine

/-- The bounds of an origin: a session's ID is a non-zero 32-bit number (R351). -/
def originBounds (o : Origin) : List (Nat × Nat) :=
  match o with
  | .session id => [(id, two32), (0, id)]
  | .localPort => []

/-- Each operand that has a bound, with the bound: the operand is below it. -/
def Instr.bounds (i : Instr) : List (Nat × Nat) :=
  match i with
  | .powerUp => []
  | .resetNLow => []
  | .resetNRise bootSel => [(bootSel, 4)]
  | .firmwareVerify _ _ => []
  | .bootSelfTest _ => []
  | .cairnRead _ => []
  | .supplyOutOfRange rail _ => [(rail, 8)]
  | .supplyWarn rail _ => [(rail, 8)]
  | .fbxSupplyLow => []
  | .overTemp die _ => [(die, 2)]
  | .darkNLow => []
  | .darkNHigh => []
  | .headEnChange _ => []
  | .edgeCaptured input _ => [(input, 4)]
  | .clockFail clock => [(clock, 5)]
  | .belayInternal unit => [(unit, 0x100)]
  | .faultPin => []
  | .fireboxRef _ => []
  | .coreWatchdog cpu => [(cpu, 4)]
  | .domainSwitchOn d => [(d, 10)]
  | .domainPowerGood d => [(d, 10)]
  | .domainSwitchTimeout d => [(d, 10)]
  | .domainSwitchOff d => [(d, 10)]
  | .dramRetry => []
  | .tick _ => []
  | .timedWriteDue => []
  | .holdoverLimit => []
  | .staticEnter => []
  | .fadeDone slot => [(slot, 4096)]
  | .loopAdvance loop => [(loop, 16)]
  | .rasterLineStart late fault addr => [(late, 0x10000), (fault, 4), (addr, two64)]
  | .sob _ => []
  | .frameDone => []
  | .flueCopyStart => []
  | .flueCopyDone _ => []
  | .emissionFrameStart _ sink => [(sink, 768)]
  | .emissionSegmentStart => []
  | .scanSlot _ _ => []
  | .emissionFrameEnd => []
  | .lampUnverified => []
  | .draughtRampEnd => []
  | .draughtOv _ => []
  | .draughtUv _ => []
  | .phaseCurrentLimit phase _ => [(phase, 4)]
  | .ntcSample input rt => [(input, 8), (rt, two32)]
  | .strandFrameStart port => [(port, 32)]
  | .rdmResponse port _ => [(port, 8)]
  | .rdmTimeout port => [(port, 8)]
  | .sacnDataPacket => []
  | .sacnDiscovery => []
  | .portUp port => [(port, 3)]
  | .portDown port => [(port, 3)]
  | .rxFrame port _ _ => [(port, 3)]
  | .pause port quanta => [(port, 3), (quanta, 0x10000)]
  | .pauseExpire port => [(port, 3)]
  | .pauseWatchdog port => [(port, 3)]
  | .pauseDisregardEnd port => [(port, 3)]
  | .mdioPoll _ speed => [(speed, 1001)]
  | .eyeScan port _ => [(port, 2)]
  | .arpAnnounce => []
  | .igmpQuery port version => [(port, 3), (version, 4)]
  | .igmpReportRepeat => []
  | .igmpv2FallbackEnd => []
  | .sync port _ => [(port, 3)]
  | .followUp port _ => [(port, 3)]
  | .delayReq port _ => [(port, 3)]
  | .delayResp port _ => [(port, 3)]
  | .announce port _ _ => [(port, 3)]
  | .pdelayReq port _ => [(port, 2)]
  | .pdelayResp port _ => [(port, 2)]
  | .pdelayRespFollowUp port _ => [(port, 2)]
  | .syncSend port => [(port, 3)]
  | .announceSend port => [(port, 3)]
  | .delayReqSend => []
  | .pdelayReqSend port => [(port, 2)]
  | .syncTimeout => []
  | .announceTimeout => []
  | .initialSet => []
  | .stepApply => []
  | .autoAccept => []
  | .ptpWaitExpire => []
  | .ropeWaitExpire => []
  | .pulseEdge output => [(output, 4)]
  | .heartbeatSend port => [(port, 2)]
  | .heartbeat port mac hport addrState seg pos term => [(port, 2), (mac, 0x1000000000000), (hport, 2), (addrState, 5),
      (seg, 0x100), (pos, 0x100), (term, two32)]
  | .heartbeatLoss port => [(port, 2)]
  | .provingDone port => [(port, 2)]
  | .breakNotice mac port cause lost => [(mac, 0x1000000000000), (port, 2), (cause, 0x100), (lost, two32)]
  | .breakNoticeRepeat port => [(port, 2)]
  | .healNotice mac port lost => [(mac, 0x1000000000000), (port, 2), (lost, two32)]
  | .headBeaconSend => []
  | .headBeacon mac pos seg term prefixV mode ring segLen prio => [(mac, 0x1000000000000), (pos, 0x100), (seg, 0x100),
      (term, two32), (prefixV, 0x10000), (mode, 0x100), (ring, 0x100), (segLen, 257), (prio, 0x100)]
  | .beaconSilence => []
  | .headBidSend => []
  | .headBid mac prio keyPos term => [(mac, 0x1000000000000), (prio, 0x100), (keyPos, 0x10000), (term, two32)]
  | .biddingDone => []
  | .headResign mac term => [(mac, 0x1000000000000), (term, two32)]
  | .trailDownResign => []
  | .joinReqSend => []
  | .joinReq mac => [(mac, 0x1000000000000)]
  | .ropingRun => []
  | .ropeCall port hop callId seg _ => [(port, 2), (hop, 0x100), (callId, 0x10000), (seg, 0x100)]
  | .ropeCallEnd port callId seg _ => [(port, 2), (callId, 0x10000), (seg, 0x100)]
  | .callTimeout => []
  | .ropeSet port callId seg segLen _ => [(port, 2), (callId, 0x10000), (seg, 0x100), (segLen, 257)]
  | .dupWindowForget src => [(src, 0x1000000000000)]
  | .injectDurationEnd => []
  | .sacnSourceTimeout src => [(src, 2 ^ 128)]
  | .sacnSyncTimeout univ => [(univ, 0x10000)]
  | .hello addr port role => [(addr, two32), (port, 0x10000), (role, 0x100)]
  | .response addr port hsId cNonce mac => [(addr, two32), (port, 0x10000), (hsId, two32), (cNonce.length, 17),
      (15, cNonce.length), (mac.length, 33), (31, mac.length)]
  | .close addr port sess seq => [(addr, two32), (port, 0x10000), (sess, two32), (seq, two32)]
  | .handshakeExpire hsId => [(hsId, two32)]
  | .lockoutEnd addr => [(addr, two32)]
  | .sessionTimeout sess => [(sess, two32)]
  | .read o ix sub ty => originBounds o ++ [(ix, 0x10000), (sub, 0x100), (ty, 0x100)]
  | .write o ix sub ty _ => originBounds o ++ [(ix, 0x10000), (sub, 0x100), (ty, 0x100)]
  | .timedWrite o ix sub ty _ time => originBounds o ++ [(ix, 0x10000), (sub, 0x100), (ty, 0x100), (time, 2 ^ 80)]
  | .domainBegin o ix sub dir total start => originBounds o ++ [(ix, 0x10000), (sub, 0x100), (dir, 0x100), (total, two32),
      (start, two32)]
  | .domainData o transfer block offset crc _ => originBounds o ++ [(transfer, 0x10000), (block, two32), (offset, 0x10000),
      (crc, two32)]
  | .domainRead o transfer block offset count => originBounds o ++ [(transfer, 0x10000), (block, two32), (offset, 0x10000),
      (count, 0x10000)]
  | .domainEnd o transfer _ _ => originBounds o ++ [(transfer, 0x10000)]
  | .describe o ix sub => originBounds o ++ [(ix, 0x10000), (sub, 0x100)]
  | .domainTransferTimeout transfer => [(transfer, 0x10000)]
  | .send _ _ _ => []
  | .fetch _ => []
  | .statusPoll _ cmd => [(cmd, 0x100)]
  | .odWrite o ix sub _ => originBounds o ++ [(ix, 0x10000), (sub, 0x100)]
  | .rcCounterRead o ix sub => originBounds o ++ [(ix, 0x10000), (sub, 0x100)]
  | .reqShow o => originBounds o
  | .reqStaging o => originBounds o
  | .reqDark o => originBounds o
  | .commit o => originBounds o
  | .discard o => originBounds o
  | .timedCancel o => originBounds o
  | .selectSlot o slot => originBounds o ++ [(slot, 0x100)]
  | .load o slot => originBounds o ++ [(slot, 0x100)]
  | .topoLoadDone => []
  | .topoActivate => []
  | .switch o => originBounds o
  | .switchBegin => []
  | .switchTablesInForce => []
  | .armingStart => []
  | .armingDone => []
  | .slotA o _ _ => originBounds o
  | .mark o stream => originBounds o ++ [(stream, 8)]
  | .rewind o stream => originBounds o ++ [(stream, 8)]
  | .loopStart o loop => originBounds o ++ [(loop, 16)]
  | .loopStop o loop => originBounds o ++ [(loop, 16)]
  | .append o loop entry => originBounds o ++ [(loop, 16), (entry.length, 17), (15, entry.length)]
  | .loopRewind o loop => originBounds o ++ [(loop, 16)]
  | .surfData o _ => originBounds o
  | .coefData o _ => originBounds o
  | .lutData o _ => originBounds o
  | .groupSet o group level => originBounds o ++ [(group, 1024), (level, 0x10000)]
  | .groupBind o _ => originBounds o
  | .fadeStart o _ => originBounds o
  | .fadeStop o slot => originBounds o ++ [(slot, 4096)]
  | .rdmReq o _ => originBounds o
  | .discStart o port => originBounds o ++ [(port, 0x100)]
  | .calRunSink o => originBounds o
  | .calRunNtc o => originBounds o
  | .calRunTslat o => originBounds o
  | .calRunStart => []
  | .calSequenceDone _ => []
  | .calAccept o => originBounds o
  | .calDiscard o => originBounds o
  | .snapshot o => originBounds o
  | .acceptStep o => originBounds o
  | .injectArm o => originBounds o
  | .injectDisarm o => originBounds o
  | .clearPosition o => originBounds o
  | .rerope o => originBounds o
  | .keyWrite o slot key => originBounds o ++ [(slot, 4), (key.length, 33), (31, key.length)]
  | .sessKill o sess => originBounds o ++ [(sess, two32)]
  | .fwImage o _ _ _ => originBounds o
  | .fwRestart o => originBounds o
  | .fwFloorRaise o => originBounds o
  | .flashRaw o start _ => originBounds o ++ [(start, two32)]
  | .acquire o _ => originBounds o
  | .release o cb => originBounds o ++ [(cb, 64)]
  | .renew o _ => originBounds o
  | .forceRelease o cb => originBounds o ++ [(cb, 64)]
  | .leaseEnd cb => [(cb, 64)]
  | .prioSet o _ => originBounds o
  | .taskCancel o task => originBounds o ++ [(task, two32)]
  | .descCancel o desc => originBounds o ++ [(desc, 0x1000000)]
  | .push o queue item => originBounds o ++ [(queue, 32), (item.length, 65), (63, item.length)]
  | .pop o queue => originBounds o ++ [(queue, 32)]
  | .clampRead o => originBounds o
  | .rejectRead o => originBounds o
  | .evqRead o => originBounds o
  | .faultRead o => originBounds o
  | .traceRead o => originBounds o
  | .diagRead o port => originBounds o ++ [(port, 3)]
  | .capture o input => originBounds o ++ [(input, 4)]
  | .rdmResp o => originBounds o
  | .pending o mask => originBounds o ++ [(mask, two64)]
  | .firstClear o => originBounds o
  | .faultAck o => originBounds o
  | .darkRelease o => originBounds o
  | .faultInject o cls => originBounds o ++ [(cls, 0x100)]
  | .clear o lamp => originBounds o ++ [(lamp, 0x10000)]
  | .planRelease entry => [(entry, 4096)]
  | .eventRelease desc => [(desc, 0x1000000)]
  | .prefetch engine => [(engine, 16)]
  | .dispatch engine => [(engine, 16)]
  | .deadlineMiss task => [(task, two32)]
  | .queueReadTimeout engine => [(engine, 16)]
  | .queuePushUnblocked engine => [(engine, 16)]
  | .spillBurstWrite q => [(q, 32)]
  | .spillReadback q => [(q, 32)]
  | .linkWalk _ queue cell => [(queue, 1024), (cell, two32)]
  | .arbitration _ bank _ _ => [(bank, 33)]
  | .nop engine => [(engine, 16)]
  | .copy engine ecc => [(engine, 16), (ecc, 3)]
  | .fill engine => [(engine, 16)]
  | .crc32 engine ecc => [(engine, 16), (ecc, 3)]
  | .unpack engine ecc => [(engine, 16), (ecc, 3)]
  | .sigReadback engine ecc => [(engine, 16), (ecc, 3)]
  | .sacnMerge engine => [(engine, 16)]
  | .audioBands engine => [(engine, 16)]
  | .queueMove engine => [(engine, 16)]
  | .gather engine ecc => [(engine, 16), (ecc, 3)]
  | .scrub engine ecc => [(engine, 16), (ecc, 3)]
  | .selfTest engine _ => [(engine, 16)]
  | .lutLoad engine ecc => [(engine, 16), (ecc, 3)]
  | .surfStore engine ecc => [(engine, 16), (ecc, 3)]
  | .signal engine => [(engine, 16)]
  | .videoIngest engine => [(engine, 16)]
  | .audioIngest engine => [(engine, 16)]
  | .sacnParse engine => [(engine, 16)]
  | .pixelRx engine => [(engine, 16)]
  | .ctrlParse engine _ => [(engine, 16)]
  | .ropeCtrl engine => [(engine, 16)]
  | .hdrBuild engine => [(engine, 16)]
  | .csum engine ecc => [(engine, 16), (ecc, 3)]
  | .host engine => [(engine, 16)]
  | .faultReaction steps => [(steps, 0x100)]
  | .cairnWriteDone => []
  | .belayRestart => []
  | .hearthScrub line ecc => [(line, 2097152), (ecc, 3)]
  | .scrubStalled _ => []
  | .engineTestRelease => []
  | .supplyBackInRange rail _ => [(rail, 8)]
  | .overTempClear die _ => [(die, 2)]
  | .vledBelowMax _ => []
  | .lifeHour => []
  | .reorderHoldExpire port => [(port, 3)]
  | .dramScrubRelease => []
  | .calRecordWriteDone => []

/-- Is a command well formed? -/
def Instr.wf (i : Instr) : Bool := i.bounds.all fun p => decide (p.1 < p.2)

end Sys2Proof
end

