-- ==== Sys2Proof/Tests/Slice0.lean ====
section
/-! SUPPORT. The tests of the model: ill-formed commands that the check refuses, for every statement concrete states and operands that
meet its hypotheses, and the worked examples of the spec. -/

namespace Sys2Proof.Tests

open Sys2Proof Sys2Proof.Machine

set_option Elab.async false

/-! ### Helpers -/

/-- The unit running in mode `m`, every domain ON, with the local port and its key. -/
def up (m : Mode) : State :=
  { mode := { mode := m, boot := .running }, power := { dom := [2, 2, 2, 2, 2, 2, 2, 2, 2, 2] }
    pins := { resetN := true, keyEn := true }, lcl := { keyEn := true }, clock := { ns := 1000, cclk := 99 } }

/-- A session of the highest role. -/
def svc : Session :=
  { id := 7, slot := 0, role := .service, addr := 1, port := 2, nextSeq := 1, opened := 0, last := 0, cached := none }

/-- `up`, with that session open. -/
def served (m : Mode) : State := { up m with ctl := { sessions := [svc] } }

/-- The next state of a command, `s` itself where there is none. -/
def after (c : Instr) (s : State) : State :=
  match exec c s with
  | .next t => t
  | _ => s

/-- Does an outcome go on? -/
def goesOn : Host.Outcome State Fault Refusal → Bool
  | .next _ => true
  | _ => false

theorem next_of_goesOn {r : Host.Outcome State Fault Refusal} (h : goesOn r = true) : ∃ t, r = .next t := by
  cases r with
  | next t => exact ⟨t, rfl⟩
  | _ => cases h

theorem canUse_iff (s : State) (o : Origin) (r : Role) (d : Nat) : s.canUse o r d ↔
    (s.alive && (s.roleOf o).any (fun q => decide (r.rank ≤ q.rank)) && s.domOn d) = true := by
  unfold State.canUse
  cases s.roleOf o <;> simp [and_assoc]

/-- The local port. -/
def lcl0 : Origin := .localPort

/-- The session of `served`. -/
def ses : Origin := .session 7

/-- A sensor reading. -/
def seen : Sensors := { rails := [1, 2, 3, 4, 5, 6, 7], vddq := 9, tjLogic := 30, tjFbx := 30, vled := 0 }

/-- A PTP message the unit takes: Sync 5 from clock 77. -/
def ptpMsg : PtpMsg :=
  { kind := 0, sdo := 0, version := 2, domain := (up .staging).reg Reg.domain, long := true, twoStep := false, ptpScale := true
    flags := 3, corr := 0, srcClock := 77, srcPort := 1, seq := 5, logInt := 0, stamp := 500000, reqClock := 0, reqPort := 1 }

/-- What an Announce of clock 123 says. -/
def annData : AnnData := { gm := 123, p1 := 1, cls := 6, acc := 1, var := 1, p2 := 1, steps := 0 }

/-- Ill-formed commands, part 1: for each check one command that breaks it. -/
def illFormed1 : List Instr := [
   .resetNRise 4, .supplyOutOfRange 8 0, .supplyWarn 8 0, .overTemp 2 0, .edgeCaptured 4 false, .clockFail 5,
    .belayInternal 0x100, .coreWatchdog 4, .domainSwitchOn 10, .domainPowerGood 10, .domainSwitchTimeout 10,
    .domainSwitchOff 10, .fadeDone 4096, .loopAdvance 16, .rasterLineStart 0x10000 0 0, .rasterLineStart 0 4 0,
    .rasterLineStart 0 0 18446744073709551616, .emissionFrameStart false 768, .phaseCurrentLimit 4 0, .ntcSample 8 0,
    .ntcSample 0 4294967296, .strandFrameStart 32, .rdmResponse 8 [], .rdmTimeout 8, .portUp 3, .portDown 3,
    .rxFrame 3 [] false, .pause 3 0, .pause 0 0x10000, .pauseExpire 3, .pauseWatchdog 3, .pauseDisregardEnd 3,
    .mdioPoll false 1001, .eyeScan 2 0, .igmpQuery 3 0, .igmpQuery 0 4, .sync 3 ptpMsg, .followUp 3 ptpMsg,
    .delayReq 3 ptpMsg, .delayResp 3 ptpMsg, .announce 3 ptpMsg annData, .pdelayReq 2 ptpMsg, .pdelayResp 2 ptpMsg,
    .pdelayRespFollowUp 2 ptpMsg, .syncSend 3, .announceSend 3, .pdelayReqSend 2, .pulseEdge 4, .heartbeatSend 2,
    .heartbeat 2 0 0 0 0 0 0, .heartbeat 0 0x1000000000000 0 0 0 0 0, .heartbeat 0 0 2 0 0 0 0,
    .heartbeat 0 0 0 5 0 0 0, .heartbeat 0 0 0 0 0x100 0 0, .heartbeat 0 0 0 0 0 0x100 0,
    .heartbeat 0 0 0 0 0 0 4294967296, .heartbeatLoss 2, .provingDone 2, .breakNotice 0x1000000000000 0 0 0,
    .breakNotice 0 2 0 0]

/-- The check refuses each of them. -/
theorem test_wf_refuses_1 : (illFormed1.all fun c => !c.wf) = true := by decide +kernel

/-- Ill-formed commands, part 2: for each check one command that breaks it. -/
def illFormed2 : List Instr := [
   .breakNotice 0 0 0x100 0, .breakNotice 0 0 0 4294967296, .breakNoticeRepeat 2, .healNotice 0x1000000000000 0 0,
    .healNotice 0 2 0, .healNotice 0 0 4294967296, .headBeacon 0x1000000000000 0 0 0 0 0 0 0 0,
    .headBeacon 0 0x100 0 0 0 0 0 0 0, .headBeacon 0 0 0x100 0 0 0 0 0 0, .headBeacon 0 0 0 4294967296 0 0 0 0 0,
    .headBeacon 0 0 0 0 0x10000 0 0 0 0, .headBeacon 0 0 0 0 0 0x100 0 0 0, .headBeacon 0 0 0 0 0 0 0x100 0 0,
    .headBeacon 0 0 0 0 0 0 0 257 0, .headBeacon 0 0 0 0 0 0 0 0 0x100, .headBid 0x1000000000000 0 0 0,
    .headBid 0 0x100 0 0, .headBid 0 0 0x10000 0, .headBid 0 0 0 4294967296, .headResign 0x1000000000000 0,
    .headResign 0 4294967296, .joinReq 0x1000000000000, .ropeCall 2 0 0 0 [], .ropeCall 0 0x100 0 0 [],
    .ropeCall 0 0 0x10000 0 [], .ropeCall 0 0 0 0x100 [], .ropeCallEnd 2 0 0 [], .ropeCallEnd 0 0x10000 0 [],
    .ropeCallEnd 0 0 0x100 [], .ropeSet 2 0 0 0 [], .ropeSet 0 0x10000 0 0 [], .ropeSet 0 0 0x100 0 [],
    .ropeSet 0 0 0 257 [], .dupWindowForget 0x1000000000000, .sacnSourceTimeout (2 ^ 128), .sacnSyncTimeout 0x10000,
    .hello 4294967296 0 0, .hello 0 0x10000 0, .hello 0 0 0x100,
    .response 4294967296 0 0 (List.replicate 16 0) (List.replicate 32 0),
    .response 0 0x10000 0 (List.replicate 16 0) (List.replicate 32 0),
    .response 0 0 4294967296 (List.replicate 16 0) (List.replicate 32 0),
    .response 0 0 0 (List.replicate 17 0) (List.replicate 32 0),
    .response 0 0 0 (List.replicate 15 0) (List.replicate 32 0),
    .response 0 0 0 (List.replicate 16 0) (List.replicate 33 0),
    .response 0 0 0 (List.replicate 16 0) (List.replicate 31 0), .close 4294967296 0 0 0, .close 0 0x10000 0 0,
    .close 0 0 4294967296 0, .close 0 0 0 4294967296, .handshakeExpire 4294967296, .lockoutEnd 4294967296,
    .sessionTimeout 4294967296, .read (.session 0) 0 0 0, .read (.session 4294967296) 0 0 0,
    .read .localPort 0x10000 0 0, .read .localPort 0 0x100 0, .read .localPort 0 0 0x100, .write (.session 0) 0 0 0 [],
    .write (.session 4294967296) 0 0 0 []]

/-- The check refuses each of them. -/
theorem test_wf_refuses_2 : (illFormed2.all fun c => !c.wf) = true := by decide +kernel

/-- Ill-formed commands, part 3: for each check one command that breaks it. -/
def illFormed3 : List Instr := [
   .write .localPort 0x10000 0 0 [], .write .localPort 0 0x100 0 [], .write .localPort 0 0 0x100 [],
    .timedWrite (.session 0) 0 0 0 [] 0, .timedWrite (.session 4294967296) 0 0 0 [] 0,
    .timedWrite .localPort 0x10000 0 0 [] 0, .timedWrite .localPort 0 0x100 0 [] 0,
    .timedWrite .localPort 0 0 0x100 [] 0, .timedWrite .localPort 0 0 0 [] (2 ^ 80),
    .domainBegin (.session 0) 0 0 0 0 0, .domainBegin (.session 4294967296) 0 0 0 0 0,
    .domainBegin .localPort 0x10000 0 0 0 0, .domainBegin .localPort 0 0x100 0 0 0,
    .domainBegin .localPort 0 0 0x100 0 0, .domainBegin .localPort 0 0 0 4294967296 0,
    .domainBegin .localPort 0 0 0 0 4294967296, .domainData (.session 0) 0 0 0 0 [],
    .domainData (.session 4294967296) 0 0 0 0 [], .domainData .localPort 0x10000 0 0 0 [],
    .domainData .localPort 0 4294967296 0 0 [], .domainData .localPort 0 0 0x10000 0 [],
    .domainData .localPort 0 0 0 4294967296 [], .domainRead (.session 0) 0 0 0 0,
    .domainRead (.session 4294967296) 0 0 0 0, .domainRead .localPort 0x10000 0 0 0,
    .domainRead .localPort 0 4294967296 0 0, .domainRead .localPort 0 0 0x10000 0,
    .domainRead .localPort 0 0 0 0x10000, .domainEnd (.session 0) 0 false false,
    .domainEnd (.session 4294967296) 0 false false, .domainEnd .localPort 0x10000 false false,
    .describe (.session 0) 0 0, .describe (.session 4294967296) 0 0, .describe .localPort 0x10000 0,
    .describe .localPort 0 0x100, .domainTransferTimeout 0x10000, .statusPoll false 0x100,
    .odWrite (.session 0) 0 0 [], .odWrite (.session 4294967296) 0 0 [], .odWrite .localPort 0x10000 0 [],
    .odWrite .localPort 0 0x100 [], .rcCounterRead (.session 0) 0 0, .rcCounterRead (.session 4294967296) 0 0,
    .rcCounterRead .localPort 0x10000 0, .rcCounterRead .localPort 0 0x100, .reqShow (.session 0),
    .reqShow (.session 4294967296), .reqStaging (.session 0), .reqStaging (.session 4294967296), .reqDark (.session 0),
    .reqDark (.session 4294967296), .commit (.session 0), .commit (.session 4294967296), .discard (.session 0),
    .discard (.session 4294967296), .timedCancel (.session 0), .timedCancel (.session 4294967296),
    .selectSlot (.session 0) 0, .selectSlot (.session 4294967296) 0, .selectSlot .localPort 0x100]

/-- The check refuses each of them. -/
theorem test_wf_refuses_3 : (illFormed3.all fun c => !c.wf) = true := by decide +kernel

/-- Ill-formed commands, part 4: for each check one command that breaks it. -/
def illFormed4 : List Instr := [
   .load (.session 0) 0, .load (.session 4294967296) 0, .load .localPort 0x100, .switch (.session 0),
    .switch (.session 4294967296), .slotA (.session 0) false [], .slotA (.session 4294967296) false [],
    .mark (.session 0) 0, .mark (.session 4294967296) 0, .mark .localPort 8, .rewind (.session 0) 0,
    .rewind (.session 4294967296) 0, .rewind .localPort 8, .loopStart (.session 0) 0,
    .loopStart (.session 4294967296) 0, .loopStart .localPort 16, .loopStop (.session 0) 0,
    .loopStop (.session 4294967296) 0, .loopStop .localPort 16, .append (.session 0) 0 (List.replicate 16 0),
    .append (.session 4294967296) 0 (List.replicate 16 0), .append .localPort 16 (List.replicate 16 0),
    .append .localPort 0 (List.replicate 17 0), .append .localPort 0 (List.replicate 15 0), .loopRewind (.session 0) 0,
    .loopRewind (.session 4294967296) 0, .loopRewind .localPort 16, .surfData (.session 0) [],
    .surfData (.session 4294967296) [], .coefData (.session 0) [], .coefData (.session 4294967296) [],
    .lutData (.session 0) [], .lutData (.session 4294967296) [], .groupSet (.session 0) 0 0,
    .groupSet (.session 4294967296) 0 0, .groupSet .localPort 1024 0, .groupSet .localPort 0 0x10000,
    .groupBind (.session 0) [], .groupBind (.session 4294967296) [], .fadeStart (.session 0) [],
    .fadeStart (.session 4294967296) [], .fadeStop (.session 0) 0, .fadeStop (.session 4294967296) 0,
    .fadeStop .localPort 4096, .rdmReq (.session 0) [], .rdmReq (.session 4294967296) [], .discStart (.session 0) 0,
    .discStart (.session 4294967296) 0, .discStart .localPort 0x100, .calRunSink (.session 0),
    .calRunSink (.session 4294967296), .calRunNtc (.session 0), .calRunNtc (.session 4294967296),
    .calRunTslat (.session 0), .calRunTslat (.session 4294967296), .calAccept (.session 0),
    .calAccept (.session 4294967296), .calDiscard (.session 0), .calDiscard (.session 4294967296),
    .snapshot (.session 0)]

/-- The check refuses each of them. -/
theorem test_wf_refuses_4 : (illFormed4.all fun c => !c.wf) = true := by decide +kernel

/-- Ill-formed commands, part 5: for each check one command that breaks it. -/
def illFormed5 : List Instr := [
   .snapshot (.session 4294967296), .acceptStep (.session 0), .acceptStep (.session 4294967296),
    .injectArm (.session 0), .injectArm (.session 4294967296), .injectDisarm (.session 0),
    .injectDisarm (.session 4294967296), .clearPosition (.session 0), .clearPosition (.session 4294967296),
    .rerope (.session 0), .rerope (.session 4294967296), .keyWrite (.session 0) 0 (List.replicate 32 0),
    .keyWrite (.session 4294967296) 0 (List.replicate 32 0), .keyWrite .localPort 4 (List.replicate 32 0),
    .keyWrite .localPort 0 (List.replicate 33 0), .keyWrite .localPort 0 (List.replicate 31 0),
    .sessKill (.session 0) 0, .sessKill (.session 4294967296) 0, .sessKill .localPort 4294967296,
    .fwImage (.session 0) false [] false, .fwImage (.session 4294967296) false [] false, .fwRestart (.session 0),
    .fwRestart (.session 4294967296), .fwFloorRaise (.session 0), .fwFloorRaise (.session 4294967296),
    .flashRaw (.session 0) 0 [], .flashRaw (.session 4294967296) 0 [], .flashRaw .localPort 4294967296 [],
    .acquire (.session 0) [], .acquire (.session 4294967296) [], .release (.session 0) 0,
    .release (.session 4294967296) 0, .release .localPort 64, .renew (.session 0) [], .renew (.session 4294967296) [],
    .forceRelease (.session 0) 0, .forceRelease (.session 4294967296) 0, .forceRelease .localPort 64, .leaseEnd 64,
    .prioSet (.session 0) [], .prioSet (.session 4294967296) [], .taskCancel (.session 0) 0,
    .taskCancel (.session 4294967296) 0, .taskCancel .localPort 4294967296, .descCancel (.session 0) 0,
    .descCancel (.session 4294967296) 0, .descCancel .localPort 0x1000000, .push (.session 0) 0 (List.replicate 64 0),
    .push (.session 4294967296) 0 (List.replicate 64 0), .push .localPort 32 (List.replicate 64 0),
    .push .localPort 0 (List.replicate 65 0), .push .localPort 0 (List.replicate 63 0), .pop (.session 0) 0,
    .pop (.session 4294967296) 0, .pop .localPort 32, .clampRead (.session 0), .clampRead (.session 4294967296),
    .rejectRead (.session 0), .rejectRead (.session 4294967296), .evqRead (.session 0)]

/-- The check refuses each of them. -/
theorem test_wf_refuses_5 : (illFormed5.all fun c => !c.wf) = true := by decide +kernel

/-- Ill-formed commands, part 6: for each check one command that breaks it. -/
def illFormed6 : List Instr := [
   .evqRead (.session 4294967296), .faultRead (.session 0), .faultRead (.session 4294967296), .traceRead (.session 0),
    .traceRead (.session 4294967296), .diagRead (.session 0) 0, .diagRead (.session 4294967296) 0,
    .diagRead .localPort 3, .capture (.session 0) 0, .capture (.session 4294967296) 0, .capture .localPort 4,
    .rdmResp (.session 0), .rdmResp (.session 4294967296), .pending (.session 0) 0, .pending (.session 4294967296) 0,
    .pending .localPort 18446744073709551616, .firstClear (.session 0), .firstClear (.session 4294967296),
    .faultAck (.session 0), .faultAck (.session 4294967296), .darkRelease (.session 0),
    .darkRelease (.session 4294967296), .faultInject (.session 0) 0, .faultInject (.session 4294967296) 0,
    .faultInject .localPort 0x100, .clear (.session 0) 0, .clear (.session 4294967296) 0, .clear .localPort 0x10000,
    .planRelease 4096, .eventRelease 0x1000000, .prefetch 16, .dispatch 16, .deadlineMiss 4294967296,
    .queueReadTimeout 16, .queuePushUnblocked 16, .spillBurstWrite 32, .spillReadback 32, .linkWalk false 1024 0,
    .linkWalk false 0 4294967296, .arbitration false 33 false [], .nop 16, .copy 16 0, .copy 0 3, .fill 16,
    .crc32 16 0, .crc32 0 3, .unpack 16 0, .unpack 0 3, .sigReadback 16 0, .sigReadback 0 3, .sacnMerge 16,
    .audioBands 16, .queueMove 16, .gather 16 0, .gather 0 3, .scrub 16 0, .scrub 0 3, .selfTest 16 false,
    .lutLoad 16 0, .lutLoad 0 3]

/-- The check refuses each of them. -/
theorem test_wf_refuses_6 : (illFormed6.all fun c => !c.wf) = true := by decide +kernel

/-- Ill-formed commands, part 7: for each check one command that breaks it. -/
def illFormed7 : List Instr := [
   .surfStore 16 0, .surfStore 0 3, .signal 16, .videoIngest 16, .audioIngest 16, .sacnParse 16, .pixelRx 16,
    .ctrlParse 16 false, .ropeCtrl 16, .hdrBuild 16, .csum 16 0, .csum 0 3, .host 16, .faultReaction 0x100,
    .hearthScrub 2097152 0, .hearthScrub 0 3]

/-- The check refuses each of them. -/
theorem test_wf_refuses_7 : (illFormed7.all fun c => !c.wf) = true ∧ (Instr.supplyBackInRange 8 0).wf = false ∧
    (Instr.overTempClear 2 0).wf = false ∧ (Instr.reorderHoldExpire 3).wf = false := by decide +kernel

/-! ### A witness for every statement with hypotheses -/

theorem test_witness_StepTakesFrontCommand :
    ({ up .staging with pending := [.faultPin, .commit lcl0] } : State).pending = [.faultPin, .commit lcl0] ∧ (up .dark).pending = [] := by
  decide +kernel

theorem test_witness_StoresStayCanonical : ({ up .staging with pending := [.commit lcl0] } : State).storesOk ∧
    ∃ t, step { up .staging with pending := [.commit lcl0] } = .next t :=
  ⟨by unfold State.storesOk; decide +kernel, next_of_goesOn (by decide +kernel)⟩

theorem test_witness_EveryStepKeeps : ({ up .staging with pending := [.darkNLow] } : State).clock.ok ∧
    ∃ t, step { up .staging with pending := [.darkNLow] } = .next t :=
  ⟨by unfold ClockSt.ok; decide +kernel, next_of_goesOn (by decide +kernel)⟩

theorem test_witness_ClockAndBoundaries :
    (({ ns := clockWrap - 1, frac := two32 - 1, trim := -858993 } : ClockSt).ok ∧ ({ ns := 5, trim := 858993 } : ClockSt).ok) ∧
    0 < 60000 ∧ 0 < 1001 ∧ 1000 ≤ boundary 60000 1001 1 := by
  unfold ClockSt.ok; decide +kernel

theorem test_witness_DarkLatchSetters : (up .dark).alive = true ∧ (up .staging).alive = true ∧
    (after (.commit lcl0) (after (.clockFail 4) (up .staging))).belay.latchDark = true ∧
    ∃ t, exec (.commit lcl0) (after (.clockFail 4) (up .staging)) = .next t :=
  ⟨by decide +kernel, by decide +kernel, by decide +kernel, next_of_goesOn (by decide +kernel)⟩

/-- The cell pool at its warning level. -/
def lowPool : State :=
  let s := { up .staging with q := { (up .staging).q with lowArmed := true } }
  s.setReg Reg.poolLowCells (s.poolFree + 1)

theorem test_witness_EventsAreRecorded : (State.reset.alive = false) ∧ (up .staging).storesOk ∧ (up .staging).alive = true ∧
    (bit ((up .staging).reg Reg.mask) 63 = false ∧ bit ((up .staging).reg Reg.routeQ) 63 = true ∧ 0 < (up .staging).poolFree ∧
      (up .staging).ev.queue.length < 1024 ∧ (up .staging).poolQuiet ∧ (up .staging).ev.queue = []) ∧
    (lowPool.storesOk ∧ lowPool.alive = true ∧ lowPool.q.lowArmed = true ∧ lowPool.poolFree ≤ lowPool.reg Reg.poolLowCells ∧
      0 < lowPool.reg Reg.poolLowCells) ∧
    bit (((up .staging).setReg Reg.mask 1).reg Reg.mask) 0 = true ∧ bit (((up .staging).setReg Reg.routeQ 1).reg Reg.routeQ) 63 = false := by
  unfold State.storesOk State.poolQuiet; decide +kernel

theorem test_witness_ClampTakesNearest : (0 : Int) ≤ 5000 ∧ 0 < 20 ∧ ((5000 : Int) - 0) % ((20 : Nat) : Int) = 0 ∧
    (0 : Int) ≤ 5000 ∧ (5000 : Int) ≤ 5000 ∧ ((5000 : Int) - 0) % ((20 : Nat) : Int) = 0 := by
  decide

/-- Both forms of the code: x = 0 from p = 1023 with k = 2 in unary, and x = 512 from p = 0 as the escape. -/
theorem test_witness_PackedCodeReadsBack :
    (0 < 10 ∧ 0 < 2 ^ 10 ∧ 1023 < 2 ^ 10 ∧ ((0 : Int) - 1023) % (2 ^ 10 : Nat) = 1 ∧ (1 : Int) < (2 ^ 9 : Nat) ∧ (2 : Int) = 2 * 1 ∧
      2 / 2 ^ 2 < 24 ∧ List.replicate (2 / 2 ^ 2) false ++ [true] ++ (List.range 2).map (fun i => 2 / 2 ^ (2 - 1 - i) % 2 == 1) =
        [true, true, false]) ∧
    (512 < 2 ^ 10 ∧ ((512 : Int) - 0) % (2 ^ 10 : Nat) = 512 ∧ ¬ (512 : Int) < (2 ^ 9 : Nat) ∧ (1023 : Int) = -2 * (512 - 1024) - 1 ∧
      ¬ 1023 / 2 ^ 2 < 24) := by
  decide

theorem test_witness_DitherOverFrames : (65535 ≤ 65535 ∧ 0 ≤ 65535) ∧ 0 < 1 := by decide

/-- The unit before power-up, and held by RESET_N. -/
def heldUnit : State := { mode := { boot := .held } }

theorem test_witness_PowerAndResetPins : (State.reset.storesOk ∧ State.reset.mode.boot = .unpowered) ∧
    ((up .onShow).storesOk ∧ (up .onShow).mode.boot ≠ .unpowered) ∧
    (heldUnit.pins.resetN = false ∧ heldUnit.mode.boot = .held ∧ heldUnit.power.outOf = []) := by
  unfold State.storesOk; decide +kernel

/-- The boot at a stage. -/
def booting (b : BootStage) : State := { mode := { boot := b }, pins := { resetN := true } }

/-- The same, a second late. -/
def lateBoot (b : BootStage) : State := { booting b with clock := { cclk := 1000000000 } }

theorem test_witness_BootSequence : ((booting .rom).storesOk ∧ (booting .rom).mode.boot = .rom ∧
      (booting .rom).bootImage true true = some ({ version := 0x01000000, secVer := 0, valid := true }, 0) ∧
      (booting .rom).bootLate 60 = false) ∧
    (booting .rom).bootImage false false = none ∧ (lateBoot .rom).bootLate 60 = true ∧
    ((booting .verified).mode.boot = .verified ∧ (booting .verified).belay.latchDark = false ∧ (booting .verified).bootLate 120 = false ∧
      (lateBoot .verified).bootLate 120 = true) ∧
    ((booting .tested).mode.boot = .tested ∧ (booting .tested).bootLate 130 = false) := by
  unfold State.storesOk; decide +kernel

/-- `up`, with the supplies out of range, warned of, and domains as given. -/
def domains (l : List Nat) : State := { up .staging with power := { dom := l } }

theorem test_witness_SuppliesAndDomains :
    (7 < 8 ∧ outOfRange 7 0 = true ∧ (up .staging).mode.boot ≠ .unpowered ∧ (up .staging).alive = true) ∧
    ((booting .rom).mode.boot ≠ .unpowered ∧ (booting .rom).alive = false) ∧
    (outOfRange 0 0 = true ∧ outOfRange 0 750 = false) ∧
    ({ up .staging with power := { dom := [2, 2, 2, 2, 2, 2, 2, 2, 2, 2], outOf := [0] } } : State).power.outOf = [0] ∧
    ((up .staging).storesOk ∧ beyondBand 7 0 = true ∧ (up .staging).power.warned.contains 7 = false) ∧
    ((up .staging).tjMax < (up .staging).tjMax + 1 ∧ (up .staging).tjMax - 161 < (up .staging).tjMax - 160) ∧
    (∃ h, ratedHours (up .staging).power.hourPeak = some h) ∧
    ((domains [2, 2, 2, 0, 0, 0, 0, 0, 0, 0]).alive = true ∧ (domains [2, 2, 2, 0, 0, 0, 0, 0, 0, 0]).mayStart 3 = true ∧
      (domainOrder.find? fun x => (domains [2, 2, 2, 0, 0, 0, 0, 0, 0, 0]).mayStart x &&
        (domains [2, 2, 2, 0, 0, 0, 0, 0, 0, 0]).domState x != 5) = some 3) ∧
    ((domains [2, 2, 2, 2, 2, 2, 2, 1, 2, 2]).domState 7 = 1 ∧ (domains [2, 2, 2, 1, 2, 2, 2, 2, 2, 2]).domState 3 = 1) ∧
    (9 < 10 ∧ bit (up .staging).neededMask 9 = false ∧ (up .staging).domState 9 = 2 ∧ (up .staging).dependentsOff 9 = true) ∧
    ((domains [2, 2, 2, 2, 2, 2, 2, 5, 2, 2]).domState 7 = 5 ∧ (domains [2, 2, 2, 2, 2, 2, 2, 5, 2, 2]).domOn 3 = true ∧
      bit (domains [2, 2, 2, 2, 2, 2, 2, 5, 2, 2]).neededMask 7 = true) := by
  refine ⟨by decide +kernel, by decide +kernel, by decide +kernel, by decide +kernel, by unfold State.storesOk; decide +kernel,
    by decide +kernel, ⟨_, rfl⟩, by decide +kernel, by decide +kernel, by decide +kernel, by decide +kernel⟩
/-- A fault record of a class, and its slot after the reaction. -/
def faultRec (c : Nat) : FaultRec :=
  { cls := c, sev := 1, reaction := 1, count := 1, time := 0, tick := 0, frame := 0, mode := 2, flags := 0, source := 0
    detail := 0, lastTime := 0, rseq := 0 }

/-- `up .staging` with a belay monitor. -/
def belaying (b : BelaySt) : State := { up .staging with belay := b }

/-- A slot whose recovery is done. -/
def doneSlot : FaultSlot := { rcd := faultRec 0x13, stage := 2, order := 0 }

theorem test_witness_FaultsAndReactions :
    ((up .roping).mode.mode = .roping ∧ (up .staging).mode.mode = .staging ∧ (up .dark).mode.mode = .dark) ∧
    ((belaying { unackSig := true }).alive = true ∧ (belaying { unackSig := true }).faultN = true ∧
      ((belaying { unackSig := true }).belay.slots.any fun x => x.rcd.cls == 0x1F) = false) ∧
    ((up .staging).domOn 8 = true ∧ (100 : Int) < 101 ∧ (-101 : Int) < -100 ∧ (100 : Int) ≤ 100 ∧ (-100 : Int) ≤ -100) ∧
    ((up .staging).alive = true ∧ (up .staging).domOn 1 = true ∧ 3 < 4 ∧
      ((up .staging).belay.slots.any fun x => x.rcd.cls == 0x12) = false) ∧
    ((belaying { slots := [doneSlot] }).storesOk ∧ (belaying { slots := [doneSlot] }).alive = true ∧
      (belaying { slots := [doneSlot] }).belay.slots = [doneSlot] ∧ doneSlot.stage = 2 ∧ doneSlot.rcd.reaction < 2 ∧
      bit doneSlot.rcd.flags 3 = false ∧ (belaying { slots := [doneSlot] }).poolFree ≠ 0 ∧
      (belaying { slots := [doneSlot] }).belay.queue.length < 256) ∧
    (belaying { cairnDue := some (faultRec 5) }).belay.cairnDue = some (faultRec 5) ∧
    ((belaying { restartDue := some 9 }).storesOk ∧ (belaying { restartDue := some 9 }).belay.restartDue = some 9) := by
  unfold State.storesOk; decide +kernel

theorem test_witness_ClassLWaits :
    (waitsAs (.groupSet lcl0 1023 65535) = some (lcl0, Reg.groupSet, .operator, [3, 255, 255, 255]) ∧
      (up .onShow).canUse lcl0 .operator (odDomain (Reg.groupSet / 256)) ∧
      (up .onShow).cmdsFull (Reg.groupSet / 256) (Reg.groupSet % 256) [3, 255, 255, 255] = false) ∧
    (liveAs (.keyWrite ses 3 (List.replicate 32 5)) = some (ses, Reg.keyService, .service, List.replicate 32 5) ∧
      (served .staging).canUse ses .service (odDomain (Reg.keyService / 256))) := by
  simp only [canUse_iff]; decide +kernel

/-- `up .onShow` with the mark of stream 7 and of loop 15 at `m`. -/
def marked (m : Nat) : State :=
  let s := up .onShow
  { s with comp := { s.comp with streams := s.comp.streams.set 7 { mark := m }, loops := s.comp.loops.set 15 { mark := m } } }

theorem test_witness_ConditionalCommands :
    (((up .onShow).setReg Reg.candState 2).canUse lcl0 .operator 1 ∧ ((up .onShow).setReg Reg.candState 2).reg Reg.candState = 2 ∧
      ((up .onShow).setReg Reg.candState 2).topo.switch = .none ∧ ((up .onShow).setReg Reg.candState 2).cmdsFull 0x8000 11 [1] = false) ∧
    (((up .onShow).setReg Reg.calState 2).canUse lcl0 .installer 1 ∧ ((up .onShow).setReg Reg.calState 2).reg Reg.calState = 2 ∧
      ((up .onShow).setReg Reg.calState 2).cmdsFull 0x7800 4 [1] = false) ∧
    ((up .onShow).storesOk ∧ (up .onShow).canUse lcl0 .installer 1 ∧ (up .onShow).reg Reg.candState ≠ 2 ∧
      (up .onShow).reg Reg.candState ≠ 3 ∧ (up .onShow).reg Reg.calState ≠ 2) ∧
    ((Instr.calRunTslat lcl0, 4) ∈ [(Instr.calRunSink lcl0, 1), (.calRunNtc lcl0, 2), (.calRunTslat lcl0, 4)] ∧ (up .staging).storesOk ∧
      (up .staging).canUse lcl0 .installer 1 ∧ (up .staging).mode.mode = .staging ∧ (up .staging).cal.run = none ∧
      (up .staging).cal.want = 0 ∧ (up .staging).cmdsFull (Reg.calRun / 256) (Reg.calRun % 256) [4] = false) ∧
    (7 < 8 ∧ (up .onShow).canUse lcl0 .operator (odDomain 0x4507) ∧ (up .onShow).cmdsFull 0x4507 10 [1] = false ∧
      ((marked 1).comp.streams.getD 7 {}).mark = 1 ∧ (marked 1).canUse lcl0 .operator (odDomain 0x4507) ∧
      (marked 1).cmdsFull 0x4507 10 [1] = false ∧ ((up .onShow).comp.streams.getD 7 {}).mark ≠ 1) ∧
    (15 < 16 ∧ (up .onShow).canUse lcl0 .operator (odDomain 0x451F) ∧ (up .onShow).cmdsFull 0x451F 6 [1] = false ∧
      ((up .onShow).comp.loops.getD 15 {}).mark ≠ 2 ∧ ((marked 2).comp.loops.getD 15 {}).mark = 2 ∧ (marked 2).storesOk ∧
      (marked 2).canUse lcl0 .operator (odDomain 0x451F) ∧ (marked 2).cmdsFull 0x451F 6 [1] = false) := by
  simp only [canUse_iff, State.storesOk]; decide +kernel

/-- A write of `v` to the subindex with key `k` that the statement about writes covers. -/
def plainWrite (o : Origin) (s : State) (k : Nat) (v : Bytes) (timed : Bool) (c : Chg) : Bool :=
  match odFind (k / 256) (k % 256), s.roleOf o with
  | some x, some r =>
    s.alive && x.acc == .rw && x.chg == c && decide ((s.touch o).checkWrite o r (k / 256) (k % 256) x.ty.code v = (0, some x)) &&
      s.arrivalRefused (k / 256) (k % 256) v timed == 0 &&
      decide ((s.touch o).clampWrite o x (k / 256) (k % 256) v = (false, v, s.touch o))
  | _, _ => false

/-- A timed write that waits. -/
def waiting1 : TimedW := { org := lcl0, ix := 0x4000, sub := 1, val := [0, 0, 0, 1], due := 5000 }

theorem test_witness_WritesAndTimedWrites :
    (plainWrite lcl0 (up .staging) Reg.bgR [0, 0, 0, 9] false .s = true ∧
      plainWrite lcl0 (up .staging) Reg.holdoverLimit [0, 0, 0, 100] false .l = true ∧
      plainWrite lcl0 (up .staging) Reg.autoShow [1] false .f = true ∧ (up .staging).ctl.jobs = []) ∧
    (plainWrite lcl0 (up .staging) Reg.bgR [0, 0, 0, 9] true .s = true ∧ (up .staging).storesOk ∧ Reg.bgR ≠ Reg.switch ∧
      time80Ok (time80 1001) = true ∧ (up .staging).now < ofTime80 (time80 1001) ∧ (up .staging).stage.timed.length < 1024) ∧
    ofTime80 (time80 1000) ≤ (up .staging).now ∧
    1024 ≤ ({ up .staging with stage := { timed := List.replicate 1024 waiting1 } } : State).stage.timed.length := by
  unfold State.storesOk; decide +kernel

theorem test_witness_ChecksInOrder :
    (0xF000 ≤ 0xF000 ∧ Role.installer ≠ .service ∧ odHasObject 0x1FFF = false) ∧
    (0x1000 < 0xF000 ∧ odHasObject 0x1000 = true ∧ odFind 0x1000 0xFE = none) ∧
    ((odFind 0x1000 1).isSome = true ∧ (odFind 0x8000 2).isSome = true ∧
      ((odFind 0x8000 2).any fun x => decide (Role.observer.rank < x.role.rank)) = true ∧
      ((odFind 0x1000 1).any fun x => decide (x.role.rank ≤ Role.observer.rank) && !Acc.writable x.acc) = true ∧
      ((odFind 0x8000 2).any fun x => decide (x.role.rank ≤ Role.installer.rank) && Acc.writable x.acc) = true) := by
  decide +kernel

/-- A read the statement about reads covers. -/
def plainRead (o : Origin) (s : State) (k : Nat) (a : Acc) : Bool :=
  match odFind (k / 256) (k % 256), s.roleOf o with
  | some x, some r =>
    s.alive && (decide (k / 256 < 0xF000) || r == .service) && odHasObject (k / 256) && s.domOn (odDomain (k / 256)) && !recordKey k &&
      !(decide (0x8C00 ≤ k / 256) && decide (k / 256 < 0x8C20) && k % 256 == 2) && x.ty != .domain && x.acc == a
  | _, _ => false

theorem test_witness_ReadsAndDescriptions : (up .staging).storesOk ∧ plainRead lcl0 (up .staging) Reg.modeR .ro = true ∧
    plainRead lcl0 (up .staging) Reg.bgR .rw = true ∧ plainRead ses (served .staging) (Reg.evCount 63) .rc = true ∧
    (plainRead ses (served .staging) Reg.tjPeak .rc = true ∧ extremeKey Reg.tjPeak = true ∧ extremeKey (Reg.evCount 63) = false ∧
      Reg.tjPeak ∉ [Reg.qLost, Reg.qHigh, Reg.qBpCycles]) ∧
    Reg.evCount 63 ∉ [Reg.qLost, Reg.qHigh, Reg.qBpCycles] ∧ ¬(0x8C0000 ≤ Reg.evCount 63 ∧ Reg.evCount 63 < 0x8C2000) := by
  unfold State.storesOk; decide +kernel

theorem test_witness_StagingCommands : (up .staging).storesOk ∧ (up .staging).canUse lcl0 .operator 1 ∧
    (up .staging).canUse lcl0 .installer 1 := by
  simp only [canUse_iff, State.storesOk]; decide +kernel

theorem test_witness_SystemCommands :
    ((up .holdover).storesOk ∧ (up .holdover).canUse lcl0 .operator 1 ∧ (up .holdover).mode.mode = .holdover) ∧
    ((up .roping).storesOk ∧ (up .roping).canUse lcl0 .operator 1 ∧ (up .roping).canUse lcl0 .installer 2 ∧
      (up .roping).mode.mode = .roping) ∧
    (served .staging).canUse ses .observer 0 ∧
    (((up .staging).setReg Reg.headRole 3).storesOk ∧ ((up .staging).setReg Reg.headRole 3).canUse lcl0 .installer 2 ∧
      ((up .staging).setReg Reg.headRole 3).reg Reg.headRole = 3) ∧
    ((up .staging).canUse lcl0 .installer 2 ∧ (up .staging).reg Reg.headRole ≠ 3) ∧
    ((up .staging).canUse lcl0 .installer 1 ∧ ((up .staging).xfer.open_.any fun x => x.ix == 0x1010) = false) := by
  simp only [canUse_iff, State.storesOk]; decide +kernel

/-- A unit that runs firmware of security version 3. -/
def secured : State :=
  { up .staging with fw := { running := some { version := 5, secVer := 3, valid := true }, fallback := none
                             primary := some { version := 5, secVer := 3, valid := true }, raises := 63 } }

theorem test_witness_ServiceCommands :
    ((up .staging).storesOk ∧ (up .staging).canUse lcl0 .installer 1 ∧ (up .staging).topo.switch = .none ∧
      (up .staging).topo.load = none ∧ (up .staging).domOn 7 = true) ∧
    ((served .staging).storesOk ∧ (served .staging).canUse ses .service 2) ∧
    ({ served .staging with inj := { armed := true } } : State).inj.armed = true ∧
    (secured.storesOk ∧ ({ secured with ctl := { sessions := [svc] } } : State).canUse ses .service 1 ∧ secured.fw.raises < 64 ∧
      secured.fw.running = some { version := 5, secVer := 3, valid := true } ∧ secured.fw.floor < 3 ∧
      secured.fw.fallback = none ∧ secured.fw.primary = secured.fw.running) ∧
    ((up .staging).canUse lcl0 .operator 3 ∧ ([1, 10, 15] : Bytes).length = 3 ∧ field [1, 10, 15] 0 1 ≤ 1 ∧ field [1, 10, 15] 1 1 ≤ 10 ∧
      field [1, 10, 15] 2 1 ≤ 15) := by
  simp only [canUse_iff, State.storesOk]; decide +kernel

theorem test_witness_FaultCommands :
    ((up .dark).storesOk ∧ (up .dark).canUse lcl0 .operator 0 ∧ (up .dark).canUse lcl0 .installer 0 ∧
      (up .dark).belay.latchDark = false ∧ (up .dark).belay.unackDark = false ∧ (up .dark).belay.slots = [] ∧
      (up .dark).belay.active = 0) ∧
    (belaying { latchDark := true }).belay.latchDark = true ∧ (belaying { unackDark := true }).belay.unackDark = true ∧
    ((served .dark).canUse ses .service 0 ∧ 5 ≤ 31 ∧ 31 ≤ 31 ∧ ((served .dark).belay.slots.any fun x => x.rcd.cls == 31) = false) ∧
    (two64 - 1 < two64 ∧ (up .dark).reg Reg.pending < two64) := by
  simp only [canUse_iff, State.storesOk]; decide +kernel

/-- A unit whose carabiner 5 is held by the local port, with a task ready and a topo of one descriptor. -/
def owning : State :=
  { served .staging with
    carabs := { cbs := (List.replicate 64 ({} : Carab)).set 5 { owner := some .localPort, lease := some 9 } }
    sched := { ready := [[], [], [{ id := 5, desc := 0, entry := none, list := 2, order := 0, due := none }], [], [], [], [], []] }
    topo := { active := some { slot := 1, id := 5, build := 6, num := 60, den := 1, lat := 2, switchW := 3, regions := []
                               endpoints := 0, channels := 0, sections := [(0x03, List.replicate 64 0)] } } }

theorem test_witness_OwnershipCommands :
    (owning.storesOk ∧ owning.canUse lcl0 .installer 1 ∧ 7 < two32 ∧ (owning.session 7).isSome = true) ∧
    (owning.canUse lcl0 .operator 1 ∧ ([59, 0, 0, 1] : Bytes).length = 4 ∧ field [59, 0, 0, 1] 0 1 < 60 ∧ 0 < field [59, 0, 0, 1] 2 2 ∧
      (owning.cb 59).owner = none ∧ (owning.cb 59).lease = none ∧
      ((List.range 64).all fun k => decide (k < 59) || (owning.cb k).owner != some lcl0.holder) = true) ∧
    (field [5, 0, 255, 255] 0 1 < 64 ∧ 0 < field [5, 0, 255, 255] 2 2 ∧ (owning.cb 5).owner = some lcl0.holder ∧
      (owning.cb 5).lease = some 9 ∧ owning.tickNow < 9) ∧
    (owning.canUse ses .service 1 ∧ 5 < 64 ∧ (owning.cb 5).owner.isSome = true) := by
  simp only [canUse_iff, State.storesOk]; decide +kernel

theorem test_witness_TaskCancels :
    (owning.storesOk ∧ owning.canUse lcl0 .operator 1 ∧ owning.canUse lcl0 .installer 1 ∧ 5 < two32 ∧ owning.sched.engines.length = 16 ∧
      (owning.tasks.any fun x => x.id == 5) = true) ∧
    (owning.tasks.any fun x => x.id == 6) = false ∧ 0 < owning.descCount ∧ owning.reg Reg.cancels < two32 ∧ owning.inFlight = [] := by
  simp only [canUse_iff, State.storesOk]; decide +kernel

theorem test_witness_RecordReads : (served .staging).storesOk ∧ (served .staging).canUse ses .observer 0 ∧
    (served .staging).canUse ses .observer 1 ∧ (served .staging).canUse ses .observer 2 ∧ (served .staging).canUse ses .observer 6 ∧
    (served .staging).reg Reg.poolLowCells = 0 := by
  simp only [canUse_iff, State.storesOk]; decide +kernel

/-- Spill queues: 3 with room, 4 full and HOLD, 5 empty. -/
def spilling : State :=
  { up .staging with q := { spills := [(3, { hold := true, stage := 1, limit := 16, base := 0, head := [List.replicate 64 5] }),
      (4, { hold := true, stage := 1, limit := 1, base := 0, head := [List.replicate 64 5] }),
      (5, { hold := true, stage := 1, limit := 1, base := 0 }),
      (6, { hold := false, stage := 1, limit := 1, base := 0, head := [List.replicate 64 5] }),
      (7, { hold := true, stage := 1, limit := 1, base := 0, waits := [.pop lcl0 1] })] } }

/-- What a spill queue of `spilling` shows. -/
def spillSeen (n : Nat) (p : Spill → Bool) : Bool := (assocGet spilling.q.spills n).any p

theorem test_witness_SpillWindows :
    (spilling.storesOk ∧ spilling.canUse lcl0 .operator 3 ∧ spilling.canUse lcl0 .observer 3 ∧ spilling.ctl.jobs = [] ∧
      (List.replicate 64 (7 : Byte)).length = 64) ∧
    spillSeen 3 (fun q => decide (q.tail.length < 16) && q.waits.isEmpty && decide (q.depth < q.limit)) = true ∧
    spillSeen 4 (fun q => decide (q.tail.length < 16) && q.waits.isEmpty && decide (q.limit ≤ q.depth) && q.hold) = true ∧
    spillSeen 6 (fun q => decide (q.tail.length < 16) && q.waits.isEmpty && decide (q.limit ≤ q.depth) && !q.hold) = true ∧
    spillSeen 7 (fun q => q.depth == 0 && q.waits == [.pop lcl0 1]) = true ∧
    spillSeen 3 (fun q => q.head == List.replicate 64 5 :: q.head.tail && q.ringN == 0) = true ∧
    spillSeen 5 (fun q => q.head.isEmpty && q.ringN == 0) = true ∧ spilling.reg (Reg.spillPopWait 5) = 0 ∧
    (spilling.setReg (Reg.spillPopWait 5) 1).reg (Reg.spillPopWait 5) ≠ 0 := by
  simp only [canUse_iff, State.storesOk]; decide +kernel
/-- A write transfer of SURF_DATA under way, and a read. -/
def writing : Transfer :=
  { handle := 9, org := lcl0, ix := 0x4520, sub := 1, write := true, total := 2, start := 0, data := []
    part := [1], crc := none, last := 0 }
def reading : Transfer := { writing with handle := 65535, ix := 0x7801, sub := 17, write := false, total := 8193 }

/-- `up .staging` with transfers. -/
def moving (l : List Transfer) : State := { up .staging with xfer := { open_ := l } }

theorem test_witness_TransferBlocksMove :
    ((up .staging).alive = true ∧ (up .staging).roleOf lcl0 = some .installer ∧
      (up .staging).beginCode .installer 0x4520 1 0 64 0 = 0 ∧ Reg.key 0x4520 1 = Reg.surfData) ∧
    (up .staging).beginCode .installer 0x7801 17 1 0 0 = 0 ∧ (up .staging).beginCode .installer 0x1000 1 1 0 0 ≠ 0 ∧
    ((moving [writing]).xferOf lcl0 9 = some writing ∧ writing.write = true ∧ (moving [writing]).domOn (odDomain writing.ix) = true ∧
      writing.data.length < writing.total ∧ writing.data.length % 8192 = 0 ∧ writing.crc.getD 5 = 5) ∧
    (writing.part.length + ([7] : Bytes).length = min 8192 (writing.total - writing.data.length) ∧
      min 8192 (writing.total - writing.data.length) < writing.part.length + ([7, 8] : Bytes).length) ∧
    (({ writing with total := 3 } : Transfer).part.length + ([7] : Bytes).length < min 8192 (3 - writing.data.length)) ∧
    crc32 (writing.part ++ [7]) ≠ 5 ∧ (moving [writing]).flashAt (Reg.key writing.ix writing.sub) writing.start = none := by
  decide +kernel

theorem test_witness_TransfersEnd :
    ((moving [reading]).alive = true ∧ (moving [reading]).roleOf lcl0 = some .installer ∧
      (moving [reading]).xferOf lcl0 65535 = some reading ∧ reading.write = false ∧ reading.ix ≠ 0x1012 ∧ reading.ix ≠ 0x1010 ∧
      (moving [reading]).domOn (odDomain reading.ix) = true ∧ 1 * 8192 < reading.total ∧ 8192 ≤ 8192) ∧
    ((moving [writing]).storesOk ∧ (moving [writing]).xferOf lcl0 9 = some writing ∧ writing.write = true ∧ writing.ix ≠ 0x1010 ∧
      writing.data.length < writing.total ∧ (moving [writing]).domOn (odDomain writing.ix) = true ∧
      (moving [writing]).flashRegion writing = none ∧ ({ writing with ix := 0x8001, sub := 2 } : Transfer).write = true) ∧
    (moving []).xferOf lcl0 9 = none ∧ ((moving [writing]).xfer.open_.find? fun y => y.handle == 9) = some writing := by
  unfold State.storesOk; decide +kernel

/-- A firmware image of 4,096 bytes, and the unit held at its flash. -/
def fwImage : Bytes :=
  beBytes 4 0x4E584657 ++ beBytes 4 4096 ++ beBytes 4 77 ++ beBytes 2 5 ++ beBytes 2 0x9600 ++ List.replicate 4080 0
def flashing : State := { up .staging with mode := { boot := .hold } }

theorem test_witness_WholeValuesArrive :
    ((up .staging).storesOk ∧ (up .staging).canUse lcl0 .installer 1 ∧ (up .staging).mode.mode = .staging ∧
      ([1] : Bytes).length ≤ (up .staging).slotSize ∧ (up .staging).topo.switch = .none ∧ (up .staging).topo.cand = none ∧
      (up .staging).xfer.open_ = [] ∧ (up .staging).fw.slotLens.length = 2) ∧
    ((up .staging).canUse lcl0 .installer 4 ∧ (up .staging).slotHeld (field [3, 255] 0 2) = false) ∧
    ((up .staging).xfer.open_ = [] ∧ coefClamps (List.replicate 448 0) = [] ∧ coefClamps (List.replicate 448 0x7F) ≠ []) ∧
    ((List.replicate 448 (0 : Byte)).length = 448 ∧ (up .staging).coefHeld ((up .staging).reg Reg.coefSel) = false) ∧
    ((List.replicate 4096 (0 : Byte)).length = lutSize ((up .staging).reg Reg.lutSel) ∧
      (up .staging).lutHeld ((up .staging).reg Reg.lutSel) = false) ∧
    (4096 ≤ fwImage.length ∧ fwImage.length ≤ 16777216 ∧ (up .staging).fwOk fwImage true = true) ∧
    (flashing.storesOk ∧ flashing.alive = false ∧ flashing.mode.boot = .hold ∧ flashing.lcl.keyEn = true ∧ 8192 % 8192 = 0 ∧
      8192 ≤ (List.replicate 8193 (0 : Byte)).length ∧ 8192 + (List.replicate 8193 (0 : Byte)).length ≤ flashing.part.flashMb * 1048576 ∧
      flashing.xfer.open_ = []) := by
  simp only [canUse_iff, State.storesOk]; decide +kernel

/-- A unit with a position whose OBSERVER key is written, and a handshake of that role from address 9. -/
def hs : Handshake := { id := 5, role := .observer, addr := 9, port := 8, nonce := List.replicate 16 3, born := 50, accept := none }
def talking (l : List Handshake) : State :=
  { ((up .staging).setReg Reg.addrState 2).setReg Reg.position 3 with
    ctl := { sessions := [svc], hands := l, keys := [some (List.replicate 32 1), none, none, none, none]
             fails := [(9, 1), (9, 2), (9, 4)] } }

theorem test_witness_SessionsOpen :
    ((talking []).netServed = true ∧ (talking []).lockedOut 9 = false ∧ ((talking []).keyOf 0).isSome = true ∧
      (talking []).ctl.sessions.length < 8 ∧ (talking []).pendingHands.length < 16) ∧
    ({ talking [] with ctl := { (talking []).ctl with lockouts := [(9, 100)] } } : State).lockedOut 9 = true ∧
    ({ talking [] with ctl := { (talking []).ctl with lockouts := [(9, 100)] } } : State).ctl.lockouts.find? (fun p => p.1 == 9) =
      some (9, 100) ∧
    (talking []).keyOf 3 = none ∧
    16 ≤ (talking ((List.range 16).map fun i => { hs with id := i })).pendingHands.length ∧
    8 ≤ ({ talking [] with ctl := { (talking []).ctl with sessions := List.replicate 8 svc } } : State).ctl.sessions.length ∧
    (talking [hs]).ctl.hands.find? (fun x => x.id == 5) = some hs ∧
    ((talking [hs]).storesOk ∧ (talking [hs]).netServed = true ∧
      ((talking [hs]).pendingHands.find? fun x => x.id == 5 && x.addr == 9 && x.port == 8) = some hs ∧ hs.accept = none ∧
      (talking [hs]).keyOf hs.role.rank = some (List.replicate 32 1) ∧ (talking [hs]).ctl.sessions.length < 8) ∧
    hmac (List.replicate 32 1) (hs.nonce ++ [1, 2] ++ (talking [hs]).part.serial) ≠ [1] ∧
    3 ≤ ((talking [hs]).ctl.fails.filter fun p => decide ((talking [hs]).clock.cclk < p.2 + 10000000000) && p.1 == 9).length := by
  unfold State.storesOk; decide +kernel

theorem test_witness_SessionsClose :
    ((talking []).storesOk ∧ (talking []).netServed = true ∧ (talking []).sessionAt 1 2 7 = some svc ∧ 1 = svc.nextSeq ∧
      2 ≠ svc.nextSeq) ∧
    ((talking []).alive = true ∧ (talking []).session 7 = some svc ∧ (talking []).xfer.open_ = []) := by
  unfold State.storesOk; decide +kernel

/-- A SEND of one READ of 1000h.01, with its length and CRC. -/
def readItem : Bytes := beBytes 1 1 ++ beBytes 1 0 ++ beBytes 2 0x1000 ++ beBytes 1 1 ++ beBytes 1 0 ++ beBytes 2 0
def readFrame : Bytes := beBytes 2 readItem.length ++ readItem ++ beBytes 4 (crc32 (beBytes 2 readItem.length ++ readItem))

theorem test_witness_LocalPort :
    ((up .staging).alive = true ∧ (up .staging).lcl.busy = false ∧ (up .staging).ctl.jobs = [] ∧ sendBody [1] = none) ∧
    ({ up .staging with lcl := { busy := true } } : State).lcl.busy = true ∧
    (sendBody readFrame = some readItem ∧ itemsOk readItem.length readItem = true ∧
      ((takeItem readItem).any fun p => p.2.isEmpty && decide (p.1.need ≤ 4092)) = true ∧
      ((takeItem readItem).any fun p => match (up .staging).execServed lcl0 .installer true 4080 p.1 with
        | (.done _ _ _, u) => u.ctl.jobs.isEmpty
        | _ => false) = true) ∧
    ({ up .staging with lcl := { reply := some [1, 2] } } : State).lcl.reply = some [1, 2] ∧ (0 ≠ 1 ∧ 3 ≠ 2) := by
  decide +kernel
/-- A topo image of the least length: a partition, an empty plan and one descriptor, without its signature. -/
def topoBody : Bytes :=
  let part := [1, 1, 0, 0, 8, 4, 2, 1] ++ List.replicate 24 0
  let plan := beBytes 2 1 ++ List.replicate 30 0
  let desc := beBytes 2 0 ++ beBytes 2 0x0FFF ++ beBytes 2 0xFFFF ++ beBytes 2 0xFFFF ++ [0xFF] ++ List.replicate 55 0
  let head := beBytes 4 0x4E585450 ++ beBytes 2 0x0100 ++ beBytes 2 128 ++ beBytes 4 4096 ++ beBytes 2 0x9600 ++ beBytes 2 0 ++
    beBytes 4 77 ++ beBytes 4 6 ++ List.replicate 10 0 ++ beBytes 2 3 ++ beBytes 4 60 ++ beBytes 4 1 ++ [1, 1] ++ List.replicate 78 0
  let entry := fun (ty off : Nat) (b : Bytes) => beBytes 2 ty ++ beBytes 2 0 ++ beBytes 4 off ++ beBytes 4 b.length ++ beBytes 4 (crc32 b)
  head ++ beBytes 4 (crc32 head) ++ entry 1 192 part ++ entry 2 256 plan ++ entry 3 320 desc ++ List.replicate 16 0 ++ part ++
    List.replicate 32 0 ++ plan ++ List.replicate 32 0 ++ desc ++ List.replicate 3680 0

/-- Its signature under the key of 32 bytes 0x02. -/
def topoSig : Bytes :=
  [225, 210, 106, 221, 94, 94, 148, 28, 172, 78, 235, 63, 99, 118, 234, 178, 186, 4, 24, 73, 152, 173, 214, 153, 195, 136, 105, 22,
   142, 91, 43, 201]

/-- The unit with a topo key and that image, signed, in slot A. -/
def imaged (m : Mode) (l : LoadSt) : State :=
  let key := List.replicate 32 (2 : Byte)
  { up m with
    flash := ((List.range 4096).zip (topoBody ++ topoSig)).filterMap fun p =>
      if p.2 = 0xFF then none else some (0x2000000 + p.1, p.2)
    ctl := { keys := [none, none, none, none, some key] }, topo := { load := some l } }

/-- The load of the boot slot asked for by a LOAD command. -/
def loadA : LoadSt := { slot := 1, boot := false, other := none }

theorem imaged_loads : ((imaged .staging loadA).loadSlot 1).fail = none ∧ ((imaged .staging loadA).loadSlot 1).clamps = [] := by
  have h : (let x := (imaged .staging loadA).loadSlot 1; x.fail.isNone && x.clamps.isEmpty) = true := by decide +kernel
  simpa using h

theorem imaged_dark : (imaged .dark loadA).loadSlot 1 = (imaged .staging loadA).loadSlot 1 := rfl

theorem test_witness_TickAdvancesTime : State.reset.mode.boot = .unpowered ∧
    ((up .staging).storesOk ∧ (up .staging).mode.boot ≠ .unpowered ∧ (up .staging).tick.restVled = none ∧ (up .staging).fbx.on = false) ∧
    ((booting .rom).storesOk ∧ (booting .rom).tick.restVled = none ∧ (booting .rom).fbx.on = false ∧ (booting .rom).alive = false) ∧
    ({ up .staging with mode := { mode := .staging, boot := .running, fwRestart := true } } : State).mode.fwRestart = true ∧
    ({ up .staging with tick := { restVled := some 9 } } : State).tick.restVled = some 9 ∧ (up .staging).tick.restVled = none ∧
    ((odFind (Reg.bgR / 256) (Reg.bgR % 256)).any fun x => x.acc == .rw && x.chg == .s) = true ∧
    ((odFind (Reg.holdoverLimit / 256) (Reg.holdoverLimit % 256)).any fun x => x.acc == .rw && x.chg == .l) = true ∧
    ((odFind (Reg.autoShow / 256) (Reg.autoShow % 256)).any fun x => x.acc == .rw && x.chg == .f) = true := by
  unfold State.storesOk; decide +kernel

/-- A topo without sections. -/
def bare : Topo :=
  { slot := 1, id := 5, build := 6, num := 60, den := 1, lat := 2, switchW := 3, regions := [1, 1, 1, 1, 1, 1, 1, 1, 1]
    endpoints := 0, channels := 0, sections := [] }

/-- A unit with a topo, ready to arm: at a boundary, with the servo locked. -/
def ready (m : ModeSt) : State :=
  { (up .staging).setReg Reg.servoState 2 with mode := m, topo := { active := some bare }, belay := { darkOut := false }
                                               tick := { time := 1000, cclk := 50 } }

/-- REQ_STAGING waiting for its boundary. -/
def stagingCmd : LCmd := { org := lcl0, ix := 0x1100, sub := 3, val := [1] }

/-- A running unit in mode `m`, with what its change of mode waits for. -/
def inMode (m : Mode) : ModeSt := { mode := m, boot := .running }

theorem test_witness_ModeChanges :
    ((ready (inMode .roping)).storesOk ∧ (ready (inMode .roping)).mode.showReqs = [] ∧ (ready (inMode .roping)).mode.stageReqs = []) ∧
    (({ inMode .roping with ropingEnd := some 7 } : ModeSt).darkRec = none ∧
      ({ inMode .roping with ropingEnd := some 7, darkRec := some 4 } : ModeSt).darkRec = some 4 ∧
      ({ inMode .onShow with toHoldover := some 5 } : ModeSt).toHoldover = some 5 ∧
      ({ inMode .onShow with stageReqs := [stagingCmd] } : ModeSt).toHoldover = none ∧
      ({ inMode .holdover with toShow := true } : ModeSt).toShow = true ∧ (inMode .dark).ropingEnd = none) ∧
    ((ready (inMode .staging)).mode.mode = .staging ∧ (ready (inMode .staging)).mode.arming = none ∧
      (ready (inMode .staging)).atBoundary = true ∧ (ready (inMode .staging)).tick.realign = false ∧
      (ready (inMode .staging)).blocked = 0 ∧ (ready (inMode .staging)).flag Reg.autoShow = true) ∧
    ((ready { inMode .staging with arming := some 0 }).storesOk ∧ (ready { inMode .staging with arming := some 0 }).atBoundary = true ∧
      (ready { inMode .staging with arming := some 0 }).blocked = 0 ∧ (inMode .staging).armBroken = false) ∧
    ({ inMode .staging with arming := some 0, armBroken := true } : ModeSt).armBroken = true ∧
    ((ready { inMode .holdover with holdAt := -10000000000 }).storesOk ∧
      (ready { inMode .holdover with holdAt := -10000000000 }).atBoundary = true ∧
      (ready { inMode .holdover with holdAt := -10000000000 }).mode.ev17 = false ∧
      (((ready { inMode .holdover with holdAt := -10000000000 }).reg Reg.holdoverLimit * 1000000 : Nat) : Int) ≤
        (1000 : Int) - -10000000000 ∧ bit (ready { inMode .holdover with holdAt := -10000000000 }).belay.maskedCls 0x15 = false) := by
  unfold State.storesOk; decide +kernel

/-- `ready` with its topo unit in a given state. -/
def topoed (m : Mode) (t : TopoSt) : State := { ready (inMode m) with topo := t }

theorem test_witness_TopoLoading :
    ((topoed .staging { load := some loadA }).storesOk ∧ (topoed .staging { load := some loadA }).alive = true ∧
      (topoed .staging { load := some loadA }).domOn 7 = true ∧ ((topoed .staging { load := some loadA }).loadSlot 1).clamps = [] ∧
      ((topoed .staging { load := some loadA }).loadSlot 1).fail = some (0x0101, 0, 8)) ∧
    ((imaged .staging loadA).alive = true ∧ (imaged .staging loadA).domOn 7 = true ∧ (imaged .staging loadA).topo.load = some loadA ∧
      (imaged .dark loadA).alive = true ∧ (imaged .dark loadA).domOn 7 = true ∧ (imaged .dark loadA).mode.mode ≠ .staging) ∧
    ((topoed .staging { staged := some bare, loadedAt := 3 }).atBoundary = true ∧ 3 < (topoed .staging {}).tick.cclk ∧
      bare.sec 0x10 = []) ∧
    ((topoed .onShow { cand := some bare, switchBegin := true }).storesOk ∧
      (topoed .onShow { cand := some bare, switchBegin := true }).atBoundary = true ∧
      (topoed .onShow { cand := some bare, switch := .copying 0 }).atBoundary = true) := by
  unfold State.storesOk; decide +kernel

theorem test_witness_TopoLoading_good (m : Mode) : (imaged m loadA).storesOk ∧ ((imaged m loadA).loadSlot 1).fail = none ∧
    ((imaged m loadA).loadSlot 1).clamps = [] := by
  have h : (imaged .staging loadA).storesOk := by unfold State.storesOk; decide +kernel
  exact ⟨h, imaged_loads⟩

/-- A unit with a loop, a fade and a stream in the states the commands meet. -/
def looping (l : LoopSt) : State :=
  { up .onShow with comp := { loops := (List.replicate 16 ({} : LoopSt)).set 15 l }
                    buf := { fades := [{ slot := 4095, start := 0, goal := 65535, dur := 60, curve := 0, t := 60 }] } }
/-- Two loop entries. -/
def entry1 : LoopEntry := { surface := 1, dwell := 5, ramp := 0 }
def entry2 : LoopEntry := { surface := 2, dwell := 5, ramp := 0 }
def runningLoop (n : Nat) : LoopSt := { items := [entry1, entry2], cap := 2, state := 2, cur := some entry1, pos := some n, tick := 5 }

theorem test_witness_BoundaryCommands :
    ((up .staging).mode.mode = .staging ∧ (up .dark).mode.mode ≠ .staging ∧ (up .dark).mode.mode = .dark) ∧
    (({ (up .onShow).setReg Reg.candState 2 with topo := { cand := some bare } } : State).topo.cand.isSome = true ∧
      ({ (up .onShow).setReg Reg.candState 2 with topo := { cand := some bare } } : State).reg Reg.candState = 2) ∧
    ((up .onShow).topo.cand = none ∧ ((up .staging).setReg Reg.servoState 4).servo = 4 ∧ (up .staging).servo ≠ 4) ∧
    (7 < 8 ∧ ((up .onShow).stream 7).mark ≠ 1 ∧ 15 < 16 ∧ ((up .onShow).loop 15).mark ≠ 1 ∧ ((looping (runningLoop 0)).loop 15).state = 2) ∧
    (up .staging).cal.pend = none ∧ ((up .onShow).rdm (field [7] 0 1)).queue.length < 64 := by
  decide +kernel

/-- A unit that has been quiet for five ticks in SHOW, with STATIC_EN set. -/
def quiet : State := { (up .onShow).setReg Reg.staticEn 1 with comp := { raster := { quiet := 5, blank := 0 } } }

theorem test_witness_ContentTicks :
    (((looping (runningLoop 0)).loop 15).cur = some entry1 ∧ ((looping (runningLoop 0)).loop 15).state = 2 ∧
      entry1.dwell ≤ ((looping (runningLoop 0)).loop 15).tick ∧ ((looping (runningLoop 0)).loop 15).pos = some 0 ∧
      ((looping (runningLoop 0)).loop 15).items[0 + 1]? = some entry2) ∧
    (((looping (runningLoop 1)).loop 15).pos = some 1 ∧ ((looping (runningLoop 1)).loop 15).items.length ≤ 1 + 1 ∧
      ((looping (runningLoop 1)).loop 15).mark ≠ 1) ∧
    ((looping { runningLoop 0 with tick := 4 }).loop 15).tick < entry1.dwell ∧
    (quiet.storesOk ∧ quiet.domOn 5 = true ∧ quiet.flag Reg.staticEn = true ∧ quiet.mode.mode = .onShow ∧ quiet.ras.blank = 0 ∧
      quiet.reg Reg.staticState = 0 ∧ 5 ≤ quiet.ras.quiet ∧ quiet.ras.change = false) ∧
    (up .onShow).ras.quiet < 5 ∧
    ((looping {}).storesOk ∧ (looping {}).alive = true ∧
      { slot := 4095, start := 0, goal := 65535, dur := 60, curve := 0, t := 60 } ∈ (looping {}).buf.fades ∧
      ({ slot := 4095, start := 0, goal := 65535, dur := 60, curve := 0, t := 60 } : Fade).ended = false) := by
  unfold State.storesOk; decide +kernel

/-- A raster under way, `c` saying what it is at. -/
def scanning (c : RasterSt) : State :=
  { ((up .onShow).setReg Reg.matchEn 128).setReg (Reg.matchLine 7) 2 with comp := { raster := c }, tick := { nextTime := 10000000 } }
def atLine (n : Nat) : RasterSt := { on := true, line := n, cur := [(5, 100)], mapFree := 500 }

theorem test_witness_RasterAdvances :
    ((scanning {}).ras.on = false ∧ (scanning (atLine 1)).storesOk ∧ (scanning (atLine 1)).ras.on = true ∧
      (scanning (atLine 1)).domOn 5 = true ∧ (scanning (atLine 1)).ras.blank = 0 ∧
      (scanning (atLine 1)).ras.line + 1 < (scanning (atLine 1)).vTotal) ∧
    (7 < 8 ∧ (scanning (atLine 1)).alive = true ∧ bit ((scanning (atLine 1)).reg Reg.matchEn) 7 = true ∧
      (scanning (atLine 1)).reg (Reg.matchLine 7) = 1 + 1 ∧ (scanning (atLine 1)).ras.composes = false) ∧
    ((scanning (atLine (sobLine [(5, 100)]))).storesOk ∧ (scanning (atLine (sobLine [(5, 100)]))).ras.sobDone = false ∧
      (scanning (atLine (sobLine [(5, 100)]))).ras.line = sobLine (scanning (atLine 0)).ras.cur) ∧
    ((scanning { atLine 5 with composes := true, sobDone := true }).storesOk ∧ (scanning { atLine 5 with composes := true, sobDone := true }).alive = true ∧
      (scanning { atLine 5 with composes := true, sobDone := true }).ras.done = false ∧ (scanning { atLine 5 with composes := true, sobDone := true }).gathered = true ∧
      ((scanning { atLine 5 with composes := true, sobDone := true }).reachCclk 500).now + 2000 ≤ 10000000) := by
  unfold State.storesOk; decide +kernel

/-- `up`, in SHOW with a topo of the sections given, one emitting row and one drive mode on. -/
def fired (l : List (Nat × Bytes)) (f : FbxSt) : State :=
  { (((up .onShow).setReg Reg.driveMode 1).setReg Reg.segments 4).setReg Reg.rows 2 with
    topo := { active := some { bare with sections := l } }, fbx := f, tick := { time := 1000, nextTime := 100000 } }
/-- A SCAN section that uses sink 0. -/
def scan1 : List (Nat × Bytes) := [(0x50, List.replicate 64 0 ++ [0x80] ++ List.replicate 7 0)]
/-- The raster `r` under `fired`. -/
def rastered (r : RasterSt) (f : FbxSt) : State := { fired [] f with comp := { raster := r } }
def inFrame : FbxSt := { on := true, seg := 4, slot := 1, cfg := { k := 4, rows := 2, win := 4000, slot := 400, p := 9, lc := 0 } }

theorem test_witness_EmissionFrames :
    ((rastered { blank := 1, start := 5 } { copyDue := true }).ras.blank ≠ 0 ∧
      (rastered { blank := 1, start := 5 } { copyDue := true }).fbx.copyDue = true ∧
      (rastered { blank := 1, start := 5 } { copyDue := true }).domOn 8 = true ∧
      (rastered { blank := 1, start := 5 } { copyDue := true }).reg Reg.driveMode ≠ 0) ∧
    ((let s : State := { rastered { blank := 0, on := true, composes := true, done := true } {} with egress := { cut := true } }
      s.ras.blank = 0 ∧ s.egress.cut = true ∧ s.copyWanted = true ∧ s.fbx.copy ≠ 1) ∧
      (fired [] {}).fbx.copy ≠ 1 ∧ (fired [] { copy := 1 }).storesOk ∧ (fired [] { copy := 1 }).fbx.copy = 1) ∧
    ((up .dark).reg Reg.driveMode = 0 ∧ (fired [] {}).domOn 8 = true ∧ (fired [] {}).reg Reg.driveMode ≠ 0 ∧
      (fired [] {}).tick.realign = false ∧ (fired [] {}).emits = true ∧ (fired [] {}).fbx.on = false) ∧
    ((fired [] { copy := 2, swapFrom := 5 }).emits = true ∧ (fired [] { copy := 2, swapFrom := 5 }).fbx.copy = 2 ∧
      (fired [] { copy := 2, swapFrom := 5 }).fbx.swapFrom ≤ (after (.emissionFrameStart false 3) (fired [] { copy := 2, swapFrom := 5 })).now ∧
      (after (.emissionFrameStart false 3) (fired [] { copy := 2, swapFrom := 90000 })).now <
        (fired [] { copy := 2, swapFrom := 90000 }).fbx.swapFrom) ∧
    ((fired [] { inFrame with seg := 3 }).fbx.on = true ∧ (fired [] { inFrame with seg := 3 }).emits = true ∧
      (fired [] { inFrame with seg := 3 }).fbx.seg < (fired [] { inFrame with seg := 3 }).fbx.cfg.k ∧
      (fired [] inFrame).fbx.cfg.k ≤ (fired [] inFrame).fbx.seg) ∧
    ((fired [] inFrame).fbx.on = true ∧ (fired [] inFrame).emits = true ∧ (fired [] inFrame).fbx.seg ≠ 0 ∧
      (fired [] inFrame).fbx.slot < (fired [] inFrame).fbx.cfg.rows ∧ (fired [] inFrame).fbx.withheld = false ∧
      (fired [] inFrame).flag Reg.probeEn = false ∧ (fired [] { inFrame with withheld := true }).fbx.withheld = true ∧
      (fired [] inFrame).storesOk) ∧
    ((fired [] {}).lamps.filter (fired [] {}).unverDue) = [] ∧
    ((fired scan1 { counts := [(0, 64)] }).storesOk ∧ (fired scan1 { counts := [(0, 64)] }).alive = true ∧
      ((fired scan1 { counts := [(0, 64)] }).lamps.filter (fired scan1 { counts := [(0, 64)] }).unverDue) ≠ []) := by
  unfold State.storesOk; decide +kernel

/-- A DRAUGHT section. -/
def draught1 : List (Nat × Bytes) := [(0x51, [1])]
/-- `fired` with DRAUGHT_STATE, VLED_SET_MV and VLED_INIT_MV written. -/
def draughted (d : Nat) (f : FbxSt) : State :=
  ((((fired draught1 f).setReg Reg.phases 1).setReg Reg.draughtState d).setReg Reg.vledSetMv 4000).setReg Reg.vledInitMv 4000
/-- A TEMPCOMP section whose eight inputs are used. -/
def tempComp : List (Nat × Bytes) :=
  [(0x52, List.replicate 16 0 ++ (List.replicate 8 (beBytes 4 10000 ++ beBytes 2 3950 ++ [1, 0])).flatten)]

theorem test_witness_DraughtAndTemperatures :
    ((draughted 1 {}).fbx.rampAt = none ∧ (draughted 1 { rampAt := some 7 }).storesOk ∧
      (draughted 1 { rampAt := some 7 }).fbx.rampAt = some 7) ∧
    ((fired [] {}).draughtOn = false ∧ (draughted 1 {}).storesOk ∧ (draughted 1 {}).draughtOn = true ∧
      (draughted 1 {}).reg Reg.vledMaxMv + 500 < (draughted 1 {}).reg Reg.vledMaxMv + 501) ∧
    ((draughted 2 {}).draughtOn = true ∧ (draughted 2 {}).reg Reg.draughtState = 2 ∧ 3699 + 300 < (draughted 2 {}).reg Reg.vledSetMv ∧
      (draughted 3 {}).reg Reg.draughtState = 3 ∧ (draughted 3 {}).reg Reg.vledSetMv ≤ 3700 + 300 ∧
      (draughted 1 {}).reg Reg.draughtState = 1 ∧ 3799 + 200 < (draughted 1 {}).reg Reg.vledInitMv ∧
      (draughted 1 {}).reg Reg.vledInitMv + 200 < 4201) ∧
    ((draughted 2 { den := true }).draughtOn = true ∧ (draughted 2 { den := true }).fbx.den = true ∧
      0 < (draughted 2 { den := true }).reg Reg.phases ∧
      (draughted 2 { den := true }).reg Reg.ilimMv < (draughted 2 { den := true }).reg Reg.ilimMv + 1 ∧ (draughted 2 {}).fbx.den = false) ∧
    bit ({ draughted 4 {} with belay := { active := 2 ^ 0x17 } } : State).belay.active 0x17 = true ∧
    ((fired tempComp {}).storesOk ∧ (fired tempComp {}).domOn 8 = true ∧ bit (field ((fired tempComp {}).ntcEntry 7) 6 1) 0 = true ∧
      bit (field ((fired [] {}).ntcEntry 7) 6 1) 0 = false ∧ (fired tempComp {}).cal.applied.rBias = 10000000 ∧
      ((fired tempComp {}).fbx.ntc.getD 7 []) = [] ∧
      thetaOf (field ((fired tempComp {}).ntcEntry 7) 0 4) (field ((fired tempComp {}).ntcEntry 7) 4 2) 10000000 = some 400) := by
  unfold State.storesOk; decide +kernel

/-- A strand section: port 31 runs one pixel of one byte, latched. -/
def strand1 : List (Nat × Bytes) := [(0x45, List.replicate 1984 0 ++ [1, 1, 0, 8] ++ List.replicate 60 0)]
/-- `fired` in mode `m`. -/
def firedIn (m : Mode) (l : List (Nat × Bytes)) : State := { fired l {} with mode := { mode := m, boot := .running } }
def rdmReq : RdmReq := { uid := 5, sub := 0, cc := 0x20, pid := 0x60, data := [] }
/-- `up` with RDM port 2 in a state. -/
def rdmIn (r : RdmSt) : State := { up .onShow with egress := { rdm := (List.replicate 4 ({} : RdmSt)).set 2 r } }

theorem test_witness_StrandsAndRdm :
    ((firedIn .onShow []).strandStateOf 31 = 0 ∧ (firedIn .onShow strand1).storesOk ∧
      assocGet (firedIn .onShow strand1).egress.strands 31 = none ∧ (firedIn .onShow strand1).heldOut true = none ∧
      (firedIn .staging strand1).heldOut true = none ∧ ((firedIn .onShow strand1).strandFrame 31).isSome = true ∧ (firedIn .onShow strand1).strandStateOf 31 = 1 ∧
      ((firedIn .staging strand1).setReg (Reg.strandDarkZero 31) 1).strandStateOf 31 = 3 ∧
      ((firedIn .staging strand1).setReg (Reg.strandDarkZero 31) 0).strandStateOf 31 = 2) ∧
    ((rdmIn {}).rdm 2).busy = none ∧
    ((rdmIn { busy := some rdmReq }).storesOk ∧ ((rdmIn { busy := some rdmReq }).rdm 2).busy = some rdmReq ∧
      ((rdmIn { busy := some rdmReq }).rdm 2).own = false ∧ (rdmIn { busy := some rdmReq }).egress.resp.length < 256 ∧
      cellsOf (16 + 3) ≤ (rdmIn { busy := some rdmReq }).poolFree ∧ (rdmIn { busy := some rdmReq }).alive = true ∧
      (rdmIn { busy := some rdmReq }).egress.resp = [] ∧ 1 ≤ (rdmIn { busy := some rdmReq }).poolFree) ∧
    (((rdmIn { busy := some rdmReq, own := true }).rdm 2).busy = some rdmReq ∧
      ((rdmIn { busy := some rdmReq, own := true }).rdm 2).own = true) := by
  unfold State.storesOk; decide +kernel

/-- An sACN output section with two universes, its data and discovery packets on. -/
def sacnOut1 : List (Nat × Bytes) :=
  [(0x48, List.replicate 64 0 ++ beBytes 2 2 ++ beBytes 2 0 ++ [0, 2, 0, 0] ++ beBytes 4 100 ++ beBytes 4 100 ++ List.replicate 48 0)]
/-- `fired` with it, `n` universes sent, the sACN output of the tick taken from that section. -/
def sacnAt (n tick : Nat) : State :=
  { fired sacnOut1 {} with egress := { sacnOn := true, sacnNext := n, outSec := (fired sacnOut1 {}).sacnOut }
                           tick := { time := 1000, nextTime := tick } }
def source1 : SacnSrc := { cid := 4, last := 77, prio := 1, seq := 0, slots := [], order := 0, held := none, has := true }
def hearing : State := { up .onShow with sacn := { unis := [(3, { srcs := [source1] })], syncs := [(1, 2, 3)] } }

theorem test_witness_SacnStreams :
    ((fired [] {}).egress.sacnOn = false ∧ field (sacnAt 2 0).egress.outSec 64 2 ≤ (sacnAt 2 0).egress.sacnNext ∧
      (sacnAt 1 1000).storesOk ∧ (sacnAt 1 1000).egress.sacnOn = true ∧ (sacnAt 1 1000).egressRuns = true ∧
      (sacnAt 1 1000).egress.sacnNext < field (sacnAt 1 1000).egress.outSec 64 2 ∧
      (sacnAt 1 1000).tick.nextTime <
        ((sacnAt 1 1000).reachCclk (sacnAt 1 1000).egress.sacnFrom).now + field (sacnAt 1 1000).egress.outSec 72 4 ∧
      (sacnAt 1 9000).storesOk ∧ (sacnAt 1 9000).egressRuns = true ∧
      (sacnAt 1 9000).egress.sacnNext < field (sacnAt 1 9000).egress.outSec 64 2 ∧
      ((sacnAt 1 9000).reachCclk (sacnAt 1 9000).egress.sacnFrom).now + field (sacnAt 1 9000).egress.outSec 72 4 ≤
        (sacnAt 1 9000).tick.nextTime) ∧
    ((up .onShow).egressRuns = false ∧ (sacnAt 1 1).egressRuns = true ∧ (sacnAt 1 1).egress.sacnOn = true ∧
      bit (field (sacnAt 1 1).sacnOut 69 1) 1 = true) ∧
    ((∀ p ∈ hearing.sacn.unis, ∀ y ∈ p.2.srcs, y.cid ≠ 5) ∧ hearing.storesOk ∧ hearing.sacn.unis = [(3, { srcs := [source1] })] ∧
      source1.cid = 4 ∧ hearing.alive = true) ∧
    ((∀ y ∈ hearing.sacn.syncs, y.2.1 ≠ 1) ∧ (hearing.sacn.syncs.find? fun z => z.2.1 == 2) = some (1, 2, 3)) := by
  unfold State.storesOk; decide +kernel

/-- `up` with port `p` enabled and its LINK_STATE and PORT_SPEED at a value. -/
def ported (p link : Nat) : State := ((up .onShow).setReg (Reg.portEnable p) 1).setReg (Reg.portLinkState p) link
/-- The host port, HEAD_EN high. -/
def hostPort (speed link phy : Nat) : State :=
  { (ported 2 link).setReg (Reg.portSpeed 2) speed with pins := { resetN := true, keyEn := true, headEn := true }
                                                        host := { phySpeed := phy } }
def announcing (h : HostSt) : State := { up .onShow with host := h }

theorem test_witness_PortsAndAddresses :
    ((up .onShow).reg (Reg.portLinkState 0) ≠ 1 ∧ (ported 1 0).storesOk ∧ (ported 1 0).ropeOn = true ∧ (ported 1 0).portHeld 1 = false ∧
      (ported 1 0).reg (Reg.portLinkState 1) = 0 ∧ (ported 1 0).linkState 1 = 0 ∧ (ported 1 3).reg (Reg.portLinkState 1) = 3) ∧
    ((hostPort 3 0 100).storesOk ∧ (hostPort 3 0 100).ropeOn = true ∧ (hostPort 3 0 100).portHeld 2 = false ∧
      (hostPort 3 0 100).reg (Reg.portLinkState 2) = 0) ∧
    ((ported 0 0).portUp 0 = false ∧ (ported 0 1).storesOk ∧ (ported 0 1).ropeOn = true ∧ (ported 0 1).portUp 0 = true ∧
      (hostPort 3 1 100).portUp 2 = true) ∧
    ((hostPort 2 0 10).reg (Reg.portSpeed 2) ≠ 3 ∧ (hostPort 3 4 10).storesOk ∧ (hostPort 3 4 10).ropeOn = true ∧
      (hostPort 3 4 10).reg (Reg.portSpeed 2) = 3 ∧ (hostPort 3 4 10).portHeld 2 = false ∧ (hostPort 3 4 10).reg (Reg.portLinkState 2) = 4 ∧
      (hostPort 3 1 10).reg (Reg.portLinkState 2) ≠ 4) ∧
    ((up .onShow).ropeOn = true ∧ State.reset.ropeOn = false ∧ (hostPort 3 2 10).flag (Reg.portEnable 2) = true ∧
      (hostPort 3 2 10).reg (Reg.portLinkState 2) = 2 ∧ (hostPort 3 2 10).storesOk) ∧
    ((announcing { arpLeft := 1 }).ropeOn = true ∧ 0 < (announcing { arpLeft := 1 }).host.arpLeft ∧ (up .onShow).host.arpLeft = 0 ∧
      (announcing { repeats := 1 }).storesOk ∧ 0 < (announcing { repeats := 1 }).host.repeats ∧ (up .onShow).host.repeats = 0 ∧
      (announcing { v2Till := some 700 }).storesOk ∧ (announcing { v2Till := some 700 }).host.v2Till = some 700 ∧
      (up .onShow).host.v2Till = none) := by
  unfold State.storesOk; decide +kernel

/-- A MAC control frame of 64 bytes with a good FCS. -/
def macFrame : Bytes :=
  let f := List.replicate 12 0 ++ [0x88, 0x08, 0, 9] ++ List.replicate 44 0
  f ++ fcsOf f
/-- The host port up, PAUSE heard, in the state `x`; its watchdog at 1,000 cycles. -/
def pausing (x : PortSt) : State :=
  { ((((ported 2 1).setReg (Reg.portMaxFrame 2) 2000).setReg (Reg.portPauseRxEn 2) 1).setReg (Reg.portPwLimit 2) 1000) with
    ports := [{}, {}, x] }
/-- Rule 3 armed on the host port with an action. -/
def injecting (a : Nat) : State :=
  { ((((((pausing {}).setReg (Reg.rulePorts 3) 4).setReg (Reg.ruleClassMask 3) 128).setReg (Reg.ruleSrcPos 3) 0xFFFF).setReg
      (Reg.ruleRateN 3) 1).setReg (Reg.ruleLimit 3) 0).setReg (Reg.ruleAction 3) a with
    inj := { armed := true, rules := 8, till := 500 } }
def heldFrame : HeldFrame := { bytes := macFrame, align := false, left := 1, till := 200 }

theorem test_witness_FramesAndPause :
    ((ported 2 0).portUp 2 = false ∧ (pausing {}).storesOk ∧ (pausing {}).ropeOn = true ∧ (pausing {}).portUp 2 = true ∧
      (pausing {}).inj.armed = false ∧ ((pausing {}).port 2).held = [] ∧ (pausing {}).rxFlags 2 macFrame false = 0 ∧
      field macFrame 12 2 = 0x8808 ∧ field macFrame 14 2 ≠ 1) ∧
    ((injecting 1).storesOk ∧ (injecting 1).ropeOn = true ∧ (injecting 1).portUp 2 = true ∧ ((injecting 1).port 2).held = [] ∧
      ((injecting 1).ruleFor 2 macFrame).1 = some 3 ∧ (injecting 1).reg (Reg.ruleAction 3) = 1) ∧
    ((injecting 4).storesOk ∧ (injecting 4).ropeOn = true ∧ 2 < (injecting 4).ports.length ∧ (injecting 4).portUp 2 = true ∧
      ((injecting 4).port 2).held = [] ∧ ((injecting 4).ruleFor 2 macFrame).1 = some 3 ∧ (injecting 4).reg (Reg.ruleAction 3) = 4) ∧
    ((pausing { held := [heldFrame] }).storesOk ∧ ((pausing { held := [heldFrame] }).port 2).held = [heldFrame] ∧ 1 < ({ heldFrame with left := 2 } : HeldFrame).left ∧
      2 < (pausing { held := [heldFrame] }).ports.length ∧ (pausing { held := [heldFrame] }).rxFlags 2 heldFrame.bytes heldFrame.align = 0) ∧
    ((pausing {}).flag (Reg.portPauseRxEn 2) = true ∧ ((pausing {}).port 2).disregard = none ∧ 2 < (pausing {}).ports.length ∧
      0 < 65535) ∧
    ((pausing { pauseEnd := some 1050, holdFrom := 50 }).storesOk ∧ (pausing { pauseEnd := some 1050, holdFrom := 50 }).ropeOn = true ∧
      (pausing { pauseEnd := some 1050, holdFrom := 50 }).flag (Reg.portPauseRxEn 2) = true ∧
      ((pausing { pauseEnd := some 1050, holdFrom := 50 }).port 2).pauseEnd = some 1050 ∧
      1050 ≤ ((pausing { pauseEnd := some 1050, holdFrom := 50 }).port 2).holdFrom +
        (pausing { pauseEnd := some 1050, holdFrom := 50 }).reg (Reg.portPwLimit 2)) ∧
    ((pausing { pauseEnd := some 1051, holdFrom := 50 }).storesOk ∧ (pausing { pauseEnd := some 1051, holdFrom := 50 }).alive = true ∧
      ((pausing { pauseEnd := some 1051, holdFrom := 50 }).port 2).pauseEnd = some 1051 ∧
      ((pausing { pauseEnd := some 1051, holdFrom := 50 }).port 2).holdFrom +
        (pausing { pauseEnd := some 1051, holdFrom := 50 }).reg (Reg.portPwLimit 2) < 1051) ∧
    ((pausing { disregard := some 70 }).storesOk ∧ ((pausing { disregard := some 70 }).port 2).disregard = some 70) := by
  unfold State.storesOk; refine ⟨?_, ?_, ?_, ?_, ?_, ?_, ?_, ?_⟩ <;> decide +kernel

/-- What the unit knows of the clock of `ptpMsg`. -/
def master1 (p : Nat) : Master :=
  { data := annData, clock := 77, rxPort := p, logInt := 0, scale := true, flags := 3, last := 0 }
/-- Rope port A up and locked, its link up, with a servo state and a PTP state. -/
def clocked (v : Nat) (x : PtpSt) : State :=
  { (((((up .staging).setReg (Reg.portLinkState 0) 1).setReg (Reg.portLinkState 2) 1).setReg Reg.linkAState 3).setReg
      Reg.servoState v) with ptp := x }
/-- With the stamp of Sync 5 in port A's queue. -/
def stamped (x : PtpSt) : State := { clocked 0 x with ports := [{ tsq := [{ time := 600, kind := 1, msg := 0, seq := 5 }] }, {}, {}] }
def syncWait1 : SyncWait := { port := 0, clock := 77, srcPort := 1, seq := 5, rx := some 600000, t1 := none, corr := 0 }
def waitingDelay : PtpSt := { delaySeq := 5, delayT3 := some 9, lastSyncPair := some (3, 4) }
/-- The message as an answer to what port `p` asked. -/
def answer (p : Nat) : PtpMsg := { ptpMsg with reqClock := (up .staging).part.eui64, reqPort := p + 1 }
/-- The same on a head that leads its segment. -/
def atTrail (v : Nat) (x : PtpSt) : State := (clocked v x).setReg Reg.headRole 3
/-- A peer delay measurement under way on port A. -/
def measuring (x : PdelaySt) : PtpSt := { pdelay := [x, {}, {}] }

theorem test_witness_PtpMessagesHeard :
    ((up .staging).hears 0 = false ∧ (clocked 0 {}).storesOk ∧ (clocked 0 {}).hears 0 = true ∧
      (clocked 0 {}).ptpOk { ptpMsg with version := 1 } = false) ∧
    ((stamped { masters := [master1 0] }).storesOk ∧ (stamped { masters := [master1 0] }).hears 0 = true ∧
      (stamped { masters := [master1 0] }).ptpOk ptpMsg = true ∧ (stamped { masters := [master1 0] }).master = some (master1 0) ∧
      (master1 0).clock = ptpMsg.srcClock ∧ ((stamped { masters := [master1 0] }).takeStamp 0 1 0 ptpMsg.seq).1 = some 600 ∧
      ptpMsg.twoStep = false ∧ (stamped { masters := [master1 0] }).listens 0 = true ∧
      (stamped { masters := [master1 0] }).ptp.lastSeq ≠ some (ptpMsg.srcClock, ptpMsg.seq) ∧ (stamped { masters := [master1 0] }).ptpOk { ptpMsg with twoStep := true } = true ∧
      (stamped { masters := [master1 0] }).pathDelay 0 = some 0 ∧ (stamped { masters := [master1 0] }).endToEnd 0 = false) ∧
    ((clocked 2 { masters := [master1 0], nDiscard := 7 }).storesOk ∧ (clocked 2 { masters := [master1 0], nDiscard := 7 }).hears 0 = true ∧
      (clocked 2 { masters := [master1 0], nDiscard := 7 }).ptpOk ptpMsg = true ∧
      (clocked 2 { masters := [master1 0], nDiscard := 7 }).master = some (master1 0) ∧
      ((clocked 2 { masters := [master1 0], nDiscard := 7 }).takeStamp 0 1 0 ptpMsg.seq).1 = none ∧
      (clocked 2 { masters := [master1 0], nDiscard := 7 }).stampLost 0 1 0 ptpMsg.seq = false ∧
      ({ clocked 2 { masters := [master1 0] } with ports := [{ lost := [{ time := 600, kind := 1, msg := 0, seq := 5 }] }, {}, {}] } :
        State).stampLost 0 1 0 ptpMsg.seq = true ∧
      (clocked 2 { masters := [master1 0], nDiscard := 7 }).servo = 2 ∧ (clocked 2 { masters := [master1 0], nDiscard := 6 }).ptp.nDiscard < 7) ∧
    ((clocked 0 { syncWait := some syncWait1 }).storesOk ∧ (clocked 0 { syncWait := some syncWait1 }).hears 0 = true ∧
      (clocked 0 { syncWait := some syncWait1 }).ptpOk ptpMsg = true ∧ syncWait1.port = 0 ∧ syncWait1.clock = ptpMsg.srcClock ∧
      syncWait1.seq = ptpMsg.seq ∧ syncWait1.t1 = none ∧ ({ syncWait1 with rx := none } : SyncWait).rx = none ∧ syncWait1.rx = some 600000 ∧ (clocked 0 { syncWait := some syncWait1 }).pathDelay 0 = some 0 ∧
      (clocked 0 {}).ptp.syncWait = none) ∧
    ((clocked 0 {}).isMasterOn 0 = false ∧ (clocked 5 {}).hears 0 = true ∧ (clocked 5 {}).ptpOk ptpMsg = true ∧
      (clocked 5 {}).isMasterOn 0 = true ∧ (clocked 5 {}).endToEnd 0 = false ∧ (atTrail 5 {}).hears 2 = true ∧
      (atTrail 5 {}).endToEnd 2 = true ∧ (atTrail 5 {}).isMasterOn 2 = true ∧ (atTrail 5 {}).portSends 2 ∧
      (atTrail 0 {}).isMasterOn 2 = false) ∧
    ((clocked 0 waitingDelay).storesOk ∧ (clocked 0 waitingDelay).hears 2 = true ∧ (clocked 0 waitingDelay).ptpOk (answer 2) = true ∧
      (answer 2).reqClock = (clocked 0 waitingDelay).part.eui64 ∧ (answer 2).reqPort = 2 + 1 ∧
      (answer 2).seq = (clocked 0 waitingDelay).ptp.delaySeq ∧
      (clocked 0 waitingDelay).ptp.delayT3 = some 9 ∧ (clocked 0 waitingDelay).ptp.lastSyncPair = some (3, 4) ∧ ptpMsg.reqPort ≠ 2 + 1) ∧
    (annData.gm ≠ (clocked 0 {}).part.eui64 ∧ ptpMsg.srcClock ≠ (clocked 0 {}).part.eui64 ∧ (clocked 0 {}).ptp.masters = [] ∧
      (clocked 0 {}).servo ≠ 5 ∧ ({ annData with gm := (clocked 0 {}).part.eui64 } : AnnData).gm = (clocked 0 {}).part.eui64) ∧
    ((clocked 0 {}).endToEnd 0 = false ∧ (clocked 0 {}).portSends 0 ∧ (clocked 0 {}).listens 0 = true ∧
      (clocked 0 {}).flag Reg.gmAllowed = false ∧ ((clocked 0 {}).setReg Reg.gmAllowed 1).flag Reg.gmAllowed = true) ∧
    ((clocked 0 (measuring { seq := 5, t1 := 1000, waiting := true, two := none })).storesOk ∧
      (clocked 0 (measuring { seq := 5, t1 := 1000, waiting := true, two := none })).hears 0 = true ∧
      ((clocked 0 (measuring { seq := 5, t1 := 1000, waiting := true, two := none })).ptp.pdelay.getD 0 {}).waiting = true ∧
      (answer 0).seq = 5 ∧ (answer 0).reqPort = 0 + 1 ∧ (clocked 0 {}).ptpOk (answer 0) = true) ∧
    ((clocked 0 (measuring { seq := 5, t1 := 1000, waiting := false, two := some (9000, 2000, 0) })).storesOk ∧
      ((clocked 0 (measuring { seq := 5, t1 := 1000, waiting := false, two := some (9000, 2000, 0) })).ptp.pdelay.getD 0 {}).two =
        some (9000, 2000, 0)) := by
  unfold State.storesOk State.portSends; refine ⟨?_, ?_, ?_, ?_, ?_, ?_, ?_, ?_, ?_, ?_⟩ <;> decide +kernel

/-- A master on the closed ring in directed mode. -/
def directed : State := ((((clocked 5 {}).setReg Reg.ropeMode 1).setReg Reg.ringState 1).setReg (Reg.portLinkState 1) 1).setReg Reg.linkBState 3

theorem test_witness_PtpMessagesSent :
    ((clocked 5 {}).hears 0 = true ∧ (clocked 5 {}).isMasterOn 0 = true ∧ directed.hears 0 = true ∧ directed.isMasterOn 0 = true ∧ directed.portSends 1 ∧ directed.ropePorts 1 false = [1] ∧
      0 < (clocked 5 {}).ptp.syncSeq.length ∧ (clocked 0 {}).isMasterOn 0 = false ∧ (clocked 5 {}).master = none ∧
      ((clocked 5 { masters := [master1 0], gmMeasure := true }).setReg Reg.headRole 3).master = some (master1 0) ∧
      ((clocked 5 { masters := [master1 0], gmMeasure := true }).setReg Reg.headRole 3).isMasterOn 0 = true) ∧
    ((let s := (clocked 2 { masters := [master1 2] }).setReg Reg.headRole 3
      s.hears 2 = true ∧ s.endToEnd 2 = true ∧ s.reg Reg.headRole = 3 ∧ s.master = some (master1 2) ∧ s.portSends 2) ∧
      (clocked 2 {}).reg Reg.headRole ≠ 3) ∧
    ((clocked 2 {}).hears 0 = true ∧ (clocked 2 {}).endToEnd 0 = false ∧ (clocked 2 {}).portSends 0 ∧ 0 < (clocked 2 {}).ptp.pdelay.length ∧
      (clocked 2 {}).endToEnd 2 = true) := by
  unfold State.portSends; decide +kernel

/-- `clocked` with the thresholds of the servo, at a boundary. -/
def servoing (v : Nat) (x : PtpSt) : State :=
  { ((clocked v x).setReg Reg.stepThreshold 1000).setReg Reg.lockNs 100 with tick := { time := 1000 } }
/-- With a step due. -/
def stepping (v : Nat) (d : Int) (b : Bool) : State := { servoing v { meas := [-7000000] } with tick := { time := 1000, stepDue := some (d, b) } }

theorem test_witness_ServoStates :
    ((servoing 0 {}).storesOk ∧ (servoing 0 {}).servo = 0 ∧ (-1000000 : Int).natAbs ≤ (servoing 0 {}).reg Reg.stepThreshold * 1000 ∧
      (servoing 0 {}).ptp.meas.length < 3) ∧
    ((servoing 0 { meas := [1, 2, 3] }).storesOk ∧ (servoing 0 { meas := [1, 2, 3] }).servo = 0 ∧
      (servoing 0 { meas := [1, 2, 3] }).ptp.meas.length = 3 ∧ spread [1000001, 1, 2, 3] ≤ 1000000) ∧
    ((servoing 1 { nLock := 15 }).storesOk ∧ (servoing 1 { nLock := 15 }).servo = 1 ∧
      (-100000 : Int).natAbs ≤ (servoing 1 { nLock := 15 }).reg Reg.lockNs * 1000 ∧
      (-100000 : Int).natAbs ≤ (servoing 1 { nLock := 15 }).reg Reg.stepThreshold * 1000 ∧ (servoing 1 { nLock := 15 }).ptp.nLock = 15) ∧
    ((servoing 3 { nAbove := 3 }).storesOk ∧ (servoing 3 { nAbove := 3 }).servo = 3 ∧
      (servoing 3 { nAbove := 3 }).reg Reg.stepThreshold * 1000 < (-1000001 : Int).natAbs ∧ (servoing 3 { nAbove := 3 }).ptp.nAbove = 3) ∧
    ((servoing 4 { nWithin := 3 }).storesOk ∧ (servoing 4 { nWithin := 3 }).servo = 4 ∧ (servoing 4 { nWithin := 3 }).ptp.nWithin = 3) ∧
    ((servoing 2 {}).ptp.lastSync = none ∧ (servoing 2 { lastSync := some 4 }).storesOk ∧ (servoing 2 { lastSync := some 4 }).alive = true ∧
      (servoing 2 { lastSync := some 4 }).ptp.lastSync = some 4 ∧ (servoing 2 { lastSync := some 4 }).servo = 2) ∧
    ((servoing 2 {}).best = none ∧ (servoing 2 { masters := [master1 0] }).storesOk ∧
      (servoing 2 { masters := [master1 0] }).alive = true ∧ (servoing 2 { masters := [master1 0] }).ptp.masters = [master1 0] ∧
      (servoing 2 { masters := [master1 0] }).servo = 2 ∧ (servoing 2 { masters := [master1 0] }).flag Reg.gmAllowed = false) ∧
    ((up .staging).mode.ptpWaitAt = none ∧
      (let s : State := { (servoing 0 {}).setReg Reg.gmAllowed 1 with mode := { mode := .staging, boot := .running, ptpWaitAt := some 3 } }
      s.storesOk ∧ s.mode.ptpWaitAt = some 3 ∧ s.mode.mode = .staging ∧ s.ptp.masters = [] ∧ s.servo = 0 ∧ s.flag Reg.gmAllowed = true)) ∧
    ((stepping 0 (-5000) true).storesOk ∧ (stepping 0 (-5000) true).tick.stepDue = some (-5000, true) ∧ (stepping 0 (-5000) true).servo = 0 ∧
      (stepping 0 (-5000) true).atBoundary = true ∧ (stepping 4 5000 false).storesOk ∧
      (stepping 4 5000 false).tick.stepDue = some (5000, false) ∧ (stepping 4 5000 false).atBoundary = true ∧ (stepping 4 5000 false).servo = 4 ∧
      (servoing 4 {}).tick.stepDue = none) ∧
    (((servoing 4 { winN := 8 }).setReg Reg.autoAccept 1).servo = 4 ∧ ((servoing 4 { winN := 8 }).setReg Reg.autoAccept 1).mode.mode = .staging ∧
      bit (((servoing 4 { winN := 8 }).setReg Reg.autoAccept 1).reg Reg.autoAccept) 0 = true ∧
      8 ≤ ((servoing 4 { winN := 8 }).setReg Reg.autoAccept 1).ptp.winN ∧ (servoing 4 { winN := 7 }).ptp.winN < 8) := by
  unfold State.storesOk; refine ⟨?_, ?_, ?_, ?_, ?_, ?_, ?_, ?_, ?_, ?_⟩ <;> decide +kernel

/-- Pulse output 3 and edge input 3 in a state, output mode `m`. -/
def timed (m : Nat) (p : PulseSt) (e : EciSt) : State :=
  { ((((up .onShow).setReg (Reg.pulseMode 3) m).setReg Reg.clockState 1).setReg (Reg.pulseWidth 3) 20).setReg (Reg.eciEdgeSel 3) 1 with
    tio := { pulses := [{}, {}, {}, p], ecis := [{}, {}, {}, e] } }

theorem test_witness_TimedInputsAndOutputs :
    (State.reset.alive = false ∧ (timed 1 { on := true } {}).alive = true ∧ ((timed 1 { on := true } {}).pulse 3).on = true) ∧
    ((timed 1 {} {}).storesOk ∧ (timed 1 {} {}).alive = true ∧ 3 < (timed 1 {} {}).tio.pulses.length ∧ ((timed 1 {} {}).pulse 3).on = false ∧
      (timed 1 {} {}).reg (Reg.pulseMode 3) = 1 ∧ (timed 1 {} {}).flag Reg.clockState = true ∧ ((timed 1 {} {}).pulse 3).fired = false ∧
      ((timed 1 {} {}).pulse 3).missed = false) ∧
    ((timed 2 { next := some 5000 } {}).storesOk ∧ ((timed 2 { next := some 5000 } {}).pulse 3).on = false ∧
      (timed 2 { next := some 5000 } {}).reg (Reg.pulseMode 3) = 2 ∧ (timed 2 { next := some 5000 } {}).flag Reg.clockState = true ∧
      ((timed 2 { next := some 5000 } {}).pulse 3).next = some 5000) ∧
    ((timed 0 {} {}).reg (Reg.pulseMode 3) = 0 ∧ edgeSelected ((timed 0 {} {}).reg (Reg.eciEdgeSel 3)) false = false) ∧
    ((timed 0 {} { edge := some 89, last := some 0 }).storesOk ∧ edgeSelected ((timed 0 {} {}).reg (Reg.eciEdgeSel 3)) true = true ∧
      (((timed 0 {} { edge := some 89, last := some 0 }).eci 3).edge.all fun x =>
        decide (x + 10 ≤ (timed 0 {} { edge := some 89, last := some 0 }).clock.cclk)) = true ∧
      ((timed 0 {} { edge := some 89, last := some 0 }).eci 3).last = some 0 ∧
      (timed 0 {} { edge := some 89, last := some 0 }).clock.cclk < 0 + 100) ∧
    (3 < (timed 0 {} {}).tio.ecis.length ∧ (((timed 0 {} {}).eci 3).edge.all fun x => decide (x + 10 ≤ (timed 0 {} {}).clock.cclk)) = true ∧
      ((timed 0 {} {}).eci 3).last = none ∧ ((timed 0 {} {}).eci 3).queue.length < 64 ∧ 0 < (timed 0 {} {}).poolFree) := by
  unfold State.storesOk; decide +kernel

/-- Both rope ports up and enabled, the links in a state, the rope unit `r`, the unit's position given. -/
def roped (a b : Nat) (r : RopeSt) : State :=
  { ((((((up .staging).setReg (Reg.portLinkState 0) 1).setReg (Reg.portLinkState 1) 1).setReg Reg.linkAState a).setReg
      Reg.linkBState b).setReg Reg.addrState 3) with rope := r }
/-- One link of the rope. -/
def link1 (x : LinkSt) : RopeSt := { links := [x, {}] }
/-- A break at port B of this unit towards neighbour 3. -/
def ownBreak : BreakRec := { mac := (up .staging).mac, port := 1, lost := 3 }
/-- A break between two other units. -/
def farBreak : BreakRec := { mac := 5, port := 1, lost := 6 }

theorem test_witness_RopeLinks :
    ((roped 0 0 {}).ropeOn = true ∧ (roped 0 0 {}).portUp 0 = true ∧ (roped 0 0 {}).txPaused 0 = false ∧ State.reset.ropeOn = false) ∧
    ((roped 1 0 (link1 { count := 2, lastHb := 50 })).storesOk ∧ 0 < (roped 1 0 (link1 {})).rope.links.length ∧
      (roped 1 0 {}).hasPos = true ∧ (roped 1 0 (link1 { count := 2, lastHb := 50 })).linkState 0 = 1 ∧
      (roped 1 0 (link1 { count := 2, lastHb := 50 })).clock.cclk ≤ 50 + 600000 ∧ (roped 4 0 {}).linkState 0 = 4 ∧
      (roped 1 0 {}).reg Reg.segment ≠ 9 ∧
      ({ roped 1 0 (link1 {}) with clock := { cclk := 600001 } } : State).clock.cclk = 0 + 600000 + 1) ∧
    ((roped 3 0 {}).storesOk ∧ (roped 3 0 {}).linkState 0 = 3 ∧ (roped 0 2 {}).linkState 1 = 2 ∧ (roped 0 0 {}).linkState 0 = 0) ∧
    ((roped 2 0 (link1 { provingFrom := 5, lastHb := 99999999 })).storesOk ∧
      (roped 2 0 (link1 { provingFrom := 5, lastHb := 99999999 })).linkState 0 = 2 ∧
      max (roped 2 0 {}).clock.cclk (5 + ms 100) ≤ 99999999 + 600000) ∧
    (((roped 0 0 {}).rope.breaks.any fun x => x.same farBreak) = false ∧ (roped 0 0 { breaks := [farBreak] }).storesOk ∧
      ((roped 0 0 { breaks := [farBreak] }).rope.breaks.any fun x => x.same farBreak) = true) ∧
    (((roped 3 4 { breaks := [ownBreak] }).rope.breaks.any fun x => x.mac == (up .staging).mac && x.port == 1) = true ∧
      (roped 3 4 { breaks := [ownBreak] }).linkState 1 ≠ 3 ∧ (roped 3 4 {}).reg Reg.ropeMode = 0 ∧ (roped 3 4 {}).portSends 0) ∧
    (assocGet (roped 0 0 { wins := [(7, { newest := 0, bits := 1, last := 5 })] }).rope.wins 7 = some { newest := 0, bits := 1, last := 5 } ∧ assocGet (roped 0 0 {}).rope.wins 7 = none) ∧
    ({ roped 0 0 {} with inj := { armed := true, till := 500 } } : State).inj.armed = true := by
  unfold State.storesOk State.portSends; refine ⟨?_, ?_, ?_, ?_, ?_, ?_, ?_, ?_⟩ <;> decide +kernel

/-- `roped` in HEAD_ROLE `h`. -/
def headed (h : Nat) (r : RopeSt) : State := (roped 3 3 r).setReg Reg.headRole h

/-- A unit in ROPING that has no position yet. -/
def unplaced : State := { (headed 0 {}).setReg Reg.addrState 0 with mode := { mode := .roping, boot := .running } }

theorem test_witness_HeadElection :
    ((headed 3 {}).ropeOn = true ∧ (headed 3 {}).reg Reg.headRole = 3 ∧ (headed 1 {}).reg Reg.headRole ≠ 3) ∧
    ((headed 1 {}).storesOk ∧ 5 ≠ (headed 1 {}).mac ∧ (headed 1 {}).noBeacon = true ∧
      8 < ((headed 3 {}).setReg Reg.headTerm 99).reg Reg.headTerm) ∧
    ((headed 2 {}).reg Reg.headRole = 2 ∧ (headed 2 {}).reg Reg.ropeMode = 0 ∧ (headed 2 {}).portSends 0) ∧
    ((headed 2 { bidFrom := some 3 }).storesOk ∧ (headed 2 { bidFrom := some 3 }).rope.bidFrom = some 3 ∧
      (headed 2 {}).lowerKey 0 0 5 = true ∧ (headed 1 {}).rope.bidFrom = none) ∧
    ((headed 3 { trailDown := some 3, others := [(4, 5)] }).storesOk ∧
      (headed 3 { trailDown := some 3, others := [(4, 5)] }).rope.trailDown = some 3 ∧
      ((headed 3 { trailDown := some 3, others := [(4, 5)] }).rope.others.any fun o =>
        decide (max (headed 3 {}).clock.cclk (3 + ms 1) ≤ o.2 + ms 10000)) = true) ∧
    (unplaced.ropeOn = true ∧ unplaced.mode.mode = .roping ∧ unplaced.hasPos = false ∧ unplaced.reg Reg.ropeMode = 0 ∧
      unplaced.portSends 0) := by
  unfold State.storesOk State.portSends; refine ⟨?_, ?_, ?_, ?_, ?_, ?_⟩ <;> decide +kernel

/-- A roping run of the head. -/
def run1 (b : Bool) : RunSt := { id := 4, began := 9, second := b, recsB := [], recsA := [] }
def ownRec : CallRec := { mac := (up .staging).mac, eligible := true, running := false, stored := true, seg := 1, pos := 2, ropedAt := 0 }
/-- `headed` in ROPING. -/
def inRoping (h : Nat) (r : RopeSt) : State := { headed h r with mode := { mode := .roping, boot := .running } }

theorem test_witness_RopingRuns :
    ((headed 3 {}).mode.mode ≠ .roping ∧ (inRoping 1 {}).storesOk ∧ (inRoping 1 {}).mode.mode = .roping ∧
      (inRoping 1 {}).rope.gotCall = false ∧ (inRoping 1 {}).mode.ropingEnd = none) ∧
    ((headed 3 { wantRun := true }).rope.wantRun = true ∧ (headed 3 { wantRun := true }).rope.run = none ∧
      (headed 3 { wantRun := true }).rope.runEnd = none ∧ (headed 3 {}).linkState 1 = 3 ∧
      ((roped 0 0 { wantRun := true }).setReg Reg.headRole 3).linkState 0 ≠ 3 ∧
      ((roped 0 0 { wantRun := true }).setReg Reg.headRole 3).linkState 1 ≠ 3 ∧ (headed 1 {}).rope.wantRun = false) ∧
    ((headed 1 {}).rope.run = none ∧ (headed 1 {}).storesOk ∧ 255 ≤ 255 ∧ 254 < 255) ∧
    ((headed 3 { run := some (run1 false) }).rope.run = some (run1 false) ∧ ownRec.mac = (headed 3 {}).mac ∧
      (headed 3 {}).clock.cclk ≤ (run1 false).began + ms 20 ∧ (headed 3 {}).linkState 0 = 3 ∧ (run1 false).id ≠ 5 ∧
      (run1 true).second = true) ∧
    ((inRoping 1 { relayed := some 4 }).storesOk ∧ (inRoping 1 { relayed := some 4 }).rope.relayed = some 4 ∧
      (([] : List SetEntry).find? fun e => e.mac == (inRoping 1 {}).mac) = none ∧
      ([{ mac := (inRoping 1 {}).mac, result := 1, pos := 7 }].find? fun (e : SetEntry) => e.mac == (inRoping 1 {}).mac) =
        some { mac := (inRoping 1 {}).mac, result := 1, pos := 7 }) := by
  unfold State.storesOk; refine ⟨?_, ?_, ?_, ?_, ?_⟩ <;> decide +kernel

/-- A unit with a topo of one plan entry and two descriptors, the plan entry's phase and descriptor and the descriptor rows as bytes. -/
def planned : State :=
  let s := { (up .staging).setReg Reg.dramUsable 16777216 with
    topo := { active := some { slot := 1, id := 5, build := 6, num := 60, den := 1, lat := 2, switchW := 3
                               regions := [1, 1, 1, 1, 1, 1, 1, 1, 1], endpoints := 0, channels := 0
                               sections := [(0x02, beBytes 2 0 ++ beBytes 2 0 ++ beBytes 4 1 ++ List.replicate 40 0),
                                            (0x03, List.replicate 128 0)] } } }
  let s := (List.range 9).foldl (fun (s : State) i => s.setReg (Reg.regionMb i) 1) s
  (s.ramWrite false (s.regionAt 7 + 32) (beBytes 4 500 ++ beBytes 4 0 ++ [0xFF, 0, 0, 0, 0x40, 0, 0, 0])).ramWrite false
    (s.descAt 0) ([2, 0, 0, 8] ++ beBytes 2 0xFFFF ++ beBytes 2 0xFFFF ++ [0xFF, 0, 0, 0, 0, 0, 0, 0] ++ List.replicate 20 0 ++ List.replicate 28 0)
/-- Descriptor 1 takes items of queue 6, in which one waits. -/
def evented : State :=
  let s := planned.ramWrite false (planned.descAt 1) ([2, 0, 0, 8, 0, 6] ++ beBytes 2 0xFFFF ++ [0xFF, 0, 0, 0, 0, 0, 0, 0] ++ List.replicate 48 0)
  { s with q := { s.q with rx := (List.replicate 8 ({} : Queue)).set 6 { items := [[1, 2]] } } }
/-- A task of descriptor `d` whose row names no carabiner or carabiner `c`. -/
def job (d c : Nat) : Task :=
  { id := 5, desc := d, entry := none, list := 2, order := 0, due := some 500
    row := [2, 0, 0, 8] ++ beBytes 2 6 ++ beBytes 2 0xFFFF ++ beBytes 1 c ++ List.replicate 55 0 }
/-- `evented` with engine 3 in a state. -/
def engined (x : Engine) : State := { evented with sched := { engines := (List.replicate 16 ({} : Engine)).set 3 x } }
/-- A reader of queue 6 whose time is over. -/
def stalledRead : State :=
  let s := engined { run := some { job 1 255 with stalled := true } }
  { s with q := { s.q with rx := (List.replicate 8 ({} : Queue)).set 6 { readers := [{ task := 5, until_ := some 0 }] } } }
/-- Carabiner 7 in a state. -/
def carabin (x : Carab) (e : Engine) : State :=
  { engined e with carabs := { cbs := (List.replicate 64 ({} : Carab)).set 7 x } }

/-- A task of descriptor 0 in ready list 2. -/
def readied : State := { planned with sched := { planned.sched with ready := [[], [], [job 0 255], [], [], [], [], []] } }

theorem test_witness_SchedulerMoves :
    (planned.storesOk ∧ ((planned.cb 5).lease.all fun n => decide (planned.tickNow < n)) = true ∧
      (carabin { owner := some .localPort, lease := some 0 } {}).storesOk ∧ 7 < (carabin {} {}).carabs.cbs.length ∧
      ((carabin { owner := some .localPort, lease := some 0 } {}).cb 7).lease = some 0 ∧ 0 ≤ planned.tickNow) ∧
    ((up .staging).planRuns = false ∧ planned.planRuns = true ∧ 0 < planned.planCount ∧ planned.sched.released.contains 0 = false ∧
      field (planned.planEntry 0) 8 1 = 0xFF ∧ (planned.tasks.any fun x => x.entry == some 0) = false ∧
      (planned.readyList (field (planned.planEntry 0) 12 1 / 32)).length < planned.sched.limits.getD (field (planned.planEntry 0) 12 1 / 32) 256) ∧
    (evented.storesOk ∧ evented.releasesRun = true ∧ 1 < evented.descCount ∧ dIn (evented.descRow 1) ≠ 0xFFFF ∧
      evented.itemsIn (dIn (evented.descRow 1)) ≠ 0 ∧ evented.inPlan 1 = false ∧ (evented.tasks.any fun t => t.desc == 1) = false ∧
      (evented.readyList (evented.reg Reg.eventList)).length < evented.sched.limits.getD (evented.reg Reg.eventList) 256) ∧
    (readied.storesOk ∧ 3 < readied.sched.engines.length ∧ readied.choice 3 = some (job 0 255) ∧ readied.canPrefetch 3 = true ∧
      ((List.range 3).any fun k => readied.canPrefetch k && readied.choice k == some (job 0 255)) = false ∧
      readied.poisoned false (readied.descAt 0) 64 = false ∧
      descOk readied.regions readied.dramSize readied.queueDeclared (readied.descRow 0) = true ∧
      descOk readied.regions readied.dramSize readied.queueDeclared (List.replicate 64 255) = false ∧ (readied.engine 3).run = none) ∧
    ((engined {}).storesOk ∧ (engined {}).choice 3 = none ∧ ((engined { out := true }).engine 3).out = true ∧ ((engined {}).engine 3).biv = []) ∧
    (((engined { run := some { job 1 255 with stalled := true, list := 4 }, biv := [job 0 255] }).engine 3).run =
        some { job 1 255 with stalled := true, list := 4 } ∧ (job 0 255).list < 4 ∧ 64 ≤ dCb (job 0 255).row) ∧
    (((engined { biv := [job 0 255] }).engine 3).biv = [job 0 255] ∧ ((carabin { broken := true } { biv := [job 0 7] }).cb 7) = { broken := true } ∧
      dCb (job 0 7).row = 7 ∧ ((carabin {} { biv := [job 0 7] }).cb 7) = {} ∧
      ((carabin { owner := some .localPort } { biv := [job 0 7] }).cb 7).owner = some .localPort) ∧
    ((evented.tasks.find? fun t => t.id == 5 && !t.missed && t.due.isSome) = none ∧
      ((engined { run := some (job 0 255) }).tasks.find? fun t => t.id == 5 && !t.missed && t.due.isSome) = some (job 0 255)) ∧
    (((engined {}).engine 3).run.filter (engined {}).readOver = none ∧ stalledRead.stallEnd (dIn (job 1 255).row) 5 = some 0 ∧
      (stalledRead.engine 3).run = some { job 1 255 with stalled := true } ∧ (stalledRead.engine 3).biv = [] ∧ 0 ≤ stalledRead.tickIdx ∧
      stalledRead.ctl.jobs = []) ∧
    ((engined { run := some { job 1 255 with row := [2, 0, 0, 8] ++ beBytes 2 0xFFFF ++ beBytes 2 7 ++ [255] ++ List.replicate 55 0
                                             blocked := some ([1], 0) } }).roomIn 7 1 = true) := by
  unfold State.storesOk; refine ⟨?_, ?_, ?_, ?_, ?_, ?_, ?_, ?_, ?_, ?_⟩ <;> decide +kernel

/-- `up` with spill queue 3 in a state. -/
def spilled (q : Spill) : State := { up .staging with q := { spills := [(3, q)] } }
def spill3 : Spill := { hold := true, stage := 1, limit := 16, base := 0 }
/-- Scrubbing and self-test on, with a topo. -/
def scrubbing : State := ((planned.setReg Reg.scrubEn 1).setReg Reg.selftestEn 1)

theorem test_witness_MemoryServices :
    (assocGet (up .staging).q.spills 3 = none ∧ spill3.tail.length < 4 ∧ assocGet (spilled spill3).q.spills 3 = some spill3 ∧
      4 ≤ ({ spill3 with tail := List.replicate 4 [1] } : Spill).tail.length ∧ spill3.ringN = 0 ∧
      4 < ({ spill3 with ringN := 5 } : Spill).ringN ∧ spill3.head.length ≤ 12) ∧
    ((domains [2, 2, 2, 0, 2, 2, 2, 2, 2, 2]).domOn 3 = false ∧ (up .staging).storesOk ∧ (up .staging).domOn 3 = true ∧
      ([(11, 0)].any fun (r : Nat × Nat) => decide (10 < r.1)) = true ∧ 5 ≤ (up .staging).reg Reg.waitLimit ∧
      32 < (up .staging).arb.counts.length) ∧
    (scrubbing.storesOk ∧ scrubbing.flag Reg.scrubEn = true ∧ scrubbing.domOn 3 = true ∧ scrubbing.domOn 7 = true ∧ scrubbing.domOn 1 = true ∧
      scrubbing.alive = true ∧ scrubbing.lineScrubbed 9 = true ∧ scrubbing.bmReady 9 = true ∧ 9 ≠ scrubbing.lastLine ∧
      scrubbing.lineScrubbed scrubbing.lastLine = true ∧ scrubbing.poisoned false (9 * 64) 64 = false) ∧
    ((up .dark).topo.active = none ∧ scrubbing.flag Reg.selftestEn = true ∧ scrubbing.topo.active.isSome = true ∧
      (scrubbing.engine 3).out = false ∧
      ((({ scrubbing with sched := { engines := List.replicate 16 ({ testDue := some 4 } : Engine) } } : State).engine 3).testDue.isSome = true)) ∧
    (scrubbing.sched.dramLast = none ∧ (scrubbing.readyList 7).length < scrubbing.sched.limits.getD 7 256) := by
  unfold State.storesOk; refine ⟨?_, ?_, ?_, ?_, ?_⟩ <;> decide +kernel

/-- A descriptor row of a task: type, source, destination, length and parameters; it names no queue and no carabiner. -/
def taskRow (ty src dst len : Nat) (par : Bytes) : Bytes :=
  beBytes 1 ty ++ beBytes 1 0 ++ beBytes 2 0xFFFF ++ beBytes 2 0xFFFF ++ beBytes 2 0xFFFF ++ beBytes 1 0xFF ++ beBytes 3 0 ++ beBytes 4 0 ++
    beBytes 8 src ++ beBytes 8 dst ++ beBytes 4 len ++ (par ++ List.replicate (28 - par.length) 0)
/-- A task of that row. -/
def taskOf (r : Bytes) : Task := { id := 5, desc := 5, entry := none, list := 2, order := 0, due := some 500, row := r }
/-- `planned`, its queues there, with engine 3 running a task. -/
def atWork (x : Task) : State :=
  { planned with sched := { engines := (List.replicate 16 ({} : Engine)).set 3 { run := some x } }, q := { rx := List.replicate 8 {} } }
/-- A line of the Hearth found poisoned. -/
def poison (a : Nat) (s : State) : State := { s with mem := { s.mem with poison := [(false, a)] } }

theorem runsTask_iff (s : State) (e ty : Nat) (x : Task) : s.runsTask e ty x ↔
    (decide (e < s.sched.engines.length) && (s.engine e).run == some x && (s.engine e).biv.isEmpty && dType x.row == ty && !x.stalled &&
      x.blocked.isNone && !x.cancel && (s.cb (dCb x.row)).owner != some (.task x.id)) = true := by
  unfold State.runsTask
  simp [and_assoc]

theorem test_witness_TaskSteps :
    ((atWork (taskOf (taskRow 0 0 0 0 []))).runsTask 3 0 (taskOf (taskRow 0 0 0 0 []))) ∧
    ((atWork (taskOf (taskRow 1 64 4096 5000 []))).storesOk ∧
      (atWork (taskOf (taskRow 1 64 4096 5000 []))).runsTask 3 1 (taskOf (taskRow 1 64 4096 5000 [])) ∧ 4096 = min 4096 (5000 - 0) ∧
      (atWork (taskOf (taskRow 1 64 4096 5000 []))).poisoned false (64 + 0) 4096 = false ∧
      (atWork (taskOf (taskRow 1 64 4096 5000 []))).inPool false (64 + 0) = false ∧
      (poison 4096 (atWork (taskOf (taskRow 1 64 4096 5000 [])))).runsTask 3 1 (taskOf (taskRow 1 64 4096 5000 [])) ∧
      (poison 4096 (atWork (taskOf (taskRow 1 64 4096 5000 [])))).poisoned false (64 + 0) 4096 = true) ∧
    (atWork (taskOf (taskRow 2 64 4096 5000 []))).runsTask 3 2 (taskOf (taskRow 2 64 4096 5000 [])) ∧
    ((atWork (taskOf (taskRow 3 64 4096 4 [1, 2, 3, 4, 1]))).runsTask 3 3 (taskOf (taskRow 3 64 4096 4 [1, 2, 3, 4, 1])) ∧
      bit (dParam (taskRow 3 64 4096 4 [1, 2, 3, 4, 1]) 4 1) 0 = true ∧ bit (dParam (taskRow 3 64 4096 4 [1, 2, 3, 4]) 4 1) 0 = false ∧
      crc32 [0, 0, 0, 0] ≠ dParam (taskRow 3 64 4096 4 [1, 2, 3, 4, 1]) 0 4) ∧
    ((atWork (taskOf (taskRow 9 0 0 0 (beBytes 8 512 ++ beBytes 4 2)))).runsTask 3 9 (taskOf (taskRow 9 0 0 0 (beBytes 8 512 ++ beBytes 4 2))) ∧
      0 < dParam (taskRow 9 0 0 0 (beBytes 8 512 ++ beBytes 4 2)) 8 4 ∧ planned.poisoned false 512 24 = false ∧
      rangeOk planned.regions planned.dramSize false 64 100 = true ∧ rangeOk planned.regions planned.dramSize true (2 ^ 40) 1 = false) ∧
    ((atWork (taskOf (taskRow 22 64 0 60 []))).runsTask 3 22 (taskOf (taskRow 22 64 0 60 [])) ∧ planned.ipAt (List.replicate 60 0) = none ∧
      planned.ipAt (List.replicate 12 0 ++ [0x08, 0x00, 0x45] ++ List.replicate 45 0) = some 14) ∧
    (((atWork (taskOf [])).engine 4).run = none ∧ planned.ctl.jobs = []) := by
  simp only [runsTask_iff, State.storesOk]; refine ⟨?_, ?_, ?_, ?_, ?_, ?_, ?_⟩ <;> decide +kernel

/-- A SIGNAL or QUEUE_MOVE row to queue `q`. -/
def outRow (ty q : Nat) : Bytes := (taskRow ty 0 0 2 [0, 0, 0, 0, 7, 8]).take 6 ++ beBytes 2 q ++ (taskRow ty 0 0 2 [0, 0, 0, 0, 7, 8]).drop 8
def signalRow (q : Nat) : Bytes := outRow 14 q

theorem test_witness_TaskServices :
    ((atWork (taskOf (taskRow 10 64 0 5000 []))).runsTask 3 10 (taskOf (taskRow 10 64 0 5000 [])) ∧
      (taskOf (taskRow 10 64 0 5000 [])).desc ≠ ownScrub ∧ 0 + 4096 < 5000 ∧ (atWork (taskOf (taskRow 10 64 0 5000 []))).storesOk ∧
      (atWork (taskOf (taskRow 10 64 0 5000 []))).alive = true ∧ planned.inPool false (64 + 0) = false) ∧
    ((atWork (taskOf (taskRow 11 0 0 0 []))).storesOk ∧ (atWork (taskOf (taskRow 11 0 0 0 []))).runsTask 3 11 (taskOf (taskRow 11 0 0 0 []))) ∧
    ((atWork (taskOf (signalRow 0xFFFF))).runsTask 3 14 (taskOf (signalRow 0xFFFF)) ∧ dOut (signalRow 0xFFFF) = 0xFFFF ∧
      (atWork (taskOf (signalRow 7))).runsTask 3 14 (taskOf (signalRow 7)) ∧ (atWork (taskOf (signalRow 7))).ctl.jobs = [] ∧
      2 = min 24 (dLen (signalRow 7)) ∧ dOut (signalRow 7) < 992 ∧ (atWork (taskOf (signalRow 7))).queue? 7 = some {} ∧
      ({} : Queue).full = false ∧ cellsOf 2 ≤ (atWork (taskOf (signalRow 7))).cellsFor {}) ∧
    ((atWork (taskOf (taskRow 21 0 0 0 []))).runsTask 3 21 (taskOf (taskRow 21 0 0 0 [])) ∧ (atWork (taskOf [])).outCount = 0) ∧
    ((atWork (taskOf (taskRow 7 0 0 0 [0, 0, 0, 5]))).runsTask 3 7 (taskOf (taskRow 7 0 0 0 [0, 0, 0, 5])) ∧
      ((List.range 32).filter fun k => decide (0 ≤ k) && bit (dParam (taskRow 7 0 0 0 [0, 0, 0, 5]) 0 4) k) = [0, 2]) := by
  simp only [runsTask_iff, State.storesOk]; refine ⟨?_, ?_, ?_, ?_, ?_⟩ <;> decide +kernel

/-- A packed surface of one pixel, its three components constant: 0x10, 0x20, 0x30 in 8 bits. -/
def packed1 : Bytes :=
  let h := beBytes 4 0x4E58504B ++ [1, 8, 3, 0, 0, 1, 0, 1] ++ beBytes 4 64 ++ beBytes 4 68 ++ beBytes 4 5
  h ++ beBytes 4 (crc32 h) ++ List.replicate 36 0 ++ beBytes 4 0 ++ [0xFF, 0xF1, 0x02, 0x03, 0x00]
def unpackRow : Bytes := taskRow 4 64 4096 73 (beBytes 4 8 ++ beBytes 2 0 ++ beBytes 2 1)
def unpacking : State := (atWork (taskOf unpackRow)).ramWrite false 64 packed1
/-- A QUEUE_MOVE with or without an item in hand. -/
def moveTask (q : Nat) (x : Option Bytes) : Task := { taskOf ((outRow 8 q).take 36 ++ List.replicate 28 0) with hand := x }
/-- A QUEUE_MOVE that takes from queue 6, in which an item waits. -/
def feedRow : Bytes := (moveTask 0xFFFF none).row.take 4 ++ beBytes 2 6 ++ (moveTask 0xFFFF none).row.drop 6
def feeding (x : Task) : State := { atWork x with q := { rx := (List.replicate 8 ({} : Queue)).set 6 { items := [[4, 5]] } } }
def mostRow : Bytes := taskRow 8 0 0 0 (beBytes 4 1)
/-- An E1.31 data packet to universe 7, as an item of the receive queue. -/
def e131Item : Bytes :=
  let u := List.replicate 18 0 ++ beBytes 4 4 ++ beBytes 16 0xABC ++ List.replicate 70 0 ++ [100, 0, 0, 9, 0, 0, 7] ++ List.replicate 11 0 ++ [5]
  List.replicate 38 0 ++ [0x45, 0] ++ beBytes 2 (28 + u.length) ++ List.replicate 16 0 ++ List.replicate 4 0 ++ beBytes 2 (8 + u.length) ++
    [0, 0] ++ u ++ [0, 0, 0, 0]
/-- `atWork` with an sACN input section of universe 7. -/
def merging (x : Task) : State :=
  { atWork x with topo := { active := some { bare with sections := [(0x47, beBytes 2 1 ++ List.replicate 14 0 ++ beBytes 2 7 ++ List.replicate 6 0)] } } }

theorem test_witness_TaskProducts :
    (unpacking.runsTask 3 4 (taskOf unpackRow) ∧ 0 < dParam unpackRow 6 2 ∧ 0 < dLen unpackRow ∧ 0 < dParam unpackRow 0 4 ∧
      unpacking.poisoned false 64 73 = false ∧ (packedRow (unpacking.ramRead false 64 73) (0 + 0)).isSome = true) ∧
    ((atWork (taskOf (taskRow 5 0 0 0 (beBytes 4 0 ++ beBytes 4 3)))).storesOk ∧
      (atWork (taskOf (taskRow 5 0 0 0 (beBytes 4 0 ++ beBytes 4 3)))).runsTask 3 5 (taskOf (taskRow 5 0 0 0 (beBytes 4 0 ++ beBytes 4 3))) ∧
      3 = min 4096 (dParam (taskRow 5 0 0 0 (beBytes 4 0 ++ beBytes 4 3)) 4 4 - 0) ∧ planned.tick.hold = false ∧ planned.ras.noFlip = false) ∧
    ((atWork (taskOf (taskRow 12 64 0 4096 [1]))).runsTask 3 12 (taskOf (taskRow 12 64 0 4096 [1])) ∧ dParam (taskRow 12 64 0 4096 [1]) 0 1 ≤ 0x21 ∧
      dParam (taskRow 12 64 0 448 [0x4F]) 0 1 = 0x40 + 15 ∧ planned.poisoned false 64 4096 = false) ∧
    ((atWork (taskOf (taskRow 13 64 0 4096 [0, 3]))).runsTask 3 13 (taskOf (taskRow 13 64 0 4096 [0, 3]))) ∧
    ((atWork (moveTask 0xFFFF (some [1]))).runsTask 3 8 (moveTask 0xFFFF (some [1])) ∧ (moveTask 0xFFFF (some [1])).hand = some [1] ∧
      dParam (moveTask 0xFFFF none).row 0 4 = 0 ∧ dOut (moveTask 0xFFFF none).row = 0xFFFF ∧ dOut (moveTask 7 none).row < 992 ∧
      (atWork (moveTask 7 (some [1]))).runsTask 3 8 (moveTask 7 (some [1])) ∧ (atWork (moveTask 7 none)).queue? 7 = some {} ∧
      cellsOf 1 ≤ (atWork (moveTask 7 none)).cellsFor {} ∧
      ((feeding (moveTask 0xFFFF none)).popIn (dIn feedRow)).map Prod.fst = some [4, 5] ∧
      (feeding { taskOf feedRow with hand := none }).runsTask 3 8 (taskOf feedRow) ∧ dOut feedRow = 0xFFFF) ∧
    ((atWork { taskOf mostRow with prog := 1 }).runsTask 3 8 { taskOf mostRow with prog := 1 } ∧ 0 < dParam mostRow 0 4 ∧ dParam mostRow 0 4 ≤ 1) ∧
    ((merging { taskOf (taskRow 6 0 0 0 []) with hand := some e131Item }).storesOk ∧
      (merging { taskOf (taskRow 6 0 0 0 []) with hand := some e131Item }).runsTask 3 6 { taskOf (taskRow 6 0 0 0 []) with hand := some e131Item } ∧
      field (udpPayload (itemIp e131Item)) 18 4 = 4 ∧ (merging (taskOf [])).uniIndex (field (udpPayload (itemIp e131Item)) 113 2) = some 0 ∧
      (atWork (taskOf [])).uniIndex (field (udpPayload (itemIp e131Item)) 113 2) = none) := by
  simp only [runsTask_iff, State.storesOk]; refine ⟨?_, ?_, ?_, ?_, ?_, ?_, ?_⟩ <;> decide +kernel

/-- An IPv4 packet, a UDP datagram, and an item of a receive queue that carries an inner packet of type `ty` behind the tag. -/
def ip4 (proto dst : Nat) (pay : Bytes) : Bytes :=
  [0x45, 0] ++ beBytes 2 (20 + pay.length) ++ List.replicate 5 0 ++ beBytes 1 proto ++ [0, 0] ++ beBytes 4 0x0A000009 ++ beBytes 4 dst ++ pay
def udp4 (dst port : Nat) (pay : Bytes) : Bytes := ip4 17 dst ([0, 1] ++ beBytes 2 port ++ beBytes 2 (8 + pay.length) ++ [0, 0] ++ pay)
def tagged (ty : Nat) (b : Bytes) : Bytes := List.replicate 36 0 ++ beBytes 2 ty ++ b ++ [0, 0, 0, 0]
/-- A unit with an item in receive queue `n` and a topo of one section. -/
def received (n : Nat) (sec : Nat × Bytes) (x : Bytes) : State :=
  { up .staging with
    topo := { active := some { bare with sections := [sec] } }
    q := { rx := (List.replicate 8 ({} : Queue)).set n { items := [x] } } }
/-- A section 0x24 of one video and one audio stream, both of 10.0.0.1 port 5004, payload types 96 and 97. -/
def streams1 : Nat × Bytes :=
  (0x24, [1, 1, 0, 0, 0, 0, 0, 0] ++ ([1, 0, 0, 0] ++ beBytes 2 64 ++ beBytes 2 64 ++ List.replicate 8 0 ++ beBytes 4 0x0A000001 ++ beBytes 4 0 ++ beBytes 2 5004 ++
    [96] ++ List.replicate 13 0 ++ [7] ++ List.replicate 23 0) ++
    ([2, 1, 0, 97] ++ beBytes 4 0x0A000002 ++ beBytes 4 0 ++ beBytes 2 5004 ++ List.replicate 6 0 ++ [7] ++ List.replicate 43 0))
def rtp (pt sq ts : Nat) (b : Bytes) : Bytes := [0x80] ++ beBytes 1 pt ++ beBytes 2 sq ++ beBytes 4 ts ++ [0, 0, 0, 0] ++ b
def videoItem : Bytes := tagged 0x0800 (udp4 0x0A000001 5004 (rtp 96 9 777 [0, 3, 0, 3, 0, 1, 0, 0, 1, 2, 3]))
def audioItem : Bytes := tagged 0x0800 (udp4 0x0A000002 5004 (rtp 97 9 777 [0, 0, 1, 0xFF, 0xFF, 0xFE]))
def frameRx : RxVideo := { ts := 777, buf := 1, next := 3 * 65536 + 9, bad := false }
def videoUnit (x : Bytes) : State :=
  { received 2 streams1 x with comp := { streams := (List.replicate 4 ({} : StreamSt)).set 1 { rx := some frameRx } } }
/-- A section of one receive window (number 4, from position 3, 100 bytes), and a pixel fragment of it for tick 0. -/
def pixels1 : Nat × Bytes :=
  (0x49, beBytes 2 0 ++ [1] ++ List.replicate 13 0 ++ ([4, 3] ++ List.replicate 6 0 ++ beBytes 4 100 ++ beBytes 2 1 ++ [0, 0]))
def pixelItem (w : Nat) : Bytes :=
  let b := [1, 0] ++ beBytes 1 w ++ [0] ++ beBytes 8 0 ++ beBytes 4 0 ++ beBytes 2 8 ++ beBytes 2 0 ++ beBytes 2 1 ++ List.replicate 18 0
  List.replicate 16 0 ++ List.replicate 15 0 ++ [3] ++ List.replicate 6 0 ++ b ++ List.replicate (66 - 22 - b.length) 0
def echoItem : Bytes := tagged 0x0800 (ip4 1 ((up .staging).ipAddr) ([8, 0, 0, 0, 0, 5, 0, 6] ++ List.replicate 10 7))

theorem test_witness_PacketItems_a :
    ((videoUnit videoItem).packetFree 12 ∧ (videoUnit videoItem).ctl.jobs = [] ∧ (videoUnit videoItem).pop 3 = none) ∧
    (((videoUnit videoItem).pop 2).map (fun r => (r.1, r.2.videoEntry 1 == none, (r.2.stream 1).rx, r.2.comp.streams.length)) =
        some (videoItem, false, some frameRx, 4) ∧ videoStream streams1.2 (field videoItem 0 1) (itemIp videoItem) = some 1 ∧
      field (udpPayload (itemIp videoItem)) 1 1 % 128 = 96 ∧ field (udpPayload (itemIp videoItem)) 4 4 = 777 ∧
      field (rtpPayload (udpPayload (itemIp videoItem))) 0 2 * 65536 + field (udpPayload (itemIp videoItem)) 2 2 = frameRx.next) ∧
    videoStream streams1.2 (field audioItem 0 1) (itemIp audioItem) = none ∧
    (((received 3 streams1 audioItem).pop 3).map (fun r => (r.1, r.2.audioEntry 2 == none)) = some (audioItem, false) ∧
      audioStream streams1.2 (field audioItem 0 1) (itemIp audioItem) = some 2 ∧ field (udpPayload (itemIp audioItem)) 1 1 % 128 = 97 ∧
      audioSamples 1 2 (rtpPayload (udpPayload (itemIp audioItem))) = [[1], [-2]]) := by
  simp only [State.packetFree]; refine ⟨?_, ?_, ?_, ?_⟩ <;> decide +kernel

theorem test_witness_PacketItems_b :
    (((received 4 streams1 e131Item).pop 4).map (fun r => (r.1 == e131Item, r.2.sacnRuns, r.2.ctl.jobs.length)) = some (true, true, 0) ∧
      ((received 4 streams1 videoItem).pop 4).map (fun r => r.2.sacnRuns) = some true ∧ field (udpPayload (itemIp videoItem)) 0 16 ≠ acnHead ∧
      (({ received 4 streams1 videoItem with topo := {} } : State).pop 4).map (fun r => r.2.sacnRuns) = some false) ∧
    (((received 6 pixels1 (pixelItem 5)).pop 6).map (fun r => (r.1, r.2.pxWindow (field ((bodyOf ((pixelItem 5).drop 16)).drop 22) 2 1))) =
      some (pixelItem 5, none) ∧ (received 6 pixels1 (pixelItem 5)).storesOk ∧ (received 6 pixels1 (pixelItem 5)).topo.active.isSome = true) ∧
    (((received 6 pixels1 (pixelItem 4)).pop 6).map (fun r => r.2.pxWindow (field ((bodyOf ((pixelItem 4).drop 16)).drop 22) 2 1)) =
        some (some ((received 6 pixels1 (pixelItem 4)).pxRxEntry 0)) ∧
      pxFits ((received 6 pixels1 (pixelItem 4)).pxRxEntry 0) ((bodyOf ((pixelItem 4).drop 16)).drop 22) ((pixelItem 4).drop 16).length
        (tagOf ((pixelItem 4).drop 16)).src (tagOf ((pixelItem 4).drop 16)).nopos = true ∧
      field ((bodyOf ((pixelItem 4).drop 16)).drop 22) 4 8 = 0) ∧
    (((received 1 pixels1 videoItem).pop 1).isSome = true ∧ (received 1 pixels1 videoItem).packetFree 12) ∧
    (((received 5 pixels1 videoItem).pop 5).isSome = true ∧ ropeCtrlOk ((bodyOf (videoItem.drop 16)).drop 22) = false ∧
      ropeCtrlOk ([1, 1] ++ List.replicate 36 0) = true) ∧
    (((received 7 pixels1 (tagged 0x88B5 [])).pop 7).isSome = true ∧ field (bodyOf ((tagged 0x88B5 []).drop 16)) 20 2 = 0x88B5) ∧
    (((received 7 pixels1 echoItem).pop 7).map (fun r => r.2.ipAddr) = some (up .staging).ipAddr ∧ field echoItem 0 1 ≠ 2 ∧
      field (bodyOf (echoItem.drop 16)) 20 2 = 0x0800 ∧ ipProto ((bodyOf (echoItem.drop 16)).drop 22) = 1 ∧
      field ((bodyOf (echoItem.drop 16)).drop 22) 16 4 = (up .staging).ipAddr) := by
  simp only [State.packetFree, State.storesOk]; refine ⟨?_, ?_, ?_, ?_, ?_, ?_, ?_⟩ <;> decide +kernel

/-- A unit at its boundary with calibration sequences accepted, a current scan in force; with a run under way; and with two records. -/
def calRec1 (g : Nat) : CalRec :=
  { gen := g, parts := 1, refs := [(0, 0), (0, 0), (0, 0)], trims := [], ntcOff := [0, 0, 0, 0, 0, 0, 0, 0], rBias := 5, tslat := [0, 0, 0, 0, 0, 0] }
def calWanted (v : Nat) : State :=
  { ((up .staging).setReg Reg.driveMode 1).setReg Reg.calPorts 2 with
    tick := { ({} : TickSt) with time := 1000 }, cal := { ({} : CalSt) with want := v }
    topo := { active := some { bare with sections := [(0x50, [1, 2, 3])] } } }
def calRunning (v : Nat) : State := { calWanted 0 with cal := { ({} : CalSt) with run := some v, out := some 1 } }
def measured (v : Nat) : CalMeas := { pass1 := [(1, 2, 3, true)], pass2 := [(1, 2, 3)], vled := v, rBias := 1, ntc := [], die := 3, beyond := [] }
def recordsAt : State := { up .staging with cairn := { (up .staging).cairn with calWrite := some (calRec1 3) } }

theorem test_witness_CalibrationRuns :
    ((calWanted 2).atBoundary = true ∧ (calWanted 2).cal.want = 2) ∧
    ((calWanted 1).storesOk ∧ (calWanted 1).scanSec ≠ [] ∧ (calWanted 1).reg Reg.driveMode ≠ 0 ∧ (calWanted 1).draughtOn = false ∧
      ({ calWanted 1 with topo := {} } : State).scanSec = [] ∧ bit 1 0 = true) ∧
    ((calWanted 4).reg Reg.calPorts = 2 ^ 1 ∧ ((calWanted 4).setReg Reg.calPorts 0).reg Reg.calPorts % 8 = 0 ∧
      ((calWanted 4).setReg Reg.calPorts 0).storesOk) ∧
    ((calRunning 1).storesOk ∧ (calRunning 1).draughtOn = false ∧ (measured 2000).vled < 2500 ∧ (calRunning 1).alive = true ∧ 2500 ≤ (measured 3000).vled) ∧
    ((calRunning 4).cal.out = some 1 ∧ ((calRunning 4).setReg (Reg.portLinkState 1) 3).reg (Reg.portLinkState 1) = 3 ∧
      ((calRunning 4).setReg (Reg.portEnable 1) 0).portHeld 1 = true ∧ (calRunning 4).portHeld 1 = false ∧ bit 4 0 = false) := by
  simp only [State.storesOk]; refine ⟨?_, ?_, ?_, ?_, ?_⟩ <;> decide +kernel
theorem test_witness_CalibrationRuns_none :
    recordsAt.cairn.calWrite = some (calRec1 3) ∧ recordsAt.calRec 0 = none ∧ recordsAt.calRec 1 = none := by decide +kernel

theorem crcBit_bound {c : Nat} (h : c < 2 ^ 32) : crcBit c < 2 ^ 32 := by
  unfold crcBit; split
  · exact Nat.xor_lt_two_pow (by omega) (by decide)
  · omega
theorem crc32_bound (b : Bytes) : crc32 b < 2 ^ 32 := by
  have step : ∀ (b : Bytes) (c : Nat), c < 2 ^ 32 → b.foldl crcByte c < 2 ^ 32 := by
    intro b
    induction b with
    | nil => exact fun _ h => h
    | cons x b ih =>
      intro c h
      have hx : x.toNat < 2 ^ 32 := by omega
      refine ih _ ?_
      unfold crcByte
      repeat' apply crcBit_bound
      exact Nat.xor_lt_two_pow h hx
  exact Nat.xor_lt_two_pow (step b _ (by decide)) (by decide)
theorem field_of_four {v : Nat} (h : v < 2 ^ 32) : field (beBytes 4 v) 0 4 = v := by
  simp [field, slice, beBytes, beNat, BitVec.toNat_ofNat]; omega
/-- A page of the cairn: a record of generation `g` whose other fields are 0. -/
def pageBody (g : Nat) : Bytes := beBytes 4 calMagic ++ beBytes 4 g ++ List.replicate 4084 0
def page (g : Nat) : Bytes := pageBody g ++ beBytes 4 (crc32 (pageBody g))
theorem pageBody_length (g : Nat) : (pageBody g).length = 4092 := by simp [pageBody, beBytes, -List.reduceReplicate]
theorem page_length (g : Nat) : (page g).length = 4096 := by simp [page, pageBody_length, beBytes]
theorem page_gen {g : Nat} (h : g < 2 ^ 32) : ∃ r, calRecOf (page g) = some r ∧ r.gen = g := by
  have hm : field (page g) 0 4 = calMagic := by
    simp [page, pageBody, field, slice, beBytes, beNat, calMagic, -List.reduceReplicate]
  have hc : field (page g) 4092 4 = crc32 ((page g).take 4092) := by
    have h1 : (page g).take 4092 = pageBody g := by simp [page, pageBody_length]
    have h2 : field (page g) 4092 4 = field (beBytes 4 (crc32 (pageBody g))) 0 4 := by
      simp [field, slice, page, pageBody_length]
    rw [h1, h2, field_of_four (crc32_bound _)]
  have hg : field (page g) 4 4 = g := by
    have : field (page g) 4 4 = field (beBytes 4 g) 0 4 := by
      simp [page, pageBody, field, slice, beBytes, beNat, -List.reduceReplicate]
    rw [this, field_of_four h]
  exact ⟨_, by rw [calRecOf, if_neg (by simp [hm]), if_neg (by simp [hc])], hg⟩
/-- Bytes as cells from address `a` on. -/
def cells (a : Nat) : Bytes → List (Nat × Byte)
  | [] => []
  | x :: r => (a, x) :: cells (a + 1) r
theorem walk_cells (d : Nat → Byte) (b : Bytes) (m : List (Nat × Byte)) (a : Nat) : storeWalk d b.length (cells a b ++ m) a = b := by
  induction b generalizing a with
  | nil => simp [storeWalk]
  | cons x r ih => simp [cells, storeWalk, ih]
theorem drop_cells {a b : Nat} (p : Bytes) (m : List (Nat × Byte)) (h : a + p.length ≤ b) :
    (cells a p ++ m).dropWhile (fun q => decide (q.1 < b)) = m.dropWhile (fun q => decide (q.1 < b)) := by
  induction p generalizing a with
  | nil => rfl
  | cons x r ih => simp at h; simp [cells, show a < b by omega, ih (a := a + 1) (by omega)]
theorem keep_cells {a : Nat} (p : Bytes) (m : List (Nat × Byte)) (h : p ≠ []) :
    (cells a p ++ m).dropWhile (fun q => decide (q.1 < a)) = cells a p ++ m := by
  cases p with
  | nil => exact absurd rfl h
  | cons x r => simp [cells]
/-- Two records. -/
def recorded : State :=
  let s := up .staging
  { s with flash := cells (s.calPageAt 0) (page 7) ++ (cells (s.calPageAt 1) (page 8) ++ []), cairn := { s.cairn with calWrite := some (calRec1 3) } }
theorem recorded_flash : recorded.flash = cells ((up .staging).calPageAt 0) (page 7) ++ (cells ((up .staging).calPageAt 1) (page 8) ++ []) := rfl
theorem recorded_page (i : Nat) : recorded.calPageAt i = (up .staging).calPageAt i := rfl
theorem page_ne (g : Nat) : page g ≠ [] := fun h => by simpa [h] using page_length g
theorem test_witness_CalibrationRuns_records : recorded.cairn.calWrite = some (calRec1 3) ∧
    ∃ a b, recorded.calRec 0 = some a ∧ recorded.calRec 1 = some b ∧ a.gen < b.gen := by
  obtain ⟨a, ha, hg⟩ := page_gen (g := 7) (by decide)
  obtain ⟨b, hb, hh⟩ := page_gen (g := 8) (by decide)
  refine ⟨rfl, a, b, ?_, ?_, by omega⟩
  · have h : recorded.flashBytes (recorded.calPageAt 0) 4096 = page 7 := by
      rw [State.flashBytes, recorded_flash, recorded_page, storeRun, keep_cells _ _ (page_ne 7), ← page_length 7, walk_cells]
    rw [State.calRec, h, ha]
  · have h : recorded.flashBytes (recorded.calPageAt 1) 4096 = page 8 := by
      rw [State.flashBytes, recorded_flash, recorded_page, storeRun, drop_cells _ _ (by simp [page_length, State.calPageAt]),
        keep_cells _ _ (page_ne 8), ← page_length 8, walk_cells]
    rw [State.calRec, h, hb]

/-! ### Effects, against the worked examples of the spec -/

/-- spec/00_scope.md, R17. -/
theorem test_clamp : [5013, 1010, 1020].map (nearestLegal 0 5000 20) = [5000, 1000, 1020] := by decide +kernel
/-- spec/02_tick_modes_startup.md, R41 and R42. -/
theorem test_boundary : leastBoundary 60000 1001 1700000000000000000 = 101898101899 ∧
    boundary 60000 1001 101898101899 = 1700000000014983333 ∧ boundary 60000 1001 101898101898 = 1699999999998300000 := by decide +kernel
/-- spec/04_layer_composition.md, the residual codes of the packed format. -/
theorem test_packed_codes :
    (packPixels 8 4 [0, 1, 2, 3] [(1, 0, [])] ([0, 0, 0, 0, 0, 0, 0, 1, 1, 0, 0, 1, 0, 1, 1, 1, 0].map fun n : Nat => n == 1)).map
      (fun r => (r.1.map fun c => c.2.2, r.2)) = some ([[120, 122, 121, 121]], []) := by decide +kernel
/-- spec/04_layer_composition.md, R122. -/
theorem test_scaler : scaleStep 1920 3840 = 32768 ∧
    ([0, 1, 2].map fun j => (scalePos 1920 3840 j, scaleBase (scalePos 1920 3840 j), scalePhase (scalePos 1920 3840 j))) =
      [(-16384, -1, 12), (16384, 0, 4), (49152, 0, 12)] := by decide +kernel
/-- spec/04_layer_composition.md, R124 to R127: degamma, alpha, blending over black, encoding. -/
theorem test_blend : codeNarrow 10 502 = 32768 ∧ linearise (fun i => if i = 511 then 197910 else 198690) 32768 = 198300 ∧
    alphaPix (alphaEff 49152 0 65536) 65535 = 49153 ∧ blend 0 49153 49153 198300 0 = 148728 ∧ encode16 false (fun _ => 0) 148728 = 9296 := by
  decide +kernel
/-- spec/06_mapping_and_egress.md, R178 to R180: the chain of one channel. -/
theorem test_chain : matrixRow 3900 150 46 { r := 40000, g := 20000, b := 10000, a := 65535 } = 38931 ∧ gain15 38931 31130 = 36985 ∧
    gain15 36985 33423 = 37724 ∧ 37724 * unit16 49152 / 65536 = 28293 ∧ outLut (fun i => if i = 1768 then 20100 else 20118) 28293 = 20106 ∧
    ditherAt 1000 0 7 = 34740 ∧ reduceBits 8 20106 34740 = 19968 := by decide +kernel
/-- spec/08_calibration.md, R255: sink 37. -/
theorem test_trim : trimOf 10000 10180000000 637500000 = some (32193, -1310) ∧ sinkResidual 10000 10003000000 624000000 = -16 := by decide +kernel
/-- spec/12_control_and_sessions.md, the requests of the worked example: READ of WHICH, and a WRITE of BG_R that is clamped. -/
theorem test_requests :
    ((served .staging).opRead (.session 7) .operator 0x1000 2 3).1 = .done 0 3 [0x96, 0] ∧
    ((served .staging).opWrite (.session 7) .operator 0x4000 1 4 (beBytes 4 2000000)).1 = 1 ∧
    bit (((served .staging).opWrite (.session 7) .operator 0x4000 1 4 (beBytes 4 2000000)).2.reg Reg.pending) 44 = true := by decide +kernel
/-- What SIGNAL and UNPACK leave: the parameter bytes as an item, the pixel's codes in memory. -/
theorem test_task_effects :
    ((after (.signal 3) (atWork (taskOf (signalRow 7)))).queue? 7).map Queue.items = some [[7, 8]] ∧
    (after (.unpack 3 0) unpacking).ramRead false 4096 8 = [0x10, 0x10, 0x20, 0x20, 0x30, 0x30, 0xFF, 0xFF] := by decide +kernel
/-- FIPS 180-4: SHA-256 of "abc". -/
theorem test_sha256 : sha256 [0x61, 0x62, 0x63] = beBytes 32 0xba7816bf8f01cfea414140de5dae2223b00361a396177a9cb410ff61f20015ad := by decide +kernel

end Sys2Proof.Tests
end

/-! PROOFS. The nearest legal value (R17). -/

namespace Sys2Proof.Machine

/-! ### The nearest legal value (R17) -/

/-- The greatest legal value at or below `v`, counted from `lo` in steps of `step`. -/
def stepBelow (lo : Int) (step : Nat) (v : Int) : Int := lo + (v - lo) / step * step

section
variable {lo hi v w : Int} {step : Nat}

theorem stepBelow_le (hs : 0 < step) : stepBelow lo step v ≤ v := by
  have h := Int.ediv_mul_le (v - lo) (b := (step : Int)) (by omega)
  unfold stepBelow; omega

theorem lt_stepBelow_add (hs : 0 < step) : v < stepBelow lo step v + step := by
  have h := Int.lt_ediv_add_one_mul_self (v - lo) (b := (step : Int)) (by omega)
  rw [add_mul, one_mul] at h
  unfold stepBelow; omega

/-- A value on a step lies at or below `stepBelow`, or a whole step above it: nothing legal lies between. -/
theorem le_stepBelow_or_add_le (hw : (w - lo) % (step : Int) = 0) :
    w ≤ stepBelow lo step v ∨ stepBelow lo step v + step ≤ w := by
  have onStep : w - lo = (w - lo) / step * step := (Int.ediv_mul_cancel (Int.dvd_of_emod_eq_zero hw)).symm
  rcases lt_or_ge ((v - lo) / step) ((w - lo) / step) with h | h
  · have := mul_le_mul_of_nonneg_right (Int.add_one_le_of_lt h) (Int.natCast_nonneg step)
    rw [add_mul, one_mul] at this
    unfold stepBelow; omega
  · have := mul_le_mul_of_nonneg_right h (Int.natCast_nonneg step)
    unfold stepBelow; omega

theorem stepBelow_onStep : (stepBelow lo step v - lo) % (step : Int) = 0 := by
  unfold stepBelow; rw [add_sub_cancel_left, Int.mul_emod_left]

theorem stepBelow_add_onStep : (stepBelow lo step v + step - lo) % (step : Int) = 0 := by
  rw [show stepBelow lo step v + step - lo = stepBelow lo step v - lo + step by ring, Int.add_emod_right, stepBelow_onStep]

theorem le_stepBelow (h : lo ≤ v) : lo ≤ stepBelow lo step v := by
  have := mul_nonneg (Int.ediv_nonneg (by omega : 0 ≤ v - lo) (Int.natCast_nonneg step)) (Int.natCast_nonneg step)
  unfold stepBelow; omega

/-- Within the limits the nearest legal value is a neighbour of `v` on the steps, of two equally near the one nearer zero. -/
theorem nearestLegal_eq (hs : 0 < step) (hlo : lo ≤ v) (hhi : v ≤ hi) : nearestLegal lo hi step v =
    if stepBelow lo step v = v ∨ hi < stepBelow lo step v + step then stepBelow lo step v
    else if v - stepBelow lo step v < stepBelow lo step v + step - v then stepBelow lo step v
    else if stepBelow lo step v + step - v < v - stepBelow lo step v then stepBelow lo step v + step
    else if (stepBelow lo step v).natAbs ≤ (stepBelow lo step v + step).natAbs then stepBelow lo step v
    else stepBelow lo step v + step := by
  unfold nearestLegal stepBelow
  rw [if_neg (by omega), if_neg (by omega), Nat.max_eq_right hs]

/-- R17 within the limits: legal, no legal value nearer, and none as near nearer zero. -/
theorem nearestLegal_within (hs : 0 < step) (hlo : lo ≤ v) (hhi : v ≤ hi) (htop : (hi - lo) % (step : Int) = 0) (hw : w ≤ hi)
    (hwstep : (w - lo) % (step : Int) = 0) :
    lo ≤ nearestLegal lo hi step v ∧ nearestLegal lo hi step v ≤ hi ∧ (nearestLegal lo hi step v - lo) % (step : Int) = 0 ∧
    (v - nearestLegal lo hi step v).natAbs ≤ (v - w).natAbs ∧
    ((v - nearestLegal lo hi step v).natAbs = (v - w).natAbs → (nearestLegal lo hi step v).natAbs ≤ w.natAbs) := by
  have hbelow := stepBelow_le (lo := lo) (v := v) hs
  have habove := lt_stepBelow_add (lo := lo) (v := v) hs
  have hmin := le_stepBelow (step := step) hlo
  have honStep := stepBelow_onStep (lo := lo) (v := v) (step := step)
  have honStep' := stepBelow_add_onStep (lo := lo) (v := v) (step := step)
  have hgap := le_stepBelow_or_add_le (v := v) hwstep
  have hgapTop := le_stepBelow_or_add_le (v := v) htop
  rw [nearestLegal_eq hs hlo hhi]
  generalize stepBelow lo step v = d at *
  split_ifs
  · exact ⟨hmin, by omega, honStep, by omega, by omega⟩
  · exact ⟨hmin, by omega, honStep, by omega, by omega⟩
  · exact ⟨by omega, by omega, honStep', by omega, by omega⟩
  · exact ⟨hmin, by omega, honStep, by omega, by omega⟩
  · exact ⟨by omega, by omega, honStep', by omega, by omega⟩

end

/-- Settles O9: out of the limits the value is the limit, within them `nearestLegal_within`. -/
theorem clampTakesNearest : Obligations.ClampTakesNearest := by
  refine ⟨fun lo hi v w step hle hs htop hwlo hwhi hwstep => ?_, by decide, by decide, by decide⟩
  by_cases hlow : v < lo
  · have h : nearestLegal lo hi step v = lo := if_pos hlow
    rw [h]
    exact ⟨le_rfl, hle, by simp, by omega, by omega⟩
  by_cases hhigh : hi < v
  · have h : nearestLegal lo hi step v = hi := (if_neg hlow).trans (if_pos hhigh)
    rw [h]
    exact ⟨hle, le_rfl, htop, by omega, by omega⟩
  · exact nearestLegal_within hs (by omega) (by omega) htop hwhi hwstep

end Sys2Proof.Machine

/-! PROOFS. The dictionary's rows and the checks of an access in their order (R16). -/

namespace Sys2Proof.Machine

/-! ### The table of objects -/

theorem key_div {ix sub : Nat} (h : sub < 256) : Reg.key ix sub / 256 = ix := by unfold Reg.key; omega
theorem key_mod {ix sub : Nat} (h : sub < 256) : Reg.key ix sub % 256 = sub := by unfold Reg.key; omega

theorem odChapter_nil {d : Nat} (h : 10 ≤ d) : odChapter d = [] := by
  match d, h with
  | _ + 10, _ => rfl

/-- Every row's subindices fit in a byte. -/
theorem odChapter_sub : ∀ d < 10, (odChapter d).all (fun x => decide (x.sub + x.subN ≤ 256)) = true := by decide +kernel

variable {ix sub : Nat} {x : Obj}

/-- The dictionary's objects have indices below 0xA000. -/
theorem odFind_ix_lt (h : odFind ix sub = some x) : ix < 0xA000 := by
  by_contra hix
  rw [odFind, odChapter_nil (by omega)] at h
  cases h

/-- The row found holds the subindex and the object. -/
theorem odFind_holds (h : odFind ix sub = some x) : x.hasSub sub = true ∧ x.hasIndex ix = true := by
  unfold odFind at h
  have hp := List.find?_some h
  exact Bool.and_eq_true_iff.mp hp

theorem odFind_sub_lt (h : odFind ix sub = some x) : sub < 256 := by
  have hd : ix / 4096 < 10 := by have := odFind_ix_lt h; omega
  have hrow := List.all_eq_true.mp (odChapter_sub _ hd) x (List.mem_of_find?_eq_some h)
  have hsub := (odFind_holds h).1
  simp only [Obj.hasSub, Bool.and_eq_true, decide_eq_true_eq] at hrow hsub
  omega

/-- Where a subindex has a row its object exists. -/
theorem odHasObject_of_odFind (h : odFind ix sub = some x) : odHasObject ix = true :=
  List.any_eq_true.mpr ⟨x, List.mem_of_find?_eq_some h, (odFind_holds h).2⟩

/-! ### Checks 1 to 4 of R16 -/

section
variable {s : State} {r need : Role} {own : Bool} {acc : Acc → Bool}

theorem checkTarget_noObject (h : 0xF000 ≤ ix ∧ r ≠ .service ∨ odHasObject ix = false) :
    s.checkTarget r need ix sub own acc = (0x0101, none) := by
  unfold State.checkTarget
  exact if_pos (by simpa using h)

/-- Check 1 of R16 is passed. -/
theorem checkTarget_passes_one (h1 : ix < 0xF000 ∨ r = .service) (h2 : odHasObject ix = true) :
    ((decide (0xF000 ≤ ix) && r != .service) || !odHasObject ix) = false := by
  rcases h1 with h1 | rfl
  · simp [h2, Nat.not_le.mpr h1]
  · simp [h2]

theorem checkTarget_noSub (h1 : ix < 0xF000 ∨ r = .service) (h2 : odHasObject ix = true) (hx : odFind ix sub = none) :
    s.checkTarget r need ix sub own acc = (0x0102, none) := by
  unfold State.checkTarget
  rw [checkTarget_passes_one h1 h2, hx]
  rfl

/-- Where the subindex exists its row decides. -/
theorem checkTarget_row (h1 : ix < 0xF000 ∨ r = .service) (h2 : odHasObject ix = true) (hx : odFind ix sub = some x) :
    s.checkTarget r need ix sub own acc =
      if r.rank < (if own then x.role else need).rank then (0x0201, none)
      else if !acc x.acc then (0x0202, none)
      else if s.alive && !s.domOn (odDomain ix) then (0x0601, none)
      else (0, some x) := by
  unfold State.checkTarget
  rw [checkTarget_passes_one h1 h2, hx]
  rfl

/-- A target that passes every check. -/
theorem checkTarget_ok (h1 : ix < 0xF000 ∨ r = .service) (hx : odFind ix sub = some x)
    (hrole : (if own then x.role else need).rank ≤ r.rank) (hacc : acc x.acc = true) (hdom : s.domOn (odDomain ix) = true) :
    s.checkTarget r need ix sub own acc = (0, some x) := by
  rw [checkTarget_row h1 (odHasObject_of_odFind hx) hx, if_neg (by omega), if_neg (by simp [hacc]), if_neg (by simp [hdom])]

/-- The row a check gives is the subindex's row. -/
theorem odFind_of_checkTarget {c : Nat} (h : s.checkTarget r need ix sub own acc = (c, some x)) : odFind ix sub = some x := by
  unfold State.checkTarget at h
  split at h
  · cases h
  · cases hx : odFind ix sub with
    | none => rw [hx] at h; cases h
    | some y =>
      rw [hx] at h
      simp only [] at h
      split_ifs at h <;> simp_all

end

/-- Settles O19: `checkTarget_noObject`, `checkTarget_noSub` and, where the subindex exists, the branches of `checkTarget_row`. -/
theorem checksInOrder : Obligations.ChecksInOrder := by
  intro s r need ix sub own acc
  refine ⟨checkTarget_noObject, checkTarget_noSub, fun x h1 h2 hx => ?_⟩
  rw [checkTarget_row h1 h2 hx]
  refine ⟨fun hr => if_pos hr, fun hr ha => ?_, fun hr ha => ?_⟩
  · rw [if_neg (Nat.not_lt.mpr hr), ha]; rfl
  · rw [if_neg (Nat.not_lt.mpr hr), ha]; rfl

end Sys2Proof.Machine

/-! SUPPORT. Events and reject records: what a raise counts, what it leaves, and that no bit of PENDING is lost (R361, R443, R444). -/

namespace Sys2Proof.Machine

/-! ### Bits -/

theorem bit_eq_testBit (v b : Nat) : bit v b = v.testBit b := by
  rw [bit, Nat.testBit_eq_decide_div_mod_eq]
  rfl

theorem bit_setBit (v e b : Nat) : bit (setBit v e) b = (bit v b || decide (e = b)) := by
  rw [bit_eq_testBit, bit_eq_testBit, setBit, Nat.testBit_or, Nat.testBit_two_pow]

/-! ### What a raise does to the counts and to PENDING (R443) -/

section
variable {s t u : State} {ev : Nat} {p : Bytes}

theorem reg_markEv_count (h : s.storesOk) (ev n : Nat) :
    (s.markEv ev n).reg (Reg.evCount ev) = min (s.reg (Reg.evCount ev) + n) (two32 - 1) :=
  (reg_setReg_ne (storesOk_setReg h _ _) _ (by unfold Reg.evCount Reg.pending; omega)).trans (reg_addReg h _ _)

theorem reg_markEv_pending (h : s.storesOk) (ev n : Nat) : (s.markEv ev n).reg Reg.pending = setBit (s.reg Reg.pending) ev :=
  (reg_setReg (storesOk_setReg h _ _) _ _).trans
    (congrArg (setBit · ev) (reg_setReg_ne h _ (by unfold Reg.evCount Reg.pending; omega)))

theorem reg_pushEv (h : s.storesOk) (r : EvRec) {k : Nat} (hk : k ≠ Reg.evqLost) : (s.pushEv r).reg k = s.reg k :=
  pushEv_kept h r k (by simpa using hk)

/-- The record of an event changes neither count nor PENDING. -/
theorem reg_noteEv (h : s.storesOk) (ev : Nat) (p : Bytes) {k : Nat} (hk : k ≠ Reg.evqLost) :
    (s.noteEv ev p).reg k = (s.markEv ev 1).reg k := by
  unfold State.noteEv
  extract_lets t
  split
  · exact reg_pushEv (storesOk_markEv h _ _) _ hk
  · rfl

theorem counted_noteEv (h : s.storesOk) (ev : Nat) (p : Bytes) : Counted ev s (s.noteEv ev p) := by
  constructor
  · rw [reg_noteEv h _ _ (by unfold Reg.evCount Reg.evqLost; omega), reg_markEv_count h]
  · rw [reg_noteEv h _ _ (by decide), reg_markEv_pending h, bit_setBit]
    simp

/-- A raise clears no bit of PENDING. -/
theorem pending_noteEv (h : s.storesOk) (ev : Nat) (p : Bytes) {b : Nat} (hb : bit (s.reg Reg.pending) b = true) :
    bit ((s.noteEv ev p).reg Reg.pending) b = true := by
  rw [reg_noteEv h _ _ (by decide), reg_markEv_pending h, bit_setBit, hb]
  rfl

theorem reg_minPool (h : s.storesOk) {k : Nat} (hk : k ≠ Reg.poolMin) : s.minPool.reg k = s.reg k :=
  minReg_kept h _ _ k (by simpa using hk)

theorem pending_poolEvent (h : s.storesOk) {b : Nat} (hb : bit (s.reg Reg.pending) b = true) :
    bit (s.poolEvent.reg Reg.pending) b = true := by
  have armed : ({ s with q := { s.q with lowArmed := false } } : State).storesOk := h
  unfold State.poolEvent
  rw [reg_minPool (storesOk_noteEv armed _ _) (by decide)]
  exact pending_noteEv armed _ _ hb

/-- Looking at the pool clears no bit of PENDING. -/
theorem pending_poolCheck (h : s.storesOk) {b : Nat} (hb : bit (s.reg Reg.pending) b = true) :
    bit (s.poolCheck.reg Reg.pending) b = true := by
  have hmin : bit (s.minPool.reg Reg.pending) b = true := by rw [reg_minPool h (by decide)]; exact hb
  unfold State.poolCheck
  dsimp only
  split_ifs
  · exact hmin
  · exact pending_poolEvent (storesOk_minPool h) hmin
  · exact hmin
  · exact hmin

/-- Looking at the pool keeps every count but that of EV34. -/
theorem evCount_poolCheck (h : s.storesOk) (he : ev ≠ 34) : s.poolCheck.reg (Reg.evCount ev) = s.reg (Reg.evCount ev) := by
  refine poolCheck_kept h _ ?_
  simp only [evKeys, Reg.evCount, Reg.pending, Reg.evqLost, Reg.poolMin, List.mem_cons, List.not_mem_nil, or_false]
  omega

theorem Counted.poolCheck (h : Counted ev s t) (ok : t.storesOk) (he : ev ≠ 34) : Counted ev s t.poolCheck :=
  ⟨(evCount_poolCheck ok he).trans h.1, pending_poolCheck ok h.2⟩

/-- An event other than EV34 is counted once and pending when it is raised. -/
theorem counted_raise (h : s.storesOk) (ha : s.alive = true) (he : ev ≠ 34) (p : Bytes) : Counted ev s (s.raise ev p) := by
  unfold State.raise
  rw [if_pos ha]
  exact (counted_noteEv h ev p).poolCheck (storesOk_noteEv h ev p) he

/-- What is counted since a state with the same count is counted since that one. -/
theorem Counted.of_reg (h : Counted ev t u) (hc : t.reg (Reg.evCount ev) = s.reg (Reg.evCount ev)) : Counted ev s u :=
  ⟨by rw [h.1, hc], h.2⟩

/-! ### The loss events of queues (R444) -/

/-- A loss event does nothing in RESET, is counted, or is counted and leaves a record. -/
theorem State.raiseLoss_cases (s : State) (ev queue n : Nat) (p : Bytes) :
    s.raiseLoss ev queue n p = s ∨ s.raiseLoss ev queue n p = s.markEv ev n ∨
      ∃ m r, s.raiseLoss ev queue n p = (({ s.markEv ev n with ev := m } : State).pushEv r).poolCheck := by
  unfold State.raiseLoss
  split
  · dsimp only
    split
    · exact .inr (.inr ⟨_, _, rfl⟩)
    · exact .inr (.inl rfl)
  · exact .inl rfl

theorem State.raiseLoss_eq (s : State) (ev queue n : Nat) (p : Bytes) : s.raiseLoss ev queue n p =
    { s with regs := (s.raiseLoss ev queue n p).regs, ev := (s.raiseLoss ev queue n p).ev, q := (s.raiseLoss ev queue n p).q,
             report := (s.raiseLoss ev queue n p).report } := by
  obtain h | h | ⟨m, r, h⟩ := State.raiseLoss_cases s ev queue n p
  · rw [h]
  · rw [h]; rfl
  · rw [h, State.poolCheck_eq]; rfl

theorem storesOk_raiseLoss (h : s.storesOk) (ev queue n : Nat) (p : Bytes) : (s.raiseLoss ev queue n p).storesOk := by
  have marked (m : EvSt) : ({ s.markEv ev n with ev := m } : State).storesOk := storesOk_markEv h ev n
  obtain e | e | ⟨m, r, e⟩ := State.raiseLoss_cases s ev queue n p
  · rw [e]; exact h
  · rw [e]; exact storesOk_markEv h ev n
  · rw [e]; exact storesOk_poolCheck (storesOk_pushEv (marked m) r)

/-- A loss event changes the registers that any event does. -/
theorem raiseLoss_kept (h : s.storesOk) (ev queue n : Nat) (p : Bytes) : RegsKept (evKeys ev) s (s.raiseLoss ev queue n p) := by
  have counted : RegsKept (evKeys ev) s (s.markEv ev n) := (markEv_kept h ev n).mono (by simp [evKeys])
  have ofPool : evKeys 34 ⊆ evKeys ev := by intro k; simp only [evKeys, List.mem_cons]; tauto
  have marked (m : EvSt) : ({ s.markEv ev n with ev := m } : State).storesOk := storesOk_markEv h ev n
  obtain e | e | ⟨m, r, e⟩ := State.raiseLoss_cases s ev queue n p
  · rw [e]; exact RegsKept.refl _ _
  · rw [e]; exact counted
  · have pushed := (pushEv_kept (marked m) r).mono (js := evKeys ev) (by simp [evKeys])
    rw [e]
    exact (counted.trans pushed).trans ((poolCheck_kept (storesOk_pushEv (marked m) r)).mono ofPool)

/-! ### Reject records (R361) -/

/-- A reject record enters its report; the loss of one is counted. -/
def State.keepReject (s : State) (r : RejectRec) : State :=
  (({ s with report := { s.report with rejects := (pushRecord 256 s.poolFree s.report.rejects r).1 } }).seeDepth 26
    (pushRecord 256 s.poolFree s.report.rejects r).1.length).addReg Reg.rejectLost (pushRecord 256 s.poolFree s.report.rejects r).2

/-- What a rejection does before EV45: the record, and the event of a loss. -/
def State.reportReject (s : State) (r : RejectRec) : State :=
  if (pushRecord 256 s.poolFree s.report.rejects r).2 = 0 then s.keepReject r
  else (s.keepReject r).raiseLoss 32 26 (pushRecord 256 s.poolFree s.report.rejects r).2
    (beBytes 2 26 ++ beBytes 4 (pushRecord 256 s.poolFree s.report.rejects r).2)

theorem State.rejected_eq_raise (s : State) (ix sub : Nat) (src : Nat × Nat) (abort detail effect : Nat) :
    s.rejected ix sub src abort detail effect = (s.reportReject
      { ix := ix, sub := sub, source := src.1, sess := src.2, abort := abort, detail := detail, time := s.now, effect := effect }).raise
        45 (beBytes 2 ix ++ beBytes 1 sub ++ beBytes 2 abort) := rfl

theorem storesOk_keepReject (h : s.storesOk) (r : RejectRec) : (s.keepReject r).storesOk :=
  ⟨storePut_wf h.1 _ _, h.2⟩

theorem keepReject_kept (h : s.storesOk) (r : RejectRec) : RegsKept [Reg.rejectLost] s (s.keepReject r) :=
  fun _ hk => storeGet_storePut_ne h.1 (by simpa using hk) _

theorem State.reportReject_eq (s : State) (r : RejectRec) : s.reportReject r =
    { s with regs := (s.reportReject r).regs, ev := (s.reportReject r).ev, q := (s.reportReject r).q,
             report := (s.reportReject r).report } := by
  unfold State.reportReject
  split
  · rfl
  · rw [State.raiseLoss_eq]
    rfl

theorem storesOk_reportReject (h : s.storesOk) (r : RejectRec) : (s.reportReject r).storesOk := by
  unfold State.reportReject
  split
  · exact storesOk_keepReject h r
  · exact storesOk_raiseLoss (storesOk_keepReject h r) _ _ _ _

theorem reportReject_kept (h : s.storesOk) (r : RejectRec) : RegsKept (Reg.rejectLost :: evKeys 32) s (s.reportReject r) := by
  have lost := (keepReject_kept h r).mono (js := Reg.rejectLost :: evKeys 32) (by simp)
  unfold State.reportReject
  split
  · exact lost
  · exact lost.trans ((raiseLoss_kept (storesOk_keepReject h r) _ _ _ _).mono (List.subset_cons_self _ _))

@[simp] theorem State.reportReject_alive (s : State) (r : RejectRec) : (s.reportReject r).alive = s.alive := by
  rw [State.reportReject_eq]; rfl

/-- A reject record leaves all but the registers, the events, the pool's figures and the reports as it was. -/
theorem State.rejected_eq (s : State) (ix sub : Nat) (src : Nat × Nat) (abort detail effect : Nat) :
    s.rejected ix sub src abort detail effect =
      { s with regs := (s.rejected ix sub src abort detail effect).regs, ev := (s.rejected ix sub src abort detail effect).ev,
               q := (s.rejected ix sub src abort detail effect).q, report := (s.rejected ix sub src abort detail effect).report } := by
  rw [State.rejected_eq_raise, State.raise_eq, State.reportReject_eq]

@[simp] theorem State.rejected_stage (s : State) (ix sub : Nat) (src : Nat × Nat) (abort detail effect : Nat) :
    (s.rejected ix sub src abort detail effect).stage = s.stage := by rw [State.rejected_eq]
@[simp] theorem State.rejected_pending (s : State) (ix sub : Nat) (src : Nat × Nat) (abort detail effect : Nat) :
    (s.rejected ix sub src abort detail effect).pending = s.pending := by rw [State.rejected_eq]

/-- A reject record comes with EV45. -/
theorem counted_rejected (h : s.storesOk) (ha : s.alive = true) (ix sub : Nat) (src : Nat × Nat) (abort detail effect : Nat) :
    Counted 45 s (s.rejected ix sub src abort detail effect) := by
  rw [State.rejected_eq_raise]
  refine (counted_raise (storesOk_reportReject h _) (by simpa using ha) (by decide) _).of_reg (reportReject_kept h _ _ (by decide))

end

end Sys2Proof.Machine

/-! SUPPORT. Accesses: a message accepted, an operation served, and what a write does by its change class (R11 to R14, R55 to R57). -/

namespace Sys2Proof.Machine

/-! ### A message accepted -/

section
variable (s : State) (o : Origin)

/-- A message accepted touches the sessions alone. -/
theorem State.touch_eq : s.touch o = { s with ctl := (s.touch o).ctl } := by cases o <;> rfl

@[simp] theorem State.touch_regs : (s.touch o).regs = s.regs := by rw [State.touch_eq]
@[simp] theorem State.touch_mode : (s.touch o).mode = s.mode := by rw [State.touch_eq]
@[simp] theorem State.touch_clock : (s.touch o).clock = s.clock := by rw [State.touch_eq]
@[simp] theorem State.touch_power : (s.touch o).power = s.power := by rw [State.touch_eq]
@[simp] theorem State.touch_stage : (s.touch o).stage = s.stage := by rw [State.touch_eq]
@[simp] theorem State.touch_cairn : (s.touch o).cairn = s.cairn := by rw [State.touch_eq]
@[simp] theorem State.touch_report : (s.touch o).report = s.report := by rw [State.touch_eq]
@[simp] theorem State.touch_sent : (s.touch o).sent = s.sent := by rw [State.touch_eq]
@[simp] theorem State.touch_pending : (s.touch o).pending = s.pending := by rw [State.touch_eq]
@[simp] theorem State.touch_reg (k : Nat) : (s.touch o).reg k = s.reg k := reg_congr (s.touch_regs o) k
@[simp] theorem State.touch_alive : (s.touch o).alive = s.alive := by rw [State.touch_eq]; rfl
@[simp] theorem State.touch_domOn (d : Nat) : (s.touch o).domOn d = s.domOn d := by rw [State.touch_eq]; rfl
@[simp] theorem State.touch_now : (s.touch o).now = s.now := by rw [State.touch_eq]; rfl
@[simp] theorem State.touch_jobs : (s.touch o).ctl.jobs = s.ctl.jobs := by cases o <;> rfl
@[simp] theorem State.touch_arrivalRefused (ix sub : Nat) (v : Bytes) (timed : Bool) :
    (s.touch o).arrivalRefused ix sub v timed = s.arrivalRefused ix sub v timed := by rw [State.touch_eq]; rfl
@[simp] theorem State.touch_cmdsFull (ix sub : Nat) (v : Bytes) : (s.touch o).cmdsFull ix sub v = s.cmdsFull ix sub v := by
  rw [State.touch_eq]; rfl
@[simp] theorem State.touch_cmdWaits (c : LCmd) : (s.touch o).cmdWaits c = s.cmdWaits c := by rw [State.touch_eq]; rfl
@[simp] theorem State.touch_liveWaits (k v : Nat) : (s.touch o).liveWaits k v = s.liveWaits k v := by rw [State.touch_eq]; rfl
@[simp] theorem State.touch_stagedWaits (k v : Nat) : (s.touch o).stagedWaits k v = s.stagedWaits k v := by rw [State.touch_eq]; rfl
@[simp] theorem State.touch_settingKept (k v : Nat) : (s.touch o).settingKept k v = s.settingKept k v := by rw [State.touch_eq]; rfl

theorem storesOk_touch {s : State} (h : s.storesOk) (o : Origin) : (s.touch o).storesOk := by rw [State.touch_eq]; exact h

end

/-! ### An operation served -/

section
variable {s t : State} {o : Origin} {r : Role} {ix sub : Nat} {x : Obj}

/-- An operation of an origin that the unit serves. -/
theorem State.serve_of_role (ha : s.alive = true) (hr : s.roleOf o = some r) (f : State → Role → OpOut × State) :
    s.serve o ix sub f = State.answer o ix sub (f (s.touch o) r) := by
  unfold State.serve
  rw [ha, hr]
  rfl

/-- The result of an operation that left the state as it was. -/
theorem State.touch_send (h : sub < 256) (st ty : Nat) (v : Bytes) :
    (s.touch o).send (.result o st ix sub ty v) = s.answered o (Reg.key ix sub) st ty v := by
  unfold State.answered
  rw [key_div h, key_mod h, State.touch_eq]
  rfl

/-- A write in the subindex's own type. -/
theorem State.rowWrite_of_row (ha : s.alive = true) (hr : s.roleOf o = some r) (hx : odFind ix sub = some x) (v : Bytes) :
    s.rowWrite o ix sub v = State.answer o ix sub (outOf ((s.touch o).opWrite o r ix sub x.ty.code v)) := by
  unfold State.rowWrite
  rw [State.serve_of_role ha hr, hx]
  rfl

end

/-! ### A write that its checks and R17 leave as it is -/

/-- `s` with change classes `g` and cairn `c`: all that a write which waits may change. -/
def State.withStage (s : State) (g : StageSt) (c : CairnSt) : State := { s with stage := g, cairn := c }

section
variable {s : State} {o : Origin} {r : Role} {ix sub ty : Nat} {x : Obj} {v : Bytes}

/-- The row that a write's checks give. -/
theorem odFind_of_checkWrite {c : Nat} (h : s.checkWrite o r ix sub ty v = (c, some x)) : odFind ix sub = some x := by
  unfold State.checkWrite at h
  split at h
  · cases h
  · next y hy => cases h; exact odFind_of_checkTarget hy

/-- WRITE of such a value acts by its class. -/
theorem State.opWrite_of_checks (hc : s.checkWrite o r ix sub ty v = (0, some x)) (ha : s.arrivalRefused ix sub v false = 0)
    (hf : x.acc = .cmd → x.chg = .l → s.cmdsFull ix sub v = false) (hk : s.clampWrite o x ix sub v = (false, v, s)) :
    s.opWrite o r ix sub ty v = s.putWrite o x ix sub v := by
  have room : ¬(x.acc = .cmd ∧ x.chg = .l ∧ s.cmdsFull ix sub v = true) := fun ⟨h1, h2, h3⟩ => by simp [hf h1 h2] at h3
  unfold State.opWrite
  rw [hc]
  simp only [ha, hk, ne_eq, not_true_eq_false, if_false, Bool.false_eq_true, and_false]
  rw [if_neg room]

/-- TIMED_WRITE of such a value: too late, too many, or it waits (R61). -/
theorem State.opTimed_of_checks {time : Nat} (hc : s.checkWrite o r ix sub ty v = (0, some x)) (ha : s.arrivalRefused ix sub v true = 0)
    (hsw : Reg.key ix sub ≠ Reg.switch) (ht : time80Ok time = true) (hk : s.clampWrite o x ix sub v = (false, v, s)) :
    s.opTimed o r ix sub ty v time =
      if ofTime80 time ≤ s.now then s.refuse o ix sub 0x0501 (ofTime80 time)
      else if 1024 ≤ s.stage.timed.length then s.refuse o ix sub 0x0401 (ofTime80 time)
      else (0, s.withStage { s.stage with
        timed := s.stage.timed ++ [{ org := o, ix := ix, sub := sub, val := v, due := ofTime80 time }] } s.cairn) := by
  unfold State.opTimed State.withStage
  rw [hc]
  simp only [ha, hk, ht, hsw, ne_eq, not_true_eq_false, if_false, if_true, Bool.not_true, Bool.false_eq_true]

/-! ### What a write does by its class -/

/-- A command of class L that is no SWITCH only waits. -/
theorem State.queueCmd_eq {c : LCmd} (h : Reg.key c.ix c.sub ≠ Reg.switch) : s.queueCmd c = s.withStage (s.cmdWaits c) s.cairn := by
  unfold State.queueCmd State.cmdWaits
  simp only [h, if_false]
  split <;> rfl

theorem State.stageWrite_eq (k n : Nat) : s.stageWrite k n = s.withStage (s.stagedWaits k n) s.cairn := by
  unfold State.stageWrite State.stagedWaits
  simp only []
  split <;> rfl

theorem State.liveWrite_eq (k n : Nat) : s.liveWrite k n = s.withStage (s.liveWaits k n) s.cairn := by
  unfold State.liveWrite State.liveWaits
  simp only []
  split <;> rfl

/-- A setting written enters the cairn where the dictionary keeps it there (R44). -/
theorem State.cairnField_eq (hx : odFind ix sub = some x) (n : Nat) :
    (if x.cairn then s.cairnField (Reg.key ix sub) n else s) = s.withStage s.stage (s.settingKept (Reg.key ix sub) n) := by
  have hsub := odFind_sub_lt hx
  unfold State.settingKept
  rw [key_div hsub, key_mod hsub, hx]
  simp only [Option.map_some, Option.getD_some]
  split <;> rfl

/-- A command of class L waits. -/
theorem State.putWrite_cmd (hc : x.acc = .cmd) (hl : x.chg = .l) (h : Reg.key ix sub ≠ Reg.switch) :
    s.putWrite o x ix sub v = (0, s.withStage (s.cmdWaits { org := o, ix := ix, sub := sub, val := v }) s.cairn) := by
  unfold State.putWrite
  simp only [hc, hl, if_true]
  rw [State.queueCmd_eq (c := { org := o, ix := ix, sub := sub, val := v }) h]

/-- A value of class S joins the staging set. -/
theorem State.putWrite_staged (hc : x.acc ≠ .cmd) (hw : x.acc ≠ .w1c) (hs : x.chg = .s) :
    s.putWrite o x ix sub v = (0, s.withStage (s.stagedWaits (Reg.key ix sub) (beNat v)) s.cairn) := by
  unfold State.putWrite
  simp only [hc, hw, hs, if_false, State.stageWrite_eq]

/-- A value of class L or F waits, and the cairn takes it where it is kept there. -/
theorem State.putWrite_live (hx : odFind ix sub = some x) (hc : x.acc ≠ .cmd) (hw : x.acc ≠ .w1c) (hl : x.chg = .l ∨ x.chg = .f) :
    s.putWrite o x ix sub v =
      (0, s.withStage (s.liveWaits (Reg.key ix sub) (beNat v)) (s.settingKept (Reg.key ix sub) (beNat v))) := by
  have live : s.putWrite o x ix sub v =
      (0, (if x.cairn then s.cairnField (Reg.key ix sub) (beNat v) else s).liveWrite (Reg.key ix sub) (beNat v)) := by
    unfold State.putWrite
    rcases hl with hl | hl <;> simp only [hc, hw, hl, if_false]
  rw [live, State.cairnField_eq hx, State.liveWrite_eq]
  rfl

end

/-! ### The result of a write -/

section
variable {s : State} {o : Origin} {r : Role} {ix sub : Nat} {x : Obj} {v : Bytes}

/-- A write that waits, answered. -/
theorem State.answer_withStage (h : sub < 256) (g : StageSt) (c : CairnSt) :
    State.answer o ix sub (outOf (0, (s.touch o).withStage g c)) = (s.withStage g c).answered o (Reg.key ix sub) 0 0 [] := by
  unfold State.answer outOf State.answered State.withStage
  rw [key_div h, key_mod h]
  cases o <;> rfl

/-- With no request waiting none goes on. -/
theorem State.resumeJobs_nil (h : s.ctl.jobs = []) : s.resumeJobs = s := by
  unfold State.resumeJobs
  rw [h]
  rfl

end

end Sys2Proof.Machine

/-! PROOFS. Writes and timed writes (R61, R340). -/

namespace Sys2Proof.Machine

section
variable {s t : State} {o : Origin} {r : Role} {ix sub : Nat} {x : Obj} {v : Bytes}

/-! ### The commands that write any subindex -/

/-- WRITE in the subindex's own type is the write of its row. -/
theorem State.serve_opWrite (hx : odFind ix sub = some x) :
    (s.serve o ix sub fun s r => outOf (s.opWrite o r ix sub x.ty.code v)) = s.rowWrite o ix sub v := by
  unfold State.rowWrite
  rw [hx]
  rfl

theorem exec_odWrite (hx : odFind ix sub = some x) (hacc : x.acc = .rw) :
    exec (.odWrite o ix sub v) s = s.done (s.rowWrite o ix sub v) := by
  have rw : hasAcc ix sub .rw = true := by simp [hasAcc, hx, hacc]
  show s.done (if hasAcc ix sub .rw then s.rowWrite o ix sub v else s) = _
  rw [if_pos rw]

/-- With no request waiting WRITE does what OD_WRITE does. -/
theorem exec_write_eq_odWrite (hx : odFind ix sub = some x) (hacc : x.acc = .rw) (hj : (s.rowWrite o ix sub v).ctl.jobs = []) :
    exec (.write o ix sub x.ty.code v) s = exec (.odWrite o ix sub v) s := by
  rw [exec_odWrite hx hacc]
  show s.done (s.serve o ix sub fun s r => outOf (s.opWrite o r ix sub x.ty.code v)).resumeJobs = _
  rw [State.serve_opWrite hx, State.resumeJobs_nil hj]

/-- A write to a subindex that is read and written, its value as it stands: by its class. -/
theorem rowWrite_rw (ha : s.alive = true) (hr : s.roleOf o = some r) (hx : odFind ix sub = some x) (hacc : x.acc = .rw)
    (hc : (s.touch o).checkWrite o r ix sub x.ty.code v = (0, some x)) (harr : s.arrivalRefused ix sub v false = 0)
    (hk : (s.touch o).clampWrite o x ix sub v = (false, v, s.touch o)) :
    s.rowWrite o ix sub v = State.answer o ix sub (outOf ((s.touch o).putWrite o x ix sub v)) := by
  rw [State.rowWrite_of_row ha hr hx, State.opWrite_of_checks hc (by rw [State.touch_arrivalRefused, harr]) (by simp [hacc]) hk]

/-- The two commands that write a subindex of that kind, where the write only waits. -/
theorem exec_writes_waiting (hx : odFind ix sub = some x) (hacc : x.acc = .rw) {g : StageSt} {c : CairnSt}
    (h : s.rowWrite o ix sub v = State.answer o ix sub (outOf (0, (s.touch o).withStage g c))) :
    exec (.odWrite o ix sub v) s = .next ((s.withStage g c).answered o (Reg.key ix sub) 0 0 []) ∧
      (s.ctl.jobs = [] → exec (.write o ix sub x.ty.code v) s = exec (.odWrite o ix sub v) s) := by
  rw [State.answer_withStage (odFind_sub_lt hx)] at h
  refine ⟨by rw [exec_odWrite hx hacc, h]; rfl, fun hj => exec_write_eq_odWrite hx hacc ?_⟩
  rw [h]
  exact (State.touch_jobs (s.withStage g c) o).trans hj

/-! ### Timed writes (R61) -/

/-- A timed write that its checks pass, served. -/
theorem exec_timedWrite {time : Nat} (ha : s.alive = true) (hr : s.roleOf o = some r) {st : Nat}
    (h : (s.touch o).opTimed o r ix sub x.ty.code v time = (st, t)) :
    exec (.timedWrite o ix sub x.ty.code v time) s = s.done (t.send (.result o st ix sub 0 [])) := by
  show s.done (s.serve o ix sub fun s r => outOf (s.opTimed o r ix sub x.ty.code v time)) = _
  rw [State.serve_of_role ha hr, h]
  rfl

/-- A timed write that waits. -/
theorem exec_timedWrite_waits {time : Nat} (ha : s.alive = true) (hr : s.roleOf o = some r) (hx : odFind ix sub = some x)
    {g : StageSt} {c : CairnSt} (h : (s.touch o).opTimed o r ix sub x.ty.code v time = (0, (s.touch o).withStage g c)) :
    exec (.timedWrite o ix sub x.ty.code v time) s = .next ((s.withStage g c).answered o (Reg.key ix sub) 0 0 []) :=
  (exec_timedWrite ha hr h).trans (congrArg s.done (State.answer_withStage (odFind_sub_lt hx) g c))

/-- A write refused on arrival leaves the change classes as they are, a reject record and EV45. -/
theorem exec_timedWrite_refused {time code effect : Nat} (ok : s.storesOk) (ha : s.alive = true) (hr : s.roleOf o = some r)
    (h : (s.touch o).opTimed o r ix sub x.ty.code v time = (s.touch o).refuse o ix sub code effect) :
    ∃ t, exec (.timedWrite o ix sub x.ty.code v time) s = .next t ∧ t.stage = s.stage ∧ Counted 45 s t ∧
      t.sent.head? = some (.result o code ix sub 0 []) := by
  have refused : (s.touch o).refuse o ix sub code effect =
      (code, (s.touch o).rejected ix sub o.source code 0 effect) := by
    unfold State.refuse; rw [if_pos (by rwa [State.touch_alive])]
  have counted := counted_rejected (storesOk_touch ok o) (by rwa [State.touch_alive]) ix sub o.source code 0 effect
  have stage := (State.rejected_stage (s.touch o) ix sub o.source code 0 effect).trans (State.touch_stage s o)
  generalize (s.touch o).rejected ix sub o.source code 0 effect = u at refused counted stage
  have counted' : Counted 45 s u := counted.of_reg (State.touch_reg s o _)
  exact ⟨_, exec_timedWrite ha hr (h.trans refused), stage, counted', rfl⟩

end

/-- Settles O18: `putWrite_staged` and `putWrite_live` for the classes, `opTimed_of_checks` for the timed writes. -/
theorem writesAndTimedWrites : Obligations.WritesAndTimedWrites := by
  refine ⟨fun o r ix sub v x s ha hr hx hacc hc harr hk => ⟨fun hs => ?_, fun hl => ?_⟩,
    fun o r ix sub v time x s ok ha hr hc harr hsw ht hk => ⟨fun hnow hroom => ?_, fun hlate => ?_, fun hnow hfull => ?_⟩⟩
  · have put := rowWrite_rw ha hr hx hacc hc harr hk
    rw [State.putWrite_staged (by simp [hacc]) (by simp [hacc]) hs, State.touch_stagedWaits, State.touch_cairn] at put
    exact exec_writes_waiting hx hacc put
  · have put := rowWrite_rw ha hr hx hacc hc harr hk
    rw [State.putWrite_live hx (by simp [hacc]) (by simp [hacc]) hl, State.touch_liveWaits, State.touch_settingKept] at put
    exact exec_writes_waiting hx hacc put
  all_goals
    have op := State.opTimed_of_checks hc (by rwa [State.touch_arrivalRefused]) hsw ht hk
    rw [State.touch_now, State.touch_stage, State.touch_cairn] at op
  · rw [if_neg (by omega), if_neg (by omega)] at op
    exact exec_timedWrite_waits ha hr (odFind_of_checkWrite hc) op
  · rw [if_pos hlate] at op
    exact exec_timedWrite_refused ok ha hr op
  · rw [if_neg (by omega), if_pos hfull] at op
    exact exec_timedWrite_refused ok ha hr op

end Sys2Proof.Machine

/-! PROOFS. Reads, counters that clear on read, and descriptions (R12, R338, R345). -/

namespace Sys2Proof.Machine

/-! ### Reads (R12, R338) -/

section
variable {s t : State} {o : Origin} {r : Role} {ix sub : Nat} {x : Obj}

/-- READ of a subindex that is no DOMAIN, in its own type. -/
theorem State.opRead_of_row (h1 : ix < 0xF000 ∨ r = .service) (hx : odFind ix sub = some x) (hd : s.domOn (odDomain ix) = true)
    (hty : x.ty ≠ .domain) : s.opRead o r ix sub 0 = s.fetchValue o x ix sub := by
  have dom : ((odFind ix sub).any fun x => x.ty == .domain) = false := by simp [hx, hty]
  have target : s.checkTarget r .observer ix sub false (fun _ => true) = (0, some x) :=
    checkTarget_ok h1 hx (Nat.zero_le _) rfl hd
  unfold State.opRead
  simp only [dom, target]
  exact if_neg (by simp [hty])

/-- DESCRIBE of a subindex. -/
theorem State.opDescribe_of_row (h1 : ix < 0xF000 ∨ r = .service) (hx : odFind ix sub = some x)
    (hd : s.domOn (odDomain ix) = true) : s.opDescribe r ix sub = (.done 0 0x0D (s.describe x (Reg.key ix sub)), s) := by
  unfold State.opDescribe
  rw [checkTarget_ok h1 hx (Nat.zero_le _) rfl hd]

/-- What is read of a subindex that neither removes a record nor pops a queue. -/
theorem State.fetchValue_ro_rw (hk : recordKey (Reg.key ix sub) = false) (hp : ¬(0x8C00 ≤ ix ∧ ix < 0x8C20 ∧ sub = 2))
    (hacc : x.acc = .ro ∨ x.acc = .rw) :
    s.fetchValue o x ix sub = (.done 0 x.ty.code (x.ty.wire (s.readValue o x (Reg.key ix sub))), s) := by
  unfold State.fetchValue
  simp only [hk, hp, Bool.false_eq_true, if_false]
  rcases hacc with hacc | hacc <;> rw [hacc]

theorem State.fetchValue_rc (hk : recordKey (Reg.key ix sub) = false) (hp : ¬(0x8C00 ≤ ix ∧ ix < 0x8C20 ∧ sub = 2))
    (hacc : x.acc = .rc) : s.fetchValue o x ix sub =
      (.done 0 x.ty.code (x.ty.wire (s.readValue o x (Reg.key ix sub))), s.clearRead (Reg.key ix sub)) := by
  unfold State.fetchValue
  simp only [hk, hp, hacc, Bool.false_eq_true, if_false]

/-- READ, served. -/
theorem exec_read (ha : s.alive = true) (hr : s.roleOf o = some r) (h1 : ix < 0xF000 ∨ r = .service) (hx : odFind ix sub = some x)
    (hd : s.domOn (odDomain ix) = true) (hty : x.ty ≠ .domain) :
    exec (.read o ix sub 0) s = s.done (State.answer o ix sub ((s.touch o).fetchValue o x ix sub)) := by
  show s.done (s.serve o ix sub fun s r => s.opRead o r ix sub 0) = _
  rw [State.serve_of_role ha hr, State.opRead_of_row h1 hx (by rwa [State.touch_domOn]) hty]

/-- RC_COUNTER_READ is the READ of a counter that clears on read. -/
theorem exec_rcCounterRead (hx : odFind ix sub = some x) (hacc : x.acc = .rc) :
    exec (.rcCounterRead o ix sub) s = exec (.read o ix sub 0) s := by
  have rc : hasAcc ix sub .rc = true := by simp [hasAcc, hx, hacc]
  have hsub := odFind_sub_lt hx
  show s.done (if hasAcc ix sub .rc then s.rowRead o (Reg.key ix sub) else s) = _
  rw [if_pos rc]
  unfold State.rowRead
  rw [key_div hsub, key_mod hsub]
  rfl

/-! ### Counters that clear on read (R12) -/

/-- The report of `s` after a read of counter `k`: an extreme notes that the next measurement replaces it. -/
def State.readReport (s : State) (k : Nat) : ReportSt :=
  if extremeKey k && !s.report.cleared.contains k then { s.report with cleared := k :: s.report.cleared } else s.report

/-- `s` with registers `g` and reports `p`: all that the read of a counter may change. -/
def State.withCounters (s : State) (g : List (Nat × Nat)) (p : ReportSt) : State := { s with regs := g, report := p }

/-- A counter that is no queue's goes to 0. -/
theorem State.clearRead_eq {k : Nat} (hq : k ∉ [Reg.qLost, Reg.qHigh, Reg.qBpCycles]) (hs : ¬(0x8C0000 ≤ k ∧ k < 0x8C2000)) :
    s.clearRead k = s.withCounters (s.setReg k 0).regs (s.readReport k) := by
  simp only [List.mem_cons, List.not_mem_nil, or_false, not_or] at hq
  obtain ⟨h1, h2, h3⟩ := hq
  unfold State.clearRead State.readReport State.withCounters
  rw [if_neg h1, if_neg h2, if_neg h3, if_neg (fun h => hs ⟨h.1, h.2.1⟩), if_neg (fun h => hs ⟨h.1, h.2.1⟩)]
  dsimp only
  split <;> rfl

theorem State.readReport_extreme {k : Nat} (h : extremeKey k = true) : (s.readReport k).cleared.contains k = true := by
  unfold State.readReport
  rw [h]
  cases hc : s.report.cleared.contains k
  · simp
  · simpa using hc

theorem State.readReport_plain {k : Nat} (h : extremeKey k = false) : s.readReport k = s.report := by
  unfold State.readReport; rw [h]; rfl

theorem State.readReport_eq (k : Nat) : s.readReport k = { s.report with cleared := (s.readReport k).cleared } := by
  unfold State.readReport; split <;> rfl

@[simp] theorem State.touch_readReport (k : Nat) : (s.touch o).readReport k = s.readReport k := by rw [State.touch_eq]; rfl

/-- The read of a counter, answered. -/
theorem State.answer_withCounters (h : sub < 256) (g : List (Nat × Nat)) (p : ReportSt) (ty : Nat) (v : Bytes) :
    State.answer o ix sub (.done 0 ty v, (s.touch o).withCounters g p) = (s.withCounters g p).answered o (Reg.key ix sub) 0 ty v := by
  unfold State.answer State.answered State.withCounters
  rw [key_div h, key_mod h]
  cases o <;> rfl

/-- READ of a counter that clears on read and is no queue's. -/
theorem exec_read_rc (ha : s.alive = true) (hr : s.roleOf o = some r) (h1 : ix < 0xF000 ∨ r = .service) (hx : odFind ix sub = some x)
    (hd : s.domOn (odDomain ix) = true) (hty : x.ty ≠ .domain) (hk : recordKey (Reg.key ix sub) = false)
    (hp : ¬(0x8C00 ≤ ix ∧ ix < 0x8C20 ∧ sub = 2)) (hacc : x.acc = .rc)
    (hq : Reg.key ix sub ∉ [Reg.qLost, Reg.qHigh, Reg.qBpCycles]) (hs : ¬(0x8C0000 ≤ Reg.key ix sub ∧ Reg.key ix sub < 0x8C2000)) :
    exec (.read o ix sub 0) s = .next ((s.withCounters (s.setReg (Reg.key ix sub) 0).regs (s.readReport (Reg.key ix sub))).answered o
      (Reg.key ix sub) 0 x.ty.code (x.ty.wire ((s.touch o).readValue o x (Reg.key ix sub)))) := by
  have regs : ((s.touch o).setReg (Reg.key ix sub) 0).regs = (s.setReg (Reg.key ix sub) 0).regs := by
    rw [State.setReg_regs, State.setReg_regs, State.touch_regs]
  rw [exec_read ha hr h1 hx hd hty, State.fetchValue_rc hk hp hacc, State.clearRead_eq hq hs, State.touch_readReport, regs,
    State.answer_withCounters (odFind_sub_lt hx)]
  rfl

/-- The result of an operation that changed nothing. -/
theorem State.answer_touch (h : sub < 256) (ty : Nat) (v : Bytes) :
    s.done (State.answer o ix sub (.done 0 ty v, s.touch o)) = .next (s.answered o (Reg.key ix sub) 0 ty v) := by
  rw [← State.touch_send h]
  cases o <;> rfl

end

/-- Settles O20: a plain read and DESCRIBE leave all but the origin's session, and `exec_read_rc` says what a counter's read clears. -/
theorem readsAndDescriptions : Obligations.ReadsAndDescriptions := by
  intro o r ix sub x s ok ha hr h1 _ hx hd hk hp hty
  have hsub := odFind_sub_lt hx
  refine ⟨fun hacc => ?_, fun hacc hq hs => ?_, ?_⟩
  · rw [exec_read ha hr h1 hx hd hty, State.fetchValue_ro_rw hk hp hacc, State.answer_touch hsub]
  · have read := exec_read_rc ha hr h1 hx hd hty hk hp hacc hq hs
    refine ⟨_, (exec_rcCounterRead hx hacc).trans read, read, reg_setReg ok _ 0, (RegsKept.refl _ s).setReg ok (by simp) 0,
      State.readReport_extreme, State.readReport_plain, ?_⟩
    exact congrArg (fun p => (s.withCounters _ p).answered o _ 0 _ _) (State.readReport_eq (s := s) (Reg.key ix sub))
  · show s.done (s.serve o ix sub fun s r => s.opDescribe r ix sub) = _
    rw [State.serve_of_role ha hr, State.opDescribe_of_row h1 hx (by rwa [State.touch_domOn]), State.answer_touch hsub]

end Sys2Proof.Machine

/-! SUPPORT. Numbers as bytes (R6) and the fields of a record. -/

namespace Sys2Proof.Machine

/-! ### Numbers as bytes (R6) -/

@[simp] theorem beBytes_length (n v : Nat) : (beBytes n v).length = n := by
  induction n with
  | zero => rfl
  | succ k ih => rw [beBytes, List.length_cons, ih]

theorem foldl_bytes (l : Bytes) (a : Nat) : l.foldl (fun a b => a * 256 + b.toNat) a = a * 256 ^ l.length + beNat l := by
  induction l generalizing a with
  | nil => simp [beNat]
  | cons b l ih =>
    rw [beNat, List.foldl_cons, List.foldl_cons, ih, ih (0 * 256 + b.toNat), List.length_cons, pow_succ]
    ring

theorem beNat_cons (b : Byte) (l : Bytes) : beNat (b :: l) = b.toNat * 256 ^ l.length + beNat l := by
  rw [beNat, List.foldl_cons, foldl_bytes, Nat.zero_mul, Nat.zero_add]

theorem beNat_lt (l : Bytes) : beNat l < 256 ^ l.length := by
  induction l with
  | nil => exact Nat.one_pos
  | cons b l ih =>
    have hb : b.toNat ≤ 255 := Nat.le_of_lt_succ b.isLt
    have := Nat.mul_le_mul_right (256 ^ l.length) hb
    rw [beNat_cons, List.length_cons, pow_succ]
    omega

/-- The number that the bytes of a number spell. -/
theorem beNat_beBytes_mod (n v : Nat) : beNat (beBytes n v) = v % 256 ^ n := by
  induction n with
  | zero => simp [beBytes, beNat, Nat.mod_one]
  | succ k ih =>
    rw [beBytes, beNat_cons, ih, beBytes_length, BitVec.toNat_ofNat, Nat.mod_pow_succ (b := 256), Nat.mul_comm, Nat.add_comm]

theorem beNat_beBytes {n v : Nat} (h : v < 256 ^ n) : beNat (beBytes n v) = v := by
  rw [beNat_beBytes_mod, Nat.mod_eq_of_lt h]

/-- Byte strings of one length that spell one number are the same. -/
theorem eq_of_beNat_eq : ∀ {l m : Bytes}, l.length = m.length → beNat l = beNat m → l = m
  | [], [], _, _ => rfl
  | b :: l, c :: m, hlen, h => by
    have hlen' : l.length = m.length := by simpa using hlen
    have hl := beNat_lt l
    have hm := beNat_lt m
    rw [beNat_cons, beNat_cons, hlen'] at h
    rw [hlen'] at hl
    have head : b.toNat = c.toNat := by
      have := congrArg (· / 256 ^ m.length) h
      simpa [Nat.add_comm (_ * _), Nat.add_mul_div_right, Nat.div_eq_of_lt hl, Nat.div_eq_of_lt hm] using this
    rw [head] at h
    rw [BitVec.eq_of_toNat_eq head, eq_of_beNat_eq hlen' (Nat.add_left_cancel h)]

/-- The bytes of the number that a byte string spells. -/
theorem beBytes_beNat (v : Bytes) : beBytes v.length (beNat v) = v :=
  eq_of_beNat_eq (beBytes_length _ _) (beNat_beBytes (beNat_lt v))

theorem slice_length (bs : Bytes) (off n : Nat) : (slice bs off n).length = n := by
  simp only [slice, List.length_append, List.length_replicate, List.length_take, List.length_drop]
  omega

theorem field_lt (bs : Bytes) (off n : Nat) : field bs off n < 256 ^ n := by
  have := beNat_lt (slice bs off n)
  rwa [slice_length] at this

/-- The first field of a record. -/
theorem field_beBytes_append {n v : Nat} (h : v < 256 ^ n) (l : Bytes) : field (beBytes n v ++ l) 0 n = v := by
  have first : slice (beBytes n v ++ l) 0 n = beBytes n v := by
    simp [slice]
  rw [field, first, beNat_beBytes h]

theorem field_beBytes {n v : Nat} (h : v < 256 ^ n) : field (beBytes n v) 0 n = v := by
  simpa using field_beBytes_append h []

end Sys2Proof.Machine

/-! SUPPORT. Values that pass every check whatever the state, and rows of class L (R16, R55). -/

namespace Sys2Proof.Machine

/-! ### Subindices with rules of their own -/

/-- The keys whose writes are checked against their mode or refused by a rule of their own (R85, R108, R113, R251, R259, R333, R335). -/
def hasArrivalRule (ix sub : Nat) : Bool :=
  [Reg.switch, Reg.calRun, Reg.calAccept, Reg.clearPosition].contains (Reg.key ix sub) ||
    (decide (0x3201 ≤ ix) && decide (ix ≤ 0x3204)) ||
    (decide (0x4500 ≤ ix) && decide (ix < 0x4508) && sub == 0x0A) ||
    (decide (0x4510 ≤ ix) && decide (ix < 0x4520) && sub == 6)

/-- The keys that carry a record of fields (R16, check 8). -/
def carriesRecord (ix sub : Nat) : Bool :=
  [Reg.groupSet, Reg.groupBind, Reg.fadeStart, Reg.fadeStop, Reg.rdmReq, Reg.prioSet, Reg.acquire, Reg.renew, Reg.descCancel,
      Reg.portFec 2].contains (Reg.key ix sub) ||
    (decide (0x451005 ≤ Reg.key ix sub) && decide (Reg.key ix sub ≤ 0x451F05) && sub == 5) ||
    (decide (0x4140 ≤ ix) && decide (ix ≤ 0x41F0) && ix % 16 == 0 && sub == 2)

section
variable {s : State} {o : Origin} {r : Role} {ix sub k : Nat} {x : Obj} {v : Bytes}

theorem hasArrivalRule_eq_false : hasArrivalRule ix sub = false ↔
    (Reg.key ix sub ≠ Reg.switch ∧ Reg.key ix sub ≠ Reg.calRun ∧ Reg.key ix sub ≠ Reg.calAccept ∧
      Reg.key ix sub ≠ Reg.clearPosition) ∧
    ¬(0x3201 ≤ ix ∧ ix ≤ 0x3204) ∧ ¬(0x4500 ≤ ix ∧ ix < 0x4508 ∧ sub = 0x0A) ∧ ¬(0x4510 ≤ ix ∧ ix < 0x4520 ∧ sub = 6) := by
  unfold hasArrivalRule
  simp only [Bool.or_eq_false_iff, List.contains_cons, List.contains_nil, Bool.or_false, Bool.and_eq_false_iff, decide_eq_false_iff_not,
    beq_eq_false_iff_ne, ne_eq]
  tauto

/-- Where no such rule stands a write is not refused on arrival. -/
theorem State.arrivalRefused_of_noRule (h : hasArrivalRule ix sub = false) (timed : Bool) : s.arrivalRefused ix sub v timed = 0 := by
  obtain ⟨⟨hsw, hrun, hacc, _⟩, hinj, hrew, hloop⟩ := hasArrivalRule_eq_false.mp h
  unfold State.arrivalRefused
  rw [if_neg hsw, if_neg (fun h => hinj ⟨h.1, h.2.1⟩), if_neg hrew, if_neg hloop, if_neg hrun, if_neg hacc, ite_self]

theorem State.modeBound_of_noRule (h : hasArrivalRule ix sub = false) : s.modeBound ix sub = false := by
  obtain ⟨⟨_, hrun, _, hpos⟩, _⟩ := hasArrivalRule_eq_false.mp h
  unfold State.modeBound
  simp only [beq_eq_false_iff_ne.mpr hrun, beq_eq_false_iff_ne.mpr hpos, Bool.false_and, Bool.or_self]

theorem carriesRecord_eq_false : carriesRecord ix sub = false ↔
    (Reg.key ix sub ≠ Reg.groupSet ∧ Reg.key ix sub ≠ Reg.groupBind ∧ Reg.key ix sub ≠ Reg.fadeStart ∧ Reg.key ix sub ≠ Reg.fadeStop ∧
      Reg.key ix sub ≠ Reg.rdmReq ∧ Reg.key ix sub ≠ Reg.prioSet ∧ Reg.key ix sub ≠ Reg.acquire ∧ Reg.key ix sub ≠ Reg.renew ∧
      Reg.key ix sub ≠ Reg.descCancel ∧ Reg.key ix sub ≠ Reg.portFec 2) ∧
    ¬(0x451005 ≤ Reg.key ix sub ∧ Reg.key ix sub ≤ 0x451F05 ∧ sub = 5) ∧ ¬(0x4140 ≤ ix ∧ ix ≤ 0x41F0 ∧ ix % 16 = 0 ∧ sub = 2) := by
  unfold carriesRecord
  simp only [Bool.or_eq_false_iff, List.contains_cons, List.contains_nil, Bool.or_false, Bool.and_eq_false_iff, decide_eq_false_iff_not,
    beq_eq_false_iff_ne, ne_eq]
  tauto

/-- A value that is no record has no fields to check or clamp. -/
theorem recordListed_of_plain (h : carriesRecord ix sub = false) (d t : Nat) : recordListed d t ix sub v = true := by
  obtain ⟨⟨h1, h2, h3, h4, h5, h6, h7, h8, h9, h10⟩, h11, h12⟩ := carriesRecord_eq_false.mp h
  unfold recordListed
  simp only [h1, h2, h3, h4, h5, h6, h7, h8, h9, h10, h11, h12, or_self, if_false]

theorem recordClamp_of_plain (h : carriesRecord ix sub = false) : recordClamp ix sub v = ([], v) := by
  obtain ⟨⟨_, _, h3, _, _, h6, h7, h8, _, _⟩, h11, _⟩ := carriesRecord_eq_false.mp h
  unfold recordClamp
  simp only [h3, h6, h7, h8, h11, or_self, if_false]

/-! ### Legal values -/

/-- `v` is a value of row `x` that passes checks 7 and 8 of R16 and is not clamped, whatever the state. -/
structure Legal (x : Obj) (ix sub : Nat) (v : Bytes) : Prop where
  form : x.ty = .u v.length ∨ ∃ lo hi, x.ty = .oct lo hi ∧ lo ≤ v.length ∧ v.length ≤ hi
  listed : ∀ c, x.rng.listed c (beNat v) = true
  applied : ∀ c, x.applied c (beNat v) = beNat v
  fields : ∀ d t, recordListed d t ix sub v = true
  unclamped : recordClamp ix sub v = ([], v)

/-- `x` is the row of subindex `k`, writable, of class L and role `r`, and no rule of its own refuses a write. -/
structure WaitingRow (k : Nat) (r : Role) (x : Obj) : Prop where
  row : odFind (k / 256) (k % 256) = some x
  writable : x.acc.writable = true
  notW1c : x.acc ≠ .w1c
  chg : x.chg = .l
  role : x.role = r
  noRule : hasArrivalRule (k / 256) (k % 256) = false

theorem Legal.checkValue (h : Legal x ix sub v) (hl : x.chg = .l) (hn : hasArrivalRule ix sub = false) :
    s.checkValue x ix sub x.ty.code v = 0 := by
  have noMode : ((x.chg == .f && s.mode.mode != .staging) || s.modeBound ix sub) = false := by
    rw [State.modeBound_of_noRule hn, hl]; rfl
  have shape : x.ty ≠ .domain ∧ x.ty.lenOk v.length = true ∧ x.ty.encOk v = true := by
    obtain hty | ⟨lo, hi, hty, h1, h2⟩ := h.form
    · rw [hty]; exact ⟨nofun, by simp [Ty.lenOk, Ty.size], rfl⟩
    · rw [hty]; exact ⟨nofun, by simp [Ty.lenOk, h1, h2], rfl⟩
  obtain ⟨hdom, hlen, henc⟩ := shape
  unfold State.checkValue State.recordOk
  simp [noMode, hdom, hlen, henc, h.listed, h.fields]

theorem Legal.clampWrite (h : Legal x ix sub v) : s.clampWrite o x ix sub v = (false, v, s) := by
  have store : x.ty.store v = beNat v := by
    obtain hty | ⟨lo, hi, hty, _⟩ := h.form <;> rw [hty] <;> rfl
  have same : x.clamps s.ranges (beNat v) = false := by
    unfold Obj.clamps
    split
    · rfl
    · simp [h.applied]
  unfold State.clampWrite
  simp only [store, same, h.applied, h.unclamped, Bool.false_eq_true, if_false, List.map_nil, List.foldl_nil, List.isEmpty_nil,
    Bool.not_true]
  obtain hty | ⟨lo, hi, hty, _⟩ := h.form
  · simp [hty, Ty.size, beBytes_beNat]
  · simp [hty]

/-- The local port's right to KEY_SERVICE lowers no role. -/
theorem State.rank_le_writeRole : r.rank ≤ (s.writeRole o r ix sub).rank := by
  unfold State.writeRole
  split
  · cases r <;> decide
  · rfl

/-- A legal value of a row that the origin may use passes every check. -/
theorem Legal.checkWrite {q : Role} (h : Legal x (k / 256) (k % 256) v) (hx : WaitingRow k r x) (hq : r.rank ≤ q.rank)
    (hd : s.domOn (odDomain (k / 256)) = true) : s.checkWrite o q (k / 256) (k % 256) x.ty.code v = (0, some x) := by
  have hix := odFind_ix_lt hx.row
  have target : s.checkTarget (s.writeRole o q (k / 256) (k % 256)) .observer (k / 256) (k % 256) true Acc.writable = (0, some x) :=
    checkTarget_ok (.inl (by omega)) hx.row (by rw [hx.role]; exact hq.trans State.rank_le_writeRole) hx.writable hd
  unfold State.checkWrite
  rw [target]
  exact congrArg (·, some x) (h.checkValue hx.chg hx.noRule)

/-- The write of a legal value to a row of class L, by an origin that may use it. -/
theorem Legal.rowWrite (h : Legal x (k / 256) (k % 256) v) (hx : WaitingRow k r x) (hu : s.canUse o r (odDomain (k / 256)))
    (hf : x.acc = .cmd → s.cmdsFull (k / 256) (k % 256) v = false) :
    s.rowWrite o (k / 256) (k % 256) v = State.answer o (k / 256) (k % 256) (outOf ((s.touch o).putWrite o x (k / 256) (k % 256) v)) := by
  obtain ⟨ha, ⟨q, hr, hq⟩, hd⟩ := hu
  rw [State.rowWrite_of_row ha hr hx.row, State.opWrite_of_checks (h.checkWrite hx hq (by rwa [State.touch_domOn]))
    (State.arrivalRefused_of_noRule hx.noRule _) (fun hc _ => by rw [State.touch_cmdsFull, hf hc]) h.clampWrite]

/-- A command of class L waits for its boundary. -/
theorem Legal.rowWrite_cmd (h : Legal x (k / 256) (k % 256) v) (hx : WaitingRow k r x) (hc : x.acc = .cmd)
    (hu : s.canUse o r (odDomain (k / 256))) (hf : s.cmdsFull (k / 256) (k % 256) v = false) :
    s.rowWrite o (k / 256) (k % 256) v =
      (s.withStage (s.cmdWaits { org := o, ix := k / 256, sub := k % 256, val := v }) s.cairn).answered o k 0 0 [] := by
  have hkey : Reg.key (k / 256) (k % 256) = k := Nat.div_add_mod' k 256
  rw [h.rowWrite hx hu fun _ => hf, State.putWrite_cmd hc hx.chg (hasArrivalRule_eq_false.mp hx.noRule).1.1, State.touch_cmdWaits,
    State.touch_cairn, State.answer_withStage (odFind_sub_lt hx.row), hkey]

/-- A value of class L waits for the next boundary. -/
theorem Legal.rowWrite_live (h : Legal x (k / 256) (k % 256) v) (hx : WaitingRow k r x) (hc : x.acc ≠ .cmd)
    (hu : s.canUse o r (odDomain (k / 256))) :
    s.rowWrite o (k / 256) (k % 256) v = (s.withStage (s.liveWaits k (beNat v)) (s.settingKept k (beNat v))).answered o k 0 0 [] := by
  have hkey : Reg.key (k / 256) (k % 256) = k := Nat.div_add_mod' k 256
  rw [h.rowWrite hx hu fun hc' => absurd hc' hc, State.putWrite_live hx.row hc hx.notW1c (.inl hx.chg), State.touch_liveWaits,
    State.touch_settingKept, State.answer_withStage (odFind_sub_lt hx.row), hkey]

end

end Sys2Proof.Machine

/-! PROOFS. The commands and values that wait for their boundary (R14, R55, R487). -/

namespace Sys2Proof.Machine

/-! ### The rows of class L -/

/-- Is subindex `k` a writable row of class L, of role `r`, type `ty` and range `g`, a command or not, without a rule of its own? -/
def isWaitingRow (k : Nat) (r : Role) (ty : Ty) (g : Rng) (cmd : Bool) : Bool :=
  ((odFind (k / 256) (k % 256)).any fun x => x.acc.writable && x.acc != .w1c && x.chg == .l && x.role == r && x.ty == ty &&
    x.rng == g && (x.acc == .cmd) == cmd) && !hasArrivalRule (k / 256) (k % 256)

/-- Subindex `k` has a row of class L and role `r`, a command or not, and `v` is one of its legal values. -/
def TakesValue (k : Nat) (r : Role) (v : Bytes) (cmd : Bool) : Prop :=
  ∃ x, WaitingRow k r x ∧ (x.acc = .cmd ↔ cmd = true) ∧ Legal x (k / 256) (k % 256) v

section
variable {k lo hi : Nat} {r : Role} {ty : Ty} {g : Rng} {v : Bytes} {cmd : Bool}

theorem takesValue_of_row (h : isWaitingRow k r ty g cmd = true)
    (legal : ∀ x : Obj, x.ty = ty → x.rng = g → Legal x (k / 256) (k % 256) v) : TakesValue k r v cmd := by
  unfold isWaitingRow at h
  rw [Bool.and_eq_true, Option.any_eq_true, Bool.not_eq_true'] at h
  obtain ⟨⟨x, hx, hfields⟩, hrule⟩ := h
  simp only [Bool.and_eq_true, bne_iff_ne, beq_iff_eq] at hfields
  obtain ⟨⟨⟨⟨⟨⟨hw, hw1⟩, hl⟩, hr⟩, hty⟩, hg⟩, hc⟩ := hfields
  exact ⟨x, ⟨hx, hw, hw1, hl, hr, hrule⟩, by rw [← hc, beq_iff_eq], legal x hty hg⟩

/-- A number in a list of values. -/
theorem takesValue_number (h : isWaitingRow k r (.u v.length) g cmd = true) (hrec : carriesRecord (k / 256) (k % 256) = false)
    (listed : ∀ c, g.listed c (beNat v) = true) (applied : ∀ (c : RangeCtx) (x : Obj), x.ty = .u v.length → x.rng = g →
      x.applied c (beNat v) = beNat v) : TakesValue k r v cmd :=
  takesValue_of_row h fun x hty hg =>
    { form := .inl hty
      listed := by rw [hg]; exact listed
      applied := fun c => applied c x hty hg
      fields := recordListed_of_plain hrec
      unclamped := recordClamp_of_plain hrec }

/-- The 1 that starts a command. -/
theorem takesValue_one (h : isWaitingRow k r (.u 1) (.enum [1]) true = true) (hrec : carriesRecord (k / 256) (k % 256) = false) :
    TakesValue k r [1] true :=
  takesValue_number h hrec (fun _ => rfl) fun c x _ hg => by unfold Obj.applied; rw [hg]; rfl

/-- A record whose fields are legal. -/
theorem takesValue_record (h : isWaitingRow k r (.oct lo hi) .any cmd = true) (hlo : lo ≤ v.length) (hhi : v.length ≤ hi)
    (fields : ∀ d t, recordListed d t (k / 256) (k % 256) v = true) (unclamped : recordClamp (k / 256) (k % 256) v = ([], v)) :
    TakesValue k r v cmd :=
  takesValue_of_row h fun x hty hg =>
    { form := .inr ⟨lo, hi, hty, hlo, hhi⟩
      listed := by rw [hg]; exact fun _ => rfl
      applied := fun c => by unfold Obj.applied; rw [hg]; rfl
      fields := fields
      unclamped := unclamped }

end

theorem clampField_within {off n lo hi : Nat} {v : Bytes} (h1 : lo ≤ field v off n) (h2 : field v off n ≤ hi) :
    clampField off n lo hi ([], v) = ([], v) := by
  have same : clampNat lo hi (field v off n) = field v off n := by unfold clampNat; split_ifs <;> omega
  unfold clampField
  simp [same]

/-! ### The commands that write a subindex of class L -/

theorem isWaitingRow_stream : ∀ n < 8, isWaitingRow (Reg.streamMark n) .operator (.u 1) (.enum [1]) true = true ∧
    carriesRecord (Reg.streamMark n / 256) (Reg.streamMark n % 256) = false := by decide +kernel

theorem isWaitingRow_loop : ∀ n < 16, isWaitingRow (Reg.loopStart n) .operator (.u 1) (.enum [1]) true = true ∧
    carriesRecord (Reg.loopStart n / 256) (Reg.loopStart n % 256) = false ∧
    isWaitingRow (Reg.loopStop n) .operator (.u 1) (.enum [1]) true = true ∧
    carriesRecord (Reg.loopStop n / 256) (Reg.loopStop n % 256) = false := by decide +kernel

theorem isWaitingRow_append : ∀ n < 16, isWaitingRow (Reg.loopAppend n) .operator (.oct 16 16) .any false = true := by decide +kernel

theorem isWaitingRow_key : ∀ n < 3, isWaitingRow (Reg.keyObserver + n) .installer (.oct 32 32) .any false = true ∧
    carriesRecord ((Reg.keyObserver + n) / 256) ((Reg.keyObserver + n) % 256) = false := by decide +kernel

/-- A port number starts its discovery. -/
theorem takesValue_discStart {n : Nat} (h : n < 8) : TakesValue Reg.discStart .installer (beBytes 1 n) true := by
  have number : beNat (beBytes 1 n) = n := beNat_beBytes (by omega)
  refine takesValue_number (g := .span 0 7) (by rw [beBytes_length]; decide +kernel) (by decide +kernel) (fun c => ?_) fun c x _ hg => ?_
  · rw [number]; simp only [Rng.listed, Bool.and_eq_true, decide_eq_true_eq]; omega
  · unfold Obj.applied; rw [hg]; rfl

/-- A lamp, or all of them (R246). -/
theorem takesValue_clear {n : Nat} (h : n < 49152 ∨ n = 0xFFFF) : TakesValue Reg.clear .operator (beBytes 2 n) true := by
  have number : beNat (beBytes 2 n) = n := beNat_beBytes (by omega)
  refine takesValue_number (g := .dyn .lampOrAll) (by rw [beBytes_length]; decide +kernel) (by decide +kernel) (fun c => rfl)
    fun c x _ hg => ?_
  unfold Obj.applied
  rw [hg, number]
  show (if n = 0xFFFF then n else min 49151 n) = n
  split <;> omega

/-- A topo slot (R67). -/
theorem takesValue_selectSlot {n : Nat} (h : n = 1 ∨ n = 2) : TakesValue Reg.selectSlot .installer (beBytes 1 n) false := by
  refine takesValue_number (g := .num 1 2 1) (by rw [beBytes_length]; decide +kernel) (by decide +kernel) (fun c => rfl)
    fun c x hty hg => ?_
  unfold Obj.applied
  rw [hg, hty]
  rcases h with rfl | rfl <;> rfl

theorem takesValue_groupSet {g l : Nat} (h : g < 1024) : TakesValue Reg.groupSet .operator (beBytes 2 g ++ beBytes 2 l) true := by
  have number : field (beBytes 2 g ++ beBytes 2 l) 0 2 = g := field_beBytes_append (by omega) _
  refine takesValue_record (lo := 4) (hi := 4) (by decide +kernel) (by simp) (by simp) (fun d t => ?_) rfl
  show decide (field (beBytes 2 g ++ beBytes 2 l) 0 2 ≤ 1023) = true
  rw [number, decide_eq_true_eq]; omega

theorem takesValue_groupBind {v : Bytes} (hlen : v.length = 8) (hg : field v 0 2 < 1024) (hf : field v 2 2 < 4096 ∨ field v 2 2 = 0xFFFF)
    (hb : field v 4 1 < 32 ∨ field v 4 1 = 0xFF) : TakesValue Reg.groupBind .operator v true := by
  refine takesValue_record (lo := 8) (hi := 8) (by decide +kernel) (by omega) (by omega) (fun d t => ?_) rfl
  show (decide (field v 0 2 ≤ 1023) && (decide (field v 2 2 ≤ 4095) || field v 2 2 == 0xFFFF) &&
    (decide (field v 4 1 ≤ 31) || field v 4 1 == 0xFF)) = true
  simp only [Bool.and_eq_true, Bool.or_eq_true, decide_eq_true_eq, beq_iff_eq]; omega

theorem takesValue_fadeStart {v : Bytes} (hlen : v.length = 8) (hs : field v 0 2 < 4096) (hd : 0 < field v 4 2) (hc : field v 6 1 < 5) :
    TakesValue Reg.fadeStart .operator v true := by
  have := field_lt v 4 2
  refine takesValue_record (lo := 8) (hi := 8) (by decide +kernel) (by omega) (by omega) (fun d t => ?_)
    (clampField_within (lo := 1) (hi := 65535) (by omega) (by omega))
  show (decide (field v 0 2 ≤ 4095) && decide (field v 6 1 ≤ 4)) = true
  simp only [Bool.and_eq_true, decide_eq_true_eq]; omega

theorem takesValue_fadeStop {n : Nat} (h : n < 4096) : TakesValue Reg.fadeStop .operator (beBytes 2 n) true := by
  have number : field (beBytes 2 n) 0 2 = n := field_beBytes (by omega)
  refine takesValue_record (lo := 2) (hi := 2) (by decide +kernel) (by simp) (by simp) (fun d t => ?_) rfl
  show decide (field (beBytes 2 n) 0 2 ≤ 4095) = true
  rw [number, decide_eq_true_eq]; omega

theorem takesValue_rdmReq {v : Bytes} (hlen : v.length = 13 + field v 12 1) (hpd : field v 12 1 < 232) (hp : field v 0 1 < 8) :
    TakesValue Reg.rdmReq .operator v true := by
  refine takesValue_record (lo := 13) (hi := 244) (by decide +kernel) (by omega) (by omega) (fun d t => ?_) rfl
  show (decide (field v 0 1 ≤ 7) && decide (field v 12 1 ≤ 231) && v.length == 13 + field v 12 1) = true
  simp only [Bool.and_eq_true, decide_eq_true_eq, beq_iff_eq]; omega

section
variable {ix sub : Nat} {v : Bytes}

/-- The keys of APPEND lie among the loops', where no other record's key lies. -/
theorem key_append_ne (h : 0x451005 ≤ Reg.key ix sub ∧ Reg.key ix sub ≤ 0x451F05 ∧ sub = 5) {j : Nat}
    (hj : j < 0x451005 ∨ 0x451F05 < j) : Reg.key ix sub ≠ j := by omega

/-- The fields of a loop entry that check 8 looks at (R113). -/
theorem recordListed_append (h : 0x451005 ≤ Reg.key ix sub ∧ Reg.key ix sub ≤ 0x451F05 ∧ sub = 5) (d t : Nat) :
    recordListed d t ix sub v = decide (field v 0 2 ≤ 1023) := by
  have ne {j : Nat} (hj : j < 0x451005 ∨ 0x451F05 < j) : Reg.key ix sub ≠ j := key_append_ne h hj
  unfold recordListed
  simp only [ne (j := Reg.groupSet) (by decide), ne (j := Reg.groupBind) (by decide), ne (j := Reg.fadeStart) (by decide),
    ne (j := Reg.fadeStop) (by decide), ne (j := Reg.rdmReq) (by decide), ne (j := Reg.prioSet) (by decide),
    ne (j := Reg.acquire) (by decide), ne (j := Reg.renew) (by decide), ne (j := Reg.descCancel) (by decide), or_self, if_false]
  exact if_pos h

/-- The fields of a loop entry that are clamped (R113). -/
theorem recordClamp_append (h : 0x451005 ≤ Reg.key ix sub ∧ Reg.key ix sub ≤ 0x451F05 ∧ sub = 5) :
    recordClamp ix sub v = clampField 4 2 0 32767 (clampField 2 2 1 65535 ([], v)) := by
  have ne {j : Nat} (hj : j < 0x451005 ∨ 0x451F05 < j) : Reg.key ix sub ≠ j := key_append_ne h hj
  unfold recordClamp
  simp only [ne (j := Reg.fadeStart) (by decide), ne (j := Reg.prioSet) (by decide), ne (j := Reg.acquire) (by decide),
    ne (j := Reg.renew) (by decide), or_self, if_false]
  exact if_pos h

end

/-- A loop entry with a legal source, dwell and ramp (R113). -/
theorem takesValue_append {n : Nat} {v : Bytes} (hn : n < 16) (hlen : v.length = 16) (hs : field v 0 2 < 1024) (hd : 0 < field v 2 2)
    (hr : field v 4 2 < 32768) : TakesValue (Reg.loopAppend n) .operator v false := by
  have hdwell := field_lt v 2 2
  have loop : 0x451005 ≤ Reg.key (Reg.loopAppend n / 256) (Reg.loopAppend n % 256) ∧
      Reg.key (Reg.loopAppend n / 256) (Reg.loopAppend n % 256) ≤ 0x451F05 ∧ Reg.loopAppend n % 256 = 5 := by
    unfold Reg.key Reg.loopAppend; omega
  refine takesValue_record (isWaitingRow_append n hn) hlen.ge hlen.le (fun d t => ?_) ?_
  · rw [recordListed_append loop, decide_eq_true_eq]; omega
  · rw [recordClamp_append loop, clampField_within (by omega) (by omega), clampField_within (by omega) (by omega)]

/-- A command of class L that waits under no condition writes a legal value to its row. -/
theorem waitsAs_takesValue {c : Instr} {o : Origin} {k : Nat} {r : Role} {v : Bytes} (h : waitsAs c = some (o, k, r, v)) :
    TakesValue k r v true ∧ ∀ s, exec c s = s.done (s.rowWrite o (k / 256) (k % 256) v) := by
  unfold waitsAs at h
  split at h
  case h_1 | h_2 | h_3 | h_4 =>
    cases h
    exact ⟨takesValue_one (by decide +kernel) (by decide +kernel), fun s => rfl⟩
  case h_15 => cases h
  all_goals
    obtain ⟨hv, h⟩ := Option.ite_none_right_eq_some.mp h
    cases h
  case h_5 =>
    obtain ⟨hrow, hrec⟩ := isWaitingRow_stream _ hv
    exact ⟨takesValue_one hrow hrec, fun s => congrArg s.done (if_pos hv)⟩
  case h_6 =>
    obtain ⟨hrow, hrec, _⟩ := isWaitingRow_loop _ hv
    exact ⟨takesValue_one hrow hrec, fun s => congrArg s.done (if_pos hv)⟩
  case h_7 =>
    obtain ⟨_, _, hrow, hrec⟩ := isWaitingRow_loop _ hv
    exact ⟨takesValue_one hrow hrec, fun s => congrArg s.done (if_pos hv)⟩
  case h_8 => exact ⟨takesValue_discStart hv, fun s => rfl⟩
  case h_9 => exact ⟨takesValue_clear hv, fun s => rfl⟩
  case h_10 => exact ⟨takesValue_groupSet hv, fun s => rfl⟩
  case h_11 =>
    obtain ⟨hlen, hgroup, hfade, hband⟩ := hv
    exact ⟨takesValue_groupBind hlen hgroup hfade hband, fun s => rfl⟩
  case h_12 =>
    obtain ⟨hlen, hslot, hduration, hcurve⟩ := hv
    exact ⟨takesValue_fadeStart hlen hslot hduration hcurve, fun s => rfl⟩
  case h_13 => exact ⟨takesValue_fadeStop hv, fun s => rfl⟩
  case h_14 =>
    obtain ⟨hlen, hdata, hport⟩ := hv
    exact ⟨takesValue_rdmReq hlen hdata hport, fun s => rfl⟩

/-- A write of class L that is no command writes a legal value to its row. -/
theorem liveAs_takesValue {c : Instr} {o : Origin} {k : Nat} {r : Role} {v : Bytes} (h : liveAs c = some (o, k, r, v)) :
    TakesValue k r v false ∧ ∀ s, exec c s = s.done (s.rowWrite o (k / 256) (k % 256) v) := by
  unfold liveAs at h
  split at h
  · split at h <;> cases h
    next hn => exact ⟨takesValue_selectSlot hn, fun s => rfl⟩
  · split at h <;> cases h
    next hv =>
      obtain ⟨hn, hlen, hs, hd, hr⟩ := hv
      exact ⟨takesValue_append hn hlen hs hd hr, fun s => congrArg s.done (if_pos hn)⟩
  · split_ifs at h with hv hv' <;> cases h
    · obtain ⟨hn, hlen⟩ := hv
      obtain ⟨hrow, hrec⟩ := isWaitingRow_key _ hn
      exact ⟨takesValue_record hrow hlen.ge hlen.le (recordListed_of_plain hrec) (recordClamp_of_plain hrec),
        fun s => congrArg s.done (if_pos (by omega))⟩
    · obtain ⟨rfl, hlen⟩ := hv'
      have hrec : carriesRecord (Reg.keyService / 256) (Reg.keyService % 256) = false := by decide +kernel
      exact ⟨takesValue_record (lo := 32) (hi := 32) (by decide +kernel) hlen.ge hlen.le (recordListed_of_plain hrec)
        (recordClamp_of_plain hrec), fun s => rfl⟩
  · cases h

/-- Settles O16: `Legal.rowWrite_cmd` for the commands, `Legal.rowWrite_live` for the values. -/
theorem classLWaits : Obligations.ClassLWaits := by
  refine ⟨fun c o k r v h s hu hf => ?_, fun c o k r v h s hu => ?_⟩
  · obtain ⟨⟨x, hx, hc, legal⟩, hexec⟩ := waitsAs_takesValue h
    rw [hexec, legal.rowWrite_cmd hx (hc.mpr rfl) hu hf]
    rfl
  · obtain ⟨⟨x, hx, hc, legal⟩, hexec⟩ := liveAs_takesValue h
    rw [hexec, legal.rowWrite_live hx (fun h => nomatch hc.mp h) hu]
    rfl

end Sys2Proof.Machine

/-! PROOFS. Loops, the static state and fades at a tick (R111, R164 to R166, R183). -/

namespace Sys2Proof.Machine

/-! ### What a change of content touches -/

/-- `s` with all that a change of content may change taken from `t`. -/
def State.withContent (s t : State) : State :=
  { s with comp := t.comp, regs := t.regs, buf := t.buf, ev := t.ev, q := t.q, fbx := t.fbx, report := t.report }

/-- From `s` to `t` only content changed, and no loop. -/
structure LoopsKept (s t : State) : Prop where
  frame : t = s.withContent t
  loops : t.comp.loops = s.comp.loops

section
variable {s t u : State}

/-- A state with the commands that waited as its own is the outcome as it stands. -/
theorem State.done_of_pending (h : t.pending = s.pending) : s.done t = .next t := by rw [State.done_eq, ← h]

theorem LoopsKept.refl (s : State) : LoopsKept s s := ⟨rfl, rfl⟩

theorem LoopsKept.trans (h : LoopsKept s t) (g : LoopsKept t u) : LoopsKept s u :=
  ⟨g.frame.trans (congrArg (·.withContent u) h.frame), g.loops.trans h.loops⟩

theorem LoopsKept.foldl {α : Type} {f : State → α → State} (h : ∀ t x, LoopsKept t (f t x)) (l : List α) (s : State) :
    LoopsKept s (l.foldl f s) := by
  induction l generalizing s with
  | nil => exact .refl s
  | cons x l ih => exact (h s x).trans (ih _)

theorem LoopsKept.setReg (h : LoopsKept s t) (k v : Nat) : LoopsKept s (t.setReg k v) := h.trans ⟨rfl, rfl⟩

theorem LoopsKept.setRas (h : LoopsKept s t) (r : RasterSt) : LoopsKept s (t.setRas r) := h.trans ⟨rfl, rfl⟩

theorem LoopsKept.raise (h : LoopsKept s t) (ev : Nat) (p : Bytes) : LoopsKept s (t.raise ev p) :=
  h.trans ⟨by rw [State.raise_eq]; rfl, by rw [State.raise_comp]⟩

theorem State.colourTick_loopsKept (s : State) (c : Nat) : LoopsKept s (s.colourTick c) := by
  unfold State.colourTick
  extract_lets f v was fbx w
  have factors : LoopsKept s v := ((LoopsKept.refl s).setReg _ _).setReg _ _
  split
  · have counted : LoopsKept s w := ⟨rfl, rfl⟩
    split
    · exact counted
    · exact counted.raise _ _
  · exact factors.trans ⟨rfl, rfl⟩

theorem State.tempTick_loopsKept (s : State) : LoopsKept s s.tempTick := by
  unfold State.tempTick
  extract_lets on v temps weights
  have factors : LoopsKept s v := by
    unfold v
    split
    · exact .foldl State.colourTick_loopsKept _ s
    · exact .foldl (fun t c => ((LoopsKept.refl t).setReg _ _).setReg _ _) _ s
  exact factors.trans ⟨rfl, rfl⟩

theorem State.composeStart_loopsKept (s : State) : LoopsKept s s.composeStart := ⟨rfl, rfl⟩

/-- A change at a boundary ends the static state and may compose the tick after all; it moves no loop. -/
theorem State.lateChange_loopsKept (s : State) : LoopsKept s s.lateChange := by
  unfold State.lateChange
  split
  · exact (LoopsKept.refl s).setRas _
  · extract_lets r v w
    have quiet : LoopsKept s v := (LoopsKept.refl s).setRas _
    have ended : LoopsKept s w := (quiet.setReg _ _).raise _ _
    split
    · exact quiet
    · split
      · exact (((ended.setRas _).setReg _ _).trans (State.tempTick_loopsKept _)).trans (State.composeStart_loopsKept _)
      · exact ended

/-! ### Loops (R111) -/

variable {j i st : Nat} {e f : LoopEntry}

/-- An entry that becomes current. -/
theorem State.loopTo_loopsKept (h : (s.loop j).items[i]? = some e) :
    LoopsKept (s.setLoop j { s.loop j with cur := some e, pos := some i, tick := 0, state := st, moved := true }) (s.loopTo j i st) := by
  unfold State.loopTo
  simp only [h]
  refine LoopsKept.trans (t := State.noteChange _) ⟨rfl, rfl⟩ (.foldl (fun t k => ?_) _ _)
  split
  · exact ⟨rfl, rfl⟩
  · exact .refl t

/-- What the boundary adds to the advance of a loop: the tick counts as one with a change. -/
theorem State.loopStep_loopsKept (s : State) (j : Nat) : LoopsKept (s.loopAdvance j) (s.loopStep j) := by
  unfold State.loopStep
  extract_lets was t
  split
  · exact ((LoopsKept.refl t).setRas _).trans (State.lateChange_loopsKept _)
  · exact .refl t

theorem State.loopStep_of_quiet (h : (s.loopAdvance j).ras.change = s.ras.change) : s.loopStep j = s.loopAdvance j := by
  unfold State.loopStep
  simp [h]

/-- A loop with a current entry is one of the loops there are. -/
theorem State.loop_lt_of_cur (h : (s.loop j).cur = some e) : j < s.comp.loops.length := by
  by_contra hj
  rw [State.loop, List.getD_eq_default _ _ (by omega)] at h
  cases h

theorem State.loop_setLoop (h : j < s.comp.loops.length) (x : LoopSt) : (s.setLoop j x).loop j = x := by
  simp [State.loop, State.setLoop, h]

theorem LoopsKept.loop (h : LoopsKept s t) (j : Nat) : t.loop j = s.loop j := by rw [State.loop, h.loops, State.loop]

theorem State.loopAdvance_of_dwelling (hcur : (s.loop j).cur = some e) (htick : (s.loop j).tick < e.dwell) : s.loopAdvance j = s := by
  unfold State.loopAdvance
  simp [hcur, htick]

section
variable {p : Nat} (hcur : (s.loop j).cur = some e) (hstate : (s.loop j).state = 2) (hdwell : e.dwell ≤ (s.loop j).tick)
  (hpos : (s.loop j).pos = some p)
include hcur hstate hdwell hpos

theorem State.loopAdvance_next (hnext : p + 1 < (s.loop j).items.length) : s.loopAdvance j = s.loopTo j (p + 1) 2 := by
  unfold State.loopAdvance
  simp [hcur, hstate, hpos, hnext, Nat.not_lt.mpr hdwell]

theorem State.loopAdvance_last (hlast : (s.loop j).items.length ≤ p + 1) (hmark : (s.loop j).mark ≠ 1) :
    s.loopAdvance j = s.setLoop j { s.loop j with state := 3, tick := e.dwell - 1 } := by
  unfold State.loopAdvance
  simp [hcur, hstate, hpos, hmark, Nat.not_lt.mpr hdwell, Nat.not_lt.mpr hlast]

end

/-! ### Events at a tick -/

/-- What keeps an event's count and PENDING keeps that the event was counted. -/
theorem Counted.kept {ev : Nat} {ks : List Nat} (h : Counted ev s t) (k : RegsKept ks t u) (hc : Reg.evCount ev ∉ ks)
    (hp : Reg.pending ∉ ks) : Counted ev s u :=
  ⟨(k.reg hc).trans h.1, by rw [k.reg hp]; exact h.2⟩

theorem State.alive_of_shows (h : s.mode.mode = .onShow ∨ s.mode.mode = .holdover) : s.alive = true := by
  unfold State.alive
  rcases h with h | h <;> rw [h] <;> rfl

/-! ### The static state (R164, R165) -/

/-- The entry to the static state: STATIC_STATE reads 1, with EV07. -/
def State.staticBegun (s : State) : State := (s.setReg Reg.staticState 1).raise 7 []

theorem State.staticBegun_eq (s : State) : s.staticBegun = { s with
    regs := s.staticBegun.regs, ev := s.staticBegun.ev, q := s.staticBegun.q, report := s.staticBegun.report } :=
  State.raise_eq _ _ _

theorem State.staticEnter_of_busy (h : s.ras.quiet < 5 ∨ s.ras.change = true) : s.staticEnter = s := by
  unfold State.staticEnter
  rcases h with h | h
  · simp [Nat.not_le.mpr h]
  · simp [h]

section
variable (ok : s.storesOk)
include ok

theorem storesOk_staticBegun : s.staticBegun.storesOk := storesOk_raise (storesOk_setReg ok _ _) _ _

theorem counted_staticBegun (ha : s.alive = true) : Counted 7 s s.staticBegun :=
  (counted_raise (storesOk_setReg ok _ _) ha (by decide) []).of_reg (reg_setReg_ne ok 1 (by decide))

theorem staticBegun_kept : RegsKept ([Reg.staticState, Reg.staticTicks] ++ evKeys 7) s s.staticBegun :=
  ((RegsKept.refl _ s).setReg ok (by simp) 1).trans
    ((raise_kept (storesOk_setReg ok _ _) 7 []).mono (List.subset_append_right _ _))

theorem reg_staticBegun : s.staticBegun.reg Reg.staticState = 1 :=
  ((raise_kept (storesOk_setReg ok _ _) 7 []).reg (by decide)).trans (reg_setReg ok _ _)

/-- Where five ticks were quiet the static state begins; a tick that is not to be composed then counts as static. -/
theorem staticEnter_of_quiet (hdom : s.domOn 5 = true) (hen : s.flag Reg.staticEn = true)
    (hmode : s.mode.mode = .onShow ∨ s.mode.mode = .holdover) (hblank : s.ras.blank = 0) (hstate : s.reg Reg.staticState = 0)
    (hquiet : 5 ≤ s.ras.quiet) (hchange : s.ras.change = false) :
    RegsKept [Reg.staticTicks] s.staticBegun s.staticEnter ∧
      s.staticEnter = { s.staticBegun with regs := s.staticEnter.regs, comp := s.staticEnter.comp } := by
  have shows : s.mode.mode.shows = true := by rcases hmode with h | h <;> rw [h] <;> rfl
  unfold State.staticEnter
  simp only [hdom, hen, shows, hblank, hstate, hquiet, hchange, beq_self_eq_true, decide_true, Bool.not_false, Bool.and_self, if_true]
  split
  · exact ⟨RegsKept.refl _ _, rfl⟩
  · have idle := (RegsKept.refl [Reg.staticTicks] s.staticBegun).trans (u := s.staticBegun.setRas _) (RegsKept.of_regs rfl)
    exact ⟨idle.setReg (storesOk_staticBegun ok) (by simp) _, rfl⟩

end

/-! ### Fades (R183) -/

/-- The fades with those of a slot ended. -/
def endFades (slot : Nat) (l : List Fade) : List Fade := l.map fun g => if g.slot = slot then { g with ended := true } else g

theorem State.fadeDone_of_done {slot : Nat} {f : Fade} (hf : f ∈ s.buf.fades) (hslot : f.slot = slot) (ht : f.t = f.dur)
    (hended : f.ended = false) :
    s.fadeDone slot = ({ s with buf := { s.buf with fades := endFades slot s.buf.fades } } : State).raise 54 (beBytes 2 slot) :=
  if_pos (List.any_eq_true.mpr ⟨f, hf, by simp [hslot, ht, hended]⟩)

end

/-- Settles O39: `loopAdvance_next` and `loopAdvance_last` for the loops, where what the boundary adds moves no loop, `staticEnter_of_quiet`
for the static state, `fadeDone_of_done` for the fades. -/
theorem contentTicks : Obligations.ContentTicks := by
  refine ⟨fun j e f p s hcur hstate hdwell hpos hnext => ?_, fun j e p s hcur hstate hdwell hpos hlast hmark => ?_,
    fun j e s hcur htick => ?_, fun s ok hdom hen hmode hblank hstate hquiet hchange => ?_, fun s h => ?_,
    fun slot f s ok ha hf hslot ht hended => ?_⟩
  · have kept := State.loopStep_loopsKept s j
    rw [State.loopAdvance_next hcur hstate hdwell hpos (List.getElem?_eq_some_iff.mp hnext).1] at kept
    have kept := (State.loopTo_loopsKept hnext).trans kept
    have loop := (kept.loop j).trans (State.loop_setLoop (State.loop_lt_of_cur hcur) _)
    have frame : s.loopStep j = s.withContent (s.loopStep j) := kept.frame
    refine ⟨s.loopStep j, ?_, ?_, ?_, ?_, ?_, ?_, frame⟩
    · show s.done (s.loopStep j) = _
      exact State.done_of_pending (by rw [frame]; rfl)
    all_goals rw [loop]
  · show s.done (s.loopStep j) = _
    have last := State.loopAdvance_last hcur hstate hdwell hpos hlast hmark
    rw [State.loopStep_of_quiet (by rw [last]; rfl), last]
    rfl
  · show s.done (s.loopStep j) = _
    have still := State.loopAdvance_of_dwelling hcur htick
    rw [State.loopStep_of_quiet (by rw [still]), still]
    rfl
  · obtain ⟨kept, frame⟩ := staticEnter_of_quiet ok hdom hen hmode hblank hstate hquiet hchange
    have counted := counted_staticBegun ok (State.alive_of_shows hmode)
    refine ⟨s.staticEnter, State.done_of_pending (s := s) ?_, (kept.reg (by decide)).trans (reg_staticBegun ok),
      counted.kept kept (by decide) (by decide), (staticBegun_kept ok).trans (kept.mono (by simp)), ?_⟩
    · rw [frame, State.staticBegun_eq]
    · rw [frame, State.staticBegun_eq]
  · show s.done s.staticEnter = _
    rw [State.staticEnter_of_busy h]
    rfl
  · refine ⟨s.fadeDone slot, ?_, ?_⟩ <;> rw [State.fadeDone_of_done hf hslot ht hended]
    · exact (congrArg s.done (State.fadeDone_of_done hf hslot ht hended)).trans (State.done_of_pending (State.raise_pending _ _ _))
    · have marked : ({ s with buf := { s.buf with fades := endFades slot s.buf.fades } } : State).storesOk := ok
      refine ⟨counted_raise marked ha (by decide) _, raise_kept marked 54 _, State.raise_eq _ _ _⟩

end Sys2Proof.Machine

/-! PROOFS. The servo's states: an end of Sync that takes the unit to DARK (R274, R422). -/

namespace Sys2Proof.Machine

/-! ### The reference degraded in STAGING, with DARK as the reaction of TIME_REF -/

/-- A slave in STAGING, locked and awaiting a Sync, with DARK as the policy of TIME_REF. Among the requests for SHOW that the entry to
DARK refuses stands a command whose subindex is PENDING, 0x9100.01. -/
def awaitingSync : State :=
  { (State.reset.setReg Reg.servoState 2).setReg (Reg.policy 0x14) 2 with
    mode := { mode := .staging, showReqs := [{ org := .localPort, ix := 0x9100, sub := 1, val := [] }] }
    ptp := { lastSync := some 0 } }

theorem storesOk_awaitingSync : awaitingSync.storesOk :=
  storesOk_setReg (storesOk_setReg (by unfold State.storesOk; decide +kernel) _ _) _ _

theorem servo_awaitingSync : awaitingSync.servo = 2 := by decide +kernel

/-- The refusal writes 3, the state of a refused command, over PENDING: EV13 is pending no longer. -/
theorem pending_syncTimeout_awaitingSync : bit (awaitingSync.onSyncTimeout.reg Reg.pending) 13 = false := by decide +kernel

/-- Refutes O49: its seventh clause fails in `awaitingSync`. TIME_REF is captured unmasked in STAGING, its reaction enters DARK, and the
entry refuses every command in `showReqs`, writing 3 to the key of each (R487). The statement does not ask that these be REQ_SHOW commands,
and it allows the policy DARK; where one has the key of PENDING, bit 13 is lost. No command of the model puts anything but REQ_SHOW
there. -/
theorem not_servoStates : ¬ Obligations.ServoStates := by
  unfold Obligations.ServoStates
  rintro ⟨-, -, -, -, -, -, syncTimeout, -⟩
  obtain ⟨t, ht, -, -, hpending, -⟩ := syncTimeout 0 awaitingSync storesOk_awaitingSync rfl rfl (.inr servo_awaitingSync)
  have outcome : t = { awaitingSync.onSyncTimeout with pending := awaitingSync.pending } := (Host.Outcome.next.inj ht).symm
  have lost : t.reg Reg.pending = awaitingSync.onSyncTimeout.reg Reg.pending := reg_congr (by rw [outcome]) _
  rw [lost, pending_syncTimeout_awaitingSync] at hpending
  cases hpending

end Sys2Proof.Machine

/-! PROOFS. The local clock and the tick boundaries (R41, R262). -/

namespace Sys2Proof.Machine

/-! ### The local clock (R262) -/

/-- One pass of the loop of R262: a CCLK cycle adds `2 ^ 32` plus the trim to the fraction and carries into the nanoseconds. -/
def clockCycle (c : ClockSt) : ClockSt :=
  let a := (c.frac : Int) + ((two32 : Int) + c.trim)
  { c with frac := (a % (two32 : Int)).toNat, ns := (c.ns + (a / (two32 : Int)).toNat) % clockWrap, cclk := c.cclk + 1 }

theorem two32_cast : (two32 : Int) = 4294967296 := rfl

theorem clockAdvance_zero {c : ClockSt} (h : c.ok) : clockAdvance 0 c = c := by
  obtain ⟨hns, hfrac⟩ := h
  have whole : (c.frac : Int) / (two32 : Int) = 0 := Int.ediv_eq_zero_of_lt (Int.natCast_nonneg _) (by exact_mod_cast hfrac)
  have part : (c.frac : Int) % (two32 : Int) = c.frac := Int.emod_eq_of_lt (Int.natCast_nonneg _) (by exact_mod_cast hfrac)
  unfold clockAdvance
  simp only [Nat.cast_zero, zero_mul, add_zero, whole, part, Int.toNat_zero, Int.toNat_natCast, Nat.mod_eq_of_lt hns]

/-- One cycle more is one more pass: what the cycles before left of the fraction goes into the next one's sum. -/
theorem clockAdvance_succ {c : ClockSt} (hrate : 0 ≤ (two32 : Int) + c.trim) (n : Nat) :
    clockAdvance (n + 1) c = clockCycle (clockAdvance n c) := by
  have sum : 0 ≤ (c.frac : Int) + n * ((two32 : Int) + c.trim) := by positivity
  unfold clockCycle clockAdvance
  simp only [two32_cast] at hrate sum ⊢
  generalize (4294967296 : Int) + c.trim = rate at hrate sum ⊢
  have total : (c.frac : Int) + ((n + 1 : Nat) : Int) * rate = (c.frac : Int) + n * rate + rate := by push_cast; ring
  rw [total]
  generalize (c.frac : Int) + n * rate = a at sum ⊢
  have left : ((a % 4294967296).toNat : Int) = a % 4294967296 := Int.toNat_of_nonneg (by omega)
  have frac : (a % 4294967296 + rate) % 4294967296 = (a + rate) % 4294967296 := by omega
  have carry : ((a + rate) / 4294967296).toNat = (a / 4294967296).toNat + ((a % 4294967296 + rate) / 4294967296).toNat := by
    omega
  simp only [left, frac, carry, Nat.mod_add_mod, Nat.add_assoc]

theorem clockAdvance_eq_repeat {c : ClockSt} (h : c.ok) (hrate : 0 ≤ (two32 : Int) + c.trim) (n : Nat) :
    clockAdvance n c = Nat.repeat clockCycle n c := by
  induction n with
  | zero => exact clockAdvance_zero h
  | succ n ih => rw [clockAdvance_succ hrate, ih]; rfl

/-! ### Tick boundaries (R41) -/

section
variable {num den n m t : Nat}

theorem ceilDiv_le_iff (hd : 0 < den) : ceilDiv t den ≤ m ↔ t ≤ m * den := by
  rw [ceilDiv, ← Nat.lt_succ_iff, Nat.div_lt_iff_lt_mul hd, Nat.succ_mul]
  omega

/-- The boundary of tick `n` is at or after `t` when `n` ticks are as long as `t`. -/
theorem le_boundary_iff (hn : 0 < num) : t ≤ boundary num den n ↔ t * num ≤ n * (den * nsPerSec) := by
  rw [boundary, Nat.le_div_iff_mul_le hn, Nat.mul_assoc]

theorem leastBoundary_le_iff (hn : 0 < num) (hd : 0 < den) : leastBoundary num den t ≤ m ↔ t ≤ boundary num den m := by
  rw [leastBoundary, if_neg hn.ne', ceilDiv_le_iff (Nat.mul_pos hd (by decide)), le_boundary_iff hn]

theorem boundary_mono : boundary num den n ≤ boundary num den (n + 1) := by
  unfold boundary
  gcongr
  omega

end

/-- Settles O6: `clockAdvance_eq_repeat` for the clock, `leastBoundary_le_iff` for the least tick. -/
theorem clockAndBoundaries : Obligations.ClockAndBoundaries := by
  refine ⟨fun c n ok hlo hhi => clockAdvance_eq_repeat ok (by rw [two32_cast]; omega) n, fun num den n t hn hd =>
    ⟨rfl, boundary_mono, (leastBoundary_le_iff hn hd).mp le_rfl, fun m => (leastBoundary_le_iff hn hd).mpr⟩⟩

end Sys2Proof.Machine

/-! SUPPORT. Several registers at once, and the updates that only drive outputs, raise events or make reject records (R232, R252, R361). -/

namespace Sys2Proof.Machine

/-! ### Several registers -/

section
variable {s t u : State} {ks : List Nat}

theorem State.setRegs_eq (s : State) (l : List (Nat × Nat)) : s.setRegs l = { s with regs := (s.setRegs l).regs } := by
  induction l generalizing s with
  | nil => rfl
  | cons p l ih => exact ih (s.setReg p.1 p.2)

/-- From `s` to `t` no register but those in `ks` changed, and the stores of `t` are canonical. -/
structure Keeps (ks : List Nat) (s t : State) : Prop where
  stores : t.storesOk
  regs : RegsKept ks s t

theorem Keeps.refl (ok : s.storesOk) : Keeps ks s s := ⟨ok, RegsKept.refl ks s⟩

theorem Keeps.trans (h : Keeps ks s t) (g : Keeps ks t u) : Keeps ks s u := ⟨g.stores, h.regs.trans g.regs⟩

theorem Keeps.mono {js : List Nat} (h : Keeps ks s t) (hs : ks ⊆ js) : Keeps js s t := ⟨h.stores, h.regs.mono hs⟩

theorem Keeps.reg {k : Nat} (h : Keeps ks s t) (hk : k ∉ ks) : t.reg k = s.reg k := h.regs.reg hk

theorem Keeps.setReg {k : Nat} (h : Keeps ks s t) (hk : k ∈ ks) (v : Nat) : Keeps ks s (t.setReg k v) :=
  ⟨storesOk_setReg h.stores k v, h.regs.setReg h.stores hk v⟩

theorem Keeps.setRegs {l : List (Nat × Nat)} (h : Keeps ks s t) (hl : ∀ p ∈ l, p.1 ∈ ks) : Keeps ks s (t.setRegs l) := by
  induction l generalizing t with
  | nil => exact h
  | cons p l ih => exact ih (h.setReg (hl p (by simp)) p.2) fun q hq => hl q (by simp [hq])

theorem Keeps.raise {ev : Nat} (h : Keeps ks s t) (he : evKeys ev ⊆ ks) (p : Bytes) : Keeps ks s (t.raise ev p) :=
  ⟨storesOk_raise h.stores ev p, h.regs.trans ((raise_kept h.stores ev p).mono he)⟩

theorem Keeps.foldl {α : Type} {f : State → α → State} (l : List α) (hf : ∀ t, t.storesOk → ∀ x ∈ l, Keeps ks t (f t x))
    (ok : s.storesOk) : Keeps ks s (l.foldl f s) := by
  induction l generalizing s with
  | nil => exact .refl ok
  | cons x l ih =>
    have first := hf s ok x (by simp)
    exact first.trans (ih (fun t ht y hy => hf t ht y (by simp [hy])) first.stores)

end

/-! ### Outputs, events and reports -/

/-- `s` with all that driving outputs, ending a calibration, raising an event or making a reject record may change taken from `t`. -/
def State.withOutputs (s t : State) : State :=
  { s with regs := t.regs, pins := { s.pins with out := t.pins.out }, fbx := t.fbx, cal := t.cal, egress := t.egress, ev := t.ev,
           q := t.q, report := t.report, sent := t.sent }

/-- From `s` to `t` nothing but that changed. -/
def OutputsOnly (s t : State) : Prop := t = s.withOutputs t

section
variable {s t u : State}

theorem OutputsOnly.refl (s : State) : OutputsOnly s s := rfl

theorem OutputsOnly.trans (h : OutputsOnly s t) (g : OutputsOnly t u) : OutputsOnly s u :=
  Eq.trans g (congrArg (·.withOutputs u) h)

theorem OutputsOnly.foldl {α : Type} {f : State → α → State} (h : ∀ t x, OutputsOnly t (f t x)) (l : List α) (s : State) :
    OutputsOnly s (l.foldl f s) := by
  induction l generalizing s with
  | nil => exact .refl s
  | cons x l ih => exact (h s x).trans (ih _)

theorem OutputsOnly.setReg (h : OutputsOnly s t) (k v : Nat) : OutputsOnly s (t.setReg k v) := h.trans (u := t.setReg k v) rfl

theorem OutputsOnly.raise (h : OutputsOnly s t) (ev : Nat) (p : Bytes) : OutputsOnly s (t.raise ev p) :=
  h.trans (by unfold OutputsOnly; rw [State.raise_eq]; rfl)

theorem OutputsOnly.sinksOff (s : State) : OutputsOnly s s.sinksOff := by
  unfold OutputsOnly; rw [State.sinksOff_eq]; rfl

theorem OutputsOnly.setDen (s : State) (level : Bool) : OutputsOnly s (s.setDen level) := by
  unfold State.setDen
  split
  · rfl
  · cases level <;> rfl

theorem OutputsOnly.railOff (s : State) (n : Nat) : OutputsOnly s (s.railOff n) := (OutputsOnly.setDen s false).trans rfl

theorem OutputsOnly.calReturn (s : State) (p : Nat) : OutputsOnly s (s.calReturn p) := by
  unfold State.calReturn
  split
  · exact (OutputsOnly.refl s).setReg _ _
  · exact .refl s

theorem OutputsOnly.calDark (s : State) : OutputsOnly s s.calDark := by
  unfold State.calDark
  split
  · exact (OutputsOnly.sinksOff s).trans (.railOff _ 0)
  · exact .sinksOff s

theorem OutputsOnly.calAbort (s : State) (cause : Nat) : OutputsOnly s (s.calAbort cause) := by
  unfold State.calAbort
  split
  · exact .refl s
  · extract_lets dark out done cal ended states
    have sinks : OutputsOnly s dark := by
      unfold dark
      split
      · exact .calDark s
      · exact .refl s
    have port : OutputsOnly dark out := by
      unfold out
      split
      · exact .calReturn dark _
      · exact .refl dark
    have left : OutputsOnly s ended := (sinks.trans port).trans rfl
    exact (((left.setReg _ _).setReg _ _).setReg _ _).raise _ _

theorem OutputsOnly.rejected (s : State) (ix sub : Nat) (src : Nat × Nat) (abort detail effect : Nat) :
    OutputsOnly s (s.rejected ix sub src abort detail effect) := by
  unfold OutputsOnly; rw [State.rejected_eq]; rfl

theorem OutputsOnly.refuseAt (s : State) (c : LCmd) (abort : Nat) : OutputsOnly s (s.refuseAt c abort) :=
  ((OutputsOnly.refl s).setReg _ _).trans (.rejected _ _ _ _ _ _ _)

theorem OutputsOnly.darkOutputs (s : State) : OutputsOnly s s.darkOutputs :=
  (((OutputsOnly.sinksOff s).trans (.railOff _ 0)).trans (.calAbort _ 1)).trans rfl

theorem OutputsOnly.stagingOutputs (s : State) : OutputsOnly s s.stagingOutputs :=
  ((OutputsOnly.sinksOff s).trans (.railOff _ 0)).trans rfl

end

end Sys2Proof.Machine

/-! PROOFS. Power-up and RESET_N (R50, R461, R465). -/

namespace Sys2Proof.Machine

section
variable {s : State}

/-! ### Power-up (R461) -/

theorem State.powerUp_eq (h : s.mode.boot = .unpowered) : s.powerUp =
    { s.setReg Reg.lastCause 0 with
      clock := clockAdvance 2000000 s.clock
      lcl := if s.pins.resetN then {} else s.lcl
      mode := if s.pins.resetN then
          { s.mode with boot := bootOf s.pins.bootSel, bootSel := s.pins.bootSel, bootAt := (clockAdvance 2000000 s.clock).cclk }
        else { s.mode with boot := .held }
      power := { s.power with dom := if s.pins.resetN then (s.power.dom.set 0 2).set 1 2 else s.power.dom.set 0 2 } } := by
  unfold State.powerUp
  rw [h]
  cases hpin : s.pins.resetN with
  | false => simp only [beq_self_eq_true, if_true, if_false, State.setReg_pins, State.pass_pins, hpin, Bool.false_eq_true]; rfl
  | true => simp only [beq_self_eq_true, if_true, State.setReg_pins, State.pass_pins, hpin]; rfl

/-! ### Entry to RESET (R46, R50) -/

/-- `s` as an entry to RESET begins: the sinks, DEN and the transfers under way have ended. -/
def State.workEnded (s : State) : State := s.xfer.open_.foldl State.eraseTransfer (s.sinksOff.setDen false)

theorem State.eraseTransfer_eq (s : State) (x : Transfer) : s.eraseTransfer x = { s with flash := (s.eraseTransfer x).flash } := by
  unfold State.eraseTransfer
  split <;> rfl

theorem State.eraseTransfers_eq (l : List Transfer) (s : State) :
    l.foldl State.eraseTransfer s = { s with flash := (l.foldl State.eraseTransfer s).flash } := by
  induction l generalizing s with
  | nil => rfl
  | cons x l ih =>
    have h := ih (s.eraseTransfer x)
    rw [State.eraseTransfer_eq] at h
    rw [List.foldl_cons, State.eraseTransfer_eq]
    exact h

theorem State.workEnded_eq (s : State) : s.workEnded = { s.withOutputs s.workEnded with flash := s.workEnded.flash } := by
  have sinks : OutputsOnly s (s.sinksOff.setDen false) := (OutputsOnly.sinksOff s).trans (.setDen _ false)
  unfold State.workEnded
  generalize s.sinksOff.setDen false = v at sinks ⊢
  rw [State.eraseTransfers_eq]
  generalize (s.xfer.open_.foldl State.eraseTransfer v).flash = f
  rw [sinks]
  rfl

/-- With no transfer under way no flash is erased. -/
theorem State.workEnded_flash (h : s.xfer.open_ = []) : s.workEnded.flash = s.flash := by
  have sinks : OutputsOnly s (s.sinksOff.setDen false) := (OutputsOnly.sinksOff s).trans (.setDen _ false)
  unfold State.workEnded
  rw [h, List.foldl_nil, sinks]
  rfl

/-- `s` cleared by an entry to RESET with LAST_CAUSE `cause`. -/
def State.clearedFor (s : State) (cause : Nat) : State :=
  s.workEnded.cleared (cause == 1)
    (s.workEnded.flag Reg.hearthRetEn && cause != 0 && (s.workEnded.domState 3 == 2 || s.workEnded.domState 3 == 3))

/-- An entry to RESET leaves the cleared state, with the tick's index and LAST_CAUSE. -/
theorem State.enterReset_eq_setReg (s : State) (cause : Nat) :
    s.enterReset cause = ((s.clearedFor cause).setRegs s.workEnded.indexReset).setReg Reg.lastCause cause := rfl

theorem State.enterReset_eq (s : State) (cause : Nat) :
    s.enterReset cause = { s.clearedFor cause with regs := (s.enterReset cause).regs } := by
  rw [State.enterReset_eq_setReg, State.setRegs_eq]
  rfl

theorem reg_enterReset (ok : s.storesOk) (cause : Nat) : (s.enterReset cause).reg Reg.lastCause = cause := by
  have ended : Good s s.workEnded :=
    .foldl _ (State.setDen_good _ _ (State.sinksOff_good _ (.refl s))) fun t x h => State.eraseTransfer_good t x h
  have cleared : Good s (s.clearedFor cause) := State.cleared_good ended _ _
  rw [State.enterReset_eq_setReg]
  exact reg_setReg ((State.setRegs_good _ _ cleared).stores ok) _ _

/-! ### RESET_N rises (R50) -/

theorem State.resetRise_eq {sel : Nat} (hpin : s.pins.resetN = false) (hboot : s.mode.boot = .held) (hsup : s.power.outOf = []) :
    s.resetRise sel =
      ({ s with pins := { s.pins with resetN := true, bootSel := sel % 4 } }.reachCclk (s.power.railsAt + 2000000)).bootStart (sel % 4) := by
  unfold State.resetRise
  simp [hpin, hboot, hsup, ms]

end

/-- Settles O12: `powerUp_eq`, `enterReset_eq` for RESET_N falling, `resetRise_eq` for its rise. -/
theorem powerAndResetPins : Obligations.PowerAndResetPins := by
  refine ⟨fun s ok hboot => ?_, fun s ok hboot => ?_, fun sel s hpin hboot hsup => ?_⟩
  · have up := State.powerUp_eq hboot
    refine ⟨s.powerUp, State.done_of_pending (by rw [up]; rfl), by rw [up]; rfl, ?_, ?_, ?_, by rw [up], ?_⟩
    · rw [up]; exact reg_setReg ok Reg.lastCause 0
    · rw [up]; exact (RegsKept.refl _ s).setReg ok (by simp) 0
    all_goals rw [up]; cases s.pins.resetN <;> rfl
  · have low : ∃ u : State, u = { s with pins := { s.pins with resetN := false } } ∧ s.resetLow = u.enterReset 1 := by
      refine ⟨_, rfl, if_neg (by simpa using hboot)⟩
    obtain ⟨u, hu, low⟩ := low
    have cleared := State.enterReset_eq u 1
    have ended := State.workEnded_eq u
    have flash (h : s.xfer.open_ = []) : u.workEnded.flash = s.flash := by
      rw [State.workEnded_flash (by rw [hu]; exact h), hu]
    have cause : (u.enterReset 1).reg Reg.lastCause = 1 := reg_enterReset (by rw [hu]; exact ok) 1
    unfold State.clearedFor at cleared
    generalize u.workEnded = v at cleared ended flash
    generalize u.enterReset 1 = t at low cleared cause
    subst hu
    refine ⟨t, (congrArg s.done low).trans (State.done_of_pending (by rw [cleared, ended]; rfl)), ?_, ?_, cause, ?_, ?_, ?_, ?_, ?_, ?_, ?_, ?_,
      ?_, fun h => by rw [cleared]; exact flash h, ?_, ?_⟩
    all_goals rw [cleared, ended]; rfl
  · have rise := State.resetRise_eq (sel := sel) hpin hboot hsup
    refine ⟨s.resetRise sel, State.done_of_pending (by rw [rise]; rfl), ?_, by rw [rise]; rfl⟩
    rw [rise]
    show s.clock.cclk + (s.power.railsAt + 2000000 - s.clock.cclk) = _
    omega

end Sys2Proof.Machine

/-! PROOFS. The boot sequence (R51). -/

namespace Sys2Proof.Machine

section
variable {s : State}

/-! ### The boot ROM and the self-test -/

theorem State.fillLatch_eq (s : State) (r : FaultRec) : s.fillLatch r = { s with belay := (s.fillLatch r).belay } := by
  unfold State.fillLatch
  split <;> rfl

/-- A boot that fails leaves all but its stage and the belay monitor. -/
theorem State.bootFails_eq (s : State) (c : Nat) : s.bootFails c =
    { s with mode := { s.mode with boot := if s.mode.boot == .download then .download else .failed }, belay := (s.bootFails c).belay } := by
  have latched := State.fillLatch_eq s { s.faultRec c 0xFF 0 0 false false with flags := 2 }
  unfold State.bootFails
  dsimp only at latched ⊢
  generalize s.fillLatch _ = v at latched ⊢
  rw [latched]

/-- A boot that fails out of its image's download is over. -/
theorem bootFails_over (h : s.mode.boot = .rom ∨ s.mode.boot = .verified) (c : Nat) :
    (s.bootFails c).mode.boot = .failed ∧ (s.bootFails c).belay.bootFail = true := by
  constructor
  · rw [State.bootFails_eq]
    rcases h with h | h <;> simp [h]
  · rfl

theorem State.firmwareVerify_some {p f : Bool} {i : FwImg} {n : Nat} (hboot : s.mode.boot = .rom) (hlate : s.bootLate 60 = false)
    (himg : s.bootImage p f = some (i, n)) : s.firmwareVerify p f =
      (({ s with fw := { s.fw with running := some i }, mode := { s.mode with boot := .verified } }).setReg Reg.fwVersion i.version).setReg
        Reg.fwRunning n := by
  unfold State.firmwareVerify
  simp only [hboot, hlate, himg, beq_self_eq_true, if_true, Bool.false_eq_true, if_false]
  rfl

theorem State.firmwareVerify_none {p f : Bool} (hboot : s.mode.boot = .rom) (h : s.bootImage p f = none ∨ s.bootLate 60 = true) :
    s.firmwareVerify p f = s.bootFails 1 := by
  have noImage : (if s.bootLate 60 then none else s.bootImage p f) = none := by
    rcases h with h | h <;> simp [h]
  unfold State.firmwareVerify
  rw [hboot, noImage]
  rfl

theorem State.hearthOn_eq (s : State) : s.hearthOn =
    { s with regs := s.hearthOn.regs, power := { s.power with dom := s.power.dom.set 3 2 }
             q := { rx := List.replicate 8 { hold := true, stage := 7, limit := 1024 } } } := by
  unfold State.hearthOn
  extract_lets q v
  rw [State.setRegs_eq]

theorem State.selfTest_passed (hboot : s.mode.boot = .verified) (hlatch : s.belay.latchDark = false) (hlate : s.bootLate 120 = false) :
    s.selfTest true = { s.hearthOn with mode := { s.mode with boot := .tested } } := by
  have on := State.hearthOn_eq s
  unfold State.selfTest
  generalize s.hearthOn = t at on ⊢
  have latch : t.belay.latchDark = false := by rw [on]; exact hlatch
  have late : t.bootLate 120 = false := by rw [on]; exact hlate
  have mode : t.mode = s.mode := by rw [on]
  simp [hboot, latch, late, mode]

theorem State.selfTest_failed {pass : Bool} (hboot : s.mode.boot = .verified)
    (h : pass = false ∨ s.belay.latchDark = true ∨ s.bootLate 120 = true) : s.selfTest pass = s.hearthOn.bootFails 2 := by
  have on := State.hearthOn_eq s
  unfold State.selfTest
  generalize s.hearthOn = t at on ⊢
  have latch : t.belay.latchDark = s.belay.latchDark := by rw [on]
  have late : t.bootLate 120 = s.bootLate 120 := by rw [on]; rfl
  have stops : (pass && !t.belay.latchDark && !t.bootLate 120) = false := by
    rw [latch, late]
    rcases h with h | h | h <;> simp [h]
  simp [hboot, stops]

/-! ### The cairn is read -/

theorem State.calLoad_eq (s : State) (read : Bool) : s.calLoad read =
    { s with regs := (s.calLoad read).regs, cal := (s.calLoad read).cal } := by
  unfold State.calLoad
  dsimp only
  split <;> rfl

/-- What the cairn gives: the dictionary's fields, the keys, the latch of the last boot and the calibration. -/
theorem State.cairnLoad_eq (s : State) : s.cairnLoad =
    { s with regs := s.cairnLoad.regs, ctl := { s.ctl with keys := s.cairn.keys }
             belay := { s.belay with lastBoot := s.cairn.latch }, cal := s.cairnLoad.cal } := by
  unfold State.cairnLoad
  extract_lets c fields pre pos belay ctl given
  have fieldsOnly : pre = { s with regs := pre.regs } := by
    show ((s.setRegs _).setRegs _).setReg _ _ = { s with regs := (((s.setRegs _).setRegs _).setReg _ _).regs }
    rw [State.setRegs_eq, State.setRegs_eq s]
    rfl
  have posOnly : pos = { s with regs := pos.regs } := by
    unfold pos
    split
    · rw [State.setRegs_eq, fieldsOnly]
    · exact fieldsOnly
  have load := State.calLoad_eq given (!given.bootLate 130)
  generalize given.calLoad _ = t at load ⊢
  rw [load]
  dsimp only [given, ctl, belay]
  clear_value pos
  rw [posOnly]

/-- `s` with what the cairn gives; a read that takes longer than 130 ms gives nothing. -/
def State.cairnGiven (s : State) : State :=
  if s.bootLate 130 then { ({ s with cairn := {} } : State).cairnLoad with cairn := s.cairn } else s.cairnLoad

theorem State.cairnGiven_eq (s : State) : s.cairnGiven =
    { s with regs := s.cairnGiven.regs, ctl := { s.ctl with keys := s.cairnGiven.ctl.keys }
             belay := { s.belay with lastBoot := s.cairnGiven.belay.lastBoot }, cal := s.cairnGiven.cal } := by
  unfold State.cairnGiven
  split
  · have load := State.cairnLoad_eq { s with cairn := {} }
    generalize ({ s with cairn := {} } : State).cairnLoad = t at load ⊢
    rw [load]
  · have load := State.cairnLoad_eq s
    generalize s.cairnLoad = t at load ⊢
    rw [load]

/-- `s` in ROPING, with the DARK outputs released. -/
def State.inRoping (s : State) : State :=
  { s with mode := { s.mode with mode := .roping, boot := .running, ropingAt := s.clock.cclk,
                                 darkRec := if s.pins.darkN then none else some 4 }
           belay := { s.belay with darkOut := false }, lcl := {} }

/-- The DMX ports mark, the scrubbing of the Hearth begins, and ROPE starts to switch on. -/
def State.ropeStarts (s : State) : State := ((List.range 8).foldl (fun (s : State) n => s.setDe n true) (s.scrubPass false)).startDomain 2

theorem OutputsOnly.setDe (s : State) (n : Nat) (level : Bool) : OutputsOnly s (s.setDe n level) := by
  unfold State.setDe
  extract_lets m m'
  split
  · exact .refl s
  · rfl

theorem State.setDom_eq (s : State) (d n : Nat) : s.setDom d n = { s.withOutputs (s.setDom d n) with power := (s.setDom d n).power } := by
  unfold State.setDom
  split
  · rfl
  · rw [State.raise_eq]; rfl

theorem State.ropeStarts_eq (s : State) : s.ropeStarts =
    { s.withOutputs s.ropeStarts with sched := s.ropeStarts.sched, power := s.ropeStarts.power } := by
  have marks : OutputsOnly (s.scrubPass false) _ := .foldl (fun t n => OutputsOnly.setDe t n true) (List.range 8) (s.scrubPass false)
  unfold State.ropeStarts State.startDomain
  generalize (List.range 8).foldl _ _ = t at marks ⊢
  rw [State.setDom_eq, marks]
  rfl

theorem State.cairnRead_eq (h : s.mode.boot = .tested) : s.cairnRead false = s.cairnGiven.inRoping.ropeStarts := by
  unfold State.cairnRead
  rw [h]
  rfl

theorem State.cairnGiven_inTime (h : s.bootLate 130 = false) :
    s.cairnGiven.ctl.keys = s.cairn.keys ∧ s.cairnGiven.belay.lastBoot = s.cairn.latch := by
  unfold State.cairnGiven
  rw [h, if_neg Bool.false_ne_true, State.cairnLoad_eq]
  exact ⟨rfl, rfl⟩

end

/-- Settles O13: `firmwareVerify_some` and `selfTest_passed` for the steps that succeed, `bootFails_over` for those that fail,
`cairnRead_eq` for the entry to ROPING. -/
theorem bootSequence : Obligations.BootSequence := by
  refine ⟨fun p f s i n ok hboot hlate himg => ?_, fun p f s hboot h => ?_, fun s hboot hlatch hlate => ?_, fun pass s hboot h => ?_,
    fun s hboot => ?_⟩
  · have run := State.firmwareVerify_some hboot hlate himg
    have img : Keeps [Reg.fwVersion, Reg.fwRunning] s
        { s with fw := { s.fw with running := some i }, mode := { s.mode with boot := .verified } } := ⟨ok, .of_regs rfl⟩
    have version := img.setReg (k := Reg.fwVersion) (by simp) i.version
    have kept := (version.setReg (k := Reg.fwRunning) (by simp) n).regs
    have hversion := (reg_setReg_ne (k := Reg.fwRunning) version.stores n (by decide)).trans (reg_setReg img.stores Reg.fwVersion i.version)
    have hrunning := reg_setReg version.stores Reg.fwRunning n
    rw [← run] at kept hversion hrunning
    refine ⟨s.firmwareVerify p f, State.done_of_pending (by rw [run]; rfl), by rw [run]; rfl, by rw [run]; rfl, hversion, hrunning, kept,
      by rw [run]; rfl⟩
  · have failed := State.firmwareVerify_none hboot h
    have frame := State.bootFails_eq s 1
    obtain ⟨boot, fails⟩ := bootFails_over (.inl hboot) 1
    rw [← failed] at frame boot fails
    exact ⟨s.firmwareVerify p f, State.done_of_pending (by rw [frame]), boot, fails, by rw [frame], by rw [frame]⟩
  · have passed := State.selfTest_passed hboot hlatch hlate
    rw [State.hearthOn_eq] at passed
    refine ⟨s.selfTest true, State.done_of_pending (by rw [passed]), ?_, ?_, ?_, ?_, ?_⟩
    all_goals rw [passed]
    rfl
  · have failed := State.selfTest_failed hboot h
    have on := State.hearthOn_eq s
    have frame := State.bootFails_eq s.hearthOn 2
    obtain ⟨boot, fails⟩ := bootFails_over (.inr ((congrArg (fun t : State => t.mode.boot) on).trans hboot)) 2
    rw [← failed] at frame boot fails
    exact ⟨s.selfTest pass, State.done_of_pending (by rw [frame, on]), boot, fails⟩
  · have read := State.cairnRead_eq hboot
    have given := State.cairnGiven_eq s
    have inTime := State.cairnGiven_inTime (s := s)
    generalize s.cairnGiven = u at read given inTime
    have starts := State.ropeStarts_eq u.inRoping
    rw [← read] at starts
    have darkN : u.pins.darkN = s.pins.darkN := by rw [given]
    refine ⟨s.cairnRead false, State.done_of_pending ?_, ?_, ?_, ?_, ?_, ?_, fun hlate => ?_⟩
    · rw [starts, given]; rfl
    · rw [starts]; rfl
    · rw [starts]; rfl
    · rw [starts]; rfl
    · rw [starts, given]; rfl
    · rw [starts, ← darkN]; rfl
    · obtain ⟨keys, latch⟩ := inTime hlate
      exact ⟨by rw [starts]; exact keys, by rw [starts]; exact latch⟩

end Sys2Proof.Machine

/-! PROOFS. What waiting commands do when their boundary carries them out (R47, R85, R108, R113, R184, R201, R203, R259, R278). -/

namespace Sys2Proof.Machine

section
variable {s : State} {c : LCmd} {n : Nat}

/-! ### Which command a subindex is -/

theorem State.runCmd_system (h : c.ix < 0x4000 ∨ c.ix / 256 = 0x80) : s.runCmd c = s.runSystem c := if_pos h

theorem State.runCmd_media (h : 0x4000 ≤ c.ix) (h' : c.ix < 0x8000) : s.runCmd c = s.runMedia c := by
  unfold State.runCmd
  rw [if_neg (by omega), if_pos h']

theorem State.runSystem_reqShow (h : Reg.key c.ix c.sub = Reg.reqShow) : s.runSystem c = s.reqShowCmd c := by
  unfold State.runSystem; simp [h]
theorem State.runSystem_reqStaging (h : Reg.key c.ix c.sub = Reg.reqStaging) : s.runSystem c = s.reqStagingCmd c := by
  unfold State.runSystem; simp [h]
theorem State.runSystem_switch (h : Reg.key c.ix c.sub = Reg.switch) : s.runSystem c = s.switchCmd := by
  unfold State.runSystem; simp [h]
theorem State.runSystem_acceptStep (h : Reg.key c.ix c.sub = Reg.acceptStep) :
    s.runSystem c = if s.servo = 4 then cmdOk s.acceptStep else cmdFail 0x0107 s := by
  unfold State.runSystem; simp [h]

/-- Past the streams and loops the subindex alone names the command. -/
theorem State.runMedia_past (hix : 0x4520 ≤ c.ix) :
    ¬(0x4500 ≤ c.ix ∧ c.ix < 0x4508) ∧ ¬(0x4510 ≤ c.ix ∧ c.ix < 0x4520) := by omega

theorem State.runMedia_groupSet (hix : 0x4520 ≤ c.ix) (h : Reg.key c.ix c.sub = Reg.groupSet) :
    s.runMedia c = cmdOk (s.groupSet (field c.val 0 2) (field c.val 2 2)) := by
  unfold State.runMedia; simp [h, State.runMedia_past hix]
theorem State.runMedia_fadeStop (hix : 0x4520 ≤ c.ix) (h : Reg.key c.ix c.sub = Reg.fadeStop) :
    s.runMedia c = cmdOk (s.fadeStop (field c.val 0 2)) := by
  unfold State.runMedia; simp [h, State.runMedia_past hix]
theorem State.runMedia_rdmReq (hix : 0x4520 ≤ c.ix) (h : Reg.key c.ix c.sub = Reg.rdmReq) :
    s.runMedia c = if s.rdmRoom (field c.val 0 1) then cmdOk (s.rdmReq c.val) else cmdFail 0x0401 s := by
  unfold State.runMedia; simp [h, State.runMedia_past hix]
theorem State.runMedia_discStart (hix : 0x4520 ≤ c.ix) (h : Reg.key c.ix c.sub = Reg.discStart) :
    s.runMedia c = cmdOk (s.discStart (beNat c.val)) := by
  unfold State.runMedia; simp [h, State.runMedia_past hix]
theorem State.runMedia_calAccept (hix : 0x4520 ≤ c.ix) (h : Reg.key c.ix c.sub = Reg.calAccept) :
    s.runMedia c = if s.calAccept.1 then cmdOk s.calAccept.2 else cmdFail 0x0401 s := by
  unfold State.runMedia; simp [h, State.runMedia_past hix]

theorem State.runCmd_stream (hn : n < 8) (hsub : c.sub ≠ 9) (h : c.ix = 0x4500 + n) : s.runCmd c = cmdOf (s.streamRewind n) := by
  rw [State.runCmd_media (by omega) (by omega)]
  unfold State.runMedia
  rw [if_pos (by omega), if_neg hsub, h, Nat.add_sub_cancel_left]

theorem State.runCmd_loop (hn : n < 16) (h : c.ix = 0x4510 + n) : s.runCmd c =
    if c.sub = 2 then cmdOk (s.loopStart n) else if c.sub = 3 then cmdOk (s.loopStop n) else cmdOf (s.loopRewind n) := by
  rw [State.runCmd_media (by omega) (by omega)]
  unfold State.runMedia
  rw [if_neg (by omega), if_pos (by omega), h, Nat.add_sub_cancel_left]

/-! ### What each does -/

theorem State.streamRewind_noMark (h : (s.stream n).mark ≠ 1) : s.streamRewind n = (0x0702, s) := if_pos h

theorem State.loopRewind_noMark (h : (s.loop n).mark ≠ 1) : s.loopRewind n = (0x0702, s) := if_neg h

theorem State.loopStop_playing (h : (s.loop n).state = 2) : s.loopStop n = (s.setLoop n { s.loop n with state := 3 }).noteChange := if_pos h

theorem State.calAccept_none (h : s.cal.pend = none) : s.calAccept = (false, s) := by
  unfold State.calAccept
  rw [h]

/-- Where no fade of the slot has just run its length its end raises nothing. -/
theorem State.fadeDone_of_running {slot : Nat} (h : ∀ f ∈ s.buf.fades, f.slot = slot → f.t ≠ f.dur ∨ f.ended = true) :
    s.fadeDone slot = s := by
  refine if_neg fun hany => ?_
  obtain ⟨f, hf, hdone⟩ := List.any_eq_true.mp hany
  simp only [Bool.and_eq_true, beq_iff_eq, Bool.not_eq_true'] at hdone
  obtain ⟨⟨hslot, ht⟩, hended⟩ := hdone
  rcases h f hf hslot with hne | he
  · exact hne ht
  · rw [hended] at he; cases he

theorem State.fadeStop_of_running {slot : Nat} (h : ∀ f ∈ s.buf.fades, f.slot = slot → f.t ≠ f.dur ∨ f.ended = true) :
    s.fadeStop slot = State.noteChange { s with buf := { s.buf with fades := s.buf.fades.filter fun f => f.slot != slot } } := by
  unfold State.fadeStop
  rw [State.fadeDone_of_running h]

theorem State.switchCmd_ready (hc : s.topo.cand.isSome = true) (h : s.reg Reg.candState = 2) :
    s.switchCmd = cmdRun { s with topo := { s.topo with switchBegin := true } } := by
  unfold State.switchCmd
  simp [hc, h]

theorem State.switchCmd_noCand (h : s.topo.cand = none) :
    s.switchCmd = cmdFail 0x0107 { s with topo := { s.topo with switch := .none } } := by
  unfold State.switchCmd
  simp [h]

end

/-- Settles O38: `runSystem_*`, `runMedia_*`, `runCmd_stream` and `runCmd_loop` say which command a subindex is, the lemmas after them what
it does. -/
theorem boundaryCommands : Obligations.BoundaryCommands := by
  intro o v e s
  refine ⟨fun hmode hrun hwant => ?_, fun h => ?_, fun h => ?_, fun hcand hstate => ?_, fun hcand => ?_, fun hservo => ?_, fun hservo => ?_, ?_,
    fun h => ?_, fun n hn hmark => ?_, fun n hn hmark => ?_, fun n hn hstate => ?_, fun hpend => ?_, fun hroom => ?_, ?_⟩
  · rw [State.runCmd_system (.inl (by norm_num)), State.runSystem_reqShow (by norm_num)]
    exact if_pos ⟨hmode, by rw [hrun]; rfl, hwant⟩
  · rw [State.runCmd_system (.inl (by norm_num)), State.runSystem_reqShow (by norm_num)]
    refine if_neg fun ⟨hmode, hrun, hwant⟩ => ?_
    rcases h with h | h | h
    · exact h hmode
    · exact h (Option.isNone_iff_eq_none.mp hrun)
    · exact h hwant
  · rw [State.runCmd_system (.inl (by norm_num)), State.runSystem_reqStaging (by norm_num)]
    exact if_pos (by rcases h with h | h | h <;> rw [h] <;> rfl)
  · rw [State.runCmd_system (.inr (by norm_num)), State.runSystem_switch (by norm_num), State.switchCmd_ready hcand hstate]
    rfl
  · rw [State.runCmd_system (.inr (by norm_num)), State.runSystem_switch (by norm_num), State.switchCmd_noCand hcand]
    rfl
  · rw [State.runCmd_system (.inl (by norm_num)), State.runSystem_acceptStep (by norm_num)]
    exact if_pos hservo
  · rw [State.runCmd_system (.inl (by norm_num)), State.runSystem_acceptStep (by norm_num)]
    exact if_neg hservo
  · rw [State.runCmd_media (by norm_num) (by norm_num), State.runMedia_groupSet (by norm_num) (by norm_num)]
    rfl
  · rw [State.runCmd_media (by norm_num) (by norm_num), State.runMedia_fadeStop (by norm_num) (by norm_num), State.fadeStop_of_running h]
    rfl
  · rw [State.runCmd_stream hn (by norm_num) rfl, State.streamRewind_noMark hmark]
    rfl
  · rw [State.runCmd_loop hn rfl, if_neg (by norm_num), if_neg (by norm_num), State.loopRewind_noMark hmark]
    rfl
  · rw [State.runCmd_loop hn rfl, if_neg (by norm_num), if_pos (by norm_num), State.loopStop_playing hstate]
    rfl
  · rw [State.runCmd_media (by norm_num) (by norm_num), State.runMedia_calAccept (by norm_num) (by norm_num), State.calAccept_none hpend]
    rfl
  · rw [State.runCmd_media (by norm_num) (by norm_num), State.runMedia_rdmReq (by norm_num) (by norm_num)]
    exact if_pos (decide_eq_true hroom)
  · rw [State.runCmd_media (by norm_num) (by norm_num), State.runMedia_discStart (by norm_num) (by norm_num)]
    rfl

end Sys2Proof.Machine

/-! SUPPORT. Entries to DARK and STAGING: what each leaves, and that sinks, rows and DEN are off after it (R46, R48, Table 2.3). -/

namespace Sys2Proof.Machine

section
variable {s t : State}

/-! ### Sinks, rows and DEN -/

/-- No emission frame is under way and DEN is low. -/
def State.unlit (s : State) : Prop := s.fbx.on = false ∧ s.fbx.den = false

theorem unlit_railOff (h : s.fbx.on = false) (n : Nat) : (s.railOff n).unlit := by
  have low : (s.setDen false).unlit := by
    unfold State.setDen
    split
    · next hden => exact ⟨h, by simpa using hden⟩
    · exact ⟨h, rfl⟩
  exact low

theorem State.sinksOff_den (s : State) : s.sinksOff.fbx.den = s.fbx.den := by
  show s.slotCut.fbx.den = s.fbx.den
  unfold State.slotCut
  split
  · rfl
  · dsimp only
    split <;> rfl

theorem unlit_calDark (h : s.unlit) : s.calDark.unlit := by
  unfold State.calDark
  split
  · exact unlit_railOff rfl 0
  · exact ⟨rfl, (State.sinksOff_den s).trans h.2⟩

theorem State.calReturn_fbx (s : State) (p : Nat) : (s.calReturn p).fbx = s.fbx := by
  unfold State.calReturn
  split <;> rfl

theorem unlit_calAbort (h : s.unlit) (cause : Nat) : (s.calAbort cause).unlit := by
  unfold State.calAbort
  split
  · exact h
  · extract_lets dark out done cal ended states
    have sinks : dark.unlit := by
      unfold dark
      split
      · exact unlit_calDark h
      · exact h
    have port : out.fbx = dark.fbx := by
      unfold out
      split
      · exact State.calReturn_fbx dark _
      · rfl
    unfold State.unlit
    rw [State.raise_fbx]
    show out.unlit
    unfold State.unlit
    rw [port]
    exact sinks

theorem unlit_darkOutputs (s : State) : s.darkOutputs.unlit := unlit_calAbort (unlit_railOff rfl 0) 1

theorem unlit_stagingOutputs (s : State) : s.stagingOutputs.unlit := unlit_railOff rfl 0

/-! ### The registers that an end of calibration changes -/

/-- The registers that the outputs' side of an entry to DARK may change: the state of the rail, of the calibration that stops and of the port
that it had in loopback, and what EV55 changes. -/
def darkKeys (s : State) : List Nat :=
  [Reg.draughtState, Reg.calState, Reg.abortCause, Reg.calRun] ++ s.cal.out.toList.map Reg.portLinkState ++ evKeys 55

theorem State.setDen_regs (s : State) (level : Bool) : (s.setDen level).regs = s.regs := by
  unfold State.setDen
  split
  · rfl
  · cases level <;> rfl

theorem keeps_railOff {ks : List Nat} (ok : s.storesOk) (hk : Reg.draughtState ∈ ks) (n : Nat) : Keeps ks s (s.railOff n) := by
  have low : Keeps ks s (s.setDen false) := ⟨(State.setDen_good s false (.refl s)).stores ok, .of_regs (s.setDen_regs false)⟩
  generalize hv : s.setDen false = v at low
  have dimmed : Keeps ks s { v with fbx := { v.fbx with rampAt := none, limitOn := false } } := ⟨low.stores, low.regs⟩
  unfold State.railOff
  rw [hv]
  exact dimmed.setReg hk n

theorem keeps_sinksOff {ks : List Nat} (ok : s.storesOk) : Keeps ks s s.sinksOff :=
  ⟨(State.sinksOff_good s (.refl s)).stores ok, .of_regs s.sinksOff_regs⟩

theorem keeps_calDark {ks : List Nat} (ok : s.storesOk) (hk : Reg.draughtState ∈ ks) : Keeps ks s s.calDark := by
  unfold State.calDark
  split
  · exact (keeps_sinksOff ok).trans (keeps_railOff (keeps_sinksOff (ks := ks) ok).stores hk 0)
  · exact keeps_sinksOff ok

theorem keeps_calReturn {ks : List Nat} (ok : s.storesOk) {p : Nat} (hk : Reg.portLinkState p ∈ ks) : Keeps ks s (s.calReturn p) := by
  unfold State.calReturn
  split
  · exact (Keeps.refl ok).setReg hk _
  · exact .refl ok

theorem State.railOff_cal (s : State) (n : Nat) : (s.railOff n).cal = s.cal := by
  show (s.setDen false).cal = s.cal
  unfold State.setDen
  split <;> rfl

theorem State.calDark_cal (s : State) : s.calDark.cal = s.cal := by
  unfold State.calDark
  split
  · rw [State.railOff_cal, State.sinksOff_cal]
  · rw [State.sinksOff_cal]

theorem keeps_calAbort (ok : s.storesOk) (cause : Nat) : Keeps (darkKeys s) s (s.calAbort cause) := by
  unfold State.calAbort
  split
  · exact .refl ok
  · extract_lets dark out done cal ended states
    have sinks : Keeps (darkKeys s) s dark := by
      unfold dark
      split
      · exact keeps_calDark ok (by simp [darkKeys])
      · exact .refl ok
    have still : dark.cal = s.cal := by
      unfold dark
      split
      · exact s.calDark_cal
      · rfl
    have port : Keeps (darkKeys s) s out := by
      unfold out
      split
      · next p hp => exact sinks.trans (keeps_calReturn sinks.stores (by simp [darkKeys, ← still, hp]))
      · exact sinks
    have left : Keeps (darkKeys s) s ended := ⟨port.stores, port.regs⟩
    have shown : Keeps (darkKeys s) s states :=
      ((left.setReg (by simp [darkKeys]) _).setReg (by simp [darkKeys]) _).setReg (by simp [darkKeys]) _
    exact shown.raise (List.subset_append_right _ _) _

theorem darkKeys_sinks (s : State) : darkKeys (s.sinksOff.railOff 0) = darkKeys s := by
  unfold darkKeys
  rw [State.railOff_cal, State.sinksOff_cal]

theorem keeps_darkOutputs (ok : s.storesOk) : Keeps (darkKeys s) s s.darkOutputs := by
  have sinks : Keeps (darkKeys s) s (s.sinksOff.railOff 0) :=
    (keeps_sinksOff ok).trans (keeps_railOff (keeps_sinksOff (ks := darkKeys s) ok).stores (by simp [darkKeys]) 0)
  have ended := keeps_calAbort sinks.stores 1
  rw [darkKeys_sinks] at ended
  exact ⟨(sinks.trans ended).stores, (sinks.trans ended).regs⟩

theorem keeps_stagingOutputs (ok : s.storesOk) : Keeps [Reg.draughtState] s s.stagingOutputs := by
  have sinks : Keeps [Reg.draughtState] s (s.sinksOff.railOff 0) :=
    (keeps_sinksOff ok).trans (keeps_railOff (keeps_sinksOff (ks := [Reg.draughtState]) ok).stores (by simp) 0)
  exact ⟨sinks.stores, sinks.regs⟩

/-- No count of another event is among them. -/
theorem evCount_not_mem_darkKeys {ev : Nat} (h : ev ≠ 34) (h' : ev ≠ 55) (hev : ev < 64) : Reg.evCount ev ∉ darkKeys s := by
  unfold darkKeys evKeys
  simp only [List.mem_append, List.mem_cons, List.mem_map, List.not_mem_nil, or_false, Reg.evCount, Reg.portLinkState, Reg.draughtState,
    Reg.calState, Reg.abortCause, Reg.calRun, Reg.pending, Reg.evqLost, Reg.poolMin]
  rintro ((hk | ⟨p, _, hk⟩) | hk) <;> omega

/-! ### A mode set with its cause -/

theorem Keeps.setMode {ks : List Nat} (h : Keeps ks s t) (hk : Reg.lastCause ∈ ks) (m : Mode) (cause : Nat) :
    Keeps ks s (t.setMode m cause) :=
  Keeps.setReg (t := { t with mode := { t.mode with mode := m } }) ⟨h.stores, h.regs⟩ hk cause

theorem reg_setMode (ok : s.storesOk) (m : Mode) (cause : Nat) : (s.setMode m cause).reg Reg.lastCause = cause :=
  reg_setReg (s := { s with mode := { s.mode with mode := m } }) ok Reg.lastCause cause

/-! ### Requests that end refused -/

theorem State.refuseShow_eq (s : State) : s.refuseShow =
    { s.withOutputs s.refuseShow with mode := { s.mode with showReqs := [] } } := by
  have h : OutputsOnly _ s.refuseShow :=
    .foldl (fun t c => OutputsOnly.refuseAt t c 0x0107) s.mode.showReqs { s with mode := { s.mode with showReqs := [] } }
  exact h

theorem State.refuseShow_nil (h : s.mode.showReqs = []) : s.refuseShow = s := by
  unfold State.refuseShow
  rw [h]
  show { s with mode := { s.mode with showReqs := [] } } = s
  rw [← h]

theorem State.refuseStaging_nil (h : s.mode.stageReqs = []) : s.refuseStaging = s := by
  unfold State.refuseStaging
  rw [h]
  show { s with mode := { s.mode with stageReqs := [] } } = s
  rw [← h]

/-! ### Entry to DARK -/

/-- The mode's fields as an entry to DARK leaves them. -/
def ModeSt.dark (m : ModeSt) : ModeSt :=
  { m with mode := .dark, showReqs := [], arming := none, armed := false, armBroken := false, darkRec := none, ropingEnd := none
           toHoldover := none, toShow := false, termTicks := 3, darkNew := true }

/-- `s` as an entry to DARK begins: no request for SHOW waits, no arming runs. -/
def State.darkBegun (s : State) : State :=
  let s := s.refuseShow.dropArming
  { s with mode := { s.mode with darkRec := none, ropingEnd := none, toHoldover := none, toShow := false, termTicks := 3, darkNew := true } }

theorem State.enterDark_eq_raise (s : State) (cause : Nat) :
    s.enterDark cause = (s.darkBegun.darkOutputs.setMode .dark cause).raise 59 (beBytes 1 cause) := rfl

theorem State.enterDark_eq (s : State) (cause : Nat) : s.enterDark cause = { s.withOutputs (s.enterDark cause) with mode := s.mode.dark } := by
  have requests := State.refuseShow_eq s
  have outputs := OutputsOnly.darkOutputs s.darkBegun
  rw [State.enterDark_eq_raise, State.raise_eq]
  generalize (s.darkBegun.darkOutputs.setMode .dark cause).raise 59 (beBytes 1 cause) = u
  unfold State.setMode State.setReg
  generalize s.darkBegun.darkOutputs = v at outputs ⊢
  unfold OutputsOnly at outputs
  rw [outputs]
  unfold State.darkBegun
  generalize s.refuseShow = w at requests ⊢
  rw [requests]
  rfl

theorem storesOk_darkBegun (ok : s.storesOk) : s.darkBegun.storesOk :=
  (State.dropArming_good _ (State.refuseShow_good s (.refl s))).stores ok

/-- MODE and LAST_CAUSE set, before EV59. -/
theorem keeps_darkSet (ok : s.storesOk) (cause : Nat) :
    Keeps (Reg.lastCause :: darkKeys s.darkBegun) s.darkBegun (s.darkBegun.darkOutputs.setMode .dark cause) :=
  ((keeps_darkOutputs (storesOk_darkBegun ok)).mono (List.subset_cons_self _ _)).setMode (by simp) .dark cause

theorem reg_enterDark (ok : s.storesOk) (cause : Nat) : (s.enterDark cause).reg Reg.lastCause = cause := by
  rw [State.enterDark_eq_raise, (raise_kept (keeps_darkSet ok cause).stores 59 _).reg (by decide)]
  exact reg_setMode (keeps_darkOutputs (storesOk_darkBegun ok)).stores .dark cause

theorem unlit_enterDark (s : State) (cause : Nat) : (s.enterDark cause).unlit := by
  unfold State.unlit
  rw [State.enterDark_eq_raise, State.raise_fbx]
  exact unlit_darkOutputs s.darkBegun

/-- EV59 is counted: with no request for SHOW waiting nothing before it, the end of a calibration included, touches its count. -/
theorem counted_enterDark (ok : s.storesOk) (h : s.mode.showReqs = []) (cause : Nat) : Counted 59 s (s.enterDark cause) := by
  have set := keeps_darkSet ok cause
  have begun : s.darkBegun.regs = s.regs := by unfold State.darkBegun; rw [State.refuseShow_nil h]; rfl
  have other : Reg.evCount 59 ∉ Reg.lastCause :: darkKeys s.darkBegun :=
    List.not_mem_cons_of_ne_of_not_mem (by decide) (evCount_not_mem_darkKeys (by decide) (by decide) (by decide))
  rw [State.enterDark_eq_raise]
  exact (counted_raise set.stores rfl (by decide) _).of_reg ((set.reg other).trans (reg_congr begun _))

/-! ### Entry to STAGING -/

/-- The mode's fields as an entry to STAGING leaves them. -/
def ModeSt.staged (m : ModeSt) (now : Nat) : ModeSt :=
  { m with mode := .staging, arming := none, armed := false, armBroken := false, ropingEnd := none, toHoldover := none, toShow := false
           termTicks := 3, ptpWaitAt := some now }

/-- `s` as an entry to STAGING begins: no arming runs. -/
def State.stagingBegun (s : State) : State :=
  let s := s.dropArming
  { s with mode := { s.mode with ropingEnd := none, toHoldover := none, toShow := false, termTicks := 3, ptpWaitAt := some s.clock.cclk } }

theorem State.enterStaging_eq_setMode (s : State) (cause : Nat) :
    s.enterStaging cause = s.stagingBegun.stagingOutputs.askBootLoad.setMode .staging cause := rfl

theorem State.askBootLoad_eq (s : State) : s.askBootLoad = { s with topo := s.askBootLoad.topo } := by
  unfold State.askBootLoad
  split <;> rfl

theorem State.enterStaging_eq (s : State) (cause : Nat) : s.enterStaging cause =
    { s.withOutputs (s.enterStaging cause) with mode := s.mode.staged s.clock.cclk, topo := (s.enterStaging cause).topo } := by
  have outputs := OutputsOnly.stagingOutputs s.stagingBegun
  rw [State.enterStaging_eq_setMode, State.askBootLoad_eq]
  generalize s.stagingBegun.stagingOutputs = v at outputs ⊢
  generalize v.askBootLoad.topo = x
  unfold OutputsOnly at outputs
  rw [outputs]
  rfl

theorem keeps_stagingAsked (ok : s.storesOk) : Keeps [Reg.draughtState] s s.stagingBegun.stagingOutputs.askBootLoad := by
  have outputs : Keeps [Reg.draughtState] s.stagingBegun s.stagingBegun.stagingOutputs := keeps_stagingOutputs (s := s.stagingBegun) ok
  rw [State.askBootLoad_eq]
  exact ⟨outputs.stores, outputs.regs⟩

theorem keeps_enterStaging (ok : s.storesOk) (cause : Nat) : Keeps [Reg.draughtState, Reg.lastCause] s (s.enterStaging cause) :=
  ((keeps_stagingAsked ok).mono (by simp)).setMode (by simp) .staging cause

theorem reg_enterStaging (ok : s.storesOk) (cause : Nat) : (s.enterStaging cause).reg Reg.lastCause = cause :=
  reg_setMode (keeps_stagingAsked ok).stores .staging cause

theorem unlit_enterStaging (s : State) (cause : Nat) : (s.enterStaging cause).unlit := by
  rw [State.enterStaging_eq_setMode, State.askBootLoad_eq]
  exact unlit_stagingOutputs s.stagingBegun

end

end Sys2Proof.Machine

/-! PROOFS. Changes of mode at a boundary, arming and the holdover limit (R46, R47, R48, R52). -/

namespace Sys2Proof.Machine

section
variable {s u : State} {c d : Nat}

/-! ### The end of ROPING -/

theorem State.ropingStep_of_none (h : s.mode.ropingEnd = none) : s.ropingStep = s := by
  unfold State.ropingStep
  split
  · next heq => rw [h] at heq; cases heq
  · rfl
  · rw [← h]

theorem State.ropingStep_of_ne (h : s.mode.mode ≠ .roping) : s.ropingStep = { s with mode := { s.mode with ropingEnd := none } } := by
  unfold State.ropingStep
  split
  · next heq _ => exact absurd heq h
  · next heq _ => exact absurd heq h
  · rfl

theorem State.ropingStep_staging (hmode : s.mode.mode = .roping) (hend : s.mode.ropingEnd = some c) (hdark : s.mode.darkRec = none) :
    s.ropingStep = s.enterStaging c := by
  unfold State.ropingStep
  rw [hmode, hend]
  simp only [hdark]

theorem State.ropingStep_dark (hmode : s.mode.mode = .roping) (hend : s.mode.ropingEnd = some c) (hdark : s.mode.darkRec = some d) :
    s.ropingStep = (s.enterStaging c).enterDark d := by
  unfold State.ropingStep
  rw [hmode, hend]
  simp only [hdark]

/-! ### The first trigger in the order of R48 -/

/-- `s` with the change of mode of its boundary made. -/
def State.modeChange (s : State) : State :=
  let s := s.ropingStep
  match s.mode.mode, s.mode.toHoldover with
  | .onShow, some c => (s.enterHoldover c).refuseStaging
  | _, _ =>
    if !s.mode.stageReqs.isEmpty then s.stagingStep
    else if s.mode.mode == Mode.holdover && s.mode.toShow then s.setMode .onShow 10
    else s

/-- `u` with the triggers of its boundary taken back. -/
def State.triggersTaken (u : State) : State :=
  { u with mode := { u.mode with darkNew := false, toHoldover := none, toShow := u.mode.toShow && u.mode.mode == Mode.holdover } }

/-- What follows the change of mode: outside STAGING requests for SHOW are refused, and a new mode, `was` before, is a change (R164). -/
def State.triggersOver (u : State) (was : Mode) : State :=
  let s := if u.triggersTaken.mode.mode == .staging then u.triggersTaken else u.triggersTaken.refuseShow
  if s.mode.mode == was then s else s.noteChange

theorem State.modeStep_eq (s : State) : s.modeStep = s.modeChange.triggersOver s.mode.mode := rfl

theorem State.triggersOver_eq (h : u.mode.showReqs = []) (was : Mode) :
    u.triggersOver was = { u.triggersTaken with comp := (u.triggersOver was).comp } := by
  have none : u.triggersTaken.refuseShow = u.triggersTaken := State.refuseShow_nil h
  unfold State.triggersOver
  rw [none, ite_self]
  dsimp only
  split <;> rfl

/-- Without a change to HOLDOVER, a request for STAGING or a lock regained in HOLDOVER the mode stays as ROPING's end left it. -/
theorem State.modeChange_of_noTrigger (hu : s.ropingStep = u) (hhold : u.mode.mode = .onShow → u.mode.toHoldover = none)
    (hstage : u.mode.stageReqs = []) (hshow : u.mode.mode = .holdover → u.mode.toShow = false) : s.modeChange = u := by
  unfold State.modeChange
  rw [hu]
  dsimp only
  split
  · next hmode hto => rw [hhold hmode] at hto; cases hto
  · rw [hstage, if_neg (by simp), if_neg]
    rw [Bool.and_eq_true, beq_iff_eq]
    rintro ⟨hmode, hto⟩
    rw [hshow hmode] at hto
    cases hto

theorem State.modeChange_holdover (hu : s.ropingStep = u) (hmode : u.mode.mode = .onShow) (hto : u.mode.toHoldover = some c) :
    s.modeChange = (u.enterHoldover c).refuseStaging := by
  unfold State.modeChange
  rw [hu]
  dsimp only
  rw [hmode, hto]

theorem State.modeChange_staging (hu : s.ropingStep = u) (hhold : u.mode.mode = .onShow → u.mode.toHoldover = none)
    (hstage : u.mode.stageReqs ≠ []) : s.modeChange = u.stagingStep := by
  unfold State.modeChange
  rw [hu]
  dsimp only
  split
  · next hmode hto => rw [hhold hmode] at hto; cases hto
  · exact if_pos (by simpa using hstage)

theorem State.modeChange_show (hu : s.ropingStep = u) (hmode : u.mode.mode = .holdover) (hto : u.mode.toShow = true)
    (hstage : u.mode.stageReqs = []) : s.modeChange = u.setMode .onShow 10 := by
  unfold State.modeChange
  rw [hu]
  dsimp only
  rw [hmode, hto, hstage]
  rfl

/-- Where no request for SHOW waits, the boundary leaves mode, registers, outputs and counts as the change of mode left them. -/
theorem State.modeStep_of_change (hu : s.modeChange = u) (h : u.mode.showReqs = []) : s.modeStep.mode.mode = u.mode.mode ∧
    s.modeStep.regs = u.regs ∧ s.modeStep.fbx = u.fbx ∧ s.modeStep.mode.holdAt = u.mode.holdAt := by
  rw [State.modeStep_eq, hu, State.triggersOver_eq h]
  exact ⟨rfl, rfl, rfl, rfl⟩

/-! ### Entry to HOLDOVER, and REQ_STAGING -/

/-- The mode's fields as an entry to HOLDOVER leaves them. -/
def ModeSt.held (m : ModeSt) (now : Nat) : ModeSt :=
  { m with mode := .holdover, toHoldover := none, toShow := false, holdAt := now, ev17 := false }

theorem State.enterHoldover_eq (s : State) (cause : Nat) : s.enterHoldover cause =
    { s with mode := s.mode.held s.tick.time, regs := (s.enterHoldover cause).regs, ev := (s.enterHoldover cause).ev
             q := (s.enterHoldover cause).q, report := (s.enterHoldover cause).report } := by
  unfold State.enterHoldover
  rw [State.raise_eq]
  rfl

section
variable (ok : s.storesOk)
include ok

theorem keeps_heldSet (cause : Nat) :
    Keeps [Reg.lastCause] s (State.setMode { s with mode := s.mode.held s.tick.time } .holdover cause) := by
  have held : Keeps [Reg.lastCause] s { s with mode := s.mode.held s.tick.time } := ⟨ok, .of_regs rfl⟩
  exact held.setMode (List.mem_singleton_self _) .holdover cause

theorem reg_enterHoldover (cause : Nat) : (s.enterHoldover cause).reg Reg.lastCause = cause :=
  ((raise_kept (keeps_heldSet ok cause).stores 16 _).reg (by decide)).trans
    (reg_setMode (s := { s with mode := s.mode.held s.tick.time }) ok .holdover cause)

theorem counted_enterHoldover (cause : Nat) : Counted 16 s (s.enterHoldover cause) :=
  (counted_raise (keeps_heldSet ok cause).stores rfl (by decide) _).of_reg ((keeps_heldSet ok cause).reg (by decide))

end

/-- A single request for STAGING in SHOW or HOLDOVER is carried out. -/
theorem State.stagingStep_one {q : LCmd} (hmode : s.mode.mode.shows = true) (h : s.mode.stageReqs = [q]) :
    s.stagingStep = (({ s with mode := { s.mode with stageReqs := [] } } : State).enterStaging 2).cmdState Reg.reqStaging 2 := by
  have frame := State.enterStaging_eq { s with mode := { s.mode with stageReqs := [] } } 2
  unfold State.stagingStep
  rw [h]
  dsimp only
  rw [hmode, Bool.true_or, if_pos rfl]
  refine State.refuseStaging_nil ?_
  rw [State.cmdState_mode, frame]
  rfl

/-! ### The boundary's change of mode (R48) -/

section
variable (ok : s.storesOk) (hshow : s.mode.showReqs = [])
include ok hshow

theorem modeStep_ropingEnds (hmode : s.mode.mode = .roping) (hend : s.mode.ropingEnd = some c) (hdark : s.mode.darkRec = none)
    (hstage : s.mode.stageReqs = []) : s.modeStep.mode.mode = .staging ∧ s.modeStep.reg Reg.lastCause = c := by
  have frame := State.enterStaging_eq s c
  have change := State.modeChange_of_noTrigger (State.ropingStep_staging hmode hend hdark) (by rw [frame]; nofun) (by rw [frame]; exact hstage)
    (by rw [frame]; nofun)
  obtain ⟨mode, regs, -⟩ := State.modeStep_of_change change (by rw [frame]; exact hshow)
  exact ⟨mode.trans (by rw [frame]; rfl), (reg_congr regs _).trans (reg_enterStaging ok c)⟩

/-- Through STAGING to DARK: the entry to STAGING counts no event. -/
theorem modeStep_ropingEndsDark (hmode : s.mode.mode = .roping) (hend : s.mode.ropingEnd = some c) (hdark : s.mode.darkRec = some d)
    (hstage : s.mode.stageReqs = []) :
    s.modeStep.mode.mode = .dark ∧ s.modeStep.reg Reg.lastCause = d ∧ Counted 59 s s.modeStep := by
  have staging := State.enterStaging_eq s c
  have kept := keeps_enterStaging ok c
  have frame := State.enterDark_eq (s.enterStaging c) d
  have reqs : (s.enterStaging c).mode.showReqs = [] := by rw [staging]; exact hshow
  have change := State.modeChange_of_noTrigger (State.ropingStep_dark hmode hend hdark) (by rw [frame]; nofun)
    (by rw [frame, staging]; exact hstage) (by rw [frame]; nofun)
  obtain ⟨mode, regs, -⟩ := State.modeStep_of_change change (by rw [frame]; rfl)
  have counted := (counted_enterDark kept.stores reqs d).of_reg (s := s) (kept.reg (by decide))
  exact ⟨mode.trans (by rw [frame]; rfl), (reg_congr regs _).trans (reg_enterDark kept.stores d),
    (reg_congr regs _).trans counted.1, by rw [reg_congr regs]; exact counted.2⟩

theorem modeStep_holdover (hmode : s.mode.mode = .onShow) (hto : s.mode.toHoldover = some c) (hstage : s.mode.stageReqs = []) :
    s.modeStep.mode.mode = .holdover ∧ s.modeStep.reg Reg.lastCause = c ∧ s.modeStep.mode.holdAt = s.tick.time ∧
      Counted 16 s s.modeStep := by
  have change := State.modeChange_holdover (State.ropingStep_of_ne (by rw [hmode]; nofun)) hmode hto
  generalize hu : ({ s with mode := { s.mode with ropingEnd := none } } : State) = u at change
  have regs : u.regs = s.regs := by rw [← hu]
  have stores : u.storesOk := by rw [← hu]; exact ok
  have frame := State.enterHoldover_eq u c
  rw [State.refuseStaging_nil (by rw [frame, ← hu]; exact hstage)] at change
  obtain ⟨mode, left, -, holdAt⟩ := State.modeStep_of_change change (by rw [frame, ← hu]; exact hshow)
  have counted := (counted_enterHoldover stores c).of_reg (s := s) (reg_congr regs _)
  refine ⟨mode.trans (by rw [frame]; rfl), (reg_congr left _).trans (reg_enterHoldover stores c), holdAt.trans (by rw [frame, ← hu]; rfl),
    (reg_congr left _).trans counted.1, by rw [reg_congr left]; exact counted.2⟩

theorem modeStep_reqStaging {q : LCmd} (hmode : s.mode.mode = .holdover ∨ s.mode.mode = .onShow ∧ s.mode.toHoldover = none)
    (hstage : s.mode.stageReqs = [q]) :
    s.modeStep.mode.mode = .staging ∧ s.modeStep.reg Reg.lastCause = 2 ∧ s.modeStep.reg Reg.reqStaging = 2 ∧
      s.modeStep.fbx.on = false ∧ s.modeStep.fbx.den = false := by
  have shows : s.mode.mode.shows = true := by rcases hmode with h | ⟨h, -⟩ <;> rw [h] <;> rfl
  have change := (State.modeChange_staging (State.ropingStep_of_ne (by rintro h; rw [h] at shows; cases shows))
    (by rintro h; rcases hmode with h' | ⟨-, h'⟩; exacts [absurd (h.symm.trans h') nofun, h']) (by rw [hstage]; simp)).trans
    (State.stagingStep_one shows hstage)
  generalize hu : ({ s with mode := { { s.mode with ropingEnd := none } with stageReqs := [] } } : State) = u at change
  have kept := keeps_enterStaging (s := u) (by rw [← hu]; exact ok) 2
  have frame := State.enterStaging_eq u 2
  have dark := unlit_enterStaging u 2
  obtain ⟨mode, left, fbx, -⟩ := State.modeStep_of_change change (by rw [State.cmdState_mode, frame, ← hu]; exact hshow)
  refine ⟨mode.trans (by rw [State.cmdState_mode, frame]; rfl), (reg_congr left _).trans ?_, (reg_congr left _).trans (reg_setReg kept.stores _ _),
    by rw [fbx]; exact dark.1, by rw [fbx]; exact dark.2⟩
  exact (reg_setReg_ne kept.stores 2 (by decide)).trans (reg_enterStaging (by rw [← hu]; exact ok) 2)

theorem modeStep_show (hmode : s.mode.mode = .holdover) (hto : s.mode.toShow = true) (hstage : s.mode.stageReqs = []) :
    s.modeStep.mode.mode = .onShow ∧ s.modeStep.reg Reg.lastCause = 10 := by
  have change := State.modeChange_show (State.ropingStep_of_ne (by rw [hmode]; nofun)) hmode hto hstage
  obtain ⟨mode, left, -⟩ := State.modeStep_of_change change hshow
  exact ⟨mode, (reg_congr left _).trans (reg_setMode (s := { s with mode := _ }) ok .onShow 10)⟩

omit ok in
theorem modeStep_still (hend : s.mode.ropingEnd = none) (hhold : s.mode.mode = .onShow → s.mode.toHoldover = none)
    (hto : s.mode.mode = .holdover → s.mode.toShow = false) (hstage : s.mode.stageReqs = []) :
    s.modeStep.mode.mode = s.mode.mode ∧ s.modeStep.regs = s.regs := by
  obtain ⟨mode, left, -⟩ := State.modeStep_of_change (State.modeChange_of_noTrigger (State.ropingStep_of_none hend) hhold hstage hto) hshow
  exact ⟨mode, left⟩

end

/-! ### The registers of a change of content -/

/-- The registers that temperature compensation changes at a boundary (R239). -/
def tempKeys : List Nat := (List.range 4).flatMap (fun c => [Reg.tFactor c, Reg.wFactor c]) ++ Reg.clamps :: evKeys 53

theorem factors_mem_tempKeys {k : Nat} (h : k < 4) : Reg.tFactor k ∈ tempKeys ∧ Reg.wFactor k ∈ tempKeys := by
  have factors : ∀ r ∈ [Reg.tFactor k, Reg.wFactor k], r ∈ tempKeys := fun r hr =>
    List.mem_append_left _ (List.mem_flatMap.mpr ⟨k, List.mem_range.mpr h, hr⟩)
  exact ⟨factors _ (by simp), factors _ (by simp)⟩

theorem Keeps.setFactors {k : Nat} (ok : s.storesOk) (h : k < 4) (f w : Nat) :
    Keeps tempKeys s ((s.setReg (Reg.tFactor k) f).setReg (Reg.wFactor k) w) := by
  obtain ⟨hf, hw⟩ := factors_mem_tempKeys h
  exact ((Keeps.refl ok).setReg hf f).setReg hw w

theorem keeps_colourTick {k : Nat} (ok : s.storesOk) (h : k < 4) : Keeps tempKeys s (s.colourTick k) := by
  unfold State.colourTick
  extract_lets f v was fbx w
  have factors : Keeps tempKeys s v := .setFactors ok h _ _
  split
  · have counted : Keeps tempKeys s w := by
      have marked : Keeps tempKeys s { v with fbx := { fbx with clamped := setBit fbx.clamped k } } := ⟨factors.stores, factors.regs⟩
      exact marked.setReg (k := Reg.clamps) (List.mem_append_right _ (List.mem_cons_self ..)) _
    split
    · exact counted
    · exact counted.raise (fun r hr => List.mem_append_right _ (List.mem_cons_of_mem _ hr)) _
  · exact ⟨factors.stores, factors.regs⟩

theorem keeps_tempTick (ok : s.storesOk) : Keeps tempKeys s s.tempTick := by
  unfold State.tempTick
  extract_lets on v temps weights
  have factors : Keeps tempKeys s v := by
    unfold v
    split
    · exact .foldl _ (fun t ht k hk => keeps_colourTick ht (List.mem_range.mp hk)) ok
    · exact .foldl _ (fun t ht k hk => .setFactors ht (List.mem_range.mp hk) _ _) ok
  exact ⟨factors.stores, factors.regs⟩

theorem Keeps.composeStart {ks : List Nat} (h : Keeps ks s u) : Keeps ks s u.composeStart := ⟨h.stores, h.regs⟩

/-- The registers that a change at a boundary changes (R164, R166). -/
def changeKeys : List Nat := (Reg.staticState :: Reg.staticTicks :: evKeys 8) ++ tempKeys

theorem keeps_lateChange (ok : s.storesOk) : Keeps changeKeys s s.lateChange := by
  unfold State.lateChange
  split
  · exact ⟨ok, .of_regs rfl⟩
  · extract_lets r v w
    have quiet : Keeps changeKeys s v := ⟨ok, .of_regs rfl⟩
    have ended : Keeps changeKeys s w := (quiet.setReg (by simp [changeKeys]) _).raise (fun r hr => List.mem_append_left _ (List.mem_cons_of_mem _ (List.mem_cons_of_mem _ hr))) _
    split
    · exact quiet
    · split
      · have flips : Keeps changeKeys s (w.setRas { w.ras with noFlip := false }) := ⟨ended.stores, ended.regs⟩
        have counted := flips.setReg (k := Reg.staticTicks) (List.mem_cons_of_mem _ (List.mem_cons_self ..)) (w.reg Reg.staticTicks - 1)
        exact (counted.trans ((keeps_tempTick counted.stores).mono (List.subset_append_right _ _))).composeStart
      · exact ended

/-! ### Arming (R52) -/

theorem State.armStart_begins (hmode : s.mode.mode = .staging) (harm : s.mode.arming = none) (hat : s.atBoundary = true)
    (hreal : s.tick.realign = false) (hblock : s.blocked = 0) (h : s.mode.showReqs ≠ [] ∨ s.flag Reg.autoShow = true) :
    s.armStart = { s with mode := { s.mode with arming := some s.lat }, comp := s.armStart.comp, buf := s.armStart.buf } := by
  have asked : (!s.mode.showReqs.isEmpty || s.flag Reg.autoShow) = true := by
    rcases h with h | h
    · simp [h]
    · rw [h, Bool.or_true]
  unfold State.armStart
  rw [if_pos (by rw [hmode, harm, hat, hreal, hblock, asked]; rfl)]
  dsimp only
  split <;> rfl

theorem State.armStart_arming (h : s.mode.arming.isSome = true) : s.armStart = s := by
  have arming : s.mode.arming.isNone = false := by rw [← Option.not_isSome, h]; rfl
  unfold State.armStart
  rw [arming, Bool.and_false]
  rfl

/-- `s` in SHOW, its arming over and no request waiting; the rail and the tick are still to follow. -/
def State.shown (s : State) : State :=
  State.setMode { s with mode := { s.mode with arming := none, armed := true, showReqs := [], toHoldover := none, toShow := false } } .onShow
    (if !s.mode.showReqs.isEmpty then 2 else 9)

theorem State.armDone_shows (hmode : s.mode.mode = .staging) (harm : s.mode.arming = some 0) (hat : s.atBoundary = true)
    (hblock : s.blocked = 0) (hbroken : s.mode.armBroken = false) : s.armDone =
      if !s.mode.showReqs.isEmpty then s.shown.railOn.lateChange.cmdState Reg.reqShow 2 else s.shown.railOn.lateChange := by
  unfold State.armDone
  rw [if_pos (by rw [hmode, harm, hat]; rfl), if_neg]
  · rfl
  · rw [hblock, hbroken]
    simp

/-- A bit of SHOW_BLOCK abandons the arming. -/
theorem State.armDone_abandoned (hmode : s.mode.mode = .staging) (harm : s.mode.arming = some 0) (hat : s.atBoundary = true)
    (h : s.blocked ≠ 0 ∨ s.mode.armBroken = true) : s.armDone = (if bit s.blocked 1 then s.refuseShow else s).dropArming := by
  unfold State.armDone
  rw [if_pos (by rw [hmode, harm, hat]; rfl), if_pos h]

theorem State.railOn_eq (s : State) :
    s.railOn = { s with regs := s.railOn.regs, pins := s.railOn.pins, fbx := s.railOn.fbx, sent := s.railOn.sent } := by
  unfold State.railOn State.setDen
  split
  · split <;> rfl
  · rfl

theorem keeps_railOn (ok : s.storesOk) : Keeps [Reg.draughtState] s s.railOn := by
  have den : Keeps [Reg.draughtState] s (s.setDen true) := ⟨(State.setDen_good s true (.refl s)).stores ok, .of_regs (s.setDen_regs true)⟩
  unfold State.railOn
  split
  · have begun := den.setReg (List.mem_singleton_self _) 1
    exact ⟨begun.stores, begun.regs⟩
  · exact .refl ok

theorem lastCause_not_mem_changeKeys : Reg.lastCause ∉ changeKeys := by decide

/-- The entry to SHOW leaves all but the mode, the rail and what a change of content touches. -/
theorem State.shown_frame (s : State) (t : State) (ht : s.shown.railOn.lateChange = t) : t = { s with
    mode := { s.mode with mode := .onShow, arming := none, armed := true, showReqs := [], toHoldover := none, toShow := false }
    comp := t.comp, buf := t.buf, regs := t.regs, fbx := t.fbx, ev := t.ev, q := t.q, report := t.report
    pins := t.pins, sent := t.sent } := by
  have late := (State.lateChange_loopsKept s.shown.railOn).frame
  rw [ht, State.railOn_eq] at late
  have pins : t.pins = s.shown.railOn.pins := by rw [late]; rfl
  have sent : t.sent = s.shown.railOn.sent := by rw [late]; rfl
  rw [pins, sent]
  exact late

/-- What the entry to SHOW leaves, but for the state of REQ_SHOW. -/
theorem shown_state (ok : s.storesOk) : ∃ t : State, t = s.shown.railOn.lateChange ∧ t.storesOk ∧
    t.reg Reg.lastCause = (if s.mode.showReqs = [] then 9 else 2) ∧ t = { s with
      mode := { s.mode with mode := .onShow, arming := none, armed := true, showReqs := [], toHoldover := none, toShow := false }
      comp := t.comp, buf := t.buf, regs := t.regs, fbx := t.fbx, ev := t.ev, q := t.q, report := t.report
      pins := t.pins, sent := t.sent } := by
  have stores : s.shown.storesOk := storesOk_setReg (s := { s with mode := _ }) ok _ _
  have rail := keeps_railOn stores
  have late := keeps_lateChange rail.stores
  have asked : (if !s.mode.showReqs.isEmpty then 2 else 9) = if s.mode.showReqs = [] then 9 else 2 := by
    cases s.mode.showReqs <;> rfl
  refine ⟨_, rfl, late.stores, ?_, State.shown_frame s _ rfl⟩
  rw [late.reg lastCause_not_mem_changeKeys, rail.reg (by decide), ← asked]
  exact reg_setMode (s := { s with mode := _ }) ok .onShow _

/-! ### The holdover limit (R47) -/

/-- `s` with EV17 due: TIME_REF is masked no longer. -/
def State.limitReached (s : State) : State := { s with mode := { s.mode with ev17 := true, refLimit := true } }

theorem State.holdLimit_reached (hmode : s.mode.mode = .holdover) (hev : s.mode.ev17 = false) (hat : s.atBoundary = true)
    (hlim : ((s.reg Reg.holdoverLimit * 1000000 : Nat) : Int) ≤ (s.tick.time : Int) - s.mode.holdAt)
    (hmask : bit s.belay.maskedCls 0x15 = false) :
    s.holdLimit = s.limitReached.raise 17 (beBytes 4 ((s.limitReached.viewNet Reg.holdoverMs).getD 0)) := by
  unfold State.holdLimit
  rw [if_pos (by rw [hmode, hev, hat, decide_eq_true hlim]; rfl)]
  refine if_neg ?_
  rw [State.raise_belay]
  show ¬bit s.belay.maskedCls 0x15 = true
  rw [hmask]
  exact Bool.false_ne_true

end

/-- Settles O36: `modeStep_*` for the boundary's change of mode, `armStart_begins`, `armDone_shows` and `armDone_abandoned` for arming,
`holdLimit_reached` for the limit. -/
theorem modeChanges : Obligations.ModeChanges := by
  refine ⟨fun s ok hshow => ⟨fun c => modeStep_ropingEnds ok hshow, fun c d => modeStep_ropingEndsDark ok hshow,
      fun c => modeStep_holdover ok hshow, fun c => modeStep_reqStaging ok hshow, modeStep_show ok hshow, modeStep_still hshow⟩,
    fun s hmode harm hat hreal hblock h => ?_, fun s h => ?_, fun s ok hmode harm hat hblock hbroken => ?_,
    fun s hmode harm hat h => ?_, fun s ok hmode hev hat hlim hmask => ?_⟩
  · have begins := State.armStart_begins hmode harm hat hreal hblock h
    exact ⟨s.armStart, State.done_of_pending (by rw [begins]), by rw [begins]⟩
  · show s.done s.armStart = _
    rw [State.armStart_arming h]
    rfl
  · have shows := State.armDone_shows hmode harm hat hblock hbroken
    obtain ⟨u, hu, stores, cause, frame⟩ := shown_state ok
    rw [← hu] at shows
    cases hreqs : s.mode.showReqs with
    | nil =>
      rw [hreqs] at shows cause
      have shows : s.armDone = u := shows
      refine ⟨s.armDone, State.done_of_pending (by rw [shows, frame]), by rw [shows]; exact cause, fun h => absurd rfl h, ?_⟩
      rw [shows]
      exact frame
    | cons q l =>
      rw [hreqs] at shows cause
      have shows : s.armDone = u.cmdState Reg.reqShow 2 := shows
      refine ⟨s.armDone, State.done_of_pending (by rw [shows, frame]; rfl), ?_, fun _ => ?_, ?_⟩
      all_goals rw [shows]
      · exact (reg_setReg_ne stores 2 (by decide)).trans cause
      · exact reg_setReg stores Reg.reqShow 2
      · rw [frame]
        rfl
  · have gone := State.armDone_abandoned hmode harm hat h
    have refused := State.refuseShow_eq s
    have still : (if bit s.blocked 1 then s.refuseShow else s).mode.mode = s.mode.mode ∧
        (if bit s.blocked 1 then s.refuseShow else s).pending = s.pending := by
      split
      · rw [refused]; exact ⟨rfl, rfl⟩
      · exact ⟨rfl, rfl⟩
    obtain ⟨mode, pending⟩ := still
    refine ⟨s.armDone, State.done_of_pending ?_, ?_, ?_, ?_⟩
    all_goals rw [gone]
    · exact pending
    · exact mode.trans hmode
    all_goals rfl
  · have raised := State.holdLimit_reached hmode hev hat hlim hmask
    have held : s.limitReached.storesOk := ok
    have alive : s.limitReached.alive = true := State.alive_of_shows (.inr hmode)
    refine ⟨s.holdLimit, State.done_of_pending ?_, ?_, ?_, ?_⟩
    all_goals rw [raised]
    · exact State.raise_pending _ _ _
    · exact counted_raise held alive (by decide) _
    · exact raise_kept held 17 _
    · rw [State.raise_eq]
      rfl

end Sys2Proof.Machine

/-! SUPPORT. The commands of no change class: what carries one out at its completion (R14, R16, R487). -/

namespace Sys2Proof.Machine

/-! ### Several registers set at once -/

section
variable {s : State}

theorem reg_setRegs_not_mem {l : List (Nat × Nat)} (ok : s.storesOk) {k : Nat} (hk : k ∉ l.map Prod.fst) : (s.setRegs l).reg k = s.reg k :=
  ((Keeps.refl ok).setRegs fun _ hp => List.mem_map_of_mem hp).reg hk

/-- Registers set under different keys read what each was given. -/
theorem reg_setRegs {l : List (Nat × Nat)} (ok : s.storesOk) (hl : (l.map Prod.fst).Nodup) {k v : Nat} (h : (k, v) ∈ l) :
    (s.setRegs l).reg k = v := by
  induction l generalizing s with
  | nil => cases h
  | cons p l ih =>
    rw [List.map_cons, List.nodup_cons] at hl
    show ((s.setReg p.1 p.2).setRegs l).reg k = v
    rcases List.mem_cons.mp h with rfl | hmem
    · rw [reg_setRegs_not_mem (storesOk_setReg ok _ _) hl.1, reg_setReg ok]
    · exact ih (storesOk_setReg ok _ _) hl.2 hmem

end

/-! ### The rows -/

/-- `x` is the row of subindex `k`: a command of no change class and role `r` that the value 1 starts. -/
structure NowRow (k : Nat) (r : Role) (x : Obj) : Prop where
  row : odFind (k / 256) (k % 256) = some x
  cmd : x.acc = .cmd
  chg : x.chg = .none
  role : x.role = r
  ty : x.ty = .u 1
  rng : x.rng = .enum [1]
  plain : carriesRecord (k / 256) (k % 256) = false

/-- Does subindex `k` have such a row? -/
def isNowRow (k : Nat) (r : Role) : Bool :=
  ((odFind (k / 256) (k % 256)).any fun x => x.acc == .cmd && x.chg == .none && x.role == r && x.ty == .u 1 && x.rng == .enum [1]) &&
    !carriesRecord (k / 256) (k % 256)

section
variable {s : State} {o : Origin} {k : Nat} {r : Role} {x : Obj}

theorem nowRow_of_isNowRow (h : isNowRow k r = true) : ∃ x, NowRow k r x := by
  unfold isNowRow at h
  rw [Bool.and_eq_true, Option.any_eq_true, Bool.not_eq_true'] at h
  obtain ⟨⟨x, hx, hfields⟩, hrec⟩ := h
  simp only [Bool.and_eq_true, beq_iff_eq] at hfields
  obtain ⟨⟨⟨⟨hacc, hchg⟩, hrole⟩, hty⟩, hrng⟩ := hfields
  exact ⟨x, ⟨hx, hacc, hchg, hrole, hty, hrng, hrec⟩⟩

theorem NowRow.legal (hx : NowRow k r x) : Legal x (k / 256) (k % 256) [1] where
  form := .inl hx.ty
  listed := fun c => by rw [hx.rng]; rfl
  applied := fun c => by unfold Obj.applied; rw [hx.rng]; rfl
  fields := recordListed_of_plain hx.plain
  unclamped := recordClamp_of_plain hx.plain

/-- The checks of R16 on such a command, its mode being right. -/
theorem NowRow.checkWrite {q : Role} (hx : NowRow k r x) (hq : r.rank ≤ q.rank) (hd : s.domOn (odDomain (k / 256)) = true)
    (hm : s.modeBound (k / 256) (k % 256) = false) : s.checkWrite o q (k / 256) (k % 256) x.ty.code [1] = (0, some x) := by
  have hix := odFind_ix_lt hx.row
  have target : s.checkTarget (s.writeRole o q (k / 256) (k % 256)) .observer (k / 256) (k % 256) true Acc.writable = (0, some x) :=
    checkTarget_ok (.inl (by omega)) hx.row (by rw [hx.role]; exact hq.trans State.rank_le_writeRole) (by rw [hx.cmd]; rfl) hd
  have value : s.checkValue x (k / 256) (k % 256) x.ty.code [1] = 0 := by
    have mode : ((x.chg == .f && s.mode.mode != .staging) || s.modeBound (k / 256) (k % 256)) = false := by rw [hm, hx.chg]; rfl
    unfold State.checkValue State.recordOk
    rw [mode, hx.legal.listed, hx.legal.fields, hx.ty]
    rfl
  unfold State.checkWrite
  rw [target]
  exact congrArg (·, some x) value

/-! ### Carried out at completion -/

/-- The command of subindex `k` that origin `o` starts. -/
def nowCmd (o : Origin) (k : Nat) : LCmd := { org := o, ix := k / 256, sub := k % 256, val := [1] }

theorem key_nowCmd : Reg.key (nowCmd o k).ix (nowCmd o k).sub = k := Nat.div_add_mod' k 256

/-- Below index 4000h the commands are those of the system. -/
theorem State.runCmd_nowCmd (h : k < 0x400000) : s.runCmd (nowCmd o k) = s.runSystem (nowCmd o k) :=
  State.runCmd_system (.inl (by unfold nowCmd; dsimp only; omega))

theorem State.cmdNow_of_run {code st : Nat} {t : State} (run : s.runCmd (nowCmd o k) = (code, st, t)) :
    s.cmdNow (nowCmd o k) = (code, t.setReg k st) := by
  unfold State.cmdNow
  rw [run, key_nowCmd]
  rfl

/-- The registers that a reject record may change (R361). -/
def rejectKeys : List Nat := (Reg.rejectLost :: evKeys 32) ++ evKeys 45

theorem keeps_rejected (ok : s.storesOk) (ix sub : Nat) (src : Nat × Nat) (abort detail effect : Nat) :
    Keeps rejectKeys s (s.rejected ix sub src abort detail effect) := by
  have report (r : RejectRec) : Keeps rejectKeys s (s.reportReject r) :=
    ⟨storesOk_reportReject ok r, (reportReject_kept ok r).mono (List.subset_append_left _ _)⟩
  rw [State.rejected_eq_raise]
  exact (report _).raise (List.subset_append_right _ _) _

section
variable {st code : Nat} {t : State} (hx : NowRow k r x) (hu : s.canUse o r (odDomain (k / 256)))
  (hm : s.modeBound (k / 256) (k % 256) = false) (ha : s.arrivalRefused (k / 256) (k % 256) [1] false = 0)
include hx hu hm ha

/-- A command of no class is carried out as its message is accepted. -/
theorem NowRow.rowNum (run : (s.touch o).cmdNow (nowCmd o k) = (code, t)) : s.rowNum o k 1 1 =
    State.answer o (k / 256) (k % 256) (outOf (if code = 0 then (code, t) else t.refuse o (k / 256) (k % 256) code 0)) := by
  obtain ⟨alive, ⟨q, hr, hq⟩, hd⟩ := hu
  have mode : (s.touch o).modeBound (k / 256) (k % 256) = false := by rw [State.touch_eq]; exact hm
  have put : (s.touch o).putWrite o x (k / 256) (k % 256) [1] =
      if code = 0 then (code, t) else t.refuse o (k / 256) (k % 256) code 0 := by
    have command : { org := o, ix := k / 256, sub := k % 256, val := [1] } = nowCmd o k := rfl
    unfold State.putWrite
    rw [if_pos hx.cmd, if_neg (by rw [hx.chg]; nofun)]
    dsimp only
    rw [command, run]
  show s.rowWrite o (k / 256) (k % 256) [1] = _
  rw [State.rowWrite_of_row alive hr hx.row, State.opWrite_of_checks (hx.checkWrite hq (by rwa [State.touch_domOn]) mode)
    (by rw [State.touch_arrivalRefused, ha]) (fun _ hl => by rw [hx.chg] at hl; cases hl) hx.legal.clampWrite, put]

theorem NowRow.rowNum_done (run : (s.touch o).runCmd (nowCmd o k) = (0, st, t)) :
    s.rowNum o k 1 1 = (t.setReg k st).send (.result o 0 (k / 256) (k % 256) 0 []) := by
  rw [hx.rowNum hu hm ha (State.cmdNow_of_run run)]
  rfl

theorem NowRow.rowNum_refused (run : (s.touch o).runCmd (nowCmd o k) = (code, st, t)) (hcode : code ≠ 0) (alive : t.alive = true) :
    s.rowNum o k 1 1 =
      ((t.setReg k st).rejected (k / 256) (k % 256) o.source code 0 0).send (.result o code (k / 256) (k % 256) 0 []) := by
  have refused : (t.setReg k st).refuse o (k / 256) (k % 256) code 0 =
      (code, (t.setReg k st).rejected (k / 256) (k % 256) o.source code 0 0) := congrArg (code, ·) (if_pos alive)
  rw [hx.rowNum hu hm ha (State.cmdNow_of_run run), if_neg hcode, refused]
  rfl

/-- The outcome of a command carried out: its state, the result sent, and all else as carrying it out left it. -/
theorem NowRow.exec_done (run : (s.touch o).runCmd (nowCmd o k) = (0, st, t)) (ok : t.storesOk) (pending : t.pending = s.pending) :
    ∃ v, s.done (s.rowNum o k 1 1) = .next v ∧ v.reg k = st ∧ Keeps [k] t v ∧
      v = { t with regs := v.regs, sent := .result o 0 (k / 256) (k % 256) 0 [] :: t.sent } := by
  have set := (Keeps.refl (ks := [k]) ok).setReg (List.mem_singleton_self k) st
  refine ⟨_, (congrArg s.done (hx.rowNum_done hu hm ha run)).trans (State.done_of_pending pending), reg_setReg ok k st,
    ⟨set.stores, set.regs⟩, rfl⟩

/-- The outcome of a command refused: its state, the reject record with EV45, and the result sent. -/
theorem NowRow.exec_refused (run : (s.touch o).runCmd (nowCmd o k) = (code, st, s.touch o)) (hcode : code ≠ 0) (ok : s.storesOk)
    (hk : k ∉ rejectKeys) : ∃ v, s.done (s.rowNum o k 1 1) = .next v ∧ v.reg k = st ∧ Counted 45 s v ∧
      v.rope = s.rope ∧ v.sent = .result o code (k / 256) (k % 256) 0 [] :: s.sent := by
  have touched := storesOk_touch ok o
  have set : ((s.touch o).setReg k st).storesOk := storesOk_setReg touched k st
  have alive : (s.touch o).alive = true := by rw [State.touch_alive]; exact hu.1
  have hc : Reg.evCount 45 ≠ k := fun h => hk (by rw [← h]; decide)
  have kept := keeps_rejected set (k / 256) (k % 256) o.source code 0 0
  have counted := (counted_rejected set alive (k / 256) (k % 256) o.source code 0 0).of_reg (s := s)
    ((reg_setReg_ne touched st hc).trans (State.touch_reg s o _))
  have frame := State.rejected_eq ((s.touch o).setReg k st) (k / 256) (k % 256) o.source code 0 0
  have read := (kept.reg hk).trans (reg_setReg touched k st)
  have out := hx.rowNum_refused hu hm ha run hcode alive
  generalize ((s.touch o).setReg k st).rejected (k / 256) (k % 256) o.source code 0 0 = u at kept counted frame read out
  have pending : u.pending = s.pending := by rw [frame]; exact State.touch_pending s o
  have rope : u.rope = s.rope := by rw [frame, State.touch_eq]; rfl
  have sent : u.sent = s.sent := by rw [frame]; exact State.touch_sent s o
  exact ⟨_, (congrArg s.done out).trans (State.done_of_pending pending), read, ⟨counted.1, counted.2⟩, rope,
    congrArg (_ :: ·) sent⟩

end

/-- A command of no class without a rule of its own is carried out when its origin may use it. -/
theorem exec_now {st : Nat} {t : State} (hrow : isNowRow k r = true) (hrule : hasArrivalRule (k / 256) (k % 256) = false)
    (hu : s.canUse o r (odDomain (k / 256))) (run : (s.touch o).runCmd (nowCmd o k) = (0, st, t)) (ok : t.storesOk)
    (pending : t.pending = s.pending) : ∃ v, s.done (s.rowNum o k 1 1) = .next v ∧ v.reg k = st ∧ Keeps [k] t v ∧
      v = { t with regs := v.regs, sent := .result o 0 (k / 256) (k % 256) 0 [] :: t.sent } := by
  obtain ⟨x, hx⟩ := nowRow_of_isNowRow hrow
  exact hx.exec_done hu (State.modeBound_of_noRule hrule) (State.arrivalRefused_of_noRule hrule _) run ok pending

end

end Sys2Proof.Machine

/-! PROOFS. COMMIT, DISCARD and TIMED_CANCEL (R58, R64). -/

namespace Sys2Proof.Machine

section
variable {s : State} {o : Origin}

theorem State.commitCmd_eq (s : State) : s.commitCmd = { s with stage := s.committed } := by
  unfold State.commitCmd State.committed
  dsimp only
  split <;> rfl

theorem State.runCmd_commit : s.runCmd (nowCmd o Reg.commit) = (0, 2, { s with stage := s.committed }) := by
  rw [← State.commitCmd_eq, State.runCmd_nowCmd (by decide)]
  unfold State.runSystem; simp [key_nowCmd, cmdOk]

theorem State.runCmd_discard : s.runCmd (nowCmd o Reg.discard) =
    (0, 2, { s with stage := { s.stage with staged := [], late := { s.stage.late with staged := [] } } }) := by
  rw [State.runCmd_nowCmd (by decide)]
  unfold State.runSystem; simp [key_nowCmd, cmdOk]

/-- The switch after a cancellation: none where a timed SWITCH waited (R64, R85). -/
def State.switchCancelled (s : State) : SwitchSt :=
  if (s.stage.timed.any fun w => Reg.key w.ix w.sub == Reg.switch) && s.topo.switch == .waiting then .none else s.topo.switch

theorem State.timedCancel_eq (s : State) : s.timedCancel =
    { s with stage := { s.stage with timed := [] }, topo := { s.topo with switch := s.switchCancelled } } := by
  unfold State.timedCancel State.switchCancelled
  dsimp only
  split <;> rfl

theorem State.runCmd_timedCancel : s.runCmd (nowCmd o Reg.timedCancel) =
    (0, 2, { s with stage := { s.stage with timed := [] }, topo := { s.topo with switch := s.switchCancelled } }) := by
  rw [← State.timedCancel_eq, State.runCmd_nowCmd (by decide)]
  unfold State.runSystem; simp [key_nowCmd, cmdOk]

end

/-- Settles O21: each command is carried out as its message is accepted (`exec_now`), which changes the change classes and, for
TIMED_CANCEL, a waiting switch. -/
theorem stagingCommands : Obligations.StagingCommands := by
  refine ⟨fun o s ok hu => ?_, fun o s ok hu => ?_, fun o s ok hu => ?_⟩
  · obtain ⟨v, hv, hst, kept, frame⟩ := exec_now (by decide +kernel) (by decide +kernel) hu State.runCmd_commit (storesOk_touch ok o)
      (State.touch_pending s o)
    refine ⟨v, hv, hst, (RegsKept.of_regs (State.touch_regs s o)).trans kept.regs, ?_⟩
    rw [frame]
    cases o <;> rfl
  · obtain ⟨v, hv, hst, kept, frame⟩ := exec_now (by decide +kernel) (by decide +kernel) hu State.runCmd_discard (storesOk_touch ok o)
      (State.touch_pending s o)
    refine ⟨v, hv, hst, (RegsKept.of_regs (State.touch_regs s o)).trans kept.regs, ?_⟩
    rw [frame]
    cases o <;> rfl
  · obtain ⟨v, hv, hst, kept, frame⟩ := exec_now (by decide +kernel) (by decide +kernel) hu State.runCmd_timedCancel (storesOk_touch ok o)
      (State.touch_pending s o)
    refine ⟨v, hv, hst, (RegsKept.of_regs (State.touch_regs s o)).trans kept.regs, ?_, ?_⟩
    all_goals
      rw [frame]
      cases o <;> rfl

end Sys2Proof.Machine

/-! PROOFS. REQ_DARK, SNAPSHOT, CLEAR_POSITION, REROPE and FW_RESTART (R44, R263, R328, R333, R365). -/

namespace Sys2Proof.Machine

section
variable {s : State} {o : Origin}

/-! ### What each command does -/

theorem State.runCmd_reqDark : s.runCmd (nowCmd o Reg.reqDark) = (0, 2, s.triggerDark 2) := by
  rw [State.runCmd_nowCmd (by decide)]
  unfold State.runSystem; simp [key_nowCmd, cmdOk]

theorem State.runCmd_snapshot : s.runCmd (nowCmd o Reg.snapshot) = (0, 2, s.snapshotCmd) := by
  rw [State.runCmd_nowCmd (by decide)]
  unfold State.runSystem; simp [key_nowCmd, cmdOk]

theorem State.runCmd_clearPosition : s.runCmd (nowCmd o Reg.clearPosition) = (0, 2, s.clearPosition) := by
  rw [State.runCmd_nowCmd (by decide)]
  unfold State.runSystem; simp [key_nowCmd, cmdOk]

theorem State.runCmd_rerope_head (h : s.reg Reg.headRole = 3) :
    s.runCmd (nowCmd o Reg.rerope) = (0, 2, { s with rope := { s.rope with wantRun := true } }) := by
  rw [State.runCmd_nowCmd (by decide)]
  unfold State.runSystem; simp [key_nowCmd, cmdOk, h]

theorem State.runCmd_rerope_other (h : s.reg Reg.headRole ≠ 3) : s.runCmd (nowCmd o Reg.rerope) = (0x0107, 3, s) := by
  rw [State.runCmd_nowCmd (by decide)]
  unfold State.runSystem; simp [key_nowCmd, cmdFail, h]

theorem State.runCmd_fwRestart (h : (s.xfer.open_.any fun x => x.ix == 0x1010) = false) :
    s.runCmd (nowCmd o Reg.fwRestart) = (0, 1, { s with mode := { s.mode with fwRestart := true } }) := by
  rw [State.runCmd_nowCmd (by decide)]
  unfold State.runSystem; simp [key_nowCmd, cmdRun, h]

theorem State.triggerDark_enters (h : s.mode.mode = .staging ∨ s.mode.mode = .onShow ∨ s.mode.mode = .holdover) (cause : Nat) :
    s.triggerDark cause = s.enterDark cause := by
  unfold State.triggerDark
  rcases h with h | h | h <;> rw [h]

theorem State.triggerDark_roping (h : s.mode.mode = .roping) (cause : Nat) :
    s.triggerDark cause = { s with mode := { s.mode with darkRec := some (s.mode.darkRec.getD cause) } } := by
  unfold State.triggerDark
  rw [h]

/-! ### CLEAR_POSITION's mode (R333) -/

theorem State.modeBound_clearPosition (h : s.mode.mode = .staging ∨ s.mode.mode = .roping) :
    s.modeBound (Reg.clearPosition / 256) (Reg.clearPosition % 256) = false := by
  unfold State.modeBound
  rcases h with h | h <;> rw [h] <;> rfl

theorem State.arrivalRefused_clearPosition (v : Bytes) :
    s.arrivalRefused (Reg.clearPosition / 256) (Reg.clearPosition % 256) v false = 0 := by
  unfold State.arrivalRefused
  rw [if_neg (by decide), if_neg (fun h => absurd h.1 (by decide)), if_neg Bool.false_ne_true, if_neg (by decide), if_neg (by decide),
    if_neg (by decide), if_neg (by decide)]

end

/-! ### The registers of SNAPSHOT and CLEAR_POSITION -/

/-- What SNAPSHOT sets. -/
def State.snapshotRegs (s : State) : List (Nat × Nat) :=
  [(Reg.snapTime, time80 s.now), (Reg.snapTick, s.tickIdx), (Reg.snapTickTime, s.reg Reg.tickTime), (Reg.snapFrame, s.frame)]

section
variable {s : State} (ok : s.storesOk)
include ok

theorem keeps_snapshotCmd : Keeps [Reg.snapTime, Reg.snapTick, Reg.snapTickTime, Reg.snapFrame, Reg.snapshot] s s.snapshotCmd :=
  (Keeps.refl ok).setRegs (by simp)

theorem reg_snapshotCmd : s.snapshotCmd.reg Reg.snapTime = time80 s.now ∧ s.snapshotCmd.reg Reg.snapTick = s.tickIdx ∧
    s.snapshotCmd.reg Reg.snapTickTime = s.reg Reg.tickTime ∧ s.snapshotCmd.reg Reg.snapFrame = s.frame := by
  have keys : (s.snapshotRegs.map Prod.fst).Nodup := show [Reg.snapTime, Reg.snapTick, Reg.snapTickTime, Reg.snapFrame].Nodup by decide
  have set {k v : Nat} (h : (k, v) ∈ s.snapshotRegs) : s.snapshotCmd.reg k = v := reg_setRegs ok keys h
  exact ⟨set (by simp [State.snapshotRegs]), set (by simp [State.snapshotRegs]), set (by simp [State.snapshotRegs]),
    set (by simp [State.snapshotRegs])⟩

theorem keeps_clearPosition : Keeps [Reg.storedPos, Reg.ropedAt, Reg.clearPosition] s s.clearPosition := by
  have erased : Keeps [Reg.storedPos, Reg.ropedAt, Reg.clearPosition] s { s with cairn := { s.cairn with position := none, ropedAt := 0 } } :=
    ⟨ok, .of_regs rfl⟩
  exact erased.setRegs (by simp)

theorem reg_clearPosition : s.clearPosition.reg Reg.storedPos = 0xFFFF ∧ s.clearPosition.reg Reg.ropedAt = 0 := by
  have erased : ({ s with cairn := { s.cairn with position := none, ropedAt := 0 } } : State).storesOk := ok
  exact ⟨reg_setRegs erased (by decide) (by simp), reg_setRegs erased (by decide) (by simp)⟩

end

/-- Settles O22: each command is carried out as its message is accepted (`exec_now`), a REROPE at no HEAD refused (`exec_refused`). -/
theorem systemCommands : Obligations.SystemCommands := by
  refine ⟨fun o s ok hu hmode => ?_, fun o s ok hu hmode => ?_, fun o s ok hu => ?_, fun o s ok hu hmode => ?_, fun o s ok hu hhead => ?_,
    fun o s ok hu hhead => ?_, fun o s ok hu hopen => ?_⟩
  · have run : (s.touch o).runCmd (nowCmd o Reg.reqDark) = (0, 2, (s.touch o).enterDark 2) := by
      rw [State.runCmd_reqDark, State.triggerDark_enters (by rwa [State.touch_mode])]
    have frame := State.enterDark_eq (s.touch o) 2
    have touched := storesOk_touch ok o
    have cause := reg_enterDark touched 2
    have dark := unlit_enterDark (s.touch o) 2
    have stores := (State.enterDark_good (s.touch o) 2 (.refl _)).stores touched
    generalize (s.touch o).enterDark 2 = t at run frame cause dark stores
    obtain ⟨v, hv, hst, kept, same⟩ := exec_now (by decide +kernel) (by decide +kernel) hu run stores
      (by rw [frame]; exact State.touch_pending s o)
    refine ⟨v, hv, ?_, (kept.reg (by decide)).trans cause, hst, ?_, ?_, ?_, ?_, ?_, ?_⟩
    all_goals rw [same]
    · rw [frame]; rfl
    · exact dark.1
    · exact dark.2
    · rw [frame]; rfl
    · rw [frame]; rfl
    · rw [frame]; exact State.touch_stage s o
    · rw [frame, State.touch_eq]; rfl
  · have run : (s.touch o).runCmd (nowCmd o Reg.reqDark) = (0, 2, { s.touch o with
        mode := { s.mode with darkRec := some (s.mode.darkRec.getD 2) } }) := by
      rw [State.runCmd_reqDark, State.triggerDark_roping (by rwa [State.touch_mode]), State.touch_mode]
    obtain ⟨v, hv, hst, kept, frame⟩ := exec_now (by decide +kernel) (by decide +kernel) hu run (storesOk_touch ok o) (State.touch_pending s o)
    refine ⟨v, hv, hst, (RegsKept.of_regs (State.touch_regs s o)).trans kept.regs, ?_⟩
    rw [frame]
    cases o <;> rfl
  · have touched := storesOk_touch ok o
    have snap := keeps_snapshotCmd touched
    obtain ⟨time, tick, tickTime, frames⟩ := reg_snapshotCmd touched
    obtain ⟨v, hv, hst, kept, frame⟩ := exec_now (by decide +kernel) (by decide +kernel) hu State.runCmd_snapshot snap.stores
      (State.touch_pending s o)
    refine ⟨v, hv, ?_, ?_, ?_, ?_, hst, ?_, ?_⟩
    · exact (kept.reg (by decide)).trans (time.trans (by rw [State.touch_now]))
    · exact (kept.reg (by decide)).trans (tick.trans (State.touch_reg s o _))
    · exact (kept.reg (by decide)).trans (tickTime.trans (State.touch_reg s o _))
    · exact (kept.reg (by decide)).trans (frames.trans (State.touch_reg s o _))
    · exact (RegsKept.of_regs (State.touch_regs s o)).trans (snap.trans (kept.mono (by simp))).regs
    · rw [frame]
      cases o <;> rfl
  · have touched := storesOk_touch ok o
    have erased := keeps_clearPosition touched
    obtain ⟨pos, ropedAt⟩ := reg_clearPosition touched
    obtain ⟨x, hx⟩ := nowRow_of_isNowRow (k := Reg.clearPosition) (r := .installer) (by decide +kernel)
    obtain ⟨v, hv, hst, kept, frame⟩ := hx.exec_done hu (State.modeBound_clearPosition hmode) (State.arrivalRefused_clearPosition _)
      State.runCmd_clearPosition erased.stores (State.touch_pending s o)
    refine ⟨v, hv, (kept.reg (by decide)).trans pos, (kept.reg (by decide)).trans ropedAt, hst,
      (RegsKept.of_regs (State.touch_regs s o)).trans (erased.trans (kept.mono (by simp))).regs, ?_⟩
    rw [frame]
    cases o <;> rfl
  · obtain ⟨v, hv, hst, kept, frame⟩ := exec_now (by decide +kernel) (by decide +kernel) hu
      (State.runCmd_rerope_head (by rwa [State.touch_reg])) (storesOk_touch ok o) (State.touch_pending s o)
    refine ⟨v, hv, hst, (RegsKept.of_regs (State.touch_regs s o)).trans kept.regs, ?_⟩
    rw [frame]
    cases o <;> rfl
  · have hrule : hasArrivalRule (Reg.rerope / 256) (Reg.rerope % 256) = false := by decide +kernel
    obtain ⟨x, hx⟩ := nowRow_of_isNowRow (k := Reg.rerope) (r := .installer) (by decide +kernel)
    obtain ⟨v, hv, hst, counted, rope, sent⟩ := hx.exec_refused hu (State.modeBound_of_noRule hrule) (State.arrivalRefused_of_noRule hrule _)
      (State.runCmd_rerope_other (by rwa [State.touch_reg])) (by decide) ok (by decide)
    exact ⟨v, hv, hst, counted, rope, by rw [sent]; rfl⟩
  · obtain ⟨v, hv, hst, kept, frame⟩ := exec_now (by decide +kernel) (by decide +kernel) hu
      (State.runCmd_fwRestart (by rw [State.touch_eq]; exact hopen)) (storesOk_touch ok o) (State.touch_pending s o)
    refine ⟨v, hv, hst, (RegsKept.of_regs (State.touch_regs s o)).trans kept.regs, ?_⟩
    rw [frame]
    cases o <;> rfl

end Sys2Proof.Machine

/-! PROOFS. Commands of class L with a condition: CAL_ACCEPT while its block is off (R25, R259, R341). -/

namespace Sys2Proof.Machine

section
variable {s : State} {o : Origin} {r : Role} {ix sub : Nat} {x : Obj} {v : Bytes}

/-! ### Writes that the target's checks refuse -/

/-- R341: a target in a domain that is not ON fails its check with 0x0601. -/
theorem checkTarget_domOff {need : Role} {own : Bool} {acc : Acc → Bool} (h1 : ix < 0xF000 ∨ r = .service) (hx : odFind ix sub = some x)
    (hrole : (if own then x.role else need).rank ≤ r.rank) (hacc : acc x.acc = true) (ha : s.alive = true)
    (hd : s.domOn (odDomain ix) = false) : s.checkTarget r need ix sub own acc = (0x0601, none) := by
  rw [checkTarget_row h1 (odHasObject_of_odFind hx) hx, if_neg (Nat.not_lt.mpr hrole), if_neg (by simp [hacc]), if_pos (by simp [ha, hd])]

/-- A write whose target fails its checks is refused with their code, and a reject record. -/
theorem State.rowWrite_of_target {c : Nat} (ha : s.alive = true) (hr : s.roleOf o = some r) (hx : odFind ix sub = some x)
    (hc : (s.touch o).checkTarget ((s.touch o).writeRole o r ix sub) .observer ix sub true Acc.writable = (c, none)) :
    s.rowWrite o ix sub v = ((s.touch o).rejected ix sub o.source c 0 0).send (.result o c ix sub 0 []) := by
  have check : (s.touch o).checkWrite o r ix sub x.ty.code v = (c, none) := by
    unfold State.checkWrite
    rw [hc]
  have refused : (s.touch o).refuse o ix sub c 0 = (c, (s.touch o).rejected ix sub o.source c 0 0) :=
    congrArg (c, ·) (if_pos (by rwa [State.touch_alive]))
  rw [State.rowWrite_of_row ha hr hx]
  unfold State.opWrite
  rw [check]
  exact congrArg (fun q => State.answer o ix sub (outOf q)) refused

/-- A write to a subindex whose block's domain is not ON is answered with 0x0601 (R341). -/
theorem rowWrite_domOff_sent (ha : s.alive = true) (hr : s.roleOf o = some r) (hx : odFind ix sub = some x)
    (hrole : x.role.rank ≤ r.rank) (hacc : x.acc.writable = true) (hd : s.domOn (odDomain ix) = false) :
    (s.rowWrite o ix sub v).sent = .result o 0x0601 ix sub 0 [] :: s.sent := by
  have hix := odFind_ix_lt hx
  have target := checkTarget_domOff (s := s.touch o) (need := .observer) (own := true) (acc := Acc.writable) (.inl (by omega)) hx
    (hrole.trans (State.rank_le_writeRole (s := s.touch o) (o := o) (ix := ix) (sub := sub))) hacc (by rwa [State.touch_alive])
    (by rwa [State.touch_domOn])
  rw [State.rowWrite_of_target ha hr hx target, State.rejected_eq, State.touch_eq]
  rfl

end

/-! ### Calibration results pending, FBX_SINK off -/

/-- A unit in STAGING, no section of its topo needing a domain past HEARTH, whose calibration results are pending. -/
def acceptWithoutSinks : State :=
  { State.reset.setReg Reg.calState 2 with
    mode := { mode := .staging }, lcl := { keyEn := true }, power := { dom := [2, 2, 2, 2, 0, 0, 0, 0, 0, 0] } }

/-- CAL_ACCEPT belongs to FBX_SINK, which is OFF: it is refused with 0x0601. -/
theorem sent_calAccept_acceptWithoutSinks :
    (acceptWithoutSinks.rowNum .localPort Reg.calAccept 1 1).sent =
      [.result .localPort 0x0601 (Reg.calAccept / 256) (Reg.calAccept % 256) 0 []] := by
  obtain ⟨x, hx, hrole, hacc⟩ : ∃ x, odFind (Reg.calAccept / 256) (Reg.calAccept % 256) = some x ∧ x.role = .installer ∧
      x.acc = .cmd := by decide +kernel
  exact rowWrite_domOff_sent (r := .installer) rfl (by decide +kernel) hx (by rw [hrole]) (by rw [hacc]; rfl) (by decide +kernel)

/-- Refutes O17: its second clause fails in `acceptWithoutSinks`. It lets the origin use a subindex of CTRL (domain 1), while CAL_ACCEPT
is an object of FBX_SINK (R25, log 83): with that domain OFF the write is refused with 0x0601 (R341) and waits for no boundary. -/
theorem not_conditionalCommands : ¬ Obligations.ConditionalCommands := by
  unfold Obligations.ConditionalCommands
  rintro ⟨-, calAccept, -⟩
  have waits := calAccept .localPort acceptWithoutSinks ⟨rfl, ⟨.installer, by decide +kernel, le_rfl⟩, by decide +kernel⟩
    (by decide +kernel) (by decide +kernel)
  have answered := congrArg State.sent (Host.Outcome.next.inj waits)
  have refused : (acceptWithoutSinks.rowNum .localPort Reg.calAccept 1 1).sent = _ := answered
  rw [sent_calAccept_acceptWithoutSinks] at refused
  cases refused

end Sys2Proof.Machine

/-! PROOFS. Whole DOMAIN values: a firmware image for the fallback region (R16, R361, R364). -/

namespace Sys2Proof.Machine

section
variable {s : State} {o : Origin} {r need : Role} {own : Bool} {acc : Acc → Bool} {ix sub k start : Nat} {x : Obj} {d : Bytes} {sig : Bool}

/-! ### Whole values that the target's checks refuse -/

/-- Check 3 of R16: a role that is too low. -/
theorem checkTarget_role (h1 : ix < 0xF000 ∨ r = .service) (hx : odFind ix sub = some x)
    (hrole : r.rank < (if own then x.role else need).rank) : s.checkTarget r need ix sub own acc = (0x0201, none) := by
  rw [checkTarget_row h1 (odHasObject_of_odFind hx) hx, if_pos hrole]

/-- A DOMAIN_BEGIN whose target fails its checks ends a whole write there, with a reject record. -/
theorem State.wholeWrite_of_target {c : Nat} (ha : s.alive = true) (hc : c ≠ 0)
    (target : s.checkTarget r .observer (k / 256) (k % 256) true (fun a => (0 : Nat) == 1 || a.writable) = (c, none)) :
    s.wholeWrite o r k start d sig = (.done c 0 [], s.rejected (k / 256) (k % 256) o.source c 0 0) := by
  have begin_ : s.beginCode r (k / 256) (k % 256) 0 d.length start = c := by
    unfold State.beginCode
    rw [target]
  have refused : s.opBegin o r (k / 256) (k % 256) 0 d.length start =
      (.done c 0 [], s.rejected (k / 256) (k % 256) o.source c 0 0) := by
    unfold State.opBegin
    rw [begin_]
    dsimp only
    rw [if_pos hc, if_neg (by decide)]
    unfold State.refuse
    rw [if_pos ha]
    rfl
  unfold State.wholeWrite
  rw [refused]
  split
  · next h => cases h; exact absurd rfl hc
  · rfl

/-- Out of RESET a whole value is written by an origin of its own role. -/
theorem State.rowWhole_of_role (ha : s.alive = true) (hr : s.roleOf o = some r) :
    s.rowWhole o k start d sig = State.answer o (k / 256) (k % 256) ((s.touch o).wholeWrite o r k start d sig) := by
  have running : s.bootServes o (k / 256) (k % 256) = false := by
    unfold State.bootServes
    rw [ha]
    rfl
  unfold State.rowWhole State.serveDom
  rw [running, if_neg Bool.false_ne_true, State.serve_of_role ha hr]

/-- A whole value for a subindex of a higher role changes no register but those of a reject record. -/
theorem rowWhole_role_kept (ok : s.storesOk) (ha : s.alive = true) (hr : s.roleOf o = some r) (hx : odFind (k / 256) (k % 256) = some x)
    (hrole : r.rank < x.role.rank) : RegsKept rejectKeys s (s.rowWhole o k start d sig) := by
  have hix := odFind_ix_lt hx
  rw [State.rowWhole_of_role ha hr, State.wholeWrite_of_target (by rwa [State.touch_alive]) (by decide)
    (checkTarget_role (own := true) (need := .observer) (.inl (by omega)) hx hrole)]
  exact (RegsKept.of_regs (State.touch_regs s o)).trans (keeps_rejected (storesOk_touch ok o) _ _ _ _ _ _).regs

end

/-! ### An installer's image for the fallback region -/

/-- A unit in STAGING with a local port of the role INSTALLER, its control domains ON. -/
def installerUnit : State :=
  { State.reset with mode := { mode := .staging }, lcl := { keyEn := true }, power := { dom := [2, 2, 2, 2, 0, 0, 0, 0, 0, 0] } }

/-- A firmware image of 4,096 bytes that passes the checks of R364. -/
def fallbackImage : Bytes :=
  beBytes 4 0x4E584657 ++ beBytes 4 4096 ++ beBytes 4 1 ++ beBytes 2 0 ++ beBytes 2 0x9600 ++ List.replicate 4080 0

theorem fallbackImage_length : fallbackImage.length = 4096 := by decide +kernel

theorem storesOk_installerUnit : installerUnit.storesOk := by unfold State.storesOk; decide +kernel

/-- FW_FALLBACK belongs to SERVICE: FW_STATE stays 0. -/
theorem fwState_fallback_installerUnit :
    (installerUnit.rowWhole .localPort Reg.fwFallback 0 fallbackImage true).reg Reg.fwState = 0 := by
  obtain ⟨x, hx, hrole⟩ : ∃ x, odFind (Reg.fwFallback / 256) (Reg.fwFallback % 256) = some x ∧ x.role = .service := by decide +kernel
  have kept := rowWhole_role_kept (start := 0) (d := fallbackImage) (sig := true) storesOk_installerUnit rfl
    (show installerUnit.roleOf .localPort = some .installer from rfl) hx (by rw [hrole]; decide)
  exact (kept.reg (by decide)).trans (by decide +kernel)

/-- Refutes O31: its fifth clause fails in `installerUnit`. It lets an INSTALLER write either firmware region, while FW_FALLBACK is an
object of SERVICE (Table 12.17): DOMAIN_BEGIN is refused with 0x0201 and FW_STATE does not read 2. -/
theorem not_wholeValuesArrive : ¬ Obligations.WholeValuesArrive := by
  unfold Obligations.WholeValuesArrive
  rintro ⟨-, -, -, -, fwImage, -⟩
  obtain ⟨t, ht, -, hstate, -⟩ := fwImage .localPort true fallbackImage installerUnit storesOk_installerUnit
    ⟨rfl, ⟨.installer, rfl, le_rfl⟩, by decide⟩ fallbackImage_length.ge (by rw [fallbackImage_length]; decide) (by decide +kernel) rfl
  have outcome := Host.Outcome.next.inj ht
  have unchanged : t.reg Reg.fwState = 0 := (congrArg (·.reg Reg.fwState) outcome).symm.trans fwState_fallback_installerUnit
  rw [hstate] at unchanged
  cases unchanged

end Sys2Proof.Machine

/-! SUPPORT. Commands of no change class that carry a value (R14, R16, R487). -/

namespace Sys2Proof.Machine

/-! ### The rows -/

/-- `x` is the row of subindex `k`, a command of no change class and role `r` without a rule of its own, and `v` is a legal value. -/
structure CmdRow (k : Nat) (r : Role) (v : Bytes) (x : Obj) : Prop where
  row : odFind (k / 256) (k % 256) = some x
  cmd : x.acc = .cmd
  chg : x.chg = .none
  role : x.role = r
  noRule : hasArrivalRule (k / 256) (k % 256) = false
  legal : Legal x (k / 256) (k % 256) v

/-- Is subindex `k` such a row, of type `ty` and range `g`? -/
def isCmdRow (k : Nat) (r : Role) (ty : Ty) (g : Rng) : Bool :=
  ((odFind (k / 256) (k % 256)).any fun x => x.acc == .cmd && x.chg == .none && x.role == r && x.ty == ty && x.rng == g) &&
    !hasArrivalRule (k / 256) (k % 256)

theorem key_div_mod (k : Nat) : Reg.key (k / 256) (k % 256) = k := Nat.div_add_mod' k 256

section
variable {s t : State} {o : Origin} {k st lo hi : Nat} {r : Role} {ty : Ty} {g : Rng} {v : Bytes} {x : Obj}

theorem cmdRow_of_isCmdRow (h : isCmdRow k r ty g = true) (legal : ∀ x : Obj, x.ty = ty → x.rng = g → Legal x (k / 256) (k % 256) v) :
    ∃ x, CmdRow k r v x := by
  unfold isCmdRow at h
  rw [Bool.and_eq_true, Option.any_eq_true, Bool.not_eq_true'] at h
  obtain ⟨⟨x, hx, hfields⟩, hrule⟩ := h
  simp only [Bool.and_eq_true, beq_iff_eq] at hfields
  obtain ⟨⟨⟨⟨hacc, hchg⟩, hrole⟩, hty⟩, hrng⟩ := hfields
  exact ⟨x, hx, hacc, hchg, hrole, hrule, legal x hty hrng⟩

/-- A number of one byte in a span of numbers. -/
theorem cmdRow_span {n : Nat} (h : isCmdRow k r (.u 1) (.span lo hi) = true) (hrec : carriesRecord (k / 256) (k % 256) = false)
    (hlo : lo ≤ n) (hhi : n ≤ hi) (hbyte : n < 256) : ∃ x, CmdRow k r (beBytes 1 n) x := by
  have num : beNat (beBytes 1 n) = n := beNat_beBytes hbyte
  refine cmdRow_of_isCmdRow h fun x hty hg =>
    { form := .inl hty
      listed := fun c => ?_
      applied := fun c => by unfold Obj.applied; rw [hg]; rfl
      fields := recordListed_of_plain hrec
      unclamped := recordClamp_of_plain hrec }
  rw [hg, num]
  show (decide (lo ≤ n) && decide (n ≤ hi)) = true
  simp [hlo, hhi]

/-- The class of a row bears on its value's checks only where it is F. -/
theorem Legal.checkValue_of_chg (h : Legal x (k / 256) (k % 256) v) (hc : x.chg = .none)
    (hn : hasArrivalRule (k / 256) (k % 256) = false) : s.checkValue x (k / 256) (k % 256) x.ty.code v = 0 := by
  have live : Legal { x with chg := .l } (k / 256) (k % 256) v := ⟨h.form, h.listed, h.applied, h.fields, h.unclamped⟩
  rw [← live.checkValue (s := s) rfl hn]
  unfold State.checkValue
  rw [hc]
  rfl

/-- The command is carried out as its message is accepted. -/
theorem CmdRow.rowWrite_done (hx : CmdRow k r v x) (hu : s.canUse o r (odDomain (k / 256)))
    (run : (s.touch o).runCmd { org := o, ix := k / 256, sub := k % 256, val := v } = (0, st, t)) :
    s.rowWrite o (k / 256) (k % 256) v = (t.setReg k st).send (.result o 0 (k / 256) (k % 256) 0 []) := by
  obtain ⟨ha, ⟨q, hr, hq⟩, hd⟩ := hu
  have hix := odFind_ix_lt hx.row
  have target : (s.touch o).checkTarget ((s.touch o).writeRole o q (k / 256) (k % 256)) .observer (k / 256) (k % 256) true
      Acc.writable = (0, some x) :=
    checkTarget_ok (.inl (by omega)) hx.row (by rw [hx.role]; exact hq.trans State.rank_le_writeRole) (by rw [hx.cmd]; rfl)
      (by rwa [State.touch_domOn])
  have check : (s.touch o).checkWrite o q (k / 256) (k % 256) x.ty.code v = (0, some x) := by
    unfold State.checkWrite
    rw [target]
    exact congrArg (·, some x) (hx.legal.checkValue_of_chg hx.chg hx.noRule)
  have put : (s.touch o).putWrite o x (k / 256) (k % 256) v = (0, t.setReg k st) := by
    unfold State.putWrite
    rw [if_pos hx.cmd, if_neg (by rw [hx.chg]; nofun)]
    unfold State.cmdNow State.cmdState
    dsimp only
    rw [run, if_pos rfl]
    exact congrArg (fun j => (0, t.setReg j st)) (key_div_mod k)
  rw [State.rowWrite_of_row ha hr hx.row, State.opWrite_of_checks check (State.arrivalRefused_of_noRule hx.noRule _)
    (fun _ hl => by rw [hx.chg] at hl; cases hl) hx.legal.clampWrite, put]
  rfl

/-- Its outcome: its state, the result sent, and all else as carrying it out left it. -/
theorem CmdRow.exec_done (hx : CmdRow k r v x) (hu : s.canUse o r (odDomain (k / 256)))
    (run : (s.touch o).runCmd { org := o, ix := k / 256, sub := k % 256, val := v } = (0, st, t)) (ok : t.storesOk)
    (pending : t.pending = s.pending) : ∃ w, s.done (s.rowWrite o (k / 256) (k % 256) v) = .next w ∧ w.reg k = st ∧ Keeps [k] t w ∧
      w = { t with regs := w.regs, sent := .result o 0 (k / 256) (k % 256) 0 [] :: t.sent } := by
  have set := (Keeps.refl (ks := [k]) ok).setReg (List.mem_singleton_self k) st
  exact ⟨_, (congrArg s.done (hx.rowWrite_done hu run)).trans (State.done_of_pending pending), reg_setReg ok k st,
    ⟨set.stores, set.regs⟩, rfl⟩

end

end Sys2Proof.Machine

/-! PROOFS. LOAD, ARM, FW_FLOOR_RAISE and PRIO_SET (R84, R335, R365, R403). -/

namespace Sys2Proof.Machine

section
variable {s : State} {o : Origin} {n id : Nat} {v : Bytes}

/-! ### LOAD (R84) -/

/-- The topo unit with a load of slot `n` begun and no candidate. -/
def State.loadBegun (s : State) (n : Nat) : TopoSt :=
  { s.topo with cand := none, load := some { slot := n, boot := false, other := none, since := s.clock.cclk } }

/-- `s` as LOAD leaves it, but for the state LOAD reads. -/
def State.loading (s : State) (n : Nat) : State :=
  (({ s with topo := s.loadBegun n } : State).setReg Reg.candTopoId 0).setReg Reg.candState (if s.mode.mode = .staging then 0 else 1)

theorem State.runCmd_load (hn : n < 256) (hsw : s.topo.switch = .none) (hl : s.topo.load = none) (hd : s.domOn 7 = true) :
    s.runCmd { org := o, ix := Reg.load / 256, sub := Reg.load % 256, val := beBytes 1 n } = (0, 1, s.loading n) := by
  have free : ¬(s.topo.switch ≠ .none ∨ s.topo.load.isSome = true) := by simp [hsw, hl]
  have run : s.loadCmd n = (0, 1, s.loading n) := by
    unfold State.loadCmd
    rw [if_neg free, hd]
    rfl
  rw [State.runCmd_system (.inr (by norm_num)), ← run]
  unfold State.runSystem
  rw [show beNat (beBytes 1 n) = n from beNat_beBytes hn]
  simp [key_div_mod]

/-! ### ARM (R335) -/

/-- Every bit of a mask built over `l`: as it was, or set where a listed bit fails `p`. -/
theorem bit_foldl_setBit (p : Nat → Bool) (l : List Nat) (m b : Nat) :
    bit (l.foldl (fun m k => if p k then m else setBit m k) m) b = (bit m b || (l.contains b && !p b)) := by
  induction l generalizing m with
  | nil => simp
  | cons k l ih =>
    rw [List.foldl_cons, ih]
    by_cases hb : b = k
    · subst hb
      cases p b <;> simp [bit_setBit]
    · cases p k <;> simp [bit_setBit, hb, Ne.symm hb]

/-- `s` with the injector's record `x`, whose STATE reads `n`. -/
def State.injecting (s : State) (x : InjSt) (n : Nat) : State := ({ s with inj := x } : State).setReg Reg.state n

/-- The injector as ARM by session `id` leaves it. -/
def State.armedBy (s : State) (id : Nat) : InjSt :=
  { armed := true, by_ := id, till := s.clock.cclk + ms (s.reg Reg.durationMs)
    rules := (List.range 4).foldl (fun m k => if s.reg (Reg.ruleAction k) = 0 then m else setBit m k) 0 }

theorem bit_armedBy_rules (hn : n < 4) : bit (s.armedBy id).rules n = (s.reg (Reg.ruleAction n) != 0) := by
  have bits := bit_foldl_setBit (fun k => s.reg (Reg.ruleAction k) == 0) (List.range 4) 0 n
  simp only [beq_iff_eq] at bits
  unfold State.armedBy
  rw [bits]
  simp [bit, hn, bne]

theorem State.armRules_eq_raise (s : State) (id : Nat) : s.armRules id = (s.injecting (s.armedBy id) 1).raise 62 (beBytes 1 1) := rfl

theorem State.disarm_eq_raise (h : s.inj.armed = true) :
    s.disarm = (s.injecting { s.inj with armed := false, rules := 0 } 0).raise 62 (beBytes 1 0) := by
  unfold State.disarm
  rw [if_pos h]
  rfl

theorem State.runCmd_arm (v : Bytes) :
    s.runCmd { org := o, ix := Reg.arm / 256, sub := Reg.arm % 256, val := v } = (0, 2, s.armCmd o (beNat v)) := by
  rw [State.runCmd_system (.inl (by norm_num))]
  unfold State.runSystem
  simp [key_div_mod, cmdOk]

/-- What a command of ARM's that leaves the injector `x` does: STATE reads `n`, and EV62 is raised. -/
theorem exec_arm {x : InjSt} {a : Nat} {p : Bytes} (ok : s.storesOk) (hu : s.canUse o .service 2) (ha : a ≤ 1)
    (run : (s.touch o).armCmd o a = ((s.touch o).injecting x n).raise 62 p) :
    ∃ t, s.done (s.rowNum o Reg.arm 1 a) = .next t ∧ t.inj = x ∧ t.reg Reg.state = n ∧ t.reg Reg.arm = 2 ∧ Counted 62 s t ∧
      RegsKept ([Reg.state, Reg.arm] ++ evKeys 62) s t ∧
      t = State.answered { s with regs := t.regs, inj := x, ev := t.ev, q := t.q, report := t.report } o Reg.arm 0 0 [] := by
  have alive := hu.1
  have touched : ({ s.touch o with inj := x } : State).storesOk := storesOk_touch ok o
  have begun : Keeps [Reg.state] s ((s.touch o).injecting x n) :=
    (show Keeps [Reg.state] s { s.touch o with inj := x } from ⟨touched, .of_regs (State.touch_regs s o)⟩).setReg (by simp) n
  have state : ((s.touch o).injecting x n).reg Reg.state = n := reg_setReg touched _ _
  have raised := raise_kept begun.stores 62 p
  have counted := (counted_raise (ev := 62) begun.stores (by rw [← State.touch_alive s o] at alive; exact alive) (by decide) p).of_reg (s := s)
    (begun.reg (by decide))
  have frame := State.raise_eq ((s.touch o).injecting x n) 62 p
  have stores := storesOk_raise begun.stores 62 p
  have command : (s.touch o).runCmd { org := o, ix := Reg.arm / 256, sub := Reg.arm % 256, val := beBytes 1 a } =
      (0, 2, ((s.touch o).injecting x n).raise 62 p) := by
    rw [State.runCmd_arm, beNat_beBytes (show a < 256 ^ 1 by omega), run]
  generalize ((s.touch o).injecting x n).raise 62 p = u at raised counted frame stores command
  obtain ⟨y, hy⟩ := cmdRow_span (k := Reg.arm) (r := .service) (lo := 0) (hi := 1) (n := a) (by decide +kernel) (by decide +kernel) (by omega) ha
    (by omega)
  obtain ⟨t, ht, hst, kept, same⟩ := hy.exec_done hu command stores (by rw [frame]; exact State.touch_pending s o)
  have regs : RegsKept ([Reg.state, Reg.arm] ++ evKeys 62) s t :=
    (begun.regs.mono (by simp)).trans ((raised.mono (List.subset_append_right _ _)).trans (kept.regs.mono (by simp)))
  refine ⟨t, ht, by rw [same, frame]; rfl, ?_, hst, counted.kept kept.regs (by decide) (by decide), regs, ?_⟩
  · exact (kept.reg (by decide)).trans ((raised.reg (by decide)).trans state)
  · rw [same, frame]
    cases o <;> rfl

/-! ### FW_FLOOR_RAISE (R365) -/

/-- The floor is fused at the running image's version, where no valid image lies below it. -/
theorem State.floorRaise_raises {i : FwImg} (hrun : s.fw.running = some i) (hleft : s.fw.raises < 64) (hfloor : s.fw.floor < i.secVer)
    (h : ∀ j : FwImg, s.fw.primary = some j ∨ s.fw.fallback = some j → j.valid = true → i.secVer ≤ j.secVer) :
    s.floorRaise =
      (0, 2, ({ s with fw := { s.fw with floor := i.secVer, raises := s.fw.raises + 1 } } : State).setReg Reg.fwFloor i.secVer) := by
  have above (m : Option FwImg) (hm : ∀ j, m = some j → j.valid = true → i.secVer ≤ j.secVer) :
      (m.any fun x => x.valid && decide (x.secVer < i.secVer)) = false := by
    cases m with
    | none => rfl
    | some j =>
      have := hm j rfl
      cases hv : j.valid
      · simp [hv]
      · simp [hv, this hv]
  unfold State.floorRaise
  rw [hrun]
  simp only [above _ fun j hj => h j (.inl hj), above _ fun j hj => h j (.inr hj), Nat.not_le.mpr hleft, Nat.not_le.mpr hfloor,
    decide_false, Bool.or_self, Bool.false_eq_true, if_false, cmdOk]

theorem State.runCmd_fwFloorRaise : s.runCmd (nowCmd o Reg.fwFloorRaise) = s.floorRaise := by
  rw [State.runCmd_nowCmd (by decide)]
  unfold State.runSystem; simp [key_nowCmd]

/-! ### PRIO_SET (R403) -/

/-- The key of the priority that record `v` names. -/
def prioKey (v : Bytes) : Nat := if field v 0 1 = 1 then Reg.dramPrio (field v 1 1) else Reg.hearthPrio (field v 1 1)

theorem prioKey_ne_prioSet (h : field v 1 1 ≤ 10) : prioKey v ≠ Reg.prioSet := by
  unfold prioKey
  split <;> simp only [Reg.dramPrio, Reg.hearthPrio, Reg.prioSet] <;> omega

theorem State.runCmd_prioSet (h0 : field v 0 1 ≤ 1) (h1 : field v 1 1 ≤ 10) :
    s.runCmd { org := o, ix := Reg.prioSet / 256, sub := Reg.prioSet % 256, val := v } = (0, 2, s.setReg (prioKey v) (field v 2 1)) := by
  have run : s.prioSet (field v 0 1) (field v 1 1) (field v 2 1) = (0, s.setReg (prioKey v) (field v 2 1)) := by
    unfold State.prioSet
    rw [if_neg (by omega)]
    rfl
  have core : s.runCmd { org := o, ix := Reg.prioSet / 256, sub := Reg.prioSet % 256, val := v } =
      s.runCore { org := o, ix := Reg.prioSet / 256, sub := Reg.prioSet % 256, val := v } := by
    unfold State.runCmd
    rw [if_neg (by norm_num), if_neg (by norm_num)]
  rw [core]
  unfold State.runCore
  simp [key_div_mod, run, cmdOf, cmdOk]

theorem cmdRow_prioSet (hlen : v.length = 3) (h0 : field v 0 1 ≤ 1) (h1 : field v 1 1 ≤ 10) (h2 : field v 2 1 ≤ 15) :
    ∃ x, CmdRow Reg.prioSet .operator v x := by
  refine cmdRow_of_isCmdRow (ty := .oct 3 3) (g := .any) (by decide +kernel) fun x hty hg =>
    { form := .inr ⟨3, 3, hty, hlen.ge, hlen.le⟩
      listed := by rw [hg]; exact fun _ => rfl
      applied := fun c => by unfold Obj.applied; rw [hg]; rfl
      fields := fun d t => ?_
      unclamped := ?_ }
  · unfold recordListed
    simp [key_div_mod, h0, h1]
  · unfold recordClamp
    simp [key_div_mod, clampField_within (Nat.zero_le _) h2]

end

/-- Settles O23: each command is carried out as its message is accepted (`CmdRow.exec_done`, `exec_now`). -/
theorem serviceCommands : Obligations.ServiceCommands := by
  refine ⟨fun o n s ok hu hn hsw hl hd => ?_, fun id s ok hu => ?_, fun id s ok hu harmed => ?_, fun o i s ok hu hrun hleft hfloor himgs => ?_,
    fun o v s ok hu hlen h0 h1 h2 => ?_⟩
  · have run := State.runCmd_load (s := s.touch o) (o := o) (n := n) (by omega) (by rw [State.touch_eq]; exact hsw)
      (by rw [State.touch_eq]; exact hl) (by rwa [State.touch_domOn])
    have touched : ({ s.touch o with topo := (s.touch o).loadBegun n } : State).storesOk := storesOk_touch ok o
    have begun := storesOk_setReg touched Reg.candTopoId 0
    have set : Keeps [Reg.candTopoId, Reg.candState] s ((s.touch o).loading n) :=
      ((show Keeps [Reg.candTopoId, Reg.candState] s { s.touch o with topo := (s.touch o).loadBegun n } from
        ⟨touched, .of_regs (State.touch_regs s o)⟩).setReg (by simp) _).setReg (by simp) _
    have candState : ((s.touch o).loading n).reg Reg.candState = if s.mode.mode = .staging then 0 else 1 := by
      rw [← State.touch_mode s o]
      exact reg_setReg begun _ _
    have candTopo : ((s.touch o).loading n).reg Reg.candTopoId = 0 :=
      (reg_setReg_ne begun _ (by decide)).trans (reg_setReg touched _ _)
    obtain ⟨x, hx⟩ := cmdRow_span (k := Reg.load) (r := .installer) (lo := 1) (hi := 2) (n := n) (by decide +kernel) (by decide +kernel)
      (by omega) (by omega) (by omega)
    obtain ⟨t, ht, hst, kept, frame⟩ := hx.exec_done hu run set.stores (State.touch_pending s o)
    refine ⟨t, ht, (kept.reg (by decide)).trans candTopo, (kept.reg (by decide)).trans candState, hst,
      (set.regs.mono (by simp)).trans (kept.regs.mono (by simp)), ?_⟩
    rw [frame]
    cases o <;> rfl
  · obtain ⟨t, ht, inj, state, hst, counted, kept, frame⟩ := exec_arm ok hu le_rfl (State.armRules_eq_raise (s.touch (.session id)) id)
    have rules {n : Nat} (hn : n < 4) := bit_armedBy_rules (s := s.touch (.session id)) (id := id) hn
    rw [← inj] at rules
    refine ⟨t, ht, by rw [inj]; rfl, by rw [inj]; rfl, by rw [inj]; rfl, fun n hn => ?_, state, hst, counted, kept, ?_⟩
    · rw [rules hn, State.touch_reg]
    · rw [inj]
      exact frame
  · have disarmed := State.disarm_eq_raise (s := s.touch (.session id)) harmed
    obtain ⟨t, ht, inj, state, hst, counted, kept, frame⟩ := exec_arm ok hu (Nat.zero_le 1) disarmed
    refine ⟨t, ht, inj, state, hst, counted, kept, ?_⟩
    rw [inj]
    exact frame
  · have run := State.floorRaise_raises (s := s.touch o) (by rw [State.touch_eq]; exact hrun) (by rw [State.touch_eq]; exact hleft)
      (by rw [State.touch_eq]; exact hfloor) (by rw [State.touch_eq]; exact himgs)
    rw [← State.runCmd_fwFloorRaise (o := o)] at run
    have touched : ∀ f : FwSt, ({ s.touch o with fw := f } : State).storesOk := fun _ => storesOk_touch ok o
    have fused : Keeps [Reg.fwFloor, Reg.fwFloorRaise] s _ :=
      (show Keeps _ s { s.touch o with fw := _ } from ⟨touched _, .of_regs (State.touch_regs s o)⟩).setReg (k := Reg.fwFloor) (by simp) i.secVer
    obtain ⟨t, ht, hst, kept, frame⟩ := exec_now (by decide +kernel) (by decide +kernel) hu run fused.stores (State.touch_pending s o)
    refine ⟨t, ht, (kept.reg (by decide)).trans (reg_setReg (touched _) _ _), hst, (fused.regs).trans (kept.regs.mono (by simp)), ?_⟩
    rw [frame]
    cases o <;> rfl
  · have touched := storesOk_touch ok o
    have set : Keeps [prioKey v, Reg.prioSet] s ((s.touch o).setReg (prioKey v) (field v 2 1)) :=
      (show Keeps _ s (s.touch o) from ⟨touched, .of_regs (State.touch_regs s o)⟩).setReg (by simp) _
    obtain ⟨x, hx⟩ := cmdRow_prioSet hlen h0 h1 h2
    obtain ⟨t, ht, hst, kept, frame⟩ := hx.exec_done hu (State.runCmd_prioSet h0 h1) set.stores (State.touch_pending s o)
    refine ⟨t, ht, (kept.reg fun h => prioKey_ne_prioSet h1 (List.mem_singleton.mp h)).trans (reg_setReg touched _ _), hst,
      set.regs.trans (kept.regs.mono (by simp)), ?_⟩
    rw [frame]
    cases o <;> rfl

end Sys2Proof.Machine

/-! SUPPORT. What the tables of an activation and the tasks a switch cancels leave as it is: the topo unit, the boot flash, the local clock,
the mode and the waiting commands. -/

namespace Sys2Proof.Machine

/-! ### The ground of a state -/

/-- The parts of a state on which an activation stands. -/
structure Ground where
  topo : TopoSt
  flash : List (Nat × Byte)
  clock : ClockSt
  mode : ModeSt
  pending : List Instr

def State.ground (s : State) : Ground := ⟨s.topo, s.flash, s.clock, s.mode, s.pending⟩

section
variable {s t : State}

theorem ground_eq_iff : t.ground = s.ground ↔
    t.topo = s.topo ∧ t.flash = s.flash ∧ t.clock = s.clock ∧ t.mode = s.mode ∧ t.pending = s.pending := by
  simp [State.ground]

theorem State.ground_foldl {α : Type} {f : State → α → State} (h : ∀ t x, (f t x).ground = t.ground) (l : List α) (s : State) :
    (l.foldl f s).ground = s.ground := by
  induction l generalizing s with
  | nil => rfl
  | cons x l ih => rw [List.foldl_cons, ih, h]

theorem State.ground_ite {c : Prop} [Decidable c] {a b : State} (ha : a.ground = s.ground) (hb : b.ground = s.ground) :
    (if c then a else b).ground = s.ground := by
  split
  · exact ha
  · exact hb

theorem OutputsOnly.ground (h : OutputsOnly s t) : t.ground = s.ground := by
  unfold OutputsOnly at h
  rw [h]
  rfl

theorem LoopsKept.ground (h : LoopsKept s t) : t.ground = s.ground := by
  rw [h.frame]
  rfl

end

/-! ### The shared updates -/

section
variable (s : State)

@[simp] theorem State.setReg_ground (k v : Nat) : (s.setReg k v).ground = s.ground := rfl
@[simp] theorem State.addReg_ground (k n : Nat) : (s.addReg k n).ground = s.ground := rfl
@[simp] theorem State.incReg_ground (k : Nat) : (s.incReg k).ground = s.ground := rfl
@[simp] theorem State.setRegs_ground (l : List (Nat × Nat)) : (s.setRegs l).ground = s.ground := by rw [State.setRegs_eq]; rfl
@[simp] theorem State.send_ground (o : Output) : (s.send o).ground = s.ground := rfl
@[simp] theorem State.setEngine_ground (e : Nat) (x : Engine) : (s.setEngine e x).ground = s.ground := rfl
@[simp] theorem State.setSpill_ground (n : Nat) (q : Spill) : (s.setSpill n q).ground = s.ground := rfl
@[simp] theorem State.setCb_ground (c : Nat) (x : Carab) : (s.setCb c x).ground = s.ground := rfl
@[simp] theorem State.setRas_ground (r : RasterSt) : (s.setRas r).ground = s.ground := rfl
@[simp] theorem State.noteChange_ground : s.noteChange.ground = s.ground := rfl
@[simp] theorem State.setLayer_ground (k : Nat) (x : LayerSt) : (s.setLayer k x).ground = s.ground := rfl
@[simp] theorem State.setLoop_ground (j : Nat) (x : LoopSt) : (s.setLoop j x).ground = s.ground := rfl
@[simp] theorem State.setStream_ground (i : Nat) (x : StreamSt) : (s.setStream i x).ground = s.ground := rfl
@[simp] theorem State.setPort_ground (p : Nat) (x : PortSt) : (s.setPort p x).ground = s.ground := rfl

@[simp] theorem State.setQueue_ground (n : Nat) (q : Queue) : (s.setQueue n q).ground = s.ground := by
  unfold State.setQueue
  split <;> rfl

@[simp] theorem State.ramWrite_ground (dram : Bool) (a : Nat) (bs : Bytes) : (s.ramWrite dram a bs).ground = s.ground := by
  cases dram <;> rfl

@[simp] theorem State.drawWord_ground (b : Nat) : (s.drawWord b).2.ground = s.ground := by
  unfold State.drawWord
  split <;> rfl

@[simp] theorem State.raise_ground (ev : Nat) (p : Bytes) : (s.raise ev p).ground = s.ground := by rw [State.raise_eq]; rfl

@[simp] theorem State.raiseLoss_ground (ev q n : Nat) (p : Bytes) : (s.raiseLoss ev q n p).ground = s.ground := by
  rw [State.raiseLoss_eq]; rfl

@[simp] theorem State.poolCheck_ground : s.poolCheck.ground = s.ground := by rw [State.poolCheck_eq]; rfl

@[simp] theorem State.clamped_ground (ix sub : Nat) (src : Nat × Nat) (field given applied : Nat) :
    (s.clamped ix sub src field given applied).ground = s.ground := by
  unfold State.clamped
  dsimp only
  rw [State.raise_ground]
  exact State.ground_ite rfl ((State.raiseLoss_ground _ _ _ _ _).trans rfl)

/-! ### Tasks that are cancelled (R88, R397) -/

@[simp] theorem State.trace_ground (e dec slot st : Nat) (t : Task) : (s.trace e dec slot st t).ground = s.ground := by
  unfold State.trace
  dsimp only
  split
  · rfl
  · split
    · exact State.poolCheck_ground _
    · exact (State.raiseLoss_ground _ _ _ _ _).trans (State.poolCheck_ground _)

@[simp] theorem State.cancelIdle_ground (e slot : Nat) (t : Task) : (s.cancelIdle e slot t).ground = s.ground :=
  State.trace_ground _ _ _ _ _ _

@[simp] theorem State.cancelPrefetched_ground (p : Task → Bool) (e : Nat) : (s.cancelPrefetched p e).ground = s.ground :=
  State.ground_foldl (fun _ _ => State.cancelIdle_ground _ _ _ _) _ _

@[simp] theorem State.unstall_ground (n id : Nat) : (s.unstall n id).ground = s.ground := by
  unfold State.unstall
  split
  · rfl
  · split
    · exact State.setQueue_ground _ _ _
    · rfl

@[simp] theorem State.taskFaultEvent_ground (id : Nat) : (s.taskFaultEvent id).ground = s.ground :=
  (State.raise_ground _ _ _).trans (State.drawWord_ground s 8)

@[simp] theorem State.startHead_ground (e : Nat) : (s.startHead e).ground = s.ground := by
  unfold State.startHead
  dsimp only
  split
  · split
    · simp
    · split
      · simp
      · split
        · split <;> simp
        · simp
        · simp
  · rfl

@[simp] theorem State.serveCb_ground (c : Nat) : (s.serveCb c).ground = s.ground := by
  refine State.ground_foldl (fun t e => ?_) _ s
  split
  · exact State.ground_ite (State.startHead_ground t e) rfl
  · rfl

@[simp] theorem State.breakCb_ground (c : Nat) : (s.breakCb c).ground = s.ground :=
  (State.raise_ground _ _ _).trans (State.drawWord_ground _ 8)

@[simp] theorem State.forceCb_ground (c : Nat) : (s.forceCb c).ground = s.ground :=
  (State.serveCb_ground _ c).trans (State.breakCb_ground s c)

@[simp] theorem State.abortTask_ground (e slot : Nat) (t : Task) : (s.abortTask e slot t).ground = s.ground := by
  unfold State.abortTask
  dsimp only
  split <;> simp

@[simp] theorem State.bpSettle_ground (n : Nat) : (s.bpSettle n).ground = s.ground := by
  unfold State.bpSettle
  dsimp only
  split
  · rfl
  · split
    · exact State.setQueue_ground _ _ _
    · rfl

@[simp] theorem State.resumeHead_ground (e : Nat) : (s.resumeHead e).ground = s.ground := by
  unfold State.resumeHead
  split
  · exact State.ground_ite (State.startHead_ground s e) rfl
  · rfl

@[simp] theorem State.cancelEngine_ground (p : Task → Bool) (e : Nat) : (s.cancelEngine p e).ground = s.ground := by
  unfold State.cancelEngine
  extract_lets x hit u v
  have waiting : v.ground = s.ground := State.ground_foldl (fun _ _ => State.abortTask_ground _ _ _ _) _ u
  split
  · exact waiting
  · next t _ =>
    have settled : (if t.blocked.isSome then v.bpSettle (dOut t.row) else v).ground = s.ground :=
      State.ground_ite ((State.bpSettle_ground v _).trans waiting) waiting
    split
    · exact waiting
    · split
      · simpa using settled
      · exact waiting

theorem State.cancelWhere_ground (p : Task → Bool) : (s.cancelWhere p).ground = s.ground := by
  unfold State.cancelWhere
  dsimp only
  rw [State.ground_foldl fun t e => State.cancelEngine_ground t p e, State.ground_foldl fun t e => State.cancelPrefetched_ground t p e,
    State.ground_foldl fun t x => State.cancelIdle_ground t _ _ x]
  rfl

end

end Sys2Proof.Machine

/-! SUPPORT. The tables of an activation leave the ground of the state (R84, R88): one lemma for each operation of `State.install`. -/

namespace Sys2Proof.Machine

section
variable (s : State) (x : Topo)

/-! ### The Hearth's tables, surfaces, banks and loops -/

@[simp] theorem State.lutTables_ground (sec : Bytes) : (s.lutTables sec).ground = s.ground := State.ramWrite_ground _ _ _ _

@[simp] theorem State.installTables_ground : (s.installTables x).ground = s.ground := by
  simp [State.installTables]

@[simp] theorem State.installRegs_ground : (s.installRegs x).ground = s.ground := State.setRegs_ground s _

/-- Surfaces that move within the store move in the DRAM alone. -/
theorem State.storeCompact_ground : s.storeCompact.ground = s.ground := by
  have moved (l : List ((Nat × Surface) × Bytes)) (a : Nat) (t : State) : ((l.foldl (fun (r : Nat × State) x =>
      let t := r.2.ramWrite true r.1 x.2
      (r.1 + x.1.2.len, { t with comp := { t.comp with surf := { t.comp.surf with
        slots := assocSet t.comp.surf.slots x.1.1 { x.1.2 with addr := r.1 } } } })) (a, t)).2).ground = t.ground := by
    induction l generalizing a t with
    | nil => rfl
    | cons y l ih => exact (ih _ _).trans (State.ramWrite_ground t true a y.2)
  exact moved _ _ s

@[simp] theorem State.storeRoom_ground (n : Nat) : (s.storeRoom n).ground = s.ground := State.ground_ite rfl s.storeCompact_ground

@[simp] theorem State.storeSurface_ground (img : Bytes) : (s.storeSurface img).2.ground = s.ground := by
  unfold State.storeSurface
  dsimp only
  split
  · exact (State.ramWrite_ground _ _ _ _).trans (State.storeRoom_ground _ _)
  · rfl

@[simp] theorem State.installSurfaces_ground : (s.installSurfaces x).ground = s.ground :=
  State.ground_foldl (fun t _ => t.storeSurface_ground _) _ _

@[simp] theorem State.installStreams_ground (old : Option Topo) (switch : Bool) : (s.installStreams x old switch).ground = s.ground := rfl

@[simp] theorem State.putCoefs_ground (bank : Nat) (b : Bytes) : (s.putCoefs bank b).ground = s.ground := rfl
@[simp] theorem State.putLut_ground (sel : Nat) (b : Bytes) : (s.putLut sel b).ground = s.ground := rfl

@[simp] theorem State.installBanks_ground : (s.installBanks x).ground = s.ground := by
  unfold State.installBanks
  refine (State.ground_foldl (fun t o => t.putLut_ground _ _) _ _).trans ?_
  show (match x.section? 0x21 with
    | none => s
    | some b => (List.range 16).foldl (fun (s : State) i => s.putCoefs i (slice b (448 * i) 448)) s).ground = _
  split
  · rfl
  · exact State.ground_foldl (fun t i => t.putCoefs_ground _ _) _ s

@[simp] theorem State.loopAppend_ground (j : Nat) (b : Bytes) : (s.loopAppend j b).ground = s.ground := by
  have seen (t : State) (n d : Nat) : (t.seeDepth n d).poolCheck.ground = t.ground := State.poolCheck_ground _
  unfold State.loopAppend
  dsimp only
  split
  · rfl
  · split
    · simp
    · split_ifs <;> simp [seen]

@[simp] theorem State.loopTo_ground (j i st : Nat) : (s.loopTo j i st).ground = s.ground := by
  cases h : (s.loop j).items[i]? with
  | none => unfold State.loopTo; dsimp only; rw [h]
  | some e => exact (State.loopTo_loopsKept h).ground

@[simp] theorem State.loopStart_ground (j : Nat) : (s.loopStart j).ground = s.ground := State.ground_ite rfl (s.loopTo_ground j 0 2)

@[simp] theorem State.installLoops_ground : (s.installLoops x).ground = s.ground := by
  refine State.ground_foldl (fun t o => ?_) _ _
  have filled (u : State) (j n : Nat) : ((List.range n).foldl
      (fun (s : State) i => s.loopAppend j (slice (x.sec 0x23) (o + 8 + 16 * i) 16)) u).ground = u.ground :=
    State.ground_foldl (fun v i => v.loopAppend_ground _ _) _ u
  exact State.ground_ite ((State.loopStart_ground _ _).trans (filled _ _ _)) (filled _ _ _)

/-! ### The layers (R99, R128, R142) -/

@[simp] theorem State.takeSets_ground : s.takeSets.ground = s.ground := by
  refine State.ground_foldl (fun t k => ?_) _ s
  dsimp only
  split
  · rfl
  · split <;> simp

@[simp] theorem State.fixReg_ground (key old v : Nat) : (s.fixReg key old v).ground = s.ground := State.ground_ite rfl rfl

@[simp] theorem State.fixField_ground (k sub v : Nat) (set : List (Nat × Nat)) : (s.fixField k sub v set).2.ground = s.ground := by
  unfold State.fixField
  dsimp only
  split <;> simp

@[simp] theorem State.fixCrop_ground (k : Nat) (set : List (Nat × Nat)) : (s.fixCrop k set).2.ground = s.ground := by
  unfold State.fixCrop
  dsimp only
  split <;> simp

@[simp] theorem State.fixScaler_ground (k : Nat) (set : List (Nat × Nat)) : (s.fixScaler k set).2.ground = s.ground := by
  unfold State.fixScaler
  dsimp only
  split
  · simp
  · split <;> simp

@[simp] theorem State.resolveSet_ground (k : Nat) (set : List (Nat × Nat)) : (s.resolveSet k set).2.ground = s.ground := by
  unfold State.resolveSet
  dsimp only
  split <;> simp

@[simp] theorem State.latchSet_ground (k : Nat) (set : List (Nat × Nat)) (commit : Bool) : (s.latchSet k set commit).ground = s.ground :=
  s.resolveSet_ground k set

@[simp] theorem State.dropScalers_ground : s.dropScalers.ground = s.ground :=
  State.ground_foldl (fun t k => State.ground_ite (t.latchSet_ground k _ _) rfl) _ s

@[simp] theorem State.installLayer_ground (b : Bytes) (k : Nat) : (s.installLayer b k).ground = s.ground :=
  State.latchSet_ground _ _ _ _

@[simp] theorem State.installLayers_ground : (s.installLayers x).ground = s.ground := by
  unfold State.installLayers
  split
  · rfl
  · next b _ =>
    rw [State.takeSets_ground, State.dropScalers_ground]
    exact State.ground_foldl (fun t k => t.installLayer_ground b k) _ s

@[simp] theorem State.installRaster_ground : (s.installRaster x).ground = s.ground := rfl
@[simp] theorem State.installLevels_ground : (s.installLevels x).ground = s.ground := rfl

/-! ### Queues, the firebox and the outputs (R89, R247, R385) -/

@[simp] theorem State.popResult_ground (o : Origin) (ix st : Nat) (v : Bytes) : (s.popResult o ix st v).ground = s.ground := by
  unfold State.popResult
  dsimp only
  split <;> rfl

@[simp] theorem State.endPops_ground : s.endPops.ground = s.ground := State.ground_foldl (fun t _ => t.popResult_ground _ _ _ _) _ s

@[simp] theorem State.dropRx_ground : s.dropRx.ground = s.ground :=
  State.ground_foldl (fun t _ => t.incReg_ground _) _ s

@[simp] theorem State.installQueues_ground (switch : Bool) : (s.installQueues x switch).ground = s.ground := by
  have kept : (if switch then s.endPops else s.endPops.dropRx).ground = s.ground := by
    split <;> simp
  exact kept

@[simp] theorem State.installFirebox_ground (switch : Bool) : (s.installFirebox switch).ground = s.ground := by
  unfold State.installFirebox
  dsimp only
  split <;> rfl

@[simp] theorem State.strandPinsOn_ground : s.strandPinsOn.ground = s.ground := by
  refine State.ground_foldl (fun t p => ?_) _ s
  dsimp only
  split <;> rfl

@[simp] theorem State.rowPinsOn_ground : s.rowPinsOn.ground = s.ground := State.ground_ite rfl rfl

@[simp] theorem State.driveFigures_ground : s.driveFigures.ground = s.ground := rfl

@[simp] theorem State.draughtResolve_ground : s.draughtResolve.ground = s.ground := by
  unfold State.draughtResolve
  dsimp only
  split_ifs <;> simp

@[simp] theorem State.dmxFit_ground (n : Nat) : (s.dmxFit n).ground = s.ground := by
  unfold State.dmxFit
  dsimp only
  split_ifs <;> simp

/-! ### Frames sent to join groups -/

@[simp] theorem State.stamp_ground (p : Nat) (y : Stamp) : (s.stamp p y).ground = s.ground := by
  unfold State.stamp
  dsimp only
  split
  · exact State.poolCheck_ground _
  · exact (State.raiseLoss_ground _ _ _ _ _).trans (State.poolCheck_ground _)

@[simp] theorem State.stampOut_ground (p : Nat) (o : Output) : (s.stampOut p o).ground = s.ground := by
  unfold State.stampOut
  split
  · split
    · rfl
    · dsimp only
      split <;> exact State.stamp_ground _ _ _
  · rfl

@[simp] theorem State.txAny_ground (p len : Nat) (o : Output) : (s.txAny p len o).ground = s.ground :=
  State.ground_ite rfl (State.ground_ite rfl (State.stampOut_ground _ _ _))

@[simp] theorem State.tx_ground (p len : Nat) (o : Output) : (s.tx p len o).ground = s.ground := State.ground_ite rfl (s.txAny_ground p len o)

@[simp] theorem State.sendRopeWith_ground (dstk cls dst inner len : Nat) (both : Bool) (mk : Nat → RopeTag → Output) :
    (s.sendRopeWith dstk cls dst inner len both mk).ground = s.ground := by
  have sent (l : List Nat) (seq : Nat) : (l.foldl (fun (t : State) p => t.tx p len (mk p (s.ropeTag p dstk cls dst inner 0 seq))) s).ground =
      s.ground := State.ground_foldl (fun t p => t.tx_ground _ _ _) l s
  unfold State.sendRopeWith
  dsimp only
  split
  · rfl
  · split
    · rfl
    · exact State.ground_ite (sent _ _) (sent _ _)

@[simp] theorem State.sendOut_ground (to_ : Nat × Nat) (ty n : Nat) (rope : Nat → RopeTag → Output) (trail : Output) :
    (s.sendOut to_ ty n rope trail).ground = s.ground := by
  unfold State.sendOut
  dsimp only
  split_ifs <;> simp

@[simp] theorem State.sendHost_ground (da ty : Nat) (pay : Bytes) : (s.sendHost da ty pay).ground = s.ground := s.sendOut_ground _ _ _ _ _

@[simp] theorem State.noteReport_ground (ty : Nat) (ip : Bytes) : (s.noteReport ty ip).ground = s.ground := State.ground_ite rfl rfl

@[simp] theorem State.sendIgmp_ground (dst : Nat) (b : Bytes) : (s.sendIgmp dst b).ground = s.ground :=
  (State.sendHost_ground _ _ _ _).trans (State.ground_ite (s.noteReport_ground _ _) rfl)

@[simp] theorem State.sendReport_ground (change : Bool) (l : List (Nat × List Nat × Bool)) : (s.sendReport change l).ground = s.ground := by
  unfold State.sendReport
  split
  · rfl
  · split
    · refine State.ground_foldl (fun t g => ?_) l s
      exact State.ground_ite (t.sendIgmp_ground _ _) (t.sendIgmp_ground _ _)
    · refine State.ground_foldl (fun t c => ?_) _ s
      exact t.sendIgmp_ground _ _

@[simp] theorem State.joinGroups_ground (l : List (Nat × List Nat)) : (s.joinGroups l).ground = s.ground :=
  State.ground_ite rfl (State.sendReport_ground _ _ _)

/-! ### Calibration, the rate and scrubbing -/

@[simp] theorem State.calAbort_ground (cause : Nat) : (s.calAbort cause).ground = s.ground := (OutputsOnly.calAbort s cause).ground

@[simp] theorem State.calApplyDue_ground : s.calApplyDue.ground = s.ground := by
  unfold State.calApplyDue
  split <;> rfl

@[simp] theorem State.realign_ground (m idx : Nat) : (s.realign m idx).ground = s.ground := by
  have sinks := (OutputsOnly.sinksOff s).ground
  have held : (if s.sinksOff.tick.hold then s.sinksOff else s.sinksOff.incReg Reg.holdTicks).ground = s.ground :=
    State.ground_ite sinks sinks
  exact State.ground_ite held held

@[simp] theorem State.installRate_ground (changed : Bool) : (s.installRate changed).ground = s.ground := by
  unfold State.installRate
  dsimp only
  split
  · rw [State.setReg_ground, State.realign_ground]
  · rfl

@[simp] theorem State.scrubPass_ground (dram : Bool) : (s.scrubPass dram).ground = s.ground := rfl

/-! ### OBJECT_INIT (R80) -/

/-- A topo without OBJECT_INIT leaves no entry that waits for its domain. -/
theorem State.installInit_of_none (h : x.sec 0x10 = []) : s.installInit x = { s with topo := { s.topo with initDue := [] } } := by
  have entries : s.initOf x = [] := by
    unfold State.initOf
    rw [h]
    rfl
  unfold State.installInit
  rw [entries]
  rfl

/-! ### The whole -/

/-- The topo unit with `x` in force. -/
def TopoSt.inForce (c : TopoSt) (x : Topo) : TopoSt := { c with active := some x, cand := none, staged := none, initDue := [] }

/-- `s` with the queues of `x`, and all that `State.install` sets before them. -/
def State.filled (s : State) (x : Topo) (old : Option Topo) (switch : Bool) : State :=
  let s := (s.installRegs x).installTables x
  let s := (s.installStreams x old switch).installSurfaces x
  let s := (s.installBanks x).installLoops x
  let s := ((s.installRaster x).installLayers x).installLevels x
  (s.installQueues x switch).installFirebox switch

/-- `s` with the outputs driven by its new tables, and the groups of `x` joined. -/
def State.fitted (s : State) (x : Topo) : State :=
  let s := (if (x.section? 0x45).isSome then s.strandPinsOn else s).rowPinsOn.driveFigures.draughtResolve
  let s := (List.range 8).foldl (fun (s : State) n => s.dmxFit n) s
  (s.joinGroups x.image.groups).calApplyDue

/-- `s` with `x` as its active topo, every task cancelled. -/
def State.activated (s : State) (x : Topo) : State :=
  let s := (s.calAbort 2).cancelWhere fun _ => true
  { s with topo := { s.topo with active := some x, cand := none, staged := none } }

theorem State.install_eq (switch : Bool) : s.install x switch =
    (((((s.activated x).filled x s.topo.active switch).fitted x).installInit x).installRate
      (s.reg Reg.tickNum != x.num || s.reg Reg.tickDen != x.den) |>.scrubPass true).noteChange := rfl

theorem State.filled_ground (old : Option Topo) (switch : Bool) : (s.filled x old switch).ground = s.ground := by
  unfold State.filled
  dsimp only
  rw [State.installFirebox_ground, State.installQueues_ground, State.installLevels_ground, State.installLayers_ground,
    State.installRaster_ground, State.installLoops_ground, State.installBanks_ground, State.installSurfaces_ground,
    State.installStreams_ground, State.installTables_ground, State.installRegs_ground]

theorem State.fitted_ground : (s.fitted x).ground = s.ground := by
  unfold State.fitted
  dsimp only
  rw [State.calApplyDue_ground, State.joinGroups_ground, State.ground_foldl fun t n => t.dmxFit_ground n, State.draughtResolve_ground,
    State.driveFigures_ground, State.rowPinsOn_ground]
  exact State.ground_ite s.strandPinsOn_ground rfl

theorem State.activated_ground : (s.activated x).ground =
    { s.ground with topo := { s.ground.topo with active := some x, cand := none, staged := none } } := by
  have cancelled : ((s.calAbort 2).cancelWhere fun _ => true).ground = s.ground :=
    (State.cancelWhere_ground _ _).trans (s.calAbort_ground 2)
  unfold State.activated
  generalize (s.calAbort 2).cancelWhere (fun _ => true) = t at cancelled ⊢
  rw [← cancelled]
  rfl

/-- A topo without OBJECT_INIT comes into force: the topo unit holds it, and all else of the ground stays. -/
theorem State.install_ground (switch : Bool) (h : x.sec 0x10 = []) :
    (s.install x switch).ground = { s.ground with topo := s.topo.inForce x } := by
  have tables : (((s.activated x).filled x s.topo.active switch).fitted x).ground = (s.activated x).ground := by
    rw [State.fitted_ground, State.filled_ground]
  rw [State.install_eq, State.noteChange_ground, State.scrubPass_ground, State.installRate_ground, State.installInit_of_none _ x h]
  generalize ((s.activated x).filled x s.topo.active switch).fitted x = t at tables ⊢
  show { t.ground with topo := { t.ground.topo with initDue := [] } } = _
  rw [tables, State.activated_ground]
  rfl

end

end Sys2Proof.Machine

/-! SUPPORT. The raster that starts with new tables leaves the ground of the state, but for the mode that a fault may change (R88, R152). -/

namespace Sys2Proof.Machine

section
variable (s : State)

/-! ### Layers, timing and lines -/

@[simp] theorem State.emberDone_ground (k : Nat) : (s.emberDone k).ground = s.ground := State.ground_ite rfl rfl

@[simp] theorem State.takeTiming_ground : s.takeTiming.ground = s.ground := by
  unfold State.takeTiming
  split
  · rfl
  · exact State.ground_ite rfl rfl

@[simp] theorem State.lineMatch_ground : s.lineMatch.ground = s.ground := by
  refine State.ground_foldl (fun t i => ?_) _ s
  exact State.ground_ite (t.raise_ground _ _) rfl

@[simp] theorem State.rsyncLine_ground : s.rsyncLine.ground = s.ground := rfl

theorem State.beginRaster_ground : s.beginRaster.ground = s.ground := by
  have cleared (t : State) (k : Nat) :
      ((t.emberDone k).setLayer k { (t.emberDone k).layer k with under := none, badRows := [] }).ground = t.ground := t.emberDone_ground k
  unfold State.beginRaster
  dsimp only
  rw [State.lineMatch_ground, State.rsyncLine_ground, State.setRas_ground, State.takeSets_ground, State.takeTiming_ground,
    State.ground_foldl cleared]

/-! ### Streams (R105, R107) -/

@[simp] theorem State.absentCheck_ground : s.absentCheck.ground = s.ground := by
  have marked : ((List.range 16).foldl (fun (t : State) k => t.setLayer k { t.layer k with absent := t.layerAbsent k }) s).ground = s.ground :=
    State.ground_foldl (fun t k => t.setLayer_ground k _) _ s
  exact State.ground_ite marked ((State.raise_ground _ _ _).trans marked)

@[simp] theorem State.stepPast_ground (i p : Nat) (count : Bool) : (s.stepPast i p count).ground = s.ground := by
  unfold State.stepPast
  dsimp only
  split
  · rfl
  · split <;> simp

@[simp] theorem State.layerTakes_ground (k : Nat) (f : PFrame) (fresh count : Bool) : (s.layerTakes k f fresh count).ground = s.ground := by
  unfold State.layerTakes
  dsimp only
  split_ifs <;> rfl

@[simp] theorem State.showFrame_ground (i : Nat) (f : PFrame) (fresh count : Bool) : (s.showFrame i f fresh count).ground = s.ground := by
  have layers : ((s.streamLayers i).foldl
      (fun (s : State) k => s.layerTakes k f (fresh || (s.layer k).frame.map PFrame.t != some f.t) count) s).ground = s.ground :=
    State.ground_foldl (fun t k => t.layerTakes_ground k f _ count) _ s
  exact State.ground_ite layers layers

@[simp] theorem State.giveDue_ground (i : Nat) (due : List PFrame) (count : Bool) : (s.giveDue i due count).ground = s.ground := by
  unfold State.giveDue
  split
  · split
    · rfl
    · exact State.showFrame_ground _ _ _ _ _
  · dsimp only
    rw [State.showFrame_ground]
    exact State.ground_ite rfl rfl

@[simp] theorem State.noteMissing_ground (i p : Nat) (e : Bytes) (due : List PFrame) : (s.noteMissing i p e due).ground = s.ground :=
  State.ground_ite rfl (State.raise_ground _ _ _)

@[simp] theorem State.takeLive_ground (i p : Nat) (e : Bytes) (count : Bool) : (s.takeLive i p e count).ground = s.ground :=
  (State.giveDue_ground _ _ _ _).trans (State.ground_ite (s.noteMissing_ground _ _ _ _) rfl)

@[simp] theorem State.takeStream_ground (i : Nat) (stepped count : Bool) : (s.takeStream i stepped count).ground = s.ground := by
  unfold State.takeStream
  split
  · rfl
  · next e _ =>
    extract_lets t
    have ht : t.ground = s.ground := State.ground_ite (State.stepPast_ground _ _ _ _) rfl
    clear_value t
    split
    · exact ht
    · dsimp only
      split
      · rw [State.takeLive_ground, ht]
      · split
        · split
          · exact (State.showFrame_ground _ _ _ _ _).trans ht
          · exact ht
        · split
          · exact (State.showFrame_ground _ _ _ _ _).trans ht
          · exact (State.takeLive_ground _ _ _ _ _).trans ht

@[simp] theorem State.takeNewest_ground : s.takeNewest.ground = s.ground := by
  refine State.ground_foldl (fun t i => ?_) _ s
  exact State.ground_ite rfl (t.giveDue_ground _ _ _)

theorem State.takeStep_ground (started : Bool) : (s.takeStep started).ground = s.ground := by
  have streams (stepped : Bool) : (s.takeStreams stepped).ground = s.ground := State.ground_foldl (fun t i => t.takeStream_ground i _ _) _ s
  unfold State.takeStep
  rw [State.absentCheck_ground]
  exact State.ground_ite (streams _) (State.ground_ite s.takeNewest_ground rfl)

theorem State.composeStart_ground : s.composeStart.ground = s.ground := rfl

theorem State.rotate_ground : s.rotate.ground = s.ground := State.ground_ite rfl rfl

theorem State.flip_ground : s.flip.ground = s.ground := (State.raise_ground _ _ _).trans s.rotate_ground

/-! ### A frame that opens: the mode may change -/

/-- From `s` to `t` the ground is the same, but for the mode. -/
def ModeOnly (s t : State) : Prop := t.ground = { s.ground with mode := t.mode }

end

section
variable {s t u : State}

theorem ModeOnly.of_ground (h : t.ground = s.ground) : ModeOnly s t := by
  have mode : t.mode = s.mode := congrArg Ground.mode h
  unfold ModeOnly
  rw [h, mode]
  rfl

theorem ModeOnly.trans (h : ModeOnly s t) (g : ModeOnly t u) : ModeOnly s u := by
  unfold ModeOnly at *
  rw [g, h]

theorem ModeOnly.ite {c : Prop} [Decidable c] (h : ModeOnly s t) (g : ModeOnly s u) : ModeOnly s (if c then t else u) := by
  split
  · exact h
  · exact g

theorem ModeOnly.triggerDark (s : State) (cause : Nat) : ModeOnly s (s.triggerDark cause) := by
  unfold State.triggerDark
  split
  · rfl
  · rfl
  · rfl
  all_goals
    unfold ModeOnly
    rw [State.enterDark_eq]
    rfl

theorem ModeOnly.faultWires (s : State) (reaction : Nat) : ModeOnly s (s.faultWires reaction) := by
  unfold State.faultWires
  extract_lets now _ v
  have signalled : ModeOnly s v := .ite rfl rfl
  clear_value v
  split
  · exact signalled.trans (ModeOnly.trans (t := { v with belay := _ }) rfl (.triggerDark _ 3))
  · exact signalled

theorem ModeOnly.captureWith (s : State) (c source detail : Nat) (masked injected : Bool) :
    ModeOnly s (s.captureWith c source detail masked injected) := by
  unfold State.captureWith
  split
  · rfl
  · extract_lets reaction r v _ w
    have latched : ModeOnly s v := .of_ground (by unfold v; rw [State.fillLatch_eq]; rfl)
    have slotted : ModeOnly s w := latched.trans rfl
    exact slotted.trans (.faultWires w reaction)

theorem ModeOnly.openFrame (s : State) : ModeOnly s s.openFrame.2 := by
  unfold State.openFrame
  extract_lets ended overrun settle was hold before counted _ opened held caught changed settled
  have hheld : ModeOnly s held := .ite rfl rfl
  clear_value held
  have hcaught : ModeOnly s caught := .ite (hheld.trans (.captureWith held _ _ _ _ _)) hheld
  clear_value caught
  have hchanged : ModeOnly s changed := .ite (hcaught.trans (.of_ground rfl)) hcaught
  clear_value changed
  have hsettled : ModeOnly s settled := .ite (hchanged.trans (.of_ground (State.raise_ground _ _ _))) hchanged
  clear_value settled
  split
  · exact hsettled.trans (.of_ground settled.flip_ground)
  · exact hsettled

theorem ModeOnly.startRaster (s : State) (composes : Bool) : ModeOnly s (s.startRaster composes) := by
  have first : ModeOnly s s.firstRaster.2 := by
    unfold State.firstRaster
    split
    · exact (ModeOnly.ite (.of_ground rfl) (.openFrame s)).trans (.of_ground (State.beginRaster_ground _))
    · exact .of_ground rfl
  have taken : ModeOnly s (s.firstRaster.2.takeStep s.firstRaster.1) := first.trans (.of_ground (State.takeStep_ground _ _))
  exact .ite (taken.trans (.of_ground (State.composeStart_ground _))) taken

end

end Sys2Proof.Machine

/-! SUPPORT. The end of a load (R81, R84): the verdict's registers, its event and command state, and what becomes of the topo. -/

namespace Sys2Proof.Machine

/-! ### What the end of a load tells -/

/-- The registers of a verdict. -/
def verdictRegs (result detail place : Nat) : List (Nat × Nat) :=
  [(Reg.loadResult, result), (Reg.loadDetail, detail), (Reg.loadWhere, place)]

/-- `s` with the end of a load told: its verdict, its event, if any, and the state of LOAD unless the load is the boot load. -/
def State.loadTold (s : State) (boot : Bool) (verdict : List (Nat × Nat)) (e : Option (Nat × Bytes)) (st : Nat) : State :=
  let raised := e.elim (s.setRegs verdict) fun x => (s.setRegs verdict).raise x.1 x.2
  if boot then raised else raised.cmdState Reg.load st

/-- The registers that event `e`, if any, and LOAD may change. -/
def toldKeys (e : Option (Nat × Bytes)) : List Nat := Reg.load :: e.elim [] fun x => evKeys x.1

section
variable {s : State} {boot : Bool} {result detail place st k : Nat} {verdict : List (Nat × Nat)} {e : Option (Nat × Bytes)}

@[simp] theorem State.loadTold_ground : (s.loadTold boot verdict e st).ground = s.ground := by
  have judged := s.setRegs_ground verdict
  unfold State.loadTold
  cases e with
  | none => exact State.ground_ite judged judged
  | some x =>
    have raised := (State.raise_ground _ x.1 x.2).trans judged
    exact State.ground_ite raised raised

theorem storesOk_setRegs (ok : s.storesOk) (l : List (Nat × Nat)) : (s.setRegs l).storesOk :=
  ((Keeps.refl ok).setRegs fun _ hp => List.mem_map_of_mem hp).stores

theorem loadTold_keeps (ok : s.storesOk) : Keeps (toldKeys e) (s.setRegs verdict) (s.loadTold boot verdict e st) := by
  have judged := storesOk_setRegs ok verdict
  unfold State.loadTold
  extract_lets raised
  have hraised : Keeps (toldKeys e) (s.setRegs verdict) raised := by
    cases e with
    | none => exact .refl judged
    | some x => exact (Keeps.refl judged).raise (List.subset_cons_self _ _) x.2
  split
  · exact hraised
  · exact hraised.setReg List.mem_cons_self st

/-- No event and no state of LOAD changes a register between LOAD_RESULT and CLAMP_COUNT. -/
theorem not_mem_toldKeys (hlo : 0x800004 ≤ k) (hhi : k ≤ 0x80000D) : k ∉ toldKeys e := by
  cases e with
  | none =>
    simp only [toldKeys, Option.elim, List.mem_singleton, Reg.load]
    omega
  | some x =>
    simp only [toldKeys, Option.elim, evKeys, List.mem_cons, List.not_mem_nil, or_false, Reg.load, Reg.evCount, Reg.pending, Reg.evqLost,
      Reg.poolMin]
    omega

/-- The verdict reads as it was found. -/
theorem loadTold_verdict (ok : s.storesOk) {v : Nat} (h : (k, v) ∈ verdictRegs result detail place) :
    (s.loadTold boot (verdictRegs result detail place) e st).reg k = v := by
  have nodup : ((verdictRegs result detail place).map Prod.fst).Nodup := by simp [verdictRegs]
  have among : 0x800004 ≤ k ∧ k ≤ 0x80000D := by
    simp only [verdictRegs, List.mem_cons, Prod.mk.injEq, List.not_mem_nil, or_false, Reg.loadResult, Reg.loadDetail, Reg.loadWhere] at h
    omega
  rw [(loadTold_keeps ok).reg (not_mem_toldKeys among.1 among.2), reg_setRegs ok nodup h]

theorem loadTold_clampCount (ok : s.storesOk) :
    (s.loadTold boot (verdictRegs result detail place) e st).reg Reg.clampCount = s.reg Reg.clampCount := by
  rw [(loadTold_keeps ok).reg (not_mem_toldKeys (by decide) (by decide)), reg_setRegs_not_mem ok (by simp [verdictRegs])]

/-- The event of a load is counted. -/
theorem counted_loadTold (ok : s.storesOk) (ha : s.alive = true) {ev : Nat} (he : ev ≠ 34) (p : Bytes) :
    Counted ev s (s.loadTold boot (verdictRegs result detail place) (some (ev, p)) st) := by
  have judged := storesOk_setRegs ok (verdictRegs result detail place)
  have alive : (s.setRegs (verdictRegs result detail place)).alive = true := by rw [State.setRegs_eq]; exact ha
  have before : (s.setRegs (verdictRegs result detail place)).reg (Reg.evCount ev) = s.reg (Reg.evCount ev) :=
    reg_setRegs_not_mem ok (by
      simp only [verdictRegs, List.map, List.mem_cons, List.not_mem_nil, or_false, Reg.loadResult, Reg.loadDetail, Reg.loadWhere, Reg.evCount]
      omega)
  have raised := (counted_raise judged alive he p).of_reg before
  unfold State.loadTold
  refine iteInduction (fun _ => raised) fun _ => ?_
  exact raised.kept ((RegsKept.refl [Reg.load] _).setReg (storesOk_raise judged ev p) List.mem_cons_self st)
    (by simp only [List.mem_singleton, Reg.load, Reg.evCount]; omega) (by decide)

end

/-! ### The two ends -/

section
variable {s : State} {l : LoadSt} {f : LoadFail} {x : Topo}

/-- What a load that fails tells: EV47 for a check of the budget, and LOAD refused. -/
def State.failTold (s : State) (l : LoadSt) (f : LoadFail) : State :=
  s.loadTold l.boot (verdictRegs (if 0x0200 ≤ f.1 then 0x0802 else 0x0801) f.1 (whereOf f.2.1 f.2.2))
    (if 0x0200 ≤ f.1 then some (47, beBytes 2 f.1) else none) 3

/-- What a load that passes tells: EV46, and LOAD done. -/
def State.passTold (s : State) (l : LoadSt) (x : Topo) : State :=
  s.loadTold l.boot (verdictRegs 0 0 0) (some (46, beBytes 1 l.slot ++ beBytes 4 x.id)) 2

@[simp] theorem State.failTold_ground : (s.failTold l f).ground = s.ground := State.loadTold_ground
@[simp] theorem State.passTold_ground : (s.passTold l x).ground = s.ground := State.loadTold_ground

theorem State.failTold_eq : s.failTold l f =
    (let budget := decide (0x0200 ≤ f.1)
     let judged := s.setRegs [(Reg.loadResult, if budget then 0x0802 else 0x0801), (Reg.loadDetail, f.1),
       (Reg.loadWhere, whereOf f.2.1 f.2.2)]
     let raised := if budget then judged.raise 47 (beBytes 2 f.1) else judged
     if l.boot then raised else raised.cmdState Reg.load 3) := by
  by_cases hb : 0x0200 ≤ f.1 <;> simp [State.failTold, State.loadTold, verdictRegs, hb]

/-- A load that fails gives way to the load of the other slot. -/
theorem State.loadFailed_of_other {n : Nat} (h : l.other = some n) : s.loadFailed l f = { s.failTold l f with topo :=
    { s.topo with load := some { slot := n, boot := l.boot, other := none, since := s.clock.cclk } } } := by
  obtain ⟨topo, -, clock, -, -⟩ := ground_eq_iff.mp (s.failTold_ground (l := l) (f := f))
  rw [← topo, ← clock, State.failTold_eq]
  unfold State.loadFailed
  rw [h]

/-- With no other slot, a load that fails is the last one. -/
theorem State.loadFailed_of_last (h : l.other = none) : s.loadFailed l f =
    ({ s.failTold l f with topo := { s.topo with load := none } }).setReg Reg.candState (if s.mode.mode = Mode.staging then 0 else 4) := by
  obtain ⟨topo, -, -, mode, -⟩ := ground_eq_iff.mp (s.failTold_ground (l := l) (f := f))
  rw [← topo, ← mode, State.failTold_eq]
  unfold State.loadFailed
  rw [h]

theorem State.loadPassed_of_staging (h : s.mode.mode = .staging) : s.loadPassed l x =
    ({ s.passTold l x with topo := { s.topo with load := none, staged := some x, loadedAt := s.clock.cclk } }).setReg Reg.candState 0 := by
  obtain ⟨topo, -, clock, mode, -⟩ := ground_eq_iff.mp (s.passTold_ground (l := l) (x := x))
  rw [← topo, ← clock]
  exact if_pos (mode ▸ h)

theorem State.compatible_of_none (h : s.topo.active = none) : s.compatible x = false := by
  unfold State.compatible
  rw [h]

theorem State.loadPassed_of_other (h : s.mode.mode ≠ .staging) : ∃ fits : Bool, (s.topo.active = none → fits = false) ∧
    s.loadPassed l x = ({ s.passTold l x with topo := { s.topo with load := none, cand := some x } }).setRegs
      [(Reg.candTopoId, x.id), (Reg.candState, if fits then 2 else 3)] := by
  obtain ⟨topo, -, -, mode, -⟩ := ground_eq_iff.mp (s.passTold_ground (l := l) (x := x))
  rw [← topo]
  exact ⟨_, fun none => State.compatible_of_none none, if_neg (mode ▸ h)⟩

/-- The load's verdict is that of its slot, unless it is the boot load and its time has run out. -/
theorem State.loadDone_eq (ha : s.alive = true) (hd : s.domOn 7 = true) (hl : s.topo.load = some l)
    (ht : l.boot = false ∨ s.clock.cclk ≤ l.since + 400000000) (hc : (s.loadSlot l.slot).clamps = []) :
    s.loadDone = (s.loadSlot l.slot).fail.elim ((s.setReg Reg.clampCount 0).loadPassed l (s.loadSlot l.slot).topo)
      ((s.setReg Reg.clampCount 0).loadFailed l) := by
  have inTime : (l.boot && decide (l.since + ms 400 < s.clock.cclk)) = false := by
    rw [Bool.and_eq_false_iff, decide_eq_false_iff_not, Nat.not_lt]
    exact ht
  have unclamped : s.loadClamps (s.loadSlot l.slot).clamps = s.setReg Reg.clampCount 0 := by
    rw [hc]
    rfl
  unfold State.loadDone
  rw [hl]
  dsimp only
  rw [if_neg (by simp [ha, hd]), unclamped, State.setReg_clock, inTime, if_neg Bool.false_ne_true]
  cases (s.loadSlot l.slot).fail <;> rfl

end

end Sys2Proof.Machine

/-! SUPPORT. What the two ends of a load leave (R81, R84). -/

namespace Sys2Proof.Machine

section
variable {s t : State} {l : LoadSt} {f : LoadFail} {x : Topo} {c : TopoSt}

/-- Only the topo unit differs where the rest of the ground is kept. -/
theorem ground_withTopo (h : t.ground = s.ground) (c : TopoSt) : ({ t with topo := c } : State).ground = { s.ground with topo := c } := by
  rw [← h]
  rfl

theorem keeps_withTopo (ok : t.storesOk) (ks : List Nat) (c : TopoSt) : Keeps ks t { t with topo := c } := ⟨ok, .of_regs rfl⟩

theorem State.loadFailed_ground : (s.loadFailed l f).ground = { s.ground with topo :=
    { s.topo with load := l.other.map fun n => { slot := n, boot := l.boot, other := none, since := s.clock.cclk } } } := by
  cases h : l.other with
  | none =>
    rw [State.loadFailed_of_last h, State.setReg_ground]
    exact ground_withTopo State.failTold_ground _
  | some n =>
    rw [State.loadFailed_of_other h]
    exact ground_withTopo State.failTold_ground _

theorem loadFailed_keeps (ok : (s.failTold l f).storesOk) : Keeps [Reg.candState] (s.failTold l f) (s.loadFailed l f) := by
  cases h : l.other with
  | none =>
    rw [State.loadFailed_of_last h]
    exact (keeps_withTopo ok _ _).setReg List.mem_cons_self _
  | some n =>
    rw [State.loadFailed_of_other h]
    exact keeps_withTopo ok _ _

theorem storesOk_failTold (ok : s.storesOk) : (s.failTold l f).storesOk := (loadTold_keeps ok).stores

theorem storesOk_passTold (ok : s.storesOk) : (s.passTold l x).storesOk := (loadTold_keeps ok).stores

theorem exec_topoLoadDone (h : s.loadDone.pending = s.pending) : exec .topoLoadDone s = .next s.loadDone := State.done_of_pending h

theorem counted_failTold (ok : s.storesOk) (ha : s.alive = true) (hf : 0x0200 ≤ f.1) : Counted 47 s (s.failTold l f) := by
  unfold State.failTold
  rw [if_pos hf, if_pos hf]
  exact counted_loadTold ok ha (by decide) _

/-- EV46 stays counted, and LOAD_RESULT reads 0, whatever other registers are set. -/
theorem passTold_reads (ok : s.storesOk) (ha : s.alive = true) {ks : List Nat}
    (kept : Keeps ks ((s.setReg Reg.clampCount 0).passTold l x) t)
    (hr : Reg.loadResult ∉ ks) (he : Reg.evCount 46 ∉ ks) (hp : Reg.pending ∉ ks) : t.reg Reg.loadResult = 0 ∧ Counted 46 s t := by
  have cleared : (s.setReg Reg.clampCount 0).storesOk := storesOk_setReg ok _ _
  have counted : Counted 46 (s.setReg Reg.clampCount 0) ((s.setReg Reg.clampCount 0).passTold l x) :=
    counted_loadTold cleared ha (by decide) _
  exact ⟨(kept.reg hr).trans (loadTold_verdict cleared (by simp [verdictRegs])),
    (counted.of_reg (reg_setReg_ne ok 0 (by decide))).kept kept.regs he hp⟩

end

/-! ### The clauses -/

section
variable {s : State} {l : LoadSt} {f : LoadFail}
variable (ok : s.storesOk) (ha : s.alive = true) (hd : s.domOn 7 = true) (hl : s.topo.load = some l)
  (ht : l.boot = false ∨ s.clock.cclk ≤ l.since + 400000000) (hc : (s.loadSlot l.slot).clamps = [])
include ok ha hd hl ht hc

theorem loadDone_of_fail (hf : (s.loadSlot l.slot).fail = some f) :
    ∃ t, exec .topoLoadDone s = .next t ∧ t.reg Reg.loadResult = (if 0x0200 ≤ f.1 then 0x0802 else 0x0801) ∧
      t.reg Reg.loadDetail = f.1 ∧ t.reg Reg.loadWhere = f.2.1 * 2 ^ 48 + f.2.2 ∧ t.reg Reg.clampCount = 0 ∧
      (0x0200 ≤ f.1 → Counted 47 s t) ∧
      t.topo = { s.topo with load := l.other.map fun n => { slot := n, boot := l.boot, other := none, since := s.clock.cclk } } ∧
      t.mode = s.mode := by
  have cleared : (s.setReg Reg.clampCount 0).storesOk := storesOk_setReg ok _ _
  have ends : s.loadDone = (s.setReg Reg.clampCount 0).loadFailed l f := by
    rw [State.loadDone_eq ha hd hl ht hc, hf]
    rfl
  have ground := (s.setReg Reg.clampCount 0).loadFailed_ground (l := l) (f := f)
  have kept := loadFailed_keeps (l := l) (f := f) (storesOk_failTold cleared)
  rw [← ends] at ground kept
  refine ⟨s.loadDone, exec_topoLoadDone (congrArg Ground.pending ground), ?_, ?_, ?_, ?_, fun hf => ?_, congrArg Ground.topo ground,
    congrArg Ground.mode ground⟩
  · exact (kept.reg (by decide)).trans (loadTold_verdict cleared (by simp [verdictRegs]))
  · exact (kept.reg (by decide)).trans (loadTold_verdict cleared (by simp [verdictRegs]))
  · exact (kept.reg (by decide)).trans (loadTold_verdict cleared (by simp [verdictRegs, whereOf]))
  · exact (kept.reg (by decide)).trans ((loadTold_clampCount cleared).trans (reg_setReg ok _ _))
  · exact ((counted_failTold cleared ha hf).of_reg (reg_setReg_ne ok 0 (by decide))).kept kept.regs (by decide) (by decide)

omit ok in
theorem loadDone_of_pass_eq (hf : (s.loadSlot l.slot).fail = none) :
    s.loadDone = (s.setReg Reg.clampCount 0).loadPassed l (s.loadSlot l.slot).topo := by
  rw [State.loadDone_eq ha hd hl ht hc, hf]
  rfl

theorem loadDone_of_staging (hf : (s.loadSlot l.slot).fail = none) (hm : s.mode.mode = .staging) :
    ∃ t, exec .topoLoadDone s = .next t ∧ t.reg Reg.loadResult = 0 ∧ t.reg Reg.candState = 0 ∧ Counted 46 s t ∧
      t.topo = { s.topo with load := none, staged := some (s.loadSlot l.slot).topo, loadedAt := s.clock.cclk } ∧ t.mode = s.mode := by
  have cleared : (s.setReg Reg.clampCount 0).storesOk := storesOk_setReg ok _ _
  have told := storesOk_passTold (l := l) (x := (s.loadSlot l.slot).topo) cleared
  have ends := (loadDone_of_pass_eq ha hd hl ht hc hf).trans (State.loadPassed_of_staging hm)
  have ground : s.loadDone.ground = { s.ground with topo :=
      { s.topo with load := none, staged := some (s.loadSlot l.slot).topo, loadedAt := s.clock.cclk } } := by
    rw [ends, State.setReg_ground]
    exact ground_withTopo State.passTold_ground _
  obtain ⟨result, counted⟩ := passTold_reads (t := s.loadDone) (ks := [Reg.candState]) ok ha
    (by rw [ends]; exact (keeps_withTopo told _ _).setReg List.mem_cons_self _) (by decide) (by decide) (by decide)
  refine ⟨s.loadDone, exec_topoLoadDone (congrArg Ground.pending ground), result, ?_, counted, congrArg Ground.topo ground,
    congrArg Ground.mode ground⟩
  rw [ends]
  exact reg_setReg (keeps_withTopo told [] _).stores _ _

theorem loadDone_of_other (hf : (s.loadSlot l.slot).fail = none) (hm : s.mode.mode ≠ .staging) :
    ∃ t, exec .topoLoadDone s = .next t ∧ t.reg Reg.loadResult = 0 ∧ t.reg Reg.candTopoId = (s.loadSlot l.slot).topo.id ∧
      (t.reg Reg.candState = 2 ∨ t.reg Reg.candState = 3) ∧ (s.topo.active = none → t.reg Reg.candState = 3) ∧ Counted 46 s t ∧
      t.topo = { s.topo with load := none, cand := some (s.loadSlot l.slot).topo } ∧ t.mode = s.mode := by
  have cleared : (s.setReg Reg.clampCount 0).storesOk := storesOk_setReg ok _ _
  have told := storesOk_passTold (l := l) (x := (s.loadSlot l.slot).topo) cleared
  obtain ⟨fits, unfit, passed⟩ := State.loadPassed_of_other (s := s.setReg Reg.clampCount 0) (l := l) (x := (s.loadSlot l.slot).topo) hm
  have ends := (loadDone_of_pass_eq ha hd hl ht hc hf).trans passed
  have ground : s.loadDone.ground = { s.ground with topo := { s.topo with load := none, cand := some (s.loadSlot l.slot).topo } } := by
    rw [ends, State.setRegs_ground]
    exact ground_withTopo State.passTold_ground _
  obtain ⟨result, counted⟩ := passTold_reads (t := s.loadDone) (ks := [Reg.candTopoId, Reg.candState]) ok ha
    (by rw [ends]; exact (keeps_withTopo told _ _).setRegs (by simp)) (by decide) (by decide) (by decide)
  have reads {k v : Nat} (h : (k, v) ∈ [(Reg.candTopoId, (s.loadSlot l.slot).topo.id), (Reg.candState, if fits then 2 else 3)]) :
      s.loadDone.reg k = v := by
    rw [ends]
    exact reg_setRegs (keeps_withTopo told [] _).stores (by simp) h
  have state : s.loadDone.reg Reg.candState = if fits then 2 else 3 := reads (by simp)
  refine ⟨s.loadDone, exec_topoLoadDone (congrArg Ground.pending ground), result, reads (by simp), ?_, fun none => ?_, counted,
    congrArg Ground.topo ground, congrArg Ground.mode ground⟩
  · cases fits
    · exact .inr state
    · exact .inl state
  · rw [state, unfit none]
    rfl

end

end Sys2Proof.Machine

/-! PROOFS. A topo is loaded, activated and switched (R81, R84, R88). -/

namespace Sys2Proof.Machine

/-! ### The activation (R84) -/

section
variable {s t : State} {x : Topo}

theorem ModeOnly.armBreak (s : State) : ModeOnly s s.armBreak := .ite rfl rfl

/-- Where a topo came into force and a fault may have changed the mode, the rest of the ground is as it was. -/
theorem ModeOnly.ground_of (h : ModeOnly s t) : t.topo = s.topo ∧ t.flash = s.flash ∧ t.clock = s.clock ∧ t.pending = s.pending :=
  ⟨congrArg Ground.topo h, congrArg Ground.flash h, congrArg Ground.clock h, congrArg Ground.pending h⟩

theorem State.topoActivate_modeOnly (ha : s.alive = true) (hb : s.atBoundary = true) (hs : s.topo.staged = some x)
    (ht : s.topo.loadedAt < s.tick.cclk) : ModeOnly (s.install x false) s.topoActivate := by
  unfold State.topoActivate
  rw [hs]
  dsimp only
  rw [if_pos (by simp [ha, hb, ht])]
  exact (ModeOnly.ite (.armBreak _) rfl).trans (.startRaster _ _)

theorem topoActivate_inForce (ha : s.alive = true) (hb : s.atBoundary = true) (hs : s.topo.staged = some x)
    (ht : s.topo.loadedAt < s.tick.cclk) (hi : x.sec 0x10 = []) : ∃ t, exec .topoActivate s = .next t ∧
      t.topo = { s.topo with active := some x, cand := none, staged := none, initDue := [] } ∧ t.flash = s.flash ∧ t.clock = s.clock := by
  obtain ⟨topo, flash, clock, pending⟩ := (State.topoActivate_modeOnly ha hb hs ht).ground_of
  have installed := s.install_ground x false hi
  exact ⟨s.topoActivate, State.done_of_pending (pending.trans (congrArg Ground.pending installed)),
    topo.trans (congrArg Ground.topo installed), flash.trans (congrArg Ground.flash installed),
    clock.trans (congrArg Ground.clock installed)⟩

/-! ### The begin of a switch (R88) -/

/-- `s` with its switch begun, the tables to be copied in `w` ticks. -/
def State.copyBegun (s : State) (w : Nat) : State := { s with topo := { s.topo with switchBegin := false, switch := .copying w } }

/-- `s` with no layer's frame kept and a raster that composes nothing. -/
def State.composesNothing (s : State) : State := s.emberEmpty.setRas { s.emberEmpty.ras with composes := false }

theorem State.switchStart_eq (hc : s.topo.cand = some x) (hs : s.topo.switchBegin = true) (hb : s.atBoundary = true) :
    s.switchStart = ((s.cancelWhere fun _ => true).copyBegun x.switchW).composesNothing.setReg Reg.switchLast
      ((s.cancelWhere fun _ => true).copyBegun x.switchW).emberEmpty.tickIdx := by
  unfold State.switchStart
  rw [hc]
  generalize (s.cancelWhere fun _ => true) = b
  exact if_pos (by simp [hs, hb])

theorem switchStart_begins (ok : s.storesOk) (hc : s.topo.cand = some x) (hs : s.topo.switchBegin = true) (hb : s.atBoundary = true) :
    ∃ t, exec .switchBegin s = .next t ∧ t.topo = { s.topo with switchBegin := false, switch := .copying x.switchW } ∧
      t.reg Reg.switchLast = t.tickIdx ∧ t.comp.raster.composes = false ∧
      (∀ y ∈ t.comp.layers, y.ember = false ∧ y.flatten = false) ∧ t.mode = s.mode ∧ t.clock = s.clock := by
  have eq := State.switchStart_eq hc hs hb
  have cancelled := s.cancelWhere_ground fun _ => true
  have stores : (s.cancelWhere fun _ => true).storesOk := (State.cancelWhere_good s _ (.refl s)).stores ok
  generalize (s.cancelWhere fun _ => true) = b at eq cancelled stores
  have topo : b.topo = s.topo := congrArg Ground.topo cancelled
  have ground : s.switchStart.ground = { s.ground with topo := { s.topo with switchBegin := false, switch := .copying x.switchW } } := by
    rw [eq, ← topo]
    exact ground_withTopo cancelled _
  refine ⟨s.switchStart, State.done_of_pending (congrArg Ground.pending ground), congrArg Ground.topo ground, ?_, ?_, ?_,
    congrArg Ground.mode ground, congrArg Ground.clock ground⟩
  all_goals rw [eq]
  · have emptied : (b.copyBegun x.switchW).composesNothing.storesOk := stores
    exact (reg_setReg emptied _ _).trans (reg_setReg_ne emptied _ (by decide)).symm
  · rfl
  · intro y hy
    obtain ⟨z, -, rfl⟩ := List.mem_map.mp hy
    exact ⟨rfl, rfl⟩

/-! ### The tables of a switch (R88) -/

/-- `s` with the outputs held until the switch arms, or none held in DARK, where the switch ends here. -/
def State.switchHeld (s : State) (x : Topo) : State :=
  let dark := s.mode.mode == .dark
  let held := if dark then none else some s.holdNow
  { s with topo := { s.topo with switch := if dark then .none else .arming x.lat }, egress := { s.egress with held := held } }

theorem State.switchHeld_ground : (s.switchHeld x).ground =
    { s.ground with topo := { s.topo with switch := if s.mode.mode = .dark then .none else .arming x.lat } } := by
  unfold State.switchHeld
  simp only [beq_iff_eq]
  rfl

theorem State.switchTables_eq (hc : s.topo.cand = some x) (hs : s.topo.switch = .copying 0) (hb : s.atBoundary = true) :
    s.switchTables =
      (let started := ((s.switchHeld x).install x true).startRaster s.mode.mode.shows
       if s.mode.mode == .dark then started.cmdState Reg.switch 2 else started) := by
  unfold State.switchTables
  rw [hc, hs]
  exact if_neg (by simp [hb])

theorem State.switchTables_modeOnly (hc : s.topo.cand = some x) (hs : s.topo.switch = .copying 0) (hb : s.atBoundary = true) :
    ModeOnly ((s.switchHeld x).install x true) s.switchTables := by
  rw [State.switchTables_eq hc hs hb]
  generalize (s.switchHeld x).install x true = t
  have started := ModeOnly.startRaster t s.mode.mode.shows
  exact .ite (started.trans (.of_ground rfl)) started

theorem switchTables_inForce (hc : s.topo.cand = some x) (hs : s.topo.switch = .copying 0) (hb : s.atBoundary = true)
    (hi : x.sec 0x10 = []) : ∃ t, exec .switchTablesInForce s = .next t ∧
      t.topo = { s.topo with switch := if s.mode.mode = .dark then .none else .arming x.lat
                             active := some x, cand := none, staged := none, initDue := [] } ∧
      t.flash = s.flash ∧ t.clock = s.clock := by
  obtain ⟨topo, flash, clock, pending⟩ := (State.switchTables_modeOnly hc hs hb).ground_of
  have installed := (s.switchHeld x).install_ground x true hi
  have held : (s.switchHeld x).topo = { s.topo with switch := if s.mode.mode = .dark then .none else .arming x.lat } :=
    congrArg Ground.topo s.switchHeld_ground
  rw [held] at installed
  exact ⟨s.switchTables, State.done_of_pending (pending.trans (congrArg Ground.pending installed)),
    topo.trans (congrArg Ground.topo installed), flash.trans (congrArg Ground.flash installed),
    clock.trans (congrArg Ground.clock installed)⟩

end

/-- Settles O37: the end of a load tells its verdict and then sets the topo unit; an activation and the tables of a switch change the topo
unit and, when the frame they open brings a fault, the mode, but not the flash, the clock or the waiting commands. -/
theorem topoLoading : Obligations.TopoLoading := by
  refine ⟨fun _ _ _ ok ha hd hl ht hc hf => loadDone_of_fail ok ha hd hl ht hc hf,
    fun _ _ ok ha hd hl ht hc hf hm => loadDone_of_staging ok ha hd hl ht hc hf hm,
    fun _ _ ok ha hd hl ht hc hf hm => loadDone_of_other ok ha hd hl ht hc hf hm,
    fun _ _ ha hb hs ht hi => topoActivate_inForce ha hb hs ht hi,
    fun _ _ ok hc hs hb => switchStart_begins ok hc hs hb,
    fun _ _ hc hs hb hi => switchTables_inForce hc hs hb hi⟩

end Sys2Proof.Machine

/-! PROOFS. The residual code of a packed sample (R118). -/

namespace Sys2Proof.Machine

/-! ### Bits, most significant first -/

section
variable {b k m p x q : Nat} {e : Int} {rest : List Bool}

/-- The lowest `n` bits of `m`, most significant first. -/
def bitsMsb (n m : Nat) : List Bool := (List.range n).map fun i => m / 2 ^ (n - 1 - i) % 2 == 1

theorem length_bitsMsb (n m : Nat) : (bitsMsb n m).length = n := by simp [bitsMsb]

theorem bitsMsb_succ (n m : Nat) : bitsMsb (n + 1) m = bitsMsb n (m / 2) ++ [m % 2 == 1] := by
  have high : ∀ i ∈ List.range n, (m / 2 ^ (n + 1 - 1 - i) % 2 == 1) = (m / 2 / 2 ^ (n - 1 - i) % 2 == 1) := by
    intro i hi
    have hi := List.mem_range.mp hi
    rw [show n + 1 - 1 - i = n - 1 - i + 1 by omega, Nat.pow_succ', Nat.div_div_eq_div_mul]
  simp only [bitsMsb, List.range_succ, List.map_append, List.map_congr_left high]
  simp

theorem bitsNat_bitsMsb (n m : Nat) : bitsNat (bitsMsb n m) = m % 2 ^ n := by
  induction n generalizing m with
  | zero => simp [bitsMsb, bitsNat, Nat.mod_one]
  | succ n ih =>
    have last : bitsNat (bitsMsb n (m / 2) ++ [m % 2 == 1]) = 2 * bitsNat (bitsMsb n (m / 2)) + m % 2 := by
      rcases Nat.mod_two_eq_zero_or_one m with h | h <;> simp [bitsNat, h]
    rw [bitsMsb_succ, last, ih, Nat.pow_succ', Nat.mod_mul]
    omega

theorem takeBits_bitsMsb (n m : Nat) (rest : List Bool) : takeBits n (bitsMsb n m ++ rest) = some (m % 2 ^ n, rest) := by
  simp [takeBits, length_bitsMsb, List.take_left', List.drop_left', bitsNat_bitsMsb]

/-! ### The code of a mapped residual (R118) -/

theorem riceCode_zeros (hq : q ≤ 24) : riceCode b k (List.replicate q false ++ true :: rest) =
    if q < 24 then (takeBits k rest).map fun p => (q * 2 ^ k + p.1, p.2) else takeBits b rest := by
  unfold riceCode
  simp [Nat.not_lt.mpr hq]

theorem riceCode_unary (hq : m / 2 ^ k < 24) :
    riceCode b k (List.replicate (m / 2 ^ k) false ++ true :: (bitsMsb k m ++ rest)) = some (m, rest) := by
  rw [riceCode_zeros hq.le, if_pos hq, takeBits_bitsMsb]
  simp [Nat.div_add_mod' m (2 ^ k)]

theorem riceCode_escape (hm : m < 2 ^ b) :
    riceCode b k (List.replicate 24 false ++ true :: (bitsMsb b m ++ rest)) = some (m, rest) := by
  rw [riceCode_zeros le_rfl, if_neg (by omega), takeBits_bitsMsb, Nat.mod_eq_of_lt hm]

theorem riceCode_overlong (b k : Nat) (l : List Bool) : riceCode b k (List.replicate 25 false ++ l) = none := by
  have long : 24 < ((List.replicate 25 false ++ l).takeWhile fun x => !x).length := by
    rw [List.takeWhile_append_of_pos (by simp)]
    simp
  unfold riceCode
  exact if_pos long

/-! ### The residual and its mapping (R118) -/

/-- The residual of sample `x` under prediction `p`, taken into the range of signed `b`-bit numbers. -/
def packResidual (b x p : Nat) : Int :=
  if ((x : Int) - p) % (2 ^ b : Nat) < (2 ^ (b - 1) : Nat) then ((x : Int) - p) % (2 ^ b : Nat)
  else ((x : Int) - p) % (2 ^ b : Nat) - (2 ^ b : Nat)

theorem packResidual_emod (b x p : Nat) : packResidual b x p % (2 ^ b : Nat) = ((x : Int) - p) % (2 ^ b : Nat) := by
  unfold packResidual
  split <;> simp

theorem packResidual_range (hb : 0 < b) (x p : Nat) :
    -(2 ^ (b - 1) : Nat) ≤ packResidual b x p ∧ packResidual b x p < (2 ^ (b - 1) : Nat) := by
  have half : 2 ^ b = 2 * 2 ^ (b - 1) := by rw [← Nat.pow_succ']; congr 1; omega
  have pos : 0 < 2 ^ (b - 1) := by positivity
  have lo := Int.emod_nonneg ((x : Int) - p) (b := (2 ^ b : Nat)) (by positivity)
  have hi := Int.emod_lt_of_pos ((x : Int) - p) (b := (2 ^ b : Nat)) (by positivity)
  unfold packResidual
  generalize ((x : Int) - p) % (2 ^ b : Nat) = d at lo hi ⊢
  rw [half] at hi ⊢
  split <;> omega

theorem mapped_lt (hb : 0 < b) (hm : (m : Int) = if 0 ≤ packResidual b x p then 2 * packResidual b x p else -2 * packResidual b x p - 1) :
    m < 2 ^ b := by
  have half : 2 ^ b = 2 * 2 ^ (b - 1) := by rw [← Nat.pow_succ']; congr 1; omega
  have range := packResidual_range hb x p
  split at hm <;> omega

/-- The mapping of a signed residual is undone. -/
theorem unmap_mapped (hm : (m : Int) = if 0 ≤ e then 2 * e else -2 * e - 1) :
    unmap b p m = (((p : Int) + e) % (2 ^ b : Nat)).toNat := by
  have back : (if m % 2 = 0 then ((m / 2 : Nat) : Int) else -((m + 1) / 2 : Nat)) = e := by
    split at hm <;> split <;> omega
  unfold unmap
  rw [back]

theorem unmap_packResidual (hx : x < 2 ^ b)
    (hm : (m : Int) = if 0 ≤ packResidual b x p then 2 * packResidual b x p else -2 * packResidual b x p - 1) : unmap b p m = x := by
  have same : ((p : Int) + packResidual b x p) % (2 ^ b : Nat) = x := by
    rw [Int.add_emod, packResidual_emod, ← Int.add_emod, add_sub_cancel, Int.emod_eq_of_lt (by positivity) (by exact_mod_cast hx)]
  rw [unmap_mapped hm, same, Int.toNat_natCast]

end

/-- Settles O10: `riceCode_unary` and `riceCode_escape` for the two forms of the code, `unmap_packResidual` for the sample. -/
theorem packedCodeReadsBack : Obligations.PackedCodeReadsBack := by
  refine ⟨?_, riceCode_overlong⟩
  intro b k x p e m code rest hb hx _ he hm hcode
  obtain rfl : e = packResidual b x p := he
  refine ⟨?_, unmap_packResidual hx hm⟩
  rw [hcode]
  split
  · next hq => simpa [bitsMsb] using riceCode_unary (rest := rest) hq
  · simpa [bitsMsb] using riceCode_escape (k := k) (rest := rest) (mapped_lt hb hm)

end Sys2Proof.Machine

/-! SUPPORT. The capture of a fault: what it leaves, and that its class has a record (R421, R422). -/

namespace Sys2Proof.Machine

section
variable {s t u : State} (c source detail : Nat) (masked injected : Bool)

/-- From `s` to `t` nothing changed but the outputs, the mode and the belay monitor, whose active classes stand. -/
structure CaptureOnly (s t : State) : Prop where
  frame : t = { s.withOutputs t with mode := t.mode, belay := t.belay }
  active : t.belay.active = s.belay.active

theorem CaptureOnly.refl (s : State) : CaptureOnly s s := ⟨rfl, rfl⟩

theorem CaptureOnly.trans (h : CaptureOnly s t) (g : CaptureOnly t u) : CaptureOnly s u :=
  ⟨Eq.trans g.frame (congrArg (fun v : State => { v.withOutputs u with mode := u.mode, belay := u.belay }) h.frame), g.active.trans h.active⟩

theorem CaptureOnly.triggerDark (s : State) (cause : Nat) : CaptureOnly s (s.triggerDark cause) := by
  unfold State.triggerDark
  split
  · exact .refl s
  · exact .refl s
  · exact ⟨rfl, rfl⟩
  all_goals
    constructor
    · rw [State.enterDark_eq]; rfl
    · rw [State.enterDark_eq]; rfl

theorem State.triggerDark_belay (s : State) (cause : Nat) : (s.triggerDark cause).belay = s.belay := by
  unfold State.triggerDark
  split
  · rfl
  · rfl
  · rfl
  all_goals rw [State.enterDark_eq]; rfl

theorem CaptureOnly.faultWires (s : State) (reaction : Nat) : CaptureOnly s (s.faultWires reaction) := by
  unfold State.faultWires
  extract_lets now _ v
  have signalled : CaptureOnly s v := by
    unfold v
    split
    · exact ⟨rfl, rfl⟩
    · exact .refl s
  clear_value v
  split
  · refine signalled.trans (CaptureOnly.trans ?_ (.triggerDark _ 3))
    exact ⟨rfl, rfl⟩
  · exact signalled

theorem State.faultWires_slots (s : State) (reaction : Nat) : (s.faultWires reaction).belay.slots = s.belay.slots := by
  unfold State.faultWires
  extract_lets now _ v
  have signalled : v.belay.slots = s.belay.slots := by
    unfold v
    split <;> rfl
  clear_value v
  split
  · rw [State.triggerDark_belay]; exact signalled
  · exact signalled

theorem State.fillLatch_active (s : State) (r : FaultRec) : (s.fillLatch r).belay.active = s.belay.active := by
  unfold State.fillLatch
  split <;> rfl

theorem CaptureOnly.captureWith (s : State) : CaptureOnly s (s.captureWith c source detail masked injected) := by
  unfold State.captureWith
  split
  · exact ⟨rfl, rfl⟩
  · extract_lets reaction r v _ w
    have latched : CaptureOnly s v := ⟨by unfold v; rw [State.fillLatch_eq]; rfl, State.fillLatch_active s r⟩
    have slotted : CaptureOnly v w := ⟨rfl, rfl⟩
    exact (latched.trans slotted).trans (.faultWires w reaction)

/-- After a capture the class has a record. -/
theorem slots_captureWith (s : State) :
    ((s.captureWith c source detail masked injected).belay.slots.any fun x => x.rcd.cls == c) = true := by
  unfold State.captureWith
  split
  · next h =>
    obtain ⟨x, hx, hcls⟩ := List.any_eq_true.mp h
    refine List.any_eq_true.mpr ⟨_, List.mem_map_of_mem hx, ?_⟩
    rw [if_pos hcls]
    exact hcls
  · extract_lets reaction r v _ w
    rw [State.faultWires_slots]
    simp [w, r, State.faultRec]

end

end Sys2Proof.Machine

/-! SUPPORT. A running task at one of its steps: it goes on, or it ends with a record of the trace (R394, R395, R400). -/

namespace Sys2Proof.Machine

/-! ### The items of linked queues -/

section
variable {s t : State}

/-- The linked and receive queues. -/
def State.queues (s : State) : List Queue × List (Nat × Queue) := (s.q.rx, s.q.linked)

theorem State.queue?_congr (h : t.queues = s.queues) (n : Nat) : t.queue? n = s.queue? n := by
  obtain ⟨hrx, hlinked⟩ := Prod.mk.inj h
  unfold State.queue?
  rw [hrx, hlinked]

theorem assocGet_assocSet {α : Type} (m : List (Nat × α)) (k : Nat) (v : α) : assocGet (assocSet m k v) k = some v := by
  induction m with
  | nil => simp [assocSet, assocGet]
  | cons p m ih =>
    unfold assocSet
    split
    · simp [assocGet]
    · next h => simpa [assocGet, h] using ih

theorem State.queue?_setQueue {n : Nat} {q : Queue} (h : s.queue? n = some q) (r : Queue) : (s.setQueue n r).queue? n = some r := by
  unfold State.queue? at h ⊢
  unfold State.setQueue
  split at h
  · next hn =>
    obtain ⟨hlt, -⟩ := List.getElem?_eq_some_iff.mp h
    simp [hn, hlt]
  · next hn => simpa [hn] using assocGet_assocSet s.q.linked n r

theorem State.minReg_queues (s : State) (k v : Nat) : (s.minReg k v).queues = s.queues := by rw [State.minReg_eq]; rfl

theorem State.noteEv_queues (s : State) (e : Nat) (p : Bytes) : (s.noteEv e p).queues = s.queues := by
  unfold State.noteEv
  extract_lets t
  split <;> rfl

theorem State.poolCheck_queues (s : State) : s.poolCheck.queues = s.queues := by
  have minPool (u : State) : u.minPool.queues = u.queues := State.minReg_queues u _ _
  unfold State.poolCheck
  dsimp only
  split_ifs
  · exact minPool s
  · exact ((minPool _).trans (State.noteEv_queues _ _ _)).trans (minPool s)
  · rfl
  · exact minPool s

theorem State.raiseLoss_queues (s : State) (ev queue n : Nat) (p : Bytes) : (s.raiseLoss ev queue n p).queues = s.queues := by
  obtain h | h | ⟨m, r, h⟩ := State.raiseLoss_cases s ev queue n p
  · rw [h]
  · rw [h]; rfl
  · rw [h, State.poolCheck_queues]; rfl

/-! ### A push with room -/

/-- An item that fits its queue, on which nothing waits, is linked to the tail under either policy (R372, R373). -/
theorem State.push_fits {n : Nat} {q : Queue} {x : Bytes} (hq : s.queue? n = some q) (hreaders : q.readers = [])
    (hfull : q.full = false) (hroom : cellsOf x.length ≤ s.cellsFor q) : s.push n x = (.pushed, (s.setQueue n (q.append x)).poolCheck) := by
  have stays : Queue.makeRoom q.items.length (s.cellsFor q) (cellsOf x.length) q = (q, 0) := by
    unfold Queue.makeRoom
    split
    · rfl
    · split
      · rfl
      · rw [hfull, decide_eq_false (Nat.not_lt.mpr hroom)]; rfl
  have unmarked : (s.setQueue n (q.append x)).markEvent n q q = s.setQueue n (q.append x) := if_neg (by omega)
  unfold State.push
  rw [hq]
  dsimp only
  split
  · next h => rw [hreaders] at h; cases h
  · split
    · simp [hfull, Nat.not_lt.mpr hroom]
    · simp [stays, hfull, hroom, unmarked]

end

/-! ### The trace (R400) -/

section
variable {s t : State} (e dec slot st : Nat) (x : Task)

theorem State.trace_eq : s.trace e dec slot st x =
    { s with sched := { s.sched with trace := (s.trace e dec slot st x).sched.trace }, regs := (s.trace e dec slot st x).regs,
             ev := (s.trace e dec slot st x).ev, q := (s.trace e dec slot st x).q, report := (s.trace e dec slot st x).report } := by
  unfold State.trace
  extract_lets routine r q _ pushed
  have hpushed : pushed = { s with sched := { s.sched with trace := pushed.sched.trace }, regs := pushed.regs, ev := pushed.ev,
                                   q := pushed.q, report := pushed.report } := by
    unfold pushed
    rw [State.poolCheck_eq]
    rfl
  clear_value pushed
  split
  · rfl
  · split
    · exact hpushed
    · rw [State.raiseLoss_eq, hpushed]

@[simp] theorem State.trace_engines : (s.trace e dec slot st x).sched.engines = s.sched.engines := by rw [State.trace_eq]
@[simp] theorem State.trace_carabs : (s.trace e dec slot st x).carabs = s.carabs := by rw [State.trace_eq]
@[simp] theorem State.trace_mem : (s.trace e dec slot st x).mem = s.mem := by rw [State.trace_eq]
@[simp] theorem State.trace_belay : (s.trace e dec slot st x).belay = s.belay := by rw [State.trace_eq]
@[simp] theorem State.trace_ctl : (s.trace e dec slot st x).ctl = s.ctl := by rw [State.trace_eq]
@[simp] theorem State.trace_pending : (s.trace e dec slot st x).pending = s.pending := by rw [State.trace_eq]

/-- What a record of the trace may change in the state: nothing, or the push of its record and then perhaps the loss of another. -/
theorem State.trace_cases : s.trace e dec slot st x = s ∨ ∃ (c : SchedSt) (n k : Nat) (p : Bytes),
    s.trace e dec slot st x = ((({ s with sched := c } : State).seeDepth 23 n).addReg Reg.traceLost k).poolCheck ∨
    s.trace e dec slot st x = (((({ s with sched := c } : State).seeDepth 23 n).addReg Reg.traceLost k).poolCheck).raiseLoss 37 23 k p := by
  unfold State.trace
  extract_lets routine r q _ pushed
  split
  · exact .inl rfl
  · split
    · exact .inr ⟨_, _, _, [], .inl rfl⟩
    · exact .inr ⟨_, _, _, _, .inr rfl⟩

@[simp] theorem State.trace_queues : (s.trace e dec slot st x).queues = s.queues := by
  obtain h | ⟨c, n, k, p, h | h⟩ := State.trace_cases (s := s) e dec slot st x
  · rw [h]
  · rw [h, State.poolCheck_queues]; rfl
  · rw [h, State.raiseLoss_queues, State.poolCheck_queues]; rfl

/-- The registers a record of the trace may change. -/
def traceKeys : List Nat := Reg.traceLost :: evKeys 37

theorem keeps_trace (ok : s.storesOk) : Keeps traceKeys s (s.trace e dec slot st x) := by
  have pushed (c : SchedSt) (n k : Nat) :
      Keeps traceKeys s ((({ s with sched := c } : State).seeDepth 23 n).addReg Reg.traceLost k).poolCheck := by
    have seen : Keeps traceKeys s (({ s with sched := c } : State).seeDepth 23 n) := ⟨ok, .of_regs rfl⟩
    have counted := seen.setReg (k := Reg.traceLost) (by simp [traceKeys])
      (min ((({ s with sched := c } : State).seeDepth 23 n).reg Reg.traceLost + k) (two32 - 1))
    exact counted.trans ⟨storesOk_poolCheck counted.stores, (poolCheck_kept counted.stores).mono (by decide)⟩
  obtain h | ⟨c, n, k, p, h | h⟩ := State.trace_cases (s := s) e dec slot st x
  · rw [h]; exact .refl ok
  · rw [h]; exact pushed c n k
  · rw [h]
    have before := pushed c n k
    exact before.trans ⟨storesOk_raiseLoss before.stores _ _ _ _, (raiseLoss_kept before.stores _ _ _ _).mono (by decide)⟩

theorem pending_raiseLoss (ok : s.storesOk) (ev queue n : Nat) (p : Bytes) {b : Nat} (hb : bit (s.reg Reg.pending) b = true) :
    bit ((s.raiseLoss ev queue n p).reg Reg.pending) b = true := by
  have marked : bit ((s.markEv ev n).reg Reg.pending) b = true := by rw [reg_markEv_pending ok, bit_setBit, hb]; rfl
  obtain h | h | ⟨m, r, h⟩ := State.raiseLoss_cases s ev queue n p
  · rw [h]; exact hb
  · rw [h]; exact marked
  · rw [h]
    have stores : ({ s.markEv ev n with ev := m } : State).storesOk := storesOk_markEv ok ev n
    refine pending_poolCheck (storesOk_pushEv stores r) ?_
    rw [reg_pushEv stores r (by decide)]
    exact marked

/-- No pending bit is lost to a record of the trace. -/
theorem pending_trace (ok : s.storesOk) {b : Nat} (hb : bit (s.reg Reg.pending) b = true) :
    bit ((s.trace e dec slot st x).reg Reg.pending) b = true := by
  have pushed (c : SchedSt) (n k : Nat) :
      bit (((({ s with sched := c } : State).seeDepth 23 n).addReg Reg.traceLost k).poolCheck.reg Reg.pending) b = true := by
    refine pending_poolCheck (storesOk_setReg (s := ({ s with sched := c } : State).seeDepth 23 n) ok _ _) ?_
    exact (congrArg (bit · b) (reg_setReg_ne (s := ({ s with sched := c } : State).seeDepth 23 n) ok _ (by decide))).trans hb
  obtain h | ⟨c, n, k, p, h | h⟩ := State.trace_cases (s := s) e dec slot st x
  · rw [h]; exact hb
  · rw [h]; exact pushed c n k
  · rw [h]
    exact pending_raiseLoss (storesOk_poolCheck (storesOk_setReg (s := ({ s with sched := c } : State).seeDepth 23 n) ok _ _)) _ _ _ _
      (pushed c n k)

end

/-! ### Engines -/

section
variable {s t u : State} {e ty st : Nat} {x y : Task} {work : Task → State → After × State}

theorem State.engine_setEngine (he : e < s.sched.engines.length) (z : Engine) : (s.setEngine e z).engine e = z := by
  simp [State.engine, State.setEngine, he]

theorem State.engine_congr (h : t.sched.engines = s.sched.engines) (e : Nat) : t.engine e = s.engine e := by
  unfold State.engine
  rw [h]

theorem State.cb_congr (h : t.carabs = s.carabs) (c : Nat) : t.cb c = s.cb c := by
  unfold State.cb
  rw [h]

theorem State.preempt_alone (h : (s.engine e).biv = []) : s.preempt e = s := by
  unfold State.preempt
  simp [h]

theorem State.resumeHead_alone (h : (s.engine e).biv = []) : s.resumeHead e = s := by
  unfold State.resumeHead
  simp [h]

/-- The task in RUN ends, with no carabiner of its own and none suspended behind it: a record of the trace, no more. -/
theorem State.endRun_alone (he : e < u.sched.engines.length) (hb : (u.engine e).biv = [])
    (ho : (u.cb (dCb y.row)).owner ≠ some (.task y.id)) (dec : Nat) :
    u.endRun e y dec st = (u.setEngine e { u.engine e with run := none }).trace e dec 0 st y := by
  have engine : (((u.setEngine e { u.engine e with run := none }).trace e dec 0 st y).engine e).biv = [] := by
    rw [State.engine_congr (State.trace_engines e dec 0 st y), State.engine_setEngine he]
    exact hb
  have free : (((u.setEngine e { u.engine e with run := none }).trace e dec 0 st y).cb (dCb y.row)).owner ≠ some (.task y.id) := by
    rw [State.cb_congr (State.trace_carabs e dec 0 st y)]
    exact ho
  unfold State.endRun
  extract_lets c _ ended freed
  have kept : freed = ended := if_neg fun h => free h.2
  rw [kept]
  exact State.resumeHead_alone engine

/-! ### One step of a task (R395) -/

theorem State.runTask_goesOn (h : s.runsTask e ty x) (hw : work x s = (.goOn y, u)) (hc : y.cancel = false)
    (he : e < u.sched.engines.length) (hb : (u.engine e).biv = []) :
    s.runTask e ty work = u.setEngine e { u.engine e with run := some y } := by
  obtain ⟨-, hrun, -, hty, hstalled, hblocked, -, -⟩ := h
  have same : { x with stalled := false } = x := by rw [← hstalled]
  have alone : ((u.setEngine e { u.engine e with run := some y }).engine e).biv = [] := by rw [State.engine_setEngine he]; exact hb
  unfold State.runTask
  rw [hrun]
  dsimp only
  rw [same]
  simp [hty, hstalled, hblocked, hw, hc, State.preempt_alone alone]

theorem State.runTask_ends (h : s.runsTask e ty x) (hw : work x s = (.ended y st, u)) (he : e < u.sched.engines.length)
    (hb : (u.engine e).biv = []) (ho : (u.cb (dCb y.row)).owner ≠ some (.task y.id)) :
    s.runTask e ty work = (u.setEngine e { u.engine e with run := none }).trace e 4 0 st y := by
  obtain ⟨-, hrun, -, hty, hstalled, hblocked, -, -⟩ := h
  have same : { x with stalled := false } = x := by rw [← hstalled]
  rw [← State.endRun_alone he hb ho 4]
  unfold State.runTask
  rw [hrun]
  dsimp only
  rw [same]
  simp [hty, hstalled, hblocked, hw]

/-! ### Work on registers, queues and memories alone -/

/-- From `s` to `u` the work of a task changed nothing but registers, events, queues, reports and memories. -/
def WorkOnly (s u : State) : Prop := u = { s with regs := u.regs, ev := u.ev, q := u.q, report := u.report, mem := u.mem }

/-- From `s` to `t` engine `e` went on with `o` or, for `none`, ended its task, and the memories and queues are those of `u`. -/
structure MovedTo (s t u : State) (e : Nat) (o : Option Task) : Prop where
  moved : s.taskMoved t e o
  mem : t.mem = u.mem
  queues : t.queues = u.queues

theorem WorkOnly.refl (s : State) : WorkOnly s s := rfl

theorem MovedTo.pending {o : Option Task} (h : MovedTo s t u e o) : t.pending = s.pending := by
  rw [h.moved.2]

theorem MovedTo.ctl {o : Option Task} (h : MovedTo s t u e o) : t.ctl = s.ctl := by
  rw [h.moved.2]

theorem WorkOnly.sched (h : WorkOnly s u) : u.sched = s.sched := by rw [h]

theorem WorkOnly.carabs (h : WorkOnly s u) : u.carabs = s.carabs := by rw [h]

section
variable (h : s.runsTask e ty x) (hu : WorkOnly s u)
include h hu

theorem movedTo_goesOn (hw : work x s = (.goOn y, u)) (hc : y.cancel = x.cancel) :
    MovedTo s (s.runTask e ty work) u e (some y) := by
  obtain ⟨he, -, hbiv, -, -, -, hcancel, -⟩ := id h
  have engine : u.engine e = s.engine e := State.engine_congr (congrArg SchedSt.engines hu.sched) e
  have inRange : e < u.sched.engines.length := by rw [hu.sched]; exact he
  have step := State.runTask_goesOn h hw (hc.trans hcancel) inRange (engine ▸ hbiv)
  rw [step]
  refine ⟨⟨by rw [State.engine_setEngine inRange, engine], ?_⟩, rfl, rfl⟩
  unfold State.setEngine
  rw [hu]

theorem movedTo_ends (hw : work x s = (.ended y st, u)) (hid : y.id = x.id) (hrow : y.row = x.row) :
    MovedTo s (s.runTask e ty work) u e none := by
  obtain ⟨he, -, hbiv, -, -, -, -, hown⟩ := id h
  have engine : u.engine e = s.engine e := State.engine_congr (congrArg SchedSt.engines hu.sched) e
  have inRange : e < u.sched.engines.length := by rw [hu.sched]; exact he
  have free : (u.cb (dCb y.row)).owner ≠ some (.task y.id) := by rw [State.cb_congr hu.carabs, hid, hrow]; exact hown
  rw [State.runTask_ends h hw inRange (engine ▸ hbiv) free]
  refine ⟨⟨?_, ?_⟩, State.trace_mem .., State.trace_queues ..⟩
  · rw [State.engine_congr (State.trace_engines ..), State.engine_setEngine inRange, engine]
  · rw [State.trace_eq]
    unfold State.setEngine
    rw [hu]

/-- A step that goes on while `c` holds and ends the task otherwise. -/
theorem movedTo_step {c : Prop} [Decidable c] {z : Task} (hw : work x s = (if c then .goOn y else .ended z st, u))
    (hc : y.cancel = x.cancel) (hid : z.id = x.id) (hrow : z.row = x.row) :
    MovedTo s (s.runTask e ty work) u e (if c then some y else none) := by
  split at hw
  · next hgo => rw [if_pos hgo]; exact movedTo_goesOn h hu hw hc
  · next hend => rw [if_neg hend]; exact movedTo_ends h hu hw hid hrow

end

end

end Sys2Proof.Machine

/-! PROOFS. The steps of tasks that scrub, test, signal and walk bands or headers (R132, R387, R432, R433). -/

namespace Sys2Proof.Machine

section
variable {s : State} {e n : Nat} {x : Task}

/-! ### Work that leaves the state as it is -/

theorem workScrub_clean (hdesc : x.desc ≠ ownScrub) (hn : n = min 4096 (dLen x.row - x.prog)) (hpos : 0 < n)
    (hlast : x.prog + n < dLen x.row ∨ s.sched.dramLast ≠ some x.id) : workScrub 0 x s =
      (if x.prog + n < dLen x.row then .goOn { x with prog := x.prog + n } else .ended { x with prog := x.prog + n } 0, s) := by
  unfold workScrub
  simp only [← hn]
  by_cases hmore : x.prog + n < dLen x.row
  · simp [hdesc, hpos.ne', hmore]
  · simp [hdesc, hpos.ne', hmore, hlast.resolve_left hmore]

theorem workHdr_eq (hn : n = if dParam x.row 0 1 = 0 then s.outCount else s.pxTx) : workHdr x s =
    (if x.prog + 1 < n then .goOn { x with prog := x.prog + 1 } else .ended { x with prog := n } 0, s) := by
  unfold workHdr
  rw [← hn]
  dsimp only
  split <;> rfl

theorem workBands_next {b : Nat} {l : List Nat}
    (h : ((List.range 32).filter fun k => decide (x.prog ≤ k) && bit (dParam x.row 0 4) k) = b :: l) :
    workBands x s = (.goOn { x with prog := b + 1 }, s) := by
  unfold workBands
  rw [h]

/-! ### SIGNAL -/

/-- The item of a SIGNAL task that has it still to push. -/
theorem workSignal_eq (hprog : x.prog = 0) (hn : n = min 24 (dLen x.row)) (hpos : 0 < n) : workSignal x s =
    (if (s.taskPush x (slice x.row 40 n)).1.blocked.isSome then .goOn (s.taskPush x (slice x.row 40 n)).1
      else .ended (s.taskPush x (slice x.row 40 n)).1 0, (s.taskPush x (slice x.row 40 n)).2) := by
  unfold workSignal
  rw [← hn]
  exact if_neg (by omega)

theorem taskPush_nowhere (hout : dOut x.row = 0xFFFF) (item : Bytes) :
    s.taskPush x item = ({ x with hand := none, prog := x.prog + 1 }, s) := if_pos hout

theorem taskPush_fits {q : Queue} {item : Bytes} (hout : dOut x.row < 992) (hq : s.queue? (dOut x.row) = some q) (hreaders : q.readers = [])
    (hfull : q.full = false) (hroom : cellsOf item.length ≤ s.cellsFor q) : s.taskPush x item =
      ({ x with hand := none, prog := x.prog + 1 }, (s.setQueue (dOut x.row) (q.append item)).poolCheck) := by
  have pushed : s.pushAny (dOut x.row) item = (true, (s.setQueue (dOut x.row) (q.append item)).poolCheck) := by
    unfold State.pushAny
    rw [if_neg (by omega), State.push_fits hq hreaders hfull hroom]
  unfold State.taskPush
  rw [if_neg (by omega), pushed]
  rfl

theorem WorkOnly.push (s : State) (k : Nat) (q : Queue) : WorkOnly s (s.setQueue k q).poolCheck := by
  unfold WorkOnly
  rw [State.poolCheck_eq]
  unfold State.setQueue
  split <;> rfl

theorem pushed_mem (s : State) (k : Nat) (q : Queue) : (s.setQueue k q).poolCheck.mem = s.mem := by
  rw [State.poolCheck_eq]
  unfold State.setQueue
  split <;> rfl

/-! ### SCRUB of a corrected error (R432) -/

/-- A single-bit error of a scrub is counted and told. -/
def State.scrubCorrected (s : State) (p : Bytes) : State := (s.incReg Reg.eccCorrected).raise 56 p

theorem keeps_scrubCorrected (ok : s.storesOk) (p : Bytes) : Keeps (evKeys 56) (s.incReg Reg.eccCorrected) (s.scrubCorrected p) :=
  (Keeps.refl (storesOk_setReg ok _ _)).raise (fun _ h => h) p

theorem eccCorrected_scrubCorrected (ok : s.storesOk) (p : Bytes) :
    (s.scrubCorrected p).reg Reg.eccCorrected = min (s.reg Reg.eccCorrected + 1) (two32 - 1) :=
  ((keeps_scrubCorrected ok p).reg (by decide)).trans (reg_incReg ok _)

theorem pending_scrubCorrected (ok : s.storesOk) (ha : s.alive = true) (p : Bytes) :
    bit ((s.scrubCorrected p).reg Reg.pending) 56 = true :=
  (counted_raise (storesOk_setReg ok _ _) ha (by decide) p).2

/-- The end of a pass of the DRAM scrub (R432). -/
def State.dramPassEnds (s : State) : State := ((s.scrubPass true).incReg Reg.scrubPasses).clearActive 0x14

theorem workScrub_corrected (hdesc : x.desc ≠ ownScrub) (hn : n = min 4096 (dLen x.row - x.prog)) (hpos : 0 < n)
    (hpool : s.inPool (addrOf (dSrc x.row)).1 ((addrOf (dSrc x.row)).2 + x.prog) = false) : ∃ p u,
      (u = s.scrubCorrected p ∨ u = (s.scrubCorrected p).dramPassEnds) ∧
      (workScrub 1 x s = (.goOn { x with prog := x.prog + n }, u) ∨ workScrub 1 x s = (.ended { x with prog := x.prog + n } 0, u)) := by
  refine ⟨beBytes 8 ((addrOf (dSrc x.row)).2 + x.prog) ++ beBytes 1 (if (addrOf (dSrc x.row)).1 then 1 else 0), ?_⟩
  unfold workScrub
  simp only [hpool, ← hn]
  by_cases hmore : x.prog + n < dLen x.row
  · exact ⟨_, .inl rfl, .inl (by simp [hdesc, hpos.ne', hmore, State.scrubCorrected])⟩
  · by_cases hlast : s.sched.dramLast = some x.id
    · exact ⟨_, .inr rfl, .inr (by simp [hdesc, hpos.ne', hmore, hlast, State.scrubCorrected, State.dramPassEnds])⟩
    · exact ⟨_, .inl rfl, .inr (by simp [hdesc, hpos.ne', hmore, hlast, State.scrubCorrected])⟩

/-! ### SELF_TEST (R433) -/

/-- Engine `e` has its test no longer to complete. -/
def State.testMet (s : State) (e : Nat) : State := s.setEngine e { s.engine e with testDue := none }

/-- A pattern of engine `e` failed in task `x`. -/
def State.testFailed (s : State) (e : Nat) (x : Task) : State := ((s.testMet e).setActive 0x11).capture 0x11 e x.id

theorem workTest_passed : workTest e true x s = (.ended { x with prog := 1 } 0, s.testMet e) := rfl

theorem workTest_failed : workTest e false x s = (.ended { x with prog := 1 } 0, s.testFailed e x) := rfl

theorem engine_testMet (he : e < s.sched.engines.length) : (s.testMet e).engine e = { s.engine e with testDue := none } :=
  State.engine_setEngine he _

/-- The end of a test whose work left `u`, where no more than the engine's test was met and a fault captured. -/
theorem ended_test {u : State} {pass : Bool} (h : s.runsTask e 11 x) (hw : workTest e pass x s = (.ended { x with prog := 1 } 0, u))
    (hengines : u.sched.engines = (s.testMet e).sched.engines) (hcarabs : u.carabs = s.carabs) (hpending : u.pending = s.pending) :
    (s.runTask e 11 (workTest e pass)).engine e = { s.engine e with run := none, testDue := none } ∧
      (s.runTask e 11 (workTest e pass)).belay = u.belay ∧ (s.runTask e 11 (workTest e pass)).pending = s.pending := by
  obtain ⟨he, -, hbiv, -, -, -, -, hown⟩ := id h
  have met : u.engine e = { s.engine e with testDue := none } := (State.engine_congr hengines e).trans (engine_testMet he)
  have inRange : e < u.sched.engines.length := by rw [hengines]; simpa [State.testMet, State.setEngine] using he
  have alone : (u.engine e).biv = [] := by rw [met]; exact hbiv
  have free : (u.cb (dCb x.row)).owner ≠ some (.task x.id) := by rw [State.cb_congr hcarabs]; exact hown
  rw [State.runTask_ends h hw inRange alone free]
  refine ⟨?_, State.trace_belay .., (State.trace_pending ..).trans hpending⟩
  rw [State.engine_congr (State.trace_engines ..), State.engine_setEngine inRange, met]

/-! ### A step of a corrected scrub (R432) -/

/-- What the correction counts and tells stands after the step. -/
theorem reads_scrub_corrected {u : State} {y : Task} {work : Task → State → After × State} {p : Bytes} (ok : s.storesOk)
    (ha : s.alive = true) (h : s.runsTask e 10 x) (hu : u = s.scrubCorrected p ∨ u = (s.scrubCorrected p).dramPassEnds)
    (hw : work x s = (.goOn y, u) ∨ work x s = (.ended y 0, u)) (hy : y.id = x.id ∧ y.row = x.row ∧ y.cancel = x.cancel) :
    (s.runTask e 10 work).reg Reg.eccCorrected = min (s.reg Reg.eccCorrected + 1) (two32 - 1) ∧
      bit ((s.runTask e 10 work).reg Reg.pending) 56 = true ∧ (s.runTask e 10 work).pending = s.pending := by
  obtain ⟨hid, hrow, hcancel⟩ := hy
  obtain ⟨he, -, hbiv, -, -, -, hc, hown⟩ := id h
  have raised := (keeps_scrubCorrected ok p).stores
  have engines : u.sched.engines = s.sched.engines := by
    obtain rfl | rfl := hu <;> simp [State.scrubCorrected, State.dramPassEnds, State.scrubPass]
  have carabs : u.carabs = s.carabs := by
    obtain rfl | rfl := hu <;> simp [State.scrubCorrected, State.dramPassEnds, State.scrubPass]
  have pending : u.pending = s.pending := by
    obtain rfl | rfl := hu <;> simp [State.scrubCorrected, State.dramPassEnds, State.scrubPass]
  have kept : Keeps [Reg.scrubPasses] (s.scrubCorrected p) u := by
    obtain rfl | rfl := hu
    · exact .refl raised
    · exact ⟨storesOk_setReg (s := (s.scrubCorrected p).scrubPass true) raised _ _,
        (RegsKept.of_regs (t := (s.scrubCorrected p).scrubPass true) rfl).setReg raised (by simp) _⟩
  have counted := (kept.reg (by decide)).trans (eccCorrected_scrubCorrected ok p)
  have told : bit (u.reg Reg.pending) 56 = true := by rw [kept.reg (by decide)]; exact pending_scrubCorrected ok ha p
  have engine : (u.engine e).biv = [] := (congrArg Engine.biv (State.engine_congr engines e)).trans hbiv
  obtain hw | hw := hw
  · rw [State.runTask_goesOn h hw (hcancel.trans hc) (engines ▸ he) engine]
    exact ⟨counted, told, pending⟩
  · have free : (u.cb (dCb y.row)).owner ≠ some (.task y.id) := by rw [State.cb_congr carabs, hid, hrow]; exact hown
    rw [State.runTask_ends h hw (engines ▸ he) engine free]
    refine ⟨((keeps_trace e 4 0 0 y (s := u.setEngine e { u.engine e with run := none }) kept.stores).reg (by decide)).trans counted,
      pending_trace e 4 0 0 y (s := u.setEngine e { u.engine e with run := none }) kept.stores told, ?_⟩
    exact (State.trace_pending ..).trans pending

/-! ### The commands -/

theorem exec_scrub_clean (h : s.runsTask e 10 x) (hdesc : x.desc ≠ ownScrub) (hn : n = min 4096 (dLen x.row - x.prog)) (hpos : 0 < n)
    (hlast : x.prog + n < dLen x.row ∨ s.sched.dramLast ≠ some x.id) : ∃ t, exec (.scrub e 0) s = .next t ∧ t.mem = s.mem ∧
      s.taskMoved t e (if x.prog + n < dLen x.row then some { x with prog := x.prog + n } else none) := by
  have moved := movedTo_step h (.refl s) (workScrub_clean hdesc hn hpos hlast) rfl rfl rfl
  exact ⟨_, State.done_of_pending moved.pending, moved.mem, moved.moved⟩

theorem exec_scrub_corrected (h : s.runsTask e 10 x) (hdesc : x.desc ≠ ownScrub) (hn : n = min 4096 (dLen x.row - x.prog)) (hpos : 0 < n)
    (ok : s.storesOk) (ha : s.alive = true)
    (hpool : s.inPool (addrOf (dSrc x.row)).1 ((addrOf (dSrc x.row)).2 + x.prog) = false) : ∃ t, exec (.scrub e 1) s = .next t ∧
      t.reg Reg.eccCorrected = min (s.reg Reg.eccCorrected + 1) (two32 - 1) ∧ bit (t.reg Reg.pending) 56 = true := by
  obtain ⟨p, u, hu, hw⟩ := workScrub_corrected hdesc hn hpos hpool
  obtain ⟨counted, told, pending⟩ := reads_scrub_corrected ok ha h hu hw ⟨rfl, rfl, rfl⟩
  exact ⟨_, State.done_of_pending pending, counted, told⟩

theorem exec_selfTest_passed (h : s.runsTask e 11 x) : ∃ t, exec (.selfTest e true) s = .next t ∧
    t.engine e = { s.engine e with run := none, testDue := none } ∧ t.belay = s.belay := by
  obtain ⟨engine, belay, pending⟩ := ended_test h workTest_passed rfl rfl rfl
  exact ⟨_, State.done_of_pending pending, engine, belay⟩

theorem exec_selfTest_failed (h : s.runsTask e 11 x) : ∃ t, exec (.selfTest e false) s = .next t ∧
    t.engine e = { s.engine e with run := none, testDue := none } ∧ bit t.belay.active 0x11 = true ∧
    (t.belay.slots.any fun y => y.rcd.cls == 0x11) = true := by
  have captured : CaptureOnly ((s.testMet e).setActive 0x11) (s.testFailed e x) := .captureWith _ _ _ _ _ _
  obtain ⟨engine, belay, pending⟩ := ended_test h workTest_failed (by rw [captured.frame]; rfl) (by rw [captured.frame]; rfl)
    (by rw [captured.frame]; rfl)
  refine ⟨_, State.done_of_pending pending, engine, ?_, ?_⟩
  · rw [belay, captured.active]
    exact (bit_setBit _ _ _).trans (by simp)
  · rw [belay]
    exact slots_captureWith _ _ _ _ _ _

/-- A SIGNAL task whose push is taken ends, with the memories and queues as the push left them. -/
theorem exec_signal {u : State} (h : s.runsTask e 14 x) (hjobs : s.ctl.jobs = []) (hprog : x.prog = 0) (hn : n = min 24 (dLen x.row))
    (hpos : 0 < n) (hu : WorkOnly s u) (hpush : s.taskPush x (slice x.row 40 n) = ({ x with hand := none, prog := x.prog + 1 }, u)) :
    ∃ t, exec (.signal e) s = .next t ∧ MovedTo s t u e none := by
  obtain ⟨-, -, -, -, -, hblocked, -, -⟩ := id h
  have work : workSignal x s = (.ended { x with hand := none, prog := x.prog + 1 } 0, u) := by
    rw [workSignal_eq hprog hn hpos, hpush]
    simp [hblocked]
  have moved := movedTo_ends h hu work rfl rfl
  refine ⟨_, ?_, moved⟩
  have resumed := State.resumeJobs_nil (s := s.runTask e 14 workSignal) (by rw [moved.ctl]; exact hjobs)
  exact (congrArg s.done resumed).trans (State.done_of_pending moved.pending)

end

/-- Settles O57: `exec_scrub_clean` and `exec_scrub_corrected`, `exec_selfTest_passed` and `exec_selfTest_failed`, `exec_signal` with the
push that goes nowhere and the one that fits, `workHdr_eq` and `workBands_next`. -/
theorem taskServices : Obligations.TaskServices := by
  refine ⟨?_, ?_, ?_, ?_, ?_⟩
  · intro e n x s h hdesc hn hpos
    exact ⟨exec_scrub_clean h hdesc hn hpos, exec_scrub_corrected h hdesc hn hpos⟩
  · intro e x s _ h
    exact ⟨exec_selfTest_passed h, exec_selfTest_failed h⟩
  · intro e n x s h hjobs hprog hn hpos
    refine ⟨fun hout => ?_, fun q hout hq hreaders hfull hroom => ?_⟩
    · obtain ⟨t, ht, moved⟩ := exec_signal h hjobs hprog hn hpos (.refl s) (taskPush_nowhere hout _)
      exact ⟨t, ht, moved.mem, moved.moved⟩
    · have pushed := taskPush_fits (item := slice x.row 40 n) hout hq hreaders hfull (by rwa [slice_length])
      obtain ⟨t, ht, moved⟩ := exec_signal h hjobs hprog hn hpos (WorkOnly.push s _ _) pushed
      have queued : t.queue? (dOut x.row) = some (q.append (slice x.row 40 n)) := by
        rw [State.queue?_congr (moved.queues.trans (State.poolCheck_queues _))]
        exact State.queue?_setQueue hq _
      refine ⟨t, ht, queued, moved.moved, moved.mem.trans ?_⟩
      exact pushed_mem s _ _
  · intro e n x s h hn
    have moved := movedTo_step h (.refl s) (workHdr_eq hn) rfl rfl rfl
    exact ⟨_, State.done_of_pending moved.pending, moved.mem, moved.moved⟩
  · intro e b l x s h hl
    have moved := movedTo_goesOn h (.refl s) (workBands_next hl) rfl
    exact ⟨_, State.done_of_pending moved.pending, moved.mem, moved.moved⟩

end Sys2Proof.Machine

/-! PROOFS. Packet engines and the items of their queues (R103, R131, R186, R209, R293, R332, R342, R387). -/

namespace Sys2Proof.Machine

section
variable {s u : State} {e ty k i : Nat} {x : Bytes} {f : Bytes → State → State}

/-! ### A free packet engine (R390) -/

/-- A free engine handles the oldest item of its queue under the device's own descriptor. -/
theorem State.packetStep_item (h : s.packetFree e) (hpop : s.pop k = some (x, u)) : s.packetStep e ty k f = f x u := by
  obtain ⟨hrun, hlo, hhi, hout, hdom⟩ := h
  unfold State.packetStep
  simp [hrun, hlo, hhi, hout, hdom, hpop]

theorem State.packetStep_empty (h : s.packetFree e) (hpop : s.pop k = none) : s.packetStep e ty k f = s := by
  obtain ⟨hrun, hlo, hhi, hout, hdom⟩ := h
  unfold State.packetStep
  simp [hrun, hlo, hhi, hout, hdom, hpop]

/-- What a free engine makes of an item of RXQ_SACN: the check, and the merge of what it accepts. -/
def sacnItem (x : Bytes) (s : State) : State :=
  match (s.sacnCheck x).1 with
  | .none => (s.sacnCheck x).2
  | _ => (s.sacnCheck x).2.sacnMerge x

/-- What a free engine makes of a rope control message. -/
def ropeCtrlItem (x : Bytes) (s : State) : State :=
  if ropeCtrlOk ((bodyOf (x.drop 16)).drop 22) then s else s.incReg Reg.tagErrors

theorem State.sacnParse_free (h : (s.engine e).run = none) : s.sacnParse e = s.packetStep e 17 4 sacnItem := by
  unfold State.sacnParse
  rw [h]
  rfl

theorem State.ropeCtrl_free (h : (s.engine e).run = none) : s.ropeCtrl e = s.packetStep e 20 5 ropeCtrlItem := by
  unfold State.ropeCtrl
  rw [h]
  rfl

/-- The command of a packet engine whose queue is empty leaves the state as it is. -/
theorem done_packetStep_empty (h : s.packetFree e) (hpop : s.pop k = none) : s.done (s.packetStep e ty k f) = .next s := by
  rw [State.packetStep_empty h hpop]
  rfl

theorem exec_packet_empty (h : s.packetFree e) (hjobs : s.ctl.jobs = []) (b : Bool) : ∀ p ∈ [(2, Instr.videoIngest e), (3, .audioIngest e),
    (4, .sacnParse e), (6, .pixelRx e), (1, .ctrlParse e b), (5, .ropeCtrl e), (7, .host e)], s.pop p.1 = none → exec p.2 s = .next s := by
  have resumed : s.resumeJobs = s := State.resumeJobs_nil hjobs
  intro p hp hpop
  simp only [List.mem_cons, List.not_mem_nil, or_false] at hp
  obtain rfl | rfl | rfl | rfl | rfl | rfl | rfl := hp
  · exact done_packetStep_empty h hpop
  · exact done_packetStep_empty h hpop
  · show s.done (s.sacnParse e).resumeJobs = _
    rw [State.sacnParse_free h.1, State.packetStep_empty h hpop, resumed]
    rfl
  · exact done_packetStep_empty h hpop
  · show s.done (s.packetStep e 19 1 _).resumeJobs = _
    rw [State.packetStep_empty h hpop, resumed]
    rfl
  · show s.done (s.ropeCtrl e).resumeJobs = _
    rw [State.ropeCtrl_free h.1, State.packetStep_empty h hpop, resumed]
    rfl
  · exact done_packetStep_empty h hpop

/-! ### VIDEO_INGEST (R101, R103) -/

theorem State.takeStamp_comp (s : State) (p kind msg seq : Nat) : (s.takeStamp p kind msg seq).2.comp = s.comp := by
  unfold State.takeStamp
  extract_lets port hit
  split <;> rfl

theorem State.ramWrite_comp (s : State) (dram : Bool) (a : Nat) (b : Bytes) : (s.ramWrite dram a b).comp = s.comp := by
  cases dram <;> rfl

theorem State.storeLines_comp (entry : Bytes) (base : Nat) (heads : List (Nat × Nat × Nat)) (d : Bytes) (s : State) :
    (s.storeLines entry base heads d).comp = s.comp := by
  induction heads generalizing s d with
  | nil => rfl
  | cons h heads ih =>
    unfold State.storeLines
    exact (ih _ _).trans (State.ramWrite_comp _ _ _ _)

theorem State.stream_congr {t : State} (h : t.comp = s.comp) (i : Nat) : t.stream i = s.stream i := by
  unfold State.stream
  rw [h]

theorem State.stream_setStream (h : i < s.comp.streams.length) (z : StreamSt) : (s.setStream i z).stream i = z := by
  simp [State.stream, State.setStream, h]

/-- A packet of the frame that is being received, no marker on it: the frame goes on, good only while nothing is wrong or missing. -/
theorem ingestVideo_goesOn {entry : Bytes} {r : RxVideo} (hstream : videoStream s.streams (field x 0 1) (itemIp x) = some i)
    (hentry : s.videoEntry i = some entry) (hrx : (s.stream i).rx = some r)
    (htype : field (udpPayload (itemIp x)) 1 1 % 128 = field entry 26 1) (hts : r.ts = field (udpPayload (itemIp x)) 4 4)
    (hmarker : bit (field (udpPayload (itemIp x)) 1 1) 7 = false) : ∃ (v : State) (bad : Bool) (stamp : Option Nat), v.comp = s.comp ∧
      s.ingestVideo x = v.setStream i { v.stream i with rx := some { r with
        next := (field (rtpPayload (udpPayload (itemIp x))) 0 2 * 65536 + field (udpPayload (itemIp x)) 2 2 + 1) % two32
        bad := r.bad || bad || field (rtpPayload (udpPayload (itemIp x))) 0 2 * 65536 + field (udpPayload (itemIp x)) 2 2 != r.next
        stamp := stamp } } := by
  have known : (((s.stream i).rx.map RxVideo.ts) == some (field (udpPayload (itemIp x)) 4 4)) = true := by simp [hrx, hts]
  have own : (field (udpPayload (itemIp x)) 1 1 % 128 != field entry 26 1) = false := by simp [htype]
  have comp := State.takeStamp_comp s (field x 0 1) 3 i (field (udpPayload (itemIp x)) 2 2)
  have stamped := (congrArg StreamSt.rx (State.stream_congr comp i)).trans hrx
  unfold State.ingestVideo
  dsimp only
  rw [hstream]
  dsimp only
  rw [hentry]
  simp only [known, own, hmarker, Bool.true_or, if_true, stamped]
  refine ⟨_, _, _, ?_, rfl⟩
  split
  · exact comp
  · exact (State.storeLines_comp _ _ _ _ _).trans comp

/-! ### AUDIO_INGEST (R131) -/

theorem ingestAudio_holds {a : Bytes} {got : List (List Int)} {n : Nat} (hstream : audioStream s.streams (field x 0 1) (itemIp x) = some i)
    (hentry : s.audioEntry i = some a) (htype : field (udpPayload (itemIp x)) 1 1 % 128 = field a 3 1)
    (hgot : got = audioSamples (max 1 (field a 1 1)) ((rtpPayload (udpPayload (itemIp x))).length / (3 * max 1 (field a 1 1)))
      (rtpPayload (udpPayload (itemIp x)))) (hn : n < got.length) :
    (i, unwrap32 (field (udpPayload (itemIp x)) 4 4) (s.now * 3 / 62500) + n, got.getD n []) ∈ (s.ingestAudio x).comp.audio.samples := by
  unfold State.ingestAudio
  dsimp only
  rw [hstream]
  dsimp only
  rw [hentry]
  dsimp only
  rw [if_neg (by simpa using htype), ← hgot]
  have numbered : (n, got.getD n []) ∈ (List.range got.length).zip got := by
    refine List.mem_iff_getElem.mpr ⟨n, by simpa using hn, ?_⟩
    simp [hn]
  exact List.mem_append_right _ (List.mem_map.mpr ⟨_, numbered, rfl⟩)

/-! ### SACN_PARSE (R186, R212) -/

theorem sacnItem_off (h : s.sacnRuns = false) : sacnItem x s = s := by
  have check : s.sacnCheck x = (.none, s) := by unfold State.sacnCheck; simp [h]
  unfold sacnItem
  rw [check]

theorem sacnItem_foreign (h : s.sacnRuns = true) (hhead : field (udpPayload (itemIp x)) 0 16 ≠ acnHead) :
    sacnItem x s = s.incReg Reg.malformed := by
  have check : s.sacnCheck x = (.none, s.sacnBad x 3) := by unfold State.sacnCheck; simp [h, hhead]
  unfold sacnItem
  rw [check]
  rfl

/-! ### PIXEL_RX (R209) -/

theorem pxItem_undeclared (ha : s.topo.active.isSome = true) (hw : s.pxWindow (field ((bodyOf (x.drop 16)).drop 22) 2 1) = none) :
    s.pxItem x = s.incReg Reg.pxMalformed := by
  unfold State.pxItem
  simp [hw, Option.isNone_eq_false_iff.mpr ha]

theorem pxItem_late {w : Bytes} (ha : s.topo.active.isSome = true)
    (hw : s.pxWindow (field ((bodyOf (x.drop 16)).drop 22) 2 1) = some w)
    (hfits : pxFits w ((bodyOf (x.drop 16)).drop 22) (x.drop 16).length (tagOf (x.drop 16)).src (tagOf (x.drop 16)).nopos = true)
    (hpast : field ((bodyOf (x.drop 16)).drop 22) 4 8 ≤ s.tickIdx) (htimed : field ((bodyOf (x.drop 16)).drop 22) 4 8 ≠ two64 - 1) :
    s.pxItem x = s.incReg Reg.pxLate := by
  unfold State.pxItem
  simp only [hw, Option.isNone_eq_false_iff.mpr ha, hfits, Bool.not_true, Bool.false_eq_true, if_false]
  rw [if_neg htimed, if_pos hpast]

/-! ### HOST (R293) -/

/-- The type and the payload of a frame for HOST from a rope port. -/
theorem hostItem_rope (hp : field x 0 1 ≠ 2) : s.hostItem x =
    if field (bodyOf (x.drop 16)) 20 2 = 0x0806 then s.arpIn ((bodyOf (x.drop 16)).drop 22)
    else if field (bodyOf (x.drop 16)) 20 2 = 0x0800 then s.icmpIn (field (bodyOf (x.drop 16)) 6 6) ((bodyOf (x.drop 16)).drop 22)
    else s := by
  unfold State.hostItem
  simp only [hp, if_false]

theorem hostItem_echo {ip m : Bytes} (hp : field x 0 1 ≠ 2) (hty : field (bodyOf (x.drop 16)) 20 2 = 0x0800)
    (hip : ip = (bodyOf (x.drop 16)).drop 22) (hm : m = (ip.take (field ip 2 2)).drop (ihl ip)) (hproto : ipProto ip = 1)
    (hecho : field m 0 1 = 8) (hlen : m.length ≤ 1480) (hto : field ip 16 4 = s.ipAddr) : s.hostItem x =
      s.sendHost (field (bodyOf (x.drop 16)) 6 6) 0x0800
        (ipPacket 1 0 64 s.ipAddr (field ip 12 4) [] (withSum (beBytes 2 0 ++ m.drop 2))) := by
  rw [hostItem_rope hp, hty, if_neg (by decide), if_pos rfl, ← hip]
  unfold State.icmpIn
  rw [← hm]
  exact if_pos ⟨hproto, hecho, hlen, hto⟩

/-! ### The commands -/

/-- A command that hands the item to the engine ends in what the engine makes of it. -/
theorem done_packetStep {t : State} (h : s.packetFree e) (hpop : s.pop k = some (x, u)) (hf : f x u = t) :
    s.done (s.packetStep e ty k f) = .next { t with pending := s.pending } := by
  rw [State.packetStep_item h hpop, hf]
  rfl

/-- So does one after which requests go on, where none waits. -/
theorem exec_sacnParse {t : State} (h : s.packetFree e) (hpop : s.pop 4 = some (x, u)) (hf : sacnItem x u = t) (hjobs : t.ctl.jobs = []) :
    exec (.sacnParse e) s = .next { t with pending := s.pending } := by
  show s.done (s.sacnParse e).resumeJobs = _
  rw [State.sacnParse_free h.1, State.packetStep_item h hpop, hf, State.resumeJobs_nil hjobs]
  rfl

theorem exec_ropeCtrl (h : s.packetFree e) (hpop : s.pop 5 = some (x, u)) (hjobs : u.ctl.jobs = []) :
    exec (.ropeCtrl e) s = .next { ropeCtrlItem x u with pending := s.pending } := by
  have jobs : (ropeCtrlItem x u).ctl.jobs = [] := by unfold ropeCtrlItem; split <;> exact hjobs
  show s.done (s.ropeCtrl e).resumeJobs = _
  rw [State.ropeCtrl_free h.1, State.packetStep_item h hpop, State.resumeJobs_nil jobs]
  rfl

/-- A count of the item is all that changed. -/
theorem incReg_kept (ok : s.storesOk) (k : Nat) : RegsKept [k] s (s.incReg k) :=
  (RegsKept.refl [k] s).setReg ok (by simp) _

theorem ropeCtrlItem_reads (ok : s.storesOk) : (ropeCtrlItem x s).reg Reg.tagErrors = (if ropeCtrlOk ((bodyOf (x.drop 16)).drop 22) then
      s.reg Reg.tagErrors else min (s.reg Reg.tagErrors + 1) (two32 - 1)) ∧ RegsKept [Reg.tagErrors] s (ropeCtrlItem x s) ∧
    ropeCtrlItem x s = { s with regs := (ropeCtrlItem x s).regs } := by
  unfold ropeCtrlItem
  split
  · exact ⟨rfl, .refl _ _, rfl⟩
  · exact ⟨reg_incReg ok _, incReg_kept ok _, rfl⟩

end

/-- Settles O59: a free engine handles the item its pop answers (`State.packetStep_item`); what each makes of it is
`ingestVideo_goesOn`, `ingestAudio_holds`, `sacnItem_off`, `sacnItem_foreign`, `pxItem_undeclared`, `pxItem_late`, `ropeCtrlItem_reads` and
`hostItem_echo`. -/
theorem packetItems : Obligations.PacketItems := by
  refine ⟨?_, ?_, ?_, ?_, ?_, ?_, ?_, ?_, ?_, ?_, ?_, ?_⟩
  case refine_1 => exact fun e b s h hjobs => exec_packet_empty h hjobs b
  case refine_2 =>
    intro e i x v r s u h hpop hstream hentry hrx htype hts hmarker hi
    obtain ⟨w, bad, stamp, comp, goes⟩ := ingestVideo_goesOn hstream hentry hrx htype hts hmarker
    refine ⟨_, _, done_packetStep h hpop goes, congrArg StreamSt.rx (State.stream_setStream (by rw [comp]; exact hi) _), rfl, rfl, rfl, ?_⟩
    simp only [Bool.or_eq_false_iff, bne_eq_false_iff_eq]
    exact fun ⟨⟨hbad, _⟩, hnext⟩ => ⟨hbad, hnext.symm⟩
  case refine_3 =>
    intro e x s u h hpop hstream
    refine done_packetStep h hpop ?_
    unfold State.ingestVideo
    dsimp only
    rw [hstream]
  case refine_4 =>
    intro e i k x a s u h hpop hstream hentry htype got hgot hk
    have held := ingestAudio_holds hstream hentry htype hgot hk
    exact ⟨_, done_packetStep (f := State.ingestAudio) h hpop rfl, held⟩
  case refine_5 => exact fun e x s u h _ hjobs hpop hoff => exec_sacnParse h hpop (sacnItem_off hoff) hjobs
  case refine_6 =>
    intro e x s u ok h hjobs hpop hon hhead
    exact ⟨_, exec_sacnParse h hpop (sacnItem_foreign hon hhead) hjobs, reg_incReg ok _⟩
  case refine_7 =>
    intro e x s u ok h hpop ha hw
    exact ⟨_, done_packetStep h hpop (pxItem_undeclared ha hw), reg_incReg ok _, incReg_kept ok _, rfl⟩
  case refine_8 =>
    intro e x w s u ok h hpop ha hw hfits hpast htimed
    exact ⟨_, done_packetStep h hpop (pxItem_late ha hw hfits hpast htimed), reg_incReg ok _, incReg_kept ok _, rfl⟩
  case refine_9 =>
    intro e b x s u h hpop
    refine ⟨_, rfl, ?_⟩
    rw [State.packetStep_item h hpop]
    rfl
  case refine_10 =>
    intro e x s u ok h hjobs hpop
    obtain ⟨counted, kept, frame⟩ := ropeCtrlItem_reads (x := x) ok
    have ends := exec_ropeCtrl h hpop hjobs
    generalize ropeCtrlItem x u = t at counted kept frame ends
    exact ⟨_, ends, by rw [frame], counted, kept⟩
  case refine_11 =>
    intro e x s u h hpop hp harp hip
    exact done_packetStep h hpop (by rw [hostItem_rope hp, if_neg harp, if_neg hip])
  case refine_12 =>
    intro e x ip m s u h hpop hp hty hip hm hproto hecho hlen hto
    exact done_packetStep h hpop (hostItem_echo hp hty hip hm hproto hecho hlen hto)

end Sys2Proof.Machine

/-! PROOFS. Two running tasks in states that their statements allow: a fault that takes the unit to DARK (R399, R422), and a traced end
while POOL_MIN stands read (R12, R379, R400). -/

namespace Sys2Proof.Machine

/-! ### A task on engine 0 -/

/-- A descriptor of TYPE `ty` for engine 0: no queues, no carabiner, SRC and DST at Hearth address 0, LENGTH 1. -/
def loneRow (ty flags : Nat) (param : Bytes) : Bytes :=
  beBytes 1 ty ++ beBytes 1 flags ++ beBytes 2 1 ++ beBytes 2 0xFFFF ++ beBytes 2 0xFFFF ++ beBytes 1 0xFF ++ beBytes 7 0 ++
    beBytes 16 0 ++ beBytes 4 1 ++ slice param 0 28

/-- The task of such a descriptor. -/
def loneTask (ty flags : Nat) (param : Bytes) : Task :=
  { id := 1, desc := 0, entry := none, list := 0, order := 0, due := none, row := loneRow ty flags param }

/-! ### TASK_FAULT with DARK as its policy -/

/-- A COPY of 1 byte onto itself. -/
def copyTask : Task := loneTask 1 0 []

/-- A unit in STAGING with DARK as the policy of TASK_FAULT; engine 0 runs the copy, of a poisoned line. Among the requests for SHOW that
the entry to DARK refuses stands a command whose subindex is TASK_FAULTS, 0x8900.0B. -/
def poisonedCopy : State :=
  { State.reset.setReg (Reg.policy 0x0F) 2 with
    mode := { mode := .staging, showReqs := [{ org := .localPort, ix := 0x8900, sub := 0x0B, val := [] }] }
    sched := { engines := [{ run := some copyTask }] }, mem := { poison := [(false, 0)] } }

theorem storesOk_poisonedCopy : poisonedCopy.storesOk := by unfold State.storesOk; decide +kernel

theorem runsTask_poisonedCopy : poisonedCopy.runsTask 0 1 copyTask :=
  ⟨by decide, rfl, rfl, by decide, rfl, rfl, rfl, by decide +kernel⟩

/-- The refusal writes 3, the state of a refused command, over TASK_FAULTS. -/
theorem taskFaults_poisonedCopy : (poisonedCopy.runTask 0 1 (workCopy 0)).reg Reg.taskFaults = 3 := by decide +kernel

/-- Refutes O56: its third clause fails in `poisonedCopy`. The faulted copy is counted (R399) and TASK_FAULT captured in STAGING; its
reaction enters DARK, and the entry refuses every command in `showReqs`, writing 3 to the key of each (R487). The statement does not ask
that these be REQ_SHOW commands, and it allows the policy DARK; where one has the key of TASK_FAULTS, the count is lost. No command of the
model puts anything but REQ_SHOW there. -/
theorem not_taskSteps : ¬ Obligations.TaskSteps := by
  unfold Obligations.TaskSteps
  rintro ⟨-, -, poisoned, -⟩
  obtain ⟨t, ht, ⟨-, counted, -⟩, -⟩ :=
    poisoned 0 0 1 copyTask poisonedCopy storesOk_poisonedCopy runsTask_poisonedCopy (by decide) (by decide) (by decide +kernel)
  have outcome : t = { poisonedCopy.runTask 0 1 (workCopy 0) with pending := poisonedCopy.pending } := (Host.Outcome.next.inj ht).symm
  have lost : t.reg Reg.taskFaults = 3 := (reg_congr (by rw [outcome]) _).trans taskFaults_poisonedCopy
  have before : poisonedCopy.reg Reg.taskFaults = 0 := by decide +kernel
  rw [lost, before] at counted
  cases counted

/-! ### A traced end after a read of POOL_MIN -/

/-- An UNPACK with TRACE of one block row, with a stride of 8. -/
def unpackTask : Task := loneTask 4 1 (beBytes 4 8 ++ beBytes 2 0 ++ beBytes 2 1)

/-- A unit in SHOW that traces, and whose POOL_MIN was read and has taken no value since; engine 0 runs the task. -/
def poolMinRead : State :=
  { State.reset.setReg Reg.traceEn 1 with
    mode := { mode := .onShow }, report := { cleared := [Reg.poolMin] }, sched := { engines := [{ run := some unpackTask }] } }

theorem runsTask_poolMinRead : poolMinRead.runsTask 0 4 unpackTask :=
  ⟨by decide, rfl, rfl, by decide, rfl, rfl, rfl, by decide +kernel⟩

/-- The trace record takes a cell, so POOL_MIN follows POOL_FREE and no longer stands read. -/
theorem cleared_poolMinRead : (poolMinRead.runTask 0 4 (workUnpack 0)).report.cleared = [] := by decide +kernel

/-- Refutes O58: its first clause fails in `poolMinRead`. The task ends and, traced, makes a record (R400); POOL_MIN then takes its first
value after the read that cleared it (R12, R379), which the report unit notes. The clause's frame for UNPACK leaves that unit out, where
those of LUT_LOAD and of `State.taskMoved` have it. -/
theorem not_taskProducts : ¬ Obligations.TaskProducts := by
  unfold Obligations.TaskProducts
  rintro ⟨unpack, -⟩
  obtain ⟨t, ht, -, -, frame⟩ := unpack 0 unpackTask poolMinRead runsTask_poolMinRead (by decide) (by decide) (by decide) (by decide +kernel)
  have outcome : t = { poolMinRead.runTask 0 4 (workUnpack 0) with pending := poolMinRead.pending } := (Host.Outcome.next.inj ht).symm
  have followed : t.report.cleared = [] := by rw [outcome]; exact cleared_poolMinRead
  have stands : t.report.cleared = [Reg.poolMin] := by rw [frame]; rfl
  rw [followed] at stands
  cases stands

end Sys2Proof.Machine

/-! PROOFS. The start of blanking in a composed raster: the last gathers write COMPOSE (R150, R175, R176). -/

namespace Sys2Proof.Machine

/-! ### A map without raster entries -/

/-- Reads of memory depend on the memories alone. -/
theorem State.ramRead_congr {s t : State} (h : t.mem = s.mem) (dram : Bool) (a n : Nat) : t.ramRead dram a n = s.ramRead dram a n := by
  simp only [State.ramRead, h]

/-- A CLASSES section whose class 0 has one channel, with 16 output bits and 0x1234 as its FIXED value (Tables 6.1 and 6.2). -/
def fixedClass : Bytes := [1] ++ List.replicate 15 0 ++ [0x02, 0x00, 0x12, 0x34] ++ List.replicate 140 0

/-- A MAP section of one entry (R172): MODE OFF, class 0, channel 0. -/
def offMap : Bytes := beBytes 4 1 ++ List.replicate 28 0

/-- A topo with that class and that map, every Hearth region 1 MB. -/
def offTopo : Topo :=
  { slot := 1, id := 1, build := 1, num := 60, den := 1, lat := 2, switchW := 1, regions := List.replicate 9 1
    endpoints := 1, channels := 1, sections := [(0x40, fixedClass), (0x42, offMap)] }

/-- The vertical timing of Table 5.1's defaults. -/
def defaultLines : List (Nat × Nat) := [(0x05, 1080), (0x06, 4), (0x07, 5), (0x08, 36)]

/-- A unit in SHOW, every domain ON, whose composed raster has come to the line of SOB. The endpoint buffers stand from Hearth address 0,
and the map region behind them holds the entry, whose 16 bytes are zeros. -/
def lastGather : State :=
  { (List.range 9).foldl (fun s i => s.setReg (Reg.regionMb i) 1) State.reset with
    mode := { mode := .onShow, boot := .running }, power := { dom := List.replicate 10 2 }, topo := { active := some offTopo }
    comp := { raster := { on := true, composes := true, cur := defaultLines, line := sobLine defaultLines } } }

theorem storesOk_lastGather : lastGather.storesOk := by unfold State.storesOk; decide +kernel

/-- COMPOSE holds 0 in its first channel before SOB, and the FIXED value after it. -/
theorem compose_lastGather : lastGather.ramRead false (lastGather.bufAt lastGather.buf.compose) 2 = [0x00, 0x00] ∧
    (lastGather.sob false).ramRead false (lastGather.bufAt lastGather.buf.compose) 2 = [0x12, 0x34] := by decide +kernel

/-- Refutes O40: its fourth clause has SOB leave the memories as they are in every raster, and it fails in `lastGather`, where the raster
composes. A map with no raster entry starts its OFF entries at SOB (R175), and each channel the map unit writes goes into COMPOSE (R176),
an endpoint buffer in the Hearth. -/
theorem not_rasterAdvances : ¬ Obligations.RasterAdvances := by
  unfold Obligations.RasterAdvances
  rintro ⟨-, -, -, sob, -⟩
  obtain ⟨t, ht, -, -, -, -, -, -, kept⟩ := sob false lastGather storesOk_lastGather rfl rfl rfl
  have outcome : t = { lastGather.sob false with pending := lastGather.pending } := (Host.Outcome.next.inj ht).symm
  have written : t.ramRead false (lastGather.bufAt lastGather.buf.compose) 2 = [0x12, 0x34] :=
    (State.ramRead_congr (by rw [outcome]) _ _ _).trans compose_lastGather.2
  rw [State.ramRead_congr kept, compose_lastGather.1] at written
  exact absurd written (by decide)

end Sys2Proof.Machine

/-! PROOFS. The windows that read records (R203, R285, R303, R426, R486). -/

namespace Sys2Proof.Machine

section
variable {s t u : State}

/-! ### The pool's look keeps the reports (R379) -/

/-- The records of the clamp and reject reports. -/
def State.records (s : State) : List ClampRec × List RejectRec := (s.report.clamps, s.report.rejects)

theorem State.minPool_records (s : State) : s.minPool.records = s.records := by
  unfold State.minPool State.minReg State.extreme
  split_ifs <;> rfl

theorem State.poolEvent_records (s : State) : s.poolEvent.records = s.records := by
  refine (State.minPool_records _).trans ?_
  rw [State.noteEv_eq]
  rfl

theorem State.poolCheck_records (s : State) : s.poolCheck.records = s.records := by
  unfold State.poolCheck
  dsimp only
  split_ifs
  · exact s.minPool_records
  · exact s.minPool.poolEvent_records.trans s.minPool_records
  · exact s.minPool_records
  · exact s.minPool_records

/-- With POOL_LOW_CELLS 0 no EV34 comes of a look at the pool. -/
theorem State.poolCheck_of_low_zero (h : s.reg Reg.poolLowCells = 0) : s.poolCheck = s.minPool := if_pos h

/-! ### The oldest record of a queue -/

@[simp] theorem oldest_fst {α : Type} (f : α → Bytes) (l : List α) : (oldest f l).1 = (l.head?.map f).getD [] := by cases l <;> rfl

@[simp] theorem oldest_snd {α : Type} (f : α → Bytes) (l : List α) : (oldest f l).2 = l.tail := by cases l <;> rfl

/-- `s` with the blocks that hold queues of records taken from `t`. -/
def State.withRecords (s t : State) : State :=
  { s with ev := t.ev, sched := t.sched, belay := t.belay, q := t.q, report := t.report, egress := t.egress, tio := t.tio, ports := t.ports }

theorem State.takeDevice_eq (s : State) (n : Nat) : (s.takeDevice n).2 = s.withRecords (s.takeDevice n).2 := by
  unfold State.takeDevice
  repeat' split
  all_goals rfl

/-- The sessions have no part in what is taken. -/
theorem State.touch_takeDevice (s : State) (o : Origin) (n : Nat) :
    (s.touch o).takeDevice n = ((s.takeDevice n).1, { (s.takeDevice n).2 with ctl := (s.touch o).ctl }) := by
  rw [State.touch_eq]
  unfold State.takeDevice
  repeat' split
  all_goals rfl

theorem State.takeRecord_clampRead (s : State) : s.takeRecord Reg.clampRead =
    ((s.report.clamps.head?.map ClampRec.bytes).getD [], { s with report := { s.report with clamps := s.report.clamps.tail } }) := by
  show s.takeDevice 25 = _
  simp [State.takeDevice]

theorem State.takeRecord_rejectRead (s : State) : s.takeRecord Reg.rejectRead =
    ((s.report.rejects.head?.map RejectRec.bytes).getD [], { s with report := { s.report with rejects := s.report.rejects.tail } }) := by
  show s.takeDevice 26 = _
  simp [State.takeDevice]

theorem State.takeRecord_evqRead (s : State) : s.takeRecord Reg.evqRead =
    ((s.ev.queue.head?.map EvRec.bytes).getD [], { s with ev := { s.ev with queue := s.ev.queue.tail } }) := by
  show s.takeDevice 22 = _
  simp [State.takeDevice]

theorem State.takeRecord_traceRead (s : State) : s.takeRecord Reg.traceRead =
    ((s.sched.trace.head?.map TraceRec.bytes).getD [], { s with sched := { s.sched with trace := s.sched.trace.tail } }) := by
  show s.takeDevice 23 = _
  simp [State.takeDevice]

/-- A record of the fault report gives its cell of the belay reserve back. -/
theorem State.takeRecord_faultRead (s : State) : ∃ q, s.takeRecord Reg.faultRead =
    ((s.belay.queue.head?.map FaultRec.bytes).getD [],
      { s with belay := { s.belay with queue := s.belay.queue.tail }, q := q }) := by
  refine ⟨(s.takeDevice 24).2.q, ?_⟩
  show s.takeDevice 24 = _
  simp [State.takeDevice]

theorem State.takeRecord_rdmResp (s : State) : s.takeRecord Reg.rdmResp =
    ((s.egress.resp.head?.map RdmResp.bytes).getD [], { s with egress := { s.egress with resp := s.egress.resp.tail } }) := by
  show s.takeDevice 27 = _
  simp [State.takeDevice]

theorem recordQueue_diagRead {p : Nat} (hp : p < 3) : recordQueue (Reg.diagDiagRead p) = 19 + p := by interval_cases p <;> rfl

theorem State.takeRecord_diagRead (s : State) {p : Nat} (hp : p < 3) : s.takeRecord (Reg.diagDiagRead p) =
    (((s.port p).diag.head?.map DiagRec.bytes).getD [], s.setPort p { s.port p with diag := (s.port p).diag.tail }) := by
  unfold State.takeRecord
  rw [recordQueue_diagRead hp]
  interval_cases p <;> simp [State.takeDevice]

theorem recordQueue_capture {j : Nat} (hj : j < 4) : recordQueue (Reg.eciCapture j) = 52 + j := by interval_cases j <;> rfl

theorem State.takeRecord_capture (s : State) {j : Nat} (hj : j < 4) : s.takeRecord (Reg.eciCapture j) =
    (((s.eci j).queue.head?.map CapRec.bytes).getD [], s.setEci j { s.eci j with queue := (s.eci j).queue.tail }) := by
  unfold State.takeRecord
  rw [recordQueue_capture hj]
  interval_cases j <;> simp [State.takeDevice]

/-- Capture input `j` after its oldest record is gone; an input the part does not have holds none. -/
theorem State.eci_dropOldest (s : State) (j : Nat) :
    ((s.setEci j { s.eci j with queue := (s.eci j).queue.tail }).eci j).queue = (s.eci j).queue.tail := by
  unfold State.setEci State.eci
  by_cases hj : j < s.tio.ecis.length
  · simp [hj]
  · simp [hj]

/-! ### The read of a window -/

/-- Is subindex `k` a window of records, a byte string in power domain `d`? -/
def isRecordRow (k d : Nat) : Bool :=
  recordKey k && odDomain (k / 256) == d && (odFind (k / 256) (k % 256)).any fun x => x.ty.code == 0x0D

/-- `x` is the row of such a window. -/
structure RecordRow (k d : Nat) (x : Obj) : Prop where
  row : odFind (k / 256) (k % 256) = some x
  window : recordKey k = true
  dom : odDomain (k / 256) = d
  code : x.ty.code = 0x0D

theorem recordRow_of_isRecordRow {k d : Nat} (h : isRecordRow k d = true) : ∃ x, RecordRow k d x := by
  unfold isRecordRow at h
  simp only [Bool.and_eq_true, beq_iff_eq, Option.any_eq_true] at h
  obtain ⟨⟨window, dom⟩, x, row, code⟩ := h
  exact ⟨x, row, window, dom, code⟩

section
variable {k d : Nat} {o : Origin} {v : Bytes}

/-- A window's row is no DOMAIN, whose code is 0x0E. -/
theorem RecordRow.ty_ne {x : Obj} (hx : RecordRow k d x) : x.ty ≠ .domain := fun h => by
  have code := hx.code
  rw [h] at code
  cases code

theorem State.fetchValue_record {ix sub : Nat} (x : Obj) (hk : recordKey (Reg.key ix sub) = true) : s.fetchValue o x ix sub =
    (.done 0 x.ty.code (s.takeRecord (Reg.key ix sub)).1, (s.takeRecord (Reg.key ix sub)).2.poolCheck) := by
  unfold State.fetchValue
  simp only [hk, if_true]

/-- R486: a read takes the oldest record, then looks at the pool. -/
theorem RecordRow.rowRead {x : Obj} (hx : RecordRow k d x) (hu : s.canUse o .observer d) : s.rowRead o k =
    (((s.touch o).takeRecord k).2.poolCheck).send (.result o 0 (k / 256) (k % 256) 0x0D ((s.touch o).takeRecord k).1) := by
  obtain ⟨alive, ⟨r, hr, -⟩, hd⟩ := hu
  have served := State.opRead_of_row (s := s.touch o) (o := o) (r := r) (.inl (by have := odFind_ix_lt hx.row; omega)) hx.row
    (by rw [hx.dom, State.touch_domOn, hd]) hx.ty_ne
  have key : Reg.key (k / 256) (k % 256) = k := Nat.div_add_mod' k 256
  unfold State.rowRead
  rw [State.serve_of_role alive hr, served, State.fetchValue_record x (by rw [key]; exact hx.window), key, hx.code]
  rfl

/-- What the look at the pool after a record has left may change: POOL_MIN and EV34, and with POOL_LOW_CELLS 0 only POOL_MIN. -/
theorem exec_recordRead (row : isRecordRow k d = true) (ok : s.storesOk) (hu : s.canUse o .observer d) (taken : s.takeRecord k = (v, u)) :
    ∃ t, s.done (s.rowRead o k) = .next t ∧ RegsKept (evKeys 34) s t ∧ t.records = u.records ∧
      (s.reg Reg.poolLowCells = 0 → RegsKept [Reg.poolMin] s t ∧ t.ev = u.ev ∧ t.q = u.q) ∧
      t = State.answered { u with regs := t.regs, ev := t.ev, q := t.q, report := t.report } o k 0 0x0D v := by
  obtain ⟨x, hx⟩ := recordRow_of_isRecordRow row
  have frame : u = s.withRecords u := by
    have h := s.takeDevice_eq (recordQueue k)
    rwa [show s.takeDevice (recordQueue k) = (v, u) from taken] at h
  have touched : (s.touch o).takeRecord k = (v, { u with ctl := (s.touch o).ctl }) := by
    have h := s.touch_takeDevice o (recordQueue k)
    rwa [show s.takeDevice (recordQueue k) = (v, u) from taken] at h
  have read := hx.rowRead hu
  rw [touched] at read
  generalize hw : ({ u with ctl := (s.touch o).ctl } : State) = w at read
  have regs : w.regs = s.regs := by rw [← hw, frame]; rfl
  have stores : w.storesOk := by rw [← hw, frame]; exact ok
  refine ⟨_, (congrArg s.done read).trans (State.done_of_pending ?_), (RegsKept.of_regs regs).trans (poolCheck_kept stores), ?_,
    fun low => ?_, ?_⟩
  · rw [State.send_pending, State.poolCheck_eq, ← hw, frame]
    rfl
  · exact w.poolCheck_records.trans (by rw [← hw]; rfl)
  · have still := State.poolCheck_of_low_zero ((reg_congr regs _).trans low)
    rw [still]
    refine ⟨(RegsKept.of_regs regs).trans (minReg_kept stores _ _), ?_, ?_⟩
    · unfold State.minPool; rw [State.minReg_eq, ← hw]; rfl
    · unfold State.minPool; rw [State.minReg_eq, ← hw]; rfl
  · rw [State.poolCheck_eq, ← hw, frame]
    cases o <;> rfl

end

end

/-! ### The statement -/

/-- Settles O27: every window takes the oldest record of its queue (`exec_recordRead`). -/
theorem recordReads : Obligations.RecordReads := by
  refine ⟨fun o s ok hu => ?_, fun o s ok hu => ?_, fun o s ok hu low => ?_, fun o s ok hu => ?_, fun o s ok hu => ?_,
    fun o s ok hu => ?_, fun o p s ok hu hp => ?_, fun o j s ok hu hj => ?_⟩
  · obtain ⟨t, ht, kept, records, -, frame⟩ := exec_recordRead (by decide +kernel) ok hu s.takeRecord_clampRead
    obtain ⟨clamps, rejects⟩ := Prod.mk.inj records
    exact ⟨t, ht, clamps, rejects, kept, frame⟩
  · obtain ⟨t, ht, kept, records, -, frame⟩ := exec_recordRead (by decide +kernel) ok hu s.takeRecord_rejectRead
    obtain ⟨clamps, rejects⟩ := Prod.mk.inj records
    exact ⟨t, ht, rejects, clamps, kept, frame⟩
  · obtain ⟨t, ht, -, -, quiet, frame⟩ := exec_recordRead (by decide +kernel) ok hu s.takeRecord_evqRead
    obtain ⟨kept, ev, q⟩ := quiet low
    rw [ev, q] at frame
    exact ⟨t, ht, kept, frame⟩
  · obtain ⟨q, taken⟩ := s.takeRecord_faultRead
    obtain ⟨t, ht, kept, -, -, frame⟩ := exec_recordRead (by decide +kernel) ok hu taken
    exact ⟨t, ht, kept, frame⟩
  · obtain ⟨t, ht, kept, -, -, frame⟩ := exec_recordRead (by decide +kernel) ok hu s.takeRecord_traceRead
    exact ⟨t, ht, kept, frame⟩
  · obtain ⟨t, ht, kept, -, -, frame⟩ := exec_recordRead (by decide +kernel) ok hu s.takeRecord_rdmResp
    exact ⟨t, ht, kept, frame⟩
  · have row : isRecordRow (Reg.diagDiagRead p) 2 = true := by interval_cases p <;> decide +kernel
    obtain ⟨t, ht, kept, -, -, frame⟩ := exec_recordRead row ok hu (s.takeRecord_diagRead hp)
    exact ⟨t, (congrArg s.done (if_pos hp)).trans ht, kept, frame⟩
  · have row : isRecordRow (Reg.eciCapture j) 0 = true := by interval_cases j <;> decide +kernel
    obtain ⟨t, ht, kept, -, -, frame⟩ := exec_recordRead row ok hu (s.takeRecord_capture hj)
    have tio : t.tio = (s.setEci j { s.eci j with queue := (s.eci j).queue.tail }).tio := by rw [frame]; rfl
    refine ⟨t, (congrArg s.done (if_pos hj)).trans ht, kept, ?_, by rw [tio]; exact frame⟩
    rw [State.eci, tio]
    exact s.eci_dropOldest j

end Sys2Proof.Machine

/-! PROOFS. Strand frames, and the ends of RDM requests (R193 to R197, R201, R203). -/

namespace Sys2Proof.Machine

section
variable {s : State} {p n : Nat}

/-! ### Strand frames (R193 to R197) -/

/-- The clock as port `p` begins to send: a fixed period's frame ends at the boundary, and in variable blanking it begins at once (R195). -/
def State.strandClock (s : State) (e : Bytes) : ClockSt :=
  if s.ras.blank = 0 then clockAdvance (cclkFor s.clock (s.tick.nextTime - strandFrameNs e - s.clock.ns)) s.clock else s.clock

/-- What leaves with a frame, last first: in variable blanking its latch follows at once. -/
def State.strandOutputs (s : State) (p : Nat) (e : Bytes) (bits : List Bool) : List Output :=
  (if s.ras.blank ≠ 0 ∧ field e 1 1 = 1 then [.latch p (field e 30 2)] else []) ++
    [.strand p (s.strandClock e).ns bits (strandWave e bits)]

theorem State.strandStart_of_none (h : s.strandFrame p = none) : s.strandStart p = s := by
  unfold State.strandStart
  rw [h]

theorem State.strandStart_of_sent (h : 32 ≤ p ∨ (assocGet s.egress.strands p).isSome = true) : s.strandStart p = s := by
  unfold State.strandStart
  split
  · rfl
  · exact if_pos h

theorem State.strandStart_of_frame {e : Bytes} {bits : List Bool} (hp : p < 32) (hsent : assocGet s.egress.strands p = none)
    (hframe : s.strandFrame p = some (e, bits)) : s.strandStart p =
      { s with egress := { s.egress with strands := (p, e) :: s.egress.strands }, regs := (s.incReg (Reg.strandFrames p)).regs
               sent := s.strandOutputs p e bits ++ s.sent, clock := s.strandClock e } := by
  have free : ¬(32 ≤ p ∨ (assocGet s.egress.strands p).isSome = true) := by simp [hsent, hp]
  have clocked : (if s.ras.blank = 0 then s.reach (s.tick.nextTime - strandFrameNs e) else s) = { s with clock := s.strandClock e } := by
    unfold State.strandClock
    split <;> rfl
  unfold State.strandStart State.strandOutputs
  rw [hframe]
  dsimp only
  rw [if_neg free, clocked]
  show (if s.ras.blank ≠ 0 ∧ field e 1 1 = 1 then _ else _) = _
  by_cases latches : s.ras.blank ≠ 0 ∧ field e 1 1 = 1
  · rw [if_pos latches, if_pos latches]
    rfl
  · rw [if_neg latches, if_neg latches]
    rfl

/-- What port `p` sends when no switch holds the outputs: nothing when it is off or holds, its channels when it runs, else zeros. -/
theorem State.strandFrame_of_live (h : s.heldOut true = none) :
    (s.strandStateOf p = 0 ∨ s.strandStateOf p = 2 → s.strandFrame p = none) ∧
    (s.strandStateOf p = 1 → s.strandFrame p = some (s.strandEntry p, strandBits (s.strandEntry p) fun c => s.chan s.sendBuf c)) ∧
    (s.strandStateOf p = 3 → s.strandFrame p = some (s.strandEntry p, strandBits (s.strandEntry p) fun _ => 0)) := by
  unfold State.strandFrame
  rw [h]
  refine ⟨fun off => if_pos off, fun running => ?_, fun zeros => ?_⟩
  · simp [running]
  · simp [zeros]

/-! ### The response queue (R203) -/

/-- A record that finds room joins the queue, and none is lost. -/
theorem pushSized_of_room {α : Type} {cap free : Nat} {size : α → Nat} {q : List α} {x : α} (fuel : Nat) (hcap : q.length < cap)
    (hfree : size x ≤ free) : pushSized fuel cap free size q x = (q ++ [x], 0) := by
  unfold pushSized
  split
  · exact if_neg (by omega)
  · exact if_neg (by omega)

theorem cellsOf_mono {a b : Nat} (h : a ≤ b) : cellsOf a ≤ cellsOf b := by
  unfold cellsOf ceilDiv
  omega

/-- The outputs with one more response waiting to be read. -/
def EgressSt.queued (g : EgressSt) (x : RdmResp) : EgressSt :=
  { g with resp := g.resp ++ [x], respLost := min g.respLost (two32 - 1) }

/-- The state that waits for RDM_RESP with response `x`, its pool looked at. -/
def State.respQueued (s : State) (x : RdmResp) : State :=
  (({ s with egress := s.egress.queued x } : State).seeDepth 27 (s.egress.resp ++ [x]).length).poolCheck

theorem State.respQueued_eq (s : State) (x : RdmResp) : s.respQueued x =
    { s with egress := s.egress.queued x, regs := (s.respQueued x).regs, ev := (s.respQueued x).ev, q := (s.respQueued x).q
             report := (s.respQueued x).report } := by
  unfold State.respQueued
  rw [State.poolCheck_eq]
  rfl

theorem keeps_respQueued (ok : s.storesOk) (x : RdmResp) : Keeps (evKeys 34) s (s.respQueued x) :=
  ⟨storesOk_poolCheck (s := (({ s with egress := s.egress.queued x } : State).seeDepth 27 _)) ok,
    poolCheck_kept (s := (({ s with egress := s.egress.queued x } : State).seeDepth 27 _)) ok⟩

theorem State.rdmPush_of_room {x : RdmResp} (hlen : s.egress.resp.length < 256) (hroom : cellsOf (16 + x.data.length) ≤ s.poolFree) :
    s.rdmPush x = if s.egress.resp.isEmpty then (s.respQueued x).raise 63 (beBytes 1 x.port ++ beBytes 1 0) else s.respQueued x := by
  unfold State.rdmPush
  dsimp only
  rw [pushSized_of_room _ hlen hroom]
  rfl

/-- A response with room joins the queue; the first that waits raises EV63. -/
theorem State.rdmPush_eq {x : RdmResp} (hlen : s.egress.resp.length < 256) (hroom : cellsOf (16 + x.data.length) ≤ s.poolFree) :
    s.rdmPush x = { s with egress := s.egress.queued x, regs := (s.rdmPush x).regs, ev := (s.rdmPush x).ev, q := (s.rdmPush x).q
                           report := (s.rdmPush x).report } := by
  rw [State.rdmPush_of_room hlen hroom]
  split
  · rw [State.raise_eq, State.respQueued_eq]
  · exact s.respQueued_eq x

theorem counted_rdmPush {x : RdmResp} (ok : s.storesOk) (ha : s.alive = true) (hnil : s.egress.resp = [])
    (hroom : cellsOf (16 + x.data.length) ≤ s.poolFree) : Counted 63 s (s.rdmPush x) := by
  have kept := keeps_respQueued ok x
  have alive : (s.respQueued x).alive = true := by rw [State.respQueued_eq]; exact ha
  rw [State.rdmPush_of_room (by simp [hnil]) hroom, hnil]
  exact (counted_raise kept.stores alive (by decide) _).of_reg (kept.reg (by decide))

/-! ### The end of a request (R201, R203) -/

/-- Only a port that the part has is busy. -/
theorem State.rdm_lt_of_busy {r : RdmReq} (h : (s.rdm n).busy = some r) : n < s.egress.rdm.length := by
  by_contra hn
  rw [State.rdm, List.getD_eq_default _ _ (Nat.le_of_not_lt hn)] at h
  cases h

theorem State.rdm_setRdm (hn : n < s.egress.rdm.length) (x : RdmSt) : (s.setRdm n x).rdm n = x := by
  simp [State.rdm, State.setRdm, hn]

/-- A request of a session's that ends after `c` cycles since power-on with response `x`. -/
def State.rdmEnded (s : State) (n c : Nat) (x : RdmResp) : State :=
  ((s.reachCclk c).setRdm n { s.rdm n with busy := none }).rdmPush x

/-- The response waits for RDM_RESP, with EV63 if it is the first, and the port is free. -/
theorem rdmEnded_outcome {r : RdmReq} {c : Nat} {x : RdmResp} (ok : s.storesOk) (hbusy : (s.rdm n).busy = some r)
    (hlen : s.egress.resp.length < 256) (hroom : cellsOf (16 + x.data.length) ≤ s.poolFree) :
    (s.rdmEnded n c x).egress.resp = s.egress.resp ++ [x] ∧ (s.rdmEnded n c x).rdm n = { s.rdm n with busy := none } ∧
    (s.alive = true → s.egress.resp = [] → Counted 63 s (s.rdmEnded n c x)) ∧
    s.rdmEnded n c x = { s with
      egress := (s.rdmEnded n c x).egress, clock := clockAdvance (c - s.clock.cclk) s.clock, regs := (s.rdmEnded n c x).regs
      ev := (s.rdmEnded n c x).ev, q := (s.rdmEnded n c x).q, report := (s.rdmEnded n c x).report } := by
  have frame := State.rdmPush_eq (s := (s.reachCclk c).setRdm n { s.rdm n with busy := none }) hlen hroom
  have counted := counted_rdmPush (s := (s.reachCclk c).setRdm n { s.rdm n with busy := none }) (x := x) ok
  have rdm := State.rdm_setRdm (State.rdm_lt_of_busy hbusy) { s.rdm n with busy := none }
  unfold State.rdmEnded
  generalize State.rdmPush _ x = t at frame counted ⊢
  refine ⟨by rw [frame]; rfl, by rw [frame]; exact rdm, fun ha hnil => counted ha hnil hroom, by rw [frame]; rfl⟩

/-- What a response says (Table 6.11): its packet's fields, or status 5 when it does not hold. -/
def rdmAnswer (n : Nat) (r : RdmReq) (b : Bytes) : RdmResp :=
  if rdmGood b then
    { port := n, uid := field b 9 6, status := field b 16 1, cc := field b 20 1, pid := field b 21 2
      data := (b.drop 24).take (field b 23 1) }
  else { port := n, uid := r.uid, status := 5, cc := r.cc, pid := r.pid, data := [] }

theorem rdmAnswer_data_le (n : Nat) (r : RdmReq) (b : Bytes) : (rdmAnswer n r b).data.length ≤ b.length := by
  unfold rdmAnswer
  split
  · simp only [List.length_take, List.length_drop]; omega
  · exact Nat.zero_le _

section
variable {r : RdmReq}

theorem State.rdmResponse_of_idle (h : (s.rdm n).busy = none) (b : Bytes) : s.rdmResponse n b = s := by
  unfold State.rdmResponse
  dsimp only
  rw [h]

theorem State.rdmTimeout_of_idle (h : (s.rdm n).busy = none) : s.rdmTimeout n = s := by
  unfold State.rdmTimeout
  dsimp only
  rw [h]

theorem State.rdmResponse_of_asked (h : (s.rdm n).busy = some r) (hown : (s.rdm n).own = false) (b : Bytes) :
    s.rdmResponse n b = s.rdmEnded n (s.rdm n).sentAt (rdmAnswer n r b) := by
  have asked : ¬(s.rdm n).own = true := by simp [hown]
  unfold State.rdmResponse rdmAnswer
  dsimp only
  rw [h]
  dsimp only
  rw [if_neg asked]
  split <;> rfl

theorem State.rdmTimeout_of_asked (h : (s.rdm n).busy = some r) (hown : (s.rdm n).own = false) :
    s.rdmTimeout n = s.rdmEnded n ((s.rdm n).sentAt + 2800000)
      { port := n, uid := r.uid, status := 4, cc := r.cc, pid := r.pid, data := [] } := by
  have asked : ¬(s.rdm n).own = true := by simp [hown]
  unfold State.rdmTimeout
  dsimp only
  rw [h]
  dsimp only
  rw [if_neg asked]
  rfl

/-! ### Discovery goes on (R201) -/

theorem RdmSt.split_busy (x : RdmSt) : x.split.busy = x.busy := by
  unfold RdmSt.split
  split
  · rfl
  · dsimp only; split <;> rfl

theorem RdmSt.dropSingle_busy (x : RdmSt) : x.dropSingle.busy = x.busy := by
  unfold RdmSt.dropSingle
  split
  · split
    · rfl
    · exact x.split_busy
  · rfl

theorem RdmSt.discStep_busy (x : RdmSt) (r : RdmReq) (resp : Option Bytes) : (x.discStep r resp).busy = x.busy := by
  unfold RdmSt.discStep
  split
  · rfl
  · split
    · rfl
    · exact RdmSt.dropSingle_busy _
  · exact RdmSt.dropSingle_busy _
  · split
    · rfl
    · exact x.split_busy
  · rfl

/-- Between `s` and `t` port `n` began or ended no request, and no response came. -/
structure RdmQuiet (n : Nat) (s t : State) : Prop where
  busy : (t.rdm n).busy = (s.rdm n).busy
  resp : t.egress.resp = s.egress.resp

theorem RdmQuiet.setRdm {x : RdmSt} (h : x.busy = (s.rdm n).busy) : RdmQuiet n s (s.setRdm n x) := by
  refine ⟨?_, rfl⟩
  by_cases hn : n < s.egress.rdm.length
  · rw [State.rdm_setRdm hn, h]
  · simp [State.rdm, State.setRdm, hn]

theorem RdmQuiet.raise {t : State} (h : RdmQuiet n s t) (ev : Nat) (b : Bytes) : RdmQuiet n s (t.raise ev b) := by
  rw [State.raise_eq]
  exact ⟨h.busy, h.resp⟩

theorem RdmQuiet.discEnd (s : State) (n : Nat) : RdmQuiet n s (s.discEnd n) := by
  unfold State.discEnd
  dsimp only
  split_ifs
  · exact ⟨rfl, rfl⟩
  · refine RdmQuiet.raise (RdmQuiet.setRdm ?_) _ _
    rfl
  · refine RdmQuiet.raise (RdmQuiet.setRdm ?_) _ _
    rfl
  · exact ⟨rfl, rfl⟩

/-- The device's own request of discovery has ended after `c` cycles with response `b`, or none. -/
def State.discEnded (s : State) (n c : Nat) (r : RdmReq) (b : Option Bytes) : State :=
  ((s.reachCclk c).setRdm n (({ s.rdm n with busy := none } : RdmSt).discStep r b)).discEnd n

theorem discEnded_outcome (hbusy : (s.rdm n).busy = some r) (c : Nat) (b : Option Bytes) :
    ((s.discEnded n c r b).rdm n).busy = none ∧ (s.discEnded n c r b).egress.resp = s.egress.resp := by
  obtain ⟨busy, resp⟩ := RdmQuiet.discEnd ((s.reachCclk c).setRdm n (({ s.rdm n with busy := none } : RdmSt).discStep r b)) n
  refine ⟨busy.trans ?_, resp⟩
  rw [State.rdm_setRdm (s := s.reachCclk c) (State.rdm_lt_of_busy hbusy), RdmSt.discStep_busy]

theorem State.rdmResponse_of_own (h : (s.rdm n).busy = some r) (hown : (s.rdm n).own = true) (b : Bytes) :
    s.rdmResponse n b = s.discEnded n (s.rdm n).sentAt r (some b) := by
  unfold State.rdmResponse
  dsimp only
  rw [h]
  exact if_pos hown

theorem State.rdmTimeout_of_own (h : (s.rdm n).busy = some r) (hown : (s.rdm n).own = true) :
    s.rdmTimeout n = s.discEnded n ((s.rdm n).sentAt + 2800000) r none := by
  unfold State.rdmTimeout
  dsimp only
  rw [h]
  exact if_pos hown

end

end

/-! ### The statement -/

/-- Settles O43: a frame leaves once a tick (`State.strandStart_of_frame`), a session's request ends with a response in the queue
(`rdmEnded_outcome`), the device's own with the next step of discovery (`discEnded_outcome`). -/
theorem strandsAndRdm : Obligations.StrandsAndRdm := by
  refine ⟨⟨fun p s h => ?_, fun p s live => State.strandFrame_of_live live, fun p e bits s ok hp hsent hframe => ?_⟩,
    fun n b s idle => ⟨?_, ?_⟩, fun n r b s ok hbusy hown hlen hroom => ?_, fun n r s ok hbusy hown hlen hroom => ?_,
    fun n r b s hbusy hown => ⟨?_, ?_⟩⟩
  · have still : s.strandStart p = s := by
      rcases h with h | h | h
      · exact State.strandStart_of_sent (.inl h)
      · exact State.strandStart_of_sent (.inr h)
      · exact State.strandStart_of_none h
    exact congrArg s.done still
  · have frame := State.strandStart_of_frame hp hsent hframe
    refine ⟨_, congrArg s.done frame, reg_incReg ok _, (RegsKept.refl _ s).setReg ok (by simp) _, ?_, rfl⟩
    exact List.append_assoc _ _ _
  · exact congrArg s.done (State.rdmResponse_of_idle idle b)
  · exact congrArg s.done (State.rdmTimeout_of_idle idle)
  · have room := (cellsOf_mono (Nat.add_le_add_left (rdmAnswer_data_le n r b) 16)).trans hroom
    obtain ⟨resp, rdm, counted, frame⟩ := rdmEnded_outcome (c := (s.rdm n).sentAt) ok hbusy hlen room
    rw [← State.rdmResponse_of_asked hbusy hown b] at resp rdm counted frame
    exact ⟨s.rdmResponse n b, State.done_of_pending (by rw [frame]), resp, rdm, counted, frame⟩
  · obtain ⟨resp, rdm, counted, frame⟩ := rdmEnded_outcome (c := (s.rdm n).sentAt + 2800000)
      (x := { port := n, uid := r.uid, status := 4, cc := r.cc, pid := r.pid, data := [] }) ok hbusy hlen
      (le_of_eq_of_le (show cellsOf 16 = 1 by decide) hroom)
    rw [← State.rdmTimeout_of_asked hbusy hown] at resp rdm counted frame
    have clock := congrArg State.clock frame
    exact ⟨s.rdmTimeout n, State.done_of_pending (by rw [frame]), resp, rdm, clock, counted, by rw [clock]; exact frame⟩
  · exact ⟨_, congrArg s.done (State.rdmResponse_of_own hbusy hown b), discEnded_outcome hbusy _ _⟩
  · exact ⟨_, congrArg s.done (State.rdmTimeout_of_own hbusy hown), discEnded_outcome hbusy _ _⟩

end Sys2Proof.Machine

/-! PROOFS. sACN packets, discovery, and sources that fall silent (R187, R189, R191, R204 to R206). -/

namespace Sys2Proof.Machine

/-! ### What leaves a port (R294, R298, R301, R314) -/

/-- The counters of frames sent, discarded and shed. -/
def txKeys : List Nat :=
  Reg.breakShed :: (List.range 3).flatMap fun p => [Reg.cntTxFrames p, Reg.cntTxOctets p, Reg.cntTxDiscards p]

/-- `s` with all that sending may change taken from `t`. -/
def State.withSent (s t : State) : State := { s with ports := t.ports, regs := t.regs, sent := t.sent, rope := t.rope }

/-- From `s` to `t` frames left or were held back, and nothing else happened. -/
structure FramesSent (s t : State) : Prop where
  frame : t = s.withSent t
  keeps : s.storesOk → Keeps txKeys s t

section
variable {s t u : State} {p : Nat}

theorem mem_txKeys (hp : p < 3) : Reg.cntTxFrames p ∈ txKeys ∧ Reg.cntTxOctets p ∈ txKeys ∧ Reg.cntTxDiscards p ∈ txKeys := by
  interval_cases p <;> decide

theorem FramesSent.refl (s : State) : FramesSent s s := ⟨rfl, Keeps.refl⟩

theorem FramesSent.trans (h : FramesSent s t) (g : FramesSent t u) : FramesSent s u :=
  ⟨g.frame.trans (congrArg (·.withSent u) h.frame), fun ok => (h.keeps ok).trans (g.keeps (h.keeps ok).stores)⟩

theorem FramesSent.foldl {α : Type} {f : State → α → State} (l : List α) (hf : ∀ t, ∀ x ∈ l, FramesSent t (f t x)) (s : State) :
    FramesSent s (l.foldl f s) := by
  induction l generalizing s with
  | nil => exact .refl s
  | cons x l ih => exact (hf s x (by simp)).trans (ih (fun t y hy => hf t y (by simp [hy])) _)

theorem FramesSent.setReg {k : Nat} (hk : k ∈ txKeys) (v : Nat) : FramesSent s (s.setReg k v) :=
  ⟨rfl, fun ok => (Keeps.refl ok).setReg hk v⟩

theorem FramesSent.setPort (x : PortSt) : FramesSent s (s.setPort p x) := ⟨rfl, fun ok => ⟨ok, RegsKept.of_regs rfl⟩⟩

theorem FramesSent.send (o : Output) : FramesSent s (s.send o) := ⟨rfl, fun ok => ⟨ok, RegsKept.of_regs rfl⟩⟩

/-- An sACN packet that leaves now is counted; only PTP messages are stamped. -/
theorem FramesSent.txNow (hp : p < 3) (len q : Nat) (b : Bytes) : FramesSent s (s.txNow p len (.sacn q b)) := by
  obtain ⟨frames, octets, -⟩ := mem_txKeys hp
  exact ((FramesSent.setReg frames _).trans (.setReg octets _)).trans (.send _)

theorem FramesSent.tx (hp : p < 3) (len q : Nat) (b : Bytes) : FramesSent s (s.tx p len (.sacn q b)) := by
  obtain ⟨-, -, discards⟩ := mem_txKeys hp
  unfold State.tx State.txAny
  split_ifs
  · exact .refl s
  · exact .setReg discards _
  · exact .setPort _
  · exact .txNow hp len q b

/-- A source sends by the two rope ports. -/
theorem State.lt_of_mem_ropePorts {cls : Nat} {both : Bool} (h : p ∈ s.ropePorts cls both) : p < 3 := by
  unfold State.ropePorts at h
  dsimp only at h
  split_ifs at h <;> simp at h <;> omega

theorem FramesSent.sendRopeWith (dstk cls dst inner len : Nat) (both : Bool) (f : Nat → Bytes) :
    FramesSent s (s.sendRopeWith dstk cls dst inner len both fun p _ => .sacn p (f p)) := by
  have all (l : List Nat) (hl : ∀ p ∈ l, p < 3) (s : State) : FramesSent s (l.foldl (fun t p => t.tx p len (.sacn p (f p))) s) :=
    FramesSent.foldl l (fun t p hp => .tx (hl p hp) len p (f p)) s
  have ports := fun p => s.lt_of_mem_ropePorts (p := p) (cls := cls) (both := both)
  unfold State.sendRopeWith
  dsimp only
  split
  · exact .refl s
  · split
    · exact .setReg (by decide) _
    · have sent := all _ ports s
      split
      · exact sent.trans ⟨rfl, fun ok => ⟨ok, RegsKept.of_regs rfl⟩⟩
      · exact sent

/-- R204: an sACN packet leaves by TRAIL or by the rope. -/
theorem FramesSent.sacnSend (sec : Bytes) (dest : Nat) (b : Bytes) : FramesSent s (s.sacnSend sec dest b) := by
  unfold State.sacnSend
  split
  · exact .tx (by decide) _ _ _
  · exact .sendRopeWith _ _ _ _ _ _ _

/-! ### Data packets (R205) -/

theorem State.sacnPacket_of_idle (h : s.egress.sacnOn = false ∨ s.egressRuns = false ∨ field s.egress.outSec 64 2 ≤ s.egress.sacnNext) :
    s.sacnPacket = s := by
  unfold State.sacnPacket
  exact if_pos (by simpa [or_assoc] using h)

/-- A packet is due: the output runs, and the entries are not all sent. -/
structure PacketDue (s : State) : Prop where
  on : s.egress.sacnOn = true
  runs : s.egressRuns = true
  left : s.egress.sacnNext < field s.egress.outSec 64 2

theorem PacketDue.not_idle (h : PacketDue s) :
    ¬(!s.egress.sacnOn || !s.egressRuns || decide (field s.egress.outSec 64 2 ≤ s.egress.sacnNext)) = true := by
  simp [h.on, h.runs, h.left]

theorem PacketDue.skipped (h : PacketDue s)
    (late : s.tick.nextTime < (s.reachCclk s.egress.sacnFrom).now + field s.egress.outSec 72 4) : s.sacnPacket =
      ({ s.reachCclk s.egress.sacnFrom with egress := { s.egress with sacnNext := s.egress.sacnNext + 1 } } : State).incReg Reg.skipped := by
  unfold State.sacnPacket
  dsimp only
  rw [if_neg h.not_idle]
  exact if_pos late

/-- `s` after the packet of universe `uni`, `t` having sent it: the next one waits `w` cycles. -/
def State.packetGone (s t : State) (uni w : Nat) : State :=
  { t.incReg Reg.packetsSent with
    egress := { s.egress with
      sacnNext := s.egress.sacnNext + 1
      sacnSeq := assocSet s.egress.sacnSeq uni (((assocGet s.egress.sacnSeq uni).getD 0 + 1) % 256)
      sacnFrom := t.clock.cclk + w } }

/-- Before the guard instant the packet leaves, and the next waits for the spacing at least. -/
theorem PacketDue.sent (h : PacketDue s)
    (early : (s.reachCclk s.egress.sacnFrom).now + field s.egress.outSec 72 4 ≤ s.tick.nextTime) : ∃ t w,
      FramesSent (s.reachCclk s.egress.sacnFrom) t ∧ field s.egress.outSec 76 4 ≤ w ∧
      s.sacnPacket = s.packetGone t (field (slice s.egress.outSec (96 + 16 * s.egress.sacnNext) 16) 0 2) w := by
  unfold State.sacnPacket
  dsimp only
  rw [if_neg h.not_idle]
  exact ⟨_, _, .sacnSend _ _ _, le_max_left _ _, if_neg (Nat.not_lt.mpr early)⟩

/-! ### Discovery (R204, R206) -/

theorem State.sacnDiscovery_of_off (h : s.egressRuns = false ∨ s.egress.sacnOn = false ∨ bit (field s.sacnOut 69 1) 1 = false) :
    s.sacnDiscovery = s := by
  unfold State.sacnDiscovery
  exact if_pos (by simpa [or_assoc] using h)

/-- The next discovery is due 10 s on, and the pages leave. -/
theorem State.sacnDiscovery_sent (runs : s.egressRuns = true) (on : s.egress.sacnOn = true) (asked : bit (field s.sacnOut 69 1) 1 = true) :
    FramesSent { s.reachCclk s.egress.discAt with
      egress := { s.egress with discAt := (s.reachCclk s.egress.discAt).clock.cclk + ms 10000 } } s.sacnDiscovery := by
  unfold State.sacnDiscovery
  dsimp only
  rw [if_neg (by simp [runs, on, asked])]
  exact .foldl _ (fun t k _ => .sacnSend _ _ _) _

/-! ### Sources and synchronization addresses that fell silent (R187, R189, R191) -/

theorem State.uni_setUni (s : State) (i : Nat) (x : UniSt) : (s.setUni i x).uni i = x := by
  unfold State.uni State.setUni
  rw [assocGet_assocSet]
  rfl

theorem State.sacnTimeout_of_unknown {cid : Nat} (h : ∀ p ∈ s.sacn.unis, ∀ y ∈ p.2.srcs, y.cid ≠ cid) : s.sacnTimeout cid = s := by
  have hits : (s.sacn.unis.flatMap fun p => (p.2.srcs.filter fun y => y.cid == cid).map fun y => (p.1, y.last)) = [] := by
    simpa [List.flatMap_eq_nil_iff, List.filter_eq_nil_iff] using h
  unfold State.sacnTimeout
  dsimp only
  rw [hits]

/-- A universe whose only source goes is lost: EV30, and LOSS ZERO waits for the boundary. -/
theorem State.dropSource_of_only {i : Nat} {u : UniSt} {y : SacnSrc} (hu : s.uni i = u) (hy : u.srcs = [y]) :
    s.dropSource i y.cid = ((s.setUni i { u with srcs := [] }).setUni i
      { u with srcs := [], zero := field (s.uniEntry i) 3 1 == 1 }).raise 30 (beBytes 1 1 ++ beBytes 2 (field (s.uniEntry i) 0 2)) := by
  unfold State.dropSource State.uniLost
  simp only [hu, hy, State.uni_setUni, List.any_cons, beq_self_eq_true, Bool.true_or, if_true, List.filter_cons, bne_self_eq_false,
    Bool.false_eq_true, if_false, List.filter_nil, List.isEmpty_nil]
  rfl

theorem State.sacnTimeout_of_only {i : Nat} {u : UniSt} {y : SacnSrc} (hunis : s.sacn.unis = [(i, u)]) (hy : u.srcs = [y]) :
    s.sacnTimeout y.cid = (s.reachCclk (y.last + ms 2500)).dropSource i y.cid := by
  have hits : (s.sacn.unis.flatMap fun p => (p.2.srcs.filter fun z => z.cid == y.cid).map fun z => (p.1, z.last)) = [(i, y.last)] := by
    simp [hunis, hy]
  unfold State.sacnTimeout
  dsimp only
  rw [hits]
  rfl

theorem State.sacnSyncTimeout_of_unknown {a : Nat} (h : ∀ y ∈ s.sacn.syncs, y.2.1 ≠ a) : s.sacnSyncTimeout a = s := by
  have none : (s.sacn.syncs.find? fun y => y.2.1 == a) = none := List.find?_eq_none.mpr (by simpa using h)
  unfold State.sacnSyncTimeout
  rw [none]

theorem State.sacnSyncTimeout_of_known {a : Nat} {y : Nat × Nat × Nat} (h : (s.sacn.syncs.find? fun z => z.2.1 == a) = some y) :
    s.sacnSyncTimeout a = { s.reachCclk (y.2.2 + ms 2500) with
      sacn := { s.sacn with syncs := s.sacn.syncs.filter fun z => z != y, free := (y.1, a) :: s.sacn.free } } := by
  unfold State.sacnSyncTimeout
  rw [h]
  rfl

end

/-! ### The statement -/

/-- Settles O44: a due packet is skipped or sent (`PacketDue.skipped`, `PacketDue.sent`), discovery leaves (`State.sacnDiscovery_sent`),
and what fell silent goes (`State.dropSource_of_only`, `State.sacnSyncTimeout_of_known`). -/
theorem sacnStreams : Obligations.SacnStreams := by
  refine ⟨fun s idle => congrArg s.done (State.sacnPacket_of_idle idle), fun s ok on runs left late => ?_,
    fun uni s ok on runs left huni early => ?_, fun s off => congrArg s.done (State.sacnDiscovery_of_off off),
    fun s runs on asked => ?_, fun cid s unknown => congrArg s.done (State.sacnTimeout_of_unknown unknown),
    fun cid i u y s ok hunis hsrcs hcid => ?_, fun a s unknown => congrArg s.done (State.sacnSyncTimeout_of_unknown unknown),
    fun a y s known => congrArg s.done (State.sacnSyncTimeout_of_known known)⟩
  · refine ⟨_, congrArg s.done (PacketDue.skipped ⟨on, runs, left⟩ late), ?_, ?_, rfl⟩
    · exact reg_setReg (s := { s.reachCclk s.egress.sacnFrom with egress := _ }) ok _ _
    · exact (RegsKept.refl _ s).setReg ok (by simp) _
  · obtain ⟨t, w, sent, spacing, gone⟩ := PacketDue.sent ⟨on, runs, left⟩ early
    obtain ⟨frame, keeps⟩ := sent
    rw [← huni] at gone
    have clock : t.clock = clockAdvance (s.egress.sacnFrom - s.clock.cclk) s.clock := by rw [frame]; rfl
    have counted : (s.packetGone t uni w).reg Reg.packetsSent = min (s.reg Reg.packetsSent + 1) (two32 - 1) := by
      have before : t.reg Reg.packetsSent = s.reg Reg.packetsSent := (keeps ok).reg (by decide)
      have regs : (s.packetGone t uni w).regs = (t.incReg Reg.packetsSent).regs := rfl
      rw [reg_congr regs, reg_incReg (keeps ok).stores, before]
    refine ⟨s.packetGone t uni w, (congrArg s.done gone).trans (State.done_of_pending ?_), counted, clock, rfl, ?_, ?_, ?_⟩
    · show t.pending = s.pending
      rw [frame]
      rfl
    · unfold State.packetGone
      rw [assocGet_assocSet]
      rfl
    · exact Nat.add_le_add_left spacing _
    · unfold State.packetGone
      rw [frame]
      rfl
  · have frame := (State.sacnDiscovery_sent runs on asked).frame
    have clock : s.sacnDiscovery.clock = clockAdvance (s.egress.discAt - s.clock.cclk) s.clock := by rw [frame]; rfl
    have egress : s.sacnDiscovery.egress = { s.egress with discAt := s.sacnDiscovery.clock.cclk + ms 10000 } := by
      rw [clock, frame]
      rfl
    refine ⟨s.sacnDiscovery, State.done_of_pending (by rw [frame]; rfl), clock, egress, ?_⟩
    rw [egress, clock]
    exact frame
  · subst hcid
    have uni : (s.reachCclk (y.last + ms 2500)).uni i = u := by simp [State.uni, hunis, assocGet]
    have lost := (State.sacnTimeout_of_only hunis hsrcs).trans (State.dropSource_of_only uni hsrcs)
    refine ⟨s.sacnTimeout y.cid, State.done_of_pending ?_, ?_, ?_, fun alive => ?_⟩
    · rw [lost, State.raise_pending]
      rfl
    · rw [lost, State.raise_clock]
      rfl
    · rw [lost, State.uni, State.raise_sacn]
      exact State.uni_setUni _ i _
    · rw [lost]
      refine (counted_raise ?_ ?_ (by decide) _).2
      · exact ok
      · exact alive

end Sys2Proof.Machine

/-! PROOFS. Temporal dither over 16 frames, and the steps of the segments (R225, R226). -/

namespace Sys2Proof.Machine

/-! ### Temporal dither (R225) -/

section
variable {c d : Nat}

/-- Any `n` consecutive numbers take every residue modulo `n` once. -/
theorem perm_map_add_mod (c n : Nat) : ((List.range n).map fun i => (c + i) % n).Perm (List.range n) := by
  have rotated : ((List.range n).map fun i => (c + i) % n) = (List.range n).rotate c :=
    List.ext_getElem (by simp) fun i _ _ => by simp [List.getElem_rotate, Nat.add_comm]
  rw [rotated]
  exact List.rotate_perm _ _

theorem perm_map_bitrev4 : ((List.range 16).map bitrev4).Perm (List.range 16) := by decide

/-- The reversed bits of 16 consecutive numbers are the numbers below 16 in some order, of which `d` lie below `d`. -/
theorem sum_bitrev4_lt (hd : d ≤ 16) : ((List.range 16).map fun n => if bitrev4 ((c + n) % 16) < d then 1 else 0).sum = d := by
  have perm : ((List.range 16).map fun n => bitrev4 ((c + n) % 16)).Perm (List.range 16) := by
    have := ((perm_map_add_mod c 16).map bitrev4).trans perm_map_bitrev4
    rwa [List.map_map] at this
  have below : ((List.range 16).map fun n => if n < d then 1 else 0).sum = d := by interval_cases d <;> rfl
  have := (perm.map fun n => if n < d then 1 else 0).sum_eq
  rw [below, List.map_map] at this
  exact this

/-- An on-time is the whole units of a value and, in a frame whose reversed bits lie below the fraction, one unit more. -/
theorem onTime_eq (u tick sink row v : Nat) : onTime u tick sink row v =
    v * u / 65535 + if bitrev4 ((tick + sink + 5 * row) % 16) < v * u % 65535 * 16 / 65535 then 1 else 0 := by
  unfold onTime
  dsimp only
  split <;> rfl

theorem sum_onTime (u tick sink row v : Nat) : ((List.range 16).map fun n => onTime u (tick + n) sink row v).sum =
    16 * (v * u / 65535) + v * u % 65535 * 16 / 65535 := by
  have fraction : v * u % 65535 * 16 / 65535 ≤ 16 := by omega
  have frames : ∀ n, tick + n + sink + 5 * row = tick + sink + 5 * row + n := fun n => by omega
  simp only [onTime_eq, frames, List.sum_map_add, sum_bitrev4_lt fraction, List.map_const', List.sum_replicate, List.length_range,
    smul_eq_mul]

/-- Without a fraction no frame has an extra unit. -/
theorem onTime_of_whole {u v : Nat} (h : v * u % 65535 = 0) (tick sink row : Nat) : onTime u tick sink row v = v * u / 65535 := by
  rw [onTime_eq, h]; rfl

end

/-! ### The steps of the segments (R225, R226) -/

/-- The full-current steps of the first `k` segments telescope. -/
theorem sum_steps (n k m : Nat) : ((List.range m).map fun j => n * (j + 1) / k - n * j / k).sum = n * m / k := by
  have mono : Monotone fun j => n * j / k := fun i j h => Nat.div_le_div_right (Nat.mul_le_mul_left n h)
  exact (Finset.sum_range_tsub mono m).trans (by simp)

/-- Of `k` segments one takes the low-current remainder. -/
theorem sum_remainder {k : Nat} (hk : 0 < k) (tick r : Nat) (low : Bool) :
    ((List.range k).map fun j => if low && j == tick % k then r else 0).sum = if low then r else 0 := by
  cases low
  · simp
  · simp only [Bool.true_and, beq_iff_eq, if_true]
    exact (Finset.sum_ite_eq' (Finset.range k) (tick % k) fun _ => r).trans (if_pos (Finset.mem_range.mpr (Nat.mod_lt tick hk)))

/-- Settles O11: over 16 frames the extra units are `sum_onTime`, at full scale and at zero there is no fraction, and the steps of the
segments telescope (`sum_steps`), with the low-current remainder in one of them (`sum_remainder`). -/
theorem ditherOverFrames : Obligations.DitherOverFrames := by
  refine ⟨fun u tick sink row v _ => sum_onTime u tick sink row v, fun u tick sink row => ⟨?_, ?_⟩, fun k tick q low hk => ⟨?_, ?_⟩⟩
  · rw [onTime_of_whole (Nat.mul_mod_right _ _), Nat.mul_div_cancel_left u (by decide)]
  · rw [onTime_of_whole (by rw [Nat.zero_mul]), Nat.zero_mul]
  · exact (sum_steps _ k k).trans (Nat.mul_div_cancel _ hk)
  · exact sum_remainder hk tick (q % 16) low

end Sys2Proof.Machine

/-! PROOFS. What an entry to DARK within the command overwrites: SINK_DISS_MW at the end of a frame (R235), and the tripped state of the
rail (R233). -/

namespace Sys2Proof.Machine

/-! ### The end of a frame with the dissipation above its limit -/

/-- A unit in SHOW, every domain ON and every policy at its default, whose emission frame under way dissipates far above DISS_LIMIT_MW. Among
the requests for SHOW that the entry to DARK refuses stands a command whose subindex is SINK_DISS_MW, 0x7000.17. -/
def hotFrame : State :=
  { State.reset.setReg Reg.driveMode 1 with
    mode := { mode := .onShow, showReqs := [{ org := .localPort, ix := 0x7000, sub := 0x17, val := [] }] }
    power := { dom := List.replicate 10 2 }, fbx := { on := true, diss := 10 ^ 20 } }

theorem storesOk_hotFrame : hotFrame.storesOk := by unfold State.storesOk; decide +kernel

/-- The refusal writes 3, the state of a refused command, over SINK_DISS_MW. -/
theorem sinkDissMw_hotFrame : hotFrame.frameEnd.reg Reg.sinkDissMw = 3 := by decide +kernel

/-- Refutes O41: its clause about EMISSION_FRAME_END fails in `hotFrame`. The mean exceeds its limit, so SINK_DISSIPATION is captured (R235);
its reaction, DARK by default, enters DARK, and the entry refuses every command in `showReqs`, writing 3 to the key of each (R487). The
statement does not ask that these be REQ_SHOW commands; where one has the key of SINK_DISS_MW, the figure is lost. No command of the model
puts anything but REQ_SHOW there. -/
theorem not_emissionFrames : ¬ Obligations.EmissionFrames := by
  unfold Obligations.EmissionFrames
  rintro ⟨-, -, -, -, -, -, -, -, -, -, -, -, -, frameEnd, -⟩
  obtain ⟨t, ht, -, -, -, -, mean⟩ := frameEnd hotFrame storesOk_hotFrame rfl (by decide +kernel)
  have outcome : t = { hotFrame.frameEnd with pending := hotFrame.pending } := (Host.Outcome.next.inj ht).symm
  have lost : t.reg Reg.sinkDissMw = 3 := (reg_congr (by rw [outcome]) _).trans sinkDissMw_hotFrame
  have figure : ((hotFrame.fbx.diss / max 1 hotFrame.tMin :: hotFrame.fbx.dissLog).take 16).sum /
      ((hotFrame.fbx.diss / max 1 hotFrame.tMin :: hotFrame.fbx.dissLog).take 16).length / 1000000 = 6000000 := by decide +kernel
  rw [lost, figure] at mean
  cases mean

/-! ### A trip of the rail in SHOW -/

/-- A unit in SHOW, every domain ON and every policy at its default, whose topo has a DRAUGHT section. -/
def railUnit : State :=
  { State.reset with
    mode := { mode := .onShow }, power := { dom := List.replicate 10 2 }, topo := { active := some { offTopo with sections := [(0x51, [1])] } } }

theorem storesOk_railUnit : railUnit.storesOk := by unfold State.storesOk; decide +kernel

/-- The trip puts 4 into DRAUGHT_STATE, and the entry to DARK that follows in the same command puts 0 there. -/
theorem draughtState_railUnit : (railUnit.draughtOv 13000).reg Reg.draughtState = 0 := by decide +kernel

/-- Refutes O42: its clause about an overvoltage of VLED fails in `railUnit`. DRAUGHT_OV is captured (R233), and its reaction is DARK at the
least (Table 15.1); the entry to DARK gives the rail up (R232), so DRAUGHT_STATE reads 0, off, and not 4, tripped, as the statement asks. -/
theorem not_draughtAndTemperatures : ¬ Obligations.DraughtAndTemperatures := by
  unfold Obligations.DraughtAndTemperatures
  rintro ⟨-, -, -, overvoltage, -⟩
  obtain ⟨t, ht, -, -, -, tripped, -⟩ := overvoltage 13000 railUnit storesOk_railUnit (by decide +kernel) (by decide +kernel)
  have outcome : t = { railUnit.draughtOv 13000 with pending := railUnit.pending } := (Host.Outcome.next.inj ht).symm
  have off : t.reg Reg.draughtState = 0 := (reg_congr (by rw [outcome]) _).trans draughtState_railUnit
  rw [off] at tripped
  cases tripped

end Sys2Proof.Machine

/-! PROOFS. What an entry to DARK within the command overwrites: LINK_STATE of a rope port that goes down (R289, R319). -/

namespace Sys2Proof.Machine

/-! ### A rope port that goes down in STAGING -/

/-- A unit in STAGING, every domain ON, port ROPE-A and its link UP, with DARK as the policy of ROPE_LINK. -/
def linkedUnit : State :=
  { ((State.reset.setReg (Reg.policy 0x15) 2).setReg (Reg.portLinkState 0) 1).setReg Reg.linkAState 3 with
    mode := { mode := .staging }, power := { dom := List.replicate 10 2 } }

/-- `linkedUnit` where, among the requests for SHOW that an entry to DARK refuses, stands a command whose subindex is LINK_STATE of ROPE-A,
0x3000.04. -/
def refusingUnit : State :=
  { linkedUnit with mode := { mode := .staging, showReqs := [{ org := .localPort, ix := 0x3000, sub := 4, val := [] }] } }

theorem storesOk_linkedUnit : linkedUnit.storesOk := by unfold State.storesOk; decide +kernel

/-- The refusal writes 3, the state of a refused command, over the LINK_STATE that the fall of the port has set. -/
theorem portLinkState_portDrop_refusingUnit : (refusingUnit.portDrop 0).reg (Reg.portLinkState 0) = 3 := by decide +kernel

/-- Refutes O45: its clause about a port that goes down fails in `refusingUnit`. The link breaks with its port, so ROPE_LINK is captured
(R319); its reaction enters DARK, and the entry refuses every command in `showReqs`, writing 3 to the key of each (R487). The statement does
not ask that these be REQ_SHOW commands, and it allows the policy DARK; where one has the key of LINK_STATE, the 0 is lost. No command of the
model puts anything but REQ_SHOW there. -/
theorem not_portsAndAddresses : ¬ Obligations.PortsAndAddresses := by
  unfold Obligations.PortsAndAddresses
  rintro ⟨⟨-, -, -, -, portDown, -⟩, -⟩
  obtain ⟨t, ht, down⟩ := portDown 0 refusingUnit storesOk_linkedUnit (by decide +kernel) (by decide) (by decide +kernel)
  have outcome : t = { refusingUnit.portDrop 0 with pending := refusingUnit.pending } := (Host.Outcome.next.inj ht).symm
  have lost : t.reg (Reg.portLinkState 0) = 3 := (reg_congr (by rw [outcome]) _).trans portLinkState_portDrop_refusingUnit
  have free : refusingUnit.portHeld 0 = false := by decide +kernel
  rw [lost, free] at down
  cases down

end Sys2Proof.Machine

/-! SUPPORT. A run of NTC and TSLAT whose last port goes out of service: how often EV55 is counted until it ends (R252, R256, R257). -/

namespace Sys2Proof.Machine

/-! ### Test frames (R257) -/

section
variable {s t : State} {p n : Nat}

/-- A stamp counts no EV55. -/
theorem evCount_stamp (ok : s.storesOk) (x : Stamp) : (s.stamp p x).reg (Reg.evCount 55) = s.reg (Reg.evCount 55) := by
  unfold State.stamp
  extract_lets old q port queued looked
  have put : Keeps [Reg.tsqTsqHigh p, Reg.tsqTsqLost p] s queued := ⟨ok, .of_regs rfl⟩
  have highest := put.setReg (k := Reg.tsqTsqHigh p) (by simp) (max (queued.reg (Reg.tsqTsqHigh p)) q.1.length)
  have counted : Keeps [Reg.tsqTsqHigh p, Reg.tsqTsqLost p] s
      ((queued.maxReg (Reg.tsqTsqHigh p) q.1.length).addReg (Reg.tsqTsqLost p) q.2) := highest.setReg (by simp) _
  have other : Reg.evCount 55 ∉ [Reg.tsqTsqHigh p, Reg.tsqTsqLost p] := by
    simp only [Reg.evCount, Reg.tsqTsqHigh, Reg.tsqTsqLost, List.mem_cons, List.not_mem_nil, or_false]
    omega
  have kept : looked.reg (Reg.evCount 55) = s.reg (Reg.evCount 55) :=
    (evCount_poolCheck counted.stores (by decide)).trans (counted.reg other)
  split
  · exact kept
  · exact ((raiseLoss_kept (storesOk_poolCheck counted.stores) _ _ _ _).reg (by decide)).trans kept

/-- A port that goes out of service counts EV55 only by its fall. -/
theorem evCount_calPort (ok : s.storesOk) : (s.calPort p).reg (Reg.evCount 55) = (s.portFall p 3).reg (Reg.evCount 55) := by
  have stamps (l : List Nat) (u : State) (hu : u.storesOk) :
      (l.foldl (fun (v : State) i => v.stamp p { time := v.now, kind := 4, msg := 0, seq := i }) u).reg (Reg.evCount 55) =
        u.reg (Reg.evCount 55) := by
    induction l generalizing u with
    | nil => rfl
    | cons i l ih => exact (ih _ ((State.stamp_good u p _ (.refl u)).stores hu)).trans (evCount_stamp hu _)
  exact stamps _ _ ((State.portFall_good s p 3 (.refl s)).stores ok)

theorem State.calPort_mode (s : State) (p : Nat) : (s.calPort p).mode = (s.portFall p 3).mode := by
  have stamps := State.ground_foldl (f := fun (v : State) i => v.stamp p { time := v.now, kind := 4, msg := 0, seq := i })
    (fun v _ => v.stamp_ground p _)
  obtain ⟨-, -, -, mode, -⟩ := ground_eq_iff.mp (stamps (List.range 256) (s.portFall p 3))
  exact mode

/-! ### A run whose last port has gone out of service (R252, R257) -/

/-- The parts of a run of NTC and TSLAT. -/
theorem bit_six : bit 6 0 = false ∧ bit 6 1 = true ∧ bit 6 2 = true := ⟨rfl, rfl, rfl⟩

/-- A run of NTC and TSLAT under way whose last port has gone out of service, EV55 counted `n` times. -/
structure LastPortOut (n : Nat) (s : State) : Prop where
  stores : s.storesOk
  alive : s.alive = true
  run : s.cal.run = some 6
  ports : s.cal.ports = []
  count : s.reg (Reg.evCount 55) = n

theorem LastPortOut.withCal (h : LastPortOut n s) {c : CalSt} (hrun : c.run = some 6) (hports : c.ports = []) :
    LastPortOut n { s with cal := c } := ⟨h.stores, h.alive, hrun, hports, h.count⟩

theorem LastPortOut.reachCclk (h : LastPortOut n s) (c : Nat) : LastPortOut n (s.reachCclk c) :=
  ⟨h.stores, h.alive, h.run, h.ports, h.count⟩

theorem LastPortOut.calReturn (h : LastPortOut n s) (p : Nat) : LastPortOut n (s.calReturn p) := by
  have kept : Keeps [Reg.portLinkState p] s (s.calReturn p) := keeps_calReturn h.stores (by simp)
  have other : Reg.evCount 55 ∉ [Reg.portLinkState p] := by
    simp only [Reg.evCount, Reg.portLinkState, List.mem_singleton]
    omega
  have still : (s.calReturn p).mode = s.mode ∧ (s.calReturn p).cal = s.cal := by
    unfold State.calReturn
    split <;> exact ⟨rfl, rfl⟩
  obtain ⟨mode, cal⟩ := still
  refine ⟨kept.stores, ?_, ?_, ?_, (kept.reg other).trans h.count⟩
  · rw [State.alive, mode]; exact h.alive
  · rw [cal, h.run]
  · rw [cal, h.ports]

/-- No port is left to go out: the one in loopback returns, or the sequence is over. -/
theorem LastPortOut.calPortStep (h : LastPortOut n s) : LastPortOut n s.calPortStep := by
  unfold State.calPortStep
  extract_lets c u d
  have back : LastPortOut n u := by
    unfold u
    split
    · exact h
    · next p _ =>
      split
      · exact (h.calReturn p).withCal h.run h.ports
      · exact h
  clear_value u
  split
  · next more => simp [back.ports] at more
  · exact back.withCal back.run back.ports
  · exact back

/-- With no port in loopback the next one goes out of service. -/
theorem State.calPortStep_of_next {r : List Nat} (hout : s.cal.out = none) (hports : s.cal.ports = p :: r) :
    s.calPortStep = { s.calPort p with cal := { s.cal with out := some p, ports := r } } := by
  unfold State.calPortStep
  simp only [hout, hports]

/-- The last port goes out of service: whatever its fall did to the calibration, `State.calPortStep` puts back the run as it was. -/
theorem lastPortOut_calPortStep (ok : s.storesOk) (hrun : s.cal.run = some 6) (hout : s.cal.out = none) (hports : s.cal.ports = [p])
    (ha : (s.portFall p 3).alive = true) (hcount : (s.portFall p 3).reg (Reg.evCount 55) = n) : LastPortOut n s.calPortStep := by
  have stores : (s.calPort p).storesOk := (State.calPort_good s p (.refl s)).stores ok
  have alive : (s.calPort p).alive = true := by rw [State.alive, State.calPort_mode]; exact ha
  have count : (s.calPort p).reg (Reg.evCount 55) = n := (evCount_calPort ok).trans hcount
  rw [State.calPortStep_of_next hout hports]
  generalize s.calPort p = u at stores alive count
  exact ⟨stores, alive, hrun, rfl, count⟩

/-- What a run of NTC and TSLAT does once the NTC sequence has ended. -/
theorem State.calStep_of_ntcDone (hrun : s.cal.run = some 6) (late : (calEnds 6 s.cal.soak).2 ≤ s.clock.cclk - s.cal.startAt) :
    s.calStep = (List.range 4).foldl (fun t _ => t.calPortStep) { s with cal := { s.cal with done := setBit s.cal.done 1 } } := by
  unfold State.calStep
  rw [hrun]
  simp [late, bit_six]

theorem State.calStep_of_ntc (hrun : s.cal.run = some 6) (early : ¬(calEnds 6 s.cal.soak).2 ≤ s.clock.cclk - s.cal.startAt) :
    s.calStep = s := by
  unfold State.calStep
  rw [hrun]
  simp [early, bit_six]

theorem LastPortOut.calPortSteps (h : LastPortOut n s) (l : List Nat) : LastPortOut n (l.foldl (fun t _ => t.calPortStep) s) := by
  induction l generalizing s with
  | nil => exact h
  | cons i l ih => exact ih h.calPortStep

theorem LastPortOut.calStep (h : LastPortOut n s) : LastPortOut n s.calStep := by
  by_cases late : (calEnds 6 s.cal.soak).2 ≤ s.clock.cclk - s.cal.startAt
  · rw [State.calStep_of_ntcDone h.run late]
    have ntcDone : LastPortOut n { s with cal := { s.cal with done := setBit s.cal.done 1 } } := h.withCal h.run h.ports
    exact ntcDone.calPortSteps _
  · rw [State.calStep_of_ntc h.run late]
    exact h

/-- An instant of a run of `v`, `at_` ns from its start, passes unless every sequence has completed. -/
def State.calPass (v : Nat) (s : State) (at_ : Nat) : State :=
  if s.cal.done == v then s else (s.reachCclk (s.cal.startAt + at_)).calStep

theorem LastPortOut.calPasses (h : LastPortOut n s) (l : List Nat) : LastPortOut n (l.foldl (State.calPass 6) s) := by
  induction l generalizing s with
  | nil => exact h
  | cons i l ih =>
    refine ih ?_
    unfold State.calPass
    split
    · exact h
    · exact (h.reachCclk _).calStep

theorem State.calFinish_eq_calPass (s : State) : s.calFinish 6 =
    ((List.range 3).map fun i => s.cal.portAt - s.cal.startAt + (i + 1) * calPortNs).foldl (State.calPass 6)
      (s.calPass 6 (calEnds 6 s.cal.soak).2) := by
  unfold State.calFinish
  extract_lets ends l
  have instants : l = ends.2 :: (List.range 3).map fun i => s.cal.portAt - s.cal.startAt + (i + 1) * calPortNs := rfl
  rw [instants]
  rfl

/-- `s` at the instant at which the NTC sequence of its run of NTC and TSLAT ends. -/
def State.ntcDone (s : State) : State :=
  let u := s.reachCclk (s.cal.startAt + (calEnds 6 s.cal.soak).2)
  { u with cal := { u.cal with done := setBit u.cal.done 1 } }

/-- At that instant the first port of the latency sequence goes out. -/
theorem State.calPass_ntcDone (hrun : s.cal.run = some 6) (hdone : s.cal.done ≠ 6) :
    s.calPass 6 (calEnds 6 s.cal.soak).2 = (List.range 4).foldl (fun t _ => t.calPortStep) s.ntcDone := by
  have late : (calEnds 6 s.cal.soak).2 ≤
      (s.reachCclk (s.cal.startAt + (calEnds 6 s.cal.soak).2)).clock.cclk - s.cal.startAt := by
    show _ ≤ s.clock.cclk + (s.cal.startAt + (calEnds 6 s.cal.soak).2 - s.clock.cclk) - s.cal.startAt
    omega
  unfold State.calPass
  rw [if_neg (by simpa using hdone)]
  exact State.calStep_of_ntcDone hrun late

/-- A run that leaves one port for the latency sequence has sent it out before its end. -/
theorem lastPortOut_calFinish (ok : s.storesOk) (hrun : s.cal.run = some 6) (hdone : s.cal.done ≠ 6) (hout : s.cal.out = none)
    (hports : s.cal.ports = [p]) (ha : (s.ntcDone.portFall p 3).alive = true)
    (hcount : (s.ntcDone.portFall p 3).reg (Reg.evCount 55) = n) : LastPortOut n (s.calFinish 6) := by
  have out : LastPortOut n s.ntcDone.calPortStep := lastPortOut_calPortStep ok hrun hout hports ha hcount
  rw [State.calFinish_eq_calPass, State.calPass_ntcDone hrun hdone]
  exact (out.calPortSteps [1, 2, 3]).calPasses _

/-! ### The end of a run (R252) -/

/-- From `s` to `t` only free values were drawn. -/
def Drawn (s t : State) : Prop := t = { s with oracle := t.oracle, freeCount := t.freeCount }

theorem Drawn.regs (h : Drawn s t) : t.regs = s.regs := by unfold Drawn at h; rw [h]

theorem Drawn.alive (h : Drawn s t) : t.alive = s.alive := by unfold Drawn at h; rw [h]; rfl

theorem Drawn.storesOk (h : Drawn s t) (ok : s.storesOk) : t.storesOk := by unfold Drawn at h; rw [h]; exact ok

theorem Drawn.trans {u : State} (h : Drawn s t) (g : Drawn t u) : Drawn s u :=
  Eq.trans g (congrArg (fun x : State => { x with oracle := u.oracle, freeCount := u.freeCount }) h)

theorem Drawn.measured (s : State) (l : List Int) (i : Nat) : Drawn s (s.measured_ l i).2 := by
  unfold State.measured_ State.drawInt
  split
  · rfl
  · split <;> rfl

theorem Drawn.foldl {α β : Type} {f : β × State → α → β × State} (hf : ∀ r x, Drawn r.2 (f r x).2) (l : List α) (r : β × State) :
    Drawn r.2 (l.foldl f r).2 := by
  induction l generalizing r with
  | nil => rfl
  | cons x l ih => exact (hf r x).trans (ih _)

theorem Drawn.calNtc (s : State) (m : CalMeas) (c : CalSet) : Drawn s (s.calNtc m c).2 := by
  refine Drawn.foldl (fun r i => ?_) _ (([] : List Int), s)
  unfold State.calNtcOne
  dsimp only
  split
  · exact .measured _ _ _
  · rfl

theorem Drawn.calTslat (s : State) (m : CalMeas) (ports : List Nat) (c : CalSet) : Drawn s (s.calTslat m ports c).2 := by
  refine Drawn.foldl (fun r p => ?_) _ (([] : List Nat), s)
  unfold State.calTslatOne
  dsimp only
  split
  · exact .measured _ _ _
  · rfl

/-- The end of a run of NTC and TSLAT: its results, in the state that has drawn them, become pending, and EV55 follows. -/
def State.calEnded (r : CalSet × State) : State :=
  ((({ r.2 with cal := { r.2.cal with run := none, pend := some (6, r.1) } } : State).setReg Reg.calState 2).cmdState Reg.calRun 2).raise 55
    (beBytes 1 2 ++ beBytes 1 0 ++ beBytes 1 6)

theorem State.calDone_of_run (m : CalMeas) (hrun : s.cal.run = some 6) : ∃ ports c, s.calDone m =
    State.calEnded (((s.calFinish 6).calNtc m c).2.calTslat m ports ((s.calFinish 6).calNtc m c).1) := by
  obtain ⟨sink, ntc, tslat⟩ := bit_six
  unfold State.calDone State.calEnded
  simp only [hrun, sink, ntc, tslat, Bool.false_and, Bool.false_eq_true, if_false, if_true]
  exact ⟨_, _, rfl⟩

theorem evCount_calEnded {r : CalSet × State} (ok : r.2.storesOk) (ha : r.2.alive = true) :
    (State.calEnded r).reg (Reg.evCount 55) = min (r.2.reg (Reg.evCount 55) + 1) (two32 - 1) := by
  have pend : Keeps [Reg.calState, Reg.calRun] r.2 { r.2 with cal := { r.2.cal with run := none, pend := some (6, r.1) } } :=
    ⟨ok, .of_regs rfl⟩
  have shown := (pend.setReg (k := Reg.calState) (by simp) 2).setReg (k := Reg.calRun) (by simp) 2
  rw [← shown.reg (k := Reg.evCount 55) (by decide)]
  exact (counted_raise shown.stores ha (by decide) _).1

/-- EV55 is counted once more at the end, whatever the run met with on the way. -/
theorem LastPortOut.evCount_calDone (m : CalMeas) (hrun : s.cal.run = some 6) (h : LastPortOut n (s.calFinish 6)) :
    (s.calDone m).reg (Reg.evCount 55) = min (n + 1) (two32 - 1) := by
  obtain ⟨ports, c, ended⟩ := State.calDone_of_run m hrun
  have drawn := (Drawn.calNtc (s.calFinish 6) m c).trans (.calTslat _ m ports ((s.calFinish 6).calNtc m c).1)
  rw [ended]
  generalize ((s.calFinish 6).calNtc m c).2.calTslat m ports ((s.calFinish 6).calNtc m c).1 = r at drawn ⊢
  rw [evCount_calEnded (drawn.storesOk h.stores) (drawn.alive.trans h.alive), reg_congr drawn.regs, h.count]

end

end Sys2Proof.Machine

/-! PROOFS. A calibration run that goes on after an entry to DARK has aborted it (R252, R257, R319). -/

namespace Sys2Proof.Machine

/-! ### A run that an entry to DARK does not stop -/

/-- `linkedUnit` with a run of NTC and TSLAT under way since its boundary: 20 ms on, ROPE-A goes out of service (R256, R257). -/
def calibratingUnit : State := { linkedUnit with cal := { run := some 6, ports := [0], portAt := 20000000 } }

/-- As ROPE-A goes out, its fall breaks its link, and the entry to DARK aborts the run with cause 1: EV55 is counted. -/
theorem portFall_calibratingUnit : (calibratingUnit.ntcDone.portFall 0 3).reg (Reg.evCount 55) = 1 ∧
    (calibratingUnit.ntcDone.portFall 0 3).mode.mode = .dark ∧ (calibratingUnit.ntcDone.portFall 0 3).reg Reg.abortCause = 1 ∧
    (calibratingUnit.ntcDone.portFall 0 3).cal.run = none := by decide +kernel

/-- The run goes on all the same, and its end counts EV55 once more. -/
theorem evCount_calDone_calibratingUnit (m : CalMeas) : (calibratingUnit.calDone m).reg (Reg.evCount 55) = 2 := by
  obtain ⟨counted, dark, -, -⟩ := portFall_calibratingUnit
  have alive : (calibratingUnit.ntcDone.portFall 0 3).alive = true := by rw [State.alive, dark]; rfl
  have finished : LastPortOut 1 (calibratingUnit.calFinish 6) :=
    lastPortOut_calFinish storesOk_linkedUnit rfl (by decide) rfl rfl alive counted
  rw [finished.evCount_calDone m rfl]
  rfl

theorem reg_of_exec_calSequenceDone {s t : State} {m : CalMeas} (h : exec (.calSequenceDone m) s = .next t) (k : Nat) :
    t.reg k = (s.calDone m).reg k := by
  have outcome : t = { s.calDone m with pending := s.pending } := (Host.Outcome.next.inj h).symm
  exact reg_congr (by rw [outcome]) k

/-- Measurements without a value. -/
def noMeasurements : CalMeas := { pass1 := [], pass2 := [], vled := 0, rBias := 0, ntc := [], die := 0, beyond := [] }

/-- Refutes O60: its clause about a run that ends with results fails in `calibratingUnit`. A rope port that goes out of service is a broken
link (R257), so ROPE_LINK is captured, and with DARK as its policy, which Table 15.1 allows, the unit enters DARK within CAL_SEQUENCE_DONE.
The entry aborts the run with cause 1 and raises EV55 (R252); in the model the run then goes on, ends with results and raises EV55 again.
EV55 is counted twice, where the statement asks for once. -/
theorem not_calibrationRuns : ¬ Obligations.CalibrationRuns := by
  unfold Obligations.CalibrationRuns
  rintro ⟨-, -, -, -, -, -, -, -, ended, -⟩
  obtain ⟨t, -, ht, -, -, -, -, once, -⟩ := ended noMeasurements 6 calibratingUnit storesOk_linkedUnit rfl rfl (.inl rfl)
  have twice : t.reg (Reg.evCount 55) = 2 := (reg_of_exec_calSequenceDone ht _).trans (evCount_calDone_calibratingUnit _)
  have before : calibratingUnit.reg (Reg.evCount 55) = 0 := by decide +kernel
  have count := once.1
  rw [twice, before] at count
  cases count

end Sys2Proof.Machine

/-! PROOFS. What every step keeps: the part, the canonical stores, the clock's range, elapsed time and what was sent (R262, R264, R279). -/

namespace Sys2Proof.Machine

/-! ### A command's outcome -/

/-- The outcome is a next state, and from `s` to it all that `Good` speaks of is kept. -/
def KeepsGood (s : State) (r : Host.Outcome State Fault Refusal) : Prop := ∃ t, r = .next t ∧ Good s t

section
variable {s t : State} {r : Host.Outcome State Fault Refusal}

/-- Putting the waiting commands back keeps all. -/
theorem KeepsGood.done (h : Good s t) : KeepsGood s (s.done t) := ⟨_, rfl, h.upd⟩

theorem KeepsGood.good (h : KeepsGood s r) (next : r = .next t) : Good s t := by
  obtain ⟨u, hu, kept⟩ := h
  cases hu.symm.trans next
  exact kept

end

/-! ### The commands that wait for something of the state -/

section
variable (s : State) (n : Nat)

theorem execHandshakeExpire_keepsGood : KeepsGood s (execHandshakeExpire n s) := by
  unfold execHandshakeExpire
  split
  · exact .done (.refl s)
  · exact .done (State.dropHand_good _ _ (State.reachCclk_good _ _ (.refl s)))

theorem execLockoutEnd_keepsGood : KeepsGood s (execLockoutEnd n s) := by
  unfold execLockoutEnd
  split
  · exact .done (.refl s)
  · exact .done (State.reachCclk_good _ _ (.refl s)).upd

theorem execSessionTimeout_keepsGood : KeepsGood s (execSessionTimeout n s) := by
  unfold execSessionTimeout
  split
  · exact .done (.refl s)
  · exact .done (State.endSession_good _ _ _ (State.reachCclk_good _ _ (.refl s)))

theorem execDomainTransferTimeout_keepsGood : KeepsGood s (execDomainTransferTimeout n s) := by
  unfold execDomainTransferTimeout
  split
  · exact .done (.refl s)
  · exact .done (State.abandon_good _ _ (State.reachCclk_good _ _ (.refl s)))

end

/-! ### Every command -/

/-- No command refuses or faults, and each is made of operations that keep `Good`. -/
theorem exec_keepsGood (c : Instr) (s : State) : KeepsGood s (exec c s) := by
  cases c with
  | powerUp => exact .done (State.powerUp_good _ (.refl s))
  | resetNLow => exact .done (State.resetLow_good _ (.refl s))
  | resetNRise => exact .done (State.resetRise_good _ _ (.refl s))
  | firmwareVerify => exact .done (State.firmwareVerify_good _ _ _ (.refl s))
  | bootSelfTest => exact .done (State.selfTest_good _ _ (.refl s))
  | cairnRead => exact .done (State.cairnRead_good _ _ (.refl s))
  | supplyOutOfRange => exact .done (State.supplyOut_good _ _ _ (.refl s))
  | supplyWarn => exact .done (State.supplyWarn_good _ _ _ (.refl s))
  | fbxSupplyLow => exact .done (State.fbxSupplyLow_good _ (.refl s))
  | overTemp => exact .done (State.overTemp_good _ _ _ (.refl s))
  | darkNLow => exact .done (State.darkPinLow_good _ (.refl s))
  | darkNHigh => exact .done (State.darkPinHigh_good _ (.refl s))
  | headEnChange => exact .done (State.headEnChange_good _ _ (.refl s))
  | edgeCaptured => exact .done (State.edgeIn_good _ _ _ (.refl s))
  | clockFail | belayInternal => exact .done (.ite (State.setDarkLatch_good _ _ (.refl s)) (.refl s))
  | faultPin => exact .done (.ite (State.capture_good _ _ _ _ (State.setActive_good _ _ (.refl s))) (.refl s))
  | fireboxRef => exact .done (State.fireboxRef_good _ _ (.refl s))
  | coreWatchdog => exact .done (State.coreWatchdog_good _ _ (.refl s))
  | domainSwitchOn => exact .done (State.domainOn_good _ _ (.refl s))
  | domainPowerGood => exact .done (State.powerGood_good _ _ (.refl s))
  | domainSwitchTimeout => exact .done (State.switchTimeout_good _ _ (.refl s))
  | domainSwitchOff => exact .done (State.domainOff_good _ _ (.refl s))
  | dramRetry => exact .done (State.dramRetry_good _ (.refl s))
  | tick => exact .done (State.tickStep_good _ _ (.refl s))
  | timedWriteDue => exact .done (State.timedRest_good _ (.refl s))
  | holdoverLimit => exact .done (State.holdLimit_good _ (.refl s))
  | staticEnter => exact .done (State.staticEnter_good _ (.refl s))
  | fadeDone => exact .done (State.fadeDone_good _ _ (.refl s))
  | loopAdvance => exact .done (State.loopStep_good _ _ (.refl s))
  | rasterLineStart => exact .done (State.rasterLine_good _ _ _ _ (.refl s))
  | sob => exact .done (State.sob_good _ _ (.refl s))
  | frameDone => exact .done (State.frameDone_good _ (.refl s))
  | flueCopyStart => exact .done (State.flueStart_good _ (.refl s))
  | flueCopyDone => exact .done (State.flueDone_good _ _ (.refl s))
  | emissionFrameStart => exact .done (State.frameStart_good _ _ _ (.refl s))
  | emissionSegmentStart => exact .done (State.segmentStart_good _ (.refl s))
  | scanSlot => exact .done (State.scanSlot_good _ _ _ (.refl s))
  | emissionFrameEnd => exact .done (State.frameEnd_good _ (.refl s))
  | lampUnverified => exact .done (State.lampsUnverified_good _ (.refl s))
  | draughtRampEnd => exact .done (State.rampEnd_good _ (.refl s))
  | draughtOv => exact .done (State.draughtOv_good _ _ (.refl s))
  | draughtUv => exact .done (State.draughtUv_good _ _ (.refl s))
  | phaseCurrentLimit => exact .done (State.phaseLimit_good _ _ _ (.refl s))
  | ntcSample => exact .done (State.ntcSample_good _ _ _ (.refl s))
  | strandFrameStart => exact .done (State.strandStart_good _ _ (.refl s))
  | rdmResponse => exact .done (State.rdmResponse_good _ _ _ (.refl s))
  | rdmTimeout => exact .done (State.rdmTimeout_good _ _ (.refl s))
  | sacnDataPacket => exact .done (State.sacnPacket_good _ (.refl s))
  | sacnDiscovery => exact .done (State.sacnDiscovery_good _ (.refl s))
  | portUp => exact .done (State.portRise_good _ _ (.refl s))
  | portDown => exact .done (State.portDrop_good _ _ (.refl s))
  | rxFrame => exact .done (State.rxFrame_good _ _ _ _ (.refl s))
  | pause => exact .done (State.pauseRx_good _ _ _ (.refl s))
  | pauseExpire => exact .done (State.pauseExpire_good _ _ (.refl s))
  | pauseWatchdog => exact .done (State.pauseWatchdog_good _ _ (.refl s))
  | pauseDisregardEnd => exact .done (State.pauseDisregardEnd_good _ _ (.refl s))
  | mdioPoll => exact .done (State.mdioPoll_good _ _ _ (.refl s))
  | eyeScan => exact .done (State.eyeScan_good _ _ _ (.refl s))
  | arpAnnounce => exact .done (State.arpAnnounce_good _ (.refl s))
  | igmpQuery => exact .done (State.igmpQuery_good _ _ (.refl s))
  | igmpReportRepeat => exact .done (State.igmpRepeat_good _ (.refl s))
  | igmpv2FallbackEnd => exact .done (State.igmpFallbackEnd_good _ (.refl s))
  | sync => exact .done (State.onSync_good _ _ _ (.refl s))
  | followUp => exact .done (State.onFollowUp_good _ _ _ (.refl s))
  | delayReq => exact .done (State.onDelayReq_good _ _ _ (.refl s))
  | delayResp => exact .done (State.onDelayResp_good _ _ _ (.refl s))
  | announce => exact .done (State.onAnnounce_good _ _ _ _ (.refl s))
  | pdelayReq => exact .done (State.onPdelayReq_good _ _ _ (.refl s))
  | pdelayResp => exact .done (State.onPdelayResp_good _ _ _ (.refl s))
  | pdelayRespFollowUp => exact .done (State.onPdelayFollow_good _ _ _ (.refl s))
  | syncSend => exact .done (State.syncSend_good _ _ (.refl s))
  | announceSend => exact .done (State.announceSend_good _ _ (.refl s))
  | delayReqSend => exact .done (State.delayReqSend_good _ (.refl s))
  | pdelayReqSend => exact .done (State.pdelaySend_good _ _ (.refl s))
  | syncTimeout => exact .done (State.onSyncTimeout_good _ (.refl s))
  | announceTimeout => exact .done (State.onAnnounceTimeout_good _ (.refl s))
  | initialSet => exact .done (.ite (State.initialSet_good s (.refl s)) (State.pulsesStep_good _ _ (State.initialSet_good s (.refl s))))
  | stepApply => exact .done (.ite (State.stepApply_good s (.refl s)) (State.pulsesStep_good _ _ (State.stepApply_good s (.refl s))))
  | autoAccept => exact .done (State.autoAccept_good _ (.refl s))
  | ptpWaitExpire => exact .done (State.onPtpWait_good _ (.refl s))
  | ropeWaitExpire => exact .done (State.ropeWait_good _ (.refl s))
  | pulseEdge => exact .done (State.pulseEdge_good _ _ (.refl s))
  | heartbeatSend => exact .done (State.heartbeatSend_good _ _ (.refl s))
  | heartbeat => exact .done (State.heartbeat_good _ _ _ _ _ _ (.refl s))
  | heartbeatLoss => exact .done (State.heartbeatLoss_good _ _ (.refl s))
  | provingDone => exact .done (State.provingDone_good _ _ (.refl s))
  | breakNotice => exact .done (State.breakNotice_good _ _ (.refl s))
  | breakNoticeRepeat => exact .done (State.breakRepeat_good _ _ (.refl s))
  | healNotice => exact .done (State.healNotice_good _ _ (.refl s))
  | headBeaconSend => exact .done (State.beaconSend_good _ (.refl s))
  | headBeacon => exact .done (State.headBeacon_good _ _ _ _ _ _ _ _ _ _ (.refl s))
  | beaconSilence => exact .done (State.beaconSilence_good _ (.refl s))
  | headBidSend => exact .done (State.bidSend_good _ (.refl s))
  | headBid => exact .done (State.headBid_good _ _ _ _ _ (.refl s))
  | biddingDone => exact .done (State.biddingDone_good _ (.refl s))
  | headResign => exact .done (State.headResign_good _ _ _ (.refl s))
  | trailDownResign => exact .done (State.trailResign_good _ (.refl s))
  | joinReqSend => exact .done (State.joinSend_good _ (.refl s))
  | joinReq => exact .done (State.joinReq_good _ (.refl s))
  | ropingRun => exact .done (State.afterRoping_good _ (State.ropingRun_good _ (.refl s)))
  | ropeCall => exact .done (State.afterRoping_good _ (State.ropeCall_good _ _ _ _ _ _ (.refl s)))
  | ropeCallEnd => exact .done (State.afterRoping_good _ (State.ropeCallEnd_good _ _ _ _ _ (.refl s)))
  | callTimeout => exact .done (State.afterRoping_good _ (State.callTimeout_good _ (.refl s)))
  | ropeSet => exact .done (State.afterRoping_good _ (State.ropeSet_good _ _ _ _ _ _ (.refl s)))
  | dupWindowForget => exact .done (State.forgetWin_good _ _ (.refl s))
  | injectDurationEnd => exact .done (State.injectEnd_good _ (.refl s))
  | sacnSourceTimeout => exact .done (State.sacnTimeout_good _ _ (.refl s))
  | sacnSyncTimeout => exact .done (State.sacnSyncTimeout_good _ _ (.refl s))
  | hello => exact .done (State.helloIn_good _ _ _ _ (.refl s))
  | response => exact .done (State.responseIn_good _ _ _ _ _ _ (.refl s))
  | close => exact .done (State.closeIn_good _ _ _ _ _ (.refl s))
  | handshakeExpire => exact execHandshakeExpire_keepsGood s _
  | lockoutEnd => exact execLockoutEnd_keepsGood s _
  | sessionTimeout => exact execSessionTimeout_keepsGood s _
  | read => exact .done (State.serve_good _ _ _ _ _ (.refl s) fun _ _ h => State.opRead_good _ _ _ _ _ _ h)
  | write =>
    exact .done (State.resumeJobs_good _ (State.serve_good _ _ _ _ _ (.refl s) fun _ _ h => outOf_good _ (State.opWrite_good _ _ _ _ _ _ _ h)))
  | timedWrite => exact .done (State.serve_good _ _ _ _ _ (.refl s) fun _ _ h => outOf_good _ (State.opTimed_good _ _ _ _ _ _ _ _ h))
  | domainBegin => exact .done (State.serveDom_good _ _ _ _ _ (.refl s) fun _ _ h => State.opBegin_good _ _ _ _ _ _ _ _ _ h)
  | domainData => exact .done (State.serveDom_good _ _ _ _ _ (.refl s) fun _ _ h => outOf_good _ (State.opData_good _ _ _ _ _ _ _ h))
  | domainRead => exact .done (State.serveDom_good _ _ _ _ _ (.refl s) fun _ _ h => State.opDomRead_good _ _ _ _ _ _ _ h)
  | domainEnd => exact .done (State.serveDom_good _ _ _ _ _ (.refl s) fun _ _ h => outOf_good _ (State.opEnd_good _ _ _ _ _ h))
  | describe => exact .done (State.serve_good _ _ _ _ _ (.refl s) fun _ _ h => State.opDescribe_good _ _ _ _ h)
  | domainTransferTimeout => exact execDomainTransferTimeout_keepsGood s _
  | send => exact .done (State.resumeJobs_good _ (State.sendIn_good _ _ _ _ (.refl s)))
  | fetch => exact .done (State.fetchIn_good _ _ (.refl s))
  | statusPoll => exact .done (State.pollIn_good _ _ _ (.refl s))
  | odWrite | append | keyWrite => exact .done (.ite (State.rowWrite_good _ _ _ _ _ (.refl s)) (.refl s))
  | rcCounterRead | pop | diagRead | capture => exact .done (.ite (State.rowRead_good _ _ _ (.refl s)) (.refl s))
  | reqShow | reqStaging | reqDark | commit | discard | timedCancel | selectSlot | load | switch | fadeStop | discStart | calRunSink
  | calRunNtc | calRunTslat | calAccept | calDiscard | snapshot | acceptStep | injectArm | injectDisarm | clearPosition | rerope
  | sessKill | fwRestart | fwFloorRaise | release | forceRelease | taskCancel | descCancel | pending | firstClear | faultAck
  | darkRelease | faultInject | clear => exact .done (State.rowNum_good _ _ _ _ _ (.refl s))
  | topoLoadDone => exact .done (State.loadDone_good _ (.refl s))
  | topoActivate => exact .done (State.topoActivate_good _ (.refl s))
  | switchBegin => exact .done (State.switchStart_good _ (.refl s))
  | switchTablesInForce => exact .done (State.switchTables_good _ (.refl s))
  | armingStart => exact .done (State.armStart_good _ (.refl s))
  | armingDone => exact .done (State.armDone_good _ (.refl s))
  | slotA | surfData | coefData | lutData | fwImage | flashRaw => exact .done (State.rowWhole_good _ _ _ _ _ _ (.refl s))
  | mark | rewind | loopStart | loopStop | loopRewind => exact .done (.ite (State.rowNum_good _ _ _ _ _ (.refl s)) (.refl s))
  | groupSet | groupBind | fadeStart | rdmReq | acquire | renew | prioSet => exact .done (State.rowWrite_good _ _ _ _ _ (.refl s))
  | calRunStart => exact .done (State.calStart_good _ (.refl s))
  | calSequenceDone => exact .done (State.calDone_good _ _ (.refl s))
  | leaseEnd => exact .done (State.leaseEnd_good _ _ (.refl s))
  | push => exact .done (State.resumeJobs_good _ (.ite (State.rowWrite_good _ _ _ _ _ (.refl s)) (.refl s)))
  | clampRead | rejectRead | evqRead | faultRead | traceRead | rdmResp => exact .done (State.rowRead_good _ _ _ (.refl s))
  | planRelease => exact .done (State.planRelease_good _ _ (.refl s))
  | eventRelease => exact .done (State.eventRelease_good _ _ (.refl s))
  | prefetch => exact .done (State.prefetch_good _ _ (.refl s))
  | dispatch => exact .done (State.dispatch_good _ _ (.refl s))
  | deadlineMiss => exact .done (State.deadlineMiss_good _ _ (.refl s))
  | queueReadTimeout => exact .done (State.readTimeout_good _ _ (.refl s))
  | queuePushUnblocked => exact .done (State.resumeJobs_good _ (State.pushUnblocked_good _ _ (.refl s)))
  | spillBurstWrite => exact .done (State.spillBurst_good _ _ (.refl s))
  | spillReadback => exact .done (State.spillReadback_good _ _ (.refl s))
  | linkWalk => exact .done (State.linkWalk_good _ _ _ _ (.refl s))
  | arbitration => exact .done (State.arbitrate_good _ _ _ _ _ (.refl s))
  | nop => exact .done (State.runTask_good _ _ _ _ (.refl s) fun _ _ h => workNop_good _ _ h)
  | copy => exact .done (State.runTask_good _ _ _ _ (.refl s) fun _ _ h => workCopy_good _ _ _ h)
  | fill => exact .done (State.runTask_good _ _ _ _ (.refl s) fun _ _ h => workFill_good _ _ h)
  | crc32 => exact .done (State.runTask_good _ _ _ _ (.refl s) fun _ _ h => workCrc_good _ _ _ h)
  | unpack => exact .done (State.runTask_good _ _ _ _ (.refl s) fun _ _ h => workUnpack_good _ _ _ h)
  | sigReadback => exact .done (State.runTask_good _ _ _ _ (.refl s) fun _ _ h => workReadback_good _ _ _ _ h)
  | sacnMerge =>
    exact .done (State.runTask_good _ _ _ _ (.refl s) fun _ _ h => packetWork_good _ _ _ h fun _ _ g => State.sacnMerge_good _ _ g)
  | audioBands => exact .done (State.runTask_good _ _ _ _ (.refl s) fun _ _ h => workBands_good _ _ h)
  | queueMove => exact .done (State.resumeJobs_good _ (State.runTask_good _ _ _ _ (.refl s) fun _ _ h => workMove_good _ _ h))
  | gather => exact .done (State.runTask_good _ _ _ _ (.refl s) fun _ _ h => workGather_good _ _ _ h)
  | scrub => exact .done (State.runTask_good _ _ _ _ (.refl s) fun _ _ h => workScrub_good _ _ _ h)
  | selfTest => exact .done (State.runTask_good _ _ _ _ (.refl s) fun _ _ h => workTest_good _ _ _ _ h)
  | lutLoad => exact .done (State.runTask_good _ _ _ _ (.refl s) fun _ _ h => workLutLoad_good _ _ _ h)
  | surfStore => exact .done (State.runTask_good _ _ _ _ (.refl s) fun _ _ h => workSurfStore_good _ _ _ h)
  | signal => exact .done (State.resumeJobs_good _ (State.runTask_good _ _ _ _ (.refl s) fun _ _ h => workSignal_good _ _ h))
  | videoIngest => exact .done (State.packetStep_good _ _ _ _ _ (.refl s) fun _ _ h => State.ingestVideo_good _ _ h)
  | audioIngest => exact .done (State.packetStep_good _ _ _ _ _ (.refl s) fun _ _ h => State.ingestAudio_good _ _ h)
  | sacnParse => exact .done (State.resumeJobs_good _ (State.sacnParse_good _ _ (.refl s)))
  | pixelRx => exact .done (State.packetStep_good _ _ _ _ _ (.refl s) fun _ _ h => State.pxItem_good _ _ h)
  | ctrlParse => exact .done (State.resumeJobs_good _ (State.packetStep_good _ _ _ _ _ (.refl s) fun _ _ h => State.ctrlItem_good _ _ _ h))
  | ropeCtrl => exact .done (State.resumeJobs_good _ (State.ropeCtrl_good _ _ (.refl s)))
  | hdrBuild => exact .done (State.runTask_good _ _ _ _ (.refl s) fun _ _ h => workHdr_good _ _ h)
  | csum => exact .done (State.runTask_good _ _ _ _ (.refl s) fun _ _ h => workCsum_good _ _ _ h)
  | host => exact .done (State.packetStep_good _ _ _ _ _ (.refl s) fun _ _ h => State.hostItem_good _ _ h)
  | faultReaction => exact .done (.ite (State.reactionSteps_good _ _ (.refl s)) (.refl s))
  | cairnWriteDone => exact .done (State.cairnWritten_good _ (.refl s))
  | belayRestart => exact .done (State.belayRestart_good _ (.refl s))
  | hearthScrub => exact .done (State.hearthScrub_good _ _ _ (.refl s))
  | scrubStalled => exact .done (State.scrubStalled_good _ _ (.refl s))
  | engineTestRelease => exact .done (State.testRound_good _ (.refl s))
  | supplyBackInRange => exact .done (State.supplyBack_good _ _ _ (.refl s))
  | overTempClear => exact .done (State.overTempClear_good _ _ _ (.refl s))
  | vledBelowMax => exact .done (State.belowMax_good _ _ (.refl s))
  | lifeHour => exact .done (State.lifeHour_good _ (.refl s))
  | reorderHoldExpire => exact .done (State.reorderExpire_good _ _ (.refl s))
  | dramScrubRelease => exact .done (State.dramScrubRelease_good _ (.refl s))
  | calRecordWriteDone => exact .done (State.calWritten_good _ (.refl s))

/-- A step takes the front command with the queue's rest, or idles. -/
theorem step_good {s t : State} (h : step s = .next t) : Good s t := by
  unfold step at h
  split at h
  · cases h
    exact .refl s
  · exact (Good.refl s).upd.trans ((exec_keepsGood _ _).good h)

/-- Settles O5: all of it is part of `Good`, which every step keeps (`step_good`). -/
theorem everyStepKeeps : Obligations.EveryStepKeeps := by
  unfold Obligations.EveryStepKeeps
  refine ⟨fun s t ok h => ?_, fun s t h => ?_⟩
  · exact ⟨(step_good h).clock ok, (step_good h).cclk⟩
  · exact ⟨(step_good h).part, (step_good h).sent⟩

end Sys2Proof.Machine

/-! PROOFS. Messages heard: the eighth discarded exchange in a row takes the unit to DARK (R272, R274, R422). -/

namespace Sys2Proof.Machine

/-! ### A Sync whose stamp is lost, in STAGING, with DARK as the reaction of TIME_REF -/

/-- The one master heard, on ROPE-A. -/
def heardMaster : Master :=
  { data := { gm := 7, p1 := 0, cls := 0, acc := 0, var := 0, p2 := 0, steps := 0, utc := 0 }, clock := 7, rxPort := 0, logInt := 0,
    scale := false, flags := 0, last := 0 }

/-- A two-step Sync of that master. -/
def lostSync : PtpMsg :=
  { kind := 0, sdo := 0, version := 2, domain := 127, long := true, twoStep := true, ptpScale := false, flags := 0, corr := 0, srcClock := 7,
    srcPort := 1, seq := 0, logInt := 0, stamp := 0, reqClock := 0, reqPort := 0 }

/-- A slave in STAGING, locked, seven exchanges in a row discarded and the stamp of the eighth overwritten, with DARK as the policy of
TIME_REF. Among the requests for SHOW that the entry to DARK refuses stands a command whose subindex is DISCARDS, 0x2003.05. -/
def discardingSlave : State :=
  { ((State.reset.setReg Reg.servoState 2).setReg (Reg.policy 0x14) 2).setReg (Reg.portLinkState 0) 1 with
    mode := { mode := .staging, showReqs := [{ org := .localPort, ix := 0x2003, sub := 5, val := [] }] }
    power := { dom := List.replicate 10 2 }
    ptp := { masters := [heardMaster], nDiscard := 7 }
    ports := [{ lost := [{ time := 0, kind := 1, msg := 0, seq := 0 }] }, {}, {}] }

theorem storesOk_discardingSlave : discardingSlave.storesOk := by unfold State.storesOk; decide +kernel

/-- `lostSync` is a Sync that `discardingSlave` uses: it hears it, and the message comes from its master. -/
theorem lostSync_used : discardingSlave.hears 0 = true ∧ discardingSlave.ptpOk lostSync = true ∧ discardingSlave.listens 0 = true ∧
    discardingSlave.master = some heardMaster ∧ discardingSlave.ptp.lastSeq ≠ some (lostSync.srcClock, lostSync.seq) := by decide +kernel

theorem lostSync_stamp : (discardingSlave.takeStamp 0 1 0 lostSync.seq).1 = none ∧
    discardingSlave.stampLost 0 1 0 lostSync.seq = true := by decide +kernel

/-- The discard is counted, and the refusal writes 3, the state of a refused command, over the count. -/
theorem discards_onSync_discardingSlave : discardingSlave.reg Reg.discards = 0 ∧
    (discardingSlave.onSync 0 lostSync).reg Reg.discards = 3 := by decide +kernel

/-- Refutes O47: its fifth clause fails in `discardingSlave`. The eighth discard in a row degrades the reference, TIME_REF is captured
unmasked in STAGING, its reaction enters DARK, and the entry refuses every command in `showReqs`, writing 3 to the key of each (R487). The
statement does not ask that these be REQ_SHOW commands, and it allows the policy DARK; where one has the key of DISCARDS, the count is lost.
No command of the model puts anything but REQ_SHOW there. -/
theorem not_ptpMessagesHeard : ¬ Obligations.PtpMessagesHeard := by
  unfold Obligations.PtpMessagesHeard
  rintro ⟨-, -, -, -, noStamp, -⟩
  obtain ⟨hears, legal, listens, master, fresh⟩ := lostSync_used
  obtain ⟨none, lost⟩ := lostSync_stamp
  obtain ⟨before, after⟩ := discards_onSync_discardingSlave
  obtain ⟨t, ht, counted, -⟩ :=
    (noStamp 0 lostSync heardMaster discardingSlave storesOk_discardingSlave hears legal listens master rfl fresh none).1 lost
  have outcome : t = { discardingSlave.onSync 0 lostSync with pending := discardingSlave.pending } := (Host.Outcome.next.inj ht).symm
  have three : t.reg Reg.discards = 3 := (reg_congr (by rw [outcome]) _).trans after
  rw [three, before] at counted
  cases counted

end Sys2Proof.Machine

/-! PROOFS. Pulse outputs and edge capture (R281, R283, R284, R285). -/

namespace Sys2Proof.Machine

/-! ### Pulse outputs (R281, R283) -/

section
variable {s : State} {k : Nat}

theorem State.pulseEdge_of_none (h : s.alive = false ∨ 4 ≤ k) : s.pulseEdge k = s := by
  unfold State.pulseEdge
  exact if_pos (by simpa using h)

theorem State.pulseEdge_of_on (ha : s.alive = true) (hk : k < 4) (on : (s.pulse k).on = true) :
    s.pulseEdge k = (s.reachCclk (s.pulse k).offAt).setPulse k { s.pulse k with on := false } := by
  simp [State.pulseEdge, ha, on, Nat.not_le.mpr hk]

/-- No assertion is due: the mode is OFF, or the clock is not SET and the mode waits for it (Table 9.13). -/
theorem State.pulseEdge_of_held (off : (s.pulse k).on = false)
    (h : s.reg (Reg.pulseMode k) = 0 ∨ s.flag Reg.clockState = false ∧ s.reg (Reg.pulseMode k) < 3) : s.pulseEdge k = s := by
  unfold State.pulseEdge
  obtain mode | ⟨unset, mode⟩ := h
  · simp [off, mode]
  · have no : s.reg (Reg.pulseMode k) ≠ 3 := by omega
    simp [off, unset, no]

/-- `s` with ONE_SHOT output `k` asserted at START, before EV18. -/
def State.fired (s : State) (k : Nat) : State :=
  ((s.reach (s.pulseFrom k)).pulseOn k { s.pulse k with fired := true, late := false }).setReg (Reg.pulseState k)
    (if (s.pulse k).late then 4 else 3)

/-- A ONE_SHOT output that has neither fired nor missed asserts at START, late or not, with EV18. -/
theorem State.pulseEdge_of_oneShot (ha : s.alive = true) (hk : k < 4) (off : (s.pulse k).on = false) (mode : s.reg (Reg.pulseMode k) = 1)
    (set : s.flag Reg.clockState = true) (fresh : (s.pulse k).fired = false) (ahead : (s.pulse k).missed = false) :
    s.pulseEdge k = (s.fired k).raise 18 (beBytes 1 k) := by
  simp [State.pulseEdge, State.fired, ha, Nat.not_le.mpr hk, off, mode, set, fresh, ahead]

/-- A PERIODIC output asserts at the instant it waits for, and then waits for the one a PERIOD later. -/
theorem State.pulseEdge_of_periodic {n : Nat} (ha : s.alive = true) (hk : k < 4) (off : (s.pulse k).on = false)
    (mode : s.reg (Reg.pulseMode k) = 2) (set : s.flag Reg.clockState = true) (next : (s.pulse k).next = some n) :
    s.pulseEdge k = ((s.reach n).pulseOn k { s.pulse k with next := some (n + s.reg (Reg.pulsePeriod k)) }).setReg (Reg.pulseState k) 2 := by
  simp [State.pulseEdge, ha, Nat.not_le.mpr hk, off, mode, set, next]
  rfl

/-- The output's state after an assertion: its pulse ends when WIDTH has run. -/
theorem State.pulse_pulseOn (hk : k < s.tio.pulses.length) (x : PulseSt) : (s.pulseOn k x).pulse k =
    { x with on := true, pol := s.flag (Reg.pulsePolarity k), offAt := s.clock.cclk + s.reg (Reg.pulseWidth k) } := by
  simp [State.pulseOn, State.setPulse, State.pulse, hk]

/-- An assertion counts in FIRED and changes STATE, and no other register. -/
theorem keeps_pulseOn (ok : s.storesOk) (x : PulseSt) (v : Nat) :
    Keeps [Reg.pulseFired k, Reg.pulseState k] s ((s.pulseOn k x).setReg (Reg.pulseState k) v) := by
  have put : ∀ y, Keeps [Reg.pulseFired k, Reg.pulseState k] s (s.setPulse k y) := fun _ => ⟨ok, .of_regs rfl⟩
  exact ((put _).setReg (List.mem_cons_self ..) _).setReg (List.mem_cons_of_mem _ (List.mem_cons_self ..)) v

theorem keeps_reach {ks : List Nat} (ok : s.storesOk) (n : Nat) : Keeps ks s (s.reach n) := ⟨ok, .of_regs rfl⟩

theorem storesOk_pulseOn (ok : s.storesOk) (x : PulseSt) : (s.pulseOn k x).storesOk := by
  have put : ∀ y, (s.setPulse k y).storesOk := fun _ => ok
  exact storesOk_setReg (put _) _ _

theorem pulseFired_pulseOn (ok : s.storesOk) (x : PulseSt) (v : Nat) :
    ((s.pulseOn k x).setReg (Reg.pulseState k) v).reg (Reg.pulseFired k) = min (s.reg (Reg.pulseFired k) + 1) (two32 - 1) := by
  have put : ∀ y, (s.setPulse k y).storesOk := fun _ => ok
  have other : Reg.pulseFired k ≠ Reg.pulseState k := by unfold Reg.pulseFired Reg.pulseState; omega
  exact (reg_setReg_ne (storesOk_pulseOn ok x) _ other).trans (reg_incReg (put _) _)

/-- What an event changes holds no register of the pulse outputs. -/
theorem pulse_not_mem_evKeys (hk : k < 4) : Reg.pulseFired k ∉ evKeys 18 ∧ Reg.pulseState k ∉ evKeys 18 := by
  interval_cases k <;> decide

end

/-! ### Edge capture (R284, R285) -/

section
variable {s : State} {k : Nat} {r : Bool}

/-- Input `k` takes level `r`. -/
def State.eciLevel (s : State) (k : Nat) (r : Bool) : State := { s with pins := { s.pins with eci := s.pins.eci.set k r } }

/-- What input `k` holds once it has seen an edge now. -/
def State.edgeSeen (s : State) (k : Nat) : EciSt := { s.eci k with edge := some s.clock.cclk }

/-- The record of an edge captured now (Table 9.11). -/
def State.edgeRecord (s : State) (r : Bool) : CapRec :=
  { time := s.now, edge := if r then 1 else 2, flags := s.captureFlags, tick := s.tickIdx % two32 }

/-- The input had held its level for 10 ns when an edge came now (R284). -/
def State.levelHeld (s : State) (k : Nat) : Bool := (s.eci k).edge.all fun x => decide (x + 10 ≤ s.clock.cclk)

/-- `s` with the record of an edge captured now on input `k`, before the pool is looked at. -/
def State.edgeTaken (s : State) (k : Nat) (r : Bool) : State :=
  ((s.eciLevel k r).setEci k { s.edgeSeen k with queue := (s.eci k).queue ++ [s.edgeRecord r], last := some s.clock.cclk }).seeDepth (52 + k)
    ((s.eci k).queue ++ [s.edgeRecord r]).length

theorem State.edgeIn_of_noInput (hk : 4 ≤ k) : s.edgeIn k r = s.eciLevel k r := by
  unfold State.edgeIn
  exact if_pos hk

theorem State.edgeIn_of_ignored (hk : k < 4) (h : s.alive = false ∨ edgeSelected (s.reg (Reg.eciEdgeSel k)) r = false) :
    s.edgeIn k r = (s.eciLevel k r).setEci k (s.edgeSeen k) := by
  unfold State.edgeIn
  dsimp only
  rw [if_neg (by omega)]
  refine if_pos ?_
  simp only [Bool.or_eq_true, Bool.not_eq_true']
  exact .inl h

/-- `s` after an edge captured on input `k` of which no record was lost: the pool is looked at, and EV19 raised. -/
def State.edgeCaptured (s : State) (k : Nat) (r : Bool) : State :=
  ((s.edgeTaken k r).poolCheck.addReg (Reg.eciLost k) 0).raise 19 (beBytes 1 k ++ beBytes 1 (if r then 1 else 2))

/-- A selected edge after a level held long enough is handled by when the last capture was. -/
theorem State.edgeIn_of_selected (ha : s.alive = true) (hk : k < 4) (sel : edgeSelected (s.reg (Reg.eciEdgeSel k)) r = true)
    (held : s.levelHeld k = true) :
    (∀ c, (s.eci k).last = some c → s.clock.cclk < c + 100 →
      s.edgeIn k r = ((s.eciLevel k r).setEci k (s.edgeSeen k)).incReg (Reg.eciLost k)) ∧
    ((s.eci k).last = none → (s.eci k).queue.length < 64 → 0 < s.poolFree →
      s.edgeIn k r = s.edgeCaptured k r) := by
  have alive : (s.eciLevel k r).alive = true := ha
  have selected : edgeSelected ((s.eciLevel k r).reg (Reg.eciEdgeSel k)) r = true := sel
  have taken : ((s.eci k).edge.all fun x => decide (x + 10 ≤ (s.eciLevel k r).clock.cclk)) = true := held
  have reaches : ¬(!(s.eciLevel k r).alive || !edgeSelected ((s.eciLevel k r).reg (Reg.eciEdgeSel k)) r ||
      !((s.eci k).edge.all fun x => decide (x + 10 ≤ (s.eciLevel k r).clock.cclk))) = true := by
    rw [alive, selected, taken]
    decide
  refine ⟨fun c last close => ?_, fun first room free => ?_⟩
  · unfold State.edgeIn
    dsimp only
    rw [if_neg (by omega)]
    refine (if_neg reaches).trans (if_pos ?_)
    simpa [last] using close
  · have pushed : pushRecord 64 (s.eciLevel k r).poolFree (s.eci k).queue (s.edgeRecord r) = ((s.eci k).queue ++ [s.edgeRecord r], 0) := by
      have some : ¬(s.eciLevel k r).poolFree = 0 := Nat.ne_of_gt free
      simp [pushRecord, pushOver, some, room]
    unfold State.edgeIn
    dsimp only
    rw [if_neg (by omega)]
    refine (if_neg reaches).trans ((if_neg (by simp [first])).trans ?_)
    generalize hq : pushRecord 64 _ _ _ = q
    obtain rfl : q = _ := hq.symm.trans pushed
    rfl

theorem keeps_eciLost (ok : s.storesOk) (n v : Nat) (x : EciSt) :
    Keeps [Reg.eciLost k] s (((s.eciLevel k r).setEci n x).setReg (Reg.eciLost k) v) := by
  have put : Keeps [Reg.eciLost k] s ((s.eciLevel k r).setEci n x) := ⟨ok, .of_regs rfl⟩
  exact put.setReg (by simp) v

/-- A capture changes what its record, the pool and the event change, and nothing else. -/
theorem State.edgeCaptured_eq (s : State) (k : Nat) (r : Bool) : s.edgeCaptured k r =
    { s.edgeTaken k r with regs := (s.edgeCaptured k r).regs, ev := (s.edgeCaptured k r).ev, q := (s.edgeCaptured k r).q
                           report := (s.edgeCaptured k r).report } := by
  have looked := State.poolCheck_eq (s.edgeTaken k r)
  unfold State.edgeCaptured
  rw [State.raise_eq]
  generalize (s.edgeTaken k r).poolCheck = u at looked ⊢
  rw [looked]
  rfl

theorem counted_edgeCaptured (ok : s.storesOk) (ha : s.alive = true) (hk : k < 4) : Counted 19 s (s.edgeCaptured k r) := by
  have taken : (s.edgeTaken k r).storesOk := ok
  have looked := storesOk_poolCheck taken
  have alive : ((s.edgeTaken k r).poolCheck.addReg (Reg.eciLost k) 0).alive = true := by
    rw [State.poolCheck_eq]
    exact ha
  have other : Reg.evCount 19 ≠ Reg.eciLost k := by unfold Reg.evCount Reg.eciLost; omega
  have before : ((s.edgeTaken k r).poolCheck.addReg (Reg.eciLost k) 0).reg (Reg.evCount 19) = s.reg (Reg.evCount 19) :=
    (reg_setReg_ne looked _ other).trans (evCount_poolCheck taken (by decide))
  exact (counted_raise (storesOk_setReg looked _ _) alive (by decide) _).of_reg before

end

/-! ### The statement -/

/-- Settles O50: `State.pulseEdge_of_*` say what an output does at its next edge, `State.edgeIn_of_*` what an input does with an edge. -/
theorem timedInputsAndOutputs : Obligations.TimedInputsAndOutputs := by
  unfold Obligations.TimedInputsAndOutputs
  refine ⟨fun k s h => congrArg s.done (State.pulseEdge_of_none h), fun k s ha hk on => congrArg s.done (State.pulseEdge_of_on ha hk on),
    fun k s ok ha hk hlen off mode unheld fresh ahead => ?_, fun k n s ok ha hk hlen off mode unheld next => ?_,
    fun k s off h => congrArg s.done (State.pulseEdge_of_held off h), fun k r s hk => congrArg s.done (State.edgeIn_of_noInput hk),
    fun k r s hk h => congrArg s.done (State.edgeIn_of_ignored hk h), fun k c r s ok ha hk sel held last close => ?_,
    fun k r s ok ha hk hlen sel held last room free => ?_⟩
  · obtain ⟨t, ht⟩ : ∃ t, t = (s.fired k).raise 18 (beBytes 1 k) := ⟨_, rfl⟩
    have frame := ht ▸ State.raise_eq (s.fired k) 18 (beBytes 1 k)
    obtain ⟨firedOther, stateOther⟩ := pulse_not_mem_evKeys hk
    have set : Keeps [Reg.pulseFired k, Reg.pulseState k] s (s.fired k) :=
      (keeps_reach ok _).trans (keeps_pulseOn (s := s.reach (s.pulseFrom k)) ok _ _)
    have raised : RegsKept (evKeys 18) (s.fired k) t := ht ▸ raise_kept set.stores 18 _
    have clock : t.clock = (s.fired k).clock := by rw [frame]
    have tio : t.tio = (s.fired k).tio := by rw [frame]
    refine ⟨t, ?_, clock, ?_, ?_, ?_, ?_, ?_, ?_⟩
    · exact (congrArg s.done ((State.pulseEdge_of_oneShot ha hk off mode unheld fresh ahead).trans ht.symm)).trans
        (State.done_of_pending (by rw [frame]; rfl))
    · rw [clock, State.pulse, tio]
      exact State.pulse_pulseOn (s := s.reach (s.pulseFrom k)) hlen _
    · exact (raised.reg firedOther).trans (pulseFired_pulseOn (s := s.reach (s.pulseFrom k)) ok _ _)
    · exact (raised.reg stateOther).trans (reg_setReg (storesOk_pulseOn (s := s.reach (s.pulseFrom k)) ok _) _ _)
    · have other : Reg.evCount 18 ∉ [Reg.pulseFired k, Reg.pulseState k] := by
        simp only [Reg.evCount, Reg.pulseFired, Reg.pulseState, List.mem_cons, List.not_mem_nil, or_false]
        omega
      exact (ht ▸ counted_raise set.stores ha (by decide) _ : Counted 18 (s.fired k) t).of_reg (set.reg other)
    · exact (set.regs.mono (by simp)).trans (raised.mono (by simp))
    · rw [frame]
      rfl
  · have kept := (keeps_reach ok n).trans (keeps_pulseOn (s := s.reach n) (k := k) ok
      { s.pulse k with next := some (n + s.reg (Reg.pulsePeriod k)) } 2)
    exact ⟨_, congrArg s.done (State.pulseEdge_of_periodic ha hk off mode unheld next), rfl, State.pulse_pulseOn (s := s.reach n) hlen _,
      reg_setReg (storesOk_pulseOn (s := s.reach n) ok _) _ _, kept.regs⟩
  · obtain ⟨lost, -⟩ := State.edgeIn_of_selected ha hk sel held
    refine ⟨_, congrArg s.done (lost c last close), ?_, ?_, rfl⟩
    · exact reg_incReg (s := (s.eciLevel k r).setEci k (s.edgeSeen k)) ok (Reg.eciLost k)
    · exact (keeps_eciLost ok k _ _).regs
  · obtain ⟨-, captured⟩ := State.edgeIn_of_selected ha hk sel held
    obtain ⟨t, ht⟩ : ∃ t, t = s.edgeCaptured k r := ⟨_, rfl⟩
    have frame := ht ▸ State.edgeCaptured_eq s k r
    have tio : t.tio = (s.edgeTaken k r).tio := by rw [frame]
    have eci : t.eci k = { s.edgeSeen k with queue := (s.eci k).queue ++ [s.edgeRecord r], last := some s.clock.cclk } := by
      rw [State.eci, tio]
      simp [State.edgeTaken, State.setEci, State.eciLevel, hlen]
    refine ⟨t, ?_, congrArg EciSt.queue eci, congrArg EciSt.last eci, ht ▸ counted_edgeCaptured ok ha hk, ?_⟩
    · exact (congrArg s.done ((captured last room free).trans ht.symm)).trans (State.done_of_pending (by rw [frame]; rfl))
    · rw [frame]
      rfl

end Sys2Proof.Machine

/-! PROOFS. The PTP messages that a master port and a port that measures its link send (R265, R267, R269, R270, R304). -/

namespace Sys2Proof.Machine

/-! ### A frame that leaves a port (R294, R298, R301, R304) -/

section
variable {s t u : State} {p q len : Nat} {o : Output}

/-- What becomes of a frame the unit builds: not built, discarded, kept waiting, or sent. -/
theorem State.tx_cases (s : State) (p len : Nat) (o : Output) : s.tx p len o = s ∨ s.tx p len o = s.incReg (Reg.cntTxDiscards p) ∨
    s.tx p len o = s.setPort p { s.port p with waiting := (s.port p).waiting ++ [(len, o)] } ∨ s.tx p len o = s.txNow p len o := by
  unfold State.tx State.txAny
  split_ifs
  · exact .inl rfl
  · exact .inr (.inl rfl)
  · exact .inr (.inr (.inl rfl))
  · exact .inr (.inr (.inr rfl))

theorem State.tx_of_sends (up : s.txDown p = false) (going : s.txPaused p = false) (fits : len ≤ s.reg (Reg.portMaxFrame p)) :
    s.tx p len o = s.txNow p len o := by
  simp [State.tx, State.txAny, up, going, Nat.not_lt.mpr fits]

/-- `s` with all that counting a frame, keeping it waiting or stamping it may change taken from `t`. -/
def State.withPort (s t : State) : State := { s with ports := t.ports, regs := t.regs, ev := t.ev, q := t.q, report := t.report }

theorem State.stamp_eq (s : State) (p : Nat) (x : Stamp) : s.stamp p x = s.withPort (s.stamp p x) := by
  unfold State.stamp
  extract_lets old q port queued looked
  have checked : looked = s.withPort looked := by
    unfold looked
    rw [State.poolCheck_eq]
    rfl
  clear_value looked
  split
  · exact checked
  · rw [State.raiseLoss_eq, checked]
    rfl

/-- What the stamp of a message that leaves port `p` at `ps` is kept for: t3 of a Delay_Req, t1 of a Pdelay_Req (R267, R272). -/
def PtpMsg.noted (m : PtpMsg) (p ps : Nat) (x : PtpSt) : PtpSt :=
  match m.kind with
  | 1 => { x with delayT3 := some ps }
  | 2 => { x with pdelay := x.pdelay.set p { x.pdelay.getD p {} with t1 := ps } }
  | _ => x

theorem PtpMsg.noted_of_kind {m : PtpMsg} (h1 : m.kind ≠ 1) (h2 : m.kind ≠ 2) (p ps : Nat) (x : PtpSt) : m.noted p ps x = x := by
  unfold PtpMsg.noted
  split
  · exact absurd ‹_› h1
  · exact absurd ‹_› h2
  · rfl

theorem State.stampOut_ptp (s : State) (p q : Nat) (m : PtpMsg) (b : Bytes) : ∃ u : State,
    s.stampOut p (.ptp q m b) = { s.withPort u with ptp := m.noted p (s.txPs p) s.ptp } := by
  unfold State.stampOut
  dsimp only
  have stamped := State.stamp_eq s p { time := s.txTime p, kind := 2, msg := m.kind, seq := m.seq }
  generalize s.stamp p _ = u at stamped
  split
  · exact ⟨s, by rw [PtpMsg.noted_of_kind (by omega) (by omega)]; rfl⟩
  · refine ⟨u, ?_⟩
    rw [stamped]
    obtain h | h | ⟨h1, h2⟩ : m.kind = 1 ∨ m.kind = 2 ∨ m.kind ≠ 1 ∧ m.kind ≠ 2 := by omega
    · rw [PtpMsg.noted, h]
      rfl
    · rw [PtpMsg.noted, h]
      rfl
    · rw [PtpMsg.noted_of_kind h1 h2]
      split
      · exact absurd ‹_› h1
      · exact absurd ‹_› h2
      · rfl

/-- A PTP message that leaves port `p` now. -/
theorem State.txNow_ptp (s : State) (p len q : Nat) (m : PtpMsg) (b : Bytes) : ∃ u : State,
    s.txNow p len (.ptp q m b) = { s.withPort u with ptp := m.noted p (s.txPs p) s.ptp, sent := .ptp q m b :: s.sent } := by
  obtain ⟨u, stamped⟩ := State.stampOut_ptp (s.txCount p len) p q m b
  refine ⟨u, ?_⟩
  unfold State.txNow
  rw [stamped]
  rfl

end

/-! ### What sending leaves as it is -/

section
variable {s t u : State} {b : Bool} {p q len : Nat} {o : Output} {d : Option AnnData} {mk : Nat → PtpMsg}

/-- `s` with all that sending may change taken from `t`: with `b` the stamp of a message and the events it brings, too. -/
def State.withTx (b : Bool) (s t : State) : State :=
  { s with ports := t.ports, regs := t.regs, rope := t.rope, sent := t.sent, ev := if b then t.ev else s.ev, q := if b then t.q else s.q
           report := if b then t.report else s.report }

/-- From `s` to `t` nothing but that changed. -/
def TxOnly (b : Bool) (s t : State) : Prop := t = s.withTx b t

theorem TxOnly.refl (b : Bool) (s : State) : TxOnly b s s := by cases b <;> rfl

theorem TxOnly.trans (h : TxOnly b s t) (g : TxOnly b t u) : TxOnly b s u := by
  unfold TxOnly at h g ⊢
  rw [g, h]
  cases b <;> rfl

theorem TxOnly.foldl {α : Type} {f : State → α → State} (h : ∀ t x, TxOnly b t (f t x)) (l : List α) (s : State) :
    TxOnly b s (l.foldl f s) := by
  induction l generalizing s with
  | nil => exact .refl b s
  | cons x l ih => exact (h s x).trans (ih _)

theorem TxOnly.incReg (b : Bool) (s : State) (k : Nat) : TxOnly b s (s.incReg k) := by cases b <;> rfl

theorem TxOnly.setPort (b : Bool) (s : State) (x : PortSt) : TxOnly b s (s.setPort p x) := by cases b <;> rfl

theorem TxOnly.tx (h : TxOnly b s (s.txNow p len o)) : TxOnly b s (s.tx p len o) := by
  obtain e | e | e | e := State.tx_cases s p len o
  · rw [e]; exact .refl b s
  · rw [e]; exact .incReg b s _
  · rw [e]; exact .setPort b s _
  · rw [e]; exact h

/-- A message of neither Delay_Req nor Pdelay_Req that leaves now: an Announce is not stamped. -/
theorem TxOnly.shown {m : PtpMsg} (h1 : m.kind ≠ 1) (h2 : m.kind ≠ 2) (dest : Nat) (d : Option AnnData) :
    TxOnly d.isNone t (t.txNow p len (s.ptpShown p dest m d)) := by
  cases d with
  | none =>
    obtain ⟨u, sent⟩ := State.txNow_ptp t p len p m (s.ptpIp p dest m none)
    rw [PtpMsg.noted_of_kind h1 h2] at sent
    exact sent.trans (congrArg (t.withTx true) sent).symm
  | some a => rfl

theorem TxOnly.sendRopeWith {dstk cls dst inner : Nat} {both : Bool} {mk : Nat → RopeTag → Output}
    (h : ∀ t p tag, TxOnly b t (t.txNow p len (mk p tag))) : TxOnly b s (s.sendRopeWith dstk cls dst inner len both mk) := by
  unfold State.sendRopeWith
  extract_lets seq one
  have each : ∀ t p, TxOnly b t (one t p) := fun t p => .tx (h t p _)
  split
  · exact .refl b s
  · split
    · exact .incReg b s _
    · have all := TxOnly.foldl each (s.ropePorts cls both) s
      dsimp only
      split
      · exact all.trans (by cases b <;> rfl)
      · exact all

theorem TxOnly.sendMaster {kind : Nat} (hk : ∀ q, (mk q).kind = kind) (h1 : kind ≠ 1) (h2 : kind ≠ 2) (p : Nat) (d : Option AnnData) :
    TxOnly d.isNone s (s.sendMaster p mk d) := by
  have k1 : ∀ q, (mk q).kind ≠ 1 := fun q => hk q ▸ h1
  have k2 : ∀ q, (mk q).kind ≠ 2 := fun q => hk q ▸ h2
  unfold State.sendMaster
  split
  · unfold State.sendPtpRope
    exact .sendRopeWith fun t q tag => .shown (k1 q) (k2 q) _ d
  · exact .tx (.shown (k1 p) (k2 p) _ d)

theorem State.sent_txNow_shown (t s : State) (p len dest : Nat) (m : PtpMsg) (d : Option AnnData) :
    (t.txNow p len (s.ptpShown p dest m d)).sent = s.ptpShown p dest m d :: t.sent := by
  cases d with
  | none =>
    obtain ⟨u, sent⟩ := State.txNow_ptp t p len p m (s.ptpIp p dest m none)
    exact congrArg State.sent sent
  | some a => rfl

/-- The length in which a PTP message leaves port `p`. -/
def State.ptpLen (s : State) (p : Nat) (m : PtpMsg) : Nat :=
  if p = 2 then 46 + (if s.reg (Reg.portVlan 2) = 0 then 0 else 4) + m.length else ropeLen (28 + m.length)

theorem State.sendPtp_of_sends {m : PtpMsg} {dest : Nat} (up : s.txDown p = false) (going : s.txPaused p = false)
    (fits : 54 + m.length ≤ s.reg (Reg.portMaxFrame p)) : s.sendPtp p dest m d = s.txNow p (s.ptpLen p m) (s.ptpShown p dest m d) := by
  have vlan : (if s.reg (Reg.portVlan 2) = 0 then 0 else 4) ≤ 4 := by split <;> omega
  refine State.tx_of_sends up going ?_
  unfold ropeLen
  split <;> omega

/-- On TRAIL, and on the rope when one port sends, a message of a master port leaves by that port once. -/
theorem State.sent_sendMaster (by_ : p = 2 ∧ q = 2 ∨ p < 2 ∧ s.ropePorts 1 false = [q]) (on : s.ropeOn = true) (up : s.txDown q = false)
    (going : s.txPaused q = false) (fits : 54 + (mk q).length ≤ s.reg (Reg.portMaxFrame q)) (same : (mk 0).length = (mk q).length) :
    (s.sendMaster p mk d).sent = s.ptpShown q (ptpGroup (mk q).kind) (mk q) d :: s.sent := by
  unfold State.sendMaster
  obtain ⟨rfl, rfl⟩ | ⟨rope, ports⟩ := by_
  · rw [if_neg (by decide), State.sendPtp_of_sends up going fits]
    exact State.sent_txNow_shown ..
  · have one : s.tx q (ropeLen (28 + (mk 0).length)) (s.ptpShown q (ptpGroup (mk q).kind) (mk q) d) =
        s.txNow q (ropeLen (28 + (mk 0).length)) (s.ptpShown q (ptpGroup (mk q).kind) (mk q) d) :=
      State.tx_of_sends up going (by unfold ropeLen; omega)
    rw [if_pos rope]
    simp only [State.sendPtpRope, State.sendRopeWith, on, ports, List.foldl_cons, List.foldl_nil, Bool.not_true, Bool.false_eq_true,
      if_false, one]
    split <;> exact State.sent_txNow_shown ..

end

/-! ### Periodic messages as they become due (R269, R270) -/

section
variable {s t : State} {p q n : Nat} {x : Master}

theorem State.ropeOn_of_hears (h : s.hears p = true) : s.ropeOn = true := by
  unfold State.hears at h
  exact (Bool.and_eq_true_iff.mp h).1

/-- The stamp of a message depends on the clock and the calibration alone. -/
theorem State.txPs_congr {u : State} (clock : t.clock = u.clock) (cal : t.cal = u.cal) (q : Nat) : t.txPs q = u.txPs q := by
  unfold State.txPs State.now State.txLatency
  rw [clock, cal]

/-- `s` when the Sync of port `p` is due, its number `n` and the instant of the next one noted. -/
def State.syncDue (s : State) (p n : Nat) : State :=
  let u := s.reachCclk (s.ptp.syncNext.getD (ptpSlot p) 0)
  { u with ptp := { s.ptp with
      syncSeq := s.ptp.syncSeq.set (ptpSlot p) n
      syncNext := s.ptp.syncNext.set (ptpSlot p) (u.clock.cclk + logCclk (toSigned 1 (s.reg Reg.logSync))) } }

/-- The Sync of number `n` that leaves by port `q`. -/
def State.syncMsg (s : State) (p n q : Nat) : PtpMsg := (s.syncDue p n).ptpOut 0 q n (toSigned 1 (s.reg Reg.logSync))

theorem State.syncSend_of_master (heard : s.hears p = true) (master : s.isMasterOn p = true)
    (hn : n = (s.ptp.syncSeq.getD (ptpSlot p) 0 + 1) % 65536) :
    s.syncSend p = (s.syncDue p n).sendMaster p (s.syncMsg p n) none := by
  unfold State.syncSend
  rw [if_pos (by rw [heard, master]; rfl), hn]
  rfl

theorem TxOnly.sync (s : State) (p n : Nat) : TxOnly true (s.syncDue p n) ((s.syncDue p n).sendMaster p (s.syncMsg p n) none) :=
  .sendMaster (kind := 0) (fun _ => rfl) (by decide) (by decide) p none

/-- The data set that a master port announces: its own as grandmaster, or its master's with one step more (R270). -/
def State.announced (s : State) : AnnData :=
  match s.master with
  | some x => { x.data with steps := x.data.steps + 1 }
  | none => s.ownData

theorem State.announced_eq {d : AnnData} (own : s.master = none → d = s.ownData)
    (of : ∀ x, s.master = some x → d = { x.data with steps := x.data.steps + 1 }) : s.announced = d := by
  unfold State.announced
  split
  · exact (of _ ‹_›).symm
  · exact (own ‹_›).symm

/-- `s` when the Announce of port `p` is due, its number `n` and the instant of the next one noted. -/
def State.annDue (s : State) (p n : Nat) : State :=
  let u := s.reachCclk (s.ptp.annNext.getD (ptpSlot p) 0)
  { u with ptp := { s.ptp with
      annSeq := s.ptp.annSeq.set (ptpSlot p) n
      annNext := s.ptp.annNext.set (ptpSlot p) (u.clock.cclk + logCclk (toSigned 1 (s.reg Reg.logAnnounce))) } }

/-- The Announce of number `n` that leaves by port `q`. -/
def State.annMsg (s : State) (p n q : Nat) : PtpMsg :=
  { (s.annDue p n).ptpOut 11 q n (toSigned 1 (s.reg Reg.logAnnounce)) with length := ptpLength 11 s.announced.path.length }

theorem State.announceSend_of_master (heard : s.hears p = true) (master : s.isMasterOn p = true)
    (hn : n = (s.ptp.annSeq.getD (ptpSlot p) 0 + 1) % 65536) :
    s.announceSend p = (s.annDue p n).sendMaster p (s.annMsg p n) (some s.announced) := by
  unfold State.announceSend
  rw [if_pos (by rw [heard, master]; rfl), hn]
  rfl

theorem TxOnly.announce (s : State) (p n : Nat) :
    TxOnly false (s.annDue p n) ((s.annDue p n).sendMaster p (s.annMsg p n) (some s.announced)) :=
  .sendMaster (kind := 11) (fun _ => rfl) (by decide) (by decide) p (some s.announced)

theorem State.periodic_of_idle (h : s.hears p = false ∨ s.isMasterOn p = false) : s.syncSend p = s ∧ s.announceSend p = s := by
  have idle : ¬(s.hears p && s.isMasterOn p) = true := by simpa [imp_iff_not_or] using h
  exact ⟨if_neg idle, if_neg idle⟩

end

/-! ### Requests that measure a path (R265, R267) -/

section
variable {s t : State} {p n : Nat} {x : Master}

/-- A message of 74 bytes at most that leaves port `p` alone, where nothing keeps it. -/
theorem State.sendPtp_of_portSends {m : PtpMsg} (sends : s.portSends p) (short : m.length ≤ 74) (dest : Nat) : ∃ t,
    s.sendPtp p dest m none = t ∧ t = { s.withPort t with
      ptp := m.noted p (s.txPs p) s.ptp, sent := .ptp p m (s.ptpIp p dest m none) :: s.sent } := by
  obtain ⟨up, going, fits⟩ := sends
  rw [State.sendPtp_of_sends up going (by omega)]
  obtain ⟨u, sent⟩ := State.txNow_ptp s p (s.ptpLen p m) p m (s.ptpIp p dest m none)
  exact ⟨_, sent, rfl⟩

/-- `s` when a Delay_Req is due, its number `n` and the instant of the next one noted. -/
def State.delayDue (s : State) (n : Nat) : State :=
  let u := s.reachCclk s.ptp.delayNext
  { u with ptp := { s.ptp with
      delaySeq := n, delayT3 := none, delayNext := u.clock.cclk + logCclk (toSigned 1 (s.reg Reg.logDelayReq)) } }

/-- The Delay_Req of number `n` that leaves TRAIL. -/
def State.delayMsg (s : State) (n : Nat) : PtpMsg :=
  { (s.delayDue n).ptpOut 1 2 n 0x7F with unicast := s.reg Reg.trailMode == 1 }

theorem State.delayReqSend_of_slave (heard : s.hears 2 = true) (mech : s.endToEnd 2 = true) (head : s.reg Reg.headRole = 3)
    (master : s.master = some x) (trail : x.rxPort = 2) (hn : n = (s.ptp.delaySeq + 1) % 65536) : s.delayReqSend =
      (s.delayDue n).sendPtp 2 (if s.reg Reg.trailMode = 1 then x.addr else ptpGroup 1) (s.delayMsg n) none := by
  have here : s.master.filter (fun y => y.rxPort == 2) = some x := by simp [master, trail]
  unfold State.delayReqSend
  rw [here]
  dsimp only
  rw [if_pos (by rw [heard, mech, head]; rfl), hn]
  simp only [beq_iff_eq]
  rfl

theorem State.delayReqSend_of_idle (h : s.hears 2 = false ∨ s.endToEnd 2 = false ∨ s.reg Reg.headRole ≠ 3 ∨
    (s.master.any fun x => x.rxPort == 2) = false) : s.delayReqSend = s := by
  unfold State.delayReqSend
  split
  · rfl
  · next x here =>
    obtain ⟨master, trail⟩ := Option.filter_eq_some_iff.mp here
    refine if_neg ?_
    simp only [master, Option.any_some, trail] at h
    simpa [imp_iff_not_or, or_assoc] using h

/-- `s` when the Pdelay_Req of port `p` is due, its number `n` and the instant of the next one noted. -/
def State.pdelayDue (s : State) (p n : Nat) : State :=
  let u := s.reachCclk (s.ptp.pdelay.getD p {}).next
  u.setPdelay p { seq := n, t1 := 0, waiting := true, two := none, next := u.clock.cclk + logCclk (toSigned 1 (s.reg Reg.logPdelay)) }

/-- The Pdelay_Req of number `n` that leaves by port `p`. -/
def State.pdelayMsg (s : State) (p n : Nat) : PtpMsg := (s.pdelayDue p n).ptpOut 2 p n (toSigned 1 (s.reg Reg.logPdelay))

theorem State.pdelaySend_of_measuring (heard : s.hears p = true) (mech : s.endToEnd p = false)
    (hn : n = ((s.ptp.pdelay.getD p {}).seq + 1) % 65536) : s.pdelaySend p =
      (s.pdelayDue p n).sendPtp p (ptpGroup 2) (s.pdelayMsg p n) none := by
  unfold State.pdelaySend
  dsimp only
  rw [if_pos (by rw [heard, mech]; rfl), hn]
  rfl

/-- The stamp of the request becomes t1 of the measurement begun. -/
theorem State.noted_pdelayDue {m : PtpMsg} (hlen : p < s.ptp.pdelay.length) (kind : m.kind = 2) (ps : Nat) :
    m.noted p ps (s.pdelayDue p n).ptp = { s.ptp with
      pdelay := s.ptp.pdelay.set p { seq := n, t1 := ps, waiting := true, two := none
                                     next := (s.pdelayDue p n).clock.cclk + logCclk (toSigned 1 (s.reg Reg.logPdelay)) } } := by
  rw [PtpMsg.noted, kind]
  simp [State.pdelayDue, State.setPdelay, hlen]

theorem State.pdelaySend_of_idle (h : s.hears p = false ∨ s.endToEnd p = true) : s.pdelaySend p = s := by
  unfold State.pdelaySend
  exact if_neg (by simpa [imp_iff_not_or] using h)

end

/-! ### The statement -/

/-- Settles O48: a periodic message is sent as it becomes due (`State.syncSend_of_master`, `State.announceSend_of_master`), a request to the
one port it measures (`State.delayReqSend_of_slave`, `State.pdelaySend_of_measuring`); sending leaves by `State.sent_sendMaster` and
`State.sendPtp_of_portSends`, and changes what `TxOnly` and `State.withPort` say. -/
theorem ptpMessagesSent : Obligations.PtpMessagesSent := by
  unfold Obligations.PtpMessagesSent
  refine ⟨fun p n s heard master hn => ?_, fun p s idle => ?_, fun p n s heard master hn => ?_,
    fun n x s heard mech head master trail sends hn => ?_, fun s idle => congrArg s.done (State.delayReqSend_of_idle idle),
    fun p n s heard mech sends hlen hn => ?_, fun p s idle => congrArg s.done (State.pdelaySend_of_idle idle)⟩
  · obtain ⟨t, ht⟩ : ∃ t, t = s.syncSend p := ⟨_, rfl⟩
    rw [State.syncSend_of_master heard master hn] at ht
    have frame : TxOnly true (s.syncDue p n) t := ht ▸ .sync s p n
    unfold TxOnly at frame
    have clock : t.clock = (s.syncDue p n).clock := by rw [frame]; rfl
    have cal : t.cal = (s.syncDue p n).cal := by rw [frame]; rfl
    refine ⟨t, ?_, clock, ?_, ?_, ?_⟩
    · refine (congrArg s.done ((State.syncSend_of_master heard master hn).trans ht.symm)).trans (State.done_of_pending ?_)
      rw [frame]
      rfl
    · rw [clock, frame]
      rfl
    · rintro q y by_ ⟨up, going, fits⟩ rfl
      have fits' : 54 + 44 ≤ s.reg (Reg.portMaxFrame q) := by omega
      have hs := State.sent_sendMaster (s := s.syncDue p n) (d := none) (mk := s.syncMsg p n)
        by_ (State.ropeOn_of_hears heard) up going fits' rfl
      rw [State.txPs_congr clock cal, ht]
      exact hs
    · rw [frame]
      rfl
  · obtain ⟨noSync, noAnnounce⟩ := State.periodic_of_idle idle
    exact ⟨congrArg s.done noSync, congrArg s.done noAnnounce⟩
  · obtain ⟨t, ht⟩ : ∃ t, t = s.announceSend p := ⟨_, rfl⟩
    rw [State.announceSend_of_master heard master hn] at ht
    have frame : TxOnly false (s.annDue p n) t := ht ▸ .announce s p n
    unfold TxOnly at frame
    have clock : t.clock = (s.annDue p n).clock := by rw [frame]; rfl
    refine ⟨t, ?_, clock, ?_, ?_, ?_⟩
    · refine (congrArg s.done ((State.announceSend_of_master heard master hn).trans ht.symm)).trans (State.done_of_pending ?_)
      rw [frame]
      rfl
    · rw [clock, frame]
      rfl
    · intro q d by_ up going fits own of
      have data := State.announced_eq own of
      have fits' : 54 + (64 + s.announced.path.length) ≤ s.reg (Reg.portMaxFrame q) := by rw [data]; omega
      have hs := State.sent_sendMaster (s := s.annDue p n) (d := some s.announced) (mk := s.annMsg p n)
        by_ (State.ropeOn_of_hears heard) up going fits' rfl
      rw [← ht, data] at hs
      exact ⟨_, _, hs, rfl, rfl, rfl, rfl⟩
    · rw [frame]
      rfl
  · have sends' : (s.delayDue n).portSends 2 := sends
    obtain ⟨t, ht, frame⟩ := State.sendPtp_of_portSends (m := s.delayMsg n) sends' (show 44 ≤ 74 by decide)
      (if s.reg Reg.trailMode = 1 then x.addr else ptpGroup 1)
    have clock : t.clock = (s.delayDue n).clock := by rw [frame]; rfl
    have cal : t.cal = (s.delayDue n).cal := by rw [frame]; rfl
    refine ⟨t, _, ?_, clock, ?_, rfl, ?_, ?_⟩
    · rw [← State.delayReqSend_of_slave heard mech head master trail hn] at ht
      refine (congrArg s.done ht).trans (State.done_of_pending ?_)
      rw [frame]
      rfl
    · rw [State.txPs_congr clock cal, clock, frame]
      rfl
    · rw [State.txPs_congr clock cal, frame]
      rfl
    · rw [frame]
      rfl
  · have sends' : (s.pdelayDue p n).portSends p := sends
    obtain ⟨t, ht, frame⟩ := State.sendPtp_of_portSends (m := s.pdelayMsg p n) sends' (show 54 ≤ 74 by decide) (ptpGroup 2)
    have clock : t.clock = (s.pdelayDue p n).clock := by rw [frame]; rfl
    have cal : t.cal = (s.pdelayDue p n).cal := by rw [frame]; rfl
    refine ⟨t, _, ?_, clock, ?_, rfl, ?_, ?_⟩
    · refine (congrArg s.done ((State.pdelaySend_of_measuring heard mech hn).trans ht)).trans (State.done_of_pending ?_)
      rw [frame]
      rfl
    · rw [State.txPs_congr clock cal, clock, frame]
      exact State.noted_pdelayDue (m := s.pdelayMsg p n) hlen rfl _
    · rw [State.txPs_congr clock cal, frame]
      rfl
    · rw [frame]
      rfl

end Sys2Proof.Machine

/-! PROOFS. PAUSE on a port that the unit does not have: the key of its PAUSE_STATE is the key of EVQ_LOST (R301, R445). -/

namespace Sys2Proof.Machine

/-! ### A watchdog on port 388 -/

/-- A unit in STAGING with a port 388 beside its three, held by a PAUSE with pause time left as the hold reaches PW_LIMIT, and no free cell in
the pool. -/
def strayPort : State :=
  { State.reset with
    mode := { mode := .staging }, belay := { leaked := State.reset.poolFree }
    ports := List.replicate 388 {} ++ [{ pauseEnd := some 1 }] }

theorem storesOk_strayPort : strayPort.storesOk := by unfold State.storesOk; decide +kernel

/-- Counted on past the three ports, the keys of 0x3000.08 reach 0x9100.08. -/
theorem portPauseState_eq_evqLost : Reg.portPauseState 388 = Reg.evqLost := rfl

/-- The watchdog puts 2 into the register, and the record of its EV27, lost for want of a cell, adds 1 to it. -/
theorem evqLost_pauseWatchdog_strayPort : (strayPort.pauseWatchdog 388).reg Reg.evqLost = 3 := by decide +kernel

/-- Refutes O46: its clause about PAUSE_WATCHDOG fails in `strayPort`. The clause bounds neither the port number nor the list of ports, and the
PAUSE_STATE of port 388 has the key of EVQ_LOST; EV27 comes after PAUSE_STATE is set, and where its record is lost (R445) the register reads 3
and not 2. On the unit's own ports no such keys meet, and `Instr.wf` admits no other port in the command. -/
theorem not_framesAndPause : ¬ Obligations.FramesAndPause := by
  unfold Obligations.FramesAndPause
  rintro ⟨-, -, -, -, -, -, -, -, -, -, -, watchdog, -⟩
  have held : (strayPort.port 388).pauseEnd = some 1 := by decide +kernel
  have beyond : (strayPort.port 388).holdFrom + strayPort.reg (Reg.portPwLimit 388) < 1 := by decide +kernel
  obtain ⟨-, t, ht, -, -, disregarded, -⟩ := watchdog 388 1 strayPort storesOk_strayPort rfl held beyond
  have outcome : t = { strayPort.pauseWatchdog 388 with pending := strayPort.pending } := (Host.Outcome.next.inj ht).symm
  have lost : t.reg Reg.evqLost = 3 := (reg_congr (by rw [outcome]) _).trans evqLost_pauseWatchdog_strayPort
  rw [portPauseState_eq_evqLost, lost] at disregarded
  cases disregarded

end Sys2Proof.Machine

/-! PROOFS. One step and runs of steps: the front command is taken, none is refused, and the stores stay canonical (R11). -/

namespace Sys2Proof.Machine

section
variable {s t : State}

/-! ### The outcome of every command -/

theorem execHandshakeExpire_eq_done (n : Nat) (s : State) : ∃ t, execHandshakeExpire n s = s.done t := by
  unfold execHandshakeExpire
  split <;> exact ⟨_, rfl⟩

theorem execLockoutEnd_eq_done (n : Nat) (s : State) : ∃ t, execLockoutEnd n s = s.done t := by
  unfold execLockoutEnd
  split <;> exact ⟨_, rfl⟩

theorem execSessionTimeout_eq_done (n : Nat) (s : State) : ∃ t, execSessionTimeout n s = s.done t := by
  unfold execSessionTimeout
  split <;> exact ⟨_, rfl⟩

theorem execDomainTransferTimeout_eq_done (n : Nat) (s : State) : ∃ t, execDomainTransferTimeout n s = s.done t := by
  unfold execDomainTransferTimeout
  split <;> exact ⟨_, rfl⟩

/-- Every command of the table ends in a next state, which leaves the waiting commands as they were. -/
theorem exec_eq_done (c : Instr) (s : State) : ∃ t, exec c s = s.done t := by
  cases c with
  | handshakeExpire n => exact execHandshakeExpire_eq_done n s
  | lockoutEnd n => exact execLockoutEnd_eq_done n s
  | sessionTimeout n => exact execSessionTimeout_eq_done n s
  | domainTransferTimeout n => exact execDomainTransferTimeout_eq_done n s
  | _ => exact ⟨_, rfl⟩

/-- A step has a next state, in which the front command is taken from those that wait. -/
theorem step_next (s : State) : ∃ t, step s = .next t ∧ t.pending = s.pending.drop 1 := by
  unfold step
  split
  · next none => exact ⟨s, rfl, by rw [none]; rfl⟩
  · next c rest front =>
    obtain ⟨t, ht⟩ := exec_eq_done c { s with pending := rest }
    exact ⟨_, ht, by rw [front]; rfl⟩

/-- A run is its first step and the run from there. -/
theorem run_succ {M : Host.Core} {s t : M.State} (n : Nat) (h : M.step s = .next t) : M.run (n + 1) s = M.run n t := by
  rw [Host.Core.run, h]

end

/-- Settles O1: `step` by the two forms of the queue. -/
theorem stepTakesFrontCommand : Obligations.StepTakesFrontCommand := by
  unfold Obligations.StepTakesFrontCommand
  refine ⟨fun c q s front => ?_, fun s none => ?_⟩
  · unfold step
    rw [front]
  · unfold step
    rw [none]

/-- Settles O2, by induction on the number of steps. -/
theorem everyRunGoesOn : Obligations.EveryRunGoesOn := by
  unfold Obligations.EveryRunGoesOn
  intro n
  induction n with
  | zero => exact fun s => ⟨s, rfl, rfl⟩
  | succ n ih =>
    intro s
    obtain ⟨t, ht, taken⟩ := step_next s
    obtain ⟨u, hu, left⟩ := ih t
    refine ⟨u, ?_, ?_⟩
    · exact (run_succ (M := Sys2Proof.core) n ht).trans hu
    · rw [left, taken, List.drop_drop, Nat.add_comm]

/-- Settles O3: it is part of `Good`, which every step keeps. -/
theorem storesStayCanonical : Obligations.StoresStayCanonical := by
  unfold Obligations.StoresStayCanonical
  exact fun s t ok h => (step_good h).stores ok

/-- Settles O4: every store is empty at reset. -/
theorem resetStoresCanonical : Obligations.ResetStoresCanonical := by
  unfold Obligations.ResetStoresCanonical
  exact ⟨rfl, rfl, rfl, rfl⟩

end Sys2Proof.Machine

/-! PROOFS. What the raise of an event counts, marks and queues, and EV34 of the cell pool (R379, R443, R445). -/

namespace Sys2Proof.Machine

section
variable {s : State} {ev : Nat} {p : Bytes}

/-! ### The pool looked at while no EV34 can come of it -/

/-- Where no EV34 can come of the pool, looking at it changes POOL_MIN alone and raises nothing. -/
theorem poolCheck_of_quiet (ok : s.storesOk) (quiet : s.poolQuiet) :
    s.poolCheck.ev = s.ev ∧ ∀ k, k ≠ Reg.poolMin → s.poolCheck.reg k = s.reg k := by
  have min : s.minPool.ev = s.ev ∧ ∀ k, k ≠ Reg.poolMin → s.minPool.reg k = s.reg k :=
    ⟨by unfold State.minPool; rw [State.minReg_eq], fun _ hk => reg_minPool ok hk⟩
  unfold State.poolCheck
  dsimp only
  split
  · exact min
  · next low =>
    have spent : s.q.lowArmed = false := quiet.resolve_left low
    rw [if_neg (fun h => by rw [spent] at h; exact Bool.false_ne_true h.2.1)]
    split
    · exact min
    · exact min

/-- Neither the count nor the record of an event arms EV34. -/
theorem poolQuiet_markEv (ok : s.storesOk) (hev : ev < 64) (quiet : s.poolQuiet) (n : Nat) : (s.markEv ev n).poolQuiet := by
  have low : (s.markEv ev n).reg Reg.poolLowCells = s.reg Reg.poolLowCells :=
    (markEv_kept ok ev n).reg (by simp [Reg.evCount, Reg.poolLowCells, Reg.pending]; omega)
  unfold State.poolQuiet
  rw [low]
  exact quiet

theorem poolQuiet_pushEv (ok : s.storesOk) (quiet : s.poolQuiet) (r : EvRec) : (s.pushEv r).poolQuiet := by
  unfold State.poolQuiet
  rw [reg_pushEv ok r (by decide)]
  exact quiet

theorem poolQuiet_noteEv (ok : s.storesOk) (hev : ev < 64) (quiet : s.poolQuiet) : (s.noteEv ev p).poolQuiet := by
  have marked := poolQuiet_markEv ok hev quiet 1
  unfold State.noteEv
  extract_lets t
  split
  · exact poolQuiet_pushEv (storesOk_markEv ok ev 1) marked _
  · exact marked

/-! ### The counts -/

/-- Looking at the pool leaves the count of an event that is not EV34, or that no EV34 can follow. -/
theorem evCount_poolCheck_of (ok : s.storesOk) (h : ev ≠ 34 ∨ s.poolQuiet) :
    s.poolCheck.reg (Reg.evCount ev) = s.reg (Reg.evCount ev) := by
  rcases h with other | quiet
  · exact evCount_poolCheck ok other
  · exact (poolCheck_of_quiet ok quiet).2 _ (by unfold Reg.evCount Reg.poolMin; omega)

theorem counted_raise_of (ok : s.storesOk) (alive : s.alive = true) (hev : ev < 64) (h : ev ≠ 34 ∨ s.poolQuiet) :
    Counted ev s (s.raise ev p) := by
  have noted := counted_noteEv ok ev p
  have stores := storesOk_noteEv ok ev p
  unfold State.raise
  rw [if_pos alive]
  exact ⟨(evCount_poolCheck_of stores (h.imp_right fun quiet => poolQuiet_noteEv ok hev quiet)).trans noted.1, pending_poolCheck stores noted.2⟩

/-- The event of a loss counts every item lost. -/
theorem counted_raiseLoss_of (ok : s.storesOk) (alive : s.alive = true) (hev : ev < 64) (h : ev ≠ 34 ∨ s.poolQuiet) (q n : Nat) :
    (s.raiseLoss ev q n p).reg (Reg.evCount ev) = min (s.reg (Reg.evCount ev) + n) (two32 - 1) ∧
      bit ((s.raiseLoss ev q n p).reg Reg.pending) ev = true := by
  have count := reg_markEv_count ok ev n
  have pending : bit ((s.markEv ev n).reg Reg.pending) ev = true := by rw [reg_markEv_pending ok, bit_setBit]; simp
  unfold State.raiseLoss
  rw [if_pos alive]
  dsimp only
  split
  · generalize (ev, q) :: (s.markEv ev n).ev.merged = m
    generalize hr : EvRec.mk ev true _ _ _ = r
    have stores : ({ s.markEv ev n with ev := { (s.markEv ev n).ev with merged := m } } : State).storesOk := storesOk_markEv ok ev n
    have quiet (g : s.poolQuiet) : ({ s.markEv ev n with ev := { (s.markEv ev n).ev with merged := m } } : State).poolQuiet :=
      poolQuiet_markEv ok hev g n
    have pushed := storesOk_pushEv stores r
    constructor
    · rw [evCount_poolCheck_of pushed (h.imp_right fun g => poolQuiet_pushEv stores (quiet g) r),
        reg_pushEv stores r (by unfold Reg.evCount Reg.evqLost; omega)]
      exact count
    · refine pending_poolCheck pushed ?_
      rw [reg_pushEv stores r (by decide)]
      exact pending
  · exact ⟨count, pending⟩

/-! ### PENDING -/

/-- The bits of other events stand as they were. -/
theorem bit_pending_noteEv_other (ok : s.storesOk) {b : Nat} (hb : b ≠ ev) :
    bit ((s.noteEv ev p).reg Reg.pending) b = bit (s.reg Reg.pending) b := by
  rw [reg_noteEv ok _ _ (by decide), reg_markEv_pending ok, bit_setBit, decide_eq_false (Ne.symm hb), Bool.or_false]

theorem bit_pending_poolCheck_other (ok : s.storesOk) {b : Nat} (hb : b ≠ 34) :
    bit (s.poolCheck.reg Reg.pending) b = bit (s.reg Reg.pending) b := by
  have min (u : State) (hu : u.storesOk) : u.minPool.reg Reg.pending = u.reg Reg.pending := reg_minPool hu (by decide)
  have lowered : ({ s.minPool with q := { s.minPool.q with lowArmed := false } } : State).storesOk := storesOk_minPool ok
  unfold State.poolCheck
  dsimp only
  split_ifs
  · rw [min s ok]
  · unfold State.poolEvent
    rw [min _ (storesOk_noteEv lowered _ _), bit_pending_noteEv_other lowered hb]
    exact congrArg (bit · b) (min s ok)
  · exact congrArg (bit · b) (min s ok)
  · rw [min s ok]

theorem bit_pending_raise_other (ok : s.storesOk) (alive : s.alive = true) {b : Nat} (hb : b ≠ ev) (hpool : b ≠ 34) :
    bit ((s.raise ev p).reg Reg.pending) b = bit (s.reg Reg.pending) b := by
  unfold State.raise
  rw [if_pos alive, bit_pending_poolCheck_other (storesOk_noteEv ok _ _) hpool, bit_pending_noteEv_other ok hb]

/-- Where no EV34 can come of the record's cell, its bit too stands as it was. -/
theorem bit_pending_raise_quiet (ok : s.storesOk) (alive : s.alive = true) (hev : ev < 64) (quiet : s.poolQuiet) (other : ev ≠ 34) :
    bit ((s.raise ev p).reg Reg.pending) 34 = bit (s.reg Reg.pending) 34 := by
  unfold State.raise
  rw [if_pos alive, (poolCheck_of_quiet (storesOk_noteEv ok _ _) (poolQuiet_noteEv ok hev quiet)).2 _ (by decide),
    bit_pending_noteEv_other ok (Ne.symm other)]

/-! ### The event queue -/

/-- A record that no record of its instant outranks stands at the tail (R445). -/
theorem placeEv_tail {r : EvRec} {l : List EvRec} (h : ∀ x ∈ l, x.time = r.time → x.ev ≤ r.ev) : placeEv r l = l ++ [r] := by
  induction l with
  | nil => rfl
  | cons x l ih =>
    have stays : ((x :: l).all fun y => y.time == r.time && decide (r.ev < y.ev)) = false := by
      refine List.all_eq_false.mpr ⟨x, by simp, ?_⟩
      simp only [Bool.and_eq_true, beq_iff_eq, decide_eq_true_eq, not_and, Nat.not_lt]
      exact h x (by simp)
    unfold placeEv
    rw [stays, if_neg Bool.false_ne_true, ih fun y hy => h y (by simp [hy])]
    rfl

/-- With room in the queue and a free cell the record enters it and none is lost. -/
theorem queue_pushEv {r : EvRec} (free : 0 < s.poolFree) (room : s.ev.queue.length < 1024)
    (h : ∀ x ∈ s.ev.queue, x.time = r.time → x.ev ≤ r.ev) : (s.pushEv r).ev.queue = s.ev.queue ++ [r] := by
  have pushed : pushRecord 1024 s.poolFree s.ev.queue r = (s.ev.queue ++ [r], 0) := by
    unfold pushRecord pushOver
    rw [if_neg (by omega)]
    simp [room]
  show (if (pushRecord 1024 s.poolFree s.ev.queue r).1.isEmpty then [] else placeEv r (pushRecord 1024 s.poolFree s.ev.queue r).1.dropLast) = _
  rw [pushed]
  simp [placeEv_tail h]

/-- Steps 1 and 2 of R443 take no cell. -/
theorem poolFree_markEv (ok : s.storesOk) (hev : ev < 64) (n : Nat) : (s.markEv ev n).poolFree = s.poolFree := by
  have kept := markEv_kept ok ev n
  unfold State.poolFree
  rw [kept.reg (k := Reg.poolCells) (by simp [Reg.evCount, Reg.poolCells, Reg.pending]; omega), kept.reg (k := Reg.reservedCells) (by simp [Reg.evCount, Reg.reservedCells, Reg.pending]; omega)]
  rfl

theorem evQueued_markEv (ok : s.storesOk) (hev : ev < 64) (n : Nat) : (s.markEv ev n).evQueued ev = s.evQueued ev := by
  have kept := markEv_kept ok ev n
  unfold State.evQueued
  rw [kept.reg (k := Reg.mask) (by simp [Reg.evCount, Reg.mask, Reg.pending]; omega), kept.reg (k := Reg.routeQ) (by simp [Reg.evCount, Reg.routeQ, Reg.pending]; omega)]

theorem raise_ev_of_quiet (ok : s.storesOk) (alive : s.alive = true) (hev : ev < 64) (quiet : s.poolQuiet) :
    (s.raise ev p).ev = (s.noteEv ev p).ev := by
  unfold State.raise
  rw [if_pos alive]
  exact (poolCheck_of_quiet (storesOk_noteEv ok _ _) (poolQuiet_noteEv ok hev quiet)).1

/-- An event masked, or not routed to Q, leaves the queue as it was. -/
theorem queue_raise_unqueued (ok : s.storesOk) (alive : s.alive = true) (hev : ev < 64) (quiet : s.poolQuiet) (h : s.evQueued ev = false) :
    (s.raise ev p).ev.queue = s.ev.queue := by
  rw [raise_ev_of_quiet ok alive hev quiet]
  unfold State.noteEv
  extract_lets t
  rw [if_neg (by rw [evQueued_markEv ok hev 1, h]; exact Bool.false_ne_true)]
  rfl

/-- An event that is not masked and routed to Q leaves its record at the tail. -/
theorem queue_raise_queued (ok : s.storesOk) (alive : s.alive = true) (hev : ev < 64) (quiet : s.poolQuiet) (h : s.evQueued ev = true)
    (free : 0 < s.poolFree) (room : s.ev.queue.length < 1024) (last : ∀ r ∈ s.ev.queue, r.time = s.now → r.ev ≤ ev) :
    (s.raise ev p).ev.queue =
      s.ev.queue ++ [{ ev := ev, merged := false, time := s.now, tick := s.tickIdx, payload := p.take 12 }] := by
  have tick : (s.markEv ev 1).tickIdx = s.tickIdx := (markEv_kept ok ev 1).reg (k := Reg.tickIndex) (by simp [Reg.evCount, Reg.tickIndex, Reg.pending]; omega)
  have freed : 0 < (s.markEv ev 1).poolFree := by rwa [poolFree_markEv ok hev]
  rw [raise_ev_of_quiet ok alive hev quiet]
  unfold State.noteEv
  extract_lets t
  rw [if_pos (by rw [evQueued_markEv ok hev 1, h]), tick]
  exact queue_pushEv (s := s.markEv ev 1) freed room last

/-! ### EV34 -/

/-- EV34 is raised once when the free cells have fallen to POOL_LOW_CELLS (R379). -/
theorem counted_poolCheck_low (ok : s.storesOk) (alive : s.alive = true) (armed : s.q.lowArmed = true)
    (low : s.poolFree ≤ s.reg Reg.poolLowCells) (set : 0 < s.reg Reg.poolLowCells) :
    Counted 34 s s.poolCheck ∧ s.poolCheck.q.lowArmed = false := by
  have raised : s.poolCheck = s.minPool.poolEvent := by
    unfold State.poolCheck
    dsimp only
    rw [if_neg (by omega), if_pos ⟨low, armed, alive⟩]
  have spent : ({ s.minPool with q := { s.minPool.q with lowArmed := false } } : State).storesOk := storesOk_minPool ok
  have count : s.minPool.reg (Reg.evCount 34) = s.reg (Reg.evCount 34) := reg_minPool ok (by decide)
  have noted := counted_noteEv spent 34 (beBytes 4 s.minPool.poolFree)
  have stores := storesOk_noteEv spent 34 (beBytes 4 s.minPool.poolFree)
  have frame := State.noteEv_eq { s.minPool with q := { s.minPool.q with lowArmed := false } } 34 (beBytes 4 s.minPool.poolFree)
  have unarmed : (State.noteEv { s.minPool with q := { s.minPool.q with lowArmed := false } } 34 (beBytes 4 s.minPool.poolFree)).q.lowArmed
      = false := by
    unfold State.noteEv
    extract_lets t
    split <;> rfl
  rw [raised]
  unfold State.poolEvent
  refine ⟨⟨?_, ?_⟩, ?_⟩
  · rw [reg_minPool stores (by decide), noted.1]
    exact congrArg (fun n => min (n + 1) (two32 - 1)) count
  · rw [reg_minPool stores (by decide)]
    exact noted.2
  · unfold State.minPool at unarmed ⊢
    rw [State.minReg_eq]
    exact unarmed

end

/-- Settles O8: the count, the bit and the record of an event, each through `noteEv` and the look at the pool that follows it. -/
theorem eventsAreRecorded : Obligations.EventsAreRecorded := by
  unfold Obligations.EventsAreRecorded
  refine ⟨fun ev p s dead => ?_, fun ev p s ok alive hev => ⟨raise_kept ok ev p, fun b _ hb hpool => bit_pending_raise_other ok alive hb hpool,
    fun h => ⟨counted_raise_of ok alive hev h, fun q n => counted_raiseLoss_of ok alive hev h q n⟩, fun quiet => ⟨?_, ?_, ?_⟩⟩,
    fun s ok alive armed low set => counted_poolCheck_low ok alive armed low set⟩
  · unfold State.raise
    rw [dead]
    rfl
  · exact fun other => bit_pending_raise_quiet ok alive hev quiet other
  · intro h
    refine queue_raise_unqueued ok alive hev quiet ?_
    unfold State.evQueued
    rcases h with masked | unrouted
    · rw [masked]; rfl
    · rw [unrouted, Bool.and_false]
  · intro unmasked routed free room last
    refine queue_raise_queued ok alive hev quiet ?_ free room last
    unfold State.evQueued
    rw [unmasked, routed]
    rfl

end Sys2Proof.Machine

/-! PROOFS. A rope link that breaks and a prefetch that faults, each with an entry to DARK in the same command (R318, R319, R392, R399), and
the result of a DOMAIN_BEGIN that names no subindex (R346). -/

namespace Sys2Proof.Machine

/-! ### A link lost in STAGING -/

/-- A unit in STAGING, every domain ON, the link of ROPE-A UP, with DARK as the policy of ROPE_LINK. Among the requests for SHOW that the
entry to DARK refuses stands a command whose subindex is BREAKS, 0x3101.09. -/
def breakingUnit : State :=
  { (State.reset.setReg (Reg.policy 0x15) 2).setReg Reg.linkAState 3 with
    mode := { mode := .staging, showReqs := [{ org := .localPort, ix := 0x3101, sub := 9, val := [] }] }
    power := { dom := List.replicate 10 2 } }

theorem storesOk_breakingUnit : breakingUnit.storesOk := by unfold State.storesOk; decide +kernel

/-- The refusal writes 3, the state of a refused command, into BREAKS before the break is counted. -/
theorem breaks_heartbeatLoss_breakingUnit : (breakingUnit.heartbeatLoss 0).reg Reg.breaks_3101 = 4 := by decide +kernel

/-- Refutes O51: its clause about a link lost from UP fails in `breakingUnit`. The break captures ROPE_LINK (R319) before BREAKS is counted;
its reaction enters DARK, and the entry refuses every command in `showReqs`, writing 3 to the key of each (R487). The statement does not ask
that these be REQ_SHOW commands, and it allows the policy DARK; where one has the key of BREAKS, 4 is read and not 1. No command of the model
puts anything but REQ_SHOW there. -/
theorem not_ropeLinks : ¬ Obligations.RopeLinks := by
  unfold Obligations.RopeLinks
  rintro ⟨-, -, -, -, -, lost, -⟩
  obtain ⟨t, ht, -, counted, -⟩ := lost 0 breakingUnit storesOk_breakingUnit (by decide +kernel) (by decide) (by decide +kernel)
  have outcome : t = { breakingUnit.heartbeatLoss 0 with pending := breakingUnit.pending } := (Host.Outcome.next.inj ht).symm
  have overwritten : t.reg Reg.breaks_3101 = 4 := (reg_congr (by rw [outcome]) _).trans breaks_heartbeatLoss_breakingUnit
  have before : breakingUnit.reg Reg.breaks_3101 = 0 := by decide +kernel
  rw [overwritten, before] at counted
  cases counted

/-! ### A prefetch that faults in STAGING -/

/-- A task whose descriptor is 64 bytes of 0xFF: any engine may take it, and its TYPE does not exist. -/
def badTask : Task := { id := 1, desc := 0, entry := none, list := 0, order := 0, due := none, row := List.replicate 64 255 }

/-- A unit in STAGING, every domain ON, with DARK as the policy of TASK_FAULT; `badTask` is ready and engine 0 is free. Among the requests
for SHOW that the entry to DARK refuses stands a command whose subindex is TASK_FAULTS, 0x8900.0B. -/
def badlyReadied : State :=
  { State.reset.setReg (Reg.policy 0x0F) 2 with
    mode := { mode := .staging, showReqs := [{ org := .localPort, ix := 0x8900, sub := 0x0B, val := [] }] }
    power := { dom := List.replicate 10 2 }, sched := { ready := [[badTask], [], [], [], [], [], [], []], engines := [{}] } }

theorem storesOk_badlyReadied : badlyReadied.storesOk := by unfold State.storesOk; decide +kernel

/-- The refusal writes 3, the state of a refused command, over TASK_FAULTS. -/
theorem taskFaults_prefetch_badlyReadied : (badlyReadied.prefetch 0).reg Reg.taskFaults = 3 := by decide +kernel

/-- Refutes O54: its clause about a prefetch whose descriptor fails the range check fails in `badlyReadied`. The fault is counted (R399) and
TASK_FAULT captured in STAGING; its reaction enters DARK, and the entry refuses every command in `showReqs`, writing 3 to the key of each
(R487). The statement does not ask that these be REQ_SHOW commands, and it allows the policy DARK; where one has the key of TASK_FAULTS, the
count is lost. No command of the model puts anything but REQ_SHOW there. -/
theorem not_schedulerMoves : ¬ Obligations.SchedulerMoves := by
  unfold Obligations.SchedulerMoves
  rintro ⟨-, -, -, -, -, -, -, prefetched, -⟩
  obtain ⟨-, faulted⟩ := prefetched 0 badTask badTask badlyReadied storesOk_badlyReadied (by decide +kernel) (by decide +kernel)
    (by decide +kernel) (by decide +kernel) (by decide +kernel)
  obtain ⟨t, ht, counted, -⟩ := faulted (.inr (by decide +kernel))
  have outcome : t = { badlyReadied.prefetch 0 with pending := badlyReadied.pending } := (Host.Outcome.next.inj ht).symm
  have lost : t.reg Reg.taskFaults = 3 := (reg_congr (by rw [outcome]) _).trans taskFaults_prefetch_badlyReadied
  have before : badlyReadied.reg Reg.taskFaults = 0 := by decide +kernel
  rw [lost, before] at counted
  cases counted

/-! ### A DOMAIN_BEGIN of subindex 256 -/

/-- A unit in STAGING. -/
def stagedUnit : State := { State.reset with mode := { mode := .staging } }

/-- Refutes O29: its clause about a refused read fails for index 0 and subindex 256. The model answers with the index and the subindex that
were named, as they came; the statement's answer is that of `Reg.key 0 256`, which reads as index 1 and subindex 0. The statement does not ask
that the subindex be a byte. -/
theorem not_transferBlocksMove : ¬ Obligations.TransferBlocksMove := by
  unfold Obligations.TransferBlocksMove
  rintro ⟨⟨-, -, refused⟩, -⟩
  have answer := refused .localPort .operator 0 256 0 0 stagedUnit (by decide +kernel) (by decide +kernel) (by decide +kernel)
  have sent := congrArg State.sent (Host.Outcome.next.inj answer)
  exact absurd sent (by decide +kernel)

end Sys2Proof.Machine

/-! SUPPORT. The commands of chapters 13 to 15, and commands of no change class that are refused as they are carried out (R361, R487). -/

namespace Sys2Proof.Machine

section
variable {s t : State} {o : Origin} {k st code : Nat} {r : Role} {v : Bytes} {x : Obj} {c : LCmd}

/-- From index 8100h on the commands are those of the core. -/
theorem State.runCmd_core (h : 0x8100 ≤ c.ix) : s.runCmd c = s.runCore c := by
  unfold State.runCmd
  rw [if_neg (by omega), if_neg (by omega)]

/-- A command that the value 1 starts. -/
theorem cmdRow_now (h : isNowRow k r = true) (hrule : hasArrivalRule (k / 256) (k % 256) = false) : ∃ x, CmdRow k r [1] x := by
  obtain ⟨x, hx⟩ := nowRow_of_isNowRow h
  exact ⟨x, hx.row, hx.cmd, hx.chg, hx.role, hrule, hx.legal⟩

/-- A command whose number may have any value. -/
theorem cmdRow_number {n : Nat} (m : Nat) (h : isCmdRow k r (.u n) .any = true) (hrec : carriesRecord (k / 256) (k % 256) = false) :
    ∃ x, CmdRow k r (beBytes n m) x :=
  cmdRow_of_isCmdRow h fun x hty hg =>
    { form := .inl (by rw [hty, beBytes_length])
      listed := fun c => by rw [hg]; rfl
      applied := fun c => by unfold Obj.applied; rw [hg]; rfl
      fields := recordListed_of_plain hrec
      unclamped := recordClamp_of_plain hrec }

/-- A command whose value is a record of `n` bytes of any kind. -/
theorem cmdRow_record {n : Nat} (hlen : v.length = n) (h : isCmdRow k r (.oct n n) .any = true)
    (hf : ∀ d t, recordListed d t (k / 256) (k % 256) v = true) (hc : recordClamp (k / 256) (k % 256) v = ([], v)) :
    ∃ x, CmdRow k r v x :=
  cmdRow_of_isCmdRow h fun x hty hg =>
    { form := .inr ⟨n, n, hty, hlen.ge, hlen.le⟩
      listed := fun c => by rw [hg]; rfl
      applied := fun c => by unfold Obj.applied; rw [hg]; rfl
      fields := hf
      unclamped := hc }

/-- The checks of R16 on such a command. -/
theorem CmdRow.checkWrite {q : Role} (hx : CmdRow k r v x) (hq : r.rank ≤ q.rank) (hd : s.domOn (odDomain (k / 256)) = true) :
    s.checkWrite o q (k / 256) (k % 256) x.ty.code v = (0, some x) := by
  have hix := odFind_ix_lt hx.row
  have target : s.checkTarget (s.writeRole o q (k / 256) (k % 256)) .observer (k / 256) (k % 256) true Acc.writable = (0, some x) :=
    checkTarget_ok (.inl (by omega)) hx.row (by rw [hx.role]; exact hq.trans State.rank_le_writeRole) (by rw [hx.cmd]; rfl) hd
  unfold State.checkWrite
  rw [target]
  exact congrArg (·, some x) (hx.legal.checkValue_of_chg hx.chg hx.noRule)

/-- A command refused as it is carried out leaves a reject record. -/
theorem CmdRow.rowWrite_refused (hx : CmdRow k r v x) (hu : s.canUse o r (odDomain (k / 256)))
    (run : (s.touch o).runCmd { org := o, ix := k / 256, sub := k % 256, val := v } = (code, st, t)) (hcode : code ≠ 0)
    (alive : t.alive = true) : s.rowWrite o (k / 256) (k % 256) v =
      ((t.setReg k st).rejected (k / 256) (k % 256) o.source code 0 0).send (.result o code (k / 256) (k % 256) 0 []) := by
  obtain ⟨ha, ⟨q, hr, hq⟩, hd⟩ := hu
  have set : t.cmdState (Reg.key (k / 256) (k % 256)) st = t.setReg k st := congrArg (t.setReg · st) (key_div_mod k)
  have put : (s.touch o).putWrite o x (k / 256) (k % 256) v =
      (code, (t.setReg k st).rejected (k / 256) (k % 256) o.source code 0 0) := by
    unfold State.putWrite
    rw [if_pos hx.cmd, if_neg (by rw [hx.chg]; nofun)]
    unfold State.cmdNow
    dsimp only
    rw [run, if_neg hcode, set]
    exact congrArg (code, ·) (if_pos alive)
  rw [State.rowWrite_of_row ha hr hx.row, State.opWrite_of_checks (hx.checkWrite hq (by rwa [State.touch_domOn]))
    (State.arrivalRefused_of_noRule hx.noRule _) (fun _ hl => by rw [hx.chg] at hl; cases hl) hx.legal.clampWrite, put]
  rfl

/-- Its outcome: its state, the reject record with EV45, the result sent, and all else as carrying it out left it. -/
theorem CmdRow.exec_refused (hx : CmdRow k r v x) (hu : s.canUse o r (odDomain (k / 256)))
    (run : (s.touch o).runCmd { org := o, ix := k / 256, sub := k % 256, val := v } = (code, st, t)) (hcode : code ≠ 0)
    (hk : k ∉ rejectKeys) (ok : t.storesOk) (alive : t.alive = true) (pending : t.pending = s.pending) :
    ∃ w, s.done (s.rowWrite o (k / 256) (k % 256) v) = .next w ∧ w.reg k = st ∧ Keeps (k :: rejectKeys) t w ∧ Counted 45 t w ∧
      w = { t with regs := w.regs, ev := w.ev, q := w.q, report := w.report
                   sent := .result o code (k / 256) (k % 256) 0 [] :: t.sent } := by
  have set : Keeps (k :: rejectKeys) t (t.setReg k st) := (Keeps.refl ok).setReg (by simp) st
  have kept := keeps_rejected set.stores (k / 256) (k % 256) o.source code 0 0
  have hc : Reg.evCount 45 ≠ k := fun h => hk (by rw [← h]; decide)
  have counted := (counted_rejected set.stores (show (t.setReg k st).alive = true from alive) (k / 256) (k % 256) o.source code 0 0).of_reg
    (s := t) (reg_setReg_ne ok st hc)
  have frame := State.rejected_eq (t.setReg k st) (k / 256) (k % 256) o.source code 0 0
  have read := (kept.reg hk).trans (reg_setReg ok k st)
  have out := hx.rowWrite_refused hu run hcode alive
  generalize (t.setReg k st).rejected (k / 256) (k % 256) o.source code 0 0 = u at kept counted frame read out
  have held : u.pending = s.pending := by rw [frame]; exact pending
  refine ⟨_, (congrArg s.done out).trans (State.done_of_pending held), read, ?_, ⟨counted.1, counted.2⟩, ?_⟩
  · exact ⟨kept.stores, set.regs.trans (kept.regs.mono (List.subset_cons_self _ _))⟩
  · rw [frame]
    rfl

end

end Sys2Proof.Machine

/-! PROOFS. FIRST_CLEAR, FAULT_ACK, DARK_RELEASE, FAULT_INJECT and the write of PENDING (R436, R439, R440, R441, R449). -/

namespace Sys2Proof.Machine

section
variable {s : State} {o : Origin} {c : Nat}

/-! ### What each command does -/

theorem State.runCmd_firstClear : s.runCmd (nowCmd o Reg.firstClear) = (0, 2, s.firstClear) := by
  rw [State.runCmd_core (by show 0x8100 ≤ 0x9000; decide)]
  unfold State.runCore; simp only [key_nowCmd]; simp [show (nowCmd o Reg.firstClear).ix = 0x9000 from rfl, cmdOk]

theorem State.runCmd_faultAck : s.runCmd (nowCmd o Reg.faultAck) = (0, 2, s.faultAck) := by
  rw [State.runCmd_core (by show 0x8100 ≤ 0x9000; decide)]
  unfold State.runCore; simp only [key_nowCmd]; simp [show (nowCmd o Reg.faultAck).ix = 0x9000 from rfl, cmdOk]

theorem State.runCmd_darkRelease_held (h : s.darkReleasable = false) :
    s.runCmd (nowCmd o Reg.darkRelease) = (0x0107, 3, s) := by
  rw [State.runCmd_core (by show 0x8100 ≤ 0x9000; decide)]
  unfold State.runCore; simp only [key_nowCmd]; simp [show (nowCmd o Reg.darkRelease).ix = 0x9000 from rfl, cmdFail, h]

theorem State.runCmd_darkRelease (h : s.darkReleasable = true) :
    s.runCmd (nowCmd o Reg.darkRelease) = (0, 2, { s with belay := { s.belay with darkOut := false } }) := by
  rw [State.runCmd_core (by show 0x8100 ≤ 0x9000; decide)]
  unfold State.runCore State.darkRelease; simp only [key_nowCmd]; simp [show (nowCmd o Reg.darkRelease).ix = 0x9000 from rfl, cmdOk, h]

theorem State.runCmd_faultInject (hc : c < 256) :
    s.runCmd { org := o, ix := Reg.faultInject / 256, sub := Reg.faultInject % 256, val := beBytes 1 c } = (0, 2, s.faultInject c) := by
  rw [State.runCmd_core (by show 0x8100 ≤ 0x9003; decide)]
  unfold State.runCore; simp only [key_div_mod]; simp [show Reg.faultInject / 256 = 0x9003 from rfl, cmdOk, beNat_beBytes (show c < 256 ^ 1 by omega)]

/-! ### The release of the DARK outputs (R439) -/

/-- No class that is active and unmasked asks for DARK. -/
theorem State.activeSignals_eq_false (h : ∀ c, c < 32 → bit s.activeFaults c = true → bit s.belay.maskedCls c = true ∨ s.policy c < 2) :
    s.activeSignals 2 = false := by
  unfold State.activeSignals
  refine List.any_eq_false.mpr fun c hc => ?_
  have quiet := h c (List.mem_range.mp hc)
  simp only [Bool.and_eq_true, Bool.not_eq_true', decide_eq_true_eq, not_and, Nat.not_le]
  rintro ⟨active, unmasked⟩
  exact (quiet active).resolve_left (by rw [unmasked]; exact Bool.false_ne_true)

theorem State.darkReleasable_of (hl : s.belay.latchDark = false) (hu : s.belay.unackDark = false) (hs : ∀ x ∈ s.belay.slots, x.rcd.reaction < 2)
    (h : ∀ c, c < 32 → bit s.activeFaults c = true → bit s.belay.maskedCls c = true ∨ s.policy c < 2) : s.darkReleasable = true := by
  have slots : (s.belay.slots.any fun x => decide (2 ≤ x.rcd.reaction)) = false :=
    List.any_eq_false.mpr fun x hx => by have := hs x hx; simp only [decide_eq_true_eq]; omega
  unfold State.darkReleasable
  rw [hl, hu, slots, State.activeSignals_eq_false h]
  rfl

theorem State.darkReleasable_held (h : s.belay.latchDark = true ∨ s.belay.unackDark = true) : s.darkReleasable = false := by
  unfold State.darkReleasable
  rcases h with h | h <;> simp [h]

@[simp] theorem State.touch_darkReleasable (s : State) (o : Origin) : (s.touch o).darkReleasable = s.darkReleasable := by
  rw [State.touch_eq]; rfl

/-! ### The slot of a fault captured (R421, R441) -/

/-- A record that enters the first-fault latch changes the flags of none but the record it displaces. -/
theorem State.slotsLike_fillLatch (s : State) (r : FaultRec) : s.slotsLike (s.fillLatch r).belay.slots := by
  unfold State.fillLatch
  split
  · next takes =>
    refine ⟨?_, fun empty => ?_⟩
    · simp only [List.map_map]
      refine List.map_congr_left fun x _ => ?_
      simp only [Function.comp_apply]
      split <;> rfl
    · have none_ : s.belay.latch.map FaultRec.cls = none := by
        unfold State.takesLatch at takes
        split at takes
        · next h => rw [h]; rfl
        · next x h =>
          have later : s.belay.latchAt ≠ s.clock.cclk := empty.resolve_left (by rw [h]; nofun)
          rw [beq_eq_false_iff_ne.mpr later] at takes
          cases takes
      rw [none_]
      exact List.map_id' _
  · exact ⟨rfl, fun _ => rfl⟩

/-- A class without a record gets one behind the others. -/
theorem State.slots_captureWith_new (s : State) {source detail : Nat} {masked injected : Bool}
    (h : (s.belay.slots.any fun x => x.rcd.cls == c) = false) :
    ∃ l, (s.captureWith c source detail masked injected).belay.slots = l ++
        [{ rcd := s.faultRec c (if masked then 0 else s.reactionFor c) source detail masked injected, stage := 0, order := s.clock.cclk }] ∧
      s.slotsLike l := by
  unfold State.captureWith
  rw [if_neg (by rw [h]; exact Bool.false_ne_true)]
  dsimp only
  rw [State.faultWires_slots]
  refine ⟨_, ?_, State.slotsLike_fillLatch s (s.faultRec c (if masked then 0 else s.reactionFor c) source detail masked injected)⟩
  rw [State.fillLatch_eq]

theorem bit_faultRec_injected (s : State) (c reaction source detail : Nat) (masked : Bool) :
    bit (s.faultRec c reaction source detail masked true).flags 4 = true := by
  show bit (16 + (if masked then 8 else 0) + (if s.takesLatch c then 2 else 0)) 4 = true
  cases masked <;> cases s.takesLatch c <;> decide

theorem storesOk_faultInject (ok : s.storesOk) : (s.faultInject c).storesOk :=
  storesOk_raise ((State.captureWith_good s c 0 0 (s.maskedNow c) true (.refl s)).stores ok) 62 _

theorem State.faultInject_pending (s : State) (c : Nat) : (s.faultInject c).pending = s.pending := by
  unfold State.faultInject
  rw [State.raise_eq]
  dsimp only
  rw [(CaptureOnly.captureWith c 0 0 _ true s).frame]
  rfl

theorem State.faultInject_belay (s : State) (c : Nat) : (s.faultInject c).belay = (s.captureWith c 0 0 (s.maskedNow c) true).belay := by
  unfold State.faultInject
  rw [State.raise_eq]

/-! ### The write of PENDING (R449) -/

/-- A bit written 1 is cleared unless its event was raised in this CCLK. -/
theorem bit_cleared {p m f : Nat} (hp : p < two64) (hm : m < two64) (n : Nat) :
    bit (p &&& ((two64 - 1) ^^^ (m % two64 &&& (f ^^^ (two64 - 1))))) n = (bit p n && !(bit m n && !bit f n)) := by
  have low : two64 - 1 = 2 ^ 64 - 1 := rfl
  rw [Nat.mod_eq_of_lt hm, low]
  simp only [bit_eq_testBit, Nat.testBit_and, Nat.testBit_xor, Nat.testBit_two_pow_sub_one]
  by_cases hn : n < 64
  · simp [hn]
  · rw [Nat.testBit_lt_two_pow (hp.trans_le (Nat.pow_le_pow_right (n := 2) (by decide) (Nat.not_lt.mp hn)))]
    simp

/-- PENDING's row takes any number of 8 bytes. -/
theorem legal_pending {x : Obj} (hty : x.ty = .u 8) (hg : x.rng = .any) (m : Nat) :
    Legal x (Reg.pending / 256) (Reg.pending % 256) (beBytes 8 m) where
  form := .inl (by rw [hty, beBytes_length])
  listed := fun c => by rw [hg]; rfl
  applied := fun c => by unfold Obj.applied; rw [hg]; rfl
  fields := recordListed_of_plain (by decide +kernel)
  unclamped := recordClamp_of_plain (by decide +kernel)

theorem rowWrite_pending {m : Nat} (hu : s.canUse o .operator 0) (hm : m < two64) :
    s.rowNum o Reg.pending 8 m = ((s.touch o).clearOnes Reg.pending m).send (.result o 0 (Reg.pending / 256) (Reg.pending % 256) 0 []) := by
  obtain ⟨ha, ⟨q, hr, hq⟩, hd⟩ := hu
  obtain ⟨x, hx, hacc, hchg, hrole, hty, hg⟩ : ∃ x, odFind (Reg.pending / 256) (Reg.pending % 256) = some x ∧ x.acc = .w1c ∧ x.chg = .none ∧
      x.role = .operator ∧ x.ty = .u 8 ∧ x.rng = .any := by decide +kernel
  have legal := legal_pending hty hg m
  have noRule : hasArrivalRule (Reg.pending / 256) (Reg.pending % 256) = false := by decide +kernel
  have target : (s.touch o).checkTarget ((s.touch o).writeRole o q (Reg.pending / 256) (Reg.pending % 256)) .observer (Reg.pending / 256)
      (Reg.pending % 256) true Acc.writable = (0, some x) :=
    checkTarget_ok (.inl (by decide)) hx (by rw [hrole]; exact hq.trans State.rank_le_writeRole) (by rw [hacc]; rfl)
      (by rw [State.touch_domOn]; exact hd)
  have check : (s.touch o).checkWrite o q (Reg.pending / 256) (Reg.pending % 256) x.ty.code (beBytes 8 m) = (0, some x) := by
    unfold State.checkWrite
    rw [target]
    exact congrArg (·, some x) (legal.checkValue_of_chg hchg noRule)
  have put : (s.touch o).putWrite o x (Reg.pending / 256) (Reg.pending % 256) (beBytes 8 m) = (0, (s.touch o).clearOnes Reg.pending m) := by
    unfold State.putWrite
    rw [if_neg (by rw [hacc]; nofun), if_pos hacc, beNat_beBytes hm]
    rfl
  show s.rowWrite o _ _ (beBytes 8 m) = _
  rw [State.rowWrite_of_row ha hr hx, State.opWrite_of_checks check (State.arrivalRefused_of_noRule noRule _)
    (fun h => by rw [hacc] at h; cases h) legal.clampWrite, put]
  rfl

end

/-- Settles O24: each command as it is carried out (`exec_now`, `CmdRow.exec_done`, `CmdRow.exec_refused`); an injected fault gets a slot
of its own. -/
theorem faultCommands : Obligations.FaultCommands := by
  unfold Obligations.FaultCommands
  refine ⟨fun o s ok hu => ?_, fun o s ok hu => ?_, fun o s ok hu hl hd hs hc => ?_, fun o s ok hu held => ?_, fun o c s ok hu lo hi new => ?_,
    fun o m s ok hu hm hp => ?_⟩
  · obtain ⟨v, hv, hst, kept, frame⟩ := exec_now (by decide +kernel) (by decide +kernel) hu State.runCmd_firstClear (storesOk_touch ok o)
      (State.touch_pending s o)
    refine ⟨v, hv, hst, (RegsKept.of_regs (State.touch_regs s o)).trans kept.regs, ?_⟩
    rw [frame]
    cases o <;> rfl
  · obtain ⟨v, hv, hst, kept, frame⟩ := exec_now (by decide +kernel) (by decide +kernel) hu State.runCmd_faultAck (storesOk_touch ok o)
      (State.touch_pending s o)
    refine ⟨v, hv, hst, (RegsKept.of_regs (State.touch_regs s o)).trans kept.regs, ?_⟩
    rw [frame]
    cases o <;> rfl
  · obtain ⟨v, hv, hst, kept, frame⟩ := exec_now (by decide +kernel) (by decide +kernel) hu
      (State.runCmd_darkRelease (by rw [State.touch_darkReleasable]; exact State.darkReleasable_of hl hd hs hc)) (storesOk_touch ok o)
      (State.touch_pending s o)
    refine ⟨v, hv, hst, (RegsKept.of_regs (State.touch_regs s o)).trans kept.regs, ?_⟩
    rw [frame]
    cases o <;> rfl
  · obtain ⟨x, hx⟩ := cmdRow_now (k := Reg.darkRelease) (r := .installer) (by decide +kernel) (by decide +kernel)
    obtain ⟨v, hv, hst, -, counted, frame⟩ := hx.exec_refused hu
      (State.runCmd_darkRelease_held (o := o) (by rw [State.touch_darkReleasable]; exact State.darkReleasable_held held)) (by decide) (by decide)
      (storesOk_touch ok o) (by rw [State.touch_alive]; exact hu.1) (State.touch_pending s o)
    refine ⟨v, hv, hst, ?_, counted.of_reg (State.touch_reg s o _), ?_⟩
    · rw [frame, State.touch_eq]
    · rw [frame]; rfl
  · have touched := storesOk_touch ok o
    obtain ⟨x, hx⟩ := cmdRow_span (k := Reg.faultInject) (r := .service) (lo := 5) (hi := 31) (n := c) (by decide +kernel) (by decide +kernel)
      lo hi (by omega)
    obtain ⟨v, hv, hst, -, frame⟩ := hx.exec_done hu (State.runCmd_faultInject (by omega)) (storesOk_faultInject touched)
      ((State.faultInject_pending _ _).trans (State.touch_pending s o))
    have new' : ((s.touch o).belay.slots.any fun x => x.rcd.cls == c) = false := by rw [State.touch_eq]; exact new
    obtain ⟨l, slots, like⟩ := State.slots_captureWith_new (s.touch o) (source := 0) (detail := 0) (masked := (s.touch o).maskedNow c)
      (injected := true) new'
    have belay : v.belay = ((s.touch o).captureWith c 0 0 ((s.touch o).maskedNow c) true).belay := by
      rw [frame]
      exact State.faultInject_belay _ _
    rw [← belay] at slots
    refine ⟨v, l, _, hv, slots, ?_, rfl, bit_faultRec_injected (s.touch o) c _ 0 0 _, State.touch_now s o, rfl, hst⟩
    unfold State.slotsLike at like ⊢
    rwa [State.touch_eq] at like
  · have touched := storesOk_touch ok o
    have fresh : (s.touch o).freshMask = s.freshMask := by rw [State.touch_eq]; rfl
    have out := (congrArg s.done (rowWrite_pending hu hm)).trans (State.done_of_pending (State.touch_pending s o))
    refine ⟨_, out, fun n => ?_, ?_, ?_⟩
    · have read : (((s.touch o).clearOnes Reg.pending m).send (.result o 0 (Reg.pending / 256) (Reg.pending % 256) 0 [])).reg Reg.pending =
          s.reg Reg.pending &&& ((two64 - 1) ^^^ (m % two64 &&& (s.freshMask ^^^ (two64 - 1)))) := by
        rw [← fresh, ← State.touch_reg s o]
        exact reg_setReg touched _ _
      rw [read]
      exact bit_cleared hp hm n
    · exact (RegsKept.of_regs (State.touch_regs s o)).setReg touched (by simp) _
    · cases o <;> rfl

end Sys2Proof.Machine

/-! SUPPORT. What the moves of tasks and carabiners keep: the ready lists, the tasks of each engine, every other unit, and the bits of
PENDING (R393 to R396, R406 to R411). -/

namespace Sys2Proof.Machine

/-! ### The moves -/

/-- The tasks that an engine holds. -/
def Engine.held (x : Engine) : List Task := x.run.toList ++ x.biv

/-- Tasks `x` and `y` are the same task, cancelled or not. -/
def Task.sameAs (x y : Task) : Prop := x.id = y.id ∧ x.desc = y.desc ∧ x.cancel = y.cancel

/-- Every task of the second engine is one of the first. -/
def Engine.from (x y : Engine) : Prop := ∀ t ∈ y.held, ∃ u ∈ x.held, u.sameAs t

/-- `s` with all that a move of a task or a carabiner may change taken from `t`. -/
def State.withSched (s t : State) : State :=
  { s with sched := t.sched, carabs := t.carabs, regs := t.regs, ev := t.ev, q := t.q, report := t.report, freeCount := t.freeCount
           oracle := t.oracle }

/-- From `s` to `t` tasks and carabiners moved: no task came to an engine that did not hold it, an engine that runs a task stayed as it was,
no ready list changed, and no register but those in `ks`. -/
structure Moves (ks : List Nat) (s t : State) : Prop where
  frame : t = s.withSched t
  ready : t.sched.ready = s.sched.ready
  length : t.sched.engines.length = s.sched.engines.length
  held : ∀ e, (s.engine e).from (t.engine e)
  busy : ∀ e, (s.engine e).run.isSome = true → t.engine e = s.engine e
  keeps : s.storesOk → Keeps ks s t
  pending : s.storesOk → ∀ b, bit (s.reg Reg.pending) b = true → bit (t.reg Reg.pending) b = true

section
variable {s t u : State} {ks js : List Nat} {x y z : Engine}

theorem Task.sameAs.trans {a b c : Task} (h : a.sameAs b) (g : b.sameAs c) : a.sameAs c :=
  ⟨h.1.trans g.1, h.2.1.trans g.2.1, h.2.2.trans g.2.2⟩

theorem Engine.from_refl (x : Engine) : x.from x := fun t ht => ⟨t, ht, rfl, rfl, rfl⟩

theorem Engine.from.trans (h : x.from y) (g : y.from z) : x.from z := fun t ht => by
  obtain ⟨u, hu, same⟩ := g t ht
  obtain ⟨v, hv, same'⟩ := h u hu
  exact ⟨v, hv, same'.trans same⟩

theorem Engine.from_of_subset (h : ∀ t ∈ y.held, t ∈ x.held) : x.from y := fun t ht => ⟨t, h t ht, rfl, rfl, rfl⟩

theorem Moves.refl (ks : List Nat) (s : State) : Moves ks s s where
  frame := rfl
  ready := rfl
  length := rfl
  held := fun _ => Engine.from_refl _
  busy := fun _ _ => rfl
  keeps := Keeps.refl
  pending := fun _ _ h => h

theorem Moves.trans (h : Moves ks s t) (g : Moves ks t u) : Moves ks s u where
  frame := g.frame.trans (show t.withSched u = (s.withSched t).withSched u from congrArg (fun v : State => v.withSched u) h.frame)
  ready := g.ready.trans h.ready
  length := g.length.trans h.length
  held := fun e => (h.held e).trans (g.held e)
  busy := fun e run => by
    have first := h.busy e run
    rw [g.busy e (by rw [first]; exact run), first]
  keeps := fun ok => (h.keeps ok).trans (g.keeps (h.keeps ok).stores)
  pending := fun ok b hb => g.pending (h.keeps ok).stores b (h.pending ok b hb)

theorem Moves.mono (h : Moves ks s t) (hs : ks ⊆ js) : Moves js s t := { h with keeps := fun ok => (h.keeps ok).mono hs }

theorem Moves.foldl {α : Type} {f : State → α → State} (hf : ∀ t a, Moves ks t (f t a)) (l : List α) (s : State) : Moves ks s (l.foldl f s) := by
  induction l generalizing s with
  | nil => exact .refl ks s
  | cons a l ih => exact (hf s a).trans (ih _)

theorem Moves.storesOk (h : Moves ks s t) (ok : s.storesOk) : t.storesOk := (h.keeps ok).stores

theorem Moves.reg (h : Moves ks s t) (ok : s.storesOk) {k : Nat} (hk : k ∉ ks) : t.reg k = s.reg k := (h.keeps ok).reg hk

theorem Moves.pending_eq (h : Moves ks s t) : t.pending = s.pending := by rw [h.frame]; rfl
theorem Moves.sent_eq (h : Moves ks s t) : t.sent = s.sent := by rw [h.frame]; rfl
theorem Moves.alive_eq (h : Moves ks s t) : t.alive = s.alive := by rw [h.frame]; rfl

/-- An event counted before the moves is counted after them. -/
theorem Moves.counted {ev : Nat} {r : State} (h : Moves ks s t) (ok : s.storesOk) (hev : Reg.evCount ev ∉ ks) (hc : Counted ev r s) : Counted ev r t :=
  ⟨(h.reg ok hev).trans hc.1, h.pending ok ev hc.2⟩

/-! ### The elementary moves -/

/-- Where tasks and registers stand as they were. -/
theorem Moves.still (hf : t = s.withSched t) (hs : t.sched = s.sched) (hr : t.regs = s.regs) : Moves ks s t where
  frame := hf
  ready := by rw [hs]
  length := by rw [hs]
  held := fun e => by rw [State.engine_congr (by rw [hs]) e]; exact Engine.from_refl _
  busy := fun e _ => State.engine_congr (by rw [hs]) e
  keeps := fun ok => ⟨by unfold State.storesOk; rw [hf, show (s.withSched t).regs = s.regs from hr]; exact ok, .of_regs hr⟩
  pending := fun _ _ h => by rwa [reg_congr hr]

theorem Moves.raise (s : State) {ev : Nat} (h : evKeys ev ⊆ ks) (p : Bytes) : Moves ks s (s.raise ev p) where
  frame := by rw [State.raise_eq]; rfl
  ready := by rw [State.raise_eq]
  length := by rw [State.raise_eq]
  held := fun e => by rw [State.engine_congr (t := s.raise ev p) (s := s) (by rw [State.raise_eq]) e]; exact Engine.from_refl _
  busy := fun e _ => State.engine_congr (t := s.raise ev p) (s := s) (by rw [State.raise_eq]) e
  keeps := fun ok => (Keeps.refl ok).raise h p
  pending := fun ok b hb => by
    unfold State.raise
    split
    · exact pending_poolCheck (storesOk_noteEv ok ev p) (pending_noteEv ok ev p hb)
    · exact hb

theorem Moves.setReg (s : State) {k : Nat} (hk : k ∈ ks) (hp : k ≠ Reg.pending) (v : Nat) : Moves ks s (s.setReg k v) where
  frame := rfl
  ready := rfl
  length := rfl
  held := fun _ => Engine.from_refl _
  busy := fun _ _ => rfl
  keeps := fun ok => (Keeps.refl ok).setReg hk v
  pending := fun ok _ h => by rwa [reg_setReg_ne ok v (Ne.symm hp)]

theorem Moves.incReg (s : State) {k : Nat} (hk : k ∈ ks) (hp : k ≠ Reg.pending) : Moves ks s (s.incReg k) := .setReg s hk hp _

theorem Moves.trace (h : traceKeys ⊆ ks) (e dec slot st : Nat) (t : Task) : Moves ks s (s.trace e dec slot st t) where
  frame := by rw [State.trace_eq]; rfl
  ready := by rw [State.trace_eq]
  length := by rw [State.trace_eq]
  held := fun k => by rw [State.engine_congr (t := s.trace e dec slot st t) (s := s) (by rw [State.trace_eq]) k]; exact Engine.from_refl _
  busy := fun k _ => State.engine_congr (t := s.trace e dec slot st t) (s := s) (by rw [State.trace_eq]) k
  keeps := fun ok => (keeps_trace e dec slot st t ok).mono h
  pending := fun ok _ hb => pending_trace e dec slot st t ok hb

theorem State.engine_setEngine_ne {e k : Nat} (h : k ≠ e) (x : Engine) : (s.setEngine e x).engine k = s.engine k := by
  unfold State.engine State.setEngine
  simp [List.getD_eq_getElem?_getD, List.getElem?_set_ne (Ne.symm h)]

theorem State.setEngine_of_length_le {e : Nat} (h : s.sched.engines.length ≤ e) (x : Engine) : s.setEngine e x = s := by
  unfold State.setEngine
  rw [List.set_eq_of_length_le h]

theorem Moves.setEngine {e : Nat} (h : (s.engine e).from x) (idle : (s.engine e).run = none) : Moves ks s (s.setEngine e x) where
  frame := rfl
  ready := rfl
  length := List.length_set
  held := fun k => by
    by_cases hk : k = e
    · subst hk
      rcases Nat.lt_or_ge k s.sched.engines.length with hl | hl
      · rwa [State.engine_setEngine hl]
      · rw [State.setEngine_of_length_le hl]; exact Engine.from_refl _
    · rw [State.engine_setEngine_ne hk]; exact Engine.from_refl _
  busy := fun k run => State.engine_setEngine_ne (fun hk => by rw [hk, idle] at run; cases run) x
  keeps := fun ok => ⟨ok, .of_regs rfl⟩
  pending := fun _ _ h => h

theorem State.drawWord_eq (s : State) (b : Nat) :
    (s.drawWord b).2 = { s with freeCount := (s.drawWord b).2.freeCount, oracle := (s.drawWord b).2.oracle } := by
  unfold State.drawWord
  split <;> rfl

theorem Moves.drawWord (s : State) (b : Nat) : Moves ks s (s.drawWord b).2 := by
  refine .still ?_ ?_ ?_
  all_goals rw [State.drawWord_eq]
  rfl

end

/-! ### The operations -/

/-- The registers that the start of a task may change. -/
def startKeys : List Nat := Reg.dispatches :: (traceKeys ++ evKeys 36)

/-- The registers that a carabiner broken, and what follows from it, may change. -/
def forceKeys : List Nat := Reg.breaks_8B00 :: (startKeys ++ evKeys 38)

/-- The registers that the end of a cancelled task may change. -/
def abortKeys : List Nat := Reg.cancels :: forceKeys

section
variable (s : State) {t : Task}

theorem traceKeys_subset_startKeys : traceKeys ⊆ startKeys := fun _ h => List.mem_cons_of_mem _ (List.mem_append_left _ h)
theorem startKeys_subset_forceKeys : startKeys ⊆ forceKeys := fun _ h => List.mem_cons_of_mem _ (List.mem_append_left _ h)
theorem forceKeys_subset_abortKeys : forceKeys ⊆ abortKeys := List.subset_cons_self _ _
theorem traceKeys_subset_abortKeys : traceKeys ⊆ abortKeys :=
  fun _ h => forceKeys_subset_abortKeys (startKeys_subset_forceKeys (traceKeys_subset_startKeys h))

theorem moves_taskFaultEvent (id : Nat) : Moves startKeys s (s.taskFaultEvent id) :=
  (Moves.drawWord s 8).trans (.raise _ (fun _ h => List.mem_cons_of_mem _ (List.mem_append_right _ h)) _)

theorem moves_setCb {ks : List Nat} (c : Nat) (x : Carab) : Moves ks s (s.setCb c x) := .still rfl rfl rfl

/-- An engine whose RUN is empty and whose bivouac begins with `t` may hold `t`, changed in no field of its identity, anywhere. -/
theorem Engine.from_head {x y : Engine} {u : Task} {rest : List Task} (hb : x.biv = t :: rest) (hu : t.sameAs u)
    (hy : ∀ v ∈ y.held, v = u ∨ v ∈ rest) : x.from y := fun v hv => by
  unfold Engine.held
  rw [hb]
  rcases hy v hv with rfl | hr
  · exact ⟨t, by simp, hu⟩
  · exact ⟨v, by simp [hr], rfl, rfl, rfl⟩

theorem moves_startHead (e : Nat) : Moves startKeys s (s.startHead e) := by
  unfold State.startHead
  dsimp only
  split
  next t rest hr hb =>
    have start (u : Task) (hu : t.sameAs u) (v : State) (hv : v.engine e = s.engine e) :
        Moves startKeys v (v.setEngine e { s.engine e with run := some u, biv := rest }) :=
      .setEngine (by rw [hv]; exact Engine.from_head hb hu (by simp [Engine.held])) (by rw [hv]; exact hr)
    have traced (v : State) (dec slot st : Nat) (u : Task) : Moves startKeys v (v.trace e dec slot st u) := .trace traceKeys_subset_startKeys _ _ _ _ _
    have dispatched (v : State) : Moves startKeys v (v.incReg Reg.dispatches) := .incReg v (by simp [startKeys]) (by decide)
    have go (v : State) (hv : v.engine e = s.engine e) : Moves startKeys v
        (((v.setEngine e { s.engine e with run := some { t with waiting := false }, biv := rest }).incReg Reg.dispatches).trace e 3 0 0
          { t with waiting := false }) :=
      ((start { t with waiting := false } ⟨rfl, rfl, rfl⟩ v hv).trans (dispatched _)).trans (traced _ _ _ _ _)
    split
    · refine Moves.trans (start _ ?_ s rfl) (traced _ _ _ _ _)
      exact ⟨rfl, rfl, rfl⟩
    · split
      · exact go s rfl
      · split
        · split
          · exact .refl _ s
          · refine Moves.trans (.setEngine (Engine.from_head (u := { t with waiting := true }) hb ⟨rfl, rfl, rfl⟩ ?_) hr) (traced _ _ _ _ _)
            simp [Engine.held, hr]
        · refine (Moves.trans (.setEngine (Engine.from_head (u := t) hb ⟨rfl, rfl, rfl⟩ ?_) hr) (traced _ _ _ _ _)).trans (moves_taskFaultEvent _ _)
          simp only [Engine.held, hr, Option.toList_none, List.nil_append]
          exact fun v hv => .inr hv
        · exact (moves_setCb s _ _).trans (go _ rfl)
  · exact .refl _ s

theorem moves_serveCb (c : Nat) : Moves startKeys s (s.serveCb c) := by
  refine Moves.foldl (fun t e => ?_) _ s
  split
  · split
    · exact moves_startHead t e
    · exact .refl _ t
  · exact .refl _ t

theorem moves_breakCb (c : Nat) : Moves forceKeys s (s.breakCb c) := by
  unfold State.breakCb
  dsimp only
  refine Moves.trans (Moves.trans (Moves.trans (moves_setCb s c { broken := true })
    (.incReg _ (k := Reg.breaks_8B00) (by simp [forceKeys]) (by decide))) (.drawWord _ 8)) ?_
  exact .raise _ (fun _ h => List.mem_cons_of_mem _ (List.mem_append_right _ h)) _

theorem moves_forceCb (c : Nat) : Moves forceKeys s (s.forceCb c) :=
  (moves_breakCb s c).trans ((moves_serveCb _ c).mono startKeys_subset_forceKeys)

theorem moves_forceAll (own : CbOwner) : Moves forceKeys s (s.forceAll own) := by
  refine Moves.foldl (fun t c => ?_) _ s
  split
  · exact moves_forceCb t c
  · exact .refl _ t

theorem moves_setQueue {ks : List Nat} (n : Nat) (q : Queue) : Moves ks s (s.setQueue n q) := by
  unfold State.setQueue
  split <;> exact .still rfl rfl rfl

theorem moves_unstall {ks : List Nat} (n id : Nat) : Moves ks s (s.unstall n id) := by
  unfold State.unstall
  split
  · exact .still rfl rfl rfl
  · split
    · exact moves_setQueue s _ _
    · exact .still rfl rfl rfl

theorem moves_abortTask (e slot : Nat) (t : Task) : Moves abortKeys s (s.abortTask e slot t) := by
  have ended : Moves abortKeys s (((s.unstall (dIn t.row) t.id).incReg Reg.cancels).trace e 9 slot 0 t) :=
    ((moves_unstall s _ _).trans (.incReg _ (by simp [abortKeys]) (by decide))).trans (.trace traceKeys_subset_abortKeys _ _ _ _ _)
  unfold State.abortTask
  dsimp only
  split
  · exact ended.trans ((moves_forceCb _ _).mono forceKeys_subset_abortKeys)
  · exact ended

theorem moves_resumeHead (e : Nat) : Moves startKeys s (s.resumeHead e) := by
  unfold State.resumeHead
  split
  · split
    · exact moves_startHead s e
    · exact .refl _ s
  · exact .refl _ s

theorem moves_cancelIdle (e slot : Nat) (t : Task) : Moves abortKeys s (s.cancelIdle e slot t) :=
  (Moves.incReg s (by simp [abortKeys]) (by decide)).trans (.trace traceKeys_subset_abortKeys _ _ _ _ _)

end

end Sys2Proof.Machine

/-! SUPPORT. Who holds a carabiner as tasks take it and it is broken, and the end of a session (R348, R354, R410, R411). -/

namespace Sys2Proof.Machine

/-! ### Carabiners -/

/-- From `s` to `t` no carabiner changed, but that a task may have taken `c`, which was free and whole. -/
structure CbServed (c : Nat) (s t : State) : Prop where
  others : ∀ k, k ≠ c → t.cb k = s.cb k
  self : t.cb c = s.cb c ∨ (s.cb c).owner = none ∧ (s.cb c).broken = false ∧ ∃ id, t.cb c = { s.cb c with owner := some (.task id) }

section
variable {s t u : State} {c e : Nat}

theorem CbServed.of_carabs (h : t.carabs = s.carabs) : CbServed c s t := ⟨fun k _ => State.cb_congr h k, .inl (State.cb_congr h c)⟩

theorem CbServed.trans (h : CbServed c s t) (g : CbServed c t u) : CbServed c s u where
  others := fun k hk => (g.others k hk).trans (h.others k hk)
  self := by
    rcases h.self with same | ⟨free, whole, id, taken⟩
    · rcases g.self with same' | ⟨free', whole', id, taken'⟩
      · exact .inl (same'.trans same)
      · rw [same] at free' whole' taken'
        exact .inr ⟨free', whole', id, taken'⟩
    · refine .inr ⟨free, whole, id, ?_⟩
      rcases g.self with same' | ⟨free', _⟩
      · rw [same', taken]
      · rw [taken] at free'; cases free'

theorem State.cb_setCb_ne {k : Nat} (h : k ≠ c) (x : Carab) : (s.setCb c x).cb k = s.cb k := by
  unfold State.cb State.setCb
  simp [List.getD_eq_getElem?_getD, List.getElem?_set_ne (Ne.symm h)]

theorem State.cb_setCb (h : c < s.carabs.cbs.length) (x : Carab) : (s.setCb c x).cb c = x := by
  simp [State.cb, State.setCb, h]

theorem State.cb_setCb_of_length_le (h : s.carabs.cbs.length ≤ c) (x : Carab) (k : Nat) : (s.setCb c x).cb k = s.cb k := by
  unfold State.cb State.setCb
  rw [List.set_eq_of_length_le h]

/-- A carabiner that someone holds, or that is broken, is one of the list. -/
theorem State.cb_lt_length (h : s.cb c ≠ {}) : c < s.carabs.cbs.length := by
  by_contra hl
  exact h (by unfold State.cb; rw [List.getD_eq_default _ _ (Nat.not_lt.mp hl)])

theorem State.taskFaultEvent_carabs (s : State) (id : Nat) : (s.taskFaultEvent id).carabs = s.carabs := by
  unfold State.taskFaultEvent
  dsimp only
  rw [State.raise_carabs, State.drawWord_eq]

theorem cbServed_startHead {x : Task} {rest : List Task} (hb : (s.engine e).biv = x :: rest) : CbServed (dCb x.row) s (s.startHead e) := by
  unfold State.startHead
  dsimp only
  split
  next t rest' hr hb' =>
    obtain ⟨rfl, rfl⟩ := List.cons.inj (hb'.symm.trans hb)
    split
    · exact .of_carabs (by simp [State.setEngine])
    · split
      · exact .of_carabs (by simp [State.setEngine, State.incReg, State.addReg])
      · split
        · split
          · exact .of_carabs rfl
          · exact .of_carabs (by simp [State.setEngine])
        · exact .of_carabs (by rw [State.taskFaultEvent_carabs]; simp [State.setEngine])
        next free whole =>
          refine CbServed.trans (t := s.setCb (dCb t.row) { s.cb (dCb t.row) with owner := some (.task t.id) }) ?_
            (.of_carabs (by simp [State.setEngine, State.incReg, State.addReg]))
          refine ⟨fun k hk => State.cb_setCb_ne hk _, ?_⟩
          rcases Nat.lt_or_ge (dCb t.row) s.carabs.cbs.length with hl | hl
          · exact .inr ⟨free, whole, t.id, State.cb_setCb hl _⟩
          · exact .inl (State.cb_setCb_of_length_le hl _ _)
  · exact .of_carabs rfl

theorem cbServed_serveCb (s : State) (c : Nat) : CbServed c s (s.serveCb c) := by
  unfold State.serveCb
  generalize List.range 16 = l
  induction l generalizing s with
  | nil => exact .of_carabs rfl
  | cons e l ih =>
    refine CbServed.trans ?_ (ih _)
    dsimp only
    split
    next hr hb =>
      split
      · next h =>
        rw [Bool.and_eq_true, beq_iff_eq] at h
        rw [← h.2]
        exact cbServed_startHead hb
      · exact .of_carabs rfl
    · exact .of_carabs rfl

theorem foldl_same {α β : Type} {f : α → β → α} {a : α} (l : List β) (h : ∀ x ∈ l, f a x = a) : l.foldl f a = a := by
  induction l with
  | nil => rfl
  | cons x l ih => rw [List.foldl_cons, h x (by simp)]; exact ih fun y hy => h y (by simp [hy])

/-- With no task waiting at the head of a bivouac nothing takes a carabiner. -/
theorem State.serveCb_of_none_waiting (h : ∀ e, e < 16 → ∀ x ∈ (s.engine e).biv, x.waiting = false) (c : Nat) : s.serveCb c = s := by
  refine foldl_same _ fun e he => ?_
  split
  · next hb =>
    rw [h e (List.mem_range.mp he) _ (by rw [hb]; simp), Bool.false_and]
    rfl
  · rfl

theorem State.breakCb_carabs (s : State) (c : Nat) : (s.breakCb c).carabs = (s.setCb c { broken := true }).carabs := by
  unfold State.breakCb
  dsimp only
  rw [State.raise_carabs, State.drawWord_eq]
  rfl

/-- A carabiner broken has no holder, and stays so. -/
theorem State.cb_forceCb (h : c < s.carabs.cbs.length) : (s.forceCb c).cb c = { broken := true } := by
  have broken : (s.breakCb c).cb c = { broken := true } := by rw [State.cb_congr (State.breakCb_carabs s c), State.cb_setCb h]
  rcases (cbServed_serveCb (s.breakCb c) c).self with same | ⟨_, whole, _⟩
  · exact same.trans broken
  · rw [broken] at whole; cases whole

theorem State.cb_forceCb_ne {k : Nat} (h : k ≠ c) : (s.forceCb c).cb k = s.cb k :=
  ((cbServed_serveCb (s.breakCb c) c).others k h).trans ((State.cb_congr (State.breakCb_carabs s c) k).trans (State.cb_setCb_ne h _))

/-- After all that `own` holds is broken it holds nothing. -/
theorem State.owner_forceAll (own : CbOwner) (hc : c < 64) : ((s.forceAll own).cb c).owner ≠ some own := by
  have step (t : State) (k : Nat) : ∀ j, ((t.cb j).owner ≠ some own ∨ j = k) →
      ((if (t.cb k).owner == some own then t.forceCb k else t).cb j).owner ≠ some own := by
    intro j hj
    split
    · next h =>
      have holds : (t.cb k).owner = some own := by simpa using h
      have hl : k < t.carabs.cbs.length := State.cb_lt_length fun he => by rw [he] at holds; cases holds
      by_cases hjk : j = k
      · rw [hjk, State.cb_forceCb hl]; nofun
      · rw [State.cb_forceCb_ne hjk]
        exact hj.resolve_right hjk
    · next h =>
      rcases hj with hj | rfl
      · exact hj
      · simpa using h
  have all (l : List Nat) (t : State) : ∀ j, ((t.cb j).owner ≠ some own ∨ j ∈ l) →
      ((l.foldl (fun s c => if (s.cb c).owner == some own then s.forceCb c else s) t).cb j).owner ≠ some own := by
    induction l generalizing t with
    | nil => intro j hj; exact hj.resolve_right (by simp)
    | cons k l ih =>
      intro j hj
      refine ih _ j ?_
      rcases hj with hj | hj
      · exact .inl (step t k j (.inl hj))
      · rcases List.mem_cons.mp hj with rfl | hj
        · exact .inl (step t j j (.inr rfl))
        · exact .inr hj
  exact all _ s c (.inr (List.mem_range.mpr hc))

end

/-! ### Transfers abandoned (R348) -/

/-- `s` with the transfers, the flash and the registers of `t`. -/
def State.withXfer (s t : State) : State := { s with xfer := t.xfer, flash := t.flash, regs := t.regs }

section
variable {s : State} {o : Origin} {x : Transfer}

theorem State.eraseTransfer_only_flash (s : State) (x : Transfer) : s.eraseTransfer x = { s with flash := (s.eraseTransfer x).flash } :=
  State.eraseTransfer_eq s x

theorem State.abandon_eq (s : State) (x : Transfer) : s.abandon x =
    { s with xfer := (s.dropXfer x.handle).xfer, flash := (s.eraseTransfer x).flash, regs := (s.abandon x).regs } := by
  have erased : ((s.dropXfer x.handle).eraseTransfer x).flash = (s.eraseTransfer x).flash := by
    unfold State.eraseTransfer
    rw [show (s.dropXfer x.handle).flashRegion x = s.flashRegion x from rfl]
    split <;> rfl
  unfold State.abandon
  dsimp only
  split
  all_goals
    rw [State.eraseTransfer_eq, ← erased]
    rfl

/-- Only a firmware image's end tells FW_STATE. -/
theorem State.abandon_regs (h : x.write = false ∨ x.ix ≠ 0x1010) : (s.abandon x).regs = s.regs := by
  unfold State.abandon
  dsimp only
  rw [if_neg (by rcases h with h | h <;> simp [h]), State.eraseTransfer_eq]
  rfl

theorem keeps_abandon (ok : s.storesOk) (x : Transfer) : Keeps [Reg.fwState] s (s.abandon x) := by
  have good := (State.abandon_good s x (.refl s)).stores ok
  refine ⟨good, ?_⟩
  have dropped : ((s.dropXfer x.handle).eraseTransfer x).storesOk := (State.eraseTransfer_good _ x (.refl _)).stores ok
  have regs : RegsKept [Reg.fwState] s ((s.dropXfer x.handle).eraseTransfer x) := .of_regs (by rw [State.eraseTransfer_eq]; rfl)
  unfold State.abandon
  dsimp only
  split
  · exact regs.setReg dropped (by simp) 4
  · exact regs

theorem State.eraseTransfer_of_none (h : s.flashRegion x = none) : s.eraseTransfer x = s := by
  unfold State.eraseTransfer
  rw [h]

theorem State.abandons_eq (l : List Transfer) (s : State) : l.foldl (fun (s : State) t => s.abandon t) s =
    s.withXfer (l.foldl (fun (s : State) t => s.abandon t) s) := by
  induction l generalizing s with
  | nil => rfl
  | cons x l ih =>
    rw [List.foldl_cons]
    refine (ih (s.abandon x)).trans ?_
    rw [State.abandon_eq]
    rfl

/-- What is still open was open, under a handle that none of the list has. -/
theorem State.abandons_open (l : List Transfer) (s : State) : ∀ y ∈ (l.foldl (fun (s : State) t => s.abandon t) s).xfer.open_,
    y ∈ s.xfer.open_ ∧ ∀ x ∈ l, y.handle ≠ x.handle := by
  induction l generalizing s with
  | nil => intro y hy; exact ⟨hy, by simp⟩
  | cons x l ih =>
    intro y hy
    obtain ⟨was, others⟩ := ih (s.abandon x) y hy
    rw [State.abandon_eq] at was
    obtain ⟨mem, ne⟩ := List.mem_filter.mp was
    refine ⟨mem, fun z hz => ?_⟩
    rcases List.mem_cons.mp hz with rfl | hz
    · simpa using ne
    · exact others z hz

theorem State.abandons_flash (l : List Transfer) (s : State) (h : ∀ x ∈ l, s.flashRegion x = none) :
    (l.foldl (fun (s : State) t => s.abandon t) s).flash = s.flash := by
  induction l generalizing s with
  | nil => rfl
  | cons x l ih =>
    have same : (s.abandon x).flash = s.flash := by rw [State.abandon_eq, State.eraseTransfer_of_none (h x (by simp))]
    rw [List.foldl_cons, ih _ fun y hy => ?_, same]
    rw [State.abandon_eq]
    exact h y (by simp [hy])

end

/-! ### The end of a session (R354) -/

/-- The registers that the end of a session may change before its event. -/
def leaveKeys : List Nat := Reg.fwState :: Reg.state :: (evKeys 62 ++ forceKeys)

/-- The registers that the end of a session may change. -/
def endKeys : List Nat := leaveKeys ++ evKeys 43

/-- `s` with the injector of `t`, and all that follows from its disarming. -/
theorem State.disarm_frame (s : State) : s.disarm =
    { s with inj := s.disarm.inj, regs := s.disarm.regs, ev := s.disarm.ev, q := s.disarm.q, report := s.disarm.report } := by
  unfold State.disarm
  split
  · rw [State.raise_eq]; rfl
  · rfl

section
variable {s : State} {id : Nat}

theorem keeps_disarm (ok : s.storesOk) : Keeps (Reg.state :: evKeys 62) s s.disarm := by
  unfold State.disarm
  split
  · have begun : Keeps (Reg.state :: evKeys 62) s { s with inj := { s.inj with armed := false, rules := 0 } } := ⟨ok, .of_regs rfl⟩
    exact (begun.setReg (by simp) 0).raise (List.subset_cons_self _ _) _
  · exact .refl ok

theorem pending_disarm (ok : s.storesOk) {b : Nat} (hb : bit (s.reg Reg.pending) b = true) : bit (s.disarm.reg Reg.pending) b = true := by
  unfold State.disarm
  split
  · have set : (({ s with inj := { s.inj with armed := false, rules := 0 } } : State).setReg Reg.state 0).storesOk :=
      storesOk_setReg (s := { s with inj := { s.inj with armed := false, rules := 0 } }) ok _ _
    refine (Moves.raise (ks := evKeys 62) _ (List.Subset.refl _) _).pending set b ?_
    exact (congrArg (bit · b) (reg_setReg_ne (s := { s with inj := { s.inj with armed := false, rules := 0 } }) ok _ (by decide))).trans hb
  · exact hb

/-- `s` with the transfers of session `id` abandoned. -/
@[irreducible] def State.xfersLeft (s : State) (id : Nat) : State := s.abandonOf (.session id)

/-- and with the injector disarmed when that session armed it. -/
@[irreducible] def State.injLeft (s : State) (id : Nat) : State :=
  if (s.xfersLeft id).inj.armed && (s.xfersLeft id).inj.by_ == id then (s.xfersLeft id).disarm else s.xfersLeft id

/-- and with its carabiners broken. -/
@[irreducible] def State.cbsLeft (s : State) (id : Nat) : State := (s.injLeft id).forceAll (.session id)

/-- `t` without session `id`, its waiting requests, its ACQ_RESULT and its waits on spill queues. -/
def State.sessionGone (t : State) (id : Nat) : State :=
  { t with ctl := { t.ctl with sessions := t.ctl.sessions.filter (fun x => x.id != id), jobs := t.ctl.jobs.filter fun j => j.org != .session id }
           carabs := { t.carabs with result := t.carabs.result.filter fun p => p.1 != .session id }
           q := { t.q with spills := t.q.spills.map fun (p : Nat × Spill) => (p.1, p.2.dropPops (.session id)) } }

/-- `s` as the end of session `id` leaves it, but for EV43. -/
def State.left (s : State) (id : Nat) : State := (s.cbsLeft id).sessionGone id

theorem State.endSession_of_some {x : Session} (h : s.session id = some x) (cause : Nat) :
    s.endSession id cause = (s.left id).raise 43 (beBytes 4 id ++ beBytes 1 cause) := by
  unfold State.endSession State.left State.cbsLeft State.injLeft State.xfersLeft State.sessionGone
  rw [h]

theorem State.xfersLeft_eq (s : State) (id : Nat) : s.xfersLeft id = s.withXfer (s.xfersLeft id) := by
  unfold State.xfersLeft
  exact State.abandons_eq _ s

theorem State.injLeft_eq (s : State) (id : Nat) : s.injLeft id =
    { s.xfersLeft id with inj := (s.injLeft id).inj, regs := (s.injLeft id).regs, ev := (s.injLeft id).ev, q := (s.injLeft id).q
                          report := (s.injLeft id).report } := by
  unfold State.injLeft
  split
  · exact State.disarm_frame _
  · rfl

theorem State.cbsLeft_eq (s : State) (id : Nat) : s.cbsLeft id = (s.injLeft id).withSched (s.cbsLeft id) := by
  unfold State.cbsLeft
  exact (moves_forceAll _ _).frame

theorem keeps_xfersLeft (ok : s.storesOk) (id : Nat) : Keeps [Reg.fwState] s (s.xfersLeft id) := by
  unfold State.xfersLeft
  exact Keeps.foldl _ (fun _ ht x _ => keeps_abandon ht x) ok

theorem keeps_injLeft (ok : s.storesOk) (id : Nat) : Keeps leaveKeys s (s.injLeft id) := by
  have before := (keeps_xfersLeft ok id).mono (js := leaveKeys) (by decide)
  unfold State.injLeft
  split
  · exact before.trans ((keeps_disarm before.stores).mono (by decide))
  · exact before

theorem keeps_cbsLeft (ok : s.storesOk) (id : Nat) : Keeps leaveKeys s (s.cbsLeft id) := by
  have before := keeps_injLeft ok id
  unfold State.cbsLeft
  exact before.trans (((moves_forceAll _ _).keeps before.stores).mono (by decide))

theorem keeps_sessionGone {ks : List Nat} (ok : s.storesOk) (id : Nat) : Keeps ks s (s.sessionGone id) := ⟨ok, .of_regs rfl⟩

theorem keeps_left (ok : s.storesOk) (id : Nat) : Keeps leaveKeys s (s.left id) :=
  (keeps_cbsLeft ok id).trans (keeps_sessionGone (keeps_cbsLeft ok id).stores id)

theorem keeps_endSession {x : Session} (ok : s.storesOk) (h : s.session id = some x) (cause : Nat) : Keeps endKeys s (s.endSession id cause) := by
  rw [State.endSession_of_some h]
  exact ((keeps_left ok id).mono (List.subset_append_left _ _)).raise (List.subset_append_right _ _) _

/-- The parts of a state that no step of a session's end touches. -/
def State.standing (s : State) : ModeSt × ClockSt × List Output × List Instr × CtlSt := (s.mode, s.clock, s.sent, s.pending, s.ctl)

theorem State.cbsLeft_standing (s : State) (id : Nat) : (s.cbsLeft id).standing = s.standing := by
  calc (s.cbsLeft id).standing = (s.injLeft id).standing := by rw [State.cbsLeft_eq]; rfl
    _ = (s.xfersLeft id).standing := by rw [State.injLeft_eq]; rfl
    _ = s.standing := by rw [State.xfersLeft_eq]; rfl

/-- The end of a session leaves these units, and of the control unit all but the session and its requests. -/
theorem State.left_units (s : State) (id : Nat) : (s.left id).mode = s.mode ∧ (s.left id).clock = s.clock ∧ (s.left id).sent = s.sent ∧
    (s.left id).pending = s.pending ∧ (s.left id).ctl =
      { s.ctl with sessions := s.ctl.sessions.filter (fun x => x.id != id), jobs := s.ctl.jobs.filter fun j => j.org != .session id } := by
  have stands := s.cbsLeft_standing id
  simp only [State.standing, Prod.mk.injEq] at stands
  obtain ⟨mode, clock, sent, pending, ctl⟩ := stands
  refine ⟨mode, clock, sent, pending, ?_⟩
  rw [← ctl]
  rfl

theorem State.left_xfer (s : State) (id : Nat) : (s.left id).xfer = (s.xfersLeft id).xfer ∧ (s.left id).flash = (s.xfersLeft id).flash ∧
    (s.left id).inj = (s.injLeft id).inj := by
  refine ⟨?_, ?_, ?_⟩
  · calc (s.cbsLeft id).xfer = (s.injLeft id).xfer := by rw [State.cbsLeft_eq]; rfl
      _ = (s.xfersLeft id).xfer := by rw [State.injLeft_eq]
  · calc (s.cbsLeft id).flash = (s.injLeft id).flash := by rw [State.cbsLeft_eq]; rfl
      _ = (s.xfersLeft id).flash := by rw [State.injLeft_eq]
  · show (s.cbsLeft id).inj = _
    rw [State.cbsLeft_eq]
    rfl

/-- EV43 is raised once. -/
theorem counted_endSession {x : Session} (ok : s.storesOk) (alive : s.alive = true) (h : s.session id = some x) (cause : Nat) :
    Counted 43 s (s.endSession id cause) := by
  have lives : (s.left id).alive = true := by
    rw [← alive]
    unfold State.alive
    rw [(s.left_units id).1]
  rw [State.endSession_of_some h]
  exact (counted_raise (keeps_left ok id).stores lives (by decide) _).of_reg ((keeps_left ok id).reg (by decide))

theorem State.endSession_raised {x : Session} (h : s.session id = some x) (cause : Nat) :
    ∃ g e q r, s.endSession id cause = { s.left id with regs := g, ev := e, q := q, report := r } := by
  rw [State.endSession_of_some h, State.raise_eq]
  exact ⟨_, _, _, _, rfl⟩

theorem State.left_open (s : State) (id : Nat) : ∀ y ∈ (s.left id).xfer.open_, y.org ≠ .session id := by
  intro y hy
  rw [(s.left_xfer id).1] at hy
  unfold State.xfersLeft at hy
  obtain ⟨was, others⟩ := State.abandons_open _ s y hy
  exact fun h => others y (List.mem_filter.mpr ⟨was, by simp [h]⟩) rfl

theorem State.left_flash (h : ∀ y ∈ s.xfer.open_, y.org = .session id → s.flashRegion y = none) : (s.left id).flash = s.flash := by
  rw [(s.left_xfer id).2.1]
  unfold State.xfersLeft
  refine State.abandons_flash _ s fun x hx => ?_
  obtain ⟨mem, org⟩ := List.mem_filter.mp hx
  exact h x mem (by simpa using org)

theorem State.left_jobs (s : State) (id : Nat) : ∀ j ∈ (s.left id).ctl.jobs, j.org ≠ .session id := by
  intro j hj
  rw [(s.left_units id).2.2.2.2] at hj
  simpa using (List.mem_filter.mp hj).2

theorem State.left_session (s : State) (id : Nat) : (s.left id).session id = none := by
  unfold State.session
  rw [(s.left_units id).2.2.2.2]
  refine List.find?_eq_none.mpr fun x hx => ?_
  have := (List.mem_filter.mp hx).2
  simpa using this

theorem State.left_session_other {y : Nat} (h : y ≠ id) : (s.left id).session y = s.session y := by
  unfold State.session
  rw [(s.left_units id).2.2.2.2]
  dsimp only
  rw [List.find?_filter]
  refine congrArg (List.find? · s.ctl.sessions) (funext fun x => ?_)
  by_cases hx : x.id = y
  · simp [hx, h]
  · simp [hx]

theorem State.left_cb (s : State) {c : Nat} (hc : c < 64) : ((s.left id).cb c).owner ≠ some (.session id) := by
  rw [show (s.left id).cb c = (s.cbsLeft id).cb c from rfl]
  unfold State.cbsLeft
  exact State.owner_forceAll (.session id) hc

/-- What the session armed is disarmed. -/
theorem State.left_inj (armed : s.inj.armed = true) (own : s.inj.by_ = id) : (s.left id).inj.armed = false := by
  have same : (s.xfersLeft id).inj = s.inj := by rw [State.xfersLeft_eq]; rfl
  rw [(s.left_xfer id).2.2]
  unfold State.injLeft
  rw [if_pos (by simp [same, armed, own])]
  unfold State.disarm
  rw [if_pos (by rw [same, armed]), State.raise_eq]
  rfl

end

end Sys2Proof.Machine

/-! PROOFS. SESS_KILL, ACQUIRE, RENEW, RELEASE and FORCE_RELEASE (R354, R407, R409, R410). -/

namespace Sys2Proof.Machine

section
variable {s : State} {o : Origin} {v : Bytes} {c id : Nat}

/-! ### What each command does -/

theorem State.runCmd_sessKill (hid : id < two32) {x : Session} (h : s.session id = some x) :
    s.runCmd { org := o, ix := Reg.sessKill / 256, sub := Reg.sessKill % 256, val := beBytes 4 id } = (0, 2, s.endSession id 4) := by
  rw [State.runCmd_system (.inl (by show 0x3401 < 0x4000; decide))]
  unfold State.runSystem
  simp only [key_div_mod]
  simp [cmdOk, beNat_beBytes (show id < 256 ^ 4 from hid), h]

theorem State.runCmd_acquire : s.runCmd { org := o, ix := Reg.acquire / 256, sub := Reg.acquire % 256, val := v } =
    cmdOf (s.acquire o (field v 0 1) (field v 2 2)) := by
  rw [State.runCmd_core (by show 0x8100 ≤ 0x8B00; decide)]
  unfold State.runCore
  simp only [key_div_mod]
  simp

theorem State.runCmd_renew : s.runCmd { org := o, ix := Reg.renew / 256, sub := Reg.renew % 256, val := v } =
    cmdOf (s.renewCb o (field v 0 1) (field v 2 2)) := by
  rw [State.runCmd_core (by show 0x8100 ≤ 0x8B00; decide)]
  unfold State.runCore
  simp only [key_div_mod]
  simp

theorem State.runCmd_release (hc : c < 256) {t : State} (h : s.releaseCb o c = (0, t)) :
    s.runCmd { org := o, ix := Reg.release / 256, sub := Reg.release % 256, val := beBytes 1 c } = (0, 2, t) := by
  rw [State.runCmd_core (by show 0x8100 ≤ 0x8B00; decide)]
  unfold State.runCore
  simp only [key_div_mod]
  simp [beNat_beBytes (show c < 256 ^ 1 by omega), h, cmdOf, cmdOk]

theorem State.runCmd_forceRelease (hc : c < 64) :
    s.runCmd { org := o, ix := Reg.forceRelease / 256, sub := Reg.forceRelease % 256, val := beBytes 1 c } = (0, 2, s.forceCb c) := by
  have force : s.forceRelease c = (0, s.forceCb c) := if_neg (by omega)
  rw [State.runCmd_core (by show 0x8100 ≤ 0x8B00; decide)]
  unfold State.runCore
  simp only [key_div_mod]
  simp [beNat_beBytes (show c < 256 ^ 1 by omega), force, cmdOf, cmdOk]

/-- A lease that has not ended leaves its carabiner. -/
theorem State.leaseEnd_early (h : ∀ n, (s.cb c).lease = some n → s.tickNow < n) : s.leaseEnd c = s := by
  unfold State.leaseEnd
  split
  · next n hn => exact if_neg fun hle => absurd (h n hn) (Nat.not_lt.mpr hle.1)
  · rfl

/-- What ACQUIRE of a free carabiner leaves (R409). -/
theorem State.acquire_free {lease : Nat} (hc : c < 60) (hl : 0 < lease) (hfree : (s.cb c).owner = none) (hlease : (s.cb c).lease = none)
    (rank : ∀ k, c ≤ k → k < 64 → (s.cb k).owner ≠ some o.holder) : s.acquire o c lease =
      (0, (s.setCb c { owner := some o.holder, broken := (s.cb c).broken, lease := some (s.tickNow + lease) }).acqResult o
        (if (s.cb c).broken then 2 else 1)) := by
  have early : s.leaseEnd c = s := State.leaseEnd_early fun n hn => by rw [hlease] at hn; cases hn
  have ranked : ((List.range 64).any fun k => (s.cb k).owner == some o.holder && decide (c ≤ k)) = false := by
    refine List.any_eq_false.mpr fun k hk => ?_
    simp only [Bool.and_eq_true, beq_iff_eq, decide_eq_true_eq, not_and]
    exact fun holds le => rank k le (List.mem_range.mp hk) holds
  unfold State.acquire
  rw [if_neg (by omega), early]
  dsimp only
  rw [if_neg (by omega), ranked, if_neg Bool.false_ne_true, hfree, if_neg (by simp), Nat.max_eq_right hl]

theorem State.releaseCb_own (hc : c < 64) (hown : (s.cb c).owner = some o.holder) (h : ∀ n, (s.cb c).lease = some n → s.tickNow < n) :
    s.releaseCb o c = (0, s.freeCb c false) := by
  unfold State.releaseCb
  dsimp only
  rw [State.leaseEnd_early h, if_pos ⟨hc, hown⟩]

theorem State.renewCb_own {lease : Nat} (hc : c < 64) (hl : 0 < lease) (hown : (s.cb c).owner = some o.holder)
    (h : ∀ n, (s.cb c).lease = some n → s.tickNow < n) :
    s.renewCb o c lease = (0, s.setCb c { s.cb c with lease := some (s.tickNow + lease) }) := by
  unfold State.renewCb
  rw [if_neg (by omega)]
  dsimp only
  rw [State.leaseEnd_early h, if_pos hown, Nat.max_eq_right hl]

/-- A carabiner broken is counted in BREAKS, and EV38 raised for it, once (R410). -/
theorem counted_forceCb (ok : s.storesOk) (alive : s.alive = true) :
    Counted 38 s (s.forceCb c) ∧ (s.forceCb c).reg Reg.breaks_8B00 = min (s.reg Reg.breaks_8B00 + 1) (two32 - 1) := by
  have set : (s.setCb c { broken := true }).storesOk := ok
  have counts : (s.setCb c { broken := true }).reg Reg.breaks_8B00 = s.reg Reg.breaks_8B00 := rfl
  have bumped := storesOk_setReg set Reg.breaks_8B00 (min (s.reg Reg.breaks_8B00 + 1) (two32 - 1))
  have drawn := Moves.drawWord (ks := []) ((s.setCb c { broken := true }).incReg Reg.breaks_8B00) 8
  have lives : (((s.setCb c { broken := true }).incReg Reg.breaks_8B00).drawWord 8).2.alive = true := by
    rw [drawn.alive_eq]
    exact alive
  have served := moves_serveCb (s.breakCb c) c
  have broken := ((moves_breakCb s c).storesOk ok)
  have raised (p : Bytes) := counted_raise (ev := 38) (drawn.storesOk bumped) lives (by decide) p
  have kept (p : Bytes) := raise_kept (drawn.storesOk bumped) 38 p
  constructor
  · refine served.counted broken (by decide) ((raised _).of_reg ?_)
    rw [drawn.reg bumped (by simp)]
    exact reg_setReg_ne set _ (by decide)
  · unfold State.forceCb
    rw [served.reg broken (by decide)]
    refine ((kept _).reg (by decide)).trans ?_
    rw [drawn.reg bumped (by simp), reg_incReg set, counts]

/-! ### The rows -/

theorem cmdRow_acquire (hlen : v.length = 4) (hc : field v 0 1 < 60) (hl : 0 < field v 2 2) : ∃ x, CmdRow Reg.acquire .operator v x := by
  have lease : field v 2 2 ≤ 65535 := by have := field_lt v 2 2; omega
  refine cmdRow_record hlen (by decide +kernel) (fun d t => ?_) ?_
  · unfold recordListed
    simp only [key_div_mod]
    simp; omega
  · unfold recordClamp
    simp only [key_div_mod]
    simp [clampField_within hl lease]

theorem cmdRow_renew (hlen : v.length = 4) (hc : field v 0 1 < 64) (hl : 0 < field v 2 2) : ∃ x, CmdRow Reg.renew .operator v x := by
  have lease : field v 2 2 ≤ 65535 := by have := field_lt v 2 2; omega
  refine cmdRow_record hlen (by decide +kernel) (fun d t => ?_) ?_
  · unfold recordListed
    simp only [key_div_mod]
    simp; omega
  · unfold recordClamp
    simp only [key_div_mod]
    simp [clampField_within hl lease]

@[simp] theorem State.touch_cb (s : State) (o : Origin) (c : Nat) : (s.touch o).cb c = s.cb c := by rw [State.touch_eq]; rfl
@[simp] theorem State.touch_engine (s : State) (o : Origin) (e : Nat) : (s.touch o).engine e = s.engine e := by rw [State.touch_eq]; rfl
@[simp] theorem State.touch_tickNow (s : State) (o : Origin) : (s.touch o).tickNow = s.tickNow := by rw [State.touch_eq]; rfl

/-- A use of the unit opens and ends no session. -/
theorem State.touch_session_isSome (s : State) (o : Origin) (id : Nat) : ((s.touch o).session id).isSome = (s.session id).isSome := by
  cases o with
  | localPort => rfl
  | session j =>
    show ((s.ctl.sessions.map _).find? _).isSome = (s.ctl.sessions.find? _).isSome
    rw [List.find?_map, Option.isSome_map]
    congr 2
    funext x
    simp only [Function.comp_apply]
    split <;> rfl

end

/-- RELEASE (R409): the holder goes, and of the tasks that wait one may follow. -/
theorem exec_release {s : State} {o : Origin} {c : Nat} (ok : s.storesOk) (hu : s.canUse o .operator 1) (hc : c < 60)
    (hown : (s.cb c).owner = some o.holder) (hlease : ∀ n, (s.cb c).lease = some n → s.tickNow < n) :
    ∃ t, exec (.release o c) s = .next t ∧ t.reg Reg.release = 2 ∧ Keeps [Reg.release] ((s.touch o).freeCb c false) t ∧
      t = { (s.touch o).freeCb c false with regs := t.regs, sent := .result o 0 (Reg.release / 256) (Reg.release % 256) 0 [] ::
        ((s.touch o).freeCb c false).sent } := by
  have touched := storesOk_touch ok o
  have free : (s.touch o).releaseCb o c = (0, (s.touch o).freeCb c false) :=
    State.releaseCb_own (by omega) (by rwa [State.touch_cb]) (by rw [State.touch_cb, State.touch_tickNow]; exact hlease)
  have moved : Moves startKeys ((s.touch o).setCb c { broken := false }) ((s.touch o).freeCb c false) := moves_serveCb _ c
  obtain ⟨x, hx⟩ := cmdRow_span (k := Reg.release) (r := .operator) (lo := 0) (hi := 59) (n := c) (by decide +kernel) (by decide +kernel)
    (by omega) (by omega) (by omega)
  exact hx.exec_done hu (State.runCmd_release (by omega) free) (moved.storesOk touched) (moved.pending_eq.trans (State.touch_pending s o))

/-- Settles O25: each command is carried out as its message is accepted (`CmdRow.exec_done`). A carabiner let go may pass to a task that
waits, never to another origin (`cbServed_serveCb`); one broken is free and stays so (`State.cb_forceCb`). -/
theorem ownershipCommands : Obligations.OwnershipCommands := by
  unfold Obligations.OwnershipCommands
  refine ⟨fun o id s ok hu hid hsome => ?_, fun o v s ok hu hlen hc hl hfree hlease rank => ?_, fun o v s ok hu hlen hc hl hown hlease => ?_,
    fun o c s ok hu hc hown hlease => ?_, fun o c s ok hu hc hown => ?_⟩
  · have touched := storesOk_touch ok o
    obtain ⟨y, hy⟩ := Option.isSome_iff_exists.mp ((State.touch_session_isSome s o id).trans hsome)
    have kept := keeps_endSession touched hy 4
    have counted := counted_endSession touched (by rw [State.touch_alive]; exact hu.1) hy 4
    have run := State.runCmd_sessKill (o := o) hid hy
    obtain ⟨g, e, q, r, ended⟩ := State.endSession_raised hy 4
    obtain ⟨mode, clock, sent, pending, ctl⟩ := (s.touch o).left_units id
    obtain ⟨x, hx⟩ := cmdRow_number (n := 4) id (k := Reg.sessKill) (r := .installer) (by decide +kernel) (by decide +kernel)
    obtain ⟨t, ht, hst, keeps, frame⟩ := hx.exec_done hu run kept.stores (by rw [ended]; exact pending.trans (State.touch_pending s o))
    rw [ended] at frame
    refine ⟨t, ht, ?_, fun j hj => ?_, ?_, ?_, fun c hc => ?_, fun armed own => ?_, hst,
      (counted.of_reg (State.touch_reg s o _)).kept keeps.regs (by decide) (by decide), ?_⟩
    · rw [frame]
      exact (s.touch o).left_session id
    · rw [frame, ← State.touch_session_isSome s o j]
      exact congrArg Option.isSome (State.left_session_other hj)
    · rw [frame]
      exact (s.touch o).left_open id
    · rw [frame]
      exact (s.touch o).left_jobs id
    · rw [frame]
      exact (s.touch o).left_cb hc
    · rw [frame]
      exact State.left_inj (by rw [State.touch_eq]; exact armed) (by rw [State.touch_eq]; exact own)
    · rw [frame]
      rfl
  · have touched := storesOk_touch ok o
    have run := State.runCmd_acquire (s := s.touch o) (o := o) (v := v)
    rw [State.acquire_free hc hl (by rwa [State.touch_cb]) (by rwa [State.touch_cb]) (fun k hk hk' => by rw [State.touch_cb]; exact rank k hk hk'),
      State.touch_cb, State.touch_tickNow] at run
    obtain ⟨x, hx⟩ := cmdRow_acquire hlen hc hl
    obtain ⟨t, ht, hst, kept, frame⟩ := hx.exec_done hu run touched (State.touch_pending s o)
    have carabs : (s.touch o).carabs = s.carabs := by rw [State.touch_eq]
    refine ⟨t, ht, ?_, ?_, hst, (RegsKept.of_regs (State.touch_regs s o)).trans kept.regs, ?_⟩
    · rw [frame, ← carabs]
      rfl
    · rw [frame]
      rfl
    · rw [frame]
      cases o <;> rfl
  · have touched := storesOk_touch ok o
    have run := State.runCmd_renew (s := s.touch o) (o := o) (v := v)
    rw [State.renewCb_own hc hl (by rwa [State.touch_cb]) (by rw [State.touch_cb, State.touch_tickNow]; exact hlease), State.touch_cb,
      State.touch_tickNow] at run
    obtain ⟨x, hx⟩ := cmdRow_renew hlen hc hl
    obtain ⟨t, ht, hst, kept, frame⟩ := hx.exec_done hu run touched (State.touch_pending s o)
    have carabs : (s.touch o).carabs = s.carabs := by rw [State.touch_eq]
    refine ⟨t, ht, hst, (RegsKept.of_regs (State.touch_regs s o)).trans kept.regs, ?_, ?_, ?_⟩
    · rw [frame, ← carabs]
      rfl
    · rw [frame, ← carabs]
      rfl
    · rw [frame]
      cases o <;> rfl
  · obtain ⟨t, ht, hst, kept, frame⟩ := exec_release ok hu hc hown hlease
    have moved : Moves startKeys ((s.touch o).setCb c { broken := false }) ((s.touch o).freeCb c false) := moves_serveCb _ c
    have served : CbServed c ((s.touch o).setCb c { broken := false }) ((s.touch o).freeCb c false) := cbServed_serveCb _ c
    have cb (k : Nat) : t.cb k = ((s.touch o).freeCb c false).cb k := State.cb_congr (by rw [frame]) k
    have hl : c < (s.touch o).carabs.cbs.length := State.cb_lt_length fun h => by rw [State.touch_cb] at h; rw [h] at hown; cases hown
    have freed : ((s.touch o).setCb c { broken := false }).cb c = {} := State.cb_setCb hl _
    have self := served.self
    rw [freed] at self
    refine ⟨t, ht, ?_, ?_, hst, fun k hk => ?_, ?_, fun idle => ?_⟩
    · rw [cb c]
      rcases self with h | ⟨-, -, id, h⟩
      · rw [h]; nofun
      · rw [h]
        intro same
        cases o <;> cases same
    · rw [cb c]
      rcases self with h | ⟨-, -, id, h⟩ <;> rw [h]
    · rw [cb k, served.others k hk, State.cb_setCb_ne hk, State.touch_cb]
    · rw [frame]
      rfl
    · have still : (s.touch o).freeCb c false = (s.touch o).setCb c { broken := false } :=
        State.serveCb_of_none_waiting (fun e he x hx => idle e he x (by rwa [show ((s.touch o).setCb c { broken := false }).engine e = s.engine e from
          State.touch_engine s o e] at hx)) c
      rw [still] at kept frame
      refine ⟨(RegsKept.of_regs (State.touch_regs s o)).trans kept.regs, ?_⟩
      rw [frame]
      cases o <;> rfl
  · have touched := storesOk_touch ok o
    have moved := moves_forceCb (s.touch o) c
    have hl : c < (s.touch o).carabs.cbs.length := State.cb_lt_length fun h => by rw [State.touch_cb] at h; rw [h] at hown; cases hown
    obtain ⟨x, hx⟩ := cmdRow_span (k := Reg.forceRelease) (r := .service) (lo := 0) (hi := 63) (n := c) (by decide +kernel) (by decide +kernel)
      (by omega) (by omega) (by omega)
    obtain ⟨t, ht, hst, kept, frame⟩ := hx.exec_done hu (State.runCmd_forceRelease hc) (moved.storesOk touched)
      (moved.pending_eq.trans (State.touch_pending s o))
    have cb (k : Nat) : t.cb k = ((s.touch o).forceCb c).cb k := State.cb_congr (by rw [frame]) k
    obtain ⟨counted, breaks⟩ := counted_forceCb (c := c) touched (by rw [State.touch_alive]; exact hu.1)
    refine ⟨t, ht, ?_, ?_, hst, fun k hk => ?_, (counted.of_reg (State.touch_reg s o _)).kept kept.regs (by decide) (by decide), ?_, ?_⟩
    · rw [cb c, State.cb_forceCb hl]
    · rw [cb c, State.cb_forceCb hl]
    · rw [cb k, State.cb_forceCb_ne hk, State.touch_cb]
    · rw [kept.reg (by decide), breaks, State.touch_reg]
    · rw [frame]
      rfl

end Sys2Proof.Machine

/-! SUPPORT. Frames that are no PTP messages: sending them counts them and stamps nothing (R294, R298, R301, R304, R314). -/

namespace Sys2Proof.Machine

/-- A frame that is no PTP message. -/
def Output.plain : Output → Bool
  | .ptp _ _ _ => false
  | _ => true

section
variable {s t : State} {p len : Nat} {o : Output}

theorem State.stampOut_plain (h : o.plain = true) : s.stampOut p o = s := by
  unfold State.stampOut
  split
  · cases h
  · rfl

theorem FramesSent.txNow_plain (hp : p < 3) (h : o.plain = true) (len : Nat) : FramesSent s (s.txNow p len o) := by
  obtain ⟨frames, octets, -⟩ := mem_txKeys hp
  unfold State.txNow
  rw [State.stampOut_plain h]
  exact ((FramesSent.setReg frames _).trans (.setReg octets _)).trans (.send _)

theorem FramesSent.tx_plain (hp : p < 3) (h : o.plain = true) (len : Nat) : FramesSent s (s.tx p len o) := by
  obtain ⟨-, -, discards⟩ := mem_txKeys hp
  obtain e | e | e | e := State.tx_cases s p len o
  · rw [e]; exact .refl s
  · rw [e]; exact .setReg discards _
  · rw [e]; exact .setPort _
  · rw [e]; exact .txNow_plain hp h len

theorem FramesSent.sendRopeWith_plain {mk : Nat → RopeTag → Output} (h : ∀ p tag, (mk p tag).plain = true) (dstk cls dst inner len : Nat)
    (both : Bool) : FramesSent s (s.sendRopeWith dstk cls dst inner len both mk) := by
  have all (u : State) (seq : Nat) (l : List Nat) (hl : ∀ p ∈ l, p < 3) (s : State) :
      FramesSent s (l.foldl (fun t p => t.tx p len (mk p (u.ropeTag p dstk cls dst inner 0 seq))) s) :=
    FramesSent.foldl l (fun t p hp => .tx_plain (hl p hp) (h p _) len) s
  have ports := fun p => s.lt_of_mem_ropePorts (p := p) (cls := cls) (both := both)
  unfold State.sendRopeWith
  dsimp only
  split
  · exact .refl s
  · split
    · exact .setReg (by decide) _
    · have sent := all s (if s.hasPos then s.rope.seq else 0) _ ports s
      split
      · next pos =>
        rw [if_pos pos] at sent
        exact sent.trans ⟨rfl, fun ok => ⟨ok, RegsKept.of_regs rfl⟩⟩
      · next pos =>
        rw [if_neg pos] at sent
        exact sent

theorem FramesSent.sendOut (to_ : Nat × Nat) (ty n : Nat) {rope : Nat → RopeTag → Output} {trail : Output}
    (h : ∀ p tag, (rope p tag).plain = true) (h2 : trail.plain = true) : FramesSent s (s.sendOut to_ ty n rope trail) := by
  unfold State.sendOut
  extract_lets head u
  have roped : FramesSent s u := by
    unfold u
    split
    · exact .refl s
    · exact .sendRopeWith_plain h _ _ _ _ _ _
  clear_value u
  split
  · exact .refl s
  · split
    · exact roped.trans (.tx_plain (by decide) h2 _)
    · exact roped

theorem FramesSent.sendUdp (s : State) (addr port : Nat) (b : Bytes) : FramesSent s (s.sendUdp addr port b) :=
  .sendOut _ _ _ (fun _ _ => rfl) rfl

theorem FramesSent.sendRope (s : State) (dstk cls dst inner : Nat) (b : Bytes) (both : Bool) : FramesSent s (s.sendRope dstk cls dst inner b both) :=
  .sendRopeWith_plain (fun _ _ => rfl) _ _ _ _ _ _

theorem FramesSent.sendSeg (s : State) (ty : Nat) (b : Bytes) : FramesSent s (s.sendSeg ty b) := .sendRope _ _ _ _ _ _ _

theorem FramesSent.sendNear (s : State) (hp : p < 3) (hop ty : Nat) (b : Bytes) : FramesSent s (s.sendNear p hop ty b) := by
  unfold State.sendNear
  dsimp only
  split
  · exact .tx_plain hp rfl _
  · exact .refl s

theorem FramesSent.reg (h : FramesSent s t) (ok : s.storesOk) {k : Nat} (hk : k ∉ txKeys) : t.reg k = s.reg k := (h.keeps ok).reg hk

theorem FramesSent.pending_eq (h : FramesSent s t) : t.pending = s.pending := by rw [h.frame]; rfl
theorem FramesSent.ctl_eq (h : FramesSent s t) : t.ctl = s.ctl := by rw [h.frame]; rfl
theorem FramesSent.clock_eq (h : FramesSent s t) : t.clock = s.clock := by rw [h.frame]; rfl
theorem FramesSent.mode_eq (h : FramesSent s t) : t.mode = s.mode := by rw [h.frame]; rfl
theorem FramesSent.alive_eq (h : FramesSent s t) : t.alive = s.alive := by rw [h.frame]; rfl
theorem FramesSent.xfer_eq (h : FramesSent s t) : t.xfer = s.xfer := by rw [h.frame]; rfl
theorem FramesSent.flash_eq (h : FramesSent s t) : t.flash = s.flash := by rw [h.frame]; rfl

end

end Sys2Proof.Machine

/-! PROOFS. CLOSE and the idle timeout of a session (R352, R354). -/

namespace Sys2Proof.Machine

section
variable {s t : State} {addr port id seq : Nat} {x : Session}

theorem session_of_sessionAt (h : s.sessionAt addr port id = some x) : s.session id = some x := by
  unfold State.sessionAt at h
  exact (Option.filter_eq_some_iff.mp h).1

/-- Time passes at least until then. -/
theorem State.le_reachCclk (s : State) (c : Nat) : c ≤ (s.reachCclk c).clock.cclk := by
  show c ≤ s.clock.cclk + (c - s.clock.cclk)
  omega

/-- What the end of a session leaves, of `t`. -/
structure SessionEnded (id : Nat) (s t : State) : Prop where
  gone : t.session id = none
  others : ∀ y, y ≠ id → t.session y = s.session y
  xfers : ∀ y ∈ t.xfer.open_, y.org ≠ .session id
  jobs : ∀ j ∈ t.ctl.jobs, j.org ≠ .session id
  counted : Counted 43 s t
  mode : t.mode = s.mode
  clock : t.clock = s.clock
  sent : t.sent = s.sent
  pending : t.pending = s.pending
  flash : (∀ y ∈ s.xfer.open_, y.org = .session id → s.flashRegion y = none) → t.flash = s.flash

theorem sessionEnded_endSession (ok : s.storesOk) (alive : s.alive = true) (h : s.session id = some x) (cause : Nat) :
    SessionEnded id s (s.endSession id cause) := by
  have counted := counted_endSession ok alive h cause
  obtain ⟨g, e, q, r, ended⟩ := State.endSession_raised h cause
  obtain ⟨mode, clock, sent, pending, -⟩ := s.left_units id
  rw [ended] at counted ⊢
  exact { gone := s.left_session id, others := fun _ hy => State.left_session_other hy, xfers := s.left_open id, jobs := s.left_jobs id
          counted := counted, mode := mode, clock := clock, sent := sent, pending := pending, flash := State.left_flash }

theorem State.closeIn_ends (served : s.netServed = true) (h : s.sessionAt addr port id = some x) :
    s.closeIn addr port id x.nextSeq = (s.sendUdp addr port (ctrlMsg 0x21 id x.nextSeq [])).endSession id 0 := by
  unfold State.closeIn
  rw [served, h]
  simp [State.sendCtrl]

theorem State.closeIn_refused (served : s.netServed = true) (h : s.sessionAt addr port id = some x) (hseq : seq ≠ x.nextSeq) :
    s.closeIn addr port id seq = s.seqError x seq := by
  unfold State.closeIn
  rw [served, h]
  simp [hseq]

end

/-- Settles O33: both ends of a session are `State.endSession` (`sessionEnded_endSession`); what CLOSE sends before it is one frame. -/
theorem sessionsClose : Obligations.SessionsClose := by
  unfold Obligations.SessionsClose
  refine ⟨fun addr port id seq x s ok served h hseq => ?_, fun addr port id seq x s ok served h hseq => ?_, fun id x s ok alive h => ?_⟩
  · subst hseq
    have frames := FramesSent.sendUdp s addr port (ctrlMsg 0x21 id x.nextSeq [])
    have alive : s.alive = true := (Bool.and_eq_true_iff.mp served).1
    have closing := State.closeIn_ends served h
    have keeps := frames.keeps ok
    have same (y : Nat) : (s.sendUdp addr port (ctrlMsg 0x21 id x.nextSeq [])).session y = s.session y := by
      unfold State.session
      rw [frames.ctl_eq]
    have region (y : Transfer) : (s.sendUdp addr port (ctrlMsg 0x21 id x.nextSeq [])).flashRegion y = s.flashRegion y := by
      rw [frames.frame]
      rfl
    generalize s.sendUdp addr port (ctrlMsg 0x21 id x.nextSeq []) = u at frames closing keeps same region ⊢
    have ended := sessionEnded_endSession keeps.stores (frames.alive_eq.trans alive) ((same id).trans (session_of_sessionAt h)) 0
    refine ⟨_, (congrArg s.done closing).trans (State.done_of_pending (ended.pending.trans frames.pending_eq)), ended.gone,
      fun y hy => (ended.others y hy).trans (same y), ended.xfers, ended.jobs, ended.counted.of_reg (keeps.reg (by decide)),
      ended.mode.trans frames.mode_eq, ended.clock.trans frames.clock_eq, fun free => ?_, ended.sent⟩
    rw [ended.flash fun y hy org => (region y).trans (free y (by rwa [frames.xfer_eq] at hy) org), frames.flash_eq]
  · have counted : (s.incReg Reg.seqErrors).storesOk := storesOk_setReg ok _ _
    have frames := FramesSent.sendUdp (s.incReg Reg.seqErrors) x.addr x.port
      (ctrlMsg 0x12 x.id seq (beBytes 2 0x0302 ++ beBytes 2 0 ++ beBytes 4 x.nextSeq))
    refine ⟨_, (congrArg s.done (State.closeIn_refused served h hseq)).trans (State.done_of_pending frames.pending_eq), ?_, rfl⟩
    exact (frames.reg counted (by decide)).trans (reg_incReg ok _)
  · have ended := sessionEnded_endSession (s := s.reachCclk (x.last + ms (s.reg Reg.sessionTimeout))) (id := id) ok alive h 1
    have out : exec (.sessionTimeout id) s = s.done ((s.reachCclk (x.last + ms (s.reg Reg.sessionTimeout))).endSession id 1) := by
      show execSessionTimeout id s = _
      unfold execSessionTimeout
      rw [h]
    refine ⟨_, out.trans (State.done_of_pending ended.pending), ended.gone, ended.others, ended.xfers, ended.counted, ?_, ended.mode, ended.sent,
      ended.flash⟩
    rw [ended.clock]
    exact s.le_reachCclk _

end Sys2Proof.Machine

/-! PROOFS. Handshakes, RESPONSE, failures and the lockout (R350, R351). -/

namespace Sys2Proof.Machine

/-! ### Numbers not in use -/

/-- A number that none of the used has, while they leave one. -/
theorem unused_not_mem {b n : Nat} {used : List Nat} (h : used.length + 1 ≤ 2 ^ b - 1) : unused b n used ∉ used := by
  unfold unused
  generalize hl : (List.range (used.length + 1)).map (fun i => (n + (2 ^ b - 2) + i) % (2 ^ b - 1) + 1) = l
  have length : l.length = used.length + 1 := by rw [← hl]; simp
  have nodup : l.Nodup := by
    rw [← hl]
    refine List.Nodup.map_on (fun i hi j hj e => ?_) List.nodup_range
    have hi := List.mem_range.mp hi
    have hj := List.mem_range.mp hj
    have mod : (n + (2 ^ b - 2) + i) ≡ (n + (2 ^ b - 2) + j) [MOD 2 ^ b - 1] := Nat.succ.inj e
    exact Nat.ModEq.eq_of_lt_of_lt (Nat.ModEq.add_left_cancel' _ mod) (by omega) (by omega)
  cases hf : l.find? fun h => !used.contains h with
  | some v =>
    have := List.find?_some hf
    simpa using this
  | none =>
    have all : l ⊆ used := fun v hv => by
      have := List.find?_eq_none.mp hf v hv
      simpa using this
    have := (nodup.subperm all).length_le
    omega

section
variable {s t : State} {addr port role hs : Nat} {n mac key : Bytes} {h : Handshake}

theorem FramesSent.oracle_eq (h : FramesSent s t) : t.freeCount = s.freeCount ∧ t.oracle = s.oracle := by rw [h.frame]; exact ⟨rfl, rfl⟩

theorem State.drawRandom_eq (s : State) (b : Nat) :
    (s.drawRandom b).2 = { s with freeCount := (s.drawRandom b).2.freeCount, oracle := (s.drawRandom b).2.oracle } := by
  unfold State.drawRandom
  split <;> rfl

/-- `s` with a control unit and what the draws of random words leave. -/
def State.withCtl (s : State) (c : CtlSt) (n : Nat) (l : List Int) : State := { s with ctl := c, freeCount := n, oracle := l }

/-- Two draws change what they draw from alone. -/
theorem State.drawRandom_twice (s : State) (a b : Nat) : ((s.drawRandom a).2.drawRandom b).2 =
    s.withCtl s.ctl ((s.drawRandom a).2.drawRandom b).2.freeCount ((s.drawRandom a).2.drawRandom b).2.oracle := by
  have second := (s.drawRandom a).2.drawRandom_eq b
  generalize (s.drawRandom a).2.drawRandom b = d at second ⊢
  rw [second, State.drawRandom_eq]
  rfl

/-! ### HELLO (R350) -/

theorem State.helloIn_lockedOut (served : s.netServed = true) (hrole : role ≤ 3) (locked : s.lockedOut addr = true) : s.helloIn addr port role = s := by
  simp [State.helloIn, served, locked, Nat.not_lt.mpr hrole]

theorem State.helloIn_noKey (served : s.netServed = true) (hrole : role ≤ 3) (locked : s.lockedOut addr = false) (empty : s.keyOf role = none) :
    s.helloIn addr port role = s.sendRefuse addr port 0 0x0305 := by
  simp [State.helloIn, served, locked, empty, Nat.not_lt.mpr hrole]

theorem State.helloIn_full (served : s.netServed = true) (hrole : role ≤ 3) (locked : s.lockedOut addr = false) (held : (s.keyOf role).isSome = true)
    (full : 8 ≤ s.ctl.sessions.length ∨ 16 ≤ s.pendingHands.length) : s.helloIn addr port role = s.sendRefuse addr port 0 0x0303 := by
  obtain ⟨k, hk⟩ := Option.isSome_iff_exists.mp held
  simp [State.helloIn, served, locked, hk, Nat.not_lt.mpr hrole, full]

/-- The handshake that a HELLO opens. -/
def State.handOf (s : State) (addr port role : Nat) : Handshake :=
  { id := unused 32 (s.drawRandom 32).1 (s.pendingHands.map Handshake.id), role := Machine.roleOf role, addr := addr, port := port
    nonce := beBytes 16 ((s.drawRandom 32).2.drawRandom 128).1, born := s.clock.cclk, accept := none }

/-- The CHALLENGE of handshake `h`. -/
def State.challenge (s : State) (role : Nat) (h : Handshake) : Bytes :=
  ctrlMsg 0x02 0 0 (beBytes 4 h.id ++ beBytes 1 role ++ beBytes 3 0 ++ h.nonce ++ s.part.serial)

theorem State.helloIn_opens (served : s.netServed = true) (hrole : role ≤ 3) (locked : s.lockedOut addr = false)
    (held : (s.keyOf role).isSome = true) (hsess : s.ctl.sessions.length < 8) (hhands : s.pendingHands.length < 16) :
    ∃ n l, s.helloIn addr port role =
      (s.withCtl { s.ctl with hands := s.pendingHands ++ [s.handOf addr port role] } n l).sendUdp addr port
        (s.challenge role (s.handOf addr port role)) := by
  obtain ⟨k, hk⟩ := Option.isSome_iff_exists.mp held
  refine ⟨((s.drawRandom 32).2.drawRandom 128).2.freeCount, ((s.drawRandom 32).2.drawRandom 128).2.oracle, ?_⟩
  unfold State.helloIn
  rw [served, locked, hk]
  simp only [Bool.not_true, Bool.false_eq_true, if_false, Nat.not_lt.mpr hrole, Option.isNone_some, Nat.not_le.mpr hsess, Nat.not_le.mpr hhands,
    or_self]
  rw [State.drawRandom_twice]
  rfl

/-! ### RESPONSE (R351) -/

theorem State.responseIn_opens (served : s.netServed = true)
    (found : (s.pendingHands.find? fun x => x.id == hs && x.addr == addr && x.port == port) = some h) (new : h.accept = none)
    (hkey : s.keyOf h.role.rank = some key) (right : hmac key (h.nonce ++ n ++ s.part.serial) = mac) (room : s.ctl.sessions.length < 8) :
    s.responseIn addr port hs n mac = s.openSession h key n := by
  unfold State.responseIn
  rw [served, found]
  simp only [new, hkey, right, Nat.not_le.mpr room, Bool.not_true, Bool.false_eq_true, if_false, ne_eq, not_true_eq_false]

theorem State.responseIn_wrong (served : s.netServed = true)
    (found : (s.pendingHands.find? fun x => x.id == hs && x.addr == addr && x.port == port) = some h) (new : h.accept = none)
    (hkey : s.keyOf h.role.rank = some key) (wrong : hmac key (h.nonce ++ n ++ s.part.serial) ≠ mac) :
    s.responseIn addr port hs n mac = ((s.dropHand hs).sendRefuse addr port hs 0x0304).authFail addr h.role.rank := by
  unfold State.responseIn
  rw [served, found]
  simp only [new, hkey, wrong, Bool.not_true, Bool.false_eq_true, if_false, ne_eq, not_false_eq_true, if_true]

/-- The session that opens for handshake `h`. -/
def State.sessionFor (s : State) (h : Handshake) : Session :=
  { id := unused 32 (s.drawRandom 32).1 (s.ctl.sessions.map Session.id), slot := s.freeSlot, role := h.role, addr := h.addr, port := h.port
    nextSeq := ((s.drawRandom 32).2.drawRandom 32).1, opened := s.now, last := s.clock.cclk, cached := none }

/-- The ACCEPT of session `x`. -/
def State.acceptOf (s : State) (h : Handshake) (key n : Bytes) (x : Session) : Bytes :=
  ctrlMsg 0x04 0 0 (beBytes 4 h.id ++ beBytes 4 x.id ++ beBytes 4 x.nextSeq ++ beBytes 1 h.role.rank ++ beBytes 1 0 ++
    beBytes 2 (s.reg Reg.msgMax) ++ beBytes 4 (s.reg Reg.sessionTimeout) ++ beBytes 4 0 ++
    hmac key (n ++ h.nonce ++ s.part.serial ++ beBytes 4 x.id))

/-- The control unit with session `x` open. -/
def State.opened (s : State) (h : Handshake) (key n : Bytes) (x : Session) : CtlSt :=
  { s.ctl with sessions := s.ctl.sessions ++ [x]
               hands := s.ctl.hands.map fun (y : Handshake) => if y.id == h.id then { y with accept := some (s.acceptOf h key n x) } else y }

theorem State.openSession_eq (s : State) (h : Handshake) (key n : Bytes) : ∃ c l p, s.openSession h key n =
    ((s.withCtl (s.opened h key n (s.sessionFor h)) c l).sendUdp h.addr h.port (s.acceptOf h key n (s.sessionFor h))).raise 41 p := by
  refine ⟨((s.drawRandom 32).2.drawRandom 32).2.freeCount, ((s.drawRandom 32).2.drawRandom 32).2.oracle,
    beBytes 4 (s.sessionFor h).id ++ beBytes 1 h.role.rank ++ beBytes 4 h.addr ++ beBytes 2 h.port, ?_⟩
  unfold State.openSession
  dsimp only
  rw [State.drawRandom_twice]
  rfl

/-! ### Failures (R351) -/

/-- The failures of the last 10 s, the one of now among them. -/
def State.failsNow (s : State) (addr : Nat) : List (Nat × Nat) :=
  (s.ctl.fails.filter fun p => decide (s.clock.cclk < p.2 + ms 10000)) ++ [(addr, s.clock.cclk)]

/-- The lockouts after it. -/
def State.locksNow (s : State) (addr : Nat) : List (Nat × Nat) :=
  if decide (4 ≤ ((s.failsNow addr).filter fun p => p.1 == addr).length) then
    (s.ctl.lockouts.filter fun p => p.1 != addr) ++ [(addr, s.clock.cclk + ms 10000)] else s.ctl.lockouts

/-- `s` with the failure of `addr` noted. -/
def State.failNoted (s : State) (addr : Nat) : State :=
  { s with ctl := { s.ctl with fails := s.failsNow addr, lockouts := s.locksNow addr } }

theorem State.authFail_eq (s : State) (addr role : Nat) :
    s.authFail addr role = ((s.failNoted addr).incReg Reg.authFails).raise 42 (beBytes 4 addr ++ beBytes 1 role) := rfl

/-- The fourth failure of an address within 10 s locks it out. -/
theorem State.lockedOut_fourth (four : 3 ≤ (s.ctl.fails.filter fun p => decide (s.clock.cclk < p.2 + 10000000000) && p.1 == addr).length) :
    ((s.locksNow addr).any fun p => p.1 == addr && decide (s.clock.cclk < p.2)) = true := by
  have many : 4 ≤ ((s.failsNow addr).filter fun p => p.1 == addr).length := by
    unfold State.failsNow
    rw [List.filter_append, List.filter_filter, List.length_append]
    simp only [List.filter_cons, beq_self_eq_true, if_true, List.filter_nil, List.length_singleton]
    refine Nat.succ_le_succ (le_of_le_of_eq four (congrArg List.length (congrArg (List.filter · s.ctl.fails) (funext fun p => ?_))))
    exact Bool.and_comm _ _
  unfold State.locksNow
  rw [if_pos (by simpa using many)]
  simp

end

/-- Settles O32: HELLO and RESPONSE by their outcomes (`State.helloIn_*`, `State.responseIn_*`); the IDs are new by `unused_not_mem`. -/
theorem sessionsOpen : Obligations.SessionsOpen := by
  unfold Obligations.SessionsOpen
  refine ⟨⟨fun addr port role s served hrole locked held hsess hhands => ?_, fun addr port role s served hrole locked => ?_,
    fun addr port role s served hrole locked empty => ?_, fun addr port role s served hrole locked held full => ?_, fun id h s found => ?_⟩,
    fun addr port hs n mac key h s ok served found new hkey right room => ?_,
    fun addr port hs n mac key h s u ok served found new hkey wrong hu => ?_, fun addr till s found => ?_⟩
  · obtain ⟨c, l, opens⟩ := State.helloIn_opens (port := port) served hrole locked held hsess hhands
    have frames := FramesSent.sendUdp (s.withCtl { s.ctl with hands := s.pendingHands ++ [s.handOf addr port role] } c l) addr port
      (s.challenge role (s.handOf addr port role))
    obtain ⟨free, oracle⟩ := frames.oracle_eq
    refine ⟨_, s.handOf addr port role, (congrArg s.done opens).trans (State.done_of_pending frames.pending_eq), ?_, rfl, rfl, rfl, rfl, rfl,
      beBytes_length _ _, fun x hx => ?_, ?_⟩
    · rw [frames.ctl_eq]
      rfl
    · have new : (s.handOf addr port role).id ∉ s.pendingHands.map Handshake.id := unused_not_mem (by rw [List.length_map]; norm_num; omega)
      exact fun e => new (by rw [← e]; exact List.mem_map_of_mem hx)
    · rw [free, oracle, frames.ctl_eq]
      rfl
  · exact congrArg s.done (State.helloIn_lockedOut served hrole locked)
  · exact (congrArg s.done (State.helloIn_noKey served hrole locked empty)).trans (State.done_of_pending (FramesSent.sendUdp s _ _ _).pending_eq)
  · exact (congrArg s.done (State.helloIn_full served hrole locked held full)).trans (State.done_of_pending (FramesSent.sendUdp s _ _ _).pending_eq)
  · have out : exec (.handshakeExpire id) s = s.done ((s.reachCclk (h.born + ms 2000)).dropHand id) := by
      show execHandshakeExpire id s = _
      unfold execHandshakeExpire
      rw [found]
    exact ⟨_, out, s.le_reachCclk _, rfl⟩
  · obtain ⟨c, l, p, opens⟩ := s.openSession_eq h key n
    have frames := FramesSent.sendUdp (s.withCtl (s.opened h key n (s.sessionFor h)) c l) h.addr h.port (s.acceptOf h key n (s.sessionFor h))
    obtain ⟨free, oracle⟩ := frames.oracle_eq
    have begun : (s.withCtl (s.opened h key n (s.sessionFor h)) c l).storesOk := ok
    have sent := frames.keeps begun
    have alive : s.alive = true := (Bool.and_eq_true_iff.mp served).1
    have counted := (counted_raise (ev := 41) sent.stores (frames.alive_eq.trans alive) (by decide) p).of_reg (s := s) (sent.reg (by decide))
    have out := congrArg s.done ((State.responseIn_opens served found new hkey right room).trans opens)
    refine ⟨_, s.sessionFor h, p, out.trans (State.done_of_pending ?_), ?_, rfl, rfl, rfl, fun y hy => ?_, rfl, rfl, ?_, counted, ?_⟩
    · rw [State.raise_eq]
      exact frames.pending_eq
    · rw [State.raise_ctl, frames.ctl_eq]
      rfl
    · have fresh : (s.sessionFor h).id ∉ s.ctl.sessions.map Session.id := unused_not_mem (by rw [List.length_map]; norm_num; omega)
      exact fun e => fresh (by rw [← e]; exact List.mem_map_of_mem hy)
    · rw [State.raise_ctl, frames.ctl_eq]
      rfl
    · rw [State.raise_ctl, State.raise_freeCount, State.raise_oracle, free, oracle, frames.ctl_eq]
      rfl
  · have frames := FramesSent.sendUdp (s.dropHand hs) addr port (ctrlMsg 0x05 0 0 (beBytes 4 hs ++ beBytes 2 0x0304 ++ beBytes 2 0))
    have fails := State.responseIn_wrong served found new hkey wrong
    have dropped : (s.dropHand hs).storesOk := ok
    have alive : s.alive = true := (Bool.and_eq_true_iff.mp served).1
    rw [show (s.dropHand hs).sendUdp addr port (ctrlMsg 0x05 0 0 (beBytes 4 hs ++ beBytes 2 0x0304 ++ beBytes 2 0)) = u from hu.symm] at frames
    rw [← hu, State.authFail_eq] at fails
    have sent := frames.keeps dropped
    have sessions : u.ctl.sessions = s.ctl.sessions := (congrArg CtlSt.sessions frames.ctl_eq).trans rfl
    have hands : u.ctl.hands = s.ctl.hands.filter fun x => x.id != hs := (congrArg CtlSt.hands frames.ctl_eq).trans rfl
    have noted : (u.failNoted addr).storesOk := sent.stores
    have bumped : ((u.failNoted addr).incReg Reg.authFails).storesOk := storesOk_setReg noted _ _
    have kept := raise_kept bumped 42 (beBytes 4 addr ++ beBytes 1 h.role.rank)
    have counted := counted_raise (ev := 42) bumped (frames.alive_eq.trans alive) (by decide) (beBytes 4 addr ++ beBytes 1 h.role.rank)
    have frame := State.raise_eq ((u.failNoted addr).incReg Reg.authFails) 42 (beBytes 4 addr ++ beBytes 1 h.role.rank)
    refine ⟨_, (congrArg s.done fails).trans (State.done_of_pending ?_), ?_, ?_, ?_, counted.of_reg ?_, ?_, fun four => ?_, ?_⟩
    · rw [frame]
      exact frames.pending_eq
    · rw [frame]
      exact sessions
    · rw [frame]
      exact hands
    · rw [kept.reg (by decide)]
      refine (reg_incReg noted _).trans ?_
      exact congrArg (fun v => min (v + 1) (two32 - 1)) (sent.reg (k := Reg.authFails) (by decide))
    · exact (reg_setReg_ne noted _ (by decide)).trans (sent.reg (by decide))
    · exact ((RegsKept.of_regs rfl).setReg noted (by simp) _).trans (kept.mono (List.subset_cons_self _ _))
    · rw [frame]
      refine State.lockedOut_fourth (s := u) ?_
      rw [frames.ctl_eq, frames.clock_eq]
      exact four
    · rw [frame]
      rfl
  · have out : exec (.lockoutEnd addr) s = s.done { s.reachCclk till with ctl := { s.ctl with lockouts := s.ctl.lockouts.filter fun q => q.1 != addr } } := by
      show execLockoutEnd addr s = _
      unfold execLockoutEnd
      rw [found]
      rfl
    refine ⟨_, out, ?_, s.le_reachCclk _, rfl⟩
    refine List.any_eq_false.mpr fun p hp => ?_
    have := (List.mem_filter.mp hp).2
    simp only [bne_iff_ne, ne_eq] at this
    simp [this]

end Sys2Proof.Machine

/-! PROOFS. DOMAIN_READ, DOMAIN_END and the idle timeout of a transfer (R348, R349). -/

namespace Sys2Proof.Machine

section
variable {s : State} {o : Origin} {r : Role} {h : Nat} {x y : Transfer}

/-! ### The transfer of a handle (R346) -/

theorem xferOf_some (hx : s.xferOf o h = some x) : x.handle = h ∧ x.org = o := by
  have := List.find?_some hx
  simpa using this

@[simp] theorem State.touch_xferOf (s : State) (o p : Origin) (h : Nat) : (s.touch p).xferOf o h = s.xferOf o h := by rw [State.touch_eq]; rfl

theorem State.xferTarget_of_some (hx : s.xferOf o h = some x) : s.xferTarget o h = (x.ix, x.sub) := by
  unfold State.xferTarget
  rw [hx]
  rfl

/-- A transfer put back is found under its handle, used now. -/
theorem State.xferOf_setXfer (hx : s.xferOf o h = some x) (hh : y.handle = h) (ho : y.org = o) :
    (s.setXfer y).xferOf o h = some { y with last := s.clock.cclk } := by
  have held := List.mem_of_find?_eq_some hx
  obtain ⟨xh, xo⟩ := xferOf_some hx
  show List.find? _ (List.map _ _) = _
  rw [List.find?_map]
  cases found : s.xfer.open_.find? ((fun t => t.handle == h && t.org == o) ∘ fun (z : Transfer) =>
      if z.handle == y.handle then { y with last := s.clock.cclk } else z) with
  | none =>
    have := List.find?_eq_none.mp found x held
    simp [xh, hh, ho] at this
  | some z =>
    have hit := List.find?_some found
    simp only [Function.comp_apply] at hit
    rw [Option.map_some]
    split at hit
    · next hz => rw [if_pos hz]
    · next hz =>
      simp only [Bool.and_eq_true, beq_iff_eq] at hit hz
      exact absurd (hit.1.trans hh.symm) hz

theorem State.xferOf_filter (o : Origin) (h : Nat) :
    ((s.xfer.open_.filter fun z => z.handle != h).find? fun t => t.handle == h && t.org == o) = none := by
  refine List.find?_eq_none.mpr fun z hz => ?_
  have := (List.mem_filter.mp hz).2
  simp only [bne_iff_ne, ne_eq] at this
  simp [this]

/-- Out of RESET the boot ROM serves nothing. -/
theorem State.serveDom_of_role (ha : s.alive = true) (hr : s.roleOf o = some r) (ix sub : Nat) (f : State → Role → OpOut × State) :
    s.serveDom o ix sub f = State.answer o ix sub (f (s.touch o) r) := by
  have off : s.bootServes o ix sub = false := by unfold State.bootServes; rw [ha]; rfl
  unfold State.serveDom
  rw [off, if_neg Bool.false_ne_true, State.serve_of_role ha hr]

/-! ### DOMAIN_READ (R349) -/

/-- What a read of a block returns: its CRC and the bytes asked for. -/
def Transfer.blockBytes (x : Transfer) (block off count : Nat) : Bytes :=
  let b := slice x.data (block * 8192) (min 8192 (x.total - block * 8192))
  beBytes 4 (crc32 b) ++ (b.drop off).take (min count 65535)

theorem State.opDomRead_block {block off count : Nat} (hx : s.xferOf o h = some x) (hw : x.write = false) (hraw : x.ix ≠ 0x1012)
    (hb : block * 8192 < x.total) (hoff : off ≤ 8192) :
    s.opDomRead o h block off count 65535 = (.done 0 0x0D (x.blockBytes block off count), s.setXfer x) := by
  unfold State.opDomRead
  rw [hx]
  simp only [Option.filter, hw, Bool.not_false, if_true]
  rw [if_neg (by omega), if_neg hraw]
  rfl

/-! ### DOMAIN_END (R348, R349) -/

theorem State.opEnd_none (hx : s.xferOf o h = none) (ab sig : Bool) : s.opEnd o h ab sig = (0x0306, s) := by
  unfold State.opEnd
  rw [hx]

theorem State.opEnd_read (hx : s.xferOf o h = some x) (hw : x.write = false) (ab sig : Bool) : s.opEnd o h ab sig = (0, s.dropXfer h) := by
  unfold State.opEnd
  rw [hx]
  dsimp only
  rw [hw]
  rfl

theorem State.opEnd_abandon (hx : s.xferOf o h = some x) (hw : x.write = true) (sig : Bool) : s.opEnd o h true sig = (0, s.abandon x) := by
  unfold State.opEnd
  rw [hx]
  dsimp only
  rw [hw]
  rfl

theorem State.abandon_alive (s : State) (x : Transfer) : (s.abandon x).alive = s.alive := by rw [State.abandon_eq]; rfl

/-- A write that is not whole is abandoned, with a reject record. -/
theorem State.opEnd_incomplete (ha : s.alive = true) (hx : s.xferOf o h = some x) (hw : x.write = true) (hlen : x.data.length < x.total) (sig : Bool) :
    s.opEnd o h false sig = (0x0104, (s.abandon x).rejected x.ix x.sub o.source 0x0104 4 0) := by
  unfold State.opEnd
  rw [hx]
  simp [hw, hlen, ha]

theorem State.touch_eraseTransfer_flash (s : State) (o : Origin) (x : Transfer) :
    ((s.touch o).eraseTransfer x).flash = (s.eraseTransfer x).flash := by
  have region : (s.touch o).flashRegion x = s.flashRegion x := by rw [State.touch_eq]; rfl
  unfold State.eraseTransfer
  rw [region]
  split
  · rw [State.touch_eq]; rfl
  · rw [State.touch_eq]

theorem exec_domainEnd (ha : s.alive = true) (hr : s.roleOf o = some r) (ab sig : Bool) : exec (.domainEnd o h ab sig) s =
    s.done (State.answer o (s.xferTarget o h).1 (s.xferTarget o h).2 (outOf ((s.touch o).opEnd o h ab sig))) :=
  congrArg s.done (State.serveDom_of_role ha hr _ _ _)

end

/-- Settles O30: each operation by its outcome, on the transfer its handle names (`State.xferOf_setXfer`, `State.xferOf_filter`). -/
theorem transfersEnd : Obligations.TransfersEnd := by
  unfold Obligations.TransfersEnd
  refine ⟨fun o r h block off count x s ha hr hx hw hraw hd hb hoff => ?_, fun o r h x ab sig s ha hr hx hd hend => ?_,
    fun x n s hw hn hix hsub => ?_, fun x s hx => ?_, fun o r h x sig s ok ha hr hx hd hw hlen => ?_, fun o r h sig ab s ha hr hx => ?_,
    fun h x s hx hfw => ?_⟩
  · have touched : (s.touch o).xferOf o h = some x := (State.touch_xferOf s o o h).trans hx
    obtain ⟨hh, ho⟩ := xferOf_some hx
    have out : exec (.domainRead o h block off count) s =
        s.done (((s.touch o).setXfer x).send (.result o 0 x.ix x.sub 0x0D (x.blockBytes block off count))) := by
      refine (congrArg s.done (State.serveDom_of_role ha hr _ _ _)).trans ?_
      rw [State.opDomRead_block touched hw hraw hb hoff, State.xferTarget_of_some hx]
      rfl
    refine ⟨_, out.trans (State.done_of_pending (State.touch_pending s o)), ?_, ?_, ?_⟩
    · exact congrArg (_ :: ·) (State.touch_sent s o)
    · rw [← State.touch_clock s o]
      exact State.xferOf_setXfer touched hh ho
    · cases o <;> rfl
  · have touched : (s.touch o).xferOf o h = some x := (State.touch_xferOf s o o h).trans hx
    have hh := (xferOf_some hx).1
    have ended : ∃ u, (s.touch o).opEnd o h ab sig = (0, u) ∧ u = { s.touch o with
        xfer := { s.xfer with open_ := s.xfer.open_.filter fun y => y.handle != h }, flash := (s.eraseTransfer x).flash } := by
      have xfer : (s.touch o).xfer = s.xfer := by rw [State.touch_eq]
      have flash : (s.touch o).flash = s.flash := by rw [State.touch_eq]
      cases hw : x.write with
      | false =>
        refine ⟨_, State.opEnd_read touched hw ab sig, ?_⟩
        have region : s.flashRegion x = none := by unfold State.flashRegion; rw [hw]; rfl
        rw [State.eraseTransfer_of_none region, ← flash, ← xfer]
        rfl
      | true =>
        obtain ⟨rfl, hix⟩ := hend.resolve_left (by rw [hw]; nofun)
        refine ⟨_, State.opEnd_abandon touched hw sig, ?_⟩
        rw [State.abandon_eq, State.abandon_regs (.inr hix), State.touch_eraseTransfer_flash, ← xfer, ← hh]
        rfl
    obtain ⟨u, hu, frame⟩ := ended
    have out := exec_domainEnd (h := h) ha hr ab sig
    rw [hu, State.xferTarget_of_some hx] at out
    refine ⟨u.send (.result o 0 x.ix x.sub 0 []), out.trans (State.done_of_pending ?_), ?_, ?_⟩
    · rw [frame]
      exact State.touch_pending s o
    · rw [frame]
      exact State.xferOf_filter o h
    · rw [frame]
      cases o <;> rfl
  · have region : s.flashRegion x = some (s.slotBase n, s.slotSize) := by
      unfold State.flashRegion
      rcases hn with rfl | rfl <;> simp [hw, hix, hsub, Reg.key]
    unfold State.eraseTransfer
    rw [region]
  · refine State.eraseTransfer_of_none ?_
    rcases hx with hw | none_
    · unfold State.flashRegion; rw [hw]; rfl
    · exact none_
  · have touched : (s.touch o).xferOf o h = some x := (State.touch_xferOf s o o h).trans hx
    have hh := (xferOf_some hx).1
    have alive : (s.touch o).alive = true := by rw [State.touch_alive]; exact ha
    have kept := keeps_abandon (storesOk_touch ok o) x
    have counted := (counted_rejected kept.stores (by rw [State.abandon_alive]; exact alive) x.ix x.sub o.source 0x0104 4 0).of_reg (s := s)
      ((kept.reg (by decide)).trans (State.touch_reg s o _))
    have frame := (State.rejected_eq ((s.touch o).abandon x) x.ix x.sub o.source 0x0104 4 0)
    have out := exec_domainEnd (h := h) ha hr false sig
    rw [State.opEnd_incomplete alive touched hw hlen, State.xferTarget_of_some hx] at out
    generalize ((s.touch o).abandon x).rejected x.ix x.sub o.source 0x0104 4 0 = u at counted frame out
    rw [State.abandon_eq] at frame
    refine ⟨u.send (.result o 0x0104 x.ix x.sub 0 []), out.trans (State.done_of_pending ?_), ?_, ⟨counted.1, counted.2⟩, ?_, ?_, ?_⟩
    · rw [frame]
      exact State.touch_pending s o
    · rw [frame, ← hh]
      exact State.xferOf_filter o x.handle
    · rw [frame]
      exact State.touch_eraseTransfer_flash s o x
    · rw [frame, State.touch_eq]
      rfl
    · rfl
  · have out := exec_domainEnd (h := h) ha hr ab sig
    have target : s.xferTarget o h = (0, 0) := by unfold State.xferTarget; rw [hx]; rfl
    rw [State.opEnd_none ((State.touch_xferOf s o o h).trans hx), target] at out
    refine (out.trans (State.done_of_pending (State.touch_pending s o))).trans ?_
    cases o <;> rfl
  · have hh : x.handle = h := by have := List.find?_some hx; simpa using this
    have out : exec (.domainTransferTimeout h) s = s.done ((s.reachCclk (x.last + ms 10000)).abandon x) := by
      show execDomainTransferTimeout h s = _
      unfold execDomainTransferTimeout
      rw [hx]
    have flash : ((s.reachCclk (x.last + ms 10000)).eraseTransfer x).flash = (s.eraseTransfer x).flash := by
      unfold State.eraseTransfer
      rw [show (s.reachCclk (x.last + ms 10000)).flashRegion x = s.flashRegion x from rfl]
      split <;> rfl
    have frame := State.abandon_eq (s.reachCclk (x.last + ms 10000)) x
    rw [State.abandon_regs (.inr hfw), flash, hh] at frame
    refine ⟨_, out.trans (State.done_of_pending ?_), ?_, ?_⟩
    · rw [frame]
      rfl
    · rw [frame]
      exact s.le_reachCclk _
    · rw [frame]
      rfl

end Sys2Proof.Machine

/-! PROOFS. PUSH and POP through the windows of the spill queues (R372, R373, R380, R381). -/

namespace Sys2Proof.Machine

section
variable {s t u : State} {o p : Origin} {n w : Nat} {x : Bytes} {q : Spill}

/-! ### The spill queues stay as an event is recorded -/

theorem State.minReg_spills (s : State) (k v : Nat) : (s.minReg k v).q.spills = s.q.spills := by rw [State.minReg_eq]

theorem State.noteEv_spills (s : State) (e : Nat) (p : Bytes) : (s.noteEv e p).q.spills = s.q.spills := by
  unfold State.noteEv
  extract_lets t
  split <;> rfl

theorem State.poolCheck_spills (s : State) : s.poolCheck.q.spills = s.q.spills := by
  have minPool (u : State) : u.minPool.q.spills = u.q.spills := State.minReg_spills u _ _
  unfold State.poolCheck
  dsimp only
  split_ifs
  · exact minPool s
  · exact ((minPool _).trans (State.noteEv_spills _ _ _)).trans (minPool s)
  · rfl
  · exact minPool s

theorem State.raise_spills (s : State) (e : Nat) (p : Bytes) : (s.raise e p).q.spills = s.q.spills := by
  unfold State.raise
  split
  · rw [State.poolCheck_spills, State.noteEv_spills]
  · rfl

theorem State.raiseLoss_spills (s : State) (ev queue n : Nat) (p : Bytes) : (s.raiseLoss ev queue n p).q.spills = s.q.spills := by
  obtain h | h | ⟨m, r, h⟩ := State.raiseLoss_cases s ev queue n p
  · rw [h]
  · rw [h]; rfl
  · rw [h, State.poolCheck_spills]; rfl

theorem State.rejected_spills (s : State) (ix sub : Nat) (src : Nat × Nat) (abort detail effect : Nat) :
    (s.rejected ix sub src abort detail effect).q.spills = s.q.spills := by
  rw [State.rejected_eq_raise, State.raise_spills]
  unfold State.reportReject
  split
  · rfl
  · rw [State.raiseLoss_spills]; rfl

/-! ### A pending event stays pending as a reject record is made -/

theorem pending_raise (ok : s.storesOk) {b : Nat} (hb : bit (s.reg Reg.pending) b = true) (e : Nat) (y : Bytes) :
    bit ((s.raise e y).reg Reg.pending) b = true := by
  unfold State.raise
  split
  · exact pending_poolCheck (storesOk_noteEv ok e y) (pending_noteEv ok e y hb)
  · exact hb

theorem pending_rejected (ok : s.storesOk) {b : Nat} (hb : bit (s.reg Reg.pending) b = true) (ix sub : Nat) (src : Nat × Nat)
    (abort detail effect : Nat) : bit ((s.rejected ix sub src abort detail effect).reg Reg.pending) b = true := by
  rw [State.rejected_eq_raise]
  refine pending_raise (storesOk_reportReject ok _) ?_ _ _
  have keep (r : RejectRec) : bit ((s.keepReject r).reg Reg.pending) b = true := by rwa [(keepReject_kept ok r).reg (by decide)]
  unfold State.reportReject
  split
  · exact keep _
  · exact pending_raiseLoss (storesOk_keepReject ok _) _ _ _ _ (keep _)

/-! ### A spill queue put back -/

theorem assocGet_assocSet_ne {α : Type} (m : List (Nat × α)) {j k : Nat} (h : j ≠ k) (v : α) : assocGet (assocSet m k v) j = assocGet m j := by
  induction m with
  | nil => simp [assocSet, assocGet, Ne.symm h]
  | cons e m ih =>
    unfold assocSet
    split
    · next hk => simp [assocGet, show ¬ e.1 = j from fun g => h (g.symm.trans hk), Ne.symm h]
    · simp only [assocGet, ih]

theorem State.touch_setSpill (s : State) (o : Origin) (n : Nat) (q : Spill) : (s.setSpill n q).touch o = (s.touch o).setSpill n q := by
  cases o <;> rfl

theorem State.spill_setSpill (s : State) (n : Nat) (q : Spill) : assocGet (s.setSpill n q).q.spills n = some q :=
  assocGet_assocSet _ _ _

/-- Entries that move from tail to head keep their order (R380). -/
theorem Spill.settle_content (h : q.ringN = 0) : q.settle.head ++ q.settle.tail = q.head ++ q.tail := by
  unfold Spill.settle
  rw [if_pos h]
  simp

theorem Spill.settle_depth (q : Spill) : q.settle.depth = q.depth := by
  unfold Spill.settle
  split
  · simp only [Spill.depth, List.length_append, List.length_take, List.length_drop]; omega
  · rfl

theorem Spill.append_content (h : q.ringN = 0) : (q.append x).head ++ (q.append x).tail = q.head ++ q.tail ++ [x] :=
  (Spill.settle_content (q := { q with tail := q.tail ++ [x], inBp := false }) h).trans (List.append_assoc _ _ _).symm

theorem Spill.append_depth (q : Spill) (x : Bytes) : (q.append x).depth = q.depth + 1 := by
  refine (Spill.settle_depth { q with tail := q.tail ++ [x], inBp := false }).trans ?_
  simp only [Spill.depth, List.length_append, List.length_singleton]
  omega

/-- An empty spill queue holds nothing in its head registers, its ring and its tail registers. -/
theorem Spill.depth_eq_zero : q.depth = 0 ↔ q.head = [] ∧ q.ringN = 0 ∧ q.tail = [] := by
  unfold Spill.depth
  rw [Nat.add_eq_zero_iff, Nat.add_eq_zero_iff, List.length_eq_zero_iff, List.length_eq_zero_iff, and_assoc]

/-! ### The push of an item (R380, R381) -/

theorem State.spillPush_of_tail (hq : assocGet s.q.spills n = some q) (ht : q.tail.length < 16) :
    (if 16 ≤ ((assocGet s.q.spills n).map fun q => q.tail.length).getD 0 then s.spillBurst n else s) = s := by
  rw [hq]
  exact if_neg (Nat.not_le.mpr ht)

/-- A push to a spill queue on which nothing waits. -/
theorem State.spillPush_of_no_wait (hq : assocGet s.q.spills n = some q) (ht : q.tail.length < 16) (hw : q.waits = []) :
    s.spillPush n x =
      if q.limit ≤ q.depth then
        if q.hold then (false, if q.inBp then s.setSpill n { q with bp := min (q.bp + 1) (two64 - 1), inBp := true }
          else (s.setSpill n { q with bp := min (q.bp + 1) (two64 - 1), inBp := true }).raise 33 (beBytes 2 (992 + n)))
        else (true, (s.setSpill n (q.dropHead.append x)).raiseLoss 32 (992 + n) 1 (beBytes 2 (992 + n) ++ beBytes 4 1))
      else (true, s.setSpill n (q.append x)) := by
  unfold State.spillPush
  rw [State.spillPush_of_tail hq ht]
  simp only [hq, hw]
  cases q.depth <;> rfl

theorem State.spillPush_room (hq : assocGet s.q.spills n = some q) (ht : q.tail.length < 16) (hw : q.waits = []) (room : q.depth < q.limit) :
    s.spillPush n x = (true, s.setSpill n (q.append x)) := by
  rw [State.spillPush_of_no_wait hq ht hw, if_neg (Nat.not_le.mpr room)]

theorem State.spillPush_hold (hq : assocGet s.q.spills n = some q) (ht : q.tail.length < 16) (hw : q.waits = []) (full : q.limit ≤ q.depth)
    (hold : q.hold = true) : s.spillPush n x = (false,
      if q.inBp then s.setSpill n { q with bp := min (q.bp + 1) (two64 - 1), inBp := true }
      else (s.setSpill n { q with bp := min (q.bp + 1) (two64 - 1), inBp := true }).raise 33 (beBytes 2 (992 + n))) := by
  rw [State.spillPush_of_no_wait hq ht hw, if_pos full, if_pos hold]

theorem State.spillPush_overwrite (hq : assocGet s.q.spills n = some q) (ht : q.tail.length < 16) (hw : q.waits = [])
    (full : q.limit ≤ q.depth) (hold : q.hold = false) : s.spillPush n x = (true,
      (s.setSpill n (q.dropHead.append x)).raiseLoss 32 (992 + n) 1 (beBytes 2 (992 + n) ++ beBytes 4 1)) := by
  rw [State.spillPush_of_no_wait hq ht hw, if_pos full, if_neg (by simp [hold])]

theorem State.popResult_of_no_job (hj : s.ctl.jobs = []) (o : Origin) (ix status : Nat) (val : Bytes) :
    s.popResult o ix status val = s.send (.result o status ix 2 (if val.isEmpty then 0 else 0x0D) val) := by
  unfold State.popResult
  rw [hj]
  rfl

theorem State.spillPush_waiting {ws : List SpillWait} (hq : assocGet s.q.spills n = some q) (empty : q.depth = 0)
    (hw : q.waits = .pop p w :: ws) (hj : s.ctl.jobs = []) (hx : x.length = 64) : s.spillPush n x = (true,
      (s.setSpill n { q with waits := ws, inBp := false }).send (.result p 0 (0x8C00 + n) 2 0x0D x)) := by
  obtain ⟨-, -, tail⟩ := Spill.depth_eq_zero.mp empty
  have full : x.isEmpty = false := by cases x with
    | nil => cases hx
    | cons => rfl
  unfold State.spillPush
  rw [State.spillPush_of_tail hq (by rw [tail]; decide)]
  simp only [hq, hw, empty]
  rw [State.popResult_of_no_job (by exact hj), full]
  rfl

/-! ### The pop of an item (R380) -/

theorem State.spillPop_head (hq : assocGet s.q.spills n = some q) (hh : q.head = x :: q.head.tail) :
    s.spillPop n = some (x, s.setSpill n ({ q with head := q.head.tail } : Spill).settle) := by
  have held : q.head.isEmpty = false := by rw [hh]; rfl
  unfold State.spillPop
  simp only [hq, Option.map_some, Option.getD_some, held, Bool.false_eq_true, if_false]
  rw [hh]
  rfl

theorem State.spillPop_empty (hq : assocGet s.q.spills n = some q) (empty : q.depth = 0) : s.spillPop n = none := by
  obtain ⟨head, ring, -⟩ := Spill.depth_eq_zero.mp empty
  have readback : s.spillReadback n = s := by
    unfold State.spillReadback
    simp only [hq]
    exact if_pos (.inl ring)
  unfold State.spillPop
  simp only [readback, ite_self, hq, head]

/-! ### The windows (R381) -/

theorem spillPush_div (n : Nat) : Reg.spillPush n / 256 = 0x8C00 + n := by unfold Reg.spillPush; omega
theorem spillPush_mod (n : Nat) : Reg.spillPush n % 256 = 1 := by unfold Reg.spillPush; omega
theorem spillPop_div (n : Nat) : Reg.spillPop n / 256 = 0x8C00 + n := by unfold Reg.spillPop; omega
theorem spillPop_mod (n : Nat) : Reg.spillPop n % 256 = 2 := by unfold Reg.spillPop; omega

theorem cmdRow_spillPush (hn : n < 32) (hx : x.length = 64) : ∃ y, CmdRow (Reg.spillPush n) .operator x y := by
  have row : isCmdRow (Reg.spillPush n) .operator (.oct 64 64) .any = true := by interval_cases n <;> decide +kernel
  have plain : carriesRecord (Reg.spillPush n / 256) (Reg.spillPush n % 256) = false := by interval_cases n <;> decide +kernel
  exact cmdRow_record hx row (recordListed_of_plain plain) (recordClamp_of_plain plain)

theorem State.runCmd_spillPush (hn : n < 32) : s.runCmd { org := o, ix := Reg.spillPush n / 256, sub := Reg.spillPush n % 256, val := x } =
    if (s.spillPush n x).1 then cmdOk (s.spillPush n x).2 else cmdFail 0x0401 (s.spillPush n x).2 := by
  rw [spillPush_div, spillPush_mod, State.runCmd_core (by show 0x8100 ≤ 0x8C00 + n; omega)]
  have key : Reg.key (0x8C00 + n) 1 = 0x8C0001 + 256 * n := by unfold Reg.key; omega
  unfold State.runCore
  simp only [key]
  have ne (j : Nat) (hj : j < 0x8C0001) : ¬ 0x8C0001 + 256 * n = j := by omega
  rw [if_neg (ne _ (by decide)), if_neg (ne _ (by decide)), if_neg (ne _ (by decide)), if_neg (ne _ (by decide)), if_neg (ne _ (by decide)),
    if_neg (ne _ (by decide)), if_neg (ne _ (by decide)), if_pos (by omega), Nat.add_sub_cancel_left]

theorem odDomain_spill (hn : n < 32) : odDomain (0x8C00 + n) = 3 := by interval_cases n <;> decide +kernel

theorem reg_of_done (h : s.done t = .next u) (k : Nat) : u.reg k = t.reg k := by cases h; rfl

theorem q_of_done (h : s.done t = .next u) : u.q = t.q := by cases h; rfl

/-- With no request waiting none goes on after a command. -/
theorem done_resumeJobs (h : s.done t = .next u) (hj : u.ctl.jobs = []) : s.done t.resumeJobs = .next u := by
  have jobs : t.ctl.jobs = [] := by cases h; exact hj
  rw [State.resumeJobs_nil jobs, h]

/-- What PUSH does, once its window accepts it, with no request that waits. -/
theorem exec_push_done (pushed : (s.touch o).spillPush n x = (true, u)) (hn : n < 32) (ok : u.storesOk) (hu : s.canUse o .operator 3)
    (hx : x.length = 64) (hj : u.ctl.jobs = []) (pending : u.pending = s.pending) :
    ∃ w, exec (.push o n x) s = .next w ∧ w.reg (Reg.spillPush n) = 2 ∧ Keeps [Reg.spillPush n] u w ∧
      w = { u with regs := w.regs, sent := .result o 0 (0x8C00 + n) 1 0 [] :: u.sent } := by
  obtain ⟨y, hy⟩ := cmdRow_spillPush hn hx
  have run : (s.touch o).runCmd { org := o, ix := Reg.spillPush n / 256, sub := Reg.spillPush n % 256, val := x } = (0, 2, u) := by
    rw [State.runCmd_spillPush hn, pushed]; rfl
  obtain ⟨w, hw, state, kept, frame⟩ := hy.exec_done (by rwa [spillPush_div, odDomain_spill hn]) run ok pending
  rw [spillPush_div, spillPush_mod] at frame
  refine ⟨w, ?_, state, kept, frame⟩
  exact (congrArg (fun u => s.done (State.resumeJobs u)) (if_pos hn)).trans (done_resumeJobs hw (by rw [frame]; exact hj))

/-- What a PUSH that its window refuses does. -/
theorem exec_push_refused (pushed : (s.touch o).spillPush n x = (false, u)) (hn : n < 32) (ok : u.storesOk) (hu : s.canUse o .operator 3)
    (hx : x.length = 64) (hj : u.ctl.jobs = []) (pending : u.pending = s.pending) (alive : u.alive = true) :
    ∃ w, exec (.push o n x) s = .next w ∧ w.reg (Reg.spillPush n) = 3 ∧ Keeps (Reg.spillPush n :: rejectKeys) u w ∧
      w.q.spills = u.q.spills ∧ (∀ b, bit (u.reg Reg.pending) b = true → bit (w.reg Reg.pending) b = true) ∧ w.sent = .result o 0x0401 (0x8C00 + n) 1 0 [] :: u.sent := by
  obtain ⟨y, hy⟩ := cmdRow_spillPush hn hx
  have run : (s.touch o).runCmd { org := o, ix := Reg.spillPush n / 256, sub := Reg.spillPush n % 256, val := x } = (0x0401, 3, u) := by
    rw [State.runCmd_spillPush hn, pushed]; rfl
  have other : Reg.spillPush n ∉ rejectKeys := by interval_cases n <;> decide
  obtain ⟨w, hw, state, kept, -, frame⟩ := hy.exec_refused (by rwa [spillPush_div, odDomain_spill hn]) run (by decide) other ok alive pending
  rw [spillPush_div, spillPush_mod] at frame
  have set : Keeps [Reg.spillPush n] u (u.setReg (Reg.spillPush n) 3) := (Keeps.refl ok).setReg (List.mem_singleton_self _) _
  have apart : Reg.pending ∉ [Reg.spillPush n] := by interval_cases n <;> decide
  have out := hw
  rw [hy.rowWrite_refused (by rwa [spillPush_div, odDomain_spill hn]) run (by decide) alive] at out
  refine ⟨w, ?_, state, kept, (congrArg QueueSt.spills (q_of_done out)).trans (State.rejected_spills _ _ _ _ _ _ _), fun b hb => ?_,
    by rw [frame]⟩
  · exact (congrArg (fun u => s.done (State.resumeJobs u)) (if_pos hn)).trans (done_resumeJobs hw (by rw [frame]; exact hj))
  · rw [reg_of_done out]
    exact pending_rejected set.stores (by rwa [set.reg apart]) _ _ _ _ _ _

/-- POP is the read of its window. -/
theorem exec_pop (hn : n < 32) (hu : s.canUse o .observer 3) :
    exec (.pop o n) s = s.done (State.answer o (0x8C00 + n) 2 ((s.touch o).popWindow o n)) := by
  obtain ⟨alive, ⟨r, hr, -⟩, hd⟩ := hu
  have row : (odFind (0x8C00 + n) 2).any (fun y => y.ty == .oct 64 64) = true := by interval_cases n <;> decide +kernel
  obtain ⟨y, found, ty⟩ := (Option.any_eq_true _ _).mp row
  have octets : y.ty = .oct 64 64 := by simpa using ty
  have plain : recordKey (Reg.key (0x8C00 + n) 2) = false := by interval_cases n <;> decide +kernel
  have read : (s.touch o).fetchValue o y (0x8C00 + n) 2 = (s.touch o).popWindow o n := by
    unfold State.fetchValue
    simp only [plain, Bool.false_eq_true, if_false]
    rw [if_pos ⟨by omega, by omega, trivial⟩, Nat.add_sub_cancel_left]
  refine (congrArg s.done (if_pos hn)).trans ?_
  unfold State.rowRead
  rw [spillPop_div, spillPop_mod, State.serve_of_role alive hr, State.opRead_of_row (.inl (by omega)) found
    (by rw [State.touch_domOn, odDomain_spill hn, hd]) (by rw [octets]; nofun), read]

/-- With no item to take, POP ends with 0x0701 when POP_WAIT is 0, and waits as long when it is not (R381). -/
theorem State.popWindow_empty (hq : assocGet s.q.spills n = some q) (empty : q.depth = 0) : s.popWindow o n =
    if s.reg (Reg.spillPopWait n) = 0 then (.done 0x0701 0 [], s)
    else (.wait, s.setSpill n { q with waits := q.waits ++ [.pop o (s.reg (Reg.spillPopWait n))] }) := by
  unfold State.popWindow
  rw [State.spillPop_empty hq empty]
  simp only [hq]

theorem State.popWindow_head (hq : assocGet s.q.spills n = some q) (hh : q.head = x :: q.head.tail) : s.popWindow o n =
    (.done 0 0x0D x, s.setSpill n ({ q with head := q.head.tail } : Spill).settle) := by
  unfold State.popWindow
  rw [State.spillPop_head hq hh]

@[simp] theorem State.touch_q : (s.touch o).q = s.q := by rw [State.touch_eq]

end

/-- Settles O28: a push by the room, the policy and the waits of its queue (`State.spillPush_of_no_wait`), a pop by its head registers. -/
theorem spillWindows : Obligations.SpillWindows := by
  refine ⟨fun o n x q s ok hu hn hx hj hq ht hw room => ?_, fun o n x q s ok hu hn hx hj hq ht hw full hold => ?_,
    fun o n x q s ok hu hn hx hj hq ht hw full hold => ?_, fun o p n w ws x q s ok hu hn hx hj hq empty hw => ?_,
    fun o n x q s ok hu hn hq hh ring => ?_, fun o n q s ok hu hn hq empty wait => ?_, fun o n q s ok hu hn hq empty wait => ?_⟩
  · have pushed : (s.touch o).spillPush n x = (true, (s.touch o).setSpill n (q.append x)) :=
      State.spillPush_room (by rwa [State.touch_q]) ht hw room
    obtain ⟨t, done, state, kept, frame⟩ := exec_push_done pushed hn (storesOk_touch ok o) hu hx (by simpa [State.setSpill] using hj)
      (State.touch_pending s o)
    have queues : t.q = ((s.touch o).setSpill n (q.append x)).q := by rw [frame]
    refine ⟨t, q.append x, done, ?_, Spill.append_depth q x, Spill.append_content, fun m hm => ?_, state, ?_, ?_⟩
    · rw [queues, State.spill_setSpill]
    · rw [queues]
      exact (assocGet_assocSet_ne _ hm _).trans (by rw [State.touch_q])
    · exact (RegsKept.of_regs (State.touch_regs s o)).trans kept.regs
    · rw [queues, frame]
      unfold State.answered
      rw [spillPush_div, spillPush_mod]
      cases o <;> rfl
  · have pushed := State.spillPush_hold (s := s.touch o) (x := x) (by rwa [State.touch_q]) ht hw full hold
    have put := s.spill_setSpill n { q with bp := min (q.bp + 1) (two64 - 1), inBp := true }
    rw [← State.touch_setSpill] at pushed
    generalize hv : s.setSpill n { q with bp := min (q.bp + 1) (two64 - 1), inBp := true } = v at pushed put
    have stores : (v.touch o).storesOk := storesOk_touch (by rw [← hv]; exact ok) o
    have alive : (v.touch o).alive = true := by rw [State.touch_alive, ← hv]; exact hu.1
    have count : (v.touch o).reg (Reg.evCount 33) = s.reg (Reg.evCount 33) := by
      rw [reg_congr (State.touch_regs v o), ← hv]; rfl
    have jobs : (v.touch o).ctl.jobs = [] := by rw [State.touch_jobs, ← hv]; exact hj
    have pending : (v.touch o).pending = s.pending := by rw [State.touch_pending, ← hv]; rfl
    have other : Reg.evCount 33 ∉ Reg.spillPush n :: rejectKeys := by interval_cases n <;> decide
    cases first : q.inBp with
    | true =>
      rw [first, if_pos rfl] at pushed
      obtain ⟨t, done, state, kept, spills, -, sent⟩ := exec_push_refused pushed hn stores hu hx jobs pending alive
      exact ⟨t, done, by rw [spills, State.touch_q, put], state, nofun, by rw [sent]; rfl⟩
    | false =>
      rw [first, if_neg Bool.false_ne_true] at pushed
      obtain ⟨raised, waits⟩ := counted_raise stores alive (show 33 ≠ 34 by decide) (beBytes 2 (992 + n))
      have sent33 := State.raise_spills (v.touch o) 33 (beBytes 2 (992 + n))
      have raisedOk := storesOk_raise stores 33 (beBytes 2 (992 + n))
      have frame := State.raise_eq (v.touch o) 33 (beBytes 2 (992 + n))
      have raisedJobs : ((v.touch o).raise 33 (beBytes 2 (992 + n))).ctl.jobs = [] := by rw [frame]; exact jobs
      have raisedPending : ((v.touch o).raise 33 (beBytes 2 (992 + n))).pending = s.pending := by rw [frame]; exact pending
      have raisedAlive : ((v.touch o).raise 33 (beBytes 2 (992 + n))).alive = true := by rw [frame]; exact alive
      obtain ⟨t, done, state, kept, spills, more, sent⟩ := exec_push_refused pushed hn raisedOk hu hx raisedJobs raisedPending raisedAlive
      exact ⟨t, done, by rw [spills, sent33, State.touch_q, put], state,
        fun _ => ⟨by rw [kept.reg other, raised, count], more 33 waits⟩, by rw [sent]; rfl⟩
  · have pushed := State.spillPush_overwrite (s := s.touch o) (x := x) (by rwa [State.touch_q]) ht hw full hold
    have put := s.spill_setSpill n (q.dropHead.append x)
    rw [← State.touch_setSpill] at pushed
    generalize hv : s.setSpill n (q.dropHead.append x) = v at pushed put
    generalize beBytes 2 (992 + n) ++ beBytes 4 1 = y at pushed
    have stores : (v.touch o).storesOk := storesOk_touch (by rw [← hv]; exact ok) o
    have alive : (v.touch o).alive = true := by rw [State.touch_alive, ← hv]; exact hu.1
    have count : (v.touch o).reg (Reg.evCount 32) = s.reg (Reg.evCount 32) := by
      rw [reg_congr (State.touch_regs v o), ← hv]; rfl
    have jobs : (v.touch o).ctl.jobs = [] := by rw [State.touch_jobs, ← hv]; exact hj
    have pending : (v.touch o).pending = s.pending := by rw [State.touch_pending, ← hv]; rfl
    have other : Reg.evCount 32 ∉ [Reg.spillPush n] := by interval_cases n <;> decide
    obtain ⟨lost, -⟩ := counted_raiseLoss_of (p := y) stores alive (show 32 < 64 by decide) (.inl (by decide)) (992 + n) 1
    have spills := State.raiseLoss_spills (v.touch o) 32 (992 + n) 1 y
    have raisedOk := storesOk_raiseLoss stores 32 (992 + n) 1 y
    have frame := State.raiseLoss_eq (v.touch o) 32 (992 + n) 1 y
    generalize (v.touch o).raiseLoss 32 (992 + n) 1 y = u at pushed lost spills raisedOk frame
    obtain ⟨t, done, state, kept, frame'⟩ := exec_push_done pushed hn raisedOk hu hx (by rw [frame]; exact jobs) (by rw [frame]; exact pending)
    have queues : t.q = u.q := by rw [frame']
    exact ⟨t, done, by rw [queues, spills, State.touch_q, put], state, by rw [kept.reg other, lost, count], by rw [frame']; rfl⟩
  · have pushed := State.spillPush_waiting (s := s.touch o) (by rwa [State.touch_q]) empty hw (by rwa [State.touch_jobs]) hx
    obtain ⟨t, done, state, kept, frame⟩ := exec_push_done pushed hn (storesOk_touch ok o) hu hx (by simpa [State.setSpill, State.send] using hj)
      (State.touch_pending s o)
    have queues : t.q = ((s.touch o).setSpill n { q with waits := ws, inBp := false }).q := by rw [frame]; rfl
    refine ⟨t, done, by rw [queues, State.spill_setSpill], ?_, state, (RegsKept.of_regs (State.touch_regs s o)).trans kept.regs⟩
    rw [frame, State.touch_eq]
    rfl
  · rw [exec_pop hn hu, State.popWindow_head (by rwa [State.touch_q]) hh]
    refine ⟨_, ({ q with head := q.head.tail } : Spill).settle, rfl, State.spill_setSpill _ _ _, Spill.settle_content ring, ?_⟩
    unfold State.answered
    rw [spillPop_div, spillPop_mod]
    cases o <;> rfl
  · rw [exec_pop hn hu, State.popWindow_empty (by rwa [State.touch_q]) empty, if_pos ((reg_congr (State.touch_regs s o) _).trans wait)]
    unfold State.answered
    rw [spillPop_div, spillPop_mod]
    cases o <;> rfl
  · have set := reg_congr (State.touch_regs s o) (Reg.spillPopWait n)
    rw [exec_pop hn hu, State.popWindow_empty (by rwa [State.touch_q]) empty, if_neg (by rwa [set]), set]
    refine ⟨_, rfl, ?_, State.spill_setSpill _ _ _, ?_⟩ <;> cases o <;> rfl

end Sys2Proof.Machine

/-! PROOFS. TASK_CANCEL and DESC_CANCEL (R396, R397). -/

namespace Sys2Proof.Machine

section
variable {s t u : State} {p : Task → Bool} {o : Origin} {e k v : Nat} {x : Task}

/-! ### Moves that leave no task to cancel -/

/-- No task of engine `e` is one that `p` cancels. -/
def State.spared (s : State) (p : Task → Bool) (e : Nat) : Prop := ∀ y ∈ (s.engine e).held, p y = false

/-- From `s` to `t` tasks may have ended: the ready lists stay, and an engine that holds none to cancel gets none. -/
structure Cancels (p : Task → Bool) (s t : State) : Prop where
  sent : t.sent = s.sent
  queue : t.pending = s.pending
  stores : s.storesOk → t.storesOk
  ready : t.sched.ready = s.sched.ready
  length : t.sched.engines.length = s.sched.engines.length
  spared : ∀ e, s.spared p e → t.spared p e

/-- Whether a task is to be cancelled hangs on its identity, its descriptor and whether it is cancelled already. -/
def byName (p : Task → Bool) : Prop := (∀ x y : Task, x.sameAs y → p x = p y) ∧ ∀ x : Task, p { x with cancel := true } = false

theorem Cancels.refl (p : Task → Bool) (s : State) : Cancels p s s := ⟨rfl, rfl, id, rfl, rfl, fun _ => id⟩

theorem Cancels.trans (h : Cancels p s t) (g : Cancels p t u) : Cancels p s u where
  sent := g.sent.trans h.sent
  queue := g.queue.trans h.queue
  stores := g.stores ∘ h.stores
  ready := g.ready.trans h.ready
  length := g.length.trans h.length
  spared := fun e => g.spared e ∘ h.spared e

theorem Cancels.foldl {α : Type} {f : State → α → State} (hf : ∀ t a, Cancels p t (f t a)) (l : List α) (s : State) :
    Cancels p s (l.foldl f s) := by
  induction l generalizing s with
  | nil => exact .refl p s
  | cons a l ih => exact (hf s a).trans (ih _)

/-- Each engine of a list is left with no task to cancel. -/
theorem spared_foldl {f : State → Nat → State} (hf : ∀ t a, Cancels p t (f t a)) (clear : ∀ t a, (f t a).spared p a) (l : List Nat)
    (s : State) (h : e ∈ l) : (l.foldl f s).spared p e := by
  induction l generalizing s with
  | nil => cases h
  | cons a l ih =>
    rcases List.mem_cons.mp h with rfl | h
    · exact (Cancels.foldl hf l _).spared _ (clear s e)
    · exact ih _ h

theorem spared_of_from (hp : byName p) (h : (s.engine e).from (t.engine e)) (clear : s.spared p e) : t.spared p e := fun y hy => by
  obtain ⟨w, hw, same⟩ := h y hy
  rw [← hp.1 w y same, clear w hw]

theorem Moves.cancels {ks : List Nat} (h : Moves ks s t) (hp : byName p) : Cancels p s t where
  sent := h.sent_eq
  queue := h.pending_eq
  stores := h.storesOk
  ready := h.ready
  length := h.length
  spared := fun e => spared_of_from hp (h.held e)

/-- What an engine put back holds. -/
theorem spared_setEngine {y : Engine} (h : ∀ z ∈ y.held, p z = false) (clear : s.sched.engines.length ≤ e → s.spared p e) :
    (s.setEngine e y).spared p e := by
  rcases Nat.lt_or_ge e s.sched.engines.length with hl | hl
  · unfold State.spared
    rwa [State.engine_setEngine hl]
  · rw [State.setEngine_of_length_le hl]
    exact clear hl

/-- An engine that does not exist holds nothing. -/
theorem State.spared_of_length_le (h : s.sched.engines.length ≤ e) : s.spared p e := by
  unfold State.spared State.engine
  rw [List.getD_eq_default _ _ h]
  nofun

theorem cancels_setEngine {y : Engine} (h : s.spared p e → ∀ z ∈ y.held, p z = false) : Cancels p s (s.setEngine e y) where
  sent := rfl
  queue := rfl
  stores := id
  ready := rfl
  length := List.length_set
  spared := fun k clear => by
    by_cases hk : k = e
    · subst hk
      exact spared_setEngine (h clear) fun _ => clear
    · unfold State.spared
      rwa [State.engine_setEngine_ne hk]

/-! ### The refused pushes of a running task are counted (R372) -/

/-- The task, its refused pushes counted up to `now` when they go to queue `n`. -/
def Task.settled (n now : Nat) (x : Task) : Task :=
  if dOut x.row = n then { x with blocked := x.blocked.map fun b => (b.1, now) } else x

/-- The engine, those of its running task counted. -/
def Engine.settled (n now : Nat) (x : Engine) : Engine := { x with run := x.run.map (Task.settled n now) }

theorem Task.sameAs_settled (x : Task) (n now : Nat) : x.sameAs (x.settled n now) := by
  unfold Task.settled
  split <;> exact ⟨rfl, rfl, rfl⟩

theorem Engine.from_settled (x : Engine) (n now : Nat) : x.from (x.settled n now) := fun y hy => by
  rcases List.mem_append.mp hy with run | biv
  · obtain ⟨z, hz, rfl⟩ := Option.map_eq_some_iff.mp (Option.mem_toList.mp run)
    exact ⟨z, List.mem_append_left _ (Option.mem_toList.mpr hz), z.sameAs_settled n now⟩
  · exact ⟨y, List.mem_append_right _ biv, rfl, rfl, rfl⟩

/-- The engines of `s` so counted. -/
def State.settledTo (s : State) (n : Nat) : State :=
  { s with sched := { s.sched with engines := s.sched.engines.map (Engine.settled n s.clock.cclk) } }

theorem State.engine_settledTo (s : State) (n e : Nat) : (s.settledTo n).engine e = (s.engine e).settled n s.clock.cclk := by
  unfold State.engine State.settledTo
  rw [List.getD_eq_getElem?_getD, List.getD_eq_getElem?_getD, List.getElem?_map]
  cases s.sched.engines[e]? <;> rfl

theorem moves_bpSettle (s : State) (n : Nat) : Moves [] (s.settledTo n) (s.bpSettle n) := by
  unfold State.bpSettle
  dsimp only
  split
  · exact .still rfl rfl rfl
  · split
    · exact moves_setQueue _ _ _
    · exact .refl _ _

theorem cancels_bpSettle (hp : byName p) (s : State) (n : Nat) : Cancels p s (s.bpSettle n) := by
  have settled : Cancels p s (s.settledTo n) :=
    ⟨rfl, rfl, id, rfl, List.length_map _, fun e => spared_of_from hp (by rw [State.engine_settledTo]; exact Engine.from_settled _ _ _)⟩
  exact settled.trans ((moves_bpSettle s n).cancels hp)

theorem State.biv_bpSettle (h : ((s.settledTo k).engine e).run.isSome = true) : ((s.bpSettle k).engine e).biv = (s.engine e).biv := by
  rw [(moves_bpSettle s k).busy e h, State.engine_settledTo]
  rfl

/-! ### The cancels of one engine -/

/-- The tasks of an engine that are not to be cancelled. -/
def Engine.sparing (x : Engine) (p : Task → Bool) : Engine := { x with biv := x.biv.filter fun t => !p t }

theorem Engine.mem_sparing {y : Task} {z : Engine} (h : y ∈ (z.sparing p).biv) : y ∈ z.biv ∧ p y = false := by
  simpa [Engine.sparing] using h

theorem cancels_sparing (s : State) (e : Nat) : Cancels p s (s.setEngine e ((s.engine e).sparing p)) :=
  cancels_setEngine fun clear y hy => by
    rcases List.mem_append.mp hy with run | biv
    · exact clear y (List.mem_append_left _ run)
    · exact (Engine.mem_sparing biv).2

theorem cancels_cancelPrefetched (hp : byName p) (s : State) (e : Nat) : Cancels p s (s.cancelPrefetched p e) := by
  unfold State.cancelPrefetched
  refine (cancels_setEngine fun clear y hy => clear y ?_).trans (.foldl (fun t a => (moves_cancelIdle t _ _ a).cancels hp) _ _)
  rcases List.mem_append.mp hy with run | biv
  · exact List.mem_append_left _ run
  · exact List.mem_append_right _ (List.mem_of_mem_filter biv)

/-- `s` with the suspended and the prefetched tasks of engine `e` that `p` cancels aborted. -/
def State.bivCancelled (s : State) (p : Task → Bool) (e : Nat) : State :=
  ((s.engine e).biv.filter p).foldl
    (fun t y => t.abortTask e (if ((s.engine e).biv.map Task.id).head? = some y.id then 1 else 2) y)
    (s.setEngine e ((s.engine e).sparing p))

theorem moves_bivCancelled (s : State) (p : Task → Bool) (e : Nat) :
    Moves abortKeys (s.setEngine e ((s.engine e).sparing p)) (s.bivCancelled p e) :=
  .foldl (fun t y => moves_abortTask t e _ y) _ _

theorem cancels_bivCancelled (hp : byName p) (s : State) (e : Nat) : Cancels p s (s.bivCancelled p e) :=
  (cancels_sparing s e).trans ((moves_bivCancelled s p e).cancels hp)

/-- An engine that runs nothing to be cancelled is left with nothing to cancel. -/
theorem spared_bivCancelled (hp : byName p) (h : ∀ y, (s.engine e).run = some y → p y = false) : (s.bivCancelled p e).spared p e := by
  refine ((moves_bivCancelled s p e).cancels hp).spared e (spared_setEngine (fun y hy => ?_) fun hl => State.spared_of_length_le hl)
  rcases List.mem_append.mp hy with run | biv
  · exact h y (Option.mem_toList.mp run)
  · exact (Engine.mem_sparing biv).2

theorem State.length_of_run {y : Task} (h : (s.engine e).run = some y) : e < s.sched.engines.length := by
  by_contra hl
  unfold State.engine at h
  rw [List.getD_eq_default _ _ (Nat.not_lt.mp hl)] at h
  cases h

/-- An engine that runs a task goes on with it, and with the tasks that are not to be cancelled. -/
theorem engine_bivCancelled {y : Task} (h : (s.engine e).run = some y) : (s.bivCancelled p e).engine e = (s.engine e).sparing p := by
  have put := State.engine_setEngine (State.length_of_run h) ((s.engine e).sparing p)
  have run : ((s.setEngine e ((s.engine e).sparing p)).engine e).run.isSome = true := by rw [put]; exact Option.isSome_iff_exists.mpr ⟨y, h⟩
  exact ((moves_bivCancelled s p e).busy e run).trans put

/-- The running task of engine `e` is cancelled: at once where it waits, at its next break point where it runs. -/
def State.runCancelled (s : State) (e : Nat) (y : Task) : State :=
  if y.stalled || y.blocked.isSome then
    (((if y.blocked.isSome then s.bpSettle (dOut y.row) else s).setEngine e
      { (if y.blocked.isSome then s.bpSettle (dOut y.row) else s).engine e with run := none }).abortTask e 0 y).resumeHead e
  else s.setEngine e { s.engine e with run := some { y with cancel := true } }

theorem State.cancelEngine_eq (s : State) (p : Task → Bool) (e : Nat) : s.cancelEngine p e =
    match (s.engine e).run with
    | none => s.bivCancelled p e
    | some y => if !p y then s.bivCancelled p e else (s.bivCancelled p e).runCancelled e y := by
  unfold State.cancelEngine State.runCancelled
  rfl

/-- A running task to be cancelled is so, and nothing else comes to its engine. -/
theorem runCancelled_spec {y : Task} (hp : byName p) (run : (s.engine e).run = some y) (clear : ∀ z ∈ (s.engine e).biv, p z = false) :
    Cancels p s (s.runCancelled e y) ∧ (s.runCancelled e y).spared p e := by
  unfold State.runCancelled
  split
  · generalize hv : (if y.blocked.isSome then s.bpSettle (dOut y.row) else s) = v
    have settled : Cancels p s v := by
      rw [← hv]
      split
      · exact cancels_bpSettle hp s _
      · exact .refl p s
    have biv : (v.engine e).biv = (s.engine e).biv := by
      rw [← hv]
      split
      · exact State.biv_bpSettle (by rw [State.engine_settledTo]; simp [Engine.settled, run])
      · rfl
    have left : ∀ z ∈ ({ v.engine e with run := none } : Engine).held, p z = false := fun z hz => clear z (biv ▸ hz)
    have ended : Cancels p (v.setEngine e { v.engine e with run := none })
        (((v.setEngine e { v.engine e with run := none }).abortTask e 0 y).resumeHead e) :=
      ((moves_abortTask _ e 0 y).cancels hp).trans ((moves_resumeHead _ e).cancels hp)
    exact ⟨(settled.trans (cancels_setEngine fun _ => left)).trans ended,
      ended.spared e (spared_setEngine left fun hl => State.spared_of_length_le hl)⟩
  · have held : ∀ z ∈ ({ s.engine e with run := some { y with cancel := true } } : Engine).held, p z = false := fun z hz => by
      obtain rfl | h := List.mem_cons.mp hz
      · exact hp.2 y
      · exact clear z h
    exact ⟨cancels_setEngine fun _ => held, spared_setEngine held fun hl => State.spared_of_length_le hl⟩

theorem cancelEngine_spec (hp : byName p) (s : State) (e : Nat) : Cancels p s (s.cancelEngine p e) ∧ (s.cancelEngine p e).spared p e := by
  rw [State.cancelEngine_eq]
  split
  · next h => exact ⟨cancels_bivCancelled hp s e, spared_bivCancelled hp fun y hy => by rw [h] at hy; cases hy⟩
  · next y h =>
    split
    · next hy =>
      refine ⟨cancels_bivCancelled hp s e, spared_bivCancelled hp fun z hz => ?_⟩
      rw [h] at hz
      cases hz
      simpa using hy
    · have engine := engine_bivCancelled (p := p) h
      have done := runCancelled_spec (s := s.bivCancelled p e) (e := e) hp (by rw [engine]; exact h) fun z hz => by
        rw [engine] at hz; exact (Engine.mem_sparing hz).2
      exact ⟨(cancels_bivCancelled hp s e).trans done.1, done.2⟩

/-! ### Every task that satisfies `p` -/

/-- `s` with the tasks of the ready lists that `p` cancels gone. -/
def State.readyCancelled (s : State) (p : Task → Bool) : State :=
  ((s.sched.ready.flatten).filter p).foldl (fun s t => s.cancelIdle 0xFE 0xFF t)
    { s with sched := { s.sched with ready := s.sched.ready.map fun q => q.filter fun t => !p t } }

theorem State.cancelWhere_eq (s : State) (p : Task → Bool) : s.cancelWhere p =
    (List.range 16).foldl (fun s e => s.cancelEngine p e) ((List.range 16).foldl (fun s e => s.cancelPrefetched p e) (s.readyCancelled p)) :=
  rfl

theorem moves_readyCancelled (s : State) (p : Task → Bool) : Moves abortKeys
    { s with sched := { s.sched with ready := s.sched.ready.map fun q => q.filter fun t => !p t } } (s.readyCancelled p) :=
  .foldl (fun t y => moves_cancelIdle t _ _ y) _ _

/-- The ready lists keep the tasks that are not to be cancelled, and of sixteen engines none holds one that is. -/
theorem cancelWhere_spec (hp : byName p) (s : State) : (s.cancelWhere p).sent = s.sent ∧ (s.cancelWhere p).pending = s.pending ∧
    (s.storesOk → (s.cancelWhere p).storesOk) ∧ (s.cancelWhere p).sched.ready = s.sched.ready.map (fun q => q.filter fun t => !p t) ∧
      (s.cancelWhere p).sched.engines.length = s.sched.engines.length ∧ ∀ e < 16, (s.cancelWhere p).spared p e := by
  have ready := (moves_readyCancelled s p).cancels hp
  have fetched : Cancels p (s.readyCancelled p) ((List.range 16).foldl (fun s e => s.cancelPrefetched p e) (s.readyCancelled p)) :=
    .foldl (fun t e => cancels_cancelPrefetched hp t e) _ _
  rw [State.cancelWhere_eq]
  generalize (List.range 16).foldl (fun s e => s.cancelPrefetched p e) (s.readyCancelled p) = v at fetched
  have engines : Cancels p v ((List.range 16).foldl (fun s e => s.cancelEngine p e) v) := .foldl (fun t e => (cancelEngine_spec hp t e).1) _ _
  have all := (ready.trans fetched).trans engines
  exact ⟨all.sent, all.queue, all.stores, all.ready, all.length, fun e he =>
    spared_foldl (fun t a => (cancelEngine_spec hp t a).1) (fun t a => (cancelEngine_spec hp t a).2) _ _ (List.mem_range.mpr he)⟩

/-- Of sixteen engines' tasks, and of the ready ones, none is left to cancel. -/
theorem tasks_cancelWhere (hp : byName p) (h16 : s.sched.engines.length = 16) {y : Task} (hy : y ∈ (s.cancelWhere p).tasks) : p y = false := by
  obtain ⟨-, -, -, ready, length, clear⟩ := cancelWhere_spec hp s
  rcases List.mem_append.mp hy with h | h
  · rw [ready] at h
    obtain ⟨l, hl, hy⟩ := List.mem_flatten.mp h
    obtain ⟨q, -, rfl⟩ := List.mem_map.mp hl
    simpa using (List.mem_filter.mp hy).2
  · obtain ⟨x, hx, hy⟩ := List.mem_flatMap.mp h
    obtain ⟨e, he, rfl⟩ := List.getElem_of_mem hx
    refine clear e (by omega) y ?_
    unfold State.engine
    rw [List.getD_eq_getElem _ _ he]
    exact hy

theorem ready_cancelWhere (hp : byName p) {y : Task} (hy : y ∈ s.sched.ready.flatten) (keep : p y = false) :
    y ∈ (s.cancelWhere p).sched.ready.flatten := by
  obtain ⟨-, -, -, ready, -⟩ := cancelWhere_spec hp s
  obtain ⟨l, hl, hy⟩ := List.mem_flatten.mp hy
  rw [ready]
  exact List.mem_flatten.mpr ⟨_, List.mem_map.mpr ⟨l, hl, rfl⟩, List.mem_filter.mpr ⟨hy, by simp [keep]⟩⟩

/-! ### With nothing in flight to cancel -/

theorem State.setEngine_engine (s : State) (e : Nat) : s.setEngine e (s.engine e) = s := by
  rcases Nat.lt_or_ge e s.sched.engines.length with hl | hl
  · unfold State.setEngine State.engine
    rw [List.getD_eq_getElem _ _ hl, List.set_getElem_self]
  · exact State.setEngine_of_length_le hl _

theorem Engine.sparing_eq {y : Engine} (h : ∀ z ∈ y.biv, p z = false) : y.sparing p = y := by
  unfold Engine.sparing
  rw [List.filter_eq_self.mpr fun z hz => by simp [h z hz]]

theorem State.spared_of_inFlight (h : ∀ y ∈ s.inFlight, p y = false) (e : Nat) : s.spared p e := by
  rcases Nat.lt_or_ge e s.sched.engines.length with hl | hl
  · refine fun y hy => h y (List.mem_flatMap.mpr ⟨s.engine e, ?_, hy⟩)
    unfold State.engine
    rw [List.getD_eq_getElem _ _ hl]
    exact List.getElem_mem hl
  · exact State.spared_of_length_le hl

theorem State.cancelPrefetched_eq_self (h : s.spared p e) : s.cancelPrefetched p e = s := by
  have biv : ∀ y ∈ (s.engine e).biv, p y = false := fun y hy => h y (List.mem_append_right _ hy)
  have none : ((s.engine e).biv.filter fun t => p t && !t.suspended) = [] := List.filter_eq_nil_iff.mpr fun y hy => by simp [biv y hy]
  have all : ((s.engine e).biv.filter fun t => !(p t && !t.suspended)) = (s.engine e).biv :=
    List.filter_eq_self.mpr fun y hy => by simp [biv y hy]
  unfold State.cancelPrefetched
  dsimp only
  rw [none, all]
  exact s.setEngine_engine e

theorem State.cancelEngine_eq_self (h : s.spared p e) : s.cancelEngine p e = s := by
  have biv : ∀ y ∈ (s.engine e).biv, p y = false := fun y hy => h y (List.mem_append_right _ hy)
  have same : s.bivCancelled p e = s := by
    unfold State.bivCancelled
    rw [List.filter_eq_nil_iff.mpr fun y hy => by simp [biv y hy], Engine.sparing_eq biv, State.setEngine_engine]
    rfl
  rw [State.cancelEngine_eq, same]
  split
  · rfl
  · next y hy => rw [if_pos (by simp [h y (List.mem_append_left _ (Option.mem_toList.mpr hy))])]

/-- Each task taken from a ready list is counted once. -/
theorem reg_cancelIdle_foldl (ok : s.storesOk) (hc : s.reg Reg.cancels < two32) (l : List Task) :
    (l.foldl (fun s t => s.cancelIdle 0xFE 0xFF t) s).reg Reg.cancels = min (s.reg Reg.cancels + l.length) (two32 - 1) ∧
      (l.foldl (fun s t => s.cancelIdle 0xFE 0xFF t) s).sched.engines = s.sched.engines := by
  induction l generalizing s with
  | nil => exact ⟨(Nat.min_eq_left (Nat.le_sub_one_of_lt hc)).symm, rfl⟩
  | cons y l ih =>
    have counted : (s.incReg Reg.cancels).storesOk := ((Keeps.refl (ks := [Reg.cancels]) ok).setReg (List.mem_singleton_self _) _).stores
    have kept := keeps_trace 0xFE 8 0xFF 0 y counted
    have count : (s.cancelIdle 0xFE 0xFF y).reg Reg.cancels = min (s.reg Reg.cancels + 1) (two32 - 1) :=
      (kept.reg (by decide)).trans (reg_incReg ok _)
    obtain ⟨sum, engines⟩ := ih (s := s.cancelIdle 0xFE 0xFF y) kept.stores (by rw [count]; unfold two32; omega)
    refine ⟨?_, engines.trans (State.trace_engines (s := s.incReg Reg.cancels) 0xFE 8 0xFF 0 y)⟩
    rw [List.foldl_cons, sum, count, List.length_cons]
    omega

theorem State.cancelWhere_of_inFlight (ok : s.storesOk) (hc : s.reg Reg.cancels < two32) (h : ∀ y ∈ s.inFlight, p y = false) :
    s.cancelWhere p = s.readyCancelled p := by
  have engines : (s.readyCancelled p).sched.engines = s.sched.engines :=
    (reg_cancelIdle_foldl (s := { s with sched := { s.sched with ready := s.sched.ready.map fun q => q.filter fun t => !p t } }) ok hc _).2
  have spared (e : Nat) : (s.readyCancelled p).spared p e := by
    unfold State.spared
    rw [State.engine_congr engines]
    exact State.spared_of_inFlight h e
  have fetched := foldl_same (f := fun (t : State) e => t.cancelPrefetched p e) (List.range 16) fun e _ => State.cancelPrefetched_eq_self (spared e)
  have ended := foldl_same (f := fun (t : State) e => t.cancelEngine p e) (List.range 16) fun e _ => State.cancelEngine_eq_self (spared e)
  rw [State.cancelWhere_eq, fetched, ended]

/-! ### The commands (R397) -/

theorem cmdOf_done (t : State) : cmdOf (0, t) = (0, 2, t) := rfl

theorem State.touch_sched : (s.touch o).sched = s.sched := by rw [State.touch_eq]
theorem State.touch_descCount : (s.touch o).descCount = s.descCount := by rw [State.touch_eq]; rfl
theorem State.touch_tasks : (s.touch o).tasks = s.tasks := by unfold State.tasks; rw [State.touch_sched]

theorem byName_id (v : Nat) : byName fun t => t.id == v && !t.cancel :=
  ⟨fun x y h => by dsimp only; rw [h.1, h.2.2], fun x => by simp⟩

theorem byName_desc (v : Nat) : byName fun t => t.desc == v && !t.cancel :=
  ⟨fun x y h => by dsimp only; rw [h.2.1, h.2.2], fun x => by simp⟩

theorem State.runCmd_taskCancel (hv : v < two32) : s.runCmd { org := o, ix := Reg.taskCancel / 256, sub := Reg.taskCancel % 256, val := beBytes 4 v } =
    cmdOf (s.taskCancel v) := by
  rw [State.runCmd_core (by show 0x8100 ≤ 0x8900; decide)]
  unfold State.runCore
  simp only [key_div_mod]
  simp [beNat_beBytes (show v < 256 ^ 4 from hv)]

theorem State.runCmd_descCancel (hv : v < two32) : s.runCmd { org := o, ix := Reg.descCancel / 256, sub := Reg.descCancel % 256, val := beBytes 4 v } =
    cmdOf (s.descCancel v) := by
  rw [State.runCmd_core (by show 0x8100 ≤ 0x8900; decide)]
  unfold State.runCore
  simp only [key_div_mod]
  simp [beNat_beBytes (show v < 256 ^ 4 from hv)]

theorem cmdRow_taskCancel (v : Nat) : ∃ y, CmdRow Reg.taskCancel .operator (beBytes 4 v) y :=
  cmdRow_number v (by decide +kernel) (by decide +kernel)

/-- A number of four bytes that names a descriptor of the table passes the checks of R16 for DESC_CANCEL. -/
theorem State.checkValue_descCancel {y : Obj} (hty : y.ty = .u 4) (hchg : y.chg = .none) (hrng : y.rng = .any) (hv : v < two32) (hn : v < s.descCount) :
    s.checkValue y (Reg.descCancel / 256) (Reg.descCancel % 256) y.ty.code (beBytes 4 v) = 0 := by
  have modes : s.modeBound (Reg.descCancel / 256) (Reg.descCancel % 256) = false := by
    unfold State.modeBound
    rw [key_div_mod]
    rfl
  have fields : s.recordOk (Reg.descCancel / 256) (Reg.descCancel % 256) (beBytes 4 v) = true := by
    have num : field (beBytes 4 v) 0 4 = v := field_beBytes hv
    unfold State.recordOk recordListed
    simp only [key_div_mod, num]
    simpa using hn
  unfold State.checkValue
  rw [hty, hchg, hrng, modes, fields]
  simp [Ty.lenOk, Ty.size, Ty.encOk, Rng.listed]

/-- DESC_CANCEL of a descriptor of the table is carried out as its message is accepted. -/
theorem exec_descCancel (hu : s.canUse o .installer 1) (hv : v < two32) (hn : v < s.descCount)
    (run : (s.touch o).runCmd { org := o, ix := Reg.descCancel / 256, sub := Reg.descCancel % 256, val := beBytes 4 v } = (0, k, t))
    (ok : t.storesOk) (pending : t.pending = s.pending) : ∃ w, exec (.descCancel o v) s = .next w ∧ w.reg Reg.descCancel = k ∧
      w = { t with regs := w.regs, sent := .result o 0 (Reg.descCancel / 256) (Reg.descCancel % 256) 0 [] :: t.sent } := by
  have row : isCmdRow Reg.descCancel .installer (.u 4) .any = true := by decide +kernel
  unfold isCmdRow at row
  rw [Bool.and_eq_true, Option.any_eq_true, Bool.not_eq_true'] at row
  obtain ⟨⟨y, hy, facts⟩, rule⟩ := row
  simp only [Bool.and_eq_true, beq_iff_eq] at facts
  obtain ⟨⟨⟨⟨hacc, hchg⟩, hrole⟩, hty⟩, hrng⟩ := facts
  obtain ⟨ha, ⟨q, hr, hq⟩, hd⟩ := hu
  have target : (s.touch o).checkTarget ((s.touch o).writeRole o q (Reg.descCancel / 256) (Reg.descCancel % 256)) .observer
      (Reg.descCancel / 256) (Reg.descCancel % 256) true Acc.writable = (0, some y) :=
    checkTarget_ok (.inl (by decide)) hy (by rw [hrole]; exact hq.trans State.rank_le_writeRole) (by rw [hacc]; rfl)
      (by rwa [State.touch_domOn])
  have check : (s.touch o).checkWrite o q (Reg.descCancel / 256) (Reg.descCancel % 256) y.ty.code (beBytes 4 v) = (0, some y) := by
    unfold State.checkWrite
    rw [target]
    exact congrArg (·, some y) (State.checkValue_descCancel hty hchg hrng hv (by rw [State.touch_descCount]; exact hn))
  have clamp : (s.touch o).clampWrite o y (Reg.descCancel / 256) (Reg.descCancel % 256) (beBytes 4 v) = (false, beBytes 4 v, s.touch o) := by
    have whole : recordClamp (Reg.descCancel / 256) (Reg.descCancel % 256) (beBytes 4 v) = ([], beBytes 4 v) := by
      unfold recordClamp
      simp only [key_div_mod]
      rfl
    have same (c : RangeCtx) (n : Nat) : y.applied c n = n := by unfold Obj.applied; rw [hrng]; rfl
    unfold State.clampWrite Obj.clamps
    rw [whole]
    simp [hty, hrng, same, Ty.store, Ty.size, beNat_beBytes (show v < 256 ^ 4 from hv)]
  have put : (s.touch o).putWrite o y (Reg.descCancel / 256) (Reg.descCancel % 256) (beBytes 4 v) = (0, t.setReg Reg.descCancel k) := by
    unfold State.putWrite
    rw [if_pos hacc, if_neg (by rw [hchg]; nofun)]
    unfold State.cmdNow State.cmdState
    dsimp only
    rw [run, if_pos rfl]
    exact congrArg (fun j => (0, t.setReg j k)) (key_div_mod Reg.descCancel)
  have out : s.rowNum o Reg.descCancel 4 v =
      (t.setReg Reg.descCancel k).send (.result o 0 (Reg.descCancel / 256) (Reg.descCancel % 256) 0 []) := by
    unfold State.rowNum
    rw [State.rowWrite_of_row ha hr hy, State.opWrite_of_checks check (State.arrivalRefused_of_noRule rule _)
      (fun _ hl => by rw [hchg] at hl; cases hl) clamp, put]
    rfl
  exact ⟨_, (congrArg s.done out).trans (State.done_of_pending pending), reg_setReg ok _ k, rfl⟩

end

/-- Settles O26: what `p` cancels leaves the ready lists and every engine (`cancelWhere_spec`), or runs on with its cancel noted. -/
theorem taskCancels : Obligations.TaskCancels := by
  refine ⟨fun o v s ok hu hv h16 hex => ?_, fun o v s ok hu hv hnone => ?_, fun o v s ok hu hv hn h16 => ?_, fun p s ok hc hp => ?_⟩
  · obtain ⟨y, hy⟩ := cmdRow_taskCancel v
    have run : (s.touch o).runCmd { org := o, ix := Reg.taskCancel / 256, sub := Reg.taskCancel % 256, val := beBytes 4 v } =
        (0, 2, (s.touch o).cancelWhere fun t => t.id == v && !t.cancel) := by
      have found : ((s.touch o).tasks.any fun t => t.id == v) = true := by rw [State.touch_tasks]; exact hex
      rw [State.runCmd_taskCancel hv]
      unfold State.taskCancel
      rw [if_pos found]
      exact cmdOf_done _
    obtain ⟨-, pending, stores, -⟩ := cancelWhere_spec (byName_id v) (s.touch o)
    have gone {z : Task} := tasks_cancelWhere (s := s.touch o) (y := z) (byName_id v) (by rw [State.touch_sched]; exact h16)
    have stay {z : Task} := ready_cancelWhere (s := s.touch o) (y := z) (byName_id v)
    generalize (s.touch o).cancelWhere (fun t => t.id == v && !t.cancel) = u at run pending stores gone stay
    obtain ⟨w, done, state, -, frame⟩ := hy.exec_done hu run (stores (storesOk_touch ok o)) (pending.trans (State.touch_pending s o))
    have sched : w.sched = u.sched := by rw [frame]
    refine ⟨w, done, state, by rw [frame]; rfl, fun z hz hid => ?_, fun z hz hid => ?_⟩
    · have clear := gone (z := z) (by unfold State.tasks at hz ⊢; rwa [sched] at hz)
      simpa [hid] using clear
    · rw [sched]
      exact stay (by rw [State.touch_sched]; exact hz) (by simp [hid])
  · obtain ⟨y, hy⟩ := cmdRow_taskCancel v
    have run : (s.touch o).runCmd { org := o, ix := Reg.taskCancel / 256, sub := Reg.taskCancel % 256, val := beBytes 4 v } =
        (0x0107, 3, s.touch o) := by
      have none : ((s.touch o).tasks.any fun t => t.id == v) = false := by rw [State.touch_tasks]; exact hnone
      rw [State.runCmd_taskCancel hv]
      unfold State.taskCancel
      rw [if_neg (by simp [none])]
      rfl
    obtain ⟨w, done, state, -, counted, frame⟩ := hy.exec_refused hu run (by decide) (by decide) (storesOk_touch ok o)
      ((State.touch_alive s o).trans hu.1) (State.touch_pending s o)
    refine ⟨w, done, state, by rw [frame]; exact State.touch_sched, counted.of_reg (reg_congr (State.touch_regs s o) _), by rw [frame]; rfl⟩
  · have run : (s.touch o).runCmd { org := o, ix := Reg.descCancel / 256, sub := Reg.descCancel % 256, val := beBytes 4 v } =
        (0, 2, (s.touch o).cancelWhere fun t => t.desc == v && !t.cancel) := by
      have listed : ¬ (s.touch o).descCount ≤ v := by rw [State.touch_descCount]; omega
      rw [State.runCmd_descCancel hv]
      unfold State.descCancel
      rw [if_neg listed]
      exact cmdOf_done _
    obtain ⟨-, pending, stores, -⟩ := cancelWhere_spec (byName_desc v) (s.touch o)
    have gone {z : Task} := tasks_cancelWhere (s := s.touch o) (y := z) (byName_desc v) (by rw [State.touch_sched]; exact h16)
    have stay {z : Task} := ready_cancelWhere (s := s.touch o) (y := z) (byName_desc v)
    generalize (s.touch o).cancelWhere (fun t => t.desc == v && !t.cancel) = u at run pending stores gone stay
    obtain ⟨w, done, state, frame⟩ := exec_descCancel hu hv hn run (stores (storesOk_touch ok o)) (pending.trans (State.touch_pending s o))
    have sched : w.sched = u.sched := by rw [frame]
    refine ⟨w, done, state, by rw [frame]; rfl, fun z hz hid => ?_, fun z hz hid => ?_⟩
    · have clear := gone (z := z) (by unfold State.tasks at hz ⊢; rwa [sched] at hz)
      simpa [hid] using clear
    · rw [sched]
      exact stay (by rw [State.touch_sched]; exact hz) (by simp [hid])
  · rw [State.cancelWhere_of_inFlight ok hc hp]
    exact ⟨(reg_cancelIdle_foldl
      (s := { s with sched := { s.sched with ready := s.sched.ready.map fun q => q.filter fun t => !p t } }) ok hc _).1,
      (moves_readyCancelled s p).ready⟩

end Sys2Proof.Machine

/-! PROOFS. Supplies, die temperatures, the life counter, and the switching of power domains (R452, R454, R455, R460, R462, R476, R484). -/

namespace Sys2Proof.Machine

section
variable {s t : State} {n mv d c h : Nat} {temp : Int}

/-! ### Supplies (R455) -/

/-- The supplies out of range with supply `n` among them. -/
def PowerSt.outWith (p : PowerSt) (n : Nat) : PowerSt := { p with outOf := if p.outOf.contains n then p.outOf else n :: p.outOf }

theorem PowerSt.mem_outWith (p : PowerSt) (n : Nat) : n ∈ (p.outWith n).outOf := by
  unfold PowerSt.outWith
  dsimp only
  split
  · next h => simpa using h
  · exact List.mem_cons_self

theorem State.supplyOut_alive (hn : n < 8) (out : outOfRange n mv = true) (boot : s.mode.boot ≠ .unpowered) (alive : s.alive = true) :
    s.supplyOut n mv = (({ s with power := s.power.outWith n } : State).setActive 5).capture 0x05 (railCode n) mv := by
  unfold State.supplyOut
  rw [if_neg (by simp [out, boot]; omega)]
  exact if_pos alive

theorem State.supplyOut_reset (hn : n < 8) (out : outOfRange n mv = true) (boot : s.mode.boot ≠ .unpowered) (alive : s.alive = false) :
    s.supplyOut n mv = { s with
      mode := { s.mode with boot := .held }
      power := { s.power.outWith n with dom := [2, 0, 0, if s.domState 3 == 3 && decide (2 ≤ n) then 3 else 0, 0, 0, 0, 0, 0, 0] } } := by
  unfold State.supplyOut
  rw [if_neg (by simp [out, boot]; omega)]
  exact if_neg (show ¬ s.alive = true by simp [alive])

theorem State.supplyBack_last (inRange : outOfRange n mv = false) (alive : s.alive = true) (last : s.power.outOf = [n]) :
    s.supplyBack n mv = ({ s with power := { s.power with outOf := [], fbxLow := s.power.fbxLow && n != 6, railsAt := s.clock.cclk } } : State).clearActive 5 := by
  unfold State.supplyBack
  rw [if_neg (by simp [inRange])]
  dsimp only
  rw [last, show List.filter (· != n) [n] = [] by simp]
  rw [if_neg (by simp)]
  exact if_pos alive

theorem State.supplyWarn_first (hn : n < 8) (beyond : beyondBand n mv = true) (first : s.power.warned.contains (railCode n) = false) :
    ∃ v, s.supplyWarn n mv = ({ s with power := { s.power with
      warned := railCode n :: s.power.warned.filter (· != railCode n), inBand := assocDel s.power.inBand (railCode n) } } : State).raise 61
        (beBytes 1 (railCode n) ++ beBytes 2 v) := by
  unfold State.supplyWarn
  dsimp only
  rw [if_neg (by rw [first, beyond]; simp; omega)]
  exact ⟨_, rfl⟩

/-! ### Die temperatures (R460) -/

theorem State.extreme_eq (s : State) (least : Bool) (num : Nat → Int) (k v : Nat) :
    s.extreme least num k v = { s with regs := (s.extreme least num k v).regs, report := (s.extreme least num k v).report } := by
  unfold State.extreme
  split_ifs <;> rfl

theorem keeps_extreme {ks : List Nat} {k : Nat} (ok : s.storesOk) (hk : k ∈ ks) (least : Bool) (num : Nat → Int) (v : Nat) :
    Keeps ks s (s.extreme least num k v) := by
  have set : Keeps ks s (s.setReg k v) := (Keeps.refl ok).setReg hk v
  unfold State.extreme
  split_ifs
  · exact ⟨set.stores, set.regs⟩
  · exact set
  · exact .refl ok
  · exact set
  · exact .refl ok

/-- The register that shows a die's temperature. -/
abbrev tjOf (die : Nat) : Nat := if die = 0 then Reg.tjLogic else Reg.tjFbx

theorem State.dieRead_eq (s : State) (die : Nat) (temp : Int) : s.dieRead die temp =
    { s with regs := (s.dieRead die temp).regs, report := (s.dieRead die temp).report
             power := { s.power with hourPeak := max s.power.hourPeak temp } } := by
  unfold State.dieRead
  dsimp only
  rw [State.extreme_eq]
  rfl

theorem dieRead_spec (ok : s.storesOk) (die : Nat) (temp : Int) : Keeps [Reg.tjLogic, Reg.tjFbx, Reg.tjPeak] s (s.dieRead die temp) ∧
    (s.dieRead die temp).reg (tjOf die) = ofSigned 2 temp := by
  have mem : tjOf die ∈ [Reg.tjLogic, Reg.tjFbx, Reg.tjPeak] := by unfold tjOf; split <;> simp
  have apart : tjOf die ∉ [Reg.tjPeak] := by unfold tjOf; split <;> decide
  have set : Keeps [Reg.tjLogic, Reg.tjFbx, Reg.tjPeak] s (s.setReg (tjOf die) (ofSigned 2 temp)) := (Keeps.refl ok).setReg mem _
  have peak := keeps_extreme (ks := [Reg.tjPeak]) set.stores (List.mem_singleton_self _) false (toSigned 2) (ofSigned 2 temp)
  have all := set.trans (peak.mono (by simp))
  exact ⟨⟨all.stores, all.regs⟩, (peak.reg apart).trans (reg_setReg ok _ _)⟩

theorem State.overTemp_above {die : Nat} (alive : s.alive = true) (hd : die < 2) (above : s.tjMax < temp) : s.overTemp die temp =
    ((({ s.dieRead die temp with power := { (s.dieRead die temp).power with overTemp := setBit (s.dieRead die temp).power.overTemp die } } : State)).setActive 6).capture
      0x06 die (ofSigned 8 temp) := by
  unfold State.overTemp
  rw [if_pos (by simp [alive, hd, above])]

/-- The two dies, `die` no longer above its maximum. -/
def State.dieCool (s : State) (die : Nat) (temp : Int) : State :=
  { s.dieRead die temp with power := { (s.dieRead die temp).power with overTemp := clearBit (s.dieRead die temp).power.overTemp die } }

theorem State.overTempClear_below {die : Nat} (hd : die < 2) (below : temp < s.tjMax - 160) : s.overTempClear die temp =
    if (s.dieCool die temp).power.overTemp = 0 then (s.dieCool die temp).clearActive 6 else s.dieCool die temp := by
  unfold State.overTempClear
  rw [if_pos (by simp [hd, below])]
  rfl

/-! ### The life counter (R484) -/

theorem State.lifeHour_rated (boot : s.mode.boot ≠ .unpowered) (rated : ratedHours s.power.hourPeak = some h) : s.lifeHour =
    { ((s.reachCclk s.power.lifeAt).setReg Reg.lifeUsed (min ((s.power.lifeAcc + 1000000000000 / h) / 1000000) (two32 - 1)))
      with power := { s.power with lifeAcc := s.power.lifeAcc + 1000000000000 / h, hourPeak := -32768, lifeAt := s.power.lifeAt + 3600 * nsPerSec }
           cairn := { s.cairn with fields := assocSet s.cairn.fields Reg.lifeUsed (min ((s.power.lifeAcc + 1000000000000 / h) / 1000000) (two32 - 1)) } } := by
  have same : (s.reachCclk s.power.lifeAt).power = s.power := rfl
  unfold State.lifeHour
  rw [if_neg (by simp [boot])]
  simp only [same, rated]
  rfl

/-! ### The switching of domains (R452, R454, R476) -/

theorem State.setDom_of_ne (hne : s.domState d ≠ n) :
    s.setDom d n = ({ s with power := { s.power with dom := s.power.dom.set d n } } : State).raise 60 (beBytes 1 d ++ beBytes 1 n) := if_neg hne

theorem State.setDom_power (hne : s.domState d ≠ n) : (s.setDom d n).power = { s.power with dom := s.power.dom.set d n } := by
  rw [State.setDom_of_ne hne, State.raise_eq]

theorem State.lt_of_domState (h : s.domState d ≠ 0) : d < s.power.dom.length := by
  by_contra hl
  exact h (List.getD_eq_default _ _ (Nat.not_lt.mp hl))

theorem State.domState_setDom (hd : d < s.power.dom.length) (n : Nat) : (s.setDom d n).domState d = n := by
  by_cases hne : s.domState d = n
  · unfold State.setDom
    rwa [if_pos hne]
  · unfold State.domState
    rw [State.setDom_power hne]
    simp [hd]

theorem keeps_setDom (ok : s.storesOk) (d n : Nat) : Keeps (evKeys 60) s (s.setDom d n) := by
  unfold State.setDom
  split
  · exact .refl ok
  · exact (Keeps.refl (s := { s with power := { s.power with dom := s.power.dom.set d n } }) ok).raise (fun _ h => h) _ |> fun k => ⟨k.stores, k.regs⟩

theorem State.domState_of_mayStart (h : s.mayStart d = true) : s.domState d ≠ 1 := by
  intro one
  unfold State.mayStart at h
  rw [one] at h
  simp at h

theorem State.startDomain_dom (h : s.domState d ≠ 1) : (s.startDomain d).power.dom = s.power.dom.set d 1 := by
  unfold State.startDomain
  exact congrArg PowerSt.dom (State.setDom_power (s := { s with power := { s.power with since := s.power.since.set d s.clock.cclk } }) h)

theorem State.startDomain_eq (s : State) (d : Nat) :
    s.startDomain d = { s.withOutputs (s.startDomain d) with power := (s.startDomain d).power } := by
  unfold State.startDomain
  rw [State.setDom_eq]
  rfl

theorem State.bootLoad_eq (s : State) : s.bootLoad = { s with topo := s.bootLoad.topo, regs := s.bootLoad.regs } := by
  unfold State.bootLoad
  split <;> rfl

theorem State.dramTrained_eq (s : State) : s.dramTrained = { s with topo := s.dramTrained.topo, regs := s.dramTrained.regs } := by
  unfold State.dramTrained
  rw [State.bootLoad_eq]
  rfl

theorem State.domainOn_first (alive : s.alive = true) (may : s.mayStart d = true)
    (first : (domainOrder.find? fun x => s.mayStart x && s.domState x != 5) = some d) : s.domainOn d =
      (s.reachCclk (((domainOrder.filter fun x => s.domState x == 1).map fun x => s.power.since.getD x 0 + 10000).foldl max 0)).startDomain d := by
  unfold State.domainOn
  rw [first]
  exact if_pos (by simp [alive, may])

/-- What starts as a domain reports power-good (R452, R476). -/
def State.goodStarts (s : State) (d : Nat) : State := if d = 7 then s.dramTrained else if d = 8 then s.fireboxCleared else s

theorem State.goodStarts_eq (s : State) (d : Nat) :
    s.goodStarts d = { s with topo := (s.goodStarts d).topo, regs := (s.goodStarts d).regs, fbx := (s.goodStarts d).fbx } := by
  unfold State.goodStarts
  split
  · rw [State.dramTrained_eq]
  · split <;> rfl

theorem State.powerGood_inTime (on : s.domState d = 1) (time : s.clock.cclk ≤ s.power.since.getD d 0 + 5000000) :
    s.powerGood d = (s.setDom d 2).goodStarts d := by
  have limit : ms 5 = 5000000 := rfl
  unfold State.powerGood
  rw [if_pos on, limit, if_neg (Nat.not_lt.mpr time)]
  rfl

theorem State.incReg_domState (s : State) (k d : Nat) : (s.incReg k).domState d = s.domState d := rfl

theorem State.switchTimeout_starting (on : s.domState d = 1) : s.switchTimeout d =
    if d = 7 then ((((s.reachCclk (s.power.since.getD d 0 + ms 5)).setDom d 5).incReg Reg.switchFails).incReg Reg.dramTrainFails)
    else (((s.reachCclk (s.power.since.getD d 0 + ms 5)).setDom d 5).incReg Reg.switchFails) := by
  unfold State.switchTimeout
  rw [if_pos on]

/-- What a start that fails leaves, given the state it leaves. -/
theorem exec_switchTimeout {a b c : Nat} (run : s.switchTimeout d = t) (state : t.domState d = 5) (failed : t.reg Reg.switchFails = a)
    (late : n ≤ t.clock.cclk) (other : d ≠ 7 → t.reg Reg.dramTrainFails = b) (dram : d = 7 → t.reg Reg.dramTrainFails = c) :
    ∃ u, exec (.domainSwitchTimeout d) s = .next u ∧ u.domState d = 5 ∧ u.reg Reg.switchFails = a ∧ n ≤ u.clock.cclk ∧
      (d ≠ 7 → u.reg Reg.dramTrainFails = b) ∧ (d = 7 → u.reg Reg.dramTrainFails = c) :=
  ⟨_, congrArg s.done run, state, failed, late, other, dram⟩

/-- The raster, the strands or the rows of a domain that has switched off (R454). -/
def State.blocksOff (s : State) (d : Nat) : State :=
  if d = 5 then { s with comp := { s.comp with raster := { s.comp.raster with rsync := none } } }
  else if d = 6 then { s with pins := { s.pins with out := { s.pins.out with strands := List.replicate 32 0 } } }
  else if d = 8 then ({ s with pins := { s.pins with out := { s.pins.out with rows := none } } }).send (.rows none)
  else s

/-- The outputs of a domain that has switched off: its blocks', the sinks and the rail (R454). -/
def State.outputsOff (s : State) (d : Nat) : State :=
  if d = 8 then (s.blocksOff d).sinksOff else if d = 9 then (s.blocksOff d).railOff 0 else s.blocksOff d

/-- From `s` to `t` nothing changed but outputs and the compositor. -/
def BlocksOnly (s t : State) : Prop := t = { s.withOutputs t with comp := t.comp }

theorem blocksOnly_blocksOff (s : State) (d : Nat) : BlocksOnly s (s.blocksOff d) := by
  unfold BlocksOnly State.blocksOff
  split_ifs <;> rfl

theorem BlocksOnly.outputs {u : State} (h : BlocksOnly s t) (g : OutputsOnly t u) : BlocksOnly s u := by
  have comp : u.comp = t.comp := by rw [g]; rfl
  unfold BlocksOnly
  rw [comp]
  exact Eq.trans g (congrArg (·.withOutputs u) h)

theorem blocksOnly_outputsOff (s : State) (d : Nat) : BlocksOnly s (s.outputsOff d) := by
  have blocks := blocksOnly_blocksOff s d
  unfold State.outputsOff
  split
  · exact blocks.outputs (.sinksOff _)
  · split
    · exact blocks.outputs (.railOff _ 0)
    · exact blocks

theorem State.domainOff_stopping (alive : s.alive = true) (last : domainOrder.reverse.find? s.mayStop = some d) :
    s.domainOff d = ((s.setDom d 4).setDom d 0).outputsOff d := by
  unfold State.domainOff
  rw [last]
  exact if_pos (by simp [alive])

theorem State.mayStop_iff : s.mayStop d = true ↔
    bit s.neededMask d = false ∧ (s.domState d = 1 ∨ s.domState d = 2) ∧ s.dependentsOff d = true := by
  unfold State.mayStop
  simp [and_assoc]

theorem State.dramRetry_due (alive : s.alive = true) (failed : s.domState 7 = 5) (needed : bit s.neededMask 7 = true)
    (hearth : s.domOn 3 = true) : s.dramRetry = (s.reachCclk (s.power.since.getD 7 0 + nsPerSec)).startDomain 7 := by
  unfold State.dramRetry
  exact if_pos (by simp [alive, failed, needed, hearth])

end

/-- Settles O14: each clause is the branch of its command that the premises choose; what it changes is read off the frames of captures, events
and outputs. -/
theorem suppliesAndDomains : Obligations.SuppliesAndDomains := by
  refine ⟨⟨fun n mv s hn out boot alive => ?_, fun n mv s hn out boot alive => ?_, fun n mv s inRange alive last => ?_,
    fun n mv s ok hn beyond first alive => ?_, fun s ok => ?_, fun die temp s alive hd above => ?_, fun die temp s ok hd below => ?_,
    fun s h ok boot rated => ?_⟩, fun d s alive may first => ?_, fun d s on time => ?_, fun d s ok on => ?_, fun d s alive last => ?_,
    fun d s => State.mayStop_iff, fun s alive failed needed hearth => ?_⟩
  · have run := State.supplyOut_alive (mv := mv) hn out boot alive
    have captured := CaptureOnly.captureWith 0x05 (railCode n) mv
      ((({ s with power := s.power.outWith n } : State).setActive 5).maskedNow 0x05) false (({ s with power := s.power.outWith n } : State).setActive 5)
    unfold State.capture at run
    generalize State.captureWith _ 0x05 (railCode n) mv _ false = t at run captured
    refine ⟨_, congrArg s.done run, ?_, ?_, ?_, ?_⟩
    · show n ∈ t.power.outOf
      rw [captured.frame]
      exact s.power.mem_outWith n
    · show bit t.belay.active 5 = true
      rw [captured.active]
      exact (bit_setBit _ 5 5).trans (by simp)
    · show t.part = s.part
      rw [captured.frame]; rfl
    · show t.flash = s.flash
      rw [captured.frame]; rfl
  · exact ⟨_, congrArg s.done (State.supplyOut_reset hn out boot alive), s.power.mem_outWith n, rfl, rfl⟩
  · exact ⟨_, congrArg s.done (State.supplyBack_last inRange alive last), rfl, rfl, rfl⟩
  · obtain ⟨v, run⟩ := State.supplyWarn_first (mv := mv) hn beyond first
    generalize hw : ({ s with power := { s.power with warned := railCode n :: s.power.warned.filter (· != railCode n), inBand := assocDel s.power.inBand (railCode n) } } : State) = w at run
    have stores : w.storesOk := by rw [← hw]; exact ok
    have living : w.alive = true := by rw [← hw]; exact alive
    have regs : w.regs = s.regs := by rw [← hw]
    have counted := (counted_raise stores living (show 61 ≠ 34 by decide) (beBytes 1 (railCode n) ++ beBytes 2 v)).of_reg (s := s) (reg_congr regs _)
    have kept := (RegsKept.of_regs (ks := evKeys 61) regs).trans (raise_kept stores 61 (beBytes 1 (railCode n) ++ beBytes 2 v))
    have power : (w.raise 61 (beBytes 1 (railCode n) ++ beBytes 2 v)).power = w.power := by rw [State.raise_eq]
    refine ⟨_, congrArg s.done run, ?_, counted, kept⟩
    show railCode n ∈ (w.raise 61 (beBytes 1 (railCode n) ++ beBytes 2 v)).power.warned
    rw [power, ← hw]
    exact List.mem_cons_self
  · have sinks := keeps_sinksOff (ks := [Reg.draughtState]) ok
    have kept := sinks.trans (keeps_railOff sinks.stores (List.mem_singleton_self _) 0)
    have frame := (OutputsOnly.sinksOff s).trans (OutputsOnly.railOff s.sinksOff 0)
    obtain ⟨off, den⟩ := unlit_railOff (s := s.sinksOff) rfl 0
    have state : (s.sinksOff.railOff 0).reg Reg.draughtState = 0 := reg_setReg (State.setDen_good s.sinksOff false (.refl _) |>.stores sinks.stores) _ 0
    generalize hv : s.sinksOff.railOff 0 = v at kept frame off den state
    have run : s.fbxSupplyLow = { v with power := { v.power with fbxLow := true } } := by
      unfold State.fbxSupplyLow
      rw [hv]
    have power : v.power = s.power := by rw [frame]; rfl
    exact ⟨_, congrArg s.done run, rfl, off, den, state, kept.regs, by rw [← power], by show v.mode = s.mode; rw [frame]; rfl,
      by show v.belay = s.belay; rw [frame]; rfl⟩
  · have run := State.overTemp_above alive hd above
    have dies := bit_setBit (s.dieRead die temp).power.overTemp die die
    generalize hw : ({ s.dieRead die temp with power := { (s.dieRead die temp).power with overTemp := setBit (s.dieRead die temp).power.overTemp die } } : State) = w at run
    have hot : bit w.power.overTemp die = true := by rw [← hw]; exact dies.trans (by simp)
    have captured := CaptureOnly.captureWith 0x06 die (ofSigned 8 temp) ((w.setActive 6).maskedNow 0x06) false (w.setActive 6)
    unfold State.capture at run
    generalize (w.setActive 6).captureWith 0x06 die (ofSigned 8 temp) _ false = t at run captured
    refine ⟨_, congrArg s.done run, ?_, ?_⟩
    · show bit t.power.overTemp die = true
      rw [captured.frame]
      exact hot
    · show bit t.belay.active 6 = true
      rw [captured.active]
      exact (bit_setBit _ 6 6).trans (by simp)
  · have run := State.overTempClear_below hd below
    obtain ⟨kept, shown⟩ := dieRead_spec ok die temp
    have frame := s.dieRead_eq die temp
    have power : (s.dieCool die temp).power.overTemp = clearBit s.power.overTemp die := by
      unfold State.dieCool
      rw [frame]
    have regs : (s.dieCool die temp).regs = (s.dieRead die temp).regs := rfl
    have belay : (s.dieCool die temp).belay = s.belay := by
      show (s.dieRead die temp).belay = _
      rw [frame]
    generalize s.dieCool die temp = w at run power regs belay
    split at run
    · next cool =>
      refine ⟨_, congrArg s.done run, (reg_congr regs _).trans shown, kept.regs.trans (.of_regs regs), power, fun _ => ?_, fun hot => absurd cool hot⟩
      show (w.clearActive 6).belay = _
      unfold State.clearActive
      rw [belay]
    · next hot =>
      exact ⟨_, congrArg s.done run, (reg_congr regs _).trans shown, kept.regs.trans (.of_regs regs), power, fun cool => absurd cool hot, fun _ => belay⟩
  · have set : Keeps [Reg.lifeUsed] (s.reachCclk s.power.lifeAt) ((s.reachCclk s.power.lifeAt).setReg Reg.lifeUsed
        (min ((s.power.lifeAcc + 1000000000000 / h) / 1000000) (two32 - 1))) :=
      (Keeps.refl (s := s.reachCclk s.power.lifeAt) ok).setReg (List.mem_singleton_self _) _
    have hour : 3600 * nsPerSec = 3600000000000 := rfl
    exact ⟨_, congrArg s.done (State.lifeHour_rated boot rated), rfl, congrArg (s.power.lifeAt + ·) hour, rfl, s.le_reachCclk _, reg_setReg ok _ _, set.regs⟩
  · have run := State.domainOn_first alive may first
    generalize (List.map _ _).foldl max 0 = c at run
    have dom := State.startDomain_dom (s := s.reachCclk c) (State.domState_of_mayStart may)
    have frame := (s.reachCclk c).startDomain_eq d
    generalize (s.reachCclk c).startDomain d = t at run dom frame
    exact ⟨_, congrArg s.done run, dom, by show t.mode = s.mode; rw [frame]; rfl, by show t.flash = s.flash; rw [frame]; rfl⟩
  · have run := State.powerGood_inTime on time
    have state := State.domState_setDom (State.lt_of_domState (by rw [on]; decide)) 2
    have frame := s.setDom_eq d 2
    generalize s.setDom d 2 = v at run state frame
    have started := v.goodStarts_eq d
    generalize v.goodStarts d = t at run started
    refine ⟨_, congrArg s.done run, ?_, by show t.clock = s.clock; rw [started, frame]; rfl, by show t.mode = s.mode; rw [started, frame]; rfl,
      by show t.flash = s.flash; rw [started, frame]; rfl⟩
    show t.domState d = 2
    rw [started]
    exact state
  · have run := State.switchTimeout_starting on
    have time := s.le_reachCclk (s.power.since.getD d 0 + ms 5)
    have kept := keeps_setDom (s := s.reachCclk (s.power.since.getD d 0 + ms 5)) ok d 5
    have state := State.domState_setDom (s := s.reachCclk (s.power.since.getD d 0 + ms 5)) (State.lt_of_domState (by show s.domState d ≠ 0; rw [on]; decide)) 5
    have frame := (s.reachCclk (s.power.since.getD d 0 + ms 5)).setDom_eq d 5
    have fails : ((s.reachCclk (s.power.since.getD d 0 + ms 5)).setDom d 5).reg Reg.switchFails = s.reg Reg.switchFails := kept.reg (by decide)
    have trains : ((s.reachCclk (s.power.since.getD d 0 + ms 5)).setDom d 5).reg Reg.dramTrainFails = s.reg Reg.dramTrainFails := kept.reg (by decide)
    have clock : ((s.reachCclk (s.power.since.getD d 0 + ms 5)).setDom d 5).clock = (s.reachCclk (s.power.since.getD d 0 + ms 5)).clock := by rw [frame]; rfl
    generalize (s.reachCclk (s.power.since.getD d 0 + ms 5)).setDom d 5 = v at run kept state fails trains clock
    have counted : Keeps [Reg.switchFails] v (v.incReg Reg.switchFails) := (Keeps.refl kept.stores).setReg (List.mem_singleton_self _) _
    have failed : (v.incReg Reg.switchFails).reg Reg.switchFails = min (s.reg Reg.switchFails + 1) (two32 - 1) := by rw [reg_incReg kept.stores, fails]
    have late : s.power.since.getD d 0 + 5000000 ≤ (v.incReg Reg.switchFails).clock.cclk := by
      have limit : ms 5 = 5000000 := rfl
      show _ ≤ v.clock.cclk
      rw [clock, ← limit]
      exact time
    have untrained : (v.incReg Reg.switchFails).reg Reg.dramTrainFails = s.reg Reg.dramTrainFails := (counted.reg (by decide)).trans trains
    have again : Keeps [Reg.dramTrainFails] (v.incReg Reg.switchFails) ((v.incReg Reg.switchFails).incReg Reg.dramTrainFails) :=
      (Keeps.refl counted.stores).setReg (List.mem_singleton_self _) _
    have both := (again.reg (k := Reg.switchFails) (by decide)).trans failed
    have trained : ((v.incReg Reg.switchFails).incReg Reg.dramTrainFails).reg Reg.dramTrainFails = min (s.reg Reg.dramTrainFails + 1) (two32 - 1) := by
      rw [reg_incReg counted.stores, untrained]
    by_cases dram : d = 7
    · rw [if_pos dram] at run
      exact exec_switchTimeout run ((State.incReg_domState _ _ _).trans state) both (by rw [State.incReg_clock]; exact late)
        (fun h => absurd dram h) fun _ => trained
    · rw [if_neg dram] at run
      exact exec_switchTimeout run ((State.incReg_domState _ _ _).trans state) failed late (fun _ => untrained) fun h => absurd h dram
  · have run := State.domainOff_stopping alive last
    have running : s.domState d ≠ 0 := by
      obtain ⟨-, one | two, -⟩ := State.mayStop_iff.mp (List.find?_some last)
      · rw [one]; decide
      · rw [two]; decide
    have exists_ := State.lt_of_domState running
    have falling := State.domState_setDom exists_ 4
    have frame := s.setDom_eq d 4
    generalize s.setDom d 4 = u at run falling frame
    have state := State.domState_setDom (s := u) (State.lt_of_domState (by rw [falling]; decide)) 0
    have frame' := u.setDom_eq d 0
    generalize u.setDom d 0 = v at run state frame'
    have outputs := blocksOnly_outputsOff v d
    generalize v.outputsOff d = t at run outputs
    refine ⟨_, congrArg s.done run, ?_, by show t.clock = s.clock; rw [outputs, frame', frame]; rfl, by show t.mode = s.mode; rw [outputs, frame', frame]; rfl⟩
    show t.domState d = 0
    rw [outputs]
    exact state
  · have run := State.dramRetry_due alive failed needed hearth
    have time := s.le_reachCclk (s.power.since.getD 7 0 + nsPerSec)
    have dom := State.startDomain_dom (s := s.reachCclk (s.power.since.getD 7 0 + nsPerSec)) (d := 7) (by show s.domState 7 ≠ 1; rw [failed]; decide)
    have frame := (s.reachCclk (s.power.since.getD 7 0 + nsPerSec)).startDomain_eq 7
    have length : 7 < s.power.dom.length := State.lt_of_domState (by rw [failed]; decide)
    have clock : ((s.reachCclk (s.power.since.getD 7 0 + nsPerSec)).startDomain 7).clock = (s.reachCclk (s.power.since.getD 7 0 + nsPerSec)).clock := by
      rw [frame]; rfl
    have mode : ((s.reachCclk (s.power.since.getD 7 0 + nsPerSec)).startDomain 7).mode = s.mode := by rw [frame]; rfl
    generalize (s.reachCclk (s.power.since.getD 7 0 + nsPerSec)).startDomain 7 = t at run dom clock mode
    refine ⟨_, congrArg s.done run, ?_, ?_, mode⟩
    · show t.power.dom.getD 7 0 = 1
      rw [dom]
      exact (congrArg (Option.getD · 0) (List.getElem?_set_self length))
    · have second : nsPerSec = 1000000000 := rfl
      show _ ≤ t.clock.cclk
      rw [clock, ← second]
      exact time

end Sys2Proof.Machine

/-! PROOFS. The pins and checks of the belay monitor, the end of a reaction, the cairn record and the restart (R424, R431, R433 to R438). -/

namespace Sys2Proof.Machine

section
variable {s t : State} {x : FaultSlot} {r : FaultRec} {c n : Nat} {dev : Int}

/-! ### The DARK latch (R434, R435) -/

/-- `s` with the DARK latch set by class `c`, before the mode follows. -/
def State.darkLatched (s : State) (c : Nat) : State :=
  let v := s.fillLatch { s.faultRec c 0xFF 0 0 false false with flags := 3 }
  { v with belay := { v.belay with latchDark := true, darkOut := true, hwCause := v.belay.hwCause ||| (if c == 3 then 1 else 2)
                                   active := setBit v.belay.active c } }

/-- EV58 is raised, and the mode is DARK out of RESET. -/
theorem State.setDarkLatch_eq (s : State) (c : Nat) : s.setDarkLatch c =
    match ((s.darkLatched c).raise 58 (beBytes 1 (s.darkLatched c).belay.hwCause)).mode.mode with
    | .reset => (s.darkLatched c).raise 58 (beBytes 1 (s.darkLatched c).belay.hwCause)
    | .dark => ((s.darkLatched c).raise 58 (beBytes 1 (s.darkLatched c).belay.hwCause)).setReg Reg.lastCause 11
    | .roping | .staging | .onShow | .holdover => ((s.darkLatched c).raise 58 (beBytes 1 (s.darkLatched c).belay.hwCause)).enterDark 11 := by
  unfold State.setDarkLatch
  rfl

theorem State.setDarkLatch_belay (s : State) (c : Nat) : (s.setDarkLatch c).belay = (s.darkLatched c).belay := by
  have raised : ((s.darkLatched c).raise 58 (beBytes 1 (s.darkLatched c).belay.hwCause)).belay = (s.darkLatched c).belay := by rw [State.raise_eq]
  rw [State.setDarkLatch_eq]
  generalize (s.darkLatched c).raise 58 (beBytes 1 (s.darkLatched c).belay.hwCause) = v at raised ⊢
  split
  · exact raised
  · exact raised
  all_goals
    rw [State.enterDark_eq]
    exact raised

theorem State.setDarkLatch_mode (alive : s.alive = true) (c : Nat) : (s.setDarkLatch c).mode.mode = .dark := by
  have mode : ((s.darkLatched c).raise 58 (beBytes 1 (s.darkLatched c).belay.hwCause)).mode = s.mode := by
    rw [State.raise_eq]
    show (s.fillLatch _).mode = _
    rw [State.fillLatch_eq]
  rw [State.setDarkLatch_eq]
  generalize (s.darkLatched c).raise 58 (beBytes 1 (s.darkLatched c).belay.hwCause) = v at mode ⊢
  split
  · next h =>
    unfold State.alive at alive
    rw [← mode, h] at alive
    cases alive
  · next h => exact h
  all_goals
    rw [State.enterDark_eq]
    rfl

/-- What the latch, once set, holds (R434). -/
theorem setDarkLatch_spec (alive : s.alive = true) (c : Nat) : (s.setDarkLatch c).belay.latchDark = true ∧
    (s.setDarkLatch c).belay.darkOut = true ∧ (s.setDarkLatch c).mode.mode = .dark ∧ bit (s.setDarkLatch c).belay.active c = true ∧
      s.slotsLike (s.setDarkLatch c).belay.slots := by
  have slots := s.slotsLike_fillLatch { s.faultRec c 0xFF 0 0 false false with flags := 3 }
  rw [State.setDarkLatch_belay]
  exact ⟨rfl, rfl, State.setDarkLatch_mode alive c, (bit_setBit _ c c).trans (by simp), slots⟩

/-! ### The pins and checks (R433, R437, R438) -/

theorem State.triggerDark_idle (h : s.mode.mode = .dark ∨ s.mode.mode = .reset) (cause : Nat) : s.triggerDark cause = s := by
  unfold State.triggerDark
  rcases h with h | h <;> rw [h]

/-- A capture that a check makes: its class is active, and has a record. -/
theorem captured_spec (s : State) (c source detail : Nat) : bit ((s.setActive c).capture c source detail).belay.active c = true ∧
    (((s.setActive c).capture c source detail).belay.slots.any fun x => x.rcd.cls == c) = true := by
  unfold State.capture
  rw [(CaptureOnly.captureWith c source detail ((s.setActive c).maskedNow c) false (s.setActive c)).active]
  exact ⟨(bit_setBit _ c c).trans (by simp), slots_captureWith _ _ _ _ _ _⟩

/-! ### The end of a reaction (R423, R424) -/

theorem State.topSlot_of_one (h : s.belay.slots = [x]) : s.topSlot = some x := by
  unfold State.topSlot
  rw [h]
  rfl

theorem State.markPreempted_of_one (h : s.belay.slots = [x]) : s.markPreempted x = s := by
  unfold State.markPreempted
  rw [h]
  simp only [List.map_cons, List.map_nil, bne_self_eq_false, Bool.and_false, Bool.false_eq_true, if_false]
  rw [← h]

/-- `s` with the reaction of its one slot at its end, before the record is queued. -/
def State.reactionEnded (s : State) : State := { s with belay := { s.belay with rseq := (s.belay.rseq + 1) % 65536, slots := [] } }

/-- A fault record with room is queued, and the pool is looked at. -/
theorem State.pushFault_room (room : s.belay.queue.length < 256) (free : s.poolFree ≠ 0) : s.pushFault r =
    (({ s with belay := { s.belay with queue := s.belay.queue ++ [r] } } : State).seeDepth 24 (min 256 (s.belay.queue.length + 1))).poolCheck := by
  have full : decide (256 ≤ s.belay.queue.length) = false := by simpa using room
  unfold State.pushFault
  dsimp only
  rw [full, if_neg Bool.false_ne_true, if_pos free]
  rfl

theorem State.endReaction_of_one (h : s.belay.slots = [x]) (light : x.rcd.reaction < 2) (unmasked : bit x.rcd.flags 3 = false) :
    s.endReaction x = s.reactionEnded.pushFault { x.rcd with rseq := s.belay.rseq } := by
  unfold State.endReaction State.reactionEnded
  simp only [h, unmasked, Bool.false_and, Bool.false_eq_true, if_false, if_neg (show ¬ 2 ≤ x.rcd.reaction by omega),
    if_neg (show x.rcd.reaction ≠ 3 by omega)]
  simp

theorem State.reactionStep_last (h : s.belay.slots = [x]) (stage : x.stage = 2) (light : x.rcd.reaction < 2)
    (unmasked : bit x.rcd.flags 3 = false) : s.reactionStep = s.reactionEnded.pushFault { x.rcd with rseq := s.belay.rseq } := by
  unfold State.reactionStep
  rw [State.topSlot_of_one h]
  dsimp only
  rw [State.markPreempted_of_one h, if_neg (by rw [stage]; decide), if_neg (by rw [stage]; decide), State.endReaction_of_one h light unmasked]

/-! ### The restart (R431) -/

/-- `s` as the restart begins: the cairn write has ended or its time is over, and the restart is counted. -/
def State.restarting (s : State) (n : Nat) : State :=
  let s := if s.belay.cairnDue.isSome then s.reachCclk (n + ms 250) else s
  { s with belay := { s.belay with restartsAt := s.recentRestarts ++ [s.clock.cclk]
                                   restartCap := s.belay.restartCap || decide (3 ≤ (s.recentRestarts ++ [s.clock.cclk]).length) } }

theorem State.belayRestart_due (due : s.belay.restartDue = some n) : s.belayRestart = ((s.restarting n).enterReset 12).bootAgain := by
  unfold State.belayRestart
  rw [due]
  rfl

theorem State.restarting_eq (s : State) (n : Nat) : s.restarting n = { s with clock := (s.restarting n).clock, belay := (s.restarting n).belay } := by
  unfold State.restarting
  cases s.belay.cairnDue.isSome <;> rfl

end

/-- Settles O15: the latch by `setDarkLatch_spec`, the checks by the captures they make, and the sequencer's last step by
`State.reactionStep_last`. -/
theorem faultsAndReactions : Obligations.FaultsAndReactions := by
  refine ⟨⟨fun s roping => ?_, fun s running => ?_, fun s idle => ?_, fun s => rfl, fun n s alive => ⟨?_, ?_⟩, fun s alive low fresh => ?_,
    fun dev s on off => ?_, fun dev s on hi lo => ?_, fun cpu s alive on hc fresh => ?_⟩,
    fun s x ok alive one stage light unmasked free room => ?_, fun s r due => ?_, fun s n ok due => ?_⟩
  · have run := State.triggerDark_roping (s := { s with pins := { s.pins with darkN := false } }) roping 4
    exact congrArg s.done run
  · have run := State.triggerDark_enters (s := { s with pins := { s.pins with darkN := false } }) running 4
    obtain ⟨off, den⟩ := unlit_enterDark ({ s with pins := { s.pins with darkN := false } } : State) 4
    have frame := State.enterDark_eq ({ s with pins := { s.pins with darkN := false } } : State) 4
    generalize ({ s with pins := { s.pins with darkN := false } } : State).enterDark 4 = t at run off den frame
    exact ⟨_, congrArg s.done run, by show t.pins = _; rw [frame]; rfl, by show t.mode.mode = _; rw [frame]; rfl, off, den,
      by show t.mode.showReqs = _; rw [frame]; rfl, by show t.flash = _; rw [frame]; rfl⟩
  · exact congrArg s.done (State.triggerDark_idle (s := { s with pins := { s.pins with darkN := false } }) idle 4)
  · exact ⟨_, congrArg s.done (if_pos alive), setDarkLatch_spec alive 4⟩
  · exact ⟨_, congrArg s.done (if_pos alive), setDarkLatch_spec alive 3⟩
  · have run : (if s.alive && s.faultN then (s.setActive 0x1F).capture 0x1F 0 0 else s) = (s.setActive 0x1F).capture 0x1F 0 0 :=
      if_pos (by simp [alive, low])
    obtain ⟨active, -⟩ := captured_spec s 0x1F 0 0
    obtain ⟨l, slots, like⟩ := State.slots_captureWith_new (s.setActive 0x1F) (source := 0) (detail := 0)
      (masked := (s.setActive 0x1F).maskedNow 0x1F) (injected := false) fresh
    exact ⟨_, l, _, congrArg s.done run, slots, like, active, rfl, rfl, rfl⟩
  · have run : s.fireboxRef dev = (s.setActive 0x1E).capture 0x1E 0 (ofSigned 8 dev) := by
      unfold State.fireboxRef
      rw [if_neg (by simp [on]), if_pos off]
    exact ⟨_, congrArg s.done run, captured_spec s 0x1E 0 (ofSigned 8 dev)⟩
  · have run : s.fireboxRef dev = s.clearActive 0x1E := by
      unfold State.fireboxRef
      rw [if_neg (by simp [on]), if_neg (by omega)]
    exact congrArg s.done run
  · have run : s.coreWatchdog cpu = s.capture 0x12 cpu 0 := if_pos (by simp [alive, on, hc])
    obtain ⟨l, slots, like⟩ := State.slots_captureWith_new s (source := cpu) (detail := 0) (masked := s.maskedNow 0x12) (injected := false) fresh
    exact ⟨_, l, _, congrArg s.done run, slots, like, rfl, rfl, rfl⟩
  · have run : (if s.alive then State.reactionSteps 1 s else s) = s.reactionStep := if_pos alive
    rw [State.reactionStep_last one stage light unmasked, State.pushFault_room (s := s.reactionEnded) room free] at run
    generalize hv : (State.seeDepth _ 24 _) = v at run
    have stores : v.storesOk := by rw [← hv]; exact ok
    have regs : v.regs = s.regs := by rw [← hv]; rfl
    have kept := poolCheck_kept stores
    have frame := v.poolCheck_eq
    generalize v.poolCheck = t at run kept frame
    have belay : t.belay = v.belay := by rw [frame]
    have mode : t.mode = v.mode := by rw [frame]
    refine ⟨_, congrArg s.done run, ?_, ?_, ?_, (RegsKept.of_regs regs).trans kept, mode.trans (by rw [← hv]; rfl)⟩
    · exact (congrArg BelaySt.slots belay).trans (by rw [← hv]; rfl)
    · exact (congrArg BelaySt.queue belay).trans (by rw [← hv]; rfl)
    · exact (congrArg BelaySt.rseq belay).trans (by rw [← hv]; rfl)
  · exact congrArg s.done (show s.cairnWritten = _ by unfold State.cairnWritten; rw [due])
  · have run := State.belayRestart_due due
    have begun := s.restarting_eq n
    generalize s.restarting n = v at run begun
    have cause := reg_enterReset (s := v) (by rw [begun]; exact ok) 12
    have cleared := v.enterReset_eq 12
    have ended := v.workEnded_eq
    have flash (h : s.xfer.open_ = []) : v.workEnded.flash = s.flash := by
      rw [State.workEnded_flash (by rw [begun]; exact h), begun]
    unfold State.clearedFor at cleared
    generalize v.workEnded = w at cleared ended flash
    generalize v.enterReset 12 = t at run cleared cause
    have slots : t.belay.slots = [] := by rw [cleared]; rfl
    have mode : t.mode.mode = .reset := by rw [cleared]; rfl
    have sel : t.mode.bootSel = s.mode.bootSel := by rw [cleared, ended, begun]; rfl
    have cairn : t.cairn = { s.cairn with calWrite := none } := by rw [cleared, ended, begun]; rfl
    have part : t.part = s.part := by rw [cleared, ended, begun]; rfl
    have held (h : s.xfer.open_ = []) : t.flash = s.flash := by rw [cleared]; exact flash h
    exact ⟨_, congrArg s.done run, mode, congrArg bootOf sel, cause, slots, cairn, held, part⟩

end Sys2Proof.Machine

/-! SUPPORT. A message to the segment, the role of a head, the state of the ring, and the segment in force (R314, R320, R322, R331). -/

namespace Sys2Proof.Machine

/-! ### A value that is no default leaves what other addresses read -/

/-- In any store, canonical or not. -/
theorem storeGet_storePut_of_ne_default {α : Type} [DecidableEq α] {d : Nat → α} {a b : Nat} {v : α} (hv : v ≠ d a) (h : b ≠ a)
    (m : List (Nat × α)) : storeGet d (storePut d m a v) b = storeGet d m b := by
  induction m with
  | nil =>
    unfold storePut
    rw [if_neg hv]
    simp [storeGet, Ne.symm h]
  | cons p m ih =>
    obtain ⟨k, w⟩ := p
    unfold storePut
    rw [if_neg hv, if_neg hv]
    split
    · next below =>
      simp only [storeGet, if_neg (Ne.symm h)]
      split
      · next hb => rw [if_neg (by omega), if_pos (by omega)]
      · rfl
    · split
      · next same =>
        subst same
        simp only [storeGet, if_neg (Ne.symm h)]
      · simp only [storeGet, ih]

section
variable {s t u : State} {p k j len n m : Nat} {o : Output}

theorem reg_setReg_of_ne_default {v : Nat} (hv : v ≠ regDefault k) (h : j ≠ k) : (s.setReg k v).reg j = s.reg j :=
  storeGet_storePut_of_ne_default hv h s.regs

/-! ### A frame by both rope ports (R314) -/

/-- What decides whether port 0 sends a frame stays as it was. -/
structure GateKept (s t : State) : Prop where
  regs : ∀ j ∈ [Reg.portLinkState 0, Reg.linkAState, Reg.portMaxFrame 0], t.reg j = s.reg j
  port : t.port 0 = s.port 0

theorem GateKept.refl (s : State) : GateKept s s := ⟨fun _ _ => rfl, rfl⟩

theorem GateKept.trans (h : GateKept s t) (g : GateKept t u) : GateKept s u :=
  ⟨fun j hj => (g.regs j hj).trans (h.regs j hj), g.port.trans h.port⟩

/-- A counter that rises is not 0 afterwards. -/
theorem GateKept.counted {v : Nat} (hk : k ∉ [Reg.portLinkState 0, Reg.linkAState, Reg.portMaxFrame 0]) (zero : regDefault k = 0) (hv : 0 < v) :
    GateKept s (s.setReg k v) :=
  ⟨fun _ hj => reg_setReg_of_ne_default (by omega) (fun h => hk (h ▸ hj)), rfl⟩

theorem GateKept.incReg (hk : k ∉ [Reg.portLinkState 0, Reg.linkAState, Reg.portMaxFrame 0]) (zero : regDefault k = 0) : GateKept s (s.incReg k) :=
  .counted hk zero (Nat.lt_min.mpr ⟨Nat.succ_pos _, by decide⟩)

theorem GateKept.txNow (h : o.plain = true) : GateKept s (s.txNow 1 len o) := by
  unfold State.txNow State.txCount
  rw [State.stampOut_plain h]
  have frames : GateKept s (s.incReg (Reg.cntTxFrames 1)) := .incReg (by decide) (by decide +kernel)
  have octets : GateKept (s.incReg (Reg.cntTxFrames 1)) ((s.incReg (Reg.cntTxFrames 1)).addReg64 (Reg.cntTxOctets 1) (max 64 len)) :=
    .counted (by decide) (by decide +kernel) (Nat.lt_min.mpr ⟨by omega, by decide⟩)
  have both := frames.trans octets
  exact ⟨both.regs, both.port⟩

theorem GateKept.tx (h : o.plain = true) : GateKept s (s.tx 1 len o) := by
  obtain e | e | e | e := State.tx_cases s 1 len o
  · rw [e]; exact .refl s
  · rw [e]; exact .incReg (by decide) (by decide +kernel)
  · rw [e]
    refine ⟨fun _ _ => rfl, ?_⟩
    unfold State.port State.setPort
    simp [List.getD_eq_getElem?_getD]
  · rw [e]; exact .txNow h

theorem GateKept.portSends (h : GateKept s t) (sends : s.portSends 0) : t.portSends 0 := by
  obtain ⟨up, going, fits⟩ := sends
  have link := h.regs (Reg.portLinkState 0) (by simp)
  have state := h.regs Reg.linkAState (by simp)
  have longest := h.regs (Reg.portMaxFrame 0) (by simp)
  refine ⟨?_, ?_, by rw [longest]; exact fits⟩
  · unfold State.txDown State.portUp State.linkState at up ⊢
    rw [link, if_pos rfl, state]
    exact up
  · unfold State.txPaused at going ⊢
    rw [h.port]
    exact going

/-- A control message to the segment leaves both ports in DUPLICATE, ROPE-A last. -/
theorem sendSeg_last {ty : Nat} {b : Bytes} (on : s.ropeOn = true) (dup : s.reg Reg.ropeMode = 0) (sends : s.portSends 0) (short : b.length ≤ 90) :
    ∃ tag, (s.sendSeg ty b).sent.head? = some (.rope 0 tag (ropeMsg ty b)) := by
  have length : (ropeMsg ty b).length = 4 + b.length := by
    unfold ropeMsg
    simp only [List.length_append, beBytes_length]
  have ports : s.ropePorts 0 false = [1, 0] := by
    unfold State.ropePorts
    simp [dup]
  unfold State.sendSeg State.sendRope State.sendRopeWith
  dsimp only
  rw [if_neg (by simp [on]), ports]
  dsimp only [List.foldl_cons, List.foldl_nil]
  generalize (if s.hasPos then s.rope.seq else 0) = seq
  have gate := (GateKept.tx (s := s) (len := ropeLen (ropeMsg ty b).length) (o := .rope 1 (s.ropeTag 1 1 0 0 0 0 seq) (ropeMsg ty b)) rfl).portSends sends
  obtain ⟨up, going, fits⟩ := gate
  rw [State.tx_of_sends up going ((show ropeLen _ ≤ 128 by unfold ropeLen; omega).trans fits)]
  refine ⟨s.ropeTag 0 1 0 0 0 0 seq, ?_⟩
  split <;> rfl

/-! ### The role of a head (Table 11.7) -/

theorem State.dropRun_eq (s : State) : s.dropRun = { s with rope := s.dropRun.rope } := by
  unfold State.dropRun
  split <;> rfl

/-- What a role that ends or begins leaves of the rope: the beacons, the other heads, the terms and TRAIL's fall. -/
structure HeadKept (s t : State) : Prop where
  frame : t = { s with rope := t.rope, regs := t.regs }
  beaconAt : t.rope.beaconAt = s.rope.beaconAt
  termHeard : t.rope.termHeard = s.rope.termHeard
  wantRun : s.rope.wantRun = true → t.rope.wantRun = true
  headMac : t.rope.headMac = s.rope.headMac
  headPrio : t.rope.headPrio = s.rope.headPrio
  modeDue : t.rope.modeDue = s.rope.modeDue

theorem HeadKept.refl (s : State) : HeadKept s s := ⟨rfl, rfl, rfl, id, rfl, rfl, rfl⟩

theorem HeadKept.trans (h : HeadKept s t) (g : HeadKept t u) : HeadKept s u where
  frame := g.frame.trans (congrArg (fun v : State => { v with rope := u.rope, regs := u.regs }) h.frame)
  beaconAt := g.beaconAt.trans h.beaconAt
  termHeard := g.termHeard.trans h.termHeard
  wantRun := g.wantRun ∘ h.wantRun
  headMac := g.headMac.trans h.headMac
  headPrio := g.headPrio.trans h.headPrio
  modeDue := g.modeDue.trans h.modeDue

theorem headKept_dropRun (s : State) : HeadKept s s.dropRun := by
  unfold State.dropRun
  split
  · exact .refl s
  · exact ⟨rfl, rfl, rfl, id, rfl, rfl, rfl⟩

theorem headKept_setRole (s : State) (n : Nat) : HeadKept s (s.setRole n) := by
  have set (v : State) : HeadKept v { v.setReg Reg.headRole n with rope := { v.rope with quietFrom := v.clock.cclk, bidFrom := none } } :=
    ⟨rfl, rfl, rfl, id, rfl, rfl, rfl⟩
  unfold State.setRole
  split
  · exact set s
  · exact (headKept_dropRun s).trans (set _)

theorem State.setRole_regs (s : State) (n : Nat) : (s.setRole n).regs = (s.setReg Reg.headRole n).regs := by
  unfold State.setRole
  split
  · rfl
  · rw [State.dropRun_eq]
    rfl

theorem keeps_setRole (ok : s.storesOk) (n : Nat) : Keeps [Reg.headRole] s (s.setRole n) := by
  have set : Keeps [Reg.headRole] s (s.setReg Reg.headRole n) := (Keeps.refl ok).setReg (List.mem_singleton_self _) n
  have frame := (headKept_setRole s n).frame
  refine ⟨?_, set.regs.trans (.of_regs (s.setRole_regs n))⟩
  unfold State.storesOk
  rw [frame, s.setRole_regs n]
  exact set.stores

theorem reg_setRole (ok : s.storesOk) (n : Nat) : (s.setRole n).reg Reg.headRole = n :=
  (reg_congr (s.setRole_regs n) _).trans (reg_setReg ok _ n)

/-- A head that was standby keeps that role as long as it may be head. -/
theorem roleUpdate_of_standby (ok : s.storesOk) (role : s.reg Reg.headRole = 1) : HeadKept s s.roleUpdate ∧ Keeps [Reg.headRole] s s.roleUpdate ∧
    s.roleUpdate.reg Reg.headRole = if s.eligible then 1 else 0 := by
  unfold State.roleUpdate
  dsimp only
  rw [role]
  split
  · exact ⟨⟨rfl, rfl, rfl, id, rfl, rfl, rfl⟩, ⟨ok, .of_regs rfl⟩, role⟩
  · exact ⟨headKept_setRole s 0, keeps_setRole ok 0, reg_setRole ok 0⟩

/-! ### RING_STATE (R314, R320) -/

theorem State.setRing_eq (s : State) (n : Nat) : s.setRing n =
    { s with regs := (s.setReg Reg.ringState n).regs, belay := (s.setRing n).belay
             rope := { s.rope with bothWays := (s.setRing n).rope.bothWays, wantRun := (s.setRing n).rope.wantRun } } := by
  unfold State.setRing
  dsimp only
  split <;> rfl

theorem keeps_setRing (ok : s.storesOk) (n : Nat) : Keeps [Reg.ringState] s (s.setRing n) := by
  have set : Keeps [Reg.ringState] s (s.setReg Reg.ringState n) := (Keeps.refl ok).setReg (List.mem_singleton_self _) n
  rw [State.setRing_eq]
  exact ⟨set.stores, set.regs⟩

theorem reg_setRing (ok : s.storesOk) (n : Nat) : (s.setRing n).reg Reg.ringState = n := by
  rw [State.setRing_eq]
  exact reg_setReg ok _ n

theorem State.setRing_wantRun (h : s.rope.wantRun = true) (n : Nat) : (s.setRing n).rope.wantRun = true := by
  unfold State.setRing
  dsimp only
  split
  · show (s.rope.wantRun || _) = true
    rw [h]
    rfl
  · exact h

/-! ### What a beacon tells (R321, R331) -/

theorem State.takeSegment_eq (s : State) (seg pre : Nat) : s.takeSegment seg pre =
    { s with regs := ((s.setReg Reg.segment seg).setReg Reg.prefixR pre).regs, cairn := { s.cairn with prefixV := pre }
             host := (s.takeSegment seg pre).host } := by
  unfold State.takeSegment
  dsimp only
  split <;> rfl

theorem keeps_takeSegment (ok : s.storesOk) (seg pre : Nat) : Keeps [Reg.segment, Reg.prefixR] s (s.takeSegment seg pre) := by
  have set : Keeps [Reg.segment, Reg.prefixR] s ((s.setReg Reg.segment seg).setReg Reg.prefixR pre) :=
    ((Keeps.refl ok).setReg (by simp) _).setReg (by simp) _
  rw [State.takeSegment_eq]
  exact ⟨set.stores, set.regs⟩

theorem reg_takeSegment (ok : s.storesOk) (seg pre : Nat) :
    (s.takeSegment seg pre).reg Reg.segment = seg ∧ (s.takeSegment seg pre).reg Reg.prefixR = pre := by
  have set : Keeps [Reg.segment] s (s.setReg Reg.segment seg) := (Keeps.refl ok).setReg (List.mem_singleton_self _) _
  rw [State.takeSegment_eq]
  exact ⟨(reg_setReg_ne set.stores pre (by decide)).trans (reg_setReg ok _ seg), reg_setReg set.stores _ pre⟩

end

end Sys2Proof.Machine

/-! PROOFS. What each operation of the election does (R321 to R323, R328). -/

namespace Sys2Proof.Machine

section
variable {s t u : State} {mac pos seg term pre mode ring len prio key c n : Nat}

/-! ### A beacon heard (R321 to R323) -/

/-- `s` with another eligible unit and its term heard. -/
def State.heard (s : State) (mac term : Nat) : State :=
  { s.heardOther mac with rope := { (s.heardOther mac).rope with termHeard := max s.rope.termHeard term } }

/-- `s` with the beacon of `mac` accepted. -/
def State.following (s : State) (mac prio mode : Nat) : State :=
  { s with rope := { s.rope with beaconAt := some s.clock.cclk, headMac := mac, headPrio := prio, modeDue := some mode } }

/-- A head or bidder that yields is standby, or no head where it may not be one. -/
def State.yielding (s : State) : State := if 2 ≤ s.reg Reg.headRole then (s.setRole 1).roleUpdate else s

theorem yielding_spec (ok : s.storesOk) : HeadKept s s.yielding ∧ Keeps [Reg.headRole] s s.yielding ∧
    (s.reg Reg.headRole < 2 → s.yielding.reg Reg.headRole = s.reg Reg.headRole) := by
  unfold State.yielding
  split
  · next two =>
    have standby := keeps_setRole ok 1
    obtain ⟨kept, regs, -⟩ := roleUpdate_of_standby standby.stores (reg_setRole ok 1)
    exact ⟨(headKept_setRole s 1).trans kept, standby.trans regs, fun h => by omega⟩
  · exact ⟨.refl s, .refl ok, fun _ => rfl⟩

/-- What an accepted beacon sets: the head's position and term, the length of the segment, the segment and the ring's state. -/
def State.beaconTold (s : State) (pos seg term pre ring len : Nat) : State :=
  ((s.setRegs [(Reg.headPos, pos), (Reg.headTerm, term), (Reg.segLen, if s.hasPos then len else 256)]).takeSegment seg pre).setRing ring

/-- Does a beacon win over what the unit follows or is (R321, R323)? -/
def State.beaconWins (s : State) (mac pos term prio : Nat) : Bool :=
  if s.reg Reg.headRole = 3 then decide (s.reg Reg.headTerm < term) || (term == s.reg Reg.headTerm && s.lowerKey prio pos mac)
  else if s.noBeacon || s.rope.headMac == mac then true
  else decide (s.reg Reg.headTerm ≤ term) && !(term == s.reg Reg.headTerm && decide (s.rope.headPrio < prio))

theorem State.headBeacon_eq (on : s.ropeOn = true) (other : mac ≠ s.mac) : s.headBeacon mac pos seg term pre mode ring len prio =
    if !(s.heard mac term).beaconWins mac pos term prio then s.heard mac term
    else ((s.heard mac term).yielding.following mac prio mode).beaconTold pos seg term pre ring len := by
  unfold State.headBeacon
  exact if_neg (by simp [on, other])

theorem State.headBeacon_accepted (on : s.ropeOn = true) (other : mac ≠ s.mac) (role : s.reg Reg.headRole ≠ 3) (quiet : s.noBeacon = true) :
    s.headBeacon mac pos seg term pre mode ring len prio =
      ((s.heard mac term).yielding.following mac prio mode).beaconTold pos seg term pre ring len := by
  have lower : (s.heard mac term).reg Reg.headRole ≠ 3 := role
  have still : (s.heard mac term).noBeacon = true := quiet
  have wins : (s.heard mac term).beaconWins mac pos term prio = true := by
    unfold State.beaconWins
    rw [if_neg lower, still]
    rfl
  rw [State.headBeacon_eq on other, wins]
  rfl

theorem State.headBeacon_stale (on : s.ropeOn = true) (other : mac ≠ s.mac) (role : s.reg Reg.headRole = 3) (stale : term < s.reg Reg.headTerm) :
    s.headBeacon mac pos seg term pre mode ring len prio = s.heard mac term := by
  have head : (s.heard mac term).reg Reg.headRole = 3 := role
  have own : (s.heard mac term).reg Reg.headTerm = s.reg Reg.headTerm := rfl
  have loses : (s.heard mac term).beaconWins mac pos term prio = false := by
    unfold State.beaconWins
    rw [if_pos head, own, decide_eq_false (by omega), beq_eq_false_iff_ne.mpr (by omega)]
    rfl
  rw [State.headBeacon_eq on other, loses]
  rfl

theorem beaconTold_spec (ok : s.storesOk) (pos seg term pre ring len : Nat) :
    Keeps [Reg.headPos, Reg.headTerm, Reg.segLen, Reg.segment, Reg.prefixR, Reg.ringState] s (s.beaconTold pos seg term pre ring len) ∧
      (s.beaconTold pos seg term pre ring len).reg Reg.headPos = pos ∧ (s.beaconTold pos seg term pre ring len).reg Reg.headTerm = term ∧
      (s.beaconTold pos seg term pre ring len).reg Reg.segLen = (if s.hasPos then len else 256) ∧
      (s.beaconTold pos seg term pre ring len).reg Reg.segment = seg ∧ (s.beaconTold pos seg term pre ring len).reg Reg.prefixR = pre ∧
      (s.beaconTold pos seg term pre ring len).reg Reg.ringState = ring := by
  have nodup : ([(Reg.headPos, pos), (Reg.headTerm, term), (Reg.segLen, if s.hasPos then len else 256)].map Prod.fst).Nodup := by
    show [Reg.headPos, Reg.headTerm, Reg.segLen].Nodup
    decide
  have told : Keeps [Reg.headPos, Reg.headTerm, Reg.segLen] s
      (s.setRegs [(Reg.headPos, pos), (Reg.headTerm, term), (Reg.segLen, if s.hasPos then len else 256)]) :=
    (Keeps.refl ok).setRegs (by simp)
  have headPos := reg_setRegs ok nodup (k := Reg.headPos) (v := pos) (by simp)
  have headTerm := reg_setRegs ok nodup (k := Reg.headTerm) (v := term) (by simp)
  have segLen := reg_setRegs ok nodup (k := Reg.segLen) (v := if s.hasPos then len else 256) (by simp)
  unfold State.beaconTold
  generalize s.setRegs [(Reg.headPos, pos), (Reg.headTerm, term), (Reg.segLen, if s.hasPos then len else 256)] = v at told headPos headTerm segLen ⊢
  have segment := keeps_takeSegment told.stores seg pre
  obtain ⟨isSeg, isPre⟩ := reg_takeSegment told.stores seg pre
  have ringed := keeps_setRing segment.stores ring
  have isRing := reg_setRing segment.stores ring
  have later : Keeps [Reg.segment, Reg.prefixR, Reg.ringState] v ((v.takeSegment seg pre).setRing ring) :=
    (segment.mono (by simp)).trans (ringed.mono (by simp))
  exact ⟨(told.mono (by simp)).trans (later.mono (by simp)), (later.reg (by decide)).trans headPos, (later.reg (by decide)).trans headTerm,
    (later.reg (by decide)).trans segLen, (ringed.reg (by decide)).trans isSeg, (ringed.reg (by decide)).trans isPre, isRing⟩

theorem State.beaconTold_rope (s : State) (pos seg term pre ring len : Nat) : (s.beaconTold pos seg term pre ring len).rope =
    { s.rope with bothWays := (s.beaconTold pos seg term pre ring len).rope.bothWays
                  wantRun := (s.beaconTold pos seg term pre ring len).rope.wantRun } := by
  unfold State.beaconTold
  rw [State.setRing_eq, State.takeSegment_eq, State.setRegs_eq]

/-! ### Silence, bids and resignations (R322) -/

/-- A unit that takes up the role of a bidder, bidding from now on. -/
def State.bidding (s : State) : State := { s.setRole 2 with rope := { (s.setRole 2).rope with bidFrom := some (s.setRole 2).clock.cclk } }

theorem State.startBid_eq (s : State) : s.startBid = if s.reg Reg.headRole = 1 then s.bidding else s := rfl

theorem keeps_startBid (ok : s.storesOk) : Keeps [Reg.headRole] s s.startBid ∧
    s.startBid.reg Reg.headRole = (if s.reg Reg.headRole = 1 then 2 else s.reg Reg.headRole) := by
  rw [State.startBid_eq]
  have role := keeps_setRole ok 2
  split
  · exact ⟨⟨role.stores, role.regs⟩, reg_setRole ok 2⟩
  · exact ⟨.refl ok, rfl⟩

theorem headKept_startBid (s : State) : HeadKept s s.startBid := by
  rw [State.startBid_eq]
  split
  · exact (headKept_setRole s 2).trans ⟨rfl, rfl, rfl, id, rfl, rfl, rfl⟩
  · exact .refl s

theorem State.beaconSilence_eq (on : s.ropeOn = true) (role : s.reg Reg.headRole ≠ 3) : s.beaconSilence =
    (State.setRing (s.reachCclk (max (s.rope.beaconAt.getD 0) s.rope.quietFrom + ms 3)) s.ringOwn).startBid := by
  unfold State.beaconSilence
  rw [if_pos (by simp [on, role])]
  rfl

theorem State.headBid_eq (on : s.ropeOn = true) (other : mac ≠ s.mac) : s.headBid mac prio key term =
    if s.reg Reg.headRole = 2 ∧ s.lowerKey prio key mac then (s.heard mac term).setRole 1 else s.heard mac term := by
  unfold State.headBid
  exact if_neg (by simp [on, other])

theorem State.headResign_eq (on : s.ropeOn = true) (other : mac ≠ s.mac) : s.headResign mac term =
    ({ s with rope := { s.rope with termHeard := max s.rope.termHeard term, beaconAt := none } } : State).startBid := by
  unfold State.headResign
  exact if_neg (by simp [on, other])

/-! ### The end of the bidding (R322, R328) -/

/-- A new head's term and position, its segment and its own beacon's key. -/
def State.crowned (s : State) : State :=
  let s := (s.incReg Reg.takeovers).setRegs [(Reg.headTerm, (s.rope.termHeard + 1) % two32), (Reg.headPos, s.reg Reg.position)]
  let s := s.takeSegment (s.reg Reg.segmentCfg) (s.reg Reg.prefixCfg)
  { s with rope := { s.rope with termHeard := s.rope.termHeard + 1, headMac := s.mac, headPrio := s.reg Reg.headPrio, wantRun := true } }

theorem State.biddingDone_eq (bid : s.rope.bidFrom = some c) (on : s.ropeOn = true) (role : s.reg Reg.headRole = 2) :
    s.biddingDone = ((s.reachCclk (c + ms 1)).setRole 3).crowned.setRing ((s.reachCclk (c + ms 1)).setRole 3).crowned.ringOf := by
  unfold State.biddingDone
  rw [bid]
  exact if_pos (by simp [on, role])

theorem crowned_spec (ok : s.storesOk) :
    Keeps [Reg.takeovers, Reg.headTerm, Reg.headPos, Reg.segment, Reg.prefixR] s s.crowned ∧
      s.crowned.reg Reg.takeovers = min (s.reg Reg.takeovers + 1) (two32 - 1) ∧ s.crowned.reg Reg.headTerm = (s.rope.termHeard + 1) % two32 ∧
      s.crowned.reg Reg.headPos = s.reg Reg.position ∧ s.crowned.reg Reg.segment = s.reg Reg.segmentCfg := by
  have counted : Keeps [Reg.takeovers] s (s.incReg Reg.takeovers) := (Keeps.refl ok).setReg (List.mem_singleton_self _) _
  have takeovers := reg_incReg ok Reg.takeovers
  unfold State.crowned
  dsimp only
  generalize s.incReg Reg.takeovers = v at counted takeovers ⊢
  have nodup : ([(Reg.headTerm, (s.rope.termHeard + 1) % two32), (Reg.headPos, s.reg Reg.position)].map Prod.fst).Nodup := by
    show [Reg.headTerm, Reg.headPos].Nodup
    decide
  have told : Keeps [Reg.headTerm, Reg.headPos] v (v.setRegs [(Reg.headTerm, (s.rope.termHeard + 1) % two32), (Reg.headPos, s.reg Reg.position)]) :=
    (Keeps.refl counted.stores).setRegs (by simp)
  have headTerm := reg_setRegs counted.stores nodup (k := Reg.headTerm) (v := (s.rope.termHeard + 1) % two32) (by simp)
  have headPos := reg_setRegs counted.stores nodup (k := Reg.headPos) (v := s.reg Reg.position) (by simp)
  generalize v.setRegs [(Reg.headTerm, (s.rope.termHeard + 1) % two32), (Reg.headPos, s.reg Reg.position)] = w at told headTerm headPos ⊢
  have cfg : w.reg Reg.segmentCfg = s.reg Reg.segmentCfg := (told.reg (by decide)).trans (counted.reg (by decide))
  have segment := keeps_takeSegment told.stores (w.reg Reg.segmentCfg) (w.reg Reg.prefixCfg)
  have isSeg := (reg_takeSegment told.stores (w.reg Reg.segmentCfg) (w.reg Reg.prefixCfg)).1
  generalize w.takeSegment (w.reg Reg.segmentCfg) (w.reg Reg.prefixCfg) = x at segment isSeg ⊢
  have all := ((counted.mono (by simp)).trans (told.mono (by simp))).trans
    (segment.mono (js := [Reg.takeovers, Reg.headTerm, Reg.headPos, Reg.segment, Reg.prefixR]) (by simp))
  exact ⟨⟨all.stores, all.regs⟩, (segment.reg (by decide)).trans ((told.reg (by decide)).trans takeovers),
    (segment.reg (by decide)).trans headTerm, (segment.reg (by decide)).trans headPos, isSeg.trans cfg⟩

theorem State.crowned_eq (s : State) : s.crowned = { s with regs := s.crowned.regs, cairn := s.crowned.cairn, host := s.crowned.host
                                                            rope := s.crowned.rope } := by
  unfold State.crowned
  dsimp only
  rw [State.takeSegment_eq, State.setRegs_eq]
  rfl

theorem State.crowned_rope (s : State) : s.crowned.rope.headMac = s.mac ∧ s.crowned.rope.wantRun = true := by
  unfold State.crowned
  dsimp only
  rw [State.takeSegment_eq, State.setRegs_eq]
  exact ⟨rfl, rfl⟩

/-! ### A head whose TRAIL is down (R322) -/

theorem State.trailResign_idle (h : s.rope.trailDown = none ∨ s.ropeOn = false ∨ s.reg Reg.headRole ≠ 3) : s.trailResign = s := by
  unfold State.trailResign
  split
  · next c down => exact if_neg (by rcases h with h | h | h <;> simp_all)
  · rfl

/-- The head has resigned twice, 100 µs apart. -/
def State.resigned (s : State) : State :=
  ((s.sendSeg 0x04 (beBytes 6 s.mac ++ beBytes 4 (s.reg Reg.headTerm))).pass 100000).sendSeg 0x04 (beBytes 6 s.mac ++ beBytes 4 (s.reg Reg.headTerm))

theorem State.trailResign_eq (down : s.rope.trailDown = some c) (on : s.ropeOn = true) (role : s.reg Reg.headRole = 3)
    (other : ((s.reachCclk (c + ms 1)).rope.others.any fun o => decide ((s.reachCclk (c + ms 1)).clock.cclk ≤ o.2 + ms 10000)) = true) :
    s.trailResign = ((s.reachCclk (c + ms 1)).resigned.setRole 1).roleUpdate := by
  unfold State.trailResign
  rw [down]
  dsimp only
  rw [if_pos (by simp [on, role]), if_pos other]
  rfl

theorem resigned_spec (ok : s.storesOk) : Keeps txKeys s s.resigned ∧
    s.resigned = { s with ports := s.resigned.ports, regs := s.resigned.regs, sent := s.resigned.sent, rope := s.resigned.rope
                          clock := clockAdvance 100000 s.clock } := by
  unfold State.resigned
  generalize beBytes 6 s.mac ++ beBytes 4 (s.reg Reg.headTerm) = b
  have first := FramesSent.sendSeg s 0x04 b
  generalize s.sendSeg 0x04 b = v at first ⊢
  have second := FramesSent.sendSeg (v.pass 100000) 0x04 b
  generalize (v.pass 100000).sendSeg 0x04 b = w at second ⊢
  have passed : Keeps txKeys v (v.pass 100000) := ⟨(first.keeps ok).stores, .of_regs rfl⟩
  refine ⟨((first.keeps ok).trans passed).trans (second.keeps passed.stores), ?_⟩
  rw [second.frame, first.frame]
  rfl

theorem eligible_congr (pins : t.pins = s.pins) (link : t.reg (Reg.portLinkState 2) = s.reg (Reg.portLinkState 2))
    (enable : t.reg (Reg.portEnable 2) = s.reg (Reg.portEnable 2)) : t.eligible = s.eligible := by
  unfold State.eligible State.portUp State.flag
  rw [pins, link, enable]

end

end Sys2Proof.Machine

/-! PROOFS. The election of the rope's head, clause by clause (R321, R322, R327, R328). -/

namespace Sys2Proof.Machine

/-- A beacon that a unit without one accepts (R321, R323). -/
theorem exec_headBeacon_accepted {mac pos seg term pre mode ring len prio : Nat} {s : State} (ok : s.storesOk) (on : s.ropeOn = true)
    (other : mac ≠ s.mac) (role : s.reg Reg.headRole ≠ 3) (quiet : s.noBeacon = true) :
    ∃ t, exec (.headBeacon mac pos seg term pre mode ring len prio) s = .next t ∧
      t.reg Reg.headPos = pos ∧ t.reg Reg.headTerm = term ∧ t.reg Reg.segment = seg ∧ t.reg Reg.prefixR = pre ∧
      t.reg Reg.ringState = ring ∧ t.reg Reg.segLen = (if s.hasPos then len else 256) ∧
      (s.reg Reg.headRole < 2 → t.reg Reg.headRole = s.reg Reg.headRole) ∧
      t.rope.headMac = mac ∧ t.rope.headPrio = prio ∧ t.rope.modeDue = some mode ∧ t.rope.beaconAt = some s.clock.cclk := by
  have run := State.headBeacon_accepted (pos := pos) (seg := seg) (term := term) (pre := pre) (mode := mode) (ring := ring) (len := len) (prio := prio) on other role quiet
  have heard : Keeps [Reg.headRole] s (s.heard mac term) := ⟨ok, .of_regs rfl⟩
  obtain ⟨kept, yielded, standby⟩ := yielding_spec heard.stores
  have first := heard.trans yielded
  have clock : (s.heard mac term).yielding.clock = s.clock := by rw [kept.frame]; rfl
  have role' : s.reg Reg.headRole < 2 → (s.heard mac term).yielding.reg Reg.headRole = s.reg Reg.headRole := standby
  generalize (s.heard mac term).yielding = v at run first clock role'
  have hasPos : (v.following mac prio mode).hasPos = s.hasPos := by
    show decide (2 ≤ v.reg Reg.addrState) = _
    rw [first.reg (by decide)]
    rfl
  obtain ⟨told, headPos, headTerm, segLen, segment, prefix_, ringState⟩ :=
    beaconTold_spec (s := v.following mac prio mode) first.stores pos seg term pre ring len
  have rope := (v.following mac prio mode).beaconTold_rope pos seg term pre ring len
  generalize (v.following mac prio mode).beaconTold pos seg term pre ring len = t at run told headPos headTerm segLen segment prefix_ ringState rope
  rw [hasPos] at segLen
  have last : s.reg Reg.headRole < 2 → t.reg Reg.headRole = s.reg Reg.headRole := fun h => (told.reg (by decide)).trans (role' h)
  have headMac : t.rope.headMac = mac := by rw [rope]; rfl
  have headPrio : t.rope.headPrio = prio := by rw [rope]; rfl
  have modeDue : t.rope.modeDue = some mode := by rw [rope]; rfl
  have beaconAt : t.rope.beaconAt = some s.clock.cclk := by rw [rope]; exact congrArg (fun x : ClockSt => some x.cclk) clock
  exact ⟨_, congrArg s.done run, headPos, headTerm, segment, prefix_, ringState, segLen, last, headMac, headPrio, modeDue, beaconAt⟩

/-- Silence at a unit that is not the active head: a standby head bids (R320, R322). -/
theorem exec_beaconSilence {s : State} (ok : s.storesOk) (on : s.ropeOn = true) (role : s.reg Reg.headRole ≠ 3) :
    ∃ t, exec .beaconSilence s = .next t ∧
      t.clock = clockAdvance (max (s.rope.beaconAt.getD 0) s.rope.quietFrom + ms 3 - s.clock.cclk) s.clock ∧
      t.reg Reg.ringState = s.ringOwn ∧ t.reg Reg.headRole = (if s.reg Reg.headRole = 1 then 2 else s.reg Reg.headRole) ∧
      (s.reg Reg.headRole = 1 → t.rope.bidFrom = some t.clock.cclk) ∧ RegsKept [Reg.ringState, Reg.headRole] s t := by
  have run := State.beaconSilence_eq on role
  have ringed := keeps_setRing (s := s.reachCclk (max (s.rope.beaconAt.getD 0) s.rope.quietFrom + ms 3)) ok s.ringOwn
  have ringState := reg_setRing (s := s.reachCclk (max (s.rope.beaconAt.getD 0) s.rope.quietFrom + ms 3)) ok s.ringOwn
  have clock : ((s.reachCclk (max (s.rope.beaconAt.getD 0) s.rope.quietFrom + ms 3)).setRing s.ringOwn).clock =
    (s.reachCclk (max (s.rope.beaconAt.getD 0) s.rope.quietFrom + ms 3)).clock := by rw [State.setRing_eq]
  generalize (s.reachCclk (max (s.rope.beaconAt.getD 0) s.rope.quietFrom + ms 3)).setRing s.ringOwn = v at run ringed ringState clock
  have kept := headKept_startBid v
  obtain ⟨regs, role'⟩ := keeps_startBid ringed.stores
  have bid : v.reg Reg.headRole = 1 → v.startBid.rope.bidFrom = some v.startBid.clock.cclk := fun h => by
    rw [State.startBid_eq, if_pos h]
    rfl
  have same : v.reg Reg.headRole = s.reg Reg.headRole := ringed.reg (by decide)
  rw [same] at role' bid
  have time : v.startBid.clock = v.clock := by rw [kept.frame]
  generalize v.startBid = t at run regs role' bid time
  exact ⟨_, congrArg s.done run, time.trans clock, (regs.reg (by decide)).trans ringState, role', bid,
    (ringed.mono (by simp)).regs.trans (regs.mono (by simp)).regs⟩

/-- The end of the bidding makes the unit active head (R322, R328). -/
theorem exec_biddingDone {c : Nat} {s : State} (ok : s.storesOk) (bid : s.rope.bidFrom = some c) (on : s.ropeOn = true)
    (role : s.reg Reg.headRole = 2) : ∃ t, exec .biddingDone s = .next t ∧ t.reg Reg.headRole = 3 ∧
      t.reg Reg.takeovers = min (s.reg Reg.takeovers + 1) (two32 - 1) ∧ t.reg Reg.headTerm = (s.rope.termHeard + 1) % two32 ∧
      t.reg Reg.headPos = s.reg Reg.position ∧ t.rope.headMac = s.mac ∧ t.rope.wantRun = true ∧ t.reg Reg.segment = s.reg Reg.segmentCfg ∧
      t.clock = clockAdvance (c + ms 1 - s.clock.cclk) s.clock ∧ t.mode = s.mode := by
  have run := State.biddingDone_eq bid on role
  have head := keeps_setRole (s := s.reachCclk (c + ms 1)) ok 3
  have isHead := reg_setRole (s := s.reachCclk (c + ms 1)) ok 3
  have kept := headKept_setRole (s.reachCclk (c + ms 1)) 3
  have clock : ((s.reachCclk (c + ms 1)).setRole 3).clock = (s.reachCclk (c + ms 1)).clock := by rw [kept.frame]
  have mode : ((s.reachCclk (c + ms 1)).setRole 3).mode = s.mode := by rw [kept.frame]; rfl
  have mac : ((s.reachCclk (c + ms 1)).setRole 3).mac = s.mac := by unfold State.mac; rw [kept.frame]; rfl
  have termHeard := kept.termHeard
  have same (k : Nat) (hk : k ∉ [Reg.headRole]) : ((s.reachCclk (c + ms 1)).setRole 3).reg k = s.reg k := head.reg hk
  generalize (s.reachCclk (c + ms 1)).setRole 3 = v at run head isHead clock mode mac termHeard same
  obtain ⟨crowned, takeovers, headTerm, headPos, segment⟩ := crowned_spec head.stores
  obtain ⟨isMac, wants⟩ := v.crowned_rope
  have frame := v.crowned_eq
  generalize v.crowned = w at run crowned takeovers headTerm headPos segment isMac wants frame
  have ringed := keeps_setRing crowned.stores w.ringOf
  have wants' := State.setRing_wantRun wants w.ringOf
  have frame' := w.setRing_eq w.ringOf
  generalize w.setRing w.ringOf = t at run ringed wants' frame'
  have time : t.clock = v.clock := by rw [frame', frame]
  have mode' : t.mode = v.mode := by rw [frame', frame]
  have headMac : t.rope.headMac = w.rope.headMac := by rw [frame']
  rw [same _ (by decide)] at takeovers headPos segment
  rw [termHeard] at headTerm
  exact ⟨_, congrArg s.done run, (ringed.reg (by decide)).trans ((crowned.reg (by decide)).trans isHead), (ringed.reg (by decide)).trans takeovers,
    (ringed.reg (by decide)).trans headTerm, (ringed.reg (by decide)).trans headPos, headMac.trans (isMac.trans mac), wants',
    (ringed.reg (by decide)).trans segment, time.trans clock, mode'.trans mode⟩

/-- An active head whose TRAIL has been down for 1 ms resigns when another may follow it (R322). -/
theorem exec_trailDownResign {c : Nat} {s : State} (ok : s.storesOk) (down : s.rope.trailDown = some c) (on : s.ropeOn = true)
    (role : s.reg Reg.headRole = 3) (heard : (s.rope.others.any fun o => decide (max s.clock.cclk (c + ms 1) ≤ o.2 + ms 10000)) = true) :
    ∃ t, exec .trailDownResign s = .next t ∧ t.reg Reg.headRole = (if s.eligible then 1 else 0) ∧
      t.clock = clockAdvance 100000 (clockAdvance (c + ms 1 - s.clock.cclk) s.clock) ∧ t.mode = s.mode := by
  have time : (s.reachCclk (c + ms 1)).clock.cclk = max s.clock.cclk (c + ms 1) := by
    show s.clock.cclk + (c + ms 1 - s.clock.cclk) = _
    omega
  have run := State.trailResign_eq down on role (by rw [time]; exact heard)
  obtain ⟨sent, frame⟩ := resigned_spec (s := s.reachCclk (c + ms 1)) ok
  have clock : (s.reachCclk (c + ms 1)).resigned.clock = clockAdvance 100000 (s.reachCclk (c + ms 1)).clock := by rw [frame]
  have mode : (s.reachCclk (c + ms 1)).resigned.mode = s.mode := by rw [frame]; rfl
  have pins : (s.reachCclk (c + ms 1)).resigned.pins = s.pins := by rw [frame]; rfl
  have same (k : Nat) (hk : k ∉ txKeys) : (s.reachCclk (c + ms 1)).resigned.reg k = s.reg k := sent.reg hk
  generalize (s.reachCclk (c + ms 1)).resigned = v at run sent clock mode pins same
  have standby := keeps_setRole sent.stores 1
  have kept := headKept_setRole v 1
  have eligible : (v.setRole 1).eligible = s.eligible := by
    refine eligible_congr ?_ ((standby.reg (by decide)).trans (same _ (by decide))) ((standby.reg (by decide)).trans (same _ (by decide)))
    rw [kept.frame]
    exact pins
  obtain ⟨kept', -, role'⟩ := roleUpdate_of_standby standby.stores (reg_setRole sent.stores 1)
  rw [eligible] at role'
  have clock' : (v.setRole 1).roleUpdate.clock = v.clock := by rw [kept'.frame, kept.frame]
  have mode' : (v.setRole 1).roleUpdate.mode = v.mode := by rw [kept'.frame, kept.frame]
  generalize (v.setRole 1).roleUpdate = t at run role' clock' mode'
  exact ⟨_, congrArg s.done run, role', clock'.trans clock, mode'.trans mode⟩

/-- Settles O52: each clause is a branch of its operation, read off its equation (`State.headBeacon_eq`, `State.headBid_eq` and the like); a
message to the segment leaves both ports (`sendSeg_last`). -/
theorem headElection : Obligations.HeadElection := by
  refine ⟨fun s on role => ?_, fun s idle => ?_, fun mac pos seg term pre mode ring len prio s idle => ?_,
    fun mac pos seg term pre mode ring len prio s ok on other role quiet => ?_,
    fun mac pos seg term pre mode ring len prio s on other role stale => ?_, fun s idle => ?_, fun s ok on role => ?_,
    fun s on role dup sends => ?_, fun s idle => ?_, fun mac prio key term s ok on other => ?_, fun c s ok bid on role => ?_, fun s idle => ?_,
    fun mac term s ok on other => ?_, fun s idle => ?_, fun c s ok down on role heard => ?_, fun s on roping unplaced dup sends => ?_,
    fun s idle => ?_, fun mac s on role => ?_, fun mac s idle => ?_⟩
  · have run : s.beaconSend = _ := if_pos (by simp [on, role])
    dsimp only at run
    have sent := FramesSent.sendRope s 1 0 0 0 (ropeMsg 0x02 (beBytes 6 s.mac ++ beBytes 1 (s.reg Reg.position) ++ beBytes 1 (s.reg Reg.segment) ++
      beBytes 4 (s.reg Reg.headTerm) ++ beBytes 2 (s.reg Reg.prefixR) ++ beBytes 1 s.ownRopeMode ++ beBytes 1 (s.reg Reg.ringState) ++
      beBytes 2 (s.reg Reg.segLen) ++ beBytes 1 (s.reg Reg.headPrio) ++ beBytes 1 0)) true
    generalize s.sendRope 1 0 0 0 _ true = v at run sent
    have clock := sent.clock_eq
    refine ⟨_, congrArg s.done run, rfl, congrArg (fun x : ClockSt => some x.cclk) clock, ?_⟩
    show ({ v with rope := _, pending := s.pending } : State) = _
    rw [sent.frame]
    rfl
  · exact congrArg s.done (show s.beaconSend = s from if_neg (by rcases idle with h | h <;> simp [h]))
  · exact congrArg s.done (show s.headBeacon mac pos seg term pre mode ring len prio = s from if_pos (by rcases idle with h | h <;> simp [h]))
  · exact exec_headBeacon_accepted ok on other role quiet
  · exact ⟨_, congrArg s.done (State.headBeacon_stale on other role stale), rfl⟩
  · exact congrArg s.done (show s.beaconSilence = s from if_neg (by rcases idle with h | h <;> simp [h]))
  · exact exec_beaconSilence ok on role
  · have run : s.bidSend = _ := if_pos (by simp [on, role])
    obtain ⟨tag, last⟩ := sendSeg_last (s := s) (ty := 0x03) (b := beBytes 6 s.mac ++ beBytes 1 (s.reg Reg.headPrio) ++ beBytes 1 0 ++ beBytes 2 s.keyPos ++
      beBytes 4 s.rope.termHeard) on dup sends (by simp only [List.length_append, beBytes_length]; decide)
    have sent := FramesSent.sendSeg s 0x03 (beBytes 6 s.mac ++ beBytes 1 (s.reg Reg.headPrio) ++ beBytes 1 0 ++ beBytes 2 s.keyPos ++
      beBytes 4 s.rope.termHeard)
    generalize s.sendSeg 0x03 _ = t at run last sent
    exact ⟨t, tag, (congrArg s.done run).trans (State.done_of_pending sent.pending_eq), last, sent.frame⟩
  · exact congrArg s.done (show s.bidSend = s from if_neg (by rcases idle with h | h <;> simp [h]))
  · have run := State.headBid_eq (prio := prio) (key := key) (term := term) on other
    have heard : Keeps [Reg.headRole] s (s.heard mac term) := ⟨ok, .of_regs rfl⟩
    split at run
    · next loses =>
      have role := keeps_setRole heard.stores 1
      have standby := reg_setRole heard.stores 1
      have kept := headKept_setRole (s.heard mac term) 1
      generalize (s.heard mac term).setRole 1 = t at run role standby kept
      exact ⟨t, (congrArg s.done run).trans (State.done_of_pending (by rw [kept.frame]; rfl)), kept.termHeard, by rw [standby, if_pos loses],
        heard.regs.trans role.regs, kept.frame⟩
    · next wins =>
      exact ⟨_, congrArg s.done run, rfl, (if_neg wins).symm, heard.regs, rfl⟩
  · exact exec_biddingDone ok bid on role
  · refine congrArg s.done (show s.biddingDone = s from ?_)
    unfold State.biddingDone
    split
    · next h => exact if_neg (by rcases idle with g | g | g <;> simp_all)
    · rfl
  · have run := State.headResign_eq (term := term) on other
    obtain ⟨-, role⟩ := keeps_startBid (s := { s with rope := { s.rope with termHeard := max s.rope.termHeard term, beaconAt := none } }) ok
    have kept := headKept_startBid ({ s with rope := { s.rope with termHeard := max s.rope.termHeard term, beaconAt := none } } : State)
    generalize ({ s with rope := { s.rope with termHeard := max s.rope.termHeard term, beaconAt := none } } : State).startBid = t at run role kept
    exact ⟨t, (congrArg s.done run).trans (State.done_of_pending (by rw [kept.frame])), kept.beaconAt, kept.termHeard, role, kept.frame⟩
  · exact congrArg s.done (State.trailResign_idle idle)
  · exact exec_trailDownResign ok down on role heard
  · have run : s.joinSend = _ := if_pos (by simp [on, roping, unplaced])
    obtain ⟨tag, last⟩ := sendSeg_last (s := s) (ty := 0x05) (b := beBytes 6 s.mac) on dup sends (by rw [beBytes_length]; decide)
    have sent := FramesSent.sendSeg s 0x05 (beBytes 6 s.mac)
    generalize s.sendSeg 0x05 (beBytes 6 s.mac) = t at run last sent
    exact ⟨t, tag, (congrArg s.done run).trans (State.done_of_pending sent.pending_eq), last, sent.frame⟩
  · exact congrArg s.done (show s.joinSend = s from if_neg (by rcases idle with h | h | h <;> simp [h]))
  · exact congrArg s.done (show s.joinReq = _ from if_pos (by simp [on, role]))
  · exact congrArg s.done (show s.joinReq = s from if_neg (by rcases idle with h | h <;> simp [h]))

end Sys2Proof.Machine


/-! SUPPORT. The DARK latch through branches, folds and the writes to the stores. The rule of each operation stands below,
in the order in which one calls the other. -/

namespace Sys2Proof.Machine

/-! ### How the latch reads through branches and folds -/

@[simp] theorem belay_ite (c : Prop) [Decidable c] (a b : State) :
    (if c then a else b).belay = if c then a.belay else b.belay := apply_ite _ _ _ _

@[simp] theorem latchDark_ite (c : Prop) [Decidable c] (a b : BelaySt) :
    (if c then a else b).latchDark = if c then a.latchDark else b.latchDark := apply_ite _ _ _ _

@[simp] theorem snd_ite {α β : Type} (c : Prop) [Decidable c] (a b : α × β) :
    (if c then a else b).2 = if c then a.2 else b.2 := apply_ite _ _ _ _

@[simp] theorem foldl_latchDark {α : Type} (f : State → α → State) (l : List α) (s : State)
    (h : ∀ t x, (f t x).belay.latchDark = t.belay.latchDark) : (l.foldl f s).belay.latchDark = s.belay.latchDark := by
  induction l generalizing s with
  | nil => rfl
  | cons x r ih => exact (ih _).trans (h _ _)

@[simp] theorem foldlSnd_latchDark {α β : Type} (f : β × State → α → β × State) (l : List α) (p : β × State)
    (h : ∀ q x, (f q x).2.belay.latchDark = q.2.belay.latchDark) :
    (l.foldl f p).2.belay.latchDark = p.2.belay.latchDark := by
  induction l generalizing p with
  | nil => rfl
  | cons x r ih => exact (ih _).trans (h _ _)
/-- What stands in the firebox is no part of the belay's state. -/
theorem belay_fbx (s : State) (f : FbxSt) : ({ s with fbx := f } : State).belay = s.belay := rfl

/-- What a pair holds, read off an equation. -/
theorem latchDark_of_pair {α : Type} {p : α × State} {a : α} {t : State} (h : p = (a, t)) :
    t.belay.latchDark = p.2.belay.latchDark := by
  rw [h]

/-! ### The primitives -/

@[simp] theorem State.flashErase_latchDark (s : State) (a n : Nat) :
    (s.flashErase a n).belay.latchDark = s.belay.latchDark := rfl

@[simp] theorem State.flashProgram_latchDark (s : State) (a : Nat) (bs : Bytes) :
    (s.flashProgram a bs).belay.latchDark = s.belay.latchDark := rfl

@[simp] theorem State.ramWrite_latchDark (s : State) (dram : Bool) (a : Nat) (bs : Bytes) :
    (s.ramWrite dram a bs).belay.latchDark = s.belay.latchDark := by
  cases dram <;> rfl

@[simp] theorem State.lutTables_latchDark (s : State) (sec : Bytes) :
    (s.lutTables sec).belay.latchDark = s.belay.latchDark := by
  simp [State.lutTables]

@[simp] theorem State.poisonAt_latchDark (s : State) (dram : Bool) (a : Nat) :
    (s.poisonAt dram a).belay.latchDark = s.belay.latchDark := by
  simp [State.poisonAt]

/-- RESET_N low (`byPin`) is the one thing that lets go of the latch; every other entry to RESET keeps it. -/
@[simp] theorem State.cleared_latchDark (s : State) (byPin ret : Bool) :
    (s.cleared byPin ret).belay.latchDark = (!byPin && s.belay.latchDark) := by
  cases byPin <;> rfl

end Sys2Proof.Machine


/-! SUPPORT. No operation but `State.setDarkLatch` sets the DARK latch, and only RESET_N low lets go of it: one rule for each
operation, in the order in which one calls the other. -/

namespace Sys2Proof.Machine

@[simp] theorem State.heardOther_latchDark (s : State) (mac : Nat) :
    (s.heardOther mac).belay.latchDark = s.belay.latchDark := by
  simp [State.heardOther]

@[simp] theorem State.faultAck_latchDark (s : State) : s.faultAck.belay.latchDark = s.belay.latchDark := by
  simp [State.faultAck]

@[simp] theorem workHdr_latchDark (t : Task) (s : State) : (workHdr t s).2.belay.latchDark = s.belay.latchDark := by
  simp [workHdr]

@[simp] theorem State.commitCmd_latchDark (s : State) : s.commitCmd.belay.latchDark = s.belay.latchDark := by
  simp [State.commitCmd]

@[simp] theorem State.setCb_latchDark (s : State) (c : Nat) (x : Carab) :
    (s.setCb c x).belay.latchDark = s.belay.latchDark := by
  simp [State.setCb]

@[simp] theorem State.stageWrite_latchDark (s : State) (k v : Nat) :
    (s.stageWrite k v).belay.latchDark = s.belay.latchDark := by
  simp [State.stageWrite]

@[simp] theorem State.setXfer_latchDark (s : State) (t : Transfer) :
    (s.setXfer t).belay.latchDark = s.belay.latchDark := by
  simp [State.setXfer]

@[simp] theorem State.scrubPass_latchDark (s : State) (dram : Bool) :
    (s.scrubPass dram).belay.latchDark = s.belay.latchDark := by
  simp [State.scrubPass]

@[simp] theorem State.setActive_latchDark (s : State) (c : Nat) :
    (s.setActive c).belay.latchDark = s.belay.latchDark := by
  simp [State.setActive]

@[simp] theorem State.timedCancel_latchDark (s : State) : s.timedCancel.belay.latchDark = s.belay.latchDark := by
  simp [State.timedCancel]

@[simp] theorem State.giveTask_latchDark (s : State) (id : Nat) (x : Bytes) :
    (s.giveTask id x).belay.latchDark = s.belay.latchDark := by
  simp [State.giveTask]

@[simp] theorem State.setPulse_latchDark (s : State) (k : Nat) (x : PulseSt) :
    (s.setPulse k x).belay.latchDark = s.belay.latchDark := by
  simp [State.setPulse]

@[simp] theorem State.opDomRead_latchDark (s : State) (o : Origin) (h block off count room : Nat) :
    (s.opDomRead o h block off count room).2.belay.latchDark = s.belay.latchDark := by
  unfold State.opDomRead
  split <;> simp

@[simp] theorem State.setWin_latchDark (s : State) (w : Nat) (x : WinSt) :
    (s.setWin w x).belay.latchDark = s.belay.latchDark := by
  simp [State.setWin]

@[simp] theorem State.bootAgain_latchDark (s : State) : s.bootAgain.belay.latchDark = s.belay.latchDark := by
  simp [State.bootAgain]

@[simp] theorem State.holdSwitch_latchDark (s : State) : s.holdSwitch.belay.latchDark = s.belay.latchDark := by
  simp [State.holdSwitch]

@[simp] theorem State.setLayer_latchDark (s : State) (k : Nat) (x : LayerSt) :
    (s.setLayer k x).belay.latchDark = s.belay.latchDark := by
  simp [State.setLayer]

@[simp] theorem State.liveWrite_latchDark (s : State) (k v : Nat) :
    (s.liveWrite k v).belay.latchDark = s.belay.latchDark := by
  simp [State.liveWrite]

@[simp] theorem State.bandNote_latchDark (s : State) (m : Sensors) :
    (s.bandNote m).belay.latchDark = s.belay.latchDark := by
  simp [State.bandNote]

@[simp] theorem State.setEngine_latchDark (s : State) (e : Nat) (x : Engine) :
    (s.setEngine e x).belay.latchDark = s.belay.latchDark := by
  simp [State.setEngine]

@[simp] theorem State.lclBegin_latchDark (s : State) (keyEn : Bool) :
    (s.lclBegin keyEn).belay.latchDark = s.belay.latchDark := by
  simp [State.lclBegin]

@[simp] theorem State.markPreempted_latchDark (s : State) (x : FaultSlot) :
    (s.markPreempted x).belay.latchDark = s.belay.latchDark := by
  simp [State.markPreempted]

@[simp] theorem State.fireboxCleared_latchDark (s : State) :
    s.fireboxCleared.belay.latchDark = s.belay.latchDark := by
  simp [State.fireboxCleared]

@[simp] theorem State.emberDone_latchDark (s : State) (k : Nat) :
    (s.emberDone k).belay.latchDark = s.belay.latchDark := by
  simp [State.emberDone]

@[simp] theorem workBands_latchDark (t : Task) (s : State) :
    (workBands t s).2.belay.latchDark = s.belay.latchDark := by
  simp only [workBands]
  repeat' split
  all_goals simp

@[simp] theorem State.nextId_latchDark (s : State) (n : Nat) :
    (s.nextId n).2.belay.latchDark = s.belay.latchDark := by
  simp [State.nextId]

@[simp] theorem State.setQueue_latchDark (s : State) (n : Nat) (q : Queue) :
    (s.setQueue n q).belay.latchDark = s.belay.latchDark := by
  simp [State.setQueue]

@[simp] theorem State.acqResult_latchDark (s : State) (o : Origin) (v : Nat) :
    (s.acqResult o v).belay.latchDark = s.belay.latchDark := by
  simp [State.acqResult]

@[simp] theorem State.tickClear_latchDark (s : State) : s.tickClear.belay.latchDark = s.belay.latchDark := by
  simp [State.tickClear]

@[simp] theorem State.streamRewind_latchDark (s : State) (i : Nat) :
    (s.streamRewind i).2.belay.latchDark = s.belay.latchDark := by
  simp [State.streamRewind]

@[simp] theorem State.askBootLoad_latchDark (s : State) : s.askBootLoad.belay.latchDark = s.belay.latchDark := by
  simp [State.askBootLoad]

@[simp] theorem State.flueCopy_latchDark (s : State) (b : Nat) (cut : Bool) :
    (s.flueCopy b cut).belay.latchDark = s.belay.latchDark := by
  simp [State.flueCopy]

@[simp] theorem State.joinReq_latchDark (s : State) : s.joinReq.belay.latchDark = s.belay.latchDark := by
  simp [State.joinReq]

@[simp] theorem State.clearActive_latchDark (s : State) (c : Nat) :
    (s.clearActive c).belay.latchDark = s.belay.latchDark := by
  simp [State.clearActive]

@[simp] theorem State.bmGrant_latchDark (s : State) (arb : Nat) :
    (s.bmGrant arb).belay.latchDark = s.belay.latchDark := by
  simp [State.bmGrant]

@[simp] theorem State.setRdm_latchDark (s : State) (n : Nat) (x : RdmSt) :
    (s.setRdm n x).belay.latchDark = s.belay.latchDark := by
  simp [State.setRdm]

@[simp] theorem State.restartMeasuring_latchDark (s : State) :
    s.restartMeasuring.belay.latchDark = s.belay.latchDark := by
  simp [State.restartMeasuring]

@[simp] theorem cmdFail_latchDark (c : Nat) (s : State) : (cmdFail c s).2.2.belay.latchDark = s.belay.latchDark := by
  simp [cmdFail]

@[simp] theorem State.bootStart_latchDark (s : State) (sel : Nat) :
    (s.bootStart sel).belay.latchDark = s.belay.latchDark := by
  simp [State.bootStart]

@[simp] theorem State.setUni_latchDark (s : State) (i : Nat) (x : UniSt) :
    (s.setUni i x).belay.latchDark = s.belay.latchDark := by
  simp [State.setUni]

@[simp] theorem State.armBreak_latchDark (s : State) : s.armBreak.belay.latchDark = s.belay.latchDark := by
  simp [State.armBreak]

@[simp] theorem State.pulseStep_latchDark (s : State) (k old : Nat) :
    (s.pulseStep k old).belay.latchDark = s.belay.latchDark := by
  simp [State.pulseStep]

@[simp] theorem State.setPdelay_latchDark (s : State) (port : Nat) (x : PdelaySt) :
    (s.setPdelay port x).belay.latchDark = s.belay.latchDark := by
  simp [State.setPdelay]

@[simp] theorem State.fillLatch_latchDark (s : State) (r : FaultRec) :
    (s.fillLatch r).belay.latchDark = s.belay.latchDark := by
  simp [State.fillLatch]

@[simp] theorem State.nextMsg_latchDark (s : State) (id : Nat) :
    (s.nextMsg id).belay.latchDark = s.belay.latchDark := by
  simp [State.nextMsg]

@[simp] theorem State.ingestAudio_latchDark (x : Bytes) (s : State) :
    (State.ingestAudio x s).belay.latchDark = s.belay.latchDark := by
  simp only [State.ingestAudio]
  repeat' split
  all_goals simp

@[simp] theorem State.announceAddr_latchDark (s : State) : s.announceAddr.belay.latchDark = s.belay.latchDark := by
  simp [State.announceAddr]

@[simp] theorem State.setLamp_latchDark (s : State) (l st : Nat) :
    (s.setLamp l st).belay.latchDark = s.belay.latchDark := by
  simp [State.setLamp]

@[simp] theorem State.touch_latchDark (s : State) (o : Origin) : (s.touch o).belay.latchDark = s.belay.latchDark := by
  unfold State.touch
  split <;> simp

@[simp] theorem State.wantHoldover_latchDark (s : State) (cause : Nat) :
    (s.wantHoldover cause).belay.latchDark = s.belay.latchDark := by
  simp [State.wantHoldover]

@[simp] theorem cmdOk_latchDark (s : State) : (cmdOk s).2.2.belay.latchDark = s.belay.latchDark := by
  simp [cmdOk]

@[simp] theorem State.pendLayer_latchDark (s : State) (k : Nat) (fields : List (Nat × Nat)) :
    (s.pendLayer k fields).belay.latchDark = s.belay.latchDark := by
  simp [State.pendLayer]

@[simp] theorem State.rescan_latchDark (s : State) (a n : Nat) :
    (s.rescan a n).belay.latchDark = s.belay.latchDark := by
  simp [State.rescan]

@[simp] theorem State.emberEmpty_latchDark (s : State) : s.emberEmpty.belay.latchDark = s.belay.latchDark := by
  simp [State.emberEmpty]

@[simp] theorem State.queueCmd_latchDark (s : State) (c : LCmd) :
    (s.queueCmd c).belay.latchDark = s.belay.latchDark := by
  simp [State.queueCmd]

@[simp] theorem State.opDescribe_latchDark (s : State) (r : Role) (ix sub : Nat) :
    (s.opDescribe r ix sub).2.belay.latchDark = s.belay.latchDark := by
  unfold State.opDescribe
  split <;> simp

@[simp] theorem State.pulseTick_latchDark (s : State) (k : Nat) :
    (s.pulseTick k).belay.latchDark = s.belay.latchDark := by
  simp [State.pulseTick]

@[simp] theorem State.setSlot_latchDark (s : State) (x : FaultSlot) :
    (s.setSlot x).belay.latchDark = s.belay.latchDark := by
  simp [State.setSlot]

@[simp] theorem State.pulsesStep_latchDark (s : State) (old : Nat) :
    (s.pulsesStep old).belay.latchDark = s.belay.latchDark := by
  simp [State.pulsesStep]

@[simp] theorem State.cairnWritten_latchDark (s : State) : s.cairnWritten.belay.latchDark = s.belay.latchDark := by
  unfold State.cairnWritten
  split <;> simp

@[simp] theorem State.rotate_latchDark (s : State) : s.rotate.belay.latchDark = s.belay.latchDark := by
  simp [State.rotate]

@[simp] theorem State.judgeLamp_latchDark (s : State) (l v : Nat) (probe : Bool) (r : Verdicts) :
    (s.judgeLamp l v probe r).2.belay.latchDark = s.belay.latchDark := by
  unfold State.judgeLamp
  repeat' split
  all_goals simp

@[simp] theorem State.streamMark_latchDark (s : State) (i : Nat) :
    (s.streamMark i).belay.latchDark = s.belay.latchDark := by
  simp only [State.streamMark]
  repeat' split
  all_goals simp

@[simp] theorem State.firstClear_latchDark (s : State) : s.firstClear.belay.latchDark = s.belay.latchDark := by
  simp [State.firstClear]

@[simp] theorem State.cairnField_latchDark (s : State) (k v : Nat) :
    (s.cairnField k v).belay.latchDark = s.belay.latchDark := by
  simp [State.cairnField]

@[simp] theorem State.lclSample_latchDark (s : State) (keyEn : Bool) :
    (s.lclSample keyEn).belay.latchDark = s.belay.latchDark := by
  simp [State.lclSample]

@[simp] theorem State.missStep_latchDark (s : State) : s.missStep.belay.latchDark = s.belay.latchDark := by
  unfold State.missStep
  exact foldl_latchDark _ _ _ fun t x => by simp

@[simp] theorem State.rdmReq_latchDark (s : State) (v : Bytes) :
    (s.rdmReq v).belay.latchDark = s.belay.latchDark := by
  simp [State.rdmReq]

@[simp] theorem State.lateIn_latchDark (s : State) : s.lateIn.belay.latchDark = s.belay.latchDark := by
  simp [State.lateIn]

@[simp] theorem State.acceptStep_latchDark (s : State) : s.acceptStep.belay.latchDark = s.belay.latchDark := by
  simp [State.acceptStep]

@[simp] theorem State.darkRelease_latchDark (s : State) : s.darkRelease.2.belay.latchDark = s.belay.latchDark := by
  simp [State.darkRelease]

@[simp] theorem State.storeLines_latchDark (s : State) (e : Bytes) (base : Nat) (l : List (Nat × Nat × Nat)) (d : Bytes) :
    (State.storeLines s e base l d).belay.latchDark = s.belay.latchDark := by
  induction l generalizing s d with
  | nil => rfl
  | cons h r ih => exact (ih _ _).trans (State.ramWrite_latchDark _ _ _ _)

@[simp] theorem State.setServo_latchDark (s : State) (n : Nat) :
    (s.setServo n).belay.latchDark = s.belay.latchDark := by
  simp [State.setServo]

@[simp] theorem State.installLevels_latchDark (s : State) (t : Topo) :
    (s.installLevels t).belay.latchDark = s.belay.latchDark := by
  simp [State.installLevels]

@[simp] theorem State.takeSegment_latchDark (s : State) (seg pre : Nat) :
    (s.takeSegment seg pre).belay.latchDark = s.belay.latchDark := by
  simp [State.takeSegment]

@[simp] theorem State.dropHand_latchDark (s : State) (id : Nat) :
    (s.dropHand id).belay.latchDark = s.belay.latchDark := by
  simp [State.dropHand]

@[simp] theorem State.mastersLost_latchDark (s : State) : s.mastersLost.belay.latchDark = s.belay.latchDark := by
  simp [State.mastersLost]

@[simp] theorem State.setLinkDelay_latchDark (s : State) (port : Nat) (d : Int) :
    (s.setLinkDelay port d).belay.latchDark = s.belay.latchDark := by
  simp [State.setLinkDelay]

@[simp] theorem workNop_latchDark (t : Task) (s : State) : (workNop t s).2.belay.latchDark = s.belay.latchDark := by
  simp [workNop]

@[simp] theorem cmdRun_latchDark (s : State) : (cmdRun s).2.2.belay.latchDark = s.belay.latchDark := by
  simp [cmdRun]

@[simp] theorem State.setTrim_latchDark (s : State) (z : Int) :
    (s.setTrim z).belay.latchDark = s.belay.latchDark := by
  simp [State.setTrim]

@[simp] theorem State.withFetchWord_latchDark (s : State) (nbits w : Nat) :
    (s.withFetchWord nbits w).belay.latchDark = s.belay.latchDark := by
  unfold State.withFetchWord
  split <;> simp

@[simp] theorem outOf_latchDark (r : Nat × State) : (outOf r).2.belay.latchDark = r.2.belay.latchDark := by
  simp [outOf]

@[simp] theorem State.emberLine_latchDark (s : State) (k y : Nat) :
    (s.emberLine k y).belay.latchDark = s.belay.latchDark := by
  simp [State.emberLine]

@[simp] theorem State.driveFigures_latchDark (s : State) : s.driveFigures.belay.latchDark = s.belay.latchDark := by
  simp [State.driveFigures]

@[simp] theorem State.reqStagingCmd_latchDark (s : State) (c : LCmd) :
    (s.reqStagingCmd c).2.2.belay.latchDark = s.belay.latchDark := by
  simp [State.reqStagingCmd]

@[simp] theorem State.setRing_latchDark (s : State) (n : Nat) :
    (s.setRing n).belay.latchDark = s.belay.latchDark := by
  simp [State.setRing]

@[simp] theorem State.window_latchDark (s : State) (z : Int) : (s.window z).belay.latchDark = s.belay.latchDark := by
  simp [State.window]

@[simp] theorem State.belowMax_latchDark (s : State) (mv : Nat) :
    (s.belowMax mv).belay.latchDark = s.belay.latchDark := by
  simp [State.belowMax]

@[simp] theorem State.drawWord_latchDark (s : State) (b : Nat) :
    (s.drawWord b).2.belay.latchDark = s.belay.latchDark := by
  unfold State.drawWord
  split <;> simp

@[simp] theorem State.noteReport_latchDark (s : State) (ty : Nat) (ip : Bytes) :
    (s.noteReport ty ip).belay.latchDark = s.belay.latchDark := by
  simp [State.noteReport]

@[simp] theorem State.lampEnd_latchDark (l : Nat) (r : Verdicts × State) :
    (State.lampEnd l r).2.belay.latchDark = r.2.belay.latchDark := by
  simp only [State.lampEnd]
  repeat' split
  all_goals simp

@[simp] theorem State.freezeLine_latchDark (s : State) (y : Nat) :
    (s.freezeLine y).belay.latchDark = s.belay.latchDark := by
  simp [State.freezeLine]

@[simp] theorem State.installFirebox_latchDark (s : State) (switch : Bool) :
    (s.installFirebox switch).belay.latchDark = s.belay.latchDark := by
  simp [State.installFirebox]

@[simp] theorem State.dropRun_latchDark (s : State) : s.dropRun.belay.latchDark = s.belay.latchDark := by
  simp [State.dropRun]

@[simp] theorem State.setLink_latchDark (s : State) (p : Nat) (x : LinkSt) :
    (s.setLink p x).belay.latchDark = s.belay.latchDark := by
  simp [State.setLink]

@[simp] theorem State.tsqClear_latchDark (s : State) (p : Nat) :
    (s.tsqClear p).belay.latchDark = s.belay.latchDark := by
  simp [State.tsqClear]

@[simp] theorem State.levelGroups_latchDark (s : State) : s.levelGroups.belay.latchDark = s.belay.latchDark := by
  simp [State.levelGroups]

@[simp] theorem State.darkPinHigh_latchDark (s : State) : s.darkPinHigh.belay.latchDark = s.belay.latchDark := by
  simp [State.darkPinHigh]

@[simp] theorem State.calLoad_latchDark (s : State) (read : Bool) :
    (s.calLoad read).belay.latchDark = s.belay.latchDark := by
  unfold State.calLoad
  split <;> simp

@[simp] theorem State.installStreams_latchDark (s : State) (t : Topo) (old : Option Topo) (switch : Bool) :
    (s.installStreams t old switch).belay.latchDark = s.belay.latchDark := by
  simp [State.installStreams]

@[simp] theorem State.eraseTarget_latchDark (s : State) (k total start : Nat) :
    (s.eraseTarget k total start).belay.latchDark = s.belay.latchDark := by
  unfold State.eraseTarget
  split <;> simp

@[simp] theorem State.unstall_latchDark (s : State) (n id : Nat) :
    (s.unstall n id).belay.latchDark = s.belay.latchDark := by
  unfold State.unstall
  repeat' split
  all_goals simp

@[simp] theorem State.storeCompact_latchDark (s : State) : s.storeCompact.belay.latchDark = s.belay.latchDark := by
  simp [State.storeCompact]

@[simp] theorem State.stallOn_latchDark (s : State) (n : Nat) (r : Reader) :
    (s.stallOn n r).belay.latchDark = s.belay.latchDark := by
  unfold State.stallOn
  repeat' split
  all_goals simp

@[simp] theorem State.endNotes_latchDark (s : State) : s.endNotes.belay.latchDark = s.belay.latchDark := by
  simp [State.endNotes]

@[simp] theorem State.bootLoad_latchDark (s : State) : s.bootLoad.belay.latchDark = s.belay.latchDark := by
  simp [State.bootLoad]

@[simp] theorem State.emptyQueue_latchDark (s : State) (n : Nat) :
    (s.emptyQueue n).belay.latchDark = s.belay.latchDark := by
  unfold State.emptyQueue
  split <;> simp

@[simp] theorem State.ringUpdate_latchDark (s : State) : s.ringUpdate.belay.latchDark = s.belay.latchDark := by
  simp [State.ringUpdate]

@[simp] theorem State.drawInt_latchDark (s : State) : s.drawInt.2.belay.latchDark = s.belay.latchDark := by
  unfold State.drawInt
  split <;> simp

@[simp] theorem State.pollIn_latchDark (s : State) (keyEn : Bool) (cmd : Nat) :
    (s.pollIn keyEn cmd).belay.latchDark = s.belay.latchDark := by
  simp [State.pollIn]

@[simp] theorem State.fetchIn_latchDark (s : State) (keyEn : Bool) :
    (s.fetchIn keyEn).belay.latchDark = s.belay.latchDark := by
  simp [State.fetchIn]

@[simp] theorem State.bpSettle_latchDark (s : State) (n : Nat) :
    (s.bpSettle n).belay.latchDark = s.belay.latchDark := by
  simp only [State.bpSettle]
  repeat' split
  all_goals simp

@[simp] theorem State.clearHigh_latchDark (s : State) (n : Nat) :
    (s.clearHigh n).belay.latchDark = s.belay.latchDark := by
  unfold State.clearHigh
  repeat' split
  all_goals simp

@[simp] theorem State.switchCmd_latchDark (s : State) : s.switchCmd.2.2.belay.latchDark = s.belay.latchDark := by
  simp [State.switchCmd]

@[simp] theorem State.lampClear_latchDark (s : State) (v : Nat) :
    (s.lampClear v).belay.latchDark = s.belay.latchDark := by
  simp [State.lampClear]

@[simp] theorem State.residence_latchDark (s : State) (p q : Nat) (t : RopeTag) (body : Bytes) :
    (s.residence p q t body).2.belay.latchDark = s.belay.latchDark := by
  simp [State.residence]

@[simp] theorem State.calAccept_latchDark (s : State) : s.calAccept.2.belay.latchDark = s.belay.latchDark := by
  unfold State.calAccept
  split <;> simp

@[simp] theorem State.loadCmd_latchDark (s : State) (slot : Nat) :
    (s.loadCmd slot).2.2.belay.latchDark = s.belay.latchDark := by
  simp [State.loadCmd]

@[simp] theorem State.colourTheta_latchDark (s : State) (c : Nat) :
    (s.colourTheta c).belay.latchDark = s.belay.latchDark := by
  simp only [State.colourTheta]
  repeat' split
  all_goals simp

@[simp] theorem State.bootFails_latchDark (s : State) (c : Nat) :
    (s.bootFails c).belay.latchDark = s.belay.latchDark := by
  simp [State.bootFails]

@[simp] theorem State.storeRoom_latchDark (s : State) (len : Nat) :
    (s.storeRoom len).belay.latchDark = s.belay.latchDark := by
  simp [State.storeRoom]

@[simp] theorem State.calRequest_latchDark (s : State) (v : Nat) :
    (s.calRequest v).belay.latchDark = s.belay.latchDark := by
  simp [State.calRequest]

@[simp] theorem workFill_latchDark (t : Task) (s : State) : (workFill t s).2.belay.latchDark = s.belay.latchDark := by
  simp [workFill]

@[simp] theorem State.ntcValid_latchDark (s : State) (i : Nat) (t : Int) :
    (s.ntcValid i t).belay.latchDark = s.belay.latchDark := by
  simp [State.ntcValid]

@[simp] theorem State.underrun_latchDark (s : State) (late y : Nat) :
    (s.underrun late y).belay.latchDark = s.belay.latchDark := by
  simp [State.underrun]

@[simp] theorem State.setRole_latchDark (s : State) (n : Nat) :
    (s.setRole n).belay.latchDark = s.belay.latchDark := by
  simp [State.setRole]

@[simp] theorem State.setPhases_latchDark (s : State) (n khz : Nat) :
    (s.setPhases n khz).belay.latchDark = s.belay.latchDark := by
  simp [State.setPhases]

@[simp] theorem State.discStart_latchDark (s : State) (n : Nat) :
    (s.discStart n).belay.latchDark = s.belay.latchDark := by
  simp [State.discStart]

@[simp] theorem State.lifeHour_latchDark (s : State) : s.lifeHour.belay.latchDark = s.belay.latchDark := by
  simp only [State.lifeHour]
  repeat' split
  all_goals simp

@[simp] theorem State.forgetWin_latchDark (s : State) (src : Nat) :
    (s.forgetWin src).belay.latchDark = s.belay.latchDark := by
  unfold State.forgetWin
  split <;> simp

@[simp] theorem State.phaseLimit_latchDark (s : State) (phase mv : Nat) :
    (s.phaseLimit phase mv).belay.latchDark = s.belay.latchDark := by
  simp [State.phaseLimit]

@[simp] theorem State.beaconSilence_latchDark (s : State) : s.beaconSilence.belay.latchDark = s.belay.latchDark := by
  simp [State.beaconSilence]

@[simp] theorem State.candCheck_latchDark (s : State) : s.candCheck.belay.latchDark = s.belay.latchDark := by
  unfold State.candCheck
  split <;> simp

@[simp] theorem State.eyeScan_latchDark (s : State) (p width : Nat) :
    (s.eyeScan p width).belay.latchDark = s.belay.latchDark := by
  simp [State.eyeScan]

@[simp] theorem State.strandPinsOn_latchDark (s : State) : s.strandPinsOn.belay.latchDark = s.belay.latchDark := by
  simp [State.strandPinsOn]

@[simp] theorem State.putChan_latchDark (s : State) (b ch v : Nat) :
    (s.putChan b ch v).belay.latchDark = s.belay.latchDark := by
  simp [State.putChan]

@[simp] theorem State.drawRandom_latchDark (s : State) (b : Nat) :
    (s.drawRandom b).2.belay.latchDark = s.belay.latchDark := by
  unfold State.drawRandom
  split <;> simp

@[simp] theorem State.composeStart_latchDark (s : State) : s.composeStart.belay.latchDark = s.belay.latchDark := by
  simp [State.composeStart]

@[simp] theorem State.powerUp_latchDark (s : State) : s.powerUp.belay.latchDark = s.belay.latchDark := by
  simp only [State.powerUp]
  repeat' split
  all_goals simp

@[simp] theorem State.noteChange_latchDark (s : State) : s.noteChange.belay.latchDark = s.belay.latchDark := by
  simp [State.noteChange]

@[simp] theorem cmdOf_latchDark (r : Nat × State) : (cmdOf r).2.2.belay.latchDark = r.2.belay.latchDark := by
  simp [cmdOf]

@[simp] theorem State.autoAccept_latchDark (s : State) : s.autoAccept.belay.latchDark = s.belay.latchDark := by
  unfold State.autoAccept
  repeat' split
  all_goals simp

@[simp] theorem State.answer_latchDark (o : Origin) (ix sub : Nat) (r : OpOut × State) :
    (State.answer o ix sub r).belay.latchDark = r.2.belay.latchDark := by
  unfold State.answer
  split <;> simp

@[simp] theorem State.takeTiming_latchDark (s : State) : s.takeTiming.belay.latchDark = s.belay.latchDark := by
  unfold State.takeTiming
  split <;> simp

@[simp] theorem State.putCoefs_latchDark (s : State) (bank : Nat) (b : Bytes) :
    (s.putCoefs bank b).belay.latchDark = s.belay.latchDark := by
  simp [State.putCoefs]

@[simp] theorem State.calReturn_latchDark (s : State) (p : Nat) :
    (s.calReturn p).belay.latchDark = s.belay.latchDark := by
  simp [State.calReturn]

@[simp] theorem State.installRaster_latchDark (s : State) (t : Topo) :
    (s.installRaster t).belay.latchDark = s.belay.latchDark := by
  simp [State.installRaster]

@[simp] theorem State.discipline_latchDark (s : State) (z : Int) :
    (s.discipline z).belay.latchDark = s.belay.latchDark := by
  simp [State.discipline]

@[simp] theorem State.calLight_latchDark (s : State) : s.calLight.belay.latchDark = s.belay.latchDark := by
  simp [State.calLight]

@[simp] theorem State.pauseDisregardEnd_latchDark (s : State) (p : Nat) :
    (s.pauseDisregardEnd p).belay.latchDark = s.belay.latchDark := by
  unfold State.pauseDisregardEnd
  split <;> simp

@[simp] theorem State.programBlock_latchDark (s : State) (t : Transfer) :
    (s.programBlock t).belay.latchDark = s.belay.latchDark := by
  unfold State.programBlock
  split <;> simp

@[simp] theorem State.spillBurst_latchDark (s : State) (n : Nat) :
    (s.spillBurst n).belay.latchDark = s.belay.latchDark := by
  unfold State.spillBurst
  split <;> simp

@[simp] theorem State.installTables_latchDark (s : State) (t : Topo) :
    (s.installTables t).belay.latchDark = s.belay.latchDark := by
  simp [State.installTables]

@[simp] theorem State.extreme_latchDark (s : State) (least : Bool) (num : Nat → Int) (k v : Nat) :
    (s.extreme least num k v).belay.latchDark = s.belay.latchDark := by
  simp [State.extreme]

@[simp] theorem State.takeDevice_latchDark (s : State) (n : Nat) :
    (s.takeDevice n).2.belay.latchDark = s.belay.latchDark := by
  unfold State.takeDevice
  split <;> simp

@[simp] theorem State.fadeStep_latchDark (s : State) : s.fadeStep.belay.latchDark = s.belay.latchDark := by
  simp [State.fadeStep]

@[simp] theorem State.popResult_latchDark (s : State) (o : Origin) (ix status : Nat) (val : Bytes) :
    (s.popResult o ix status val).belay.latchDark = s.belay.latchDark := by
  simp only [State.popResult]
  repeat' split
  all_goals simp

@[simp] theorem State.prioSet_latchDark (s : State) (target port prio : Nat) :
    (s.prioSet target port prio).2.belay.latchDark = s.belay.latchDark := by
  simp [State.prioSet]

@[simp] theorem State.strandLatch_latchDark (s : State) : s.strandLatch.belay.latchDark = s.belay.latchDark := by
  have latched (sent : List (Nat × Bytes)) (t : State) : ((List.range 32).foldl (fun (t : State) p =>
      match assocGet sent p with
      | some e => if field e 1 1 == 1 then t.send (.latch p (field e 30 2)) else t
      | none => t) t).belay.latchDark = t.belay.latchDark := foldl_latchDark _ _ _ fun u p => by
    split <;> simp
  unfold State.strandLatch
  dsimp only
  split
  · rfl
  · exact latched _ _

@[simp] theorem State.latchBlank_latchDark (s : State) : s.latchBlank.belay.latchDark = s.belay.latchDark := by
  simp [State.latchBlank]

@[simp] theorem State.igmpFallbackEnd_latchDark (s : State) :
    s.igmpFallbackEnd.belay.latchDark = s.belay.latchDark := by
  unfold State.igmpFallbackEnd
  split <;> simp

@[simp] theorem State.resetRise_latchDark (s : State) (sel : Nat) :
    (s.resetRise sel).belay.latchDark = s.belay.latchDark := by
  simp [State.resetRise]

@[simp] theorem State.clearBp_latchDark (s : State) (n : Nat) :
    (s.clearBp n).belay.latchDark = s.belay.latchDark := by
  simp only [State.clearBp]
  repeat' split
  all_goals simp

@[simp] theorem State.mapWrite_latchDark (s : State) (ch v : Nat) :
    (s.mapWrite ch v).belay.latchDark = s.belay.latchDark := by
  simp [State.mapWrite]

@[simp] theorem State.setDe_latchDark (s : State) (n : Nat) (level : Bool) :
    (s.setDe n level).belay.latchDark = s.belay.latchDark := by
  simp [State.setDe]

@[simp] theorem State.fixReg_latchDark (s : State) (key old v : Nat) :
    (s.fixReg key old v).belay.latchDark = s.belay.latchDark := by
  simp [State.fixReg]

@[simp] theorem State.eraseTransfer_latchDark (s : State) (t : Transfer) :
    (s.eraseTransfer t).belay.latchDark = s.belay.latchDark := by
  unfold State.eraseTransfer
  split <;> simp

@[simp] theorem State.setRegs_latchDark (s : State) (l : List (Nat × Nat)) :
    (s.setRegs l).belay.latchDark = s.belay.latchDark :=
  foldl_latchDark _ _ _ fun _ _ => rfl

@[simp] theorem State.drawSample_latchDark (s : State) (sink : Nat) :
    (s.drawSample sink).2.belay.latchDark = s.belay.latchDark := by
  simp [State.drawSample]

@[simp] theorem State.pushEv_latchDark (s : State) (r : EvRec) :
    (s.pushEv r).belay.latchDark = s.belay.latchDark := by
  simp [State.pushEv]

@[simp] theorem State.onPtpWait_latchDark (s : State) : s.onPtpWait.belay.latchDark = s.belay.latchDark := by
  unfold State.onPtpWait
  split <;> simp

@[simp] theorem State.calApplyDue_latchDark (s : State) : s.calApplyDue.belay.latchDark = s.belay.latchDark := by
  unfold State.calApplyDue
  split <;> simp

@[simp] theorem State.reqShowCmd_latchDark (s : State) (c : LCmd) :
    (s.reqShowCmd c).2.2.belay.latchDark = s.belay.latchDark := by
  simp [State.reqShowCmd]

@[simp] theorem State.measured_latchDark (s : State) (m : Sensors) :
    (s.measured m).belay.latchDark = s.belay.latchDark := by
  simp [State.measured]

@[simp] theorem State.clearLost_latchDark (s : State) (n : Nat) : (s.clearLost n).belay.latchDark = s.belay.latchDark := by
  unfold State.clearLost
  by_cases h : n < 8 ∨ 64 ≤ n
  · rw [if_pos h]
    split <;> simp
  · rw [if_neg h]
    simp

@[simp] theorem State.supplyBack_latchDark (s : State) (n mv : Nat) :
    (s.supplyBack n mv).belay.latchDark = s.belay.latchDark := by
  simp [State.supplyBack]

@[simp] theorem State.rsyncLine_latchDark (s : State) : s.rsyncLine.belay.latchDark = s.belay.latchDark := by
  simp [State.rsyncLine]

@[simp] theorem State.setDen_latchDark (s : State) (level : Bool) :
    (s.setDen level).belay.latchDark = s.belay.latchDark := by
  simp [State.setDen]

@[simp] theorem State.rasterReport_latchDark (s : State) : s.rasterReport.belay.latchDark = s.belay.latchDark := by
  simp [State.rasterReport]

@[simp] theorem State.floorRaise_latchDark (s : State) : s.floorRaise.2.2.belay.latchDark = s.belay.latchDark := by
  unfold State.floorRaise
  split <;> simp

@[simp] theorem State.loopStop_latchDark (s : State) (j : Nat) :
    (s.loopStop j).belay.latchDark = s.belay.latchDark := by
  simp [State.loopStop]

@[simp] theorem State.remerge_latchDark (s : State) (i : Nat) :
    (s.remerge i).belay.latchDark = s.belay.latchDark := by
  simp [State.remerge]

@[simp] theorem State.rowPinsOn_latchDark (s : State) : s.rowPinsOn.belay.latchDark = s.belay.latchDark := by
  simp [State.rowPinsOn]

@[simp] theorem State.advance_latchDark (s : State) : s.advance.belay.latchDark = s.belay.latchDark := by
  unfold State.advance
  simp only [State.setRegs_latchDark, State.reach_belay]

@[simp] theorem State.storeSurface_latchDark (s : State) (img : Bytes) :
    (s.storeSurface img).2.belay.latchDark = s.belay.latchDark := by
  simp [State.storeSurface]

@[simp] theorem State.mergeSnapshot_latchDark (s : State) : s.mergeSnapshot.belay.latchDark = s.belay.latchDark := by
  unfold State.mergeSnapshot
  simp only [belay_ite, latchDark_ite, State.noteChange_latchDark, State.ramWrite_latchDark, ite_self]
  exact foldl_latchDark _ _ _ fun t p => State.ramWrite_latchDark t _ _ _

@[simp] theorem State.ropeWait_latchDark (s : State) : s.ropeWait.belay.latchDark = s.belay.latchDark := by
  simp [State.ropeWait]

@[simp] theorem State.takeStamp_latchDark (s : State) (p kind msg seq : Nat) :
    (s.takeStamp p kind msg seq).2.belay.latchDark = s.belay.latchDark := by
  simp only [State.takeStamp]
  repeat' split
  all_goals simp

@[simp] theorem State.dieRead_latchDark (s : State) (die : Nat) (t : Int) :
    (s.dieRead die t).belay.latchDark = s.belay.latchDark := by
  simp [State.dieRead]

@[simp] theorem State.readEmpty_latchDark (s : State) (t : Task) :
    (s.readEmpty t).2.belay.latchDark = s.belay.latchDark := by
  simp [State.readEmpty]

@[simp] theorem State.spillReadback_latchDark (s : State) (n : Nat) :
    (s.spillReadback n).belay.latchDark = s.belay.latchDark := by
  unfold State.spillReadback
  split <;> simp

@[simp] theorem State.setLinkState_latchDark (s : State) (p n : Nat) :
    (s.setLinkState p n).belay.latchDark = s.belay.latchDark := by
  simp [State.setLinkState]

@[simp] theorem State.slotCut_latchDark (s : State) : s.slotCut.belay.latchDark = s.belay.latchDark := by
  unfold State.slotCut
  split <;> simp

@[simp] theorem State.linkPortUp_latchDark (s : State) (p : Nat) :
    (s.linkPortUp p).belay.latchDark = s.belay.latchDark := by
  simp [State.linkPortUp]

@[simp] theorem State.freezeTrim_latchDark (s : State) : s.freezeTrim.belay.latchDark = s.belay.latchDark := by
  unfold State.freezeTrim
  split <;> simp

@[simp] theorem State.dramTrained_latchDark (s : State) : s.dramTrained.belay.latchDark = s.belay.latchDark := by
  simp [State.dramTrained]

@[simp] theorem State.readStamps_latchDark (s : State) : s.readStamps.belay.latchDark = s.belay.latchDark := by
  simp [State.readStamps]

@[simp] theorem State.putLut_latchDark (s : State) (sel : Nat) (b : Bytes) :
    (s.putLut sel b).belay.latchDark = s.belay.latchDark := by
  simp [State.putLut]

@[simp] theorem State.calWritten_latchDark (s : State) : s.calWritten.belay.latchDark = s.belay.latchDark := by
  unfold State.calWritten
  split <;> simp

@[simp] theorem State.measured__latchDark (s : State) (l : List Int) (i : Nat) :
    (s.measured_ l i).2.belay.latchDark = s.belay.latchDark := by
  unfold State.measured_
  split <;> simp

@[simp] theorem State.switchStep_latchDark (s : State) : s.switchStep.belay.latchDark = s.belay.latchDark := by
  unfold State.switchStep
  split <;> simp

@[simp] theorem State.setReady_latchDark (s : State) (l : Nat) (q : List Task) :
    (s.setReady l q).belay.latchDark = s.belay.latchDark := by
  simp [State.setReady]

@[simp] theorem State.slotDone_latchDark (s : State) (n len : Nat) :
    (s.slotDone n len).belay.latchDark = s.belay.latchDark := by
  simp [State.slotDone]

@[simp] theorem State.putChans_latchDark (s : State) (b : Nat) (l : List (Nat × Nat)) :
    (s.putChans b l).belay.latchDark = s.belay.latchDark := by
  simp [State.putChans]

@[simp] theorem State.serve_latchDark (s : State) (o : Origin) (ix sub : Nat) (f : State → Role → OpOut × State)
    (h : ∀ t r, (f t r).2.belay.latchDark = t.belay.latchDark) :
    (s.serve o ix sub f).belay.latchDark = s.belay.latchDark := by
  unfold State.serve
  split
  · rfl
  · split <;> simp [h]

@[simp] theorem State.installSurfaces_latchDark (s : State) (t : Topo) :
    (s.installSurfaces t).belay.latchDark = s.belay.latchDark := by
  simp [State.installSurfaces]

@[simp] theorem State.clearRead_latchDark (s : State) (k : Nat) :
    (s.clearRead k).belay.latchDark = s.belay.latchDark := by
  simp [State.clearRead]

@[simp] theorem State.installRegs_latchDark (s : State) (t : Topo) :
    (s.installRegs t).belay.latchDark = s.belay.latchDark := by
  simp [State.installRegs]

@[simp] theorem State.startBid_latchDark (s : State) : s.startBid.belay.latchDark = s.belay.latchDark := by
  simp [State.startBid]

@[simp] theorem State.abandon_latchDark (s : State) (t : Transfer) :
    (s.abandon t).belay.latchDark = s.belay.latchDark := by
  simp [State.abandon]

@[simp] theorem State.dropWaiting_latchDark (s : State) (p : Nat) :
    (s.dropWaiting p).belay.latchDark = s.belay.latchDark := by
  simp [State.dropWaiting]

@[simp] theorem State.segmentStart_latchDark (s : State) : s.segmentStart.belay.latchDark = s.belay.latchDark := by
  simp [State.segmentStart]

@[simp] theorem State.gather_latchDark (s : State) (e : MapEntry) :
    (s.gather e).belay.latchDark = s.belay.latchDark := by
  simp [State.gather]

theorem State.spillPop_latchDark {s : State} {n : Nat} {z : Bytes × State} (h : s.spillPop n = some z) :
    z.2.belay.latchDark = s.belay.latchDark := by
  unfold State.spillPop at h
  dsimp only at h
  split at h
  · cases h
  · split at h
    · cases h
    · cases h
      simp

@[simp] theorem State.calSink_latchDark (m : CalMeas) (x : Nat × Nat) (r : CalSet × State) :
    (State.calSink m x r).2.belay.latchDark = r.2.belay.latchDark := by
  simp only [State.calSink]
  repeat' split
  all_goals simp

@[simp] theorem State.popWindow_latchDark (s : State) (o : Origin) (n : Nat) :
    (s.popWindow o n).2.belay.latchDark = s.belay.latchDark := by
  unfold State.popWindow
  split
  case h_1 h => exact State.spillPop_latchDark h
  case h_2 => split <;> simp

@[simp] theorem State.headBid_latchDark (s : State) (mac prio keyPos term : Nat) :
    (s.headBid mac prio keyPos term).belay.latchDark = s.belay.latchDark := by
  simp [State.headBid]

@[simp] theorem State.closeBlock_latchDark (s : State) (t : Transfer) (crc : Nat) :
    (s.closeBlock t crc).2.belay.latchDark = s.belay.latchDark := by
  simp [State.closeBlock]

@[simp] theorem State.railOn_latchDark (s : State) : s.railOn.belay.latchDark = s.belay.latchDark := by
  simp [State.railOn]

@[simp] theorem State.minReg_latchDark (s : State) (k v : Nat) :
    (s.minReg k v).belay.latchDark = s.belay.latchDark := by
  simp [State.minReg]

@[simp] theorem State.groupSet_latchDark (s : State) (n level : Nat) :
    (s.groupSet n level).belay.latchDark = s.belay.latchDark := by
  simp [State.groupSet]

@[simp] theorem State.calNtcOne_latchDark (m : CalMeas) (r : List Int × State) (i : Nat) :
    (State.calNtcOne m r i).2.belay.latchDark = r.2.belay.latchDark := by
  simp [State.calNtcOne]

@[simp] theorem State.sacnSync_latchDark (s : State) (cid addr : Nat) :
    (s.sacnSync cid addr).belay.latchDark = s.belay.latchDark := by
  simp [State.sacnSync]

@[simp] theorem State.cairnLoad_latchDark (s : State) : s.cairnLoad.belay.latchDark = s.belay.latchDark := by
  simp only [State.cairnLoad]
  repeat' split
  all_goals simp

@[simp] theorem State.snapshotCmd_latchDark (s : State) : s.snapshotCmd.belay.latchDark = s.belay.latchDark := by
  simp [State.snapshotCmd]

@[simp] theorem State.groupBind_latchDark (s : State) (v : Bytes) :
    (s.groupBind v).belay.latchDark = s.belay.latchDark := by
  simp [State.groupBind]

@[simp] theorem State.rampEnd_latchDark (s : State) : s.rampEnd.belay.latchDark = s.belay.latchDark := by
  unfold State.rampEnd
  split <;> simp

@[simp] theorem State.gatherRun_latchDark (k : Nat) (all : Bool) (fuel : Nat) (s : State) :
    (State.gatherRun k all fuel s).belay.latchDark = s.belay.latchDark := by
  induction fuel generalizing s with
  | zero => rfl
  | succ n ih => simp [State.gatherRun, ih]

@[simp] theorem State.sacnSyncTimeout_latchDark (s : State) (addr : Nat) :
    (s.sacnSyncTimeout addr).belay.latchDark = s.belay.latchDark := by
  unfold State.sacnSyncTimeout
  split <;> simp

@[simp] theorem State.firmwareVerify_latchDark (s : State) (primaryOk fallbackOk : Bool) :
    (s.firmwareVerify primaryOk fallbackOk).belay.latchDark = s.belay.latchDark := by
  unfold State.firmwareVerify
  repeat' split
  all_goals simp

@[simp] theorem State.endPops_latchDark (s : State) : s.endPops.belay.latchDark = s.belay.latchDark := by
  simp [State.endPops]

@[simp] theorem State.roleUpdate_latchDark (s : State) : s.roleUpdate.belay.latchDark = s.belay.latchDark := by
  simp [State.roleUpdate]

@[simp] theorem State.armStart_latchDark (s : State) : s.armStart.belay.latchDark = s.belay.latchDark := by
  simp [State.armStart]

@[simp] theorem State.loopTo_latchDark (s : State) (j i st : Nat) :
    (s.loopTo j i st).belay.latchDark = s.belay.latchDark := by
  simp only [State.loopTo]
  repeat' split
  all_goals simp

@[simp] theorem State.loopTick_latchDark (s : State) (j : Nat) :
    (s.loopTick j).belay.latchDark = s.belay.latchDark := by
  simp only [State.loopTick]
  repeat' split
  all_goals simp

@[simp] theorem State.dropRx_latchDark (s : State) : s.dropRx.belay.latchDark = s.belay.latchDark :=
  foldl_latchDark _ _ _ fun _ _ => rfl

@[simp] theorem State.popTick_latchDark (s : State) : s.popTick.belay.latchDark = s.belay.latchDark := by
  simp [State.popTick]

@[simp] theorem State.calTslatOne_latchDark (m : CalMeas) (ports : List Nat) (r : List Nat × State) (p : Nat) :
    (State.calTslatOne m ports r p).2.belay.latchDark = r.2.belay.latchDark := by
  simp [State.calTslatOne]

@[simp] theorem State.calNtc_latchDark (s : State) (m : CalMeas) (c : CalSet) :
    (s.calNtc m c).2.belay.latchDark = s.belay.latchDark := by
  simp [State.calNtc]

@[simp] theorem State.loopRewind_latchDark (s : State) (j : Nat) :
    (s.loopRewind j).2.belay.latchDark = s.belay.latchDark := by
  simp [State.loopRewind]

@[simp] theorem State.sacnTake_latchDark (s : State) (i cid : Nat) (b : Bytes) :
    (s.sacnTake i cid b).belay.latchDark = s.belay.latchDark := by
  simp [State.sacnTake]

@[simp] theorem State.packedCheck_latchDark (s : State) (y : Nat) : (s.packedCheck y).belay.latchDark = s.belay.latchDark := by
  unfold State.packedCheck
  refine foldl_latchDark _ _ _ fun t k => ?_
  dsimp only
  split
  · rfl
  · split
    · rfl
    · exact foldl_latchDark _ _ _ fun u r => by simp

@[simp] theorem State.headBeacon_latchDark (s : State) (mac pos seg term pre mode ring len prio : Nat) :
    (s.headBeacon mac pos seg term pre mode ring len prio).belay.latchDark = s.belay.latchDark := by
  simp [State.headBeacon]

@[simp] theorem State.serveDom_latchDark (s : State) (o : Origin) (ix sub : Nat) (f : State → Role → OpOut × State)
    (h : ∀ t r, (f t r).2.belay.latchDark = t.belay.latchDark) :
    (s.serveDom o ix sub f).belay.latchDark = s.belay.latchDark := by
  simp [State.serveDom, h, State.serve_latchDark]

@[simp] theorem State.railOff_latchDark (s : State) (n : Nat) :
    (s.railOff n).belay.latchDark = s.belay.latchDark := by
  simp [State.railOff]

@[simp] theorem State.hearthOn_latchDark (s : State) : s.hearthOn.belay.latchDark = s.belay.latchDark := by
  simp [State.hearthOn]

@[simp] theorem State.noteEv_latchDark (s : State) (ev : Nat) (payload : Bytes) :
    (s.noteEv ev payload).belay.latchDark = s.belay.latchDark := by
  simp [State.noteEv]

@[simp] theorem State.clearPosition_latchDark (s : State) : s.clearPosition.belay.latchDark = s.belay.latchDark := by
  simp [State.clearPosition]

@[simp] theorem State.fwDone_latchDark (s : State) (k : Nat) (b : Bytes) (sigOk : Bool) :
    (s.fwDone k b sigOk).2.belay.latchDark = s.belay.latchDark := by
  simp [State.fwDone]

@[simp] theorem State.biddingDone_latchDark (s : State) : s.biddingDone.belay.latchDark = s.belay.latchDark := by
  unfold State.biddingDone
  split <;> simp

@[simp] theorem State.takeRecord_latchDark (s : State) (k : Nat) :
    (s.takeRecord k).2.belay.latchDark = s.belay.latchDark := by
  simp [State.takeRecord]

@[simp] theorem State.loopAdvance_latchDark (s : State) (j : Nat) :
    (s.loopAdvance j).belay.latchDark = s.belay.latchDark := by
  simp only [State.loopAdvance]
  repeat' split
  all_goals simp

@[simp] theorem State.calDark_latchDark (s : State) : s.calDark.belay.latchDark = s.belay.latchDark := by
  simp [State.calDark]

@[simp] theorem State.openEmission_latchDark (s : State) (at_ : Nat) :
    (s.openEmission at_).belay.latchDark = s.belay.latchDark := by
  simp [State.openEmission]

@[simp] theorem State.dupTest_latchDark (s : State) (src seq : Nat) :
    (s.dupTest src seq).2.belay.latchDark = s.belay.latchDark := by
  simp only [State.dupTest]
  repeat' split
  all_goals simp

@[simp] theorem State.slotSink_latchDark (s : State) (samples : List SinkSample) (r : Nat) (p : Nat × Nat × Nat × Nat) :
    (s.slotSink samples r p).belay.latchDark = s.belay.latchDark := by
  simp only [State.slotSink]
  repeat' split
  all_goals simp

@[simp] theorem State.headResign_latchDark (s : State) (mac term : Nat) :
    (s.headResign mac term).belay.latchDark = s.belay.latchDark := by
  simp [State.headResign]

@[simp] theorem State.installQueues_latchDark (s : State) (t : Topo) (switch : Bool) :
    (s.installQueues t switch).belay.latchDark = s.belay.latchDark := by
  simp [State.installQueues]

@[simp] theorem State.dmxSlot_latchDark (s : State) (n : Nat) :
    (s.dmxSlot n).belay.latchDark = s.belay.latchDark := by
  simp only [State.dmxSlot]
  repeat' split
  all_goals simp

@[simp] theorem State.sacnMerge_latchDark (x : Bytes) (s : State) :
    (State.sacnMerge x s).belay.latchDark = s.belay.latchDark := by
  simp only [State.sacnMerge]
  repeat' split
  all_goals simp

@[simp] theorem State.winJudge_latchDark (s : State) (e : Bytes) :
    (s.winJudge e).2.belay.latchDark = s.belay.latchDark := by
  simp only [State.winJudge]
  repeat' split
  all_goals simp

@[simp] theorem State.installBanks_latchDark (s : State) (t : Topo) :
    (s.installBanks t).belay.latchDark = s.belay.latchDark := by
  unfold State.installBanks
  split <;> simp

@[simp] theorem State.overTempClear_latchDark (s : State) (die : Nat) (t : Int) :
    (s.overTempClear die t).belay.latchDark = s.belay.latchDark := by
  simp [State.overTempClear]

@[simp] theorem State.ruleFor_latchDark (s : State) (p : Nat) (f : Bytes) :
    (s.ruleFor p f).2.belay.latchDark = s.belay.latchDark := by
  unfold State.ruleFor
  repeat' split
  all_goals simp

@[simp] theorem State.txCount_latchDark (s : State) (p len : Nat) :
    (s.txCount p len).belay.latchDark = s.belay.latchDark := by
  simp [State.txCount]

@[simp] theorem State.pulseOn_latchDark (s : State) (k : Nat) (x : PulseSt) :
    (s.pulseOn k x).belay.latchDark = s.belay.latchDark := by
  simp [State.pulseOn]

/-- Only RESET_N low, whose cause is 1, lets go of the latch. -/
@[simp] theorem State.enterReset_latchDark (s : State) (cause : Nat) :
    (s.enterReset cause).belay.latchDark = (!(cause == 1) && s.belay.latchDark) := by
  simp [State.enterReset]

@[simp] theorem State.abandonOf_latchDark (s : State) (o : Origin) :
    (s.abandonOf o).belay.latchDark = s.belay.latchDark := by
  simp [State.abandonOf]

@[simp] theorem State.bandTick_latchDark (s : State) : s.bandTick.belay.latchDark = s.belay.latchDark := by
  simp [State.bandTick]

@[simp] theorem State.gatherKey_latchDark (s : State) (k : Nat) (all : Bool) :
    (s.gatherKey k all).belay.latchDark = s.belay.latchDark := by
  simp [State.gatherKey]

@[simp] theorem State.selfTest_latchDark (s : State) (pass : Bool) :
    (s.selfTest pass).belay.latchDark = s.belay.latchDark := by
  simp [State.selfTest]

@[simp] theorem State.heartbeat_latchDark (s : State) (p mac addr seg term : Nat) :
    (s.heartbeat p mac addr seg term).belay.latchDark = s.belay.latchDark := by
  simp only [State.heartbeat]
  repeat' split
  all_goals simp

@[simp] theorem State.minPool_latchDark (s : State) : s.minPool.belay.latchDark = s.belay.latchDark := by
  simp [State.minPool]

@[simp] theorem State.bandStep_latchDark (s : State) : s.bandStep.belay.latchDark = s.belay.latchDark := by
  simp [State.bandStep]

@[simp] theorem State.realign_latchDark (s : State) (m idx : Nat) :
    (s.realign m idx).belay.latchDark = s.belay.latchDark := by
  simp [State.realign]

@[simp] theorem State.opData_latchDark (s : State) (o : Origin) (h block off crc : Nat) (data : Bytes) :
    (s.opData o h block off crc data).2.belay.latchDark = s.belay.latchDark := by
  unfold State.opData
  split <;> simp

@[simp] theorem State.loopStart_latchDark (s : State) (j : Nat) :
    (s.loopStart j).belay.latchDark = s.belay.latchDark := by
  simp [State.loopStart]

@[simp] theorem State.stallCheck_latchDark (s : State) (y : Nat) :
    (s.stallCheck y).belay.latchDark = s.belay.latchDark := by
  simp [State.stallCheck]

@[simp] theorem State.layerTakes_latchDark (s : State) (k : Nat) (f : PFrame) (fresh count : Bool) :
    (s.layerTakes k f fresh count).belay.latchDark = s.belay.latchDark := by
  simp [State.layerTakes]

@[simp] theorem State.ptpIgnored_latchDark (s : State) : s.ptpIgnored.belay.latchDark = s.belay.latchDark := by
  simp [State.ptpIgnored]

@[simp] theorem State.onDelayResp_latchDark (s : State) (port : Nat) (m : PtpMsg) :
    (s.onDelayResp port m).belay.latchDark = s.belay.latchDark := by
  unfold State.onDelayResp
  repeat' split
  all_goals simp

@[simp] theorem State.calTslat_latchDark (s : State) (m : CalMeas) (ports : List Nat) (c : CalSet) :
    (s.calTslat m ports c).2.belay.latchDark = s.belay.latchDark := by
  simp [State.calTslat]

@[simp] theorem State.stagingOutputs_latchDark (s : State) :
    s.stagingOutputs.belay.latchDark = s.belay.latchDark := by
  simp [State.stagingOutputs]

@[simp] theorem State.flattenNote_latchDark (s : State) (k : Nat) :
    (s.flattenNote k).belay.latchDark = s.belay.latchDark := by
  simp [State.flattenNote]

@[simp] theorem State.fbxSupplyLow_latchDark (s : State) : s.fbxSupplyLow.belay.latchDark = s.belay.latchDark := by
  simp [State.fbxSupplyLow]

@[simp] theorem State.strandStart_latchDark (s : State) (p : Nat) :
    (s.strandStart p).belay.latchDark = s.belay.latchDark := by
  unfold State.strandStart
  split <;> simp

@[simp] theorem State.dmxTick_latchDark (s : State) : s.dmxTick.belay.latchDark = s.belay.latchDark := by
  simp [State.dmxTick]

@[simp] theorem State.enterStaging_latchDark (s : State) (cause : Nat) :
    (s.enterStaging cause).belay.latchDark = s.belay.latchDark := by
  simp [State.enterStaging]

@[simp] theorem State.scanSlot_latchDark (s : State) (samples probes : List SinkSample) :
    (s.scanSlot samples probes).belay.latchDark = s.belay.latchDark := by
  unfold State.scanSlot
  dsimp only
  split
  · rfl
  · split
    · simp
    · refine (foldl_latchDark _ _ _ fun t p => State.slotSink_latchDark t _ _ p).trans ?_
      refine (foldl_latchDark _ _ _ fun t l => ?_).trans (by simp)
      dsimp only
      split <;> simp

@[simp] theorem State.applyStep_latchDark (s : State) (d : Int) (initial : Bool) :
    (s.applyStep d initial).belay.latchDark = s.belay.latchDark := by
  simp [State.applyStep]

@[simp] theorem State.stepApply_latchDark (s : State) : s.stepApply.belay.latchDark = s.belay.latchDark := by
  unfold State.stepApply
  split <;> simp

theorem State.resetLow_latchDark (s : State) (h : s.resetLow.belay.latchDark = true) : s.belay.latchDark = true := by
  unfold State.resetLow at h
  dsimp only at h
  split at h
  · exact h
  · rw [State.enterReset_latchDark] at h
    cases h

@[simp] theorem State.belayRestart_latchDark (s : State) : s.belayRestart.belay.latchDark = s.belay.latchDark := by
  unfold State.belayRestart
  split <;> simp

@[simp] theorem State.onPdelayResp_latchDark (s : State) (port : Nat) (m : PtpMsg) :
    (s.onPdelayResp port m).belay.latchDark = s.belay.latchDark := by
  simp [State.onPdelayResp]

@[simp] theorem State.egressFree_latchDark (s : State) : s.egressFree.belay.latchDark = s.belay.latchDark := by
  simp [State.egressFree]

@[simp] theorem State.poolEvent_latchDark (s : State) : s.poolEvent.belay.latchDark = s.belay.latchDark := by
  simp [State.poolEvent]

@[simp] theorem State.initialSet_latchDark (s : State) : s.initialSet.belay.latchDark = s.belay.latchDark := by
  unfold State.initialSet
  split <;> simp

@[simp] theorem State.showFrame_latchDark (s : State) (i : Nat) (f : PFrame) (fresh count : Bool) :
    (s.showFrame i f fresh count).belay.latchDark = s.belay.latchDark := by
  simp [State.showFrame]

@[simp] theorem State.installRate_latchDark (s : State) (changed : Bool) :
    (s.installRate changed).belay.latchDark = s.belay.latchDark := by
  simp [State.installRate]

@[simp] theorem State.onPdelayFollow_latchDark (s : State) (port : Nat) (m : PtpMsg) :
    (s.onPdelayFollow port m).belay.latchDark = s.belay.latchDark := by
  simp only [State.onPdelayFollow]
  repeat' split
  all_goals simp

@[simp] theorem State.poolCheck_latchDark (s : State) : s.poolCheck.belay.latchDark = s.belay.latchDark := by
  simp [State.poolCheck]

@[simp] theorem State.giveDue_latchDark (s : State) (i : Nat) (due : List PFrame) (count : Bool) :
    (s.giveDue i due count).belay.latchDark = s.belay.latchDark := by
  unfold State.giveDue
  repeat' split
  all_goals simp

theorem State.pop_latchDark {s : State} {n : Nat} {z : Bytes × State} (h : s.pop n = some z) :
    z.2.belay.latchDark = s.belay.latchDark := by
  unfold State.pop at h
  split at h
  · cases h
  · split at h
    · cases h
    · cases h
      simp

@[simp] theorem State.lineMatch_latchDark (s : State) : s.lineMatch.belay.latchDark = s.belay.latchDark := by
  simp [State.lineMatch]

@[simp] theorem State.disarm_latchDark (s : State) : s.disarm.belay.latchDark = s.belay.latchDark := by
  simp [State.disarm]

@[simp] theorem State.tempWarn_latchDark (s : State) : s.tempWarn.belay.latchDark = s.belay.latchDark := by
  simp only [State.tempWarn]
  repeat' split
  all_goals simp

@[simp] theorem State.rxPush_latchDark (s : State) (port n : Nat) (x : Bytes) :
    (s.rxPush port n x).belay.latchDark = s.belay.latchDark := by
  unfold State.rxPush
  repeat' split
  all_goals simp

@[simp] theorem State.discEnd_latchDark (s : State) (n : Nat) :
    (s.discEnd n).belay.latchDark = s.belay.latchDark := by
  simp [State.discEnd]

@[simp] theorem State.authFail_latchDark (s : State) (addr role : Nat) :
    (s.authFail addr role).belay.latchDark = s.belay.latchDark := by
  simp [State.authFail]

@[simp] theorem State.takeNewest_latchDark (s : State) : s.takeNewest.belay.latchDark = s.belay.latchDark := by
  simp [State.takeNewest]

@[simp] theorem State.uniLost_latchDark (s : State) (i : Nat) :
    (s.uniLost i).belay.latchDark = s.belay.latchDark := by
  simp [State.uniLost]

@[simp] theorem State.healNotice_latchDark (s : State) (b : BreakRec) :
    (s.healNotice b).belay.latchDark = s.belay.latchDark := by
  simp [State.healNotice]

@[simp] theorem State.absentCheck_latchDark (s : State) : s.absentCheck.belay.latchDark = s.belay.latchDark := by
  simp [State.absentCheck]

@[simp] theorem State.newMaster_latchDark (s : State) (x : Master) :
    (s.newMaster x).belay.latchDark = s.belay.latchDark := by
  simp [State.newMaster]

@[simp] theorem State.armRules_latchDark (s : State) (sess : Nat) :
    (s.armRules sess).belay.latchDark = s.belay.latchDark := by
  simp [State.armRules]

@[simp] theorem State.setPortState_latchDark (s : State) (p n : Nat) :
    (s.setPortState p n).belay.latchDark = s.belay.latchDark := by
  simp [State.setPortState]

@[simp] theorem State.probeTick_latchDark (s : State) : s.probeTick.belay.latchDark = s.belay.latchDark := by
  simp [State.probeTick]

@[simp] theorem State.fetchValue_latchDark (s : State) (o : Origin) (x : Obj) (ix sub : Nat) :
    (s.fetchValue o x ix sub).2.belay.latchDark = s.belay.latchDark := by
  unfold State.fetchValue
  repeat' split
  all_goals simp

@[simp] theorem State.injectEnd_latchDark (s : State) : s.injectEnd.belay.latchDark = s.belay.latchDark := by
  simp [State.injectEnd]

@[simp] theorem State.stepPast_latchDark (s : State) (i p : Nat) (count : Bool) :
    (s.stepPast i p count).belay.latchDark = s.belay.latchDark := by
  simp only [State.stepPast]
  repeat' split
  all_goals simp

@[simp] theorem State.setDom_latchDark (s : State) (d n : Nat) :
    (s.setDom d n).belay.latchDark = s.belay.latchDark := by
  simp [State.setDom]

@[simp] theorem State.colourTick_latchDark (s : State) (c : Nat) :
    (s.colourTick c).belay.latchDark = s.belay.latchDark := by
  simp only [State.colourTick]
  repeat' split
  all_goals simp

@[simp] theorem State.supplyWarn_latchDark (s : State) (n mv : Nat) :
    (s.supplyWarn n mv).belay.latchDark = s.belay.latchDark := by
  simp [State.supplyWarn]

theorem State.popAny_latchDark {s : State} {n : Nat} {z : Bytes × State} (h : s.popAny n = some z) :
    z.2.belay.latchDark = s.belay.latchDark := by
  unfold State.popAny at h
  split at h
  · exact State.spillPop_latchDark h
  · exact State.pop_latchDark h

@[simp] theorem State.draughtTick_latchDark (s : State) (vled : Nat) :
    (s.draughtTick vled).belay.latchDark = s.belay.latchDark := by
  simp only [State.draughtTick]
  repeat' split
  all_goals simp

@[simp] theorem State.takeEntry_latchDark (s : State) (e : SetEntry) :
    (s.takeEntry e).2.belay.latchDark = s.belay.latchDark := by
  unfold State.takeEntry
  split <;> simp

@[simp] theorem State.lampsUnverified_latchDark (s : State) :
    s.lampsUnverified.belay.latchDark = s.belay.latchDark := by
  simp [State.lampsUnverified]

@[simp] theorem State.waitCheck_latchDark (s : State) (arb : Nat) (reqs : List (Nat × Nat)) :
    (s.waitCheck arb reqs).belay.latchDark = s.belay.latchDark := by
  simp [State.waitCheck]

@[simp] theorem State.windowCut_latchDark (s : State) : s.windowCut.belay.latchDark = s.belay.latchDark := by
  simp [State.windowCut]

@[simp] theorem State.enterJump_latchDark (s : State) : s.enterJump.belay.latchDark = s.belay.latchDark := by
  simp [State.enterJump]

@[simp] theorem State.opRead_latchDark (s : State) (o : Origin) (r : Role) (ix sub ty : Nat) :
    (s.opRead o r ix sub ty).2.belay.latchDark = s.belay.latchDark := by
  simp only [State.opRead]
  repeat' split
  all_goals simp

@[simp] theorem State.calAbort_latchDark (s : State) (cause : Nat) :
    (s.calAbort cause).belay.latchDark = s.belay.latchDark := by
  simp only [State.calAbort]
  repeat' split
  all_goals simp

@[simp] theorem State.flip_latchDark (s : State) : s.flip.belay.latchDark = s.belay.latchDark := by
  simp [State.flip]

@[simp] theorem State.takeSets_latchDark (s : State) : s.takeSets.belay.latchDark = s.belay.latchDark := by
  unfold State.takeSets
  refine foldl_latchDark _ _ _ fun t k => ?_
  dsimp only
  split <;> simp

@[simp] theorem State.pulseEdge_latchDark (s : State) (k : Nat) :
    (s.pulseEdge k).belay.latchDark = s.belay.latchDark := by
  simp only [State.pulseEdge]
  repeat' split
  all_goals simp

@[simp] theorem State.taskFaultEvent_latchDark (s : State) (id : Nat) :
    (s.taskFaultEvent id).belay.latchDark = s.belay.latchDark := by
  simp [State.taskFaultEvent]

@[simp] theorem State.staticEnter_latchDark (s : State) : s.staticEnter.belay.latchDark = s.belay.latchDark := by
  simp [State.staticEnter]

@[simp] theorem State.fadeDone_latchDark (s : State) (slot : Nat) :
    (s.fadeDone slot).belay.latchDark = s.belay.latchDark := by
  simp [State.fadeDone]

@[simp] theorem State.enterHoldover_latchDark (s : State) (cause : Nat) :
    (s.enterHoldover cause).belay.latchDark = s.belay.latchDark := by
  simp [State.enterHoldover]

@[simp] theorem State.staticStep_latchDark (s : State) : s.staticStep.2.belay.latchDark = s.belay.latchDark := by
  simp [State.staticStep]

@[simp] theorem State.tempTick_latchDark (s : State) : s.tempTick.belay.latchDark = s.belay.latchDark := by
  have off (l : List Nat) (t : State) : (l.foldl (fun (t : State) c =>
      (t.setReg (Reg.tFactor c) 32768).setReg (Reg.wFactor c) 0) t).belay.latchDark = t.belay.latchDark :=
    foldl_latchDark _ _ _ fun _ _ => rfl
  simp [State.tempTick, off]

@[simp] theorem State.domainOff_latchDark (s : State) (d : Nat) :
    (s.domainOff d).belay.latchDark = s.belay.latchDark := by
  simp [State.domainOff]

@[simp] theorem State.fadeStop_latchDark (s : State) (slot : Nat) :
    (s.fadeStop slot).belay.latchDark = s.belay.latchDark := by
  simp [State.fadeStop]

@[simp] theorem State.arbitrate_latchDark (s : State) (dram : Bool) (bank : Nat) (bm : Bool) (reqs : List (Nat × Nat)) :
    (s.arbitrate dram bank bm reqs).belay.latchDark = s.belay.latchDark := by
  simp only [State.arbitrate]
  repeat' split
  all_goals simp

@[simp] theorem State.calDiscard_latchDark (s : State) : s.calDiscard.belay.latchDark = s.belay.latchDark := by
  simp [State.calDiscard]

@[simp] theorem State.lateChange_latchDark (s : State) : s.lateChange.belay.latchDark = s.belay.latchDark := by
  simp [State.lateChange]

@[simp] theorem State.rowRead_latchDark (s : State) (o : Origin) (k : Nat) :
    (s.rowRead o k).belay.latchDark = s.belay.latchDark :=
  State.serve_latchDark _ _ _ _ _ fun t r => State.opRead_latchDark t o r _ _ _

@[simp] theorem State.breakCb_latchDark (s : State) (c : Nat) :
    (s.breakCb c).belay.latchDark = s.belay.latchDark := by
  simp [State.breakCb]

@[simp] theorem State.dropSource_latchDark (s : State) (i cid : Nat) :
    (s.dropSource i cid).belay.latchDark = s.belay.latchDark := by
  simp [State.dropSource]

@[simp] theorem State.frameDone_latchDark (s : State) : s.frameDone.belay.latchDark = s.belay.latchDark := by
  simp [State.frameDone]

@[simp] theorem State.raiseLoss_latchDark (s : State) (ev queue n : Nat) (payload : Bytes) :
    (s.raiseLoss ev queue n payload).belay.latchDark = s.belay.latchDark := by
  simp [State.raiseLoss]

@[simp] theorem State.spillPush_latchDark (s : State) (n : Nat) (x : Bytes) :
    (s.spillPush n x).2.belay.latchDark = s.belay.latchDark := by
  simp only [State.spillPush]
  repeat' split
  all_goals simp

@[simp] theorem State.pxAccept_latchDark (s : State) (e b : Bytes) (untimed : Bool) :
    (s.pxAccept e b untimed).belay.latchDark = s.belay.latchDark := by
  simp [State.pxAccept]

@[simp] theorem State.markEvent_latchDark (s : State) (n : Nat) (before after : Queue) :
    (s.markEvent n before after).belay.latchDark = s.belay.latchDark := by
  simp [State.markEvent]

@[simp] theorem State.sacnTimeout_latchDark (s : State) (cid : Nat) :
    (s.sacnTimeout cid).belay.latchDark = s.belay.latchDark := by
  simp only [State.sacnTimeout]
  repeat' split
  all_goals simp

@[simp] theorem State.rdmPush_latchDark (s : State) (r : RdmResp) :
    (s.rdmPush r).belay.latchDark = s.belay.latchDark := by
  simp [State.rdmPush]

@[simp] theorem State.onAnnounce_latchDark (s : State) (port : Nat) (m : PtpMsg) (d : AnnData) :
    (s.onAnnounce port m d).belay.latchDark = s.belay.latchDark := by
  simp only [State.onAnnounce]
  repeat' split
  all_goals simp

@[simp] theorem State.loadPassed_latchDark (s : State) (l : LoadSt) (t : Topo) :
    (s.loadPassed l t).belay.latchDark = s.belay.latchDark := by
  simp only [State.loadPassed]
  repeat' split
  all_goals simp

@[simp] theorem State.rdmResponse_latchDark (s : State) (n : Nat) (b : Bytes) :
    (s.rdmResponse n b).belay.latchDark = s.belay.latchDark := by
  simp only [State.rdmResponse]
  repeat' split
  all_goals simp

@[simp] theorem State.noteMissing_latchDark (s : State) (i p : Nat) (e : Bytes) (due : List PFrame) :
    (s.noteMissing i p e due).belay.latchDark = s.belay.latchDark := by
  simp [State.noteMissing]

@[simp] theorem State.loadFailed_latchDark (s : State) (l : LoadSt) (f : LoadFail) :
    (s.loadFailed l f).belay.latchDark = s.belay.latchDark := by
  have told : (s.failTold l f).belay.latchDark = s.belay.latchDark := by
    rw [State.failTold_eq]
    simp
  cases h : l.other with
  | some n =>
    rw [State.loadFailed_of_other h]
    exact told
  | none =>
    rw [State.loadFailed_of_last h, State.setReg_belay]
    exact told

@[simp] theorem State.takeLive_latchDark (s : State) (i p : Nat) (e : Bytes) (count : Bool) :
    (s.takeLive i p e count).belay.latchDark = s.belay.latchDark := by
  simp [State.takeLive]

@[simp] theorem State.pushFault_latchDark (s : State) (r : FaultRec) :
    (s.pushFault r).belay.latchDark = s.belay.latchDark := by
  simp [State.pushFault]

@[simp] theorem State.switchTimeout_latchDark (s : State) (d : Nat) :
    (s.switchTimeout d).belay.latchDark = s.belay.latchDark := by
  simp [State.switchTimeout]

@[simp] theorem State.cancelIdle_latchDark (s : State) (e slot : Nat) (t : Task) :
    (s.cancelIdle e slot t).belay.latchDark = s.belay.latchDark := by
  simp [State.cancelIdle]

theorem State.popIn_latchDark {s : State} {n : Nat} {z : Bytes × State} (h : s.popIn n = some z) :
    z.2.belay.latchDark = s.belay.latchDark := by
  unfold State.popIn at h
  split at h
  · exact State.popAny_latchDark h
  · split at h
    · cases h
    · cases h
      simp

@[simp] theorem State.armCmd_latchDark (s : State) (o : Origin) (v : Nat) :
    (s.armCmd o v).belay.latchDark = s.belay.latchDark := by
  unfold State.armCmd
  split <;> simp

@[simp] theorem State.measure_latchDark (s : State) (z : Int) :
    (s.measure z).belay.latchDark = s.belay.latchDark := by
  simp [State.measure]

@[simp] theorem State.stamp_latchDark (s : State) (p : Nat) (x : Stamp) :
    (s.stamp p x).belay.latchDark = s.belay.latchDark := by
  simp [State.stamp]

@[simp] theorem State.exchange_latchDark (s : State) (port srcClock srcPort rx t1 : Nat) (corr : Int) :
    (s.exchange port srcClock srcPort rx t1 corr).belay.latchDark = s.belay.latchDark := by
  simp only [State.exchange]
  repeat' split
  all_goals simp

@[simp] theorem State.pxItem_latchDark (x : Bytes) (s : State) :
    (State.pxItem x s).belay.latchDark = s.belay.latchDark := by
  simp only [State.pxItem]
  repeat' split
  all_goals simp

@[simp] theorem State.startDomain_latchDark (s : State) (d : Nat) :
    (s.startDomain d).belay.latchDark = s.belay.latchDark := by
  simp [State.startDomain]

@[simp] theorem State.loopStep_latchDark (s : State) (j : Nat) :
    (s.loopStep j).belay.latchDark = s.belay.latchDark := by
  simp [State.loopStep]

@[simp] theorem State.portRise_latchDark (s : State) (p : Nat) :
    (s.portRise p).belay.latchDark = s.belay.latchDark := by
  simp [State.portRise]

@[simp] theorem State.loopAppend_latchDark (s : State) (j : Nat) (b : Bytes) :
    (s.loopAppend j b).belay.latchDark = s.belay.latchDark := by
  simp [State.loopAppend]

@[simp] theorem State.returnTask_latchDark (s : State) (e slot : Nat) (t : Task) :
    (s.returnTask e slot t).belay.latchDark = s.belay.latchDark := by
  simp [State.returnTask]

@[simp] theorem State.windowTick_latchDark (s : State) : s.windowTick.belay.latchDark = s.belay.latchDark := by
  simp [State.windowTick]

@[simp] theorem State.installLoops_latchDark (s : State) (t : Topo) :
    (s.installLoops t).belay.latchDark = s.belay.latchDark := by
  simp [State.installLoops]

@[simp] theorem State.beginRaster_latchDark (s : State) : s.beginRaster.belay.latchDark = s.belay.latchDark := by
  simp [State.beginRaster]

theorem State.takeBuffer_latchDark {s : State} {i : Nat} {z : Nat × State} (h : s.takeBuffer i = some z) :
    z.2.belay.latchDark = s.belay.latchDark := by
  unfold State.takeBuffer at h
  dsimp only at h
  split at h
  · cases h
    simp
  · split at h
    · cases h
    · cases h
      simp

@[simp] theorem State.darkOutputs_latchDark (s : State) : s.darkOutputs.belay.latchDark = s.belay.latchDark := by
  simp [State.darkOutputs]

@[simp] theorem State.rdmTimeout_latchDark (s : State) (n : Nat) :
    (s.rdmTimeout n).belay.latchDark = s.belay.latchDark := by
  simp only [State.rdmTimeout]
  repeat' split
  all_goals simp

@[simp] theorem State.flueStart_latchDark (s : State) : s.flueStart.belay.latchDark = s.belay.latchDark := by
  simp [State.flueStart]

@[simp] theorem State.stampRx_latchDark (s : State) (p : Nat) (ip : Bytes) :
    (s.stampRx p ip).belay.latchDark = s.belay.latchDark := by
  unfold State.stampRx
  repeat' split
  all_goals simp

@[simp] theorem State.edgeIn_latchDark (s : State) (k : Nat) (rising : Bool) :
    (s.edgeIn k rising).belay.latchDark = s.belay.latchDark := by
  simp [State.edgeIn]

@[simp] theorem State.playoutRoom_latchDark (s : State) (i : Nat) :
    (s.playoutRoom i).2.belay.latchDark = s.belay.latchDark := by
  simp [State.playoutRoom]

@[simp] theorem State.syncTry_latchDark (s : State) (w : SyncWait) :
    (s.syncTry w).belay.latchDark = s.belay.latchDark := by
  unfold State.syncTry
  split <;> simp

@[simp] theorem State.rejected_latchDark (s : State) (ix sub : Nat) (src : Nat × Nat) (abort detail effect : Nat) :
    (s.rejected ix sub src abort detail effect).belay.latchDark = s.belay.latchDark := by
  simp [State.rejected]

@[simp] theorem State.driveGate_latchDark (s : State) (l : List (Nat × Nat)) :
    (s.driveGate l).2.belay.latchDark = s.belay.latchDark := by
  simp [State.driveGate]

@[simp] theorem State.refuseAt_latchDark (s : State) (c : LCmd) (abort : Nat) :
    (s.refuseAt c abort).belay.latchDark = s.belay.latchDark := by
  simp [State.refuseAt]

@[simp] theorem State.stampOut_latchDark (s : State) (p : Nat) (o : Output) :
    (s.stampOut p o).belay.latchDark = s.belay.latchDark := by
  unfold State.stampOut
  repeat' split
  all_goals simp

@[simp] theorem State.push_latchDark (s : State) (n : Nat) (x : Bytes) :
    (s.push n x).2.belay.latchDark = s.belay.latchDark := by
  unfold State.push
  repeat' split
  all_goals simp

@[simp] theorem State.refuseStaging_latchDark (s : State) : s.refuseStaging.belay.latchDark = s.belay.latchDark := by
  simp [State.refuseStaging]

@[simp] theorem State.deadlineMiss_latchDark (s : State) (id : Nat) :
    (s.deadlineMiss id).belay.latchDark = s.belay.latchDark := by
  unfold State.deadlineMiss
  split <;> simp

@[simp] theorem State.clamped_latchDark (s : State) (ix sub : Nat) (src : Nat × Nat) (field given applied : Nat) :
    (s.clamped ix sub src field given applied).belay.latchDark = s.belay.latchDark := by
  simp [State.clamped]

@[simp] theorem State.takeStream_latchDark (s : State) (i : Nat) (stepped count : Bool) :
    (s.takeStream i stepped count).belay.latchDark = s.belay.latchDark := by
  simp only [State.takeStream]
  repeat' split
  all_goals simp

@[simp] theorem State.diagPush_latchDark (s : State) (p flags : Nat) (f : Bytes) :
    (s.diagPush p flags f).belay.latchDark = s.belay.latchDark := by
  simp [State.diagPush]

@[simp] theorem State.fadeStart_latchDark (s : State) (v : Bytes) :
    (s.fadeStart v).belay.latchDark = s.belay.latchDark := by
  simp [State.fadeStart]

@[simp] theorem State.stagingStep_latchDark (s : State) : s.stagingStep.belay.latchDark = s.belay.latchDark := by
  unfold State.stagingStep
  split <;> simp

@[simp] theorem State.dramRetry_latchDark (s : State) : s.dramRetry.belay.latchDark = s.belay.latchDark := by
  simp [State.dramRetry]

@[simp] theorem State.draughtResolve_latchDark (s : State) :
    s.draughtResolve.belay.latchDark = s.belay.latchDark := by
  simp [State.draughtResolve]

@[simp] theorem State.refuseShow_latchDark (s : State) : s.refuseShow.belay.latchDark = s.belay.latchDark := by
  simp [State.refuseShow]

theorem State.nextItem_latchDark {s : State} {t : Task} {z : Bytes × State} (h : s.nextItem t = some z) :
    z.2.belay.latchDark = s.belay.latchDark := by
  unfold State.nextItem at h
  split at h
  · cases h
    rfl
  · exact State.popIn_latchDark h

@[simp] theorem State.makeSlot_latchDark (s : State) (t : Task) :
    (s.makeSlot t).belay.latchDark = s.belay.latchDark := by
  simp only [State.makeSlot]
  repeat' split
  all_goals simp

@[simp] theorem State.domainOn_latchDark (s : State) (d : Nat) :
    (s.domainOn d).belay.latchDark = s.belay.latchDark := by
  simp [State.domainOn]

@[simp] theorem State.powerGood_latchDark (s : State) (d : Nat) :
    (s.powerGood d).belay.latchDark = s.belay.latchDark := by
  simp [State.powerGood]

@[simp] theorem State.txNow_latchDark (s : State) (p len : Nat) (o : Output) :
    (s.txNow p len o).belay.latchDark = s.belay.latchDark := by
  simp [State.txNow]

@[simp] theorem State.txLink_latchDark (s : State) (p len : Nat) (o : Output) :
    (s.txLink p len o).belay.latchDark = s.belay.latchDark := by
  simp [State.txLink]

@[simp] theorem State.startHead_latchDark (s : State) (e : Nat) :
    (s.startHead e).belay.latchDark = s.belay.latchDark := by
  simp only [State.startHead]
  repeat' split
  all_goals simp

@[simp] theorem State.takeStreams_latchDark (s : State) (stepped : Bool) :
    (s.takeStreams stepped).belay.latchDark = s.belay.latchDark := by
  simp [State.takeStreams]

@[simp] theorem State.resumeHead_latchDark (s : State) (e : Nat) :
    (s.resumeHead e).belay.latchDark = s.belay.latchDark := by
  unfold State.resumeHead
  split <;> simp

@[simp] theorem State.onFollowUp_latchDark (s : State) (port : Nat) (m : PtpMsg) :
    (s.onFollowUp port m).belay.latchDark = s.belay.latchDark := by
  unfold State.onFollowUp
  repeat' split
  all_goals simp

@[simp] theorem State.cancelPrefetched_latchDark (s : State) (p : Task → Bool) (e : Nat) :
    (s.cancelPrefetched p e).belay.latchDark = s.belay.latchDark := by
  simp [State.cancelPrefetched]

@[simp] theorem State.fixField_latchDark (s : State) (k sub v : Nat) (set : List (Nat × Nat)) :
    (s.fixField k sub v set).2.belay.latchDark = s.belay.latchDark := by
  simp [State.fixField]

@[simp] theorem State.txAny_latchDark (s : State) (p len : Nat) (o : Output) :
    (s.txAny p len o).belay.latchDark = s.belay.latchDark := by
  simp [State.txAny]

@[simp] theorem State.pushAny_latchDark (s : State) (n : Nat) (x : Bytes) :
    (s.pushAny n x).2.belay.latchDark = s.belay.latchDark := by
  unfold State.pushAny
  split
  · exact State.spillPush_latchDark _ _ _
  · rw [← State.push_latchDark s n x]
    split
    case h_1 h => rw [h]
    case h_2 h => rw [h]

@[simp] theorem State.dmxFit_latchDark (s : State) (n : Nat) : (s.dmxFit n).belay.latchDark = s.belay.latchDark := by
  simp only [State.dmxFit]
  repeat' split
  all_goals simp

@[simp] theorem State.clampWrite_latchDark (s : State) (o : Origin) (x : Obj) (ix sub : Nat) (val : Bytes) :
    (s.clampWrite o x ix sub val).2.2.belay.latchDark = s.belay.latchDark := by
  simp [State.clampWrite]

@[simp] theorem State.pulseClamp_latchDark (s : State) (key v : Nat) :
    (s.pulseClamp key v).belay.latchDark = s.belay.latchDark := by
  simp [State.pulseClamp]

@[simp] theorem State.armStep_latchDark (s : State) : s.armStep.belay.latchDark = s.belay.latchDark := by
  unfold State.armStep
  split <;> simp

@[simp] theorem State.cairnRead_latchDark (s : State) (corrupt : Bool) :
    (s.cairnRead corrupt).belay.latchDark = s.belay.latchDark := by
  simp [State.cairnRead]

@[simp] theorem State.refuse_latchDark (s : State) (o : Origin) (ix sub code effect : Nat) :
    (s.refuse o ix sub code effect).2.belay.latchDark = s.belay.latchDark := by
  simp [State.refuse]

@[simp] theorem State.storeDue_latchDark (s : State) : s.storeDue.belay.latchDark = s.belay.latchDark := by
  simp [State.storeDue]

@[simp] theorem State.txResume_latchDark (s : State) (p : Nat) :
    (s.txResume p).belay.latchDark = s.belay.latchDark := by
  simp [State.txResume]

@[simp] theorem State.resolveBlanks_latchDark (s : State) (t : List (Nat × Nat)) :
    (s.resolveBlanks t).2.belay.latchDark = s.belay.latchDark := by
  simp [State.resolveBlanks]

@[simp] theorem State.armDone_latchDark (s : State) : s.armDone.belay.latchDark = s.belay.latchDark := by
  simp [State.armDone]

@[simp] theorem State.pauseWatchdog_latchDark (s : State) (p : Nat) :
    (s.pauseWatchdog p).belay.latchDark = s.belay.latchDark := by
  unfold State.pauseWatchdog
  split <;> simp

@[simp] theorem State.endFrame_latchDark (s : State) (i : Nat) (r : RxVideo) :
    (s.endFrame i r).belay.latchDark = s.belay.latchDark := by
  simp only [State.endFrame]
  repeat' split
  all_goals simp

@[simp] theorem State.fixScaler_latchDark (s : State) (k : Nat) (set : List (Nat × Nat)) :
    (s.fixScaler k set).2.belay.latchDark = s.belay.latchDark := by
  simp [State.fixScaler]

@[simp] theorem State.pulseApply_latchDark (s : State) (k : Nat) :
    (s.pulseApply k).belay.latchDark = s.belay.latchDark := by
  simp [State.pulseApply]

@[simp] theorem State.syncStamped_latchDark (s : State) (port seq : Nat) :
    (s.syncStamped port seq).belay.latchDark = s.belay.latchDark := by
  unfold State.syncStamped
  split <;> simp

@[simp] theorem State.refuseCmd_latchDark (s : State) (o : Origin) (x : Obj) (ix sub code effect : Nat) :
    (s.refuseCmd o x ix sub code effect).2.belay.latchDark = s.belay.latchDark := by
  simp [State.refuseCmd]

@[simp] theorem State.runMedia_latchDark (s : State) (c : LCmd) :
    (s.runMedia c).2.2.belay.latchDark = s.belay.latchDark := by
  simp [State.runMedia]

@[simp] theorem State.sacnBad_latchDark (s : State) (x : Bytes) (kind : Nat) :
    (s.sacnBad x kind).belay.latchDark = s.belay.latchDark := by
  simp [State.sacnBad]

@[simp] theorem State.tx_latchDark (s : State) (p len : Nat) (o : Output) :
    (s.tx p len o).belay.latchDark = s.belay.latchDark := by
  simp [State.tx]

@[simp] theorem State.enterDark_latchDark (s : State) (cause : Nat) :
    (s.enterDark cause).belay.latchDark = s.belay.latchDark := by
  simp [State.enterDark]

@[simp] theorem State.pushUnblocked_latchDark (s : State) (e : Nat) :
    (s.pushUnblocked e).belay.latchDark = s.belay.latchDark := by
  unfold State.pushUnblocked
  repeat' split
  all_goals simp

@[simp] theorem State.writeCoefs_latchDark (s : State) (src : Nat × Nat) (bank : Nat) (b : Bytes) :
    (s.writeCoefs src bank b).belay.latchDark = s.belay.latchDark := by
  simp [State.writeCoefs]

@[simp] theorem State.opTimed_latchDark (s : State) (o : Origin) (r : Role) (ix sub ty : Nat) (val : Bytes) (time : Nat) :
    (s.opTimed o r ix sub ty val time).2.belay.latchDark = s.belay.latchDark := by
  unfold State.opTimed
  repeat' split
  all_goals simp

@[simp] theorem packetWork_latchDark (f : Bytes → State → State) (hf : ∀ x t, (f x t).belay.latchDark = t.belay.latchDark)
    (t : Task) (s : State) : (packetWork f t s).2.belay.latchDark = s.belay.latchDark := by
  unfold packetWork
  split
  case h_1 => simp
  case h_2 h => exact (hf _ _).trans (State.nextItem_latchDark h)

@[simp] theorem State.loadClamps_latchDark (s : State) (l : List LoadClamp) :
    (s.loadClamps l).belay.latchDark = s.belay.latchDark := by
  simp [State.loadClamps]

@[simp] theorem State.taskPush_latchDark (s : State) (t : Task) (x : Bytes) :
    (s.taskPush t x).2.belay.latchDark = s.belay.latchDark := by
  simp [State.taskPush]

@[simp] theorem State.pauseExpire_latchDark (s : State) (p : Nat) :
    (s.pauseExpire p).belay.latchDark = s.belay.latchDark := by
  unfold State.pauseExpire
  split <;> simp

@[simp] theorem State.latchTiming_latchDark (s : State) : s.latchTiming.belay.latchDark = s.belay.latchDark := by
  simp only [State.latchTiming]
  repeat' split
  all_goals simp

@[simp] theorem State.badFrame_latchDark (s : State) (p flags : Nat) (f : Bytes) :
    (s.badFrame p flags f).belay.latchDark = s.belay.latchDark := by
  simp [State.badFrame]

@[simp] theorem State.sendNear_latchDark (s : State) (p hop ty : Nat) (body : Bytes) :
    (s.sendNear p hop ty body).belay.latchDark = s.belay.latchDark := by
  simp [State.sendNear]

@[simp] theorem State.sendRopeWith_latchDark (s : State) (dstk cls dst inner len : Nat) (both : Bool) (mk : Nat → RopeTag → Output) :
    (s.sendRopeWith dstk cls dst inner len both mk).belay.latchDark = s.belay.latchDark := by
  unfold State.sendRopeWith
  repeat' split
  all_goals simp

@[simp] theorem State.release_latchDark (s : State) (n : Nat) (row : Bytes) (entry due : Option Nat) (list dec : Nat) :
    (s.release n row entry due list dec).2.2.belay.latchDark = s.belay.latchDark := by
  simp [State.release]

@[simp] theorem State.fixCrop_latchDark (s : State) (k : Nat) (set : List (Nat × Nat)) :
    (s.fixCrop k set).2.belay.latchDark = s.belay.latchDark := by
  simp only [State.fixCrop]
  repeat' split
  all_goals simp

@[simp] theorem State.preempt_latchDark (s : State) (e : Nat) :
    (s.preempt e).belay.latchDark = s.belay.latchDark := by
  simp only [State.preempt]
  repeat' split
  all_goals simp

@[simp] theorem State.beginFrame_latchDark (s : State) (i ts ext : Nat) :
    (s.beginFrame i ts ext).belay.latchDark = s.belay.latchDark := by
  have ended : (match (s.stream i).rx with
      | some r => s.endFrame i { r with bad := true }
      | none => s).belay.latchDark = s.belay.latchDark := by
    split <;> simp
  unfold State.beginFrame
  dsimp only
  split
  case h_1 => exact ended
  case h_2 h => exact (State.takeBuffer_latchDark h).trans ended

@[simp] theorem State.ptpHeard_latchDark (s : State) (p : Nat) (ip : Bytes) :
    (s.ptpHeard p ip).belay.latchDark = s.belay.latchDark := by
  simp [State.ptpHeard]

@[simp] theorem State.opBegin_latchDark (s : State) (o : Origin) (r : Role) (ix sub dir total start : Nat) (short : Bool) :
    (s.opBegin o r ix sub dir total start short).2.belay.latchDark = s.belay.latchDark := by
  simp [State.opBegin]

@[simp] theorem State.pauseRx_latchDark (s : State) (p quanta : Nat) :
    (s.pauseRx p quanta).belay.latchDark = s.belay.latchDark := by
  simp [State.pauseRx]

@[simp] theorem State.serveCb_latchDark (s : State) (c : Nat) : (s.serveCb c).belay.latchDark = s.belay.latchDark := by
  unfold State.serveCb
  refine foldl_latchDark _ _ _ fun t e => ?_
  split <;> simp

@[simp] theorem State.sacnCheck_latchDark (s : State) (x : Bytes) :
    (s.sacnCheck x).2.belay.latchDark = s.belay.latchDark := by
  simp only [State.sacnCheck]
  repeat' split
  all_goals simp

@[simp] theorem State.triggerDark_latchDark (s : State) (cause : Nat) :
    (s.triggerDark cause).belay.latchDark = s.belay.latchDark := by
  rw [State.triggerDark_belay]

@[simp] theorem State.takeStep_latchDark (s : State) (started : Bool) :
    (s.takeStep started).belay.latchDark = s.belay.latchDark := by
  simp [State.takeStep]

@[simp] theorem State.ropeSet_latchDark (s : State) (port id seg len : Nat) (entries : List SetEntry) :
    (s.ropeSet port id seg len entries).2.belay.latchDark = s.belay.latchDark := by
  simp only [State.ropeSet]
  repeat' split
  all_goals simp

@[simp] theorem State.dramScrubRelease_latchDark (s : State) :
    s.dramScrubRelease.belay.latchDark = s.belay.latchDark := by
  simp [State.dramScrubRelease]

@[simp] theorem State.heartbeatSend_latchDark (s : State) (p : Nat) :
    (s.heartbeatSend p).belay.latchDark = s.belay.latchDark := by
  simp [State.heartbeatSend]

@[simp] theorem State.darkPinLow_latchDark (s : State) : s.darkPinLow.belay.latchDark = s.belay.latchDark := by
  unfold State.darkPinLow
  simp

@[simp] theorem State.xferDone_latchDark (s : State) (t : Transfer) (sigOk : Bool) :
    (s.xferDone t sigOk).2.belay.latchDark = s.belay.latchDark := by
  simp only [State.xferDone]
  repeat' split
  all_goals simp

@[simp] theorem State.forward_latchDark (s : State) (p : Nat) (t : RopeTag) (f : Bytes) (bad : Bool) :
    (s.forward p t f bad).belay.latchDark = s.belay.latchDark := by
  simp [State.forward]

@[simp] theorem State.bridgeIn_latchDark (s : State) (dstk dst ty : Nat) (f pay : Bytes) :
    (s.bridgeIn dstk dst ty f pay).belay.latchDark = s.belay.latchDark := by
  simp [State.bridgeIn]

@[simp] theorem State.sendPtp_latchDark (s : State) (port dest : Nat) (m : PtpMsg) (d : Option AnnData) :
    (s.sendPtp port dest m d).belay.latchDark = s.belay.latchDark := by
  simp [State.sendPtp]

@[simp] theorem State.ropingStep_latchDark (s : State) : s.ropingStep.belay.latchDark = s.belay.latchDark := by
  simp only [State.ropingStep]
  repeat' split
  all_goals simp

@[simp] theorem State.modeStep_latchDark (s : State) : s.modeStep.belay.latchDark = s.belay.latchDark := by
  simp only [State.modeStep]
  repeat' split
  all_goals simp

@[simp] theorem State.deliverIp_latchDark (s : State) (p cls : Nat) (f ip : Bytes) :
    (s.deliverIp p cls f ip).belay.latchDark = s.belay.latchDark := by
  simp only [State.deliverIp]
  repeat' split
  all_goals simp

@[simp] theorem State.sendRope_latchDark (s : State) (dstk cls dst inner : Nat) (payload : Bytes) (both : Bool) :
    (s.sendRope dstk cls dst inner payload both).belay.latchDark = s.belay.latchDark := by
  simp [State.sendRope]

@[simp] theorem State.eventRelease_latchDark (s : State) (n : Nat) :
    (s.eventRelease n).belay.latchDark = s.belay.latchDark := by
  simp [State.eventRelease]

@[simp] theorem State.freeCb_latchDark (s : State) (c : Nat) (broken : Bool) :
    (s.freeCb c broken).belay.latchDark = s.belay.latchDark := by
  simp [State.freeCb]

@[simp] theorem workParse_latchDark (t : Task) (s : State) : (workParse t s).2.belay.latchDark = s.belay.latchDark := by
  unfold workParse
  split
  case h_1 => simp
  case h_2 h =>
    rw [← State.nextItem_latchDark h]
    dsimp only
    split <;> simp

@[simp] theorem State.planRelease_latchDark (s : State) (n : Nat) :
    (s.planRelease n).belay.latchDark = s.belay.latchDark := by
  simp only [State.planRelease]
  repeat' split
  all_goals simp

@[simp] theorem workMove_latchDark (t : Task) (s : State) : (workMove t s).2.belay.latchDark = s.belay.latchDark := by
  unfold workMove
  dsimp only
  split
  · rfl
  · split
    case h_1 => simp
    case h_2 h => exact (State.taskPush_latchDark _ _ _).trans (State.nextItem_latchDark h)

@[simp] theorem State.faultWires_latchDark (s : State) (reaction : Nat) :
    (s.faultWires reaction).belay.latchDark = s.belay.latchDark := by
  unfold State.faultWires
  simp only [belay_ite, latchDark_ite, State.triggerDark_belay, ite_self]

@[simp] theorem State.opEnd_latchDark (s : State) (o : Origin) (h : Nat) (abandon sigOk : Bool) :
    (s.opEnd o h abandon sigOk).2.belay.latchDark = s.belay.latchDark := by
  unfold State.opEnd
  split <;> simp

@[simp] theorem workSignal_latchDark (t : Task) (s : State) :
    (workSignal t s).2.belay.latchDark = s.belay.latchDark := by
  simp [workSignal]

@[simp] theorem State.deliverType_latchDark (s : State) (p cls ty : Nat) (f pay : Bytes) :
    (s.deliverType p cls ty f pay).belay.latchDark = s.belay.latchDark := by
  simp [State.deliverType]

@[simp] theorem State.sendPtpRope_latchDark (s : State) (mk : Nat → PtpMsg) (d : Option AnnData) :
    (s.sendPtpRope mk d).belay.latchDark = s.belay.latchDark := by
  simp [State.sendPtpRope]

@[simp] theorem State.delayReqSend_latchDark (s : State) : s.delayReqSend.belay.latchDark = s.belay.latchDark := by
  unfold State.delayReqSend
  split <;> simp

@[simp] theorem State.loadDone_latchDark (s : State) : s.loadDone.belay.latchDark = s.belay.latchDark := by
  simp only [State.loadDone]
  repeat' split
  all_goals simp

@[simp] theorem State.onDelayReq_latchDark (s : State) (port : Nat) (m : PtpMsg) :
    (s.onDelayReq port m).belay.latchDark = s.belay.latchDark := by
  simp [State.onDelayReq]

@[simp] theorem State.sendOut_latchDark (s : State) (to_ : Nat × Nat) (ty n : Nat) (rope : Nat → RopeTag → Output) (trail : Output) :
    (s.sendOut to_ ty n rope trail).belay.latchDark = s.belay.latchDark := by
  simp [State.sendOut]

@[simp] theorem State.bridgeOut_latchDark (s : State) (t : RopeTag) (f : Bytes) :
    (s.bridgeOut t f).belay.latchDark = s.belay.latchDark := by
  simp [State.bridgeOut]

@[simp] theorem State.sendHost_latchDark (s : State) (da ty : Nat) (pay : Bytes) :
    (s.sendHost da ty pay).belay.latchDark = s.belay.latchDark := by
  simp [State.sendHost]

@[simp] theorem State.wholeWrite_latchDark (s : State) (o : Origin) (r : Role) (k start : Nat) (data : Bytes) (sigOk : Bool) :
    (s.wholeWrite o r k start data sigOk).2.belay.latchDark = s.belay.latchDark := by
  unfold State.wholeWrite
  split
  case h_1 h =>
    rw [outOf_latchDark, State.opEnd_latchDark]
    exact (foldl_latchDark _ _ _ fun t i => State.opData_latchDark t _ _ _ _ _ _).trans
      ((latchDark_of_pair h).trans (State.opBegin_latchDark ..))
  case h_2 => exact State.opBegin_latchDark ..

@[simp] theorem State.resolveSet_latchDark (s : State) (k : Nat) (set : List (Nat × Nat)) :
    (s.resolveSet k set).2.belay.latchDark = s.belay.latchDark := by
  simp [State.resolveSet]

@[simp] theorem State.sendUdp_latchDark (s : State) (addr dport : Nat) (b : Bytes) :
    (s.sendUdp addr dport b).belay.latchDark = s.belay.latchDark := by
  simp [State.sendUdp]

@[simp] theorem workRopeCtrl_latchDark (t : Task) (s : State) : (workRopeCtrl t s).2.belay.latchDark = s.belay.latchDark := by
  unfold workRopeCtrl
  split
  case h_1 => simp
  case h_2 h => simp [← State.nextItem_latchDark h]

@[simp] theorem State.finishRun_latchDark (s : State) (r : RunSt) (closed : Bool) :
    (s.finishRun r closed).2.belay.latchDark = s.belay.latchDark := by
  simp only [State.finishRun]
  repeat' split
  all_goals simp

@[simp] theorem State.sacnSend_latchDark (s : State) (sec : Bytes) (dest : Nat) (b : Bytes) :
    (s.sacnSend sec dest b).belay.latchDark = s.belay.latchDark := by
  simp [State.sacnSend]

@[simp] theorem State.beaconSend_latchDark (s : State) : s.beaconSend.belay.latchDark = s.belay.latchDark := by
  simp [State.beaconSend]

@[simp] theorem State.breakWait_latchDark (s : State) (e : Nat) :
    (s.breakWait e).belay.latchDark = s.belay.latchDark := by
  unfold State.breakWait
  split <;> simp

@[simp] theorem State.ingestVideo_latchDark (x : Bytes) (s : State) :
    (State.ingestVideo x s).belay.latchDark = s.belay.latchDark := by
  simp only [State.ingestVideo]
  repeat' split
  all_goals simp

@[simp] theorem State.onPdelayReq_latchDark (s : State) (port : Nat) (m : PtpMsg) :
    (s.onPdelayReq port m).belay.latchDark = s.belay.latchDark := by
  simp [State.onPdelayReq]

@[simp] theorem State.arpAnnounce_latchDark (s : State) : s.arpAnnounce.belay.latchDark = s.belay.latchDark := by
  simp [State.arpAnnounce]

@[simp] theorem State.deliverRope_latchDark (s : State) (p : Nat) (t : RopeTag) (f : Bytes) :
    (s.deliverRope p t f).belay.latchDark = s.belay.latchDark := by
  unfold State.deliverRope
  repeat' split
  all_goals simp

@[simp] theorem State.sendIgmp_latchDark (s : State) (dst : Nat) (b : Bytes) :
    (s.sendIgmp dst b).belay.latchDark = s.belay.latchDark := by
  simp [State.sendIgmp]

@[simp] theorem State.secondCall_latchDark (s : State) (r : RunSt) :
    (s.secondCall r).2.belay.latchDark = s.belay.latchDark := by
  simp [State.secondCall]

@[simp] theorem State.forceCb_latchDark (s : State) (c : Nat) :
    (s.forceCb c).belay.latchDark = s.belay.latchDark := by
  simp [State.forceCb]

@[simp] theorem State.endRun_latchDark (s : State) (e : Nat) (t : Task) (dec status : Nat) :
    (s.endRun e t dec status).belay.latchDark = s.belay.latchDark := by
  simp [State.endRun]

@[simp] theorem State.ropeBad_latchDark (s : State) (p : Nat) (f : Bytes) :
    (s.ropeBad p f).belay.latchDark = s.belay.latchDark := by
  simp [State.ropeBad]

@[simp] theorem State.dispatch_latchDark (s : State) (e : Nat) :
    (s.dispatch e).belay.latchDark = s.belay.latchDark := by
  simp [State.dispatch]

@[simp] theorem State.trailFrame_latchDark (s : State) (f : Bytes) :
    (s.trailFrame f).belay.latchDark = s.belay.latchDark := by
  simp only [State.trailFrame]
  repeat' split
  all_goals simp

@[simp] theorem State.sendMaster_latchDark (s : State) (port : Nat) (mk : Nat → PtpMsg) (d : Option AnnData) :
    (s.sendMaster port mk d).belay.latchDark = s.belay.latchDark := by
  simp [State.sendMaster]

@[simp] theorem State.sendSeg_latchDark (s : State) (ty : Nat) (body : Bytes) :
    (s.sendSeg ty body).belay.latchDark = s.belay.latchDark := by
  simp [State.sendSeg]

@[simp] theorem State.icmpIn_latchDark (s : State) (src : Nat) (ip : Bytes) :
    (s.icmpIn src ip).belay.latchDark = s.belay.latchDark := by
  simp [State.icmpIn]

@[simp] theorem State.pdelaySend_latchDark (s : State) (port : Nat) :
    (s.pdelaySend port).belay.latchDark = s.belay.latchDark := by
  simp [State.pdelaySend]

@[simp] theorem State.announceSend_latchDark (s : State) (port : Nat) :
    (s.announceSend port).belay.latchDark = s.belay.latchDark := by
  simp [State.announceSend]

@[simp] theorem State.captureWith_latchDark (s : State) (c source detail : Nat) (masked injected : Bool) :
    (s.captureWith c source detail masked injected).belay.latchDark = s.belay.latchDark := by
  simp [State.captureWith]

@[simp] theorem State.provingDone_latchDark (s : State) (p : Nat) :
    (s.provingDone p).belay.latchDark = s.belay.latchDark := by
  simp [State.provingDone]

@[simp] theorem State.arpIn_latchDark (s : State) (a : Bytes) : (s.arpIn a).belay.latchDark = s.belay.latchDark := by
  simp [State.arpIn]

@[simp] theorem State.pxSend_latchDark (s : State) (e : Bytes) (pres : Nat) :
    (s.pxSend e pres).belay.latchDark = s.belay.latchDark := by
  simp [State.pxSend]

@[simp] theorem State.endReaction_latchDark (s : State) (x : FaultSlot) :
    (s.endReaction x).belay.latchDark = s.belay.latchDark := by
  simp [State.endReaction]

@[simp] theorem State.rowWhole_latchDark (s : State) (o : Origin) (k start : Nat) (data : Bytes) (sigOk : Bool) :
    (s.rowWhole o k start data sigOk).belay.latchDark = s.belay.latchDark :=
  State.serveDom_latchDark _ _ _ _ _ fun t r => State.wholeWrite_latchDark t o r _ _ _ _

@[simp] theorem State.hostItem_latchDark (x : Bytes) (s : State) :
    (State.hostItem x s).belay.latchDark = s.belay.latchDark := by
  simp [State.hostItem]

@[simp] theorem State.readTimeout_latchDark (s : State) (e : Nat) :
    (s.readTimeout e).belay.latchDark = s.belay.latchDark := by
  simp only [State.readTimeout]
  repeat' split
  all_goals simp

@[simp] theorem State.latchSet_latchDark (s : State) (k : Nat) (set : List (Nat × Nat)) (commit : Bool) :
    (s.latchSet k set commit).belay.latchDark = s.belay.latchDark := by
  simp [State.latchSet]

@[simp] theorem State.sendCtrl_latchDark (s : State) (addr port : Nat) (m : Bytes) :
    (s.sendCtrl addr port m).belay.latchDark = s.belay.latchDark := by
  simp [State.sendCtrl]

@[simp] theorem State.sacnDiscovery_latchDark (s : State) : s.sacnDiscovery.belay.latchDark = s.belay.latchDark := by
  simp [State.sacnDiscovery]

@[simp] theorem State.forceAll_latchDark (s : State) (own : CbOwner) :
    (s.forceAll own).belay.latchDark = s.belay.latchDark := by
  simp [State.forceAll]

@[simp] theorem State.trailResign_latchDark (s : State) : s.trailResign.belay.latchDark = s.belay.latchDark := by
  simp only [State.trailResign]
  repeat' split
  all_goals simp

@[simp] theorem State.dropScalers_latchDark (s : State) : s.dropScalers.belay.latchDark = s.belay.latchDark := by
  simp [State.dropScalers]

@[simp] theorem State.abortTask_latchDark (s : State) (e slot : Nat) (t : Task) :
    (s.abortTask e slot t).belay.latchDark = s.belay.latchDark := by
  simp [State.abortTask]

@[simp] theorem State.openSession_latchDark (s : State) (h : Handshake) (key cNonce : Bytes) :
    (s.openSession h key cNonce).belay.latchDark = s.belay.latchDark := by
  simp [State.openSession]

@[simp] theorem State.ropingRun_latchDark (s : State) : s.ropingRun.2.belay.latchDark = s.belay.latchDark := by
  unfold State.ropingRun
  repeat' split
  all_goals simp

@[simp] theorem State.sacnStart_latchDark (s : State) : s.sacnStart.belay.latchDark = s.belay.latchDark := by
  simp [State.sacnStart]

@[simp] theorem State.leaseEnd_latchDark (s : State) (c : Nat) :
    (s.leaseEnd c).belay.latchDark = s.belay.latchDark := by
  unfold State.leaseEnd
  split <;> simp

@[simp] theorem State.endSession_latchDark (s : State) (id cause : Nat) :
    (s.endSession id cause).belay.latchDark = s.belay.latchDark := by
  unfold State.endSession
  split <;> simp

@[simp] theorem State.ropeFrame_latchDark (s : State) (p : Nat) (f : Bytes) :
    (s.ropeFrame p f).belay.latchDark = s.belay.latchDark := by
  simp [State.ropeFrame]

@[simp] theorem State.sendRefuse_latchDark (s : State) (addr port hs abort : Nat) :
    (s.sendRefuse addr port hs abort).belay.latchDark = s.belay.latchDark := by
  simp [State.sendRefuse]

@[simp] theorem State.forceRelease_latchDark (s : State) (c : Nat) :
    (s.forceRelease c).2.belay.latchDark = s.belay.latchDark := by
  simp [State.forceRelease]

@[simp] theorem State.faultInject_latchDark (s : State) (c : Nat) :
    (s.faultInject c).belay.latchDark = s.belay.latchDark := by
  simp [State.faultInject]

@[simp] theorem State.bidSend_latchDark (s : State) : s.bidSend.belay.latchDark = s.belay.latchDark := by
  simp [State.bidSend]

@[simp] theorem State.sendReport_latchDark (s : State) (change : Bool) (l : List (Nat × List Nat × Bool)) :
    (s.sendReport change l).belay.latchDark = s.belay.latchDark := by
  simp [State.sendReport]

@[simp] theorem State.sacnPacket_latchDark (s : State) : s.sacnPacket.belay.latchDark = s.belay.latchDark := by
  simp [State.sacnPacket]

@[simp] theorem State.runSystem_latchDark (s : State) (c : LCmd) : (s.runSystem c).2.2.belay.latchDark = s.belay.latchDark := by
  simp only [State.runSystem, snd_ite, belay_ite, latchDark_ite]
  simp

@[simp] theorem State.breakRepeat_latchDark (s : State) (p : Nat) :
    (s.breakRepeat p).belay.latchDark = s.belay.latchDark := by
  simp [State.breakRepeat]

@[simp] theorem State.ropeCall_latchDark (s : State) (port hop id seg : Nat) (recs : List CallRec) :
    (s.ropeCall port hop id seg recs).2.belay.latchDark = s.belay.latchDark := by
  unfold State.ropeCall
  repeat' split
  all_goals simp

@[simp] theorem State.callTimeout_latchDark (s : State) : s.callTimeout.2.belay.latchDark = s.belay.latchDark := by
  unfold State.callTimeout
  split <;> simp

@[simp] theorem State.replyJob_latchDark (s : State) (j : Job) :
    (s.replyJob j).belay.latchDark = s.belay.latchDark := by
  unfold State.replyJob
  split <;> simp

@[simp] theorem State.pxTick_latchDark (s : State) : s.pxTick.belay.latchDark = s.belay.latchDark := by
  simp [State.pxTick]

@[simp] theorem State.igmpQuery_latchDark (s : State) (version : Nat) :
    (s.igmpQuery version).belay.latchDark = s.belay.latchDark := by
  simp [State.igmpQuery]

@[simp] theorem State.cancelEngine_latchDark (s : State) (p : Task → Bool) (e : Nat) :
    (s.cancelEngine p e).belay.latchDark = s.belay.latchDark := by
  simp only [State.cancelEngine]
  repeat' split
  all_goals simp

@[simp] theorem State.joinSend_latchDark (s : State) : s.joinSend.belay.latchDark = s.belay.latchDark := by
  simp [State.joinSend]

@[simp] theorem State.responseIn_latchDark (s : State) (addr port hs : Nat) (cNonce mac : Bytes) :
    (s.responseIn addr port hs cNonce mac).belay.latchDark = s.belay.latchDark := by
  unfold State.responseIn
  repeat' split
  all_goals simp

@[simp] theorem State.check_latchDark (s : State) (p : Nat) (f : Bytes) (align : Bool) :
    (s.check p f align).belay.latchDark = s.belay.latchDark := by
  simp [State.check]

@[simp] theorem State.ropeCallEnd_latchDark (s : State) (port id seg : Nat) (recs : List CallRec) :
    (s.ropeCallEnd port id seg recs).2.belay.latchDark = s.belay.latchDark := by
  unfold State.ropeCallEnd
  repeat' split
  all_goals simp

@[simp] theorem State.syncSend_latchDark (s : State) (port : Nat) :
    (s.syncSend port).belay.latchDark = s.belay.latchDark := by
  simp [State.syncSend]

@[simp] theorem State.capture_latchDark (s : State) (c source detail : Nat) :
    (s.capture c source detail).belay.latchDark = s.belay.latchDark := by
  simp [State.capture]

@[simp] theorem State.ruleAct_latchDark (s : State) (k p : Nat) (f : Bytes) (align : Bool) :
    (s.ruleAct k p f align).belay.latchDark = s.belay.latchDark := by
  unfold State.ruleAct
  split <;> simp

@[simp] theorem State.sigCompare_latchDark (s : State) (e : Nat) :
    (s.sigCompare e).belay.latchDark = s.belay.latchDark := by
  simp [State.sigCompare]

@[simp] theorem State.rasterEgress_latchDark (s : State) : s.rasterEgress.belay.latchDark = s.belay.latchDark := by
  simp [State.rasterEgress]

@[simp] theorem State.lampReport_latchDark (s : State) (r : Verdicts) :
    (s.lampReport r).belay.latchDark = s.belay.latchDark := by
  simp [State.lampReport]

@[simp] theorem State.freezeClose_latchDark (s : State) : s.freezeClose.belay.latchDark = s.belay.latchDark := by
  simp [State.freezeClose]

@[simp] theorem State.flueDone_latchDark (s : State) (ok : Bool) :
    (s.flueDone ok).belay.latchDark = s.belay.latchDark := by
  simp [State.flueDone]

@[simp] theorem State.renewCb_latchDark (s : State) (o : Origin) (c lease : Nat) :
    (s.renewCb o c lease).2.belay.latchDark = s.belay.latchDark := by
  simp [State.renewCb]

@[simp] theorem State.closeRole_latchDark (s : State) (r : Role) (cause : Nat) :
    (s.closeRole r cause).belay.latchDark = s.belay.latchDark := by
  simp [State.closeRole]

@[simp] theorem State.unmask_latchDark (s : State) (c source detail : Nat) :
    (s.unmask c source detail).belay.latchDark = s.belay.latchDark := by
  simp [State.unmask]

@[simp] theorem State.igmpRepeat_latchDark (s : State) : s.igmpRepeat.belay.latchDark = s.belay.latchDark := by
  simp [State.igmpRepeat]

@[simp] theorem State.holdLimit_latchDark (s : State) : s.holdLimit.belay.latchDark = s.belay.latchDark := by
  simp [State.holdLimit]

@[simp] theorem State.ropeBoundary_latchDark (s : State) : s.ropeBoundary.belay.latchDark = s.belay.latchDark := by
  unfold State.ropeBoundary
  split <;> simp

@[simp] theorem State.sendError_latchDark (s : State) (addr port sess seq abort next : Nat) :
    (s.sendError addr port sess seq abort next).belay.latchDark = s.belay.latchDark := by
  simp [State.sendError]

@[simp] theorem State.seqError_latchDark (s : State) (x : Session) (seq : Nat) :
    (s.seqError x seq).belay.latchDark = s.belay.latchDark := by
  simp [State.seqError]

@[simp] theorem State.underAgain_latchDark (s : State) (k : Nat) :
    (s.underAgain k).belay.latchDark = s.belay.latchDark := by
  simp [State.underAgain]

@[simp] theorem State.joinGroups_latchDark (s : State) (l : List (Nat × List Nat)) :
    (s.joinGroups l).belay.latchDark = s.belay.latchDark := by
  simp [State.joinGroups]

@[simp] theorem State.latchLayers_latchDark (s : State) : s.latchLayers.belay.latchDark = s.belay.latchDark := by
  unfold State.latchLayers
  rw [State.dropScalers_latchDark]
  refine foldl_latchDark _ _ _ fun t k => ?_
  generalize pendFold t.clock.cclk (t.layer k).pend (t.layer k).fresh = r
  dsimp only
  split <;> simp only [State.noteChange_latchDark, State.latchSet_latchDark, State.setLayer_latchDark]

@[simp] theorem State.fireboxRef_latchDark (s : State) (dev : Int) :
    (s.fireboxRef dev).belay.latchDark = s.belay.latchDark := by
  simp [State.fireboxRef]

@[simp] theorem State.egressStep_latchDark (s : State) : s.egressStep.belay.latchDark = s.belay.latchDark := by
  simp [State.egressStep]

@[simp] theorem State.installLayer_latchDark (s : State) (b : Bytes) (k : Nat) :
    (s.installLayer b k).belay.latchDark = s.belay.latchDark := by
  simp [State.installLayer]

@[simp] theorem State.helloIn_latchDark (s : State) (addr port role : Nat) :
    (s.helloIn addr port role).belay.latchDark = s.belay.latchDark := by
  simp [State.helloIn]

@[simp] theorem State.faultTask_latchDark (s : State) (e slot : Nat) (t : Task) :
    (s.faultTask e slot t).belay.latchDark = s.belay.latchDark := by
  simp [State.faultTask]

@[simp] theorem State.acquire_latchDark (s : State) (o : Origin) (c lease : Nat) :
    (s.acquire o c lease).2.belay.latchDark = s.belay.latchDark := by
  simp [State.acquire]

@[simp] theorem State.closeAll_latchDark (s : State) (cause : Nat) :
    (s.closeAll cause).belay.latchDark = s.belay.latchDark := by
  simp [State.closeAll]

@[simp] theorem State.reorderExpire_latchDark (s : State) (p : Nat) :
    (s.reorderExpire p).belay.latchDark = s.belay.latchDark := by
  unfold State.reorderExpire
  split <;> simp

@[simp] theorem State.cancelWhere_latchDark (s : State) (p : Task → Bool) :
    (s.cancelWhere p).belay.latchDark = s.belay.latchDark := by
  simp [State.cancelWhere]

@[simp] theorem State.scrubStalled_latchDark (s : State) (dram : Bool) :
    (s.scrubStalled dram).belay.latchDark = s.belay.latchDark := by
  simp [State.scrubStalled]

@[simp] theorem State.seeBreak_latchDark (s : State) (b : BreakRec) :
    (s.seeBreak b).belay.latchDark = s.belay.latchDark := by
  simp [State.seeBreak]

@[simp] theorem State.releaseCb_latchDark (s : State) (o : Origin) (c : Nat) :
    (s.releaseCb o c).2.belay.latchDark = s.belay.latchDark := by
  simp [State.releaseCb]

@[simp] theorem State.linkWalk_latchDark (s : State) (bad : Bool) (queue cell : Nat) :
    (s.linkWalk bad queue cell).belay.latchDark = s.belay.latchDark := by
  simp [State.linkWalk]

@[simp] theorem workTest_latchDark (e : Nat) (pass : Bool) (t : Task) (s : State) :
    (workTest e pass t s).2.belay.latchDark = s.belay.latchDark := by
  simp [workTest]

@[simp] theorem State.taskCancel_latchDark (s : State) (id : Nat) :
    (s.taskCancel id).2.belay.latchDark = s.belay.latchDark := by
  simp [State.taskCancel]

@[simp] theorem State.draughtOv_latchDark (s : State) (mv : Nat) :
    (s.draughtOv mv).belay.latchDark = s.belay.latchDark := by
  simp [State.draughtOv]

@[simp] theorem State.coreWatchdog_latchDark (s : State) (n : Nat) :
    (s.coreWatchdog n).belay.latchDark = s.belay.latchDark := by
  simp [State.coreWatchdog]

@[simp] theorem State.testRelease_latchDark (s : State) (e : Nat) :
    (s.testRelease e).belay.latchDark = s.belay.latchDark := by
  simp [State.testRelease]

@[simp] theorem State.dissEnd_latchDark (s : State) : s.dissEnd.belay.latchDark = s.belay.latchDark := by
  simp [State.dissEnd]

@[simp] theorem State.afterRoping_latchDark (r : Bool × State) :
    (State.afterRoping r).belay.latchDark = r.2.belay.latchDark := by
  simp [State.afterRoping]

@[simp] theorem State.closeIn_latchDark (s : State) (addr port id seq : Nat) :
    (s.closeIn addr port id seq).belay.latchDark = s.belay.latchDark := by
  unfold State.closeIn
  repeat' split
  all_goals simp

@[simp] theorem State.breakNotice_latchDark (s : State) (b : BreakRec) :
    (s.breakNotice b).belay.latchDark = s.belay.latchDark := by
  simp [State.breakNotice]

@[simp] theorem State.draughtUv_latchDark (s : State) (mv : Nat) :
    (s.draughtUv mv).belay.latchDark = s.belay.latchDark := by
  simp [State.draughtUv]

@[simp] theorem State.frameStart_latchDark (s : State) (stuck : Bool) (sink : Nat) :
    (s.frameStart stuck sink).belay.latchDark = s.belay.latchDark := by
  simp [State.frameStart]

@[simp] theorem State.underReport_latchDark (s : State) : s.underReport.belay.latchDark = s.belay.latchDark := by
  simp [State.underReport]

@[simp] theorem State.prefetch_latchDark (s : State) (e : Nat) :
    (s.prefetch e).belay.latchDark = s.belay.latchDark := by
  unfold State.prefetch
  split <;> simp

@[simp] theorem State.installLayers_latchDark (s : State) (t : Topo) :
    (s.installLayers t).belay.latchDark = s.belay.latchDark := by
  unfold State.installLayers
  split <;> simp

@[simp] theorem State.supplyOut_latchDark (s : State) (n mv : Nat) :
    (s.supplyOut n mv).belay.latchDark = s.belay.latchDark := by
  simp [State.supplyOut]

@[simp] theorem State.frameEnd_latchDark (s : State) : s.frameEnd.belay.latchDark = s.belay.latchDark := by
  unfold State.frameEnd
  dsimp only
  split
  · rfl
  · rw [State.lampReport_latchDark, foldlSnd_latchDark _ _ _ fun q x => State.lampEnd_latchDark x q, belay_fbx,
      State.dissEnd_latchDark, State.setReg_belay, belay_fbx, belay_fbx, State.reach_belay]

@[simp] theorem State.overTemp_latchDark (s : State) (die : Nat) (t : Int) :
    (s.overTemp die t).belay.latchDark = s.belay.latchDark := by
  simp [State.overTemp]

@[simp] theorem State.frameOver_latchDark (s : State) : s.frameOver.belay.latchDark = s.belay.latchDark := by
  simp [State.frameOver]

@[simp] theorem State.degrade_latchDark (s : State) (cause : Nat) :
    (s.degrade cause).belay.latchDark = s.belay.latchDark := by
  simp [State.degrade]

@[simp] theorem State.runTask_latchDark (s : State) (e ty : Nat) (work : Task → State → After × State)
    (h : ∀ t u, (work t u).2.belay.latchDark = u.belay.latchDark) :
    (s.runTask e ty work).belay.latchDark = s.belay.latchDark := by
  unfold State.runTask
  split
  · rfl
  · dsimp only
    split
    · rfl
    · split <;> simp [h]

@[simp] theorem State.descCancel_latchDark (s : State) (n : Nat) :
    (s.descCancel n).2.belay.latchDark = s.belay.latchDark := by
  simp [State.descCancel]

@[simp] theorem State.testRound_latchDark (s : State) : s.testRound.belay.latchDark = s.belay.latchDark := by
  simp [State.testRound]

@[simp] theorem State.ntcInvalid_latchDark (s : State) (i : Nat) :
    (s.ntcInvalid i).belay.latchDark = s.belay.latchDark := by
  simp [State.ntcInvalid]

@[simp] theorem State.eccBad_latchDark (s : State) (dram : Bool) (a : Nat) :
    (s.eccBad dram a).belay.latchDark = s.belay.latchDark := by
  simp [State.eccBad]

@[simp] theorem State.openFrame_latchDark (s : State) : s.openFrame.2.belay.latchDark = s.belay.latchDark := by
  simp [State.openFrame]

@[simp] theorem State.runCore_latchDark (s : State) (c : LCmd) : (s.runCore c).2.2.belay.latchDark = s.belay.latchDark := by
  simp only [State.runCore, snd_ite, belay_ite, latchDark_ite]
  simp

@[simp] theorem State.rxFrame_latchDark (s : State) (p : Nat) (f : Bytes) (align : Bool) :
    (s.rxFrame p f align).belay.latchDark = s.belay.latchDark := by
  simp only [State.rxFrame]
  repeat' split
  all_goals simp

@[simp] theorem State.engineOut_latchDark (s : State) (e : Nat) : (s.engineOut e).belay.latchDark = s.belay.latchDark := by
  refine (foldl_latchDark _ _ _ fun t x => ?_).trans ?_
  · simp
  · cases h : (s.engine e).run <;> simp

@[simp] theorem State.onSyncTimeout_latchDark (s : State) : s.onSyncTimeout.belay.latchDark = s.belay.latchDark := by
  unfold State.onSyncTimeout
  split <;> simp

@[simp] theorem State.switchStart_latchDark (s : State) : s.switchStart.belay.latchDark = s.belay.latchDark := by
  unfold State.switchStart
  split <;> simp

@[simp] theorem State.sob_latchDark (s : State) (kat : Bool) : (s.sob kat).belay.latchDark = s.belay.latchDark := by
  simp [State.sob]

@[simp] theorem State.applyKey_latchDark (s : State) (n v : Nat) :
    (s.applyKey n v).belay.latchDark = s.belay.latchDark := by
  simp [State.applyKey]

@[simp] theorem State.applyOne_latchDark (s : State) (k v : Nat) :
    (s.applyOne k v).belay.latchDark = s.belay.latchDark := by
  simp only [State.applyOne]
  repeat' split
  all_goals simp

@[simp] theorem State.restart_latchDark (s : State) (stretched : Bool) :
    (s.restart stretched).belay.latchDark = s.belay.latchDark := by
  simp [State.restart]

@[simp] theorem State.hearthScrub_latchDark (s : State) (n ecc : Nat) :
    (s.hearthScrub n ecc).belay.latchDark = s.belay.latchDark := by
  simp [State.hearthScrub]

@[simp] theorem State.breakLink_latchDark (s : State) (p cause next : Nat) :
    (s.breakLink p cause next).belay.latchDark = s.belay.latchDark := by
  simp [State.breakLink]

@[simp] theorem State.linkPortDown_latchDark (s : State) (p : Nat) :
    (s.linkPortDown p).belay.latchDark = s.belay.latchDark := by
  simp [State.linkPortDown]

@[simp] theorem workReadback_latchDark (e ecc : Nat) (t : Task) (s : State) :
    (workReadback e ecc t s).2.belay.latchDark = s.belay.latchDark := by
  simp [workReadback]

@[simp] theorem State.firstRaster_latchDark (s : State) : s.firstRaster.2.belay.latchDark = s.belay.latchDark := by
  simp [State.firstRaster]

@[simp] theorem State.recover_latchDark (s : State) (r : FaultRec) :
    (s.recover r).belay.latchDark = s.belay.latchDark := by
  unfold State.recover
  split <;> simp

@[simp] theorem workScrub_latchDark (ecc : Nat) (t : Task) (s : State) :
    (workScrub ecc t s).2.belay.latchDark = s.belay.latchDark := by
  simp [workScrub]

@[simp] theorem State.packetStep_latchDark (s : State) (e ty q : Nat) (f : Bytes → State → State)
    (hf : ∀ x t, (f x t).belay.latchDark = t.belay.latchDark) :
    (s.packetStep e ty q f).belay.latchDark = s.belay.latchDark := by
  unfold State.packetStep
  split
  · exact State.runTask_latchDark _ _ _ _ (packetWork_latchDark f hf)
  · split
    · split
      case h_1 => rfl
      case h_2 h => exact (hf _ _).trans (State.pop_latchDark h)
    · rfl

@[simp] theorem State.discardExchange_latchDark (s : State) :
    s.discardExchange.belay.latchDark = s.belay.latchDark := by
  simp [State.discardExchange]

@[simp] theorem State.ntcSample_latchDark (s : State) (i rt : Nat) :
    (s.ntcSample i rt).belay.latchDark = s.belay.latchDark := by
  simp only [State.ntcSample]
  repeat' split
  all_goals simp

@[simp] theorem State.taskRead_latchDark (s : State) (sp : Bool × Nat) (n ecc : Nat) :
    (s.taskRead sp n ecc).2.belay.latchDark = s.belay.latchDark := by
  simp [State.taskRead]

@[simp] theorem State.onSync_latchDark (s : State) (port : Nat) (m : PtpMsg) :
    (s.onSync port m).belay.latchDark = s.belay.latchDark := by
  unfold State.onSync
  repeat' split
  all_goals simp

@[simp] theorem State.onAnnounceTimeout_latchDark (s : State) :
    s.onAnnounceTimeout.belay.latchDark = s.belay.latchDark := by
  simp only [State.onAnnounceTimeout]
  repeat' split
  all_goals simp

@[simp] theorem State.runCmd_latchDark (s : State) (c : LCmd) :
    (s.runCmd c).2.2.belay.latchDark = s.belay.latchDark := by
  simp [State.runCmd]

@[simp] theorem State.composeLine_latchDark (s : State) (k late fault addr : Nat) :
    (s.composeLine k late fault addr).belay.latchDark = s.belay.latchDark := by
  unfold State.composeLine
  split <;> simp

@[simp] theorem State.lineStart_latchDark (s : State) (late fault addr : Nat) :
    (s.lineStart late fault addr).belay.latchDark = s.belay.latchDark := by
  simp [State.lineStart]

@[simp] theorem workSurfStore_latchDark (ecc : Nat) (t : Task) (s : State) :
    (workSurfStore ecc t s).2.belay.latchDark = s.belay.latchDark := by
  simp [workSurfStore]

@[simp] theorem workGather_latchDark (ecc : Nat) (t : Task) (s : State) :
    (workGather ecc t s).2.belay.latchDark = s.belay.latchDark := by
  simp [workGather]

@[simp] theorem State.startRaster_latchDark (s : State) (composes : Bool) :
    (s.startRaster composes).belay.latchDark = s.belay.latchDark := by
  simp [State.startRaster]

@[simp] theorem State.ropeCtrl_latchDark (s : State) (e : Nat) : (s.ropeCtrl e).belay.latchDark = s.belay.latchDark := by
  unfold State.ropeCtrl
  split
  · exact State.runTask_latchDark _ _ _ _ workRopeCtrl_latchDark
  · exact State.packetStep_latchDark _ _ _ _ _ fun x t => by simp

@[simp] theorem State.portFall_latchDark (s : State) (p n : Nat) :
    (s.portFall p n).belay.latchDark = s.belay.latchDark := by
  simp [State.portFall]

@[simp] theorem State.cmdNow_latchDark (s : State) (c : LCmd) :
    (s.cmdNow c).2.belay.latchDark = s.belay.latchDark := by
  simp [State.cmdNow]

@[simp] theorem State.portRetrain_latchDark (s : State) (p : Nat) :
    (s.portRetrain p).belay.latchDark = s.belay.latchDark := by
  simp [State.portRetrain]

@[simp] theorem State.rasterBegin_latchDark (s : State) : s.rasterBegin.2.belay.latchDark = s.belay.latchDark := by
  simp [State.rasterBegin]

@[simp] theorem workCrc_latchDark (ecc : Nat) (t : Task) (s : State) :
    (workCrc ecc t s).2.belay.latchDark = s.belay.latchDark := by
  simp [workCrc]

@[simp] theorem State.heartbeatLoss_latchDark (s : State) (p : Nat) :
    (s.heartbeatLoss p).belay.latchDark = s.belay.latchDark := by
  unfold State.heartbeatLoss
  repeat' split
  all_goals simp

@[simp] theorem State.reactionStep_latchDark (s : State) : s.reactionStep.belay.latchDark = s.belay.latchDark := by
  unfold State.reactionStep
  split <;> simp

@[simp] theorem workUnpack_latchDark (ecc : Nat) (t : Task) (s : State) :
    (workUnpack ecc t s).2.belay.latchDark = s.belay.latchDark := by
  simp only [workUnpack]
  repeat' split
  all_goals simp

@[simp] theorem State.rasterLine_latchDark (s : State) (late fault addr : Nat) :
    (s.rasterLine late fault addr).belay.latchDark = s.belay.latchDark := by
  simp [State.rasterLine]

@[simp] theorem State.sacnParse_latchDark (s : State) (e : Nat) : (s.sacnParse e).belay.latchDark = s.belay.latchDark := by
  unfold State.sacnParse
  split
  · exact State.runTask_latchDark _ _ _ _ workParse_latchDark
  · refine State.packetStep_latchDark _ _ _ _ _ fun x t => ?_
    dsimp only
    split <;> simp

@[simp] theorem workLutLoad_latchDark (ecc : Nat) (t : Task) (s : State) :
    (workLutLoad ecc t s).2.belay.latchDark = s.belay.latchDark := by
  simp [workLutLoad]

@[simp] theorem State.cmdAt_latchDark (s : State) (c : LCmd) : (s.cmdAt c).belay.latchDark = s.belay.latchDark := by
  simp [State.cmdAt]

@[simp] theorem State.calPort_latchDark (s : State) (p : Nat) :
    (s.calPort p).belay.latchDark = s.belay.latchDark := by
  simp [State.calPort]

@[simp] theorem State.reactionSteps_latchDark (n : Nat) (s : State) :
    (State.reactionSteps n s).belay.latchDark = s.belay.latchDark := by
  induction n generalizing s with
  | zero => rfl
  | succ n ih => exact (ih _).trans (State.reactionStep_latchDark s)

@[simp] theorem State.portDrop_latchDark (s : State) (p : Nat) :
    (s.portDrop p).belay.latchDark = s.belay.latchDark := by
  simp [State.portDrop]

@[simp] theorem workCsum_latchDark (ecc : Nat) (t : Task) (s : State) :
    (workCsum ecc t s).2.belay.latchDark = s.belay.latchDark := by
  simp only [workCsum]
  repeat' split
  all_goals simp

@[simp] theorem State.portHold_latchDark (s : State) (p : Nat) :
    (s.portHold p).belay.latchDark = s.belay.latchDark := by
  simp [State.portHold]

@[simp] theorem workCopy_latchDark (ecc : Nat) (t : Task) (s : State) :
    (workCopy ecc t s).2.belay.latchDark = s.belay.latchDark := by
  simp [workCopy]

@[simp] theorem State.mdioPoll_latchDark (s : State) (up : Bool) (speed : Nat) :
    (s.mdioPoll up speed).belay.latchDark = s.belay.latchDark := by
  simp [State.mdioPoll]

@[simp] theorem State.runLive_latchDark (s : State) : s.runLive.belay.latchDark = s.belay.latchDark := by
  simp [State.runLive]

@[simp] theorem State.rasterStep_latchDark (s : State) : s.rasterStep.belay.latchDark = s.belay.latchDark := by
  simp [State.rasterStep]

@[simp] theorem State.calPortStep_latchDark (s : State) : s.calPortStep.belay.latchDark = s.belay.latchDark := by
  simp only [State.calPortStep]
  repeat' split
  all_goals simp

@[simp] theorem State.calStep_latchDark (s : State) : s.calStep.belay.latchDark = s.belay.latchDark := by
  unfold State.calStep
  split <;> simp

@[simp] theorem State.headEnChange_latchDark (s : State) (level : Bool) :
    (s.headEnChange level).belay.latchDark = s.belay.latchDark := by
  simp [State.headEnChange]

@[simp] theorem State.calFinish_latchDark (s : State) (v : Nat) :
    (s.calFinish v).belay.latchDark = s.belay.latchDark := by
  simp [State.calFinish]

@[simp] theorem State.calStart_latchDark (s : State) : s.calStart.belay.latchDark = s.belay.latchDark := by
  simp [State.calStart]

@[simp] theorem State.portApplied_latchDark (s : State) (l : List (Nat × Nat)) (p : Nat) :
    (s.portApplied l p).belay.latchDark = s.belay.latchDark := by
  simp only [State.portApplied]
  repeat' split
  all_goals simp

@[simp] theorem State.calDone_latchDark (s : State) (m : CalMeas) :
    (s.calDone m).belay.latchDark = s.belay.latchDark := by
  unfold State.calDone
  split <;> simp

@[simp] theorem State.afterSet_latchDark (s : State) (l : List (Nat × Nat)) :
    (s.afterSet l).belay.latchDark = s.belay.latchDark := by
  simp [State.afterSet]

@[simp] theorem State.applySet_latchDark (s : State) (l : List (Nat × Nat)) :
    (s.applySet l).belay.latchDark = s.belay.latchDark := by
  simp [State.applySet]

@[simp] theorem State.applyCommit_latchDark (s : State) : s.applyCommit.belay.latchDark = s.belay.latchDark := by
  simp [State.applyCommit]

@[simp] theorem State.timedCommit_latchDark (s : State) : s.timedCommit.belay.latchDark = s.belay.latchDark := by
  simp [State.timedCommit]

@[simp] theorem State.flushSet_latchDark (r : List (Nat × Nat) × State) :
    (State.flushSet r).belay.latchDark = r.2.belay.latchDark := by
  simp [State.flushSet]

@[simp] theorem State.putWrite_latchDark (s : State) (o : Origin) (x : Obj) (ix sub : Nat) (val : Bytes) :
    (s.putWrite o x ix sub val).2.belay.latchDark = s.belay.latchDark := by
  unfold State.putWrite
  repeat' split
  all_goals simp

@[simp] theorem State.timedOne_latchDark (r : List (Nat × Nat) × State) (t : TimedW) :
    (State.timedOne r t).2.belay.latchDark = r.2.belay.latchDark := by
  unfold State.timedOne
  repeat' split
  all_goals simp

@[simp] theorem State.applyLive_latchDark (s : State) : s.applyLive.belay.latchDark = s.belay.latchDark := by
  simp [State.applyLive]

@[simp] theorem State.boundaryBegin_latchDark (s : State) : s.boundaryBegin.belay.latchDark = s.belay.latchDark := by
  simp [State.boundaryBegin]

@[simp] theorem State.timedDue_latchDark (s : State) : s.timedDue.2.belay.latchDark = s.belay.latchDark := by
  simp [State.timedDue]

@[simp] theorem State.initOne_latchDark (r : List (Nat × Nat) × State) (p : Nat × Bytes) :
    (State.initOne r p).2.belay.latchDark = r.2.belay.latchDark := by
  simp [State.initOne]

@[simp] theorem State.opWrite_latchDark (s : State) (o : Origin) (r : Role) (ix sub ty : Nat) (val : Bytes) :
    (s.opWrite o r ix sub ty val).2.belay.latchDark = s.belay.latchDark := by
  unfold State.opWrite
  split <;> simp

@[simp] theorem State.applyInit_latchDark (s : State) (l : List (Nat × Bytes)) :
    (s.applyInit l).belay.latchDark = s.belay.latchDark := by
  simp [State.applyInit]

@[simp] theorem State.rowWrite_latchDark (s : State) (o : Origin) (ix sub : Nat) (val : Bytes) :
    (s.rowWrite o ix sub val).belay.latchDark = s.belay.latchDark :=
  State.serve_latchDark _ _ _ _ _ fun t r => (outOf_latchDark _).trans (State.opWrite_latchDark ..)

@[simp] theorem State.installInit_latchDark (s : State) (t : Topo) :
    (s.installInit t).belay.latchDark = s.belay.latchDark := by
  simp [State.installInit]

@[simp] theorem State.rowNum_latchDark (s : State) (o : Origin) (k n v : Nat) :
    (s.rowNum o k n v).belay.latchDark = s.belay.latchDark := by
  simp [State.rowNum]

@[simp] theorem State.initStep_latchDark (s : State) : s.initStep.belay.latchDark = s.belay.latchDark := by
  simp [State.initStep]

@[simp] theorem State.execItem_latchDark (s : State) (o : Origin) (r : Role) (sigOk : Bool) (room : Nat) (i : OpItem) :
    (s.execItem o r sigOk room i).2.belay.latchDark = s.belay.latchDark := by
  unfold State.execItem
  split <;> simp

@[simp] theorem State.execServed_latchDark (s : State) (o : Origin) (r : Role) (sigOk : Bool) (room : Nat) (i : OpItem) :
    (s.execServed o r sigOk room i).2.belay.latchDark = s.belay.latchDark := by
  simp [State.execServed]

@[simp] theorem State.runJob_latchDark (fuel : Nat) (s : State) (j : Job) :
    (s.runJob fuel j).belay.latchDark = s.belay.latchDark := by
  induction fuel generalizing s j with
  | zero => exact State.replyJob_latchDark _ _
  | succ n ih =>
    unfold State.runJob
    split
    · exact State.replyJob_latchDark _ _
    · split
      · exact ih _ _
      · dsimp only
        split
        · exact State.replyJob_latchDark _ _
        · split
          case h_1 h => exact (ih _ _).trans ((latchDark_of_pair h).trans (State.execServed_latchDark ..))
          case h_2 h => exact (latchDark_of_pair h).trans (State.execServed_latchDark ..)

@[simp] theorem State.startJob_latchDark (s : State) (j : Job) :
    (s.startJob j).belay.latchDark = s.belay.latchDark := by
  simp [State.startJob]

@[simp] theorem State.install_latchDark (s : State) (t : Topo) (switch : Bool) :
    (s.install t switch).belay.latchDark = s.belay.latchDark := by
  simp [State.install]

@[simp] theorem State.switchTables_latchDark (s : State) : s.switchTables.belay.latchDark = s.belay.latchDark := by
  unfold State.switchTables
  split <;> simp

@[simp] theorem State.sendIn_latchDark (s : State) (keyEn sigOk : Bool) (b : Bytes) :
    (s.sendIn keyEn sigOk b).belay.latchDark = s.belay.latchDark := by
  simp only [State.sendIn]
  repeat' split
  all_goals simp

@[simp] theorem State.requestIn_latchDark (s : State) (addr port id seq : Nat) (body : Bytes) (sigOk : Bool) :
    (s.requestIn addr port id seq body sigOk).belay.latchDark = s.belay.latchDark := by
  unfold State.requestIn
  repeat' split
  all_goals simp

@[simp] theorem State.topoActivate_latchDark (s : State) : s.topoActivate.belay.latchDark = s.belay.latchDark := by
  unfold State.topoActivate
  split <;> simp

@[simp] theorem State.resumeJobs_latchDark (s : State) : s.resumeJobs.belay.latchDark = s.belay.latchDark := by
  refine foldl_latchDark _ _ _ fun t _ => ?_
  dsimp only
  split <;> simp

@[simp] theorem State.datagram_latchDark (s : State) (addr port : Nat) (b : Bytes) (sigOk : Bool) :
    (s.datagram addr port b sigOk).belay.latchDark = s.belay.latchDark := by
  unfold State.datagram
  repeat' split
  all_goals simp

@[simp] theorem State.boundaryEnd_latchDark (s : State) (vled : Nat) (commit : Bool) :
    (s.boundaryEnd vled commit).belay.latchDark = s.belay.latchDark := by
  simp [State.boundaryEnd]

@[simp] theorem State.timedRest_latchDark (s : State) : s.timedRest.belay.latchDark = s.belay.latchDark := by
  unfold State.timedRest
  split <;> simp

@[simp] theorem State.ctrlItem_latchDark (sigOk : Bool) (x : Bytes) (s : State) :
    (State.ctrlItem sigOk x s).belay.latchDark = s.belay.latchDark := by
  simp [State.ctrlItem]

@[simp] theorem State.tickStep_latchDark (s : State) (m : Sensors) :
    (s.tickStep m).belay.latchDark = s.belay.latchDark := by
  simp [State.tickStep]

end Sys2Proof.Machine


/-! PROOFS. The DARK latch over every command: only a clock failure and a fault of the belay monitor itself set it, and
nothing lets go of it but RESET_N low (R434). -/

namespace Sys2Proof.Machine

/-- The command goes on, and what it leaves has the latch set only if it was set before. -/
def SetsNoLatch (s : State) (r : Host.Outcome State Fault Refusal) : Prop :=
  ∀ t, r = .next t → t.belay.latchDark = true → s.belay.latchDark = true

section
variable {s t : State} {r : Host.Outcome State Fault Refusal}

theorem SetsNoLatch.done (h : t.belay.latchDark = true → s.belay.latchDark = true) : SetsNoLatch s (s.done t) := by
  intro u next set
  cases next
  exact h set

/-- A command that leaves the latch as it is. -/
theorem SetsNoLatch.same (h : t.belay.latchDark = s.belay.latchDark) : SetsNoLatch s (s.done t) :=
  .done h.symm.trans

end

section
variable (s : State) (n : Nat)

theorem execHandshakeExpire_setsNoLatch : SetsNoLatch s (execHandshakeExpire n s) := by
  unfold execHandshakeExpire
  split <;> exact .same (by simp)

theorem execLockoutEnd_setsNoLatch : SetsNoLatch s (execLockoutEnd n s) := by
  unfold execLockoutEnd
  split <;> exact .same (by simp)

theorem execSessionTimeout_setsNoLatch : SetsNoLatch s (execSessionTimeout n s) := by
  unfold execSessionTimeout
  split <;> exact .same (by simp)

theorem execDomainTransferTimeout_setsNoLatch : SetsNoLatch s (execDomainTransferTimeout n s) := by
  unfold execDomainTransferTimeout
  split <;> exact .same (by simp)

end

/-- Every command but the two of R434: RESET_N low may let go of the latch, and every other one leaves it as it is. -/
theorem exec_setsNoLatch (c : Instr) (s : State) (clock : ∀ n, c ≠ .clockFail n) (belay : ∀ n, c ≠ .belayInternal n) :
    SetsNoLatch s (exec c s) := by
  cases c with
  | clockFail n => exact absurd rfl (clock n)
  | belayInternal n => exact absurd rfl (belay n)
  | resetNLow => exact .done (State.resetLow_latchDark s)
  | handshakeExpire n => exact execHandshakeExpire_setsNoLatch s n
  | lockoutEnd n => exact execLockoutEnd_setsNoLatch s n
  | sessionTimeout n => exact execSessionTimeout_setsNoLatch s n
  | domainTransferTimeout n => exact execDomainTransferTimeout_setsNoLatch s n
  | _ => exact .same (by simp)

/-- Settles O7: the two commands set the latch (`setDarkLatch_spec`), and no other command does (`exec_setsNoLatch`). -/
theorem darkLatchSetters : Obligations.DarkLatchSetters := by
  unfold Obligations.DarkLatchSetters
  refine ⟨fun n s alive c member => ?_, fun c s t next set => ?_⟩
  · have latched (k : Nat) : ∃ t, s.done (if s.alive then s.setDarkLatch k else s) = .next t ∧ t.belay.latchDark = true ∧
        t.belay.darkOut = true ∧ t.mode.mode = .dark := by
      obtain ⟨latch, out, dark, -⟩ := setDarkLatch_spec alive k
      exact ⟨_, congrArg s.done (if_pos alive), latch, out, dark⟩
    rcases List.mem_pair.mp member with rfl | rfl
    · exact latched 4
    · exact latched 3
  · by_contra! none
    obtain ⟨clear, others⟩ := none
    exact clear (exec_setsNoLatch c s (fun n => (others n).1) (fun n => (others n).2) t next set)

end Sys2Proof.Machine
